-- ==== Sys2Proof/Word.lean ====
section
/-! DEFINITION. The word types of the hardware and their plainest arithmetic:
32-bit registers (R92, R556), bytes, the exact-integer readings of a word that
the pseudocode of R13 uses, and small helpers on vectors of like parts. -/

namespace Sys2Proof

/-- A 32-bit register or memory word. -/
abbrev Word := BitVec 32

/-- One byte of memory. -/
abbrev Byte := BitVec 8

/-- A 64-bit value: a serial number, a time of the station, a check. -/
abbrev DWord := BitVec 64

/-- The word whose value is `n` modulo 2^32 (R13). -/
def Word.ofNat (n : Nat) : Word := BitVec.ofNat 32 n

/-- The word whose value is `n` modulo 2^32 (R13). -/
def Word.ofInt (n : Int) : Word := BitVec.ofInt 32 n

/-- Replaces one part of a group of like parts. -/
def vset {α : Type} {n : Nat} (v : Vector α n) (i : Fin n) (x : α) : Vector α n :=
  v.set i.1 x i.2

/-- Reads one part of a group of like parts. -/
def vget {α : Type} {n : Nat} (v : Vector α n) (i : Fin n) : α := v[i.1]

/-- Changes one part of a group of like parts. -/
def vmap {α : Type} {n : Nat} (v : Vector α n) (i : Fin n) (f : α → α) : Vector α n :=
  vset v i (f (vget v i))

/-- Bit `i` of a natural number read as a bit pattern. -/
def nbit (n i : Nat) : Bool := n.testBit i

/-- 1 for true, 0 for false. -/
def b2n (b : Bool) : Nat := if b then 1 else 0

/-- Counts up and stops at `max` (the saturating counts of the field tables). -/
def satAdd (max n k : Nat) : Nat := if n + k ≤ max then n + k else max

/-- Looks a key up in a list of pairs. -/
def lookupNat {α : Type} (k : Nat) : List (Nat × α) → Option α
  | [] => none
  | (j, x) :: r => if j = k then some x else lookupNat k r

/-- Puts a value under a key of a list held in rising order of its keys. -/
def insertNat {α : Type} (k : Nat) (x : α) : List (Nat × α) → List (Nat × α)
  | [] => [(k, x)]
  | (j, y) :: r =>
    if k < j then (k, x) :: (j, y) :: r
    else if k = j then (k, x) :: r
    else (j, y) :: insertNat k x r

/-- Takes a key out of a list of pairs. -/
def eraseNat {α : Type} (k : Nat) : List (Nat × α) → List (Nat × α)
  | [] => []
  | (j, y) :: r => if j = k then r else (j, y) :: eraseNat k r

/-- The keys of a list of pairs rise strictly. -/
def sortedNat {α : Type} : List (Nat × α) → Bool
  | [] => true
  | [_] => true
  | (j, _) :: (k, y) :: r => decide (j < k) && sortedNat ((k, y) :: r)

end Sys2Proof
end

