-- ==== Sys2Proof/Types.lean ====
section
/-! DEFINITION. The names the spec gives to the parts of the module and to what
arrives at it from outside: triads and machines, blocks, ports, clocks, the fuses,
the straps, the image that boot verifies. These are the operand types of the
commands and the element types of the state. -/

namespace Sys2Proof

/-- The two redundant core groups (01_station_role.md, identifiers). -/
inductive Triad where
  | a | b
deriving DecidableEq, Repr

/-- The architectural machines. An unsplit triad is machine x0 only; a split
triad is x0 and x1 (R92, R194). -/
inductive Mach where
  | a0 | a1 | b0 | b1
deriving DecidableEq, Repr

/-- The two Orvia ports (01_station_role.md). -/
inductive Port where
  | east | west
deriving DecidableEq, Repr

/-- The number of a triad: 0 for A, 1 for B. -/
def Triad.idx : Triad → Fin 2
  | .a => 0
  | .b => 1

def Mach.idx : Mach → Fin 4
  | .a0 => 0
  | .a1 => 1
  | .b0 => 2
  | .b1 => 3

def Mach.triad : Mach → Triad
  | .a0 => .a
  | .a1 => .a
  | .b0 => .b
  | .b1 => .b

/-- The core number that a machine reads in `CORE_ID.CORE` (R96). -/
def Mach.core : Mach → Nat
  | .a0 => 0
  | .a1 => 1
  | .b0 => 0
  | .b1 => 1

def Triad.mach : Triad → Nat → Mach
  | .a, 0 => .a0
  | .a, _ => .a1
  | .b, 0 => .b0
  | .b, _ => .b1

def Triad.other : Triad → Triad
  | .a => .b
  | .b => .a

def Port.idx : Port → Nat
  | .east => 0
  | .west => 1

def Port.other : Port → Port
  | .east => .west
  | .west => .east

def Mach.all : List Mach := [.a0, .a1, .b0, .b1]

/-- The three power intakes of R43. -/
inductive Intake where
  | east | west | aux24
deriving DecidableEq, Repr

/-- The blocks that carry a generation (R79, R91, R553). -/
inductive Blk where
  | sys | sigbox | tally | shunt | crcu | spx | orvia | ttbl | mani | sess | pool
  | triad (t : Triad)
  | patrol | calst
  | ch (n : Fin 16)
  | rfx (n : Fin 16)
deriving DecidableEq, Repr

/-- The index k of `GEN[k]` that belongs to a block (R91). -/
def Blk.gen : Blk → Nat
  | .sys => 0
  | .sigbox => 1
  | .tally => 2
  | .shunt => 3
  | .crcu => 4
  | .spx => 5
  | .orvia => 6
  | .ttbl => 7
  | .mani => 8
  | .sess => 9
  | .pool => 10
  | .triad .a => 11
  | .triad .b => 12
  | .patrol => 13
  | .calst => 14
  | .ch n => 16 + n.val
  | .rfx n => 32 + n.val

/-- The clocks that a monitor watches (R61). -/
inductive MonClock where
  | xin | cclk | sysclk | rclk | tallyOsc | aonOsc
  | recovered (p : Port)
  | chOsc (n : Fin 16)
deriving DecidableEq, Repr

/-- The levels of the strap pads at one sample (R69, R70, R71). -/
structure Straps where
  boot   : BitVec 2 := 0
  splitA : Bool := false
  splitB : Bool := false
deriving DecidableEq, Repr

/-- Offset and gain of a converter path at 25 °C, and their first- and second-order temperature coefficients (R290). -/
structure PathTrim where
  ofs   : Int := 0
  gain  : Int := 0
  ofsT1 : Int := 0
  ofsT2 : Int := 0
  gainT1 : Int := 0
  gainT2 : Int := 0
deriving DecidableEq, Repr

/-- A channel's factory trim record in OTP (R290): the paths ±11 V, current shunt, ±100 mV and resistance; the reference
value; the cold-junction sensor; the fast comparator on the voltage and current paths; whether the record passes its
check. -/
structure TrimRec where
  volt   : PathTrim := {}
  shunt  : PathTrim := {}
  milli  : PathTrim := {}
  ohm    : PathTrim := {}
  rNom   : Int := 0
  rNomT  : Int := 0
  cjOfs  : Int := 0
  cjSlope : Int := 0
  fastV  : Int × Int := (0, 0)
  fastI  : Int × Int := (0, 0)
  good   : Bool := true
deriving DecidableEq, Repr

/-- What the one-time-programmable fuses hold (R65, R71, R290, R493, R502, R508, R550, R551).
`ident` gives the words of the lots and the dies among the identity registers, by offset from the first of them. -/
structure Fuses where
  serial    : DWord := 0
  safeOnly  : Bool := false
  sbLock    : Bool := false
  tallyLock : Bool := false
  dbgLock   : Bool := false
  winFrac   : BitVec 2 := 0
  ident     : List (Nat × Word) := []
  trim      : Vector TrimRec 16 := Vector.replicate 16 {}
deriving DecidableEq, Repr

/-- One entry of the image's task table (R128). `triad` and `slot` are the raw values of the table. -/
structure Task where
  id       : Nat
  triad    : Nat
  slot     : Nat
  safe     : Bool
  channels : BitVec 16
  tallies  : BitVec 16
deriving DecidableEq, Repr

/-- One region of the image map that the track walker can reload (R462). -/
structure HealMap where
  pages : BitVec 12 := 0
  base  : BitVec 12 := 0
  src   : Word := 0
deriving DecidableEq, Repr

/-- A Noquerid image as boot reads it: the header's fields, the map and the task table (R72, R128,
R462). `signatureOk` is the outcome of the Ed25519 check and `layoutOk` that of the layout of the
image and of its map, which the spec names and does not lay out. -/
structure BootImage where
  present     : Bool := true
  format      : Nat := 2
  signatureOk : Bool := true
  layoutOk    : Bool := true
  /-- bytes of the image, as its header states them (R73) -/
  size        : Nat := 0
  entryA      : Word := 0
  entryB      : Word := 0
  restartA    : Word := 0
  restartB    : Word := 0
  vbase       : Word := 0
  tasks       : List Task := []
  heal        : List HealMap := []
deriving DecidableEq, Repr

/-- An error of a stored word that its check code sees (R456, R457, R458). -/
inductive EccErr where
  | single | multi
deriving DecidableEq, Repr

/-- An error that a stored word takes: the number of a 64-bit word of SRAM, or of one of flash. -/
inductive Upset where
  | none
  | sram (word : Nat) (e : EccErr)
  | flash (word : Nat) (e : EccErr)
deriving DecidableEq, Repr

/-- What a 64-bit SRAM word is marked as (R68, R112). A word with no mark is unwritten. -/
inductive Mark where
  | written | poisoned
deriving DecidableEq, Repr

/-- A requester of the local fabric (R564): a machine, the debug transport, a request of session `sid` with its
class and its requesting node, a shunter. -/
inductive Agent where
  | core (m : Mach)
  | debug
  | session (sid cls node : Nat)
  | shunter (n : Fin 16)
deriving DecidableEq, Repr

/-- A reading of a conversion slot as the die has it after trim: the raw result in the unit of R272, the same
reading in the unit of the PRIMARY reading, and the trimmed reference value in that unit (R284, R290). -/
structure Reading where
  raw  : Int
  path : Int
  nom  : Int := 0
deriving DecidableEq, Repr

/-- What reaches an end of an isolator link: the 40 bits of a frame, 32 data bits and their CRC-8, or an urgent symbol that
is none (R245, R246). -/
inductive IsoSymbol where
  | frame (bits : BitVec 40)
  | badUrgent
deriving DecidableEq, Repr

/-- A supply at the terminals of a channel: loop power, sensor supply or excitation (R305). -/
inductive Feed where
  | off | starting | on | discharging
deriving DecidableEq, Repr

/-- What a terminal of a channel is (R247). -/
inductive TermUse where
  | highZ | input | sink | output | switched | readSense | supply | loopSupply | joined | excitation | return_
deriving DecidableEq, Repr

/-- What a die reports every 1 ms (R271, R317): its temperature in °C, the terminal supply in units of 50 mV,
and whether its rail is in tolerance. -/
structure DieReport where
  temp   : Int
  pv     : Fin 1024
  railOk : Bool := true
deriving DecidableEq, Repr

/-- What a departure meets at the channel dies: those that do not receive the strobe (R246), and those whose
data-path copy or die copy of the state word is found to differ (R266). -/
structure DepEnv where
  strobeMiss : BitVec 16 := 0
  skewDp     : BitVec 16 := 0
  skewDie    : BitVec 16 := 0
deriving DecidableEq, Repr

/-- What a host sends in a slave frame of the SPX port (R529 to R533): the bits in all, the header, the values of
the registers that a write carries, and the words of a read for which TURN was too short. -/
structure SlaveFrame where
  bits : Nat := 0
  read : Bool := true
  addr : Fin 128 := 0
  data : List Word := []
  late : List Nat := []
deriving DecidableEq, Repr

/-- A low pulse on `nRST`, or a level that stays low (R74, R76). -/
inductive NrstLow where
  | pulse (ns : Nat)
  | held
deriving DecidableEq, Repr

/-- The causes of a chip reset (R77). -/
inductive ChipCause where
  | nrst | sigbox | tally | debug
deriving DecidableEq, Repr

/-- The registers whose read latches an upper half (R556, R559). -/
inductive LoReg where
  | ttTime | ttEpoch | trEvtA | trEvtB | sbFirst
deriving DecidableEq, Repr

/-- Its address (R197, R241, R499). -/
def LoReg.addr : LoReg → Nat
  | .ttTime => 0x4007_0008
  | .ttEpoch => 0x4007_0010
  | .trEvtA => 0x400B_0014
  | .trEvtB => 0x400B_0114
  | .sbFirst => 0x4001_0018

end Sys2Proof
end

