-- ==== Sys2Proof/Wire.lean ====
section
/-! DEFINITION. What Orvia links carry (12_orvia_link.md, R199, R214, R339, R377, R386, R404): frames
with their content by type, bursts as a receiver finds them, whistles, and what a peer offers in
training. -/

namespace Sys2Proof

/-- A time frame (R199). `rev` is the station revision (0 for 1.0, 1 for 1.1, 2 for 2.0). -/
structure TimeMsg where
  time    : Nat
  master  : Nat
  period  : Nat
  pend    : Option (Nat × Nat)
  close   : Nat
  rev     : Nat
  fmt     : Nat
  anchorE : Nat
  anchorT : Nat
deriving DecidableEq, Repr

/-- PRESENCE (R386). An unnumbered node gives node 0x3FF. The states of the ports are those of `OV_PSTAT.STATE`; delays are
in units of 0.1 ns. `path` is no part of the frame: it is what the receiver finds, the port on the path with fewer hops to
the sender, EAST where both are equal (R388). -/
structure PresMsg where
  node      : Nat
  serial    : DWord
  rev       : Nat
  eastSt    : Nat
  westSt    : Nat
  eastDelay : Nat
  westDelay : Nat
  volume    : Nat
  path      : Port := .east
deriving DecidableEq, Repr

/-- A manifest entry (R214). -/
structure EntryMsg where
  addrFlags : DWord
  epoch     : Word
  check     : Word
  payload   : List Word
deriving DecidableEq, Repr

/-- A session request (R404). -/
structure SessReqMsg where
  sid     : Nat
  op      : Nat
  expGen  : Nat
  reqGen  : Nat
  reqBlk  : Nat
  len     : Nat
  issueT  : Nat
  counter : Nat
  tag     : DWord
  data    : List Byte
deriving DecidableEq, Repr

/-- A session reply (R404). -/
structure SessRepMsg where
  sid     : Nat
  reply   : Nat
  tgen    : Nat
  reqGen  : Nat
  reqBlk  : Nat
  len     : Nat
  qdepth  : Nat
  counter : Nat
  tag     : DWord
  data    : List Byte
deriving DecidableEq, Repr

/-- A PEEK request: the channel, and the request of the machine that waits (R168). -/
structure PeekReqMsg where
  chan : Nat
  req  : Nat
deriving DecidableEq, Repr

/-- A PEEK reply: the state code, the value and the depth of the proposal, whether the producer has
recorded the dependency, and the epoch that the proposal is for (R168, R230). -/
structure PeekRepMsg where
  chan  : Nat
  req   : Nat
  state : Nat
  value : Word
  depth : Nat
  dep   : Bool
  epoch : Nat
deriving DecidableEq, Repr

/-- A final notice or a retraction of the producer's channel (R231), for the departure of `epoch`; a
retraction names the producer whose retraction started the cascade (R242). -/
structure NoticeMsg where
  final : Bool
  chan  : Nat
  epoch : Nat
  origNode : Nat
  origChan : Nat
deriving DecidableEq, Repr

/-- The content of a frame by type (R373). -/
inductive Body where
  | time (m : TimeMsg)
  | presence (m : PresMsg)
  | topology (node : Nat) (port : Port) (st : Nat) (beyond : List Nat)
  | entry (m : EntryMsg)
  | rollcall (time : Nat) (id : Nat)
  | sessReq (m : SessReqMsg)
  | sessRep (m : SessRepMsg)
  | refuse (oseq : Nat) (lane : Option Nat)
  | link
  | wake
  | assign (serial : DWord) (id : Nat)
  | peekReq (m : PeekReqMsg)
  | peekRep (m : PeekRepMsg)
  | notice (m : NoticeMsg)
  | other (type : Nat)
deriving DecidableEq, Repr

/-- The TYPE of a frame (R373). -/
def Body.type : Body → Nat
  | .time _ => 0x01
  | .presence _ => 0x02
  | .topology _ _ _ _ => 0x03
  | .entry _ => 0x04
  | .rollcall _ _ => 0x05
  | .sessReq _ => 0x06
  | .sessRep _ => 0x07
  | .refuse _ _ => 0x08
  | .link => 0x09
  | .wake => 0x0A
  | .assign _ _ => 0x0B
  | .peekReq _ => 0x10
  | .peekRep _ => 0x11
  | .notice _ => 0x12
  | .other t => t

/-- The lowest link revision that carries a frame (R373). -/
def Body.rev : Body → Nat
  | .wake => 1
  | .assign _ _ => 1
  | .peekReq _ => 2
  | .peekRep _ => 2
  | .notice _ => 2
  | _ => 0

/-- The rank of a frame on its way out (R376). -/
def Body.rank : Body → Nat
  | .time _ => 5
  | .topology _ _ _ _ => 5
  | .rollcall _ _ => 5
  | .entry _ => 6
  | .peekReq _ => 6
  | .peekRep _ => 6
  | .notice _ => 6
  | .presence _ => 8
  | .link => 8
  | _ => 7

/-- The payload bytes of a frame: 16 and the words of an entry, 24 and the data of a session frame; the
spec lays no other payload out, and the model counts 32 bytes for each. -/
def Body.len : Body → Nat
  | .entry m => 16 + 4 * m.payload.length
  | .sessReq m => 24 + (m.data.length + 3) / 4 * 4
  | .sessRep m => 24 + (m.data.length + 3) / 4 * 4
  | _ => 32

/-- A frame (R370): destination station address, origin, origin sequence, session class. -/
structure Frame where
  dest : Nat
  src  : Nat
  oseq : Nat
  cls  : Nat := 0
  body : Body
deriving DecidableEq, Repr

/-- The node that a frame is addressed to. -/
def Frame.node (f : Frame) : Nat := f.dest / 2 ^ 42

/-- Whether a frame travels under R387. -/
def Frame.broadcast (f : Frame) : Bool :=
  match f.body with
  | .time _ => true
  | .presence _ => true
  | .topology _ _ _ _ => true
  | .entry _ => true
  | .rollcall _ _ => true
  | .assign _ _ => true
  | .sessReq _ => f.node == 0x3FF
  | .wake => f.node == 0x3FF
  | _ => false

/-- The bytes that the bursts of a frame hold in a replay buffer (R370, R375): SOF, 16 header bytes, the
payload, CHECK and EOF for each burst. -/
def Frame.bytes (f : Frame) : Nat := f.body.len + (if f.body.len > 512 then 56 else 28)

/-- A control word (R366): the K code group Kx.y and three data bytes, the first of them on top. -/
structure KWord where
  x    : Fin 32
  y    : Fin 8
  data : BitVec 24
deriving DecidableEq, Repr

/-- A burst as the receiver finds it (R370 to R372): its frame, of which a second burst carries the same, its LSEQ and
LEN, the bytes from byte 20 to CHECK, CHECK, and the word that ends it. `codeErrs` counts the words that R367 discarded,
`elastic` says that the elastic buffer overflowed or ran dry (R369). -/
structure Burst where
  frame    : Frame
  lseq     : Nat
  second   : Bool := false
  pair     : Bool := false
  len      : Nat
  bytes    : List Byte := []
  check    : Word
  last     : KWord
  codeErrs : Nat := 0
  elastic  : Bool := false
deriving DecidableEq, Repr

/-- A whistle on the wire (R377). -/
structure WhistleMsg where
  seq    : Nat
  hops   : Nat
  origin : Nat
  lane   : Nat
  code   : Nat
  time   : Nat
  check  : Byte
deriving DecidableEq, Repr

/-- What a peer offers in the TRAIN exchange (R380). -/
structure PeerOffer where
  rev10  : Bool := true
  rev11  : Bool := true
  rev20  : Bool := true
  node   : Option (Fin 1023) := none
  serial : DWord
  port   : Port
deriving DecidableEq, Repr

/-- Why a link is lost (R390). -/
inductive LossCause where
  | signal | code | replay | silent | clock | local
deriving DecidableEq, Repr

def LossCause.num : LossCause → Nat
  | .signal => 1
  | .code => 2
  | .replay => 3
  | .silent => 4
  | .clock => 5
  | .local => 6

end Sys2Proof
end

