-- ==== Sys2Proof/Syntax.lean ====
section
/-! DEFINITION. The commands: one constructor for each row of spec/opcode_table.json, in its order, with the rule that
governs it. An operand that the part does not fix (what a line does, what a check finds, who acts) comes with the command. -/

namespace Sys2Proof

/-- A command that the module takes from outside, or an event that takes place in it. -/
inductive Instr where
  /-- INTAKE_VALID (R43) -/
  | intakeValid (i : Intake)
  /-- INTAKE_INVALID (R51) -/
  | intakeInvalid (i : Intake)
  /-- POWER_FAIL_START (R52) -/
  | powerFailStart (lost : Option Intake)
  /-- HOLD_UP_END (R52) -/
  | holdUpEnd
  /-- INTAKE_RETURN_RESET (R53) -/
  | intakeReturnReset
  /-- VIO_IN_LOST (R38) -/
  | vioInLost (f : SlaveFrame)
  /-- VIO_IN_RESTORED (R38) -/
  | vioInRestored
  /-- RAIL_FAULT (R54) -/
  | railFault
  /-- POWER_ON (R65) -/
  | powerOn (i : Intake)
  /-- OTP_LOAD_COMPLETE (R65) -/
  | otpLoadComplete (good : Bool) (f : Fuses)
  /-- MEMORY_INITIALISER_COMPLETE (R68) -/
  | memoryInitialiserComplete
  /-- RESET_RELEASE (R66) -/
  | resetRelease (x : Straps) (y : Straps) (z : Straps)
  /-- BOOT_COMPLETE (R72) -/
  | bootComplete (i : BootImage)
  /-- CLOCK_MONITOR_FAULT (R62) -/
  | clockMonitorFault (c : MonClock)
  /-- NRST_PULSE (R74) -/
  | nrstPulse (l : NrstLow)
  /-- CHIP_RESET (R75) -/
  | chipReset (c : ChipCause)
  /-- NRST_STUCK (R76) -/
  | nrstStuck (x : Straps) (y : Straps) (z : Straps)
  /-- NRST_REARM (R76) -/
  | nrstRearm
  /-- BLOCK_RESET_REQUEST (R81) -/
  | blockResetRequest (b : Blk)
  /-- BLOCK_RESET_DEFERRED_START (R80) -/
  | blockResetDeferredStart (b : Blk)
  /-- BLOCK_LEAVES_RESET (R81) -/
  | blockLeavesReset (b : Blk)
  /-- TRIAD_RESTART (R132) -/
  | triadRestart (t : Triad)
  /-- TRIAD_LEAVES_RESET (R132) -/
  | triadLeavesReset (t : Triad)
  /-- SLEEP_READY (R86) -/
  | sleepReady (m : Mach)
  /-- CORES_GATED (R87) -/
  | coresGated
  /-- WAKE_PIN_EDGE (R89) -/
  | wakePinEdge
  /-- AON_TIMER_MATCH (R89) -/
  | aonTimerMatch
  /-- WAKE_SUPPLY_UP (R90) -/
  | wakeSupplyUp
  /-- WAKE_INTERRUPT_DELIVERY (R90) -/
  | wakeInterruptDelivery
  /-- ADD (R137) -/
  | add (m : Mach) (gd : BitVec 5) (ga : BitVec 5) (gb : BitVec 5)
  /-- SUB (R137) -/
  | sub (m : Mach) (gd : BitVec 5) (ga : BitVec 5) (gb : BitVec 5)
  /-- AND (R137) -/
  | and (m : Mach) (gd : BitVec 5) (ga : BitVec 5) (gb : BitVec 5)
  /-- OR (R137) -/
  | or (m : Mach) (gd : BitVec 5) (ga : BitVec 5) (gb : BitVec 5)
  /-- XOR (R137) -/
  | xor (m : Mach) (gd : BitVec 5) (ga : BitVec 5) (gb : BitVec 5)
  /-- ANDN (R137) -/
  | andn (m : Mach) (gd : BitVec 5) (ga : BitVec 5) (gb : BitVec 5)
  /-- SHL (R137) -/
  | shl (m : Mach) (gd : BitVec 5) (ga : BitVec 5) (gb : BitVec 5)
  /-- SHR (R137) -/
  | shr (m : Mach) (gd : BitVec 5) (ga : BitVec 5) (gb : BitVec 5)
  /-- SHRA (R137) -/
  | shra (m : Mach) (gd : BitVec 5) (ga : BitVec 5) (gb : BitVec 5)
  /-- ROTR (R137) -/
  | rotr (m : Mach) (gd : BitVec 5) (ga : BitVec 5) (gb : BitVec 5)
  /-- CLT (R137) -/
  | clt (m : Mach) (gd : BitVec 5) (ga : BitVec 5) (gb : BitVec 5)
  /-- CLTU (R137) -/
  | cltu (m : Mach) (gd : BitVec 5) (ga : BitVec 5) (gb : BitVec 5)
  /-- MIN (R137) -/
  | min (m : Mach) (gd : BitVec 5) (ga : BitVec 5) (gb : BitVec 5)
  /-- MAX (R137) -/
  | max (m : Mach) (gd : BitVec 5) (ga : BitVec 5) (gb : BitVec 5)
  /-- MINU (R137) -/
  | minu (m : Mach) (gd : BitVec 5) (ga : BitVec 5) (gb : BitVec 5)
  /-- MAXU (R137) -/
  | maxu (m : Mach) (gd : BitVec 5) (ga : BitVec 5) (gb : BitVec 5)
  /-- CLZ (R137) -/
  | clz (m : Mach) (gd : BitVec 5) (ga : BitVec 5)
  /-- POPC (R137) -/
  | popc (m : Mach) (gd : BitVec 5) (ga : BitVec 5)
  /-- MUL (R137) -/
  | mul (m : Mach) (gd : BitVec 5) (ga : BitVec 5) (gb : BitVec 5)
  /-- MULHI_S (R137) -/
  | mulhiS (m : Mach) (gd : BitVec 5) (ga : BitVec 5) (gb : BitVec 5)
  /-- MULHI_U (R137) -/
  | mulhiU (m : Mach) (gd : BitVec 5) (ga : BitVec 5) (gb : BitVec 5)
  /-- DIVS (R138) -/
  | divs (m : Mach) (gd : BitVec 5) (ga : BitVec 5) (gb : BitVec 5)
  /-- DIVU (R138) -/
  | divu (m : Mach) (gd : BitVec 5) (ga : BitVec 5) (gb : BitVec 5)
  /-- MODS (R138) -/
  | mods (m : Mach) (gd : BitVec 5) (ga : BitVec 5) (gb : BitVec 5)
  /-- MODU (R138) -/
  | modu (m : Mach) (gd : BitVec 5) (ga : BitVec 5) (gb : BitVec 5)
  /-- ADDI (R139) -/
  | addi (m : Mach) (gd : BitVec 5) (ga : BitVec 5) (i : BitVec 17)
  /-- ANDI (R139) -/
  | andi (m : Mach) (gd : BitVec 5) (ga : BitVec 5) (i : BitVec 17)
  /-- ORI (R139) -/
  | ori (m : Mach) (gd : BitVec 5) (ga : BitVec 5) (i : BitVec 17)
  /-- XORI (R139) -/
  | xori (m : Mach) (gd : BitVec 5) (ga : BitVec 5) (i : BitVec 17)
  /-- CLTI (R139) -/
  | clti (m : Mach) (gd : BitVec 5) (ga : BitVec 5) (i : BitVec 17)
  /-- CLTIU (R139) -/
  | cltiu (m : Mach) (gd : BitVec 5) (ga : BitVec 5) (i : BitVec 17)
  /-- SHLI (R139) -/
  | shli (m : Mach) (gd : BitVec 5) (ga : BitVec 5) (k : BitVec 5)
  /-- SHRI (R139) -/
  | shri (m : Mach) (gd : BitVec 5) (ga : BitVec 5) (k : BitVec 5)
  /-- SHRAI (R139) -/
  | shrai (m : Mach) (gd : BitVec 5) (ga : BitVec 5) (k : BitVec 5)
  /-- ROTRI (R139) -/
  | rotri (m : Mach) (gd : BitVec 5) (ga : BitVec 5) (k : BitVec 5)
  /-- LDHI (R139) -/
  | ldhi (m : Mach) (gd : BitVec 5) (i : BitVec 17)
  /-- ADDPC (R139) -/
  | addpc (m : Mach) (gd : BitVec 5) (i : BitVec 17)
  /-- QADD (R140) -/
  | qadd (m : Mach) (gd : BitVec 5) (ga : BitVec 5) (gb : BitVec 5)
  /-- QSUB (R140) -/
  | qsub (m : Mach) (gd : BitVec 5) (ga : BitVec 5) (gb : BitVec 5)
  /-- QNEG (R140) -/
  | qneg (m : Mach) (gd : BitVec 5) (ga : BitVec 5)
  /-- QABS (R140) -/
  | qabs (m : Mach) (gd : BitVec 5) (ga : BitVec 5)
  /-- QMUL (R140) -/
  | qmul (m : Mach) (gd : BitVec 5) (ga : BitVec 5) (gb : BitVec 5)
  /-- MAC (R140) -/
  | mac (m : Mach) (gd : BitVec 5) (ga : BitVec 5) (gb : BitVec 5)
  /-- MSU (R140) -/
  | msu (m : Mach) (gd : BitVec 5) (ga : BitVec 5) (gb : BitVec 5)
  /-- MACL (R140) -/
  | macl (m : Mach) (gd : BitVec 5) (ga : BitVec 5) (gb : BitVec 5)
  /-- SATS (R140) -/
  | sats (m : Mach) (gd : BitVec 5) (ga : BitVec 5) (gb : BitVec 5)
  /-- SATU (R140) -/
  | satu (m : Mach) (gd : BitVec 5) (ga : BitVec 5) (gb : BitVec 5)
  /-- QSHL (R140) -/
  | qshl (m : Mach) (gd : BitVec 5) (ga : BitVec 5) (gb : BitVec 5)
  /-- QRSHR (R140) -/
  | qrshr (m : Mach) (gd : BitVec 5) (ga : BitVec 5) (gb : BitVec 5)
  /-- LDW (R141) -/
  | ldw (m : Mach) (gd : BitVec 5) (ga : BitVec 5) (i : BitVec 17)
  /-- LDH (R141) -/
  | ldh (m : Mach) (gd : BitVec 5) (ga : BitVec 5) (i : BitVec 17)
  /-- LDHU (R141) -/
  | ldhu (m : Mach) (gd : BitVec 5) (ga : BitVec 5) (i : BitVec 17)
  /-- LDB (R141) -/
  | ldb (m : Mach) (gd : BitVec 5) (ga : BitVec 5) (i : BitVec 17)
  /-- LDBU (R141) -/
  | ldbu (m : Mach) (gd : BitVec 5) (ga : BitVec 5) (i : BitVec 17)
  /-- STW (R141) -/
  | stw (m : Mach) (gd : BitVec 5) (ga : BitVec 5) (i : BitVec 17)
  /-- STH (R141) -/
  | sth (m : Mach) (gd : BitVec 5) (ga : BitVec 5) (i : BitVec 17)
  /-- STB (R141) -/
  | stb (m : Mach) (gd : BitVec 5) (ga : BitVec 5) (i : BitVec 17)
  /-- SWAP (R143) -/
  | swap (m : Mach) (gd : BitVec 5) (ga : BitVec 5) (gb : BitVec 5)
  /-- AADD (R143) -/
  | aadd (m : Mach) (gd : BitVec 5) (ga : BitVec 5) (gb : BitVec 5)
  /-- CAS (R143) -/
  | cas (m : Mach) (gd : BitVec 5) (ga : BitVec 5) (gb : BitVec 5)
  /-- BEQ (R144) -/
  | beq (m : Mach) (gd : BitVec 5) (ga : BitVec 5) (i : BitVec 17)
  /-- BNE (R144) -/
  | bne (m : Mach) (gd : BitVec 5) (ga : BitVec 5) (i : BitVec 17)
  /-- BLT (R144) -/
  | blt (m : Mach) (gd : BitVec 5) (ga : BitVec 5) (i : BitVec 17)
  /-- BGE (R144) -/
  | bge (m : Mach) (gd : BitVec 5) (ga : BitVec 5) (i : BitVec 17)
  /-- BLTU (R144) -/
  | bltu (m : Mach) (gd : BitVec 5) (ga : BitVec 5) (i : BitVec 17)
  /-- BGEU (R144) -/
  | bgeu (m : Mach) (gd : BitVec 5) (ga : BitVec 5) (i : BitVec 17)
  /-- JAL (R144) -/
  | jal (m : Mach) (gd : BitVec 5) (i : BitVec 22)
  /-- JALR (R144) -/
  | jalr (m : Mach) (gd : BitVec 5) (ga : BitVec 5) (i : BitVec 17)
  /-- MFC (R145) -/
  | mfc (m : Mach) (gd : BitVec 5) (n : BitVec 5)
  /-- MTC (R146) -/
  | mtc (m : Mach) (n : BitVec 5) (ga : BitVec 5)
  /-- ERET (R145) -/
  | eret (m : Mach)
  /-- NRET (R145) -/
  | nret (m : Mach)
  /-- FENCE_ACQ (R103) -/
  | fenceAcq (m : Mach)
  /-- FENCE_REL (R103) -/
  | fenceRel (m : Mach)
  /-- FENCE_AR (R145) -/
  | fenceAr (m : Mach)
  /-- SYSCALL (R145) -/
  | syscall (m : Mach) (k : BitVec 8)
  /-- BREAK (R148) -/
  | breakTrap (m : Mach)
  /-- WAITI (R147) -/
  | waiti (m : Mach)
  /-- WAITI_RELEASE (R147) -/
  | waitiRelease (m : Mach)
  /-- BMOV (R149) -/
  | bmov (m : Mach) (gd : BitVec 5) (ga : BitVec 5) (gb : BitVec 5)
  /-- BFILL (R149) -/
  | bfill (m : Mach) (gd : BitVec 5) (ga : BitVec 5) (gb : BitVec 5)
  /-- BCRC (R149) -/
  | bcrc (m : Mach) (p : BitVec 2) (gd : BitVec 5) (ga : BitVec 5) (gb : BitVec 5)
  /-- FIRV (R149) -/
  | firv (m : Mach) (gd : BitVec 5) (ga : BitVec 5) (gb : BitVec 5)
  /-- CHMODE (R154) -/
  | chmode (m : Mach) (gd : BitVec 5) (ga : BitVec 5) (gb : BitVec 5)
  /-- CHSET (R156) -/
  | chset (m : Mach) (i : BitVec 8) (gd : BitVec 5) (ga : BitVec 5) (gb : BitVec 5)
  /-- CHSET_START (R301) -/
  | chsetStart (m : Mach) (gd : BitVec 5) (ga : BitVec 5) (gb : BitVec 5)
  /-- CHGET (R157) -/
  | chget (m : Mach) (i : BitVec 8) (gd : BitVec 5) (ga : BitVec 5)
  /-- TALLY (R503) -/
  | tally (m : Mach) (n : Fin 16) (gd : BitVec 5)
  /-- RAISE (R160) -/
  | raise (m : Mach) (gd : BitVec 5) (ga : BitVec 5)
  /-- ROLL (R161) -/
  | roll (m : Mach) (gd : BitVec 5)
  /-- ROLL_S (R545) -/
  | rollS (m : Mach) (gd : BitVec 5) (ga : BitVec 5)
  /-- WAITD_DEP (R163) -/
  | waitdDep (m : Mach) (gd : BitVec 5) (ga : BitVec 5)
  /-- WAITD_MAN (R163) -/
  | waitdMan (m : Mach) (gd : BitVec 5) (ga : BitVec 5)
  /-- WAITD_RELEASE (R163) -/
  | waitdRelease (m : Mach)
  /-- PROPOSE (R164) -/
  | propose (m : Mach) (gd : BitVec 5) (ga : BitVec 5) (gb : BitVec 5)
  /-- RETRACT (R166) -/
  | retract (m : Mach) (gd : BitVec 5) (ga : BitVec 5)
  /-- COMMIT (R167) -/
  | commit (m : Mach) (gd : BitVec 5) (ga : BitVec 5)
  /-- PEEK (R168) -/
  | peek (m : Mach) (gd : BitVec 5) (ga : BitVec 5)
  /-- LDS (R171) -/
  | lds (m : Mach) (w : BitVec 3) (gd : BitVec 5) (ga : BitVec 5) (gb : BitVec 5)
  /-- STS (R171) -/
  | sts (m : Mach) (w : BitVec 3) (gd : BitVec 5) (ga : BitVec 5) (gb : BitVec 5)
  /-- CRCF (R172) -/
  | crcf (m : Mach) (p : BitVec 2) (gd : BitVec 5) (ga : BitVec 5) (gb : BitVec 5)
  /-- MASKABLE_INTERRUPT_ENTRY (R119) -/
  | maskableInterruptEntry (m : Mach)
  /-- NMI_ENTRY (R119) -/
  | nmiEntry (m : Mach)
  /-- PLATFORM_MISMATCH (R179) -/
  | platformMismatch (t : Triad)
  /-- LINE_FILL_DELIVERY (R178) -/
  | lineFillDelivery (t : Triad) (odd : Option (Fin 3))
  /-- VOTE_ODD_CORE (R181) -/
  | voteOddCore (t : Triad) (c : Fin 3) (kind : Fin 8)
  /-- L1_ECC_ERROR (R182) -/
  | l1EccError (t : Triad) (c : Fin 3)
  /-- RESYNC_COPY_COMPLETE (R184) -/
  | resyncCopyComplete (t : Triad)
  /-- RESYNC_PAUSE_RELEASE (R184) -/
  | resyncPauseRelease (t : Triad) (agree : Bool)
  /-- PAIR_RECOVERY_START (R187) -/
  | pairRecoveryStart (t : Triad) (kind : Fin 8)
  /-- PAIR_RECOVERY_RELEASE (R187) -/
  | pairRecoveryRelease (t : Triad)
  /-- TIME_FRAME_SEND_TIMER (R199) -/
  | timeFrameSendTimer
  /-- TIME_FRAME_RECEIVE (R199) -/
  | timeFrameReceive
  /-- LINK_DELAY_TIMER (R199) -/
  | linkDelayTimer (p : Port) (delay : Fin 65536)
  /-- SELF_MASTER_TIMEOUT (R201) -/
  | selfMasterTimeout
  /-- MASTER_LOSS_TIMEOUT (R202) -/
  | masterLossTimeout
  /-- MASTER_TAKES_OFFICE (R202) -/
  | masterTakesOffice
  /-- UNLOCKED_PERIOD_TICK (R204) -/
  | unlockedPeriodTick
  /-- BOUND_COMPUTATION (R206) -/
  | boundComputation
  /-- TT_PERIOD_WRITE (R207) -/
  | ttPeriodWrite (v : Word)
  /-- CONVERSION_LEAD_START (R210) -/
  | conversionLeadStart (n : Fin 16)
  /-- DEPARTURE (R210) -/
  | departure (env : DepEnv)
  /-- ENTRY_RECEIVE (R215) -/
  | entryReceive
  /-- MANIFEST_CLOSE (R225) -/
  | manifestClose
  /-- COMMIT_DEADLINE (R232) -/
  | commitDeadline
  /-- FINAL_NOTICE_RECEIVE (R231) -/
  | finalNoticeReceive
  /-- RETRACTION_RECEIVE (R231) -/
  | retractionReceive
  /-- PEEK_REQ_RECEIVE (R169) -/
  | peekReqReceive
  /-- PEEK_REP_RECEIVE (R168) -/
  | peekRepReceive
  /-- PUB_WRITE (R212) -/
  | pubWrite (k : Fin 64) (i : Fin 2) (v : Word)
  /-- SUB_WRITE (R223) -/
  | subWrite (j : Fin 4096) (i : Fin 2) (v : Word)
  /-- MANI_BANK_SIZE_WRITE (R242) -/
  | maniBankSizeWrite (v : Word)
  /-- MANI_REVT_READ (R242) -/
  | maniRevtRead (t : Triad)
  /-- CONFIGURATION_COMPLETE (R251) -/
  | configurationComplete (n : Fin 16)
  /-- SHUTDOWN_COMPLETE (R251) -/
  | shutdownComplete (n : Fin 16) (cause : Option (Fin 8))
  /-- CHANNEL_DIE_FAULT (R256) -/
  | channelDieFault (n : Fin 16) (cause : Fin 8)
  /-- ISO_FRAME_RECEIVE (R246) -/
  | isoFrameReceive (n : Fin 16) (logicEnd : Bool) (sym : IsoSymbol)
  /-- ISO_LINK_TIMEOUT (R246) -/
  | isoLinkTimeout (n : Fin 16)
  /-- PERIODIC_SELF_CHECK (R256) -/
  | periodicSelfCheck (n : Fin 16) (pass : Bool)
  /-- SEQUENCE_TRIG_EDGE (R279) -/
  | sequenceTrigEdge (k : Fin 4) (rising : Bool)
  /-- SLOT_COMPLETE (R283) -/
  | slotComplete (n : Fin 16) (r : Reading)
  /-- FAST_COMPARATOR_EVENT (R296) -/
  | fastComparatorEvent (n : Fin 16) (x : Int)
  /-- DEBOUNCED_EDGE (R299) -/
  | debouncedEdge (n : Fin 16) (level : Bool)
  /-- DIE_TEMP_READING (R317) -/
  | dieTempReading (n : Fin 16) (r : DieReport)
  /-- DAC_GRID_POINT (R311) -/
  | dacGridPoint (n : Fin 16)
  /-- BOOST_UPDATE (R314) -/
  | boostUpdate (n : Fin 16) (meas : Nat) (dropout : Bool) (iLimit : Bool)
  /-- SWITCH_THERMAL_SHUTDOWN (R323) -/
  | switchThermalShutdown (n : Fin 16)
  /-- SWITCH_AUTO_RESTART (R323) -/
  | switchAutoRestart (n : Fin 16)
  /-- READBACK_COMPLETE (R325) -/
  | readbackComplete (n : Fin 16) (value : Int) (iLimit : Bool)
  /-- LANE_RUN (R331) -/
  | laneRun (n : Fin 16)
  /-- LANE_STOP (R331) -/
  | laneStop (n : Fin 16)
  /-- LANE_NOP (R334) -/
  | laneNop (n : Fin 16)
  /-- LANE_LDI (R334) -/
  | laneLdi (n : Fin 16)
  /-- LANE_LDH (R334) -/
  | laneLdh (n : Fin 16)
  /-- LANE_ADDI (R334) -/
  | laneAddi (n : Fin 16)
  /-- LANE_ADD (R334) -/
  | laneAdd (n : Fin 16)
  /-- LANE_SUB (R334) -/
  | laneSub (n : Fin 16)
  /-- LANE_BR (R334) -/
  | laneBr (n : Fin 16)
  /-- LANE_WAIT (R334) -/
  | laneWait (n : Fin 16)
  /-- LANE_WAIT_RELEASE (R334) -/
  | laneWaitRelease (n : Fin 16)
  /-- LANE_ACT_OFF (R335) -/
  | laneActOff (n : Fin 16)
  /-- LANE_ACT_ON (R335) -/
  | laneActOn (n : Fin 16)
  /-- LANE_ACT_SET (R335) -/
  | laneActSet (n : Fin 16)
  /-- LANE_ACT_REFUGE (R335) -/
  | laneActRefuge (n : Fin 16)
  /-- LANE_ACT_CONV (R335) -/
  | laneActConv (n : Fin 16)
  /-- LANE_WHISTLE (R339) -/
  | laneWhistle (n : Fin 16)
  /-- LANE_TIME (R334) -/
  | laneTime (n : Fin 16)
  /-- LANE_DELAY (R334) -/
  | laneDelay (n : Fin 16)
  /-- LANE_DELAY_EXPIRY (R334) -/
  | laneDelayExpiry (n : Fin 16)
  /-- LANE_READ (R334) -/
  | laneRead (n : Fin 16)
  /-- LANE_NOTE (R334) -/
  | laneNote (n : Fin 16)
  /-- LANE_CLR (R334) -/
  | laneClr (n : Fin 16)
  /-- LANE_HALT (R334) -/
  | laneHalt (n : Fin 16)
  /-- REFLEX_ACTION_ARRIVAL (R335) -/
  | reflexActionArrival
  /-- LANE_COMPARE_FAULT (R344) -/
  | laneCompareFault (n : Fin 16)
  /-- WHISTLE_RECEIVE (R341) -/
  | whistleReceive (p : Port) (m : WhistleMsg)
  /-- DIAG_ACTIVATION (R349) -/
  | diagActivation (n : Fin 16) (b : Fin 11)
  /-- DIAG_DEACTIVATION (R350) -/
  | diagDeactivation (n : Fin 16) (b : Fin 11)
  /-- SIGNAL_DETECT (R380) -/
  | signalDetect (p : Port)
  /-- TRAIN_EXCHANGE_COMPLETE (R380) -/
  | trainExchangeComplete (p : Port) (o : PeerOffer)
  /-- LINK_DELAY_COMPLETE (R380) -/
  | linkDelayComplete (p : Port) (delay : Fin 65536)
  /-- TRAIN_FAIL_TIMEOUT (R380) -/
  | trainFailTimeout (p : Port) (lock : Bool)
  /-- TRAIN_RETRY (R380) -/
  | trainRetry (p : Port)
  /-- BURST_RECEIVE (R372) -/
  | burstReceive (p : Port) (b : Burst)
  /-- ACK_RECEIVE (R375) -/
  | ackReceive (p : Port) (lseq : Fin 65536) (crc : Byte)
  /-- NACK_RECEIVE (R375) -/
  | nackReceive (p : Port) (lseq : Fin 65536) (crc : Byte)
  /-- MARK_SEND (R366) -/
  | markSend (p : Port)
  /-- MARK_RECEIVE (R390) -/
  | markReceive (p : Port) (count : Fin 65536) (crc : Byte)
  /-- REPLAY_TIMEOUT (R375) -/
  | replayTimeout (p : Port)
  /-- SILENT_CHECK_INTERVAL (R390) -/
  | silentCheckInterval (p : Port)
  /-- LINK_LOSS (R390) -/
  | linkLoss (p : Port) (c : LossCause)
  /-- POINTS_CLOSE (R391) -/
  | pointsClose (p : Port)
  /-- DAMPED_END (R390) -/
  | dampedEnd (p : Port)
  /-- RING_OPEN_TIMEOUT (R393) -/
  | ringOpenTimeout
  /-- PRESENCE_TIMER (R386) -/
  | presenceTimer
  /-- PRESENCE_RECEIVE (R386) -/
  | presenceReceive
  /-- TOPOLOGY_RECEIVE (R389) -/
  | topologyReceive
  /-- ASSIGN_RECEIVE (R385) -/
  | assignReceive
  /-- WAKE_FRAME_RECEIVE (R394) -/
  | wakeFrameReceive
  /-- REFUSE_RECEIVE (R382) -/
  | refuseReceive
  /-- OV_TX_WAKE (R394) -/
  | ovTxWake (node : Fin 1024)
  /-- OV_TX_ASSIGN (R394) -/
  | ovTxAssign (node : Fin 1024)
  /-- OV_RETRAIN (R397) -/
  | ovRetrain (p : Port)
  /-- OV_PORT_DISABLE (R397) -/
  | ovPortDisable (p : Port) (v : Bool)
  /-- SESS_REQ_RECEIVE (R406) -/
  | sessReqReceive
  /-- SESSION_SERVICE_START (R406) -/
  | sessionServiceStart (ns : Nat)
  /-- SESS_REP_RECEIVE (R407) -/
  | sessRepReceive
  /-- REQUEST_TIMEOUT (R410) -/
  | requestTimeout (peek : Bool) (id : Nat)
  /-- REPLAY_WINDOW_RELEASE (R403) -/
  | replayWindowRelease (sid : Fin 1024) (node : Fin 1024)
  /-- SAFETY_SHARE_INTERVAL (R408) -/
  | safetyShareInterval
  /-- LOAD_KEY (R416) -/
  | loadKey
  /-- ENTRY_CLEAR (R416) -/
  | entryClear
  /-- SS_BOOT_WRITE (R413) -/
  | ssBootWrite (v : Word)
  /-- SH_GO (R424) -/
  | shGo (n : Fin 16)
  /-- SH_RESUME (R424) -/
  | shResume (n : Fin 16)
  /-- SH_STOP (R425) -/
  | shStop (n : Fin 16)
  /-- WAYBILL_FETCH_COMPLETE (R426) -/
  | waybillFetchComplete (n : Fin 16)
  /-- LOCAL_PIECE_RESPONSE (R430) -/
  | localPieceResponse (n : Fin 16)
  /-- LOCAL_ACCESS_TIMEOUT (R433) -/
  | localAccessTimeout (n : Fin 16)
  /-- PIECE_RETRY_TIMER (R431) -/
  | pieceRetryTimer (n : Fin 16)
  /-- CRC_UNIT_WAIT_TIMEOUT (R423) -/
  | crcUnitWaitTimeout (n : Fin 16)
  /-- WAYBILL_WRITEBACK_COMPLETE (R434) -/
  | waybillWritebackComplete (n : Fin 16)
  /-- SHUNT_ENGINE_MISMATCH (R438) -/
  | shuntEngineMismatch (n : Fin 16)
  /-- PL_ALLOC_READ (R441) -/
  | plAllocRead (by_ : Agent)
  /-- PL_FREE_WRITE (R442) -/
  | plFreeWrite (by_ : Agent) (v : Word)
  /-- PL_GIVE_WRITE (R442) -/
  | plGiveWrite (by_ : Agent) (v : Word)
  /-- PL_RECLAIM_WRITE (R442) -/
  | plReclaimWrite (by_ : Agent) (v : Word)
  /-- WAGON_MARK_COMPLETE (R442) -/
  | wagonMarkComplete
  /-- PL_BASE_WRITE (R443) -/
  | plBaseWrite (v : Word)
  /-- POOL_SWEEP_COMPLETE (R444) -/
  | poolSweepComplete
  /-- CU_CLAIM (R454) -/
  | cuClaim (u : Fin 4)
  /-- CU_RELEASE (R454) -/
  | cuRelease (u : Fin 4)
  /-- CU_START (R453) -/
  | cuStart (u : Fin 4) (by_ : Agent)
  /-- CU_FOLD (R453) -/
  | cuFold (u : Fin 4) (by_ : Agent)
  /-- CU_DATA8_WRITE (R453) -/
  | cuData8Write (u : Fin 4) (by_ : Agent) (v : Word)
  /-- CU_DATA16_WRITE (R453) -/
  | cuData16Write (u : Fin 4) (by_ : Agent) (v : Word)
  /-- CU_DATA32_WRITE (R453) -/
  | cuData32Write (u : Fin 4) (by_ : Agent) (v : Word)
  /-- WALKER_VISIT (R461) -/
  | walkerVisit (u : Upset)
  /-- PAGE_HEAL_COMPLETE (R462) -/
  | pageHealComplete
  /-- PATROL_PERIOD_END (R464) -/
  | patrolPeriodEnd
  /-- PT_LOG_READ (R463) -/
  | ptLogRead
  /-- CS_WRITE (R470) -/
  | csWrite
  /-- CAL_COPY_COMPLETE (R470) -/
  | calCopyComplete
  /-- CAL_ERASE_COMPLETE (R470) -/
  | calEraseComplete (blank : Bool)
  /-- CAL_PROGRAM_COMPLETE (R470) -/
  | calProgramComplete
  /-- CAL_VERIFY_COMPLETE (R470) -/
  | calVerifyComplete (good : Bool)
  /-- CAL_COMMIT_COMPLETE (R470) -/
  | calCommitComplete
  /-- FP_KEY_WRITE (R475) -/
  | fpKeyWrite (v : Word)
  /-- FP_ERASE (R475) -/
  | fpErase
  /-- FP_PROGRAM (R475) -/
  | fpProgram
  /-- FP_ERASE_COMPLETE (R476) -/
  | fpEraseComplete (blank : Bool)
  /-- FP_PROGRAM_COMPLETE (R476) -/
  | fpProgramComplete (good : Bool)
  /-- SOURCE_RAISE (R486) -/
  | sourceRaise (src : Fin 128) (t : Triad)
  /-- WIRE_BREAK (R483) -/
  | wireBreak (src : Fin 128) (bothOpen : Bool) (t : Triad)
  /-- WIRE_REARM (R483) -/
  | wireRearm (src : Fin 128)
  /-- COLLECTOR_MISMATCH (R484) -/
  | collectorMismatch
  /-- QUIET_TIMER_EXPIRY (R489) -/
  | quietTimerExpiry
  /-- SB_CFG_WRITE (R492) -/
  | sbCfgWrite (src : Fin 128) (v : Word)
  /-- SB_LOCK (R493) -/
  | sbLock
  /-- TALLY_WINDOW_OPEN (R502) -/
  | tallyWindowOpen
  /-- TALLY_PERIOD_END (R503) -/
  | tallyPeriodEnd
  /-- TALLY_COUNT_START_TIMEOUT (R505) -/
  | tallyCountStartTimeout
  /-- ERASE_GUARD_EXPIRY (R506) -/
  | eraseGuardExpiry
  /-- CONSEC_CLEAR_TIMEOUT (R511) -/
  | consecClearTimeout
  /-- TALLY_COPY_MISMATCH (R500) -/
  | tallyCopyMismatch
  /-- TL_KEY_WRITE (R507) -/
  | tlKeyWrite (v : Word)
  /-- TL_EN_WRITE (R501) -/
  | tlEnWrite (v : Word)
  /-- TL_CTRL_EN_WRITE (R501) -/
  | tlCtrlEnWrite (en : Bool)
  /-- TL_LOCK (R508) -/
  | tlLock
  /-- TL_DBG_HOLD_WRITE (R507) -/
  | tlDbgHoldWrite (hold : Bool)
  /-- TL_PERIOD_WRITE (R502) -/
  | tlPeriodWrite (v : Word)
  /-- TL_ESC_WRITE (R511) -/
  | tlEscWrite (v : Word)
  /-- RFG_REL_WRITE (R514) -/
  | rfgRelWrite (by_ : Agent) (v : Word)
  /-- SPX_CFG_WRITE (R518) -/
  | spxCfgWrite (v : Word)
  /-- SPX_GO (R522) -/
  | spxGo (din : List Word)
  /-- SPX_ABORT (R525) -/
  | spxAbort
  /-- SPX_TX_FLUSH (R525) -/
  | spxTxFlush
  /-- SPX_RX_FLUSH (R525) -/
  | spxRxFlush
  /-- MASTER_FRAME_END (R524) -/
  | masterFrameEnd
  /-- SPX_TX_WINDOW_WRITE (R523) -/
  | spxTxWindowWrite (v : Word)
  /-- SPX_RX_WINDOW_READ (R523) -/
  | spxRxWindowRead
  /-- SPX_MODE_FAULT (R528) -/
  | spxModeFault
  /-- SLAVE_SELECT_FALL (R529) -/
  | slaveSelectFall
  /-- SLAVE_FRAME_APPLY (R531) -/
  | slaveFrameApply (f : SlaveFrame)
  /-- MAILBOX_READ (R535) -/
  | mailboxRead
  /-- MAILBOX_WRITE (R535) -/
  | mailboxWrite (v : Word)
  /-- SPX_NEG_RESET (R532) -/
  | spxNegReset
  /-- ROLLCALL_PAD_EDGE (R540) -/
  | rollcallPadEdge (rising : Bool)
  /-- RC_TRIGGER (R540) -/
  | rcTrigger
  /-- RC_RELEASE (R544) -/
  | rcRelease
  /-- RC_CANCEL (R545) -/
  | rcCancel
  /-- ROLLCALL_FRAME_RECEIVE (R545) -/
  | rollcallFrameReceive
  /-- STATION_ROLLCALL_TIME (R545) -/
  | stationRollcallTime
  /-- TAP_RESET (R547) -/
  | tapReset
  /-- DEBUG_NOP (R548) -/
  | debugNop
  /-- DEBUG_READ (R549) -/
  | debugRead (a : Word)
  /-- DEBUG_WRITE (R549) -/
  | debugWrite (a : Word) (v : Word)
  /-- DEBUG_ATTACH (R548) -/
  | debugAttach (t : Triad)
  /-- DEBUG_DETACH (R548) -/
  | debugDetach (t : Triad)
  /-- DEBUG_HALT (R190) -/
  | debugHalt (t : Triad)
  /-- DEBUG_RESUME (R191) -/
  | debugResume (t : Triad)
  /-- DEBUG_STEP (R191) -/
  | debugStep (t : Triad)
  /-- DEBUG_REG_READ (R548) -/
  | debugRegRead (t : Triad) (x1 : Bool) (code : BitVec 8)
  /-- DEBUG_REG_WRITE (R191) -/
  | debugRegWrite (t : Triad) (x1 : Bool) (code : BitVec 8) (v : Word)
  /-- DEBUG_CHIP_RESET (R548) -/
  | debugChipReset (v : Word)
  /-- LATCHING_LO_READ (R559) -/
  | latchingLoRead (r : LoReg)
  /-- REGISTER_WRITE (R562) -/
  | registerWrite (by_ : Agent) (a : Word) (v : Word)
  /-- CLOCK_MONITOR_CLEARS (R500) -/
  | clockMonitorClears (c : MonClock)
  /-- REPLAY_HOLD_BACK_TIMEOUT (R396) -/
  | replayHoldBackTimeout (p : Port)
  /-- PRESENCE_REACH_TIMEOUT (R386) -/
  | presenceReachTimeout (node : Nat)
deriving DecidableEq, Repr

end Sys2Proof
end

