-- ==== Sys2Proof/Decode.lean ====
section
/-! DEFINITION. The command that a word of spec/opcode_table.json spells. No row of the table gives bits, so no word
spells one; the 32-bit words of the Tapol instructions reach the module inside its memory and its images, and the
commands carry their fields. -/

namespace Sys2Proof

/-- The command that a word of `nbits` bits spells by the table. -/
def decodeTableWord (_nbits _w : Nat) : Option Instr := none

end Sys2Proof
end

