-- ==== Sys2Proof/Machine/Crc.lean ====
section
/-! DEFINITION. Check-value arithmetic: the four polynomials (R449), the step of one byte
(R450), the fold preamble (R451). -/

namespace Sys2Proof.Machine

/-- The four polynomials of R449. -/
inductive Poly where
  | crc32 | crc32c | crc16 | crc8
deriving DecidableEq, Repr

/-- The polynomial of a two-bit code (R449). -/
def Poly.ofCode (p : Nat) : Poly :=
  match p % 4 with
  | 0 => .crc32
  | 1 => .crc32c
  | 2 => .crc16
  | _ => .crc8

def Poly.width : Poly → Nat
  | .crc32 => 32
  | .crc32c => 32
  | .crc16 => 16
  | .crc8 => 8

def Poly.reflected : Poly → Bool
  | .crc32 => true
  | .crc32c => true
  | .crc16 => false
  | .crc8 => false

/-- The polynomial: for a reflected one its reflected form. -/
def Poly.poly : Poly → Nat
  | .crc32 => 0xEDB88320
  | .crc32c => 0x82F63B78
  | .crc16 => 0x1021
  | .crc8 => 0x2F

/-- The ones of the polynomial's width. -/
def Poly.mask (p : Poly) : Nat := 2 ^ p.width - 1

/-- The standard initial value (R449). -/
def Poly.init (p : Poly) : Nat := p.mask

/-- The standard final XOR (R449). -/
def Poly.final : Poly → Nat
  | .crc32 => 0xFFFFFFFF
  | .crc32c => 0xFFFFFFFF
  | .crc16 => 0
  | .crc8 => 0xFF

/-- One of the eight bit steps of R450. -/
def crcBit (p : Poly) (c : Nat) : Nat :=
  if p.reflected then
    if c % 2 = 1 then (c >>> 1) ^^^ p.poly else c >>> 1
  else
    if c.testBit (p.width - 1) then ((c <<< 1) ^^^ p.poly) % 2 ^ p.width else (c <<< 1) % 2 ^ p.width

/-- `crc_step` (R450): one byte enters a running value. -/
def crcStep (p : Poly) (c : Nat) (b : Byte) : Nat :=
  let c := if p.reflected then (c % 2 ^ 32) ^^^ b.toNat else (c % 2 ^ p.width) ^^^ (b.toNat <<< (p.width - 8))
  crcBit p (crcBit p (crcBit p (crcBit p (crcBit p (crcBit p (crcBit p (crcBit p c)))))))

/-- The bytes of a list enter in order. -/
def crcBytes (p : Poly) (c : Nat) (bs : List Byte) : Nat := bs.foldl (crcStep p) c

/-- The 12 bytes of the fold preamble: address, then sequence, each most significant byte first (R451). -/
def foldBytes (addr seq : Nat) : List Byte :=
  ((List.range 8).map fun i => BitVec.ofNat 8 (addr >>> (8 * (7 - i))))
    ++ (List.range 4).map fun i => BitVec.ofNat 8 (seq >>> (8 * (3 - i)))

/-- A check with standard parameters over the fold and the covered bytes (R451). -/
def crcFold (p : Poly) (addr seq : Nat) (bs : List Byte) : Nat :=
  crcBytes p (crcBytes p p.init (foldBytes addr seq)) bs ^^^ p.final

end Sys2Proof.Machine
end

