-- ==== Sys2Proof/Config.lean ====
section
/-! DEFINITION. The free values of the model: constants with no body, so that nothing can be
proved of what they are. Each stands for a value that the spec leaves open; the rows of
notes/assumptions name them. -/

namespace Sys2Proof

/-- A fresh value that the spec leaves open, taken by the count of free values already taken
(`State.freeIdx`). -/
opaque Config.freeValue : Nat → BitVec 64

/-- The temperature in 0.001 °C at which a nickel sensor (`SENSOR` code of R304) has a resistance in mΩ:
the characteristic of DIN 43760, which the spec names and does not give (R292). -/
opaque Config.nickelTemp : Nat → Int → Int

/-- The reference function of a thermocouple type (`TC_TYPE` code of R304), 0.001 °C to µV, and its
inverse: those of IEC 60584-1, which the spec names and does not give (R293). -/
opaque Config.tcVolt : Nat → Int → Int
opaque Config.tcTemp : Nat → Int → Int

end Sys2Proof
end

