-- ==== Sys2Proof/Machine/Map.lean ====
section
/-! DEFINITION. The device registers of the module: where each one lies, its
reset word, and where each of its fields stands. Every line is taken from the
register and field tables of the owning chapter of the spec (R91, R197, R241,
R242, R264, R270, R346, R397, R416, R447, R448, R455, R465, R478, R481, R499,
R516, R517, R539, R546), at the base addresses of R553. -/

namespace Sys2Proof.Machine

/-- A device register: its address in the local map and its reset word (R552, R556, R561). -/
structure Rg where
  addr : Nat
  rst  : Nat
deriving DecidableEq, Repr

/-- A field of a device register: its register, its lowest bit and its width. -/
structure Fd where
  reg   : Rg
  lo    : Nat
  width : Nat
deriving DecidableEq, Repr

/-- A row of a block's register table, with the bits of each field type (R10) and the retained
bits (R12). -/
structure RegRow where
  off    : Nat
  count  : Nat
  stride : Nat
  rst    : Nat
  keep   : Nat
  rw     : Nat
  w1c    : Nat
  w1s    : Nat
deriving DecidableEq, Repr

/-- The default reaction code of each source (R494, 16_signal_box.md): the codes of R485, run by run
in the order of the source table. -/
def sbDefaultCode (s : Nat) : Nat :=
  if s ≤ 0 then 0
  else if s ≤ 1 then 1
  else if s ≤ 2 then 2
  else if s ≤ 3 then 4
  else if s ≤ 4 then 3
  else if s ≤ 6 then 2
  else if s ≤ 9 then 0
  else if s ≤ 10 then 4
  else if s ≤ 16 then 0
  else if s ≤ 19 then 1
  else if s ≤ 21 then 0
  else if s ≤ 22 then 2
  else if s ≤ 23 then 1
  else if s ≤ 24 then 0
  else if s ≤ 30 then 1
  else if s ≤ 31 then 0
  else if s ≤ 35 then 1
  else if s ≤ 37 then 0
  else if s ≤ 38 then 2
  else if s ≤ 39 then 1
  else if s ≤ 40 then 0
  else if s ≤ 41 then 1
  else if s ≤ 42 then 0
  else if s ≤ 45 then 1
  else if s ≤ 47 then 0
  else if s ≤ 50 then 1
  else if s ≤ 51 then 2
  else if s ≤ 52 then 1
  else if s ≤ 55 then 0
  else if s ≤ 57 then 1
  else if s ≤ 58 then 2
  else if s ≤ 59 then 0
  else if s ≤ 79 then 1
  else if s ≤ 95 then 2
  else if s ≤ 102 then 1
  else if s ≤ 103 then 2
  else if s ≤ 108 then 1
  else if s ≤ 110 then 0
  else if s ≤ 113 then 1
  else if s ≤ 114 then 0
  else if s ≤ 115 then 2
  else if s ≤ 116 then 4
  else if s ≤ 117 then 5
  else if s ≤ 118 then 2
  else if s ≤ 120 then 1
  else if s ≤ 121 then 0
  else if s ≤ 122 then 1
  else if s ≤ 123 then 4
  else if s ≤ 124 then 1
  else if s ≤ 125 then 0
  else if s ≤ 126 then 1
  else 4

/-! ### Block `sys` -/

/-- R91, 03_clocks_reset_sleep.md. -/
def Rg.RST_CAUSE : Rg := ⟨0x40000000, 0x1⟩
def Fd.RST_CAUSE_POR : Fd := ⟨Rg.RST_CAUSE, 0, 1⟩
def Fd.RST_CAUSE_NRST : Fd := ⟨Rg.RST_CAUSE, 1, 1⟩
def Fd.RST_CAUSE_NRST_STUCK : Fd := ⟨Rg.RST_CAUSE, 2, 1⟩
def Fd.RST_CAUSE_SIGBOX : Fd := ⟨Rg.RST_CAUSE, 3, 1⟩
def Fd.RST_CAUSE_TALLY : Fd := ⟨Rg.RST_CAUSE, 4, 1⟩
def Fd.RST_CAUSE_DEBUG : Fd := ⟨Rg.RST_CAUSE, 5, 1⟩
/-- R91, 03_clocks_reset_sleep.md. -/
def Rg.STRAP : Rg := ⟨0x40000004, 0x0⟩
def Fd.STRAP_BOOT : Fd := ⟨Rg.STRAP, 0, 2⟩
def Fd.STRAP_SPLIT_A_PIN : Fd := ⟨Rg.STRAP, 2, 1⟩
def Fd.STRAP_SPLIT_B_PIN : Fd := ⟨Rg.STRAP, 3, 1⟩
def Fd.STRAP_SPLIT_A : Fd := ⟨Rg.STRAP, 4, 1⟩
def Fd.STRAP_SPLIT_B : Fd := ⟨Rg.STRAP, 5, 1⟩
def Fd.STRAP_SAFE_ONLY : Fd := ⟨Rg.STRAP, 6, 1⟩
/-- R91, 03_clocks_reset_sleep.md. -/
def Rg.BOOT_STAT : Rg := ⟨0x40000008, 0x0⟩
def Fd.BOOT_STAT_RESULT : Fd := ⟨Rg.BOOT_STAT, 0, 4⟩
def Fd.BOOT_STAT_SOURCE : Fd := ⟨Rg.BOOT_STAT, 4, 2⟩
def Fd.BOOT_STAT_IMAGE_FMT : Fd := ⟨Rg.BOOT_STAT, 8, 2⟩
/-- R91, 03_clocks_reset_sleep.md. -/
def Rg.CLK_STAT : Rg := ⟨0x40000010, 0x0⟩
def Fd.CLK_STAT_XIN : Fd := ⟨Rg.CLK_STAT, 0, 1⟩
def Fd.CLK_STAT_PLL_CORE : Fd := ⟨Rg.CLK_STAT, 1, 1⟩
def Fd.CLK_STAT_PLL_SYS : Fd := ⟨Rg.CLK_STAT, 2, 1⟩
def Fd.CLK_STAT_TALLY_OSC : Fd := ⟨Rg.CLK_STAT, 3, 1⟩
def Fd.CLK_STAT_AON_OSC : Fd := ⟨Rg.CLK_STAT, 4, 1⟩
def Fd.CLK_STAT_EAST_RCLK : Fd := ⟨Rg.CLK_STAT, 5, 1⟩
def Fd.CLK_STAT_WEST_RCLK : Fd := ⟨Rg.CLK_STAT, 6, 1⟩
def Fd.CLK_STAT_CHOSC : Fd := ⟨Rg.CLK_STAT, 16, 16⟩
/-- R91, 03_clocks_reset_sleep.md. -/
def Rg.NRST_STAT : Rg := ⟨0x40000014, 0x0⟩
def Fd.NRST_STAT_MASKED : Fd := ⟨Rg.NRST_STAT, 0, 1⟩
def Fd.NRST_STAT_LEVEL : Fd := ⟨Rg.NRST_STAT, 1, 1⟩
def Fd.NRST_STAT_STUCK_CNT : Fd := ⟨Rg.NRST_STAT, 8, 8⟩
/-- R91, 03_clocks_reset_sleep.md. -/
def Rg.BLK_RST0 : Rg := ⟨0x40000020, 0x0⟩
def Fd.BLK_RST0_SHUNT : Fd := ⟨Rg.BLK_RST0, 0, 1⟩
def Fd.BLK_RST0_CRCU : Fd := ⟨Rg.BLK_RST0, 1, 1⟩
def Fd.BLK_RST0_SPX : Fd := ⟨Rg.BLK_RST0, 2, 1⟩
def Fd.BLK_RST0_ORVIA : Fd := ⟨Rg.BLK_RST0, 3, 1⟩
def Fd.BLK_RST0_TTBL : Fd := ⟨Rg.BLK_RST0, 4, 1⟩
def Fd.BLK_RST0_MANI : Fd := ⟨Rg.BLK_RST0, 5, 1⟩
def Fd.BLK_RST0_SESS : Fd := ⟨Rg.BLK_RST0, 6, 1⟩
def Fd.BLK_RST0_POOL : Fd := ⟨Rg.BLK_RST0, 7, 1⟩
def Fd.BLK_RST0_TRIAD_A : Fd := ⟨Rg.BLK_RST0, 8, 1⟩
def Fd.BLK_RST0_TRIAD_B : Fd := ⟨Rg.BLK_RST0, 9, 1⟩
def Fd.BLK_RST0_PATROL : Fd := ⟨Rg.BLK_RST0, 10, 1⟩
def Fd.BLK_RST0_CALST : Fd := ⟨Rg.BLK_RST0, 11, 1⟩
/-- R91, 03_clocks_reset_sleep.md. -/
def Rg.BLK_RST1 : Rg := ⟨0x40000024, 0x0⟩
def Fd.BLK_RST1_CH : Fd := ⟨Rg.BLK_RST1, 0, 16⟩
def Fd.BLK_RST1_RFX : Fd := ⟨Rg.BLK_RST1, 16, 16⟩
/-- R91, 03_clocks_reset_sleep.md. -/
def Rg.SLEEP_CTRL : Rg := ⟨0x40000030, 0x0⟩
def Fd.SLEEP_CTRL_RDY_A : Fd := ⟨Rg.SLEEP_CTRL, 0, 1⟩
def Fd.SLEEP_CTRL_RDY_B : Fd := ⟨Rg.SLEEP_CTRL, 1, 1⟩
def Fd.SLEEP_CTRL_WAKE_EN : Fd := ⟨Rg.SLEEP_CTRL, 8, 4⟩
/-- R91, 03_clocks_reset_sleep.md. -/
def Rg.SLEEP_STAT : Rg := ⟨0x40000034, 0x0⟩
def Fd.SLEEP_STAT_STATE : Fd := ⟨Rg.SLEEP_STAT, 0, 2⟩
def Fd.SLEEP_STAT_ABORTED : Fd := ⟨Rg.SLEEP_STAT, 2, 1⟩
def Fd.SLEEP_STAT_REFUSE : Fd := ⟨Rg.SLEEP_STAT, 4, 3⟩
/-- R91, 03_clocks_reset_sleep.md. -/
def Rg.WAKE_CAUSE : Rg := ⟨0x40000038, 0x0⟩
def Fd.WAKE_CAUSE_PIN : Fd := ⟨Rg.WAKE_CAUSE, 0, 1⟩
def Fd.WAKE_CAUSE_FRAME : Fd := ⟨Rg.WAKE_CAUSE, 1, 1⟩
def Fd.WAKE_CAUSE_TIMER : Fd := ⟨Rg.WAKE_CAUSE, 2, 1⟩
def Fd.WAKE_CAUSE_CHAN : Fd := ⟨Rg.WAKE_CAUSE, 3, 1⟩
def Fd.WAKE_CAUSE_CHAN_NUM : Fd := ⟨Rg.WAKE_CAUSE, 16, 4⟩
/-- R91, 03_clocks_reset_sleep.md. -/
def Rg.WAKE_CHMASK : Rg := ⟨0x4000003C, 0x0⟩
def Fd.WAKE_CHMASK_MASK : Fd := ⟨Rg.WAKE_CHMASK, 0, 16⟩
/-- R91, 03_clocks_reset_sleep.md. -/
def Rg.AON_CNT : Rg := ⟨0x40000040, 0x0⟩
def Fd.AON_CNT_COUNT : Fd := ⟨Rg.AON_CNT, 0, 32⟩
/-- R91, 03_clocks_reset_sleep.md. -/
def Rg.AON_CMP : Rg := ⟨0x40000044, 0xFFFFFFFF⟩
def Fd.AON_CMP_CMP : Fd := ⟨Rg.AON_CMP, 0, 32⟩
/-- R91, 03_clocks_reset_sleep.md. -/
def Rg.GEN (i : Nat) : Rg := ⟨0x40000100 + 0x4 * i, 0x1⟩
def Fd.GEN_GEN (i : Nat) : Fd := ⟨Rg.GEN i, 0, 8⟩
/-- R517, 17_tally_watchdog.md. -/
def Rg.RFG_STAT : Rg := ⟨0x40000200, 0x0⟩
def Fd.RFG_STAT_ACTIVE : Fd := ⟨Rg.RFG_STAT, 0, 1⟩
def Fd.RFG_STAT_CAUSE : Fd := ⟨Rg.RFG_STAT, 1, 2⟩
def Fd.RFG_STAT_ENTRIES : Fd := ⟨Rg.RFG_STAT, 8, 8⟩
/-- R517, 17_tally_watchdog.md. -/
def Rg.RFG_CHAL : Rg := ⟨0x40000204, 0x0⟩
def Fd.RFG_CHAL_CHAL : Fd := ⟨Rg.RFG_CHAL, 0, 32⟩
/-- R517, 17_tally_watchdog.md. -/
def Rg.RFG_REL : Rg := ⟨0x40000208, 0x0⟩
def Fd.RFG_REL_VALUE : Fd := ⟨Rg.RFG_REL, 0, 32⟩
/-- R517, 17_tally_watchdog.md. -/
def Rg.RFG_LAST : Rg := ⟨0x4000020C, 0x0⟩
def Fd.RFG_LAST_RESULT : Fd := ⟨Rg.RFG_LAST, 0, 2⟩
def Fd.RFG_LAST_CORE : Fd := ⟨Rg.RFG_LAST, 2, 1⟩
def Fd.RFG_LAST_NODE : Fd := ⟨Rg.RFG_LAST, 16, 10⟩
/-- R546, 19_rollcall_debug_identity.md. -/
def Rg.RC_CTRL : Rg := ⟨0x4000F010, 0x10⟩
def Fd.RC_CTRL_PAD_EN : Fd := ⟨Rg.RC_CTRL, 0, 1⟩
def Fd.RC_CTRL_PAD_EDGE : Fd := ⟨Rg.RC_CTRL, 1, 1⟩
def Fd.RC_CTRL_RELEASE : Fd := ⟨Rg.RC_CTRL, 2, 1⟩
def Fd.RC_CTRL_TRIGGER : Fd := ⟨Rg.RC_CTRL, 3, 1⟩
def Fd.RC_CTRL_STATION_EN : Fd := ⟨Rg.RC_CTRL, 4, 1⟩
def Fd.RC_CTRL_CANCEL : Fd := ⟨Rg.RC_CTRL, 5, 1⟩
/-- R546, 19_rollcall_debug_identity.md. -/
def Rg.RC_STAT : Rg := ⟨0x4000F014, 0x0⟩
def Fd.RC_STAT_HELD : Fd := ⟨Rg.RC_STAT, 0, 1⟩
def Fd.RC_STAT_SRC : Fd := ⟨Rg.RC_STAT, 1, 3⟩
def Fd.RC_STAT_SB : Fd := ⟨Rg.RC_STAT, 4, 7⟩
def Fd.RC_STAT_OVERRUN : Fd := ⟨Rg.RC_STAT, 16, 8⟩
def Fd.RC_STAT_SCHEDULED : Fd := ⟨Rg.RC_STAT, 24, 1⟩
def Fd.RC_STAT_SCHED_DROP : Fd := ⟨Rg.RC_STAT, 25, 1⟩
def Fd.RC_STAT_MISSED : Fd := ⟨Rg.RC_STAT, 26, 1⟩
/-- R546, 19_rollcall_debug_identity.md. -/
def Rg.RC_SCHED_LO : Rg := ⟨0x4000F018, 0x0⟩
def Fd.RC_SCHED_LO_T : Fd := ⟨Rg.RC_SCHED_LO, 0, 32⟩
/-- R546, 19_rollcall_debug_identity.md. -/
def Rg.RC_SCHED_HI : Rg := ⟨0x4000F01C, 0x0⟩
def Fd.RC_SCHED_HI_T : Fd := ⟨Rg.RC_SCHED_HI, 0, 32⟩
/-- R546, 19_rollcall_debug_identity.md. -/
def Rg.RC_SCHED_ID : Rg := ⟨0x4000F020, 0x0⟩
def Fd.RC_SCHED_ID_ID : Fd := ⟨Rg.RC_SCHED_ID, 0, 16⟩
def Fd.RC_SCHED_ID_ORIGIN : Fd := ⟨Rg.RC_SCHED_ID, 16, 10⟩

/-! ### Block `sigbox` -/

/-- R499, 16_signal_box.md. -/
def Rg.SB_STAT : Rg := ⟨0x40010000, 0x0⟩
def Fd.SB_STAT_STATE : Fd := ⟨Rg.SB_STAT, 0, 1⟩
def Fd.SB_STAT_ERR : Fd := ⟨Rg.SB_STAT, 1, 1⟩
def Fd.SB_STAT_CLK_FALLBACK : Fd := ⟨Rg.SB_STAT, 2, 1⟩
def Fd.SB_STAT_SELF : Fd := ⟨Rg.SB_STAT, 3, 1⟩
def Fd.SB_STAT_LOCKED : Fd := ⟨Rg.SB_STAT, 4, 1⟩
def Fd.SB_STAT_LOCK_WR : Fd := ⟨Rg.SB_STAT, 5, 1⟩
def Fd.SB_STAT_CFG_IGNORED : Fd := ⟨Rg.SB_STAT, 6, 1⟩
def Fd.SB_STAT_BELOW_DEFAULT : Fd := ⟨Rg.SB_STAT, 7, 1⟩
def Fd.SB_STAT_LAST : Fd := ⟨Rg.SB_STAT, 16, 7⟩
/-- R499, 16_signal_box.md. -/
def Rg.SB_CTRL : Rg := ⟨0x40010004, 0x0⟩
def Fd.SB_CTRL_LOCK : Fd := ⟨Rg.SB_CTRL, 0, 1⟩
/-- R499, 16_signal_box.md. -/
def Rg.SB_QUIET : Rg := ⟨0x40010008, 0x64⟩
def Fd.SB_QUIET_QUIET : Fd := ⟨Rg.SB_QUIET, 0, 16⟩
/-- R499, 16_signal_box.md. -/
def Rg.SB_QLEFT : Rg := ⟨0x4001000C, 0x0⟩
def Fd.SB_QLEFT_LEFT : Fd := ⟨Rg.SB_QLEFT, 0, 16⟩
/-- R499, 16_signal_box.md. -/
def Rg.SB_RECOVER : Rg := ⟨0x40010010, 0x0⟩
def Fd.SB_RECOVER_COUNT : Fd := ⟨Rg.SB_RECOVER, 0, 32⟩
/-- R499, 16_signal_box.md. -/
def Rg.SB_FIRST : Rg := ⟨0x40010014, 0x0⟩
def Fd.SB_FIRST_SOURCE : Fd := ⟨Rg.SB_FIRST, 0, 7⟩
def Fd.SB_FIRST_SW : Fd := ⟨Rg.SB_FIRST, 7, 1⟩
/-- R499, 16_signal_box.md. -/
def Rg.SB_FIRST_TIME_LO : Rg := ⟨0x40010018, 0x0⟩
def Fd.SB_FIRST_TIME_LO_TIME : Fd := ⟨Rg.SB_FIRST_TIME_LO, 0, 32⟩
/-- R499, 16_signal_box.md. -/
def Rg.SB_FIRST_TIME_HI : Rg := ⟨0x4001001C, 0x0⟩
def Fd.SB_FIRST_TIME_HI_TIME : Fd := ⟨Rg.SB_FIRST_TIME_HI, 0, 32⟩
/-- R499, 16_signal_box.md. -/
def Rg.SB_COVER : Rg := ⟨0x40010020, 0x0⟩
def Fd.SB_COVER_SPLIT : Fd := ⟨Rg.SB_COVER, 0, 1⟩
def Fd.SB_COVER_PAIR : Fd := ⟨Rg.SB_COVER, 1, 1⟩
def Fd.SB_COVER_PATROL : Fd := ⟨Rg.SB_COVER, 2, 1⟩
def Fd.SB_COVER_BELOW_DEFAULT : Fd := ⟨Rg.SB_COVER, 3, 1⟩
def Fd.SB_COVER_WIRE : Fd := ⟨Rg.SB_COVER, 4, 1⟩
def Fd.SB_COVER_SECOND : Fd := ⟨Rg.SB_COVER, 5, 1⟩
def Fd.SB_COVER_COVERED : Fd := ⟨Rg.SB_COVER, 8, 1⟩
/-- R499, 16_signal_box.md. -/
def Rg.SB_IRQ : Rg := ⟨0x40010024, 0x0⟩
def Fd.SB_IRQ_VEC_A : Fd := ⟨Rg.SB_IRQ, 0, 6⟩
def Fd.SB_IRQ_EN_A : Fd := ⟨Rg.SB_IRQ, 6, 1⟩
def Fd.SB_IRQ_VEC_B : Fd := ⟨Rg.SB_IRQ, 8, 6⟩
def Fd.SB_IRQ_EN_B : Fd := ⟨Rg.SB_IRQ, 14, 1⟩
/-- R499, 16_signal_box.md. -/
def Rg.SB_CNT : Rg := ⟨0x40010028, 0x0⟩
def Fd.SB_CNT_CHIP_RESETS : Fd := ⟨Rg.SB_CNT, 0, 16⟩
def Fd.SB_CNT_FAULT_ENTRIES : Fd := ⟨Rg.SB_CNT, 16, 16⟩
/-- R499, 16_signal_box.md. -/
def Rg.SB_STICKY (i : Nat) : Rg := ⟨0x40010040 + 0x4 * i, 0x0⟩
def Fd.SB_STICKY_BITS (i : Nat) : Fd := ⟨Rg.SB_STICKY i, 0, 32⟩
/-- R499, 16_signal_box.md. -/
def Rg.SB_SW (i : Nat) : Rg := ⟨0x40010050 + 0x4 * i, 0x0⟩
def Fd.SB_SW_BITS (i : Nat) : Fd := ⟨Rg.SB_SW i, 0, 32⟩
/-- R499, 16_signal_box.md. -/
def Rg.SB_WIRE (i : Nat) : Rg := ⟨0x40010060 + 0x4 * i, 0x0⟩
def Fd.SB_WIRE_BITS (i : Nat) : Fd := ⟨Rg.SB_WIRE i, 0, 32⟩
/-- R499, 16_signal_box.md. -/
def Rg.SB_CFG (i : Nat) : Rg := ⟨0x40010100 + 0x4 * i, 0x30 + 0x101 * sbDefaultCode i⟩
def Fd.SB_CFG_REACTION (i : Nat) : Fd := ⟨Rg.SB_CFG i, 0, 3⟩
def Fd.SB_CFG_ROUTE_A (i : Nat) : Fd := ⟨Rg.SB_CFG i, 4, 1⟩
def Fd.SB_CFG_ROUTE_B (i : Nat) : Fd := ⟨Rg.SB_CFG i, 5, 1⟩
def Fd.SB_CFG_ROLL (i : Nat) : Fd := ⟨Rg.SB_CFG i, 6, 1⟩
def Fd.SB_CFG_DEFAULT (i : Nat) : Fd := ⟨Rg.SB_CFG i, 8, 3⟩

/-! ### Block `tally` -/

/-- R516, 17_tally_watchdog.md. -/
def Rg.TL_CTRL : Rg := ⟨0x40020000, 0x1⟩
def Fd.TL_CTRL_EN : Fd := ⟨Rg.TL_CTRL, 0, 1⟩
def Fd.TL_CTRL_LOCK : Fd := ⟨Rg.TL_CTRL, 1, 1⟩
def Fd.TL_CTRL_DBG_HOLD : Fd := ⟨Rg.TL_CTRL, 2, 1⟩
/-- R516, 17_tally_watchdog.md. -/
def Rg.TL_STAT : Rg := ⟨0x40020004, 0x0⟩
def Fd.TL_STAT_OPEN : Fd := ⟨Rg.TL_STAT, 0, 1⟩
def Fd.TL_STAT_SUSPENDED : Fd := ⟨Rg.TL_STAT, 1, 1⟩
def Fd.TL_STAT_CLK_FALLBACK : Fd := ⟨Rg.TL_STAT, 2, 1⟩
def Fd.TL_STAT_WINFRAC : Fd := ⟨Rg.TL_STAT, 3, 2⟩
def Fd.TL_STAT_KEY_ERR : Fd := ⟨Rg.TL_STAT, 5, 1⟩
def Fd.TL_STAT_PROT_WR : Fd := ⟨Rg.TL_STAT, 6, 1⟩
def Fd.TL_STAT_RANGE : Fd := ⟨Rg.TL_STAT, 7, 1⟩
def Fd.TL_STAT_LEVEL_A : Fd := ⟨Rg.TL_STAT, 8, 1⟩
def Fd.TL_STAT_LEVEL_B : Fd := ⟨Rg.TL_STAT, 9, 1⟩
def Fd.TL_STAT_STARTED : Fd := ⟨Rg.TL_STAT, 10, 1⟩
def Fd.TL_STAT_NONE_EN : Fd := ⟨Rg.TL_STAT, 11, 1⟩
/-- R516, 17_tally_watchdog.md. -/
def Rg.TL_KEY : Rg := ⟨0x40020008, 0x0⟩
def Fd.TL_KEY_KEY : Fd := ⟨Rg.TL_KEY, 0, 16⟩
def Fd.TL_KEY_UNLOCKED : Fd := ⟨Rg.TL_KEY, 16, 1⟩
/-- R516, 17_tally_watchdog.md. -/
def Rg.TL_PERIOD : Rg := ⟨0x4002000C, 0x3E8⟩
def Fd.TL_PERIOD_PERIOD : Fd := ⟨Rg.TL_PERIOD, 0, 16⟩
/-- R516, 17_tally_watchdog.md. -/
def Rg.TL_EN : Rg := ⟨0x40020010, 0x0⟩
def Fd.TL_EN_EN : Fd := ⟨Rg.TL_EN, 0, 16⟩
/-- R516, 17_tally_watchdog.md. -/
def Rg.TL_DONE : Rg := ⟨0x40020014, 0x0⟩
def Fd.TL_DONE_DONE : Fd := ⟨Rg.TL_DONE, 0, 16⟩
def Fd.TL_DONE_EARLY : Fd := ⟨Rg.TL_DONE, 16, 16⟩
/-- R516, 17_tally_watchdog.md. -/
def Rg.TL_MISS : Rg := ⟨0x40020018, 0x0⟩
def Fd.TL_MISS_MISS : Fd := ⟨Rg.TL_MISS, 0, 16⟩
/-- R516, 17_tally_watchdog.md. -/
def Rg.TL_PHASE : Rg := ⟨0x4002001C, 0x0⟩
def Fd.TL_PHASE_US : Fd := ⟨Rg.TL_PHASE, 0, 26⟩
/-- R516, 17_tally_watchdog.md. -/
def Rg.TL_ESC : Rg := ⟨0x40020020, 0x3⟩
def Fd.TL_ESC_N : Fd := ⟨Rg.TL_ESC, 0, 4⟩
/-- R516, 17_tally_watchdog.md. -/
def Rg.TL_CONSEC : Rg := ⟨0x40020024, 0x0⟩
def Fd.TL_CONSEC_COUNT : Fd := ⟨Rg.TL_CONSEC, 0, 4⟩
/-- R516, 17_tally_watchdog.md. -/
def Rg.TL_CNT : Rg := ⟨0x40020028, 0x0⟩
def Fd.TL_CNT_MISSES : Fd := ⟨Rg.TL_CNT, 0, 8⟩
def Fd.TL_CNT_EARLY : Fd := ⟨Rg.TL_CNT, 8, 8⟩
def Fd.TL_CNT_RESTARTS : Fd := ⟨Rg.TL_CNT, 16, 8⟩
def Fd.TL_CNT_CHIP_RESETS : Fd := ⟨Rg.TL_CNT, 24, 8⟩
/-- R516, 17_tally_watchdog.md. -/
def Rg.TL_IRQ : Rg := ⟨0x4002002C, 0x0⟩
def Fd.TL_IRQ_VEC : Fd := ⟨Rg.TL_IRQ, 0, 6⟩
def Fd.TL_IRQ_EN_A : Fd := ⟨Rg.TL_IRQ, 6, 1⟩
def Fd.TL_IRQ_EN_B : Fd := ⟨Rg.TL_IRQ, 7, 1⟩
def Fd.TL_IRQ_PEND_A : Fd := ⟨Rg.TL_IRQ, 8, 1⟩
def Fd.TL_IRQ_PEND_B : Fd := ⟨Rg.TL_IRQ, 9, 1⟩

/-! ### Block `shunt` -/

/-- R447, 14_shunters_pool.md. -/
def Rg.SH_BUSY : Rg := ⟨0x40030000, 0x0⟩
def Fd.SH_BUSY_BUSY : Fd := ⟨Rg.SH_BUSY, 0, 16⟩
/-- R447, 14_shunters_pool.md. -/
def Rg.SH_EVT : Rg := ⟨0x40030004, 0x0⟩
def Fd.SH_EVT_DONE : Fd := ⟨Rg.SH_EVT, 0, 16⟩
def Fd.SH_EVT_ERR : Fd := ⟨Rg.SH_EVT, 16, 16⟩
/-- R447, 14_shunters_pool.md. -/
def Rg.SH_IRQ_EN : Rg := ⟨0x40030008, 0x0⟩
def Fd.SH_IRQ_EN_DONE : Fd := ⟨Rg.SH_IRQ_EN, 0, 16⟩
def Fd.SH_IRQ_EN_ERR : Fd := ⟨Rg.SH_IRQ_EN, 16, 16⟩
/-- R447, 14_shunters_pool.md. -/
def Rg.SH_IRQ_CFG : Rg := ⟨0x4003000C, 0x0⟩
def Fd.SH_IRQ_CFG_VEC_A : Fd := ⟨Rg.SH_IRQ_CFG, 0, 6⟩
def Fd.SH_IRQ_CFG_VEC_B : Fd := ⟨Rg.SH_IRQ_CFG, 8, 6⟩
def Fd.SH_IRQ_CFG_ROUTE : Fd := ⟨Rg.SH_IRQ_CFG, 16, 16⟩
/-- R447, 14_shunters_pool.md. -/
def Rg.SH_CTRL (i : Nat) : Rg := ⟨0x40030100 + 0x40 * i, 0x0⟩
def Fd.SH_CTRL_GO (i : Nat) : Fd := ⟨Rg.SH_CTRL i, 0, 1⟩
def Fd.SH_CTRL_RESUME (i : Nat) : Fd := ⟨Rg.SH_CTRL i, 1, 1⟩
def Fd.SH_CTRL_STOP (i : Nat) : Fd := ⟨Rg.SH_CTRL i, 2, 1⟩
/-- R447, 14_shunters_pool.md. -/
def Rg.SH_CFG (i : Nat) : Rg := ⟨0x40030104 + 0x40 * i, 0x1000⟩
def Fd.SH_CFG_HOP_LIM (i : Nat) : Fd := ⟨Rg.SH_CFG i, 0, 16⟩
def Fd.SH_CFG_PRIO (i : Nat) : Fd := ⟨Rg.SH_CFG i, 16, 2⟩
def Fd.SH_CFG_SID (i : Nat) : Fd := ⟨Rg.SH_CFG i, 20, 10⟩
/-- R447, 14_shunters_pool.md. -/
def Rg.SH_HEAD_LO (i : Nat) : Rg := ⟨0x40030108 + 0x40 * i, 0x0⟩
def Fd.SH_HEAD_LO_ADDR (i : Nat) : Fd := ⟨Rg.SH_HEAD_LO i, 0, 32⟩
/-- R447, 14_shunters_pool.md. -/
def Rg.SH_HEAD_HI (i : Nat) : Rg := ⟨0x4003010C + 0x40 * i, 0x0⟩
def Fd.SH_HEAD_HI_ADDR (i : Nat) : Fd := ⟨Rg.SH_HEAD_HI i, 0, 20⟩
def Fd.SH_HEAD_HI_LOCAL (i : Nat) : Fd := ⟨Rg.SH_HEAD_HI i, 31, 1⟩
/-- R447, 14_shunters_pool.md. -/
def Rg.SH_CUR_LO (i : Nat) : Rg := ⟨0x40030110 + 0x40 * i, 0x0⟩
def Fd.SH_CUR_LO_ADDR (i : Nat) : Fd := ⟨Rg.SH_CUR_LO i, 0, 32⟩
/-- R447, 14_shunters_pool.md. -/
def Rg.SH_CUR_HI (i : Nat) : Rg := ⟨0x40030114 + 0x40 * i, 0x0⟩
def Fd.SH_CUR_HI_ADDR (i : Nat) : Fd := ⟨Rg.SH_CUR_HI i, 0, 20⟩
def Fd.SH_CUR_HI_LOCAL (i : Nat) : Fd := ⟨Rg.SH_CUR_HI i, 31, 1⟩
/-- R447, 14_shunters_pool.md. -/
def Rg.SH_RESUME_LO (i : Nat) : Rg := ⟨0x40030118 + 0x40 * i, 0x0⟩
def Fd.SH_RESUME_LO_ADDR (i : Nat) : Fd := ⟨Rg.SH_RESUME_LO i, 0, 32⟩
/-- R447, 14_shunters_pool.md. -/
def Rg.SH_RESUME_HI (i : Nat) : Rg := ⟨0x4003011C + 0x40 * i, 0x0⟩
def Fd.SH_RESUME_HI_ADDR (i : Nat) : Fd := ⟨Rg.SH_RESUME_HI i, 0, 20⟩
def Fd.SH_RESUME_HI_LOCAL (i : Nat) : Fd := ⟨Rg.SH_RESUME_HI i, 31, 1⟩
/-- R447, 14_shunters_pool.md. -/
def Rg.SH_STAT (i : Nat) : Rg := ⟨0x40030120 + 0x40 * i, 0x0⟩
def Fd.SH_STAT_STATE (i : Nat) : Fd := ⟨Rg.SH_STAT i, 0, 2⟩
def Fd.SH_STAT_END (i : Nat) : Fd := ⟨Rg.SH_STAT i, 2, 3⟩
def Fd.SH_STAT_CODE (i : Nat) : Fd := ⟨Rg.SH_STAT i, 8, 8⟩
def Fd.SH_STAT_DETAIL (i : Nat) : Fd := ⟨Rg.SH_STAT i, 16, 8⟩
def Fd.SH_STAT_SIDE (i : Nat) : Fd := ⟨Rg.SH_STAT i, 24, 1⟩
def Fd.SH_STAT_WB_LOST (i : Nat) : Fd := ⟨Rg.SH_STAT i, 25, 1⟩
def Fd.SH_STAT_GO_IGNORED (i : Nat) : Fd := ⟨Rg.SH_STAT i, 26, 1⟩
/-- R447, 14_shunters_pool.md. -/
def Rg.SH_ERR_LO (i : Nat) : Rg := ⟨0x40030124 + 0x40 * i, 0x0⟩
def Fd.SH_ERR_LO_ADDR (i : Nat) : Fd := ⟨Rg.SH_ERR_LO i, 0, 32⟩
/-- R447, 14_shunters_pool.md. -/
def Rg.SH_ERR_HI (i : Nat) : Rg := ⟨0x40030128 + 0x40 * i, 0x0⟩
def Fd.SH_ERR_HI_ADDR (i : Nat) : Fd := ⟨Rg.SH_ERR_HI i, 0, 20⟩
def Fd.SH_ERR_HI_LOCAL (i : Nat) : Fd := ⟨Rg.SH_ERR_HI i, 31, 1⟩
/-- R447, 14_shunters_pool.md. -/
def Rg.SH_CNT (i : Nat) : Rg := ⟨0x4003012C + 0x40 * i, 0x0⟩
def Fd.SH_CNT_WAYBILLS (i : Nat) : Fd := ⟨Rg.SH_CNT i, 0, 16⟩
def Fd.SH_CNT_HOPS (i : Nat) : Fd := ⟨Rg.SH_CNT i, 16, 16⟩
/-- R447, 14_shunters_pool.md. -/
def Rg.SH_BYTES (i : Nat) : Rg := ⟨0x40030130 + 0x40 * i, 0x0⟩
def Fd.SH_BYTES_BYTES (i : Nat) : Fd := ⟨Rg.SH_BYTES i, 0, 32⟩

/-! ### Block `crcu` -/

/-- R455, 15_integrity.md. -/
def Rg.CU_CFG (i : Nat) : Rg := ⟨0x40040100 + 0x40 * i, 0x5⟩
def Fd.CU_CFG_POLY (i : Nat) : Fd := ⟨Rg.CU_CFG i, 0, 2⟩
def Fd.CU_CFG_INV (i : Nat) : Fd := ⟨Rg.CU_CFG i, 2, 1⟩
/-- R455, 15_integrity.md. -/
def Rg.CU_INIT (i : Nat) : Rg := ⟨0x40040104 + 0x40 * i, 0xFFFFFFFF⟩
def Fd.CU_INIT_INIT (i : Nat) : Fd := ⟨Rg.CU_INIT i, 0, 32⟩
/-- R455, 15_integrity.md. -/
def Rg.CU_CTRL (i : Nat) : Rg := ⟨0x40040108 + 0x40 * i, 0x0⟩
def Fd.CU_CTRL_CLAIM (i : Nat) : Fd := ⟨Rg.CU_CTRL i, 0, 1⟩
def Fd.CU_CTRL_RELEASE (i : Nat) : Fd := ⟨Rg.CU_CTRL i, 1, 1⟩
def Fd.CU_CTRL_START (i : Nat) : Fd := ⟨Rg.CU_CTRL i, 2, 1⟩
def Fd.CU_CTRL_FOLD (i : Nat) : Fd := ⟨Rg.CU_CTRL i, 3, 1⟩
/-- R455, 15_integrity.md. -/
def Rg.CU_FADDR_LO (i : Nat) : Rg := ⟨0x4004010C + 0x40 * i, 0x0⟩
def Fd.CU_FADDR_LO_ADDR (i : Nat) : Fd := ⟨Rg.CU_FADDR_LO i, 0, 32⟩
/-- R455, 15_integrity.md. -/
def Rg.CU_FADDR_HI (i : Nat) : Rg := ⟨0x40040110 + 0x40 * i, 0x0⟩
def Fd.CU_FADDR_HI_ADDR (i : Nat) : Fd := ⟨Rg.CU_FADDR_HI i, 0, 20⟩
/-- R455, 15_integrity.md. -/
def Rg.CU_FSEQ (i : Nat) : Rg := ⟨0x40040114 + 0x40 * i, 0x0⟩
def Fd.CU_FSEQ_SEQ (i : Nat) : Fd := ⟨Rg.CU_FSEQ i, 0, 32⟩
/-- R455, 15_integrity.md. -/
def Rg.CU_DATA8 (i : Nat) : Rg := ⟨0x40040118 + 0x40 * i, 0x0⟩
def Fd.CU_DATA8_DATA (i : Nat) : Fd := ⟨Rg.CU_DATA8 i, 0, 8⟩
/-- R455, 15_integrity.md. -/
def Rg.CU_DATA16 (i : Nat) : Rg := ⟨0x4004011C + 0x40 * i, 0x0⟩
def Fd.CU_DATA16_DATA (i : Nat) : Fd := ⟨Rg.CU_DATA16 i, 0, 16⟩
/-- R455, 15_integrity.md. -/
def Rg.CU_DATA32 (i : Nat) : Rg := ⟨0x40040120 + 0x40 * i, 0x0⟩
def Fd.CU_DATA32_DATA (i : Nat) : Fd := ⟨Rg.CU_DATA32 i, 0, 32⟩
/-- R455, 15_integrity.md. -/
def Rg.CU_VALUE (i : Nat) : Rg := ⟨0x40040124 + 0x40 * i, 0xFFFFFFFF⟩
def Fd.CU_VALUE_VALUE (i : Nat) : Fd := ⟨Rg.CU_VALUE i, 0, 32⟩
/-- R455, 15_integrity.md. -/
def Rg.CU_RESULT (i : Nat) : Rg := ⟨0x40040128 + 0x40 * i, 0x0⟩
def Fd.CU_RESULT_RESULT (i : Nat) : Fd := ⟨Rg.CU_RESULT i, 0, 32⟩
/-- R455, 15_integrity.md. -/
def Rg.CU_STAT (i : Nat) : Rg := ⟨0x4004012C + 0x40 * i, 0x0⟩
def Fd.CU_STAT_OWNER (i : Nat) : Fd := ⟨Rg.CU_STAT i, 0, 2⟩
def Fd.CU_STAT_SH (i : Nat) : Fd := ⟨Rg.CU_STAT i, 4, 4⟩
def Fd.CU_STAT_REFUSED (i : Nat) : Fd := ⟨Rg.CU_STAT i, 8, 1⟩
def Fd.CU_STAT_BYTES (i : Nat) : Fd := ⟨Rg.CU_STAT i, 16, 16⟩

/-! ### Block `spx` -/

/-- R539, 18_spx_port.md. -/
def Rg.SPX_CFG : Rg := ⟨0x40050000, 0x4⟩
def Fd.SPX_CFG_ROLE : Fd := ⟨Rg.SPX_CFG, 0, 2⟩
def Fd.SPX_CFG_SLAVE_EN : Fd := ⟨Rg.SPX_CFG, 2, 1⟩
def Fd.SPX_CFG_INIT_TOKEN : Fd := ⟨Rg.SPX_CFG, 3, 1⟩
/-- R539, 18_spx_port.md. -/
def Rg.SPX_MCLK : Rg := ⟨0x40050004, 0x2EE⟩
def Fd.SPX_MCLK_DIV : Fd := ⟨Rg.SPX_MCLK, 0, 11⟩
def Fd.SPX_MCLK_CPOL : Fd := ⟨Rg.SPX_MCLK, 12, 1⟩
def Fd.SPX_MCLK_CPHA : Fd := ⟨Rg.SPX_MCLK, 13, 1⟩
def Fd.SPX_MCLK_LSB_FIRST : Fd := ⟨Rg.SPX_MCLK, 14, 1⟩
def Fd.SPX_MCLK_CS_SETUP : Fd := ⟨Rg.SPX_MCLK, 16, 4⟩
def Fd.SPX_MCLK_CS_HOLD : Fd := ⟨Rg.SPX_MCLK, 20, 4⟩
def Fd.SPX_MCLK_CS_IDLE : Fd := ⟨Rg.SPX_MCLK, 24, 4⟩
/-- R539, 18_spx_port.md. -/
def Rg.SPX_MFRAME : Rg := ⟨0x40050008, 0x0⟩
def Fd.SPX_MFRAME_CMD_BITS : Fd := ⟨Rg.SPX_MFRAME, 0, 5⟩
def Fd.SPX_MFRAME_CMD_LANES : Fd := ⟨Rg.SPX_MFRAME, 5, 2⟩
def Fd.SPX_MFRAME_ADDR_BITS : Fd := ⟨Rg.SPX_MFRAME, 7, 6⟩
def Fd.SPX_MFRAME_ADDR_LANES : Fd := ⟨Rg.SPX_MFRAME, 13, 2⟩
def Fd.SPX_MFRAME_DUMMY : Fd := ⟨Rg.SPX_MFRAME, 15, 5⟩
def Fd.SPX_MFRAME_DATA_LANES : Fd := ⟨Rg.SPX_MFRAME, 20, 2⟩
def Fd.SPX_MFRAME_DIR : Fd := ⟨Rg.SPX_MFRAME, 22, 2⟩
def Fd.SPX_MFRAME_RAW : Fd := ⟨Rg.SPX_MFRAME, 24, 1⟩
def Fd.SPX_MFRAME_UNIT : Fd := ⟨Rg.SPX_MFRAME, 25, 5⟩
/-- R539, 18_spx_port.md. -/
def Rg.SPX_MCMD : Rg := ⟨0x4005000C, 0x0⟩
def Fd.SPX_MCMD_CMD : Fd := ⟨Rg.SPX_MCMD, 0, 16⟩
/-- R539, 18_spx_port.md. -/
def Rg.SPX_MADDR : Rg := ⟨0x40050010, 0x0⟩
def Fd.SPX_MADDR_ADDR : Fd := ⟨Rg.SPX_MADDR, 0, 32⟩
/-- R539, 18_spx_port.md. -/
def Rg.SPX_MLEN : Rg := ⟨0x40050014, 0x0⟩
def Fd.SPX_MLEN_LEN : Fd := ⟨Rg.SPX_MLEN, 0, 17⟩
/-- R539, 18_spx_port.md. -/
def Rg.SPX_MCTRL : Rg := ⟨0x40050018, 0x0⟩
def Fd.SPX_MCTRL_GO : Fd := ⟨Rg.SPX_MCTRL, 0, 1⟩
def Fd.SPX_MCTRL_ABORT : Fd := ⟨Rg.SPX_MCTRL, 1, 1⟩
def Fd.SPX_MCTRL_RELEASE_AFTER : Fd := ⟨Rg.SPX_MCTRL, 2, 1⟩
def Fd.SPX_MCTRL_TGT : Fd := ⟨Rg.SPX_MCTRL, 4, 4⟩
def Fd.SPX_MCTRL_TX_FLUSH : Fd := ⟨Rg.SPX_MCTRL, 8, 1⟩
def Fd.SPX_MCTRL_RX_FLUSH : Fd := ⟨Rg.SPX_MCTRL, 9, 1⟩
/-- R539, 18_spx_port.md. -/
def Rg.SPX_MSTAT : Rg := ⟨0x4005001C, 0x0⟩
def Fd.SPX_MSTAT_STATE : Fd := ⟨Rg.SPX_MSTAT, 0, 2⟩
def Fd.SPX_MSTAT_TOKEN : Fd := ⟨Rg.SPX_MSTAT, 2, 1⟩
def Fd.SPX_MSTAT_CFG_IGNORED : Fd := ⟨Rg.SPX_MSTAT, 3, 1⟩
def Fd.SPX_MSTAT_RESULT : Fd := ⟨Rg.SPX_MSTAT, 4, 3⟩
def Fd.SPX_MSTAT_DONE_BYTES : Fd := ⟨Rg.SPX_MSTAT, 8, 17⟩
/-- R539, 18_spx_port.md. -/
def Rg.SPX_FIFO : Rg := ⟨0x40050020, 0x0⟩
def Fd.SPX_FIFO_TX_LEVEL : Fd := ⟨Rg.SPX_FIFO, 0, 7⟩
def Fd.SPX_FIFO_RX_LEVEL : Fd := ⟨Rg.SPX_FIFO, 8, 7⟩
def Fd.SPX_FIFO_MBIN_LEVEL : Fd := ⟨Rg.SPX_FIFO, 16, 7⟩
def Fd.SPX_FIFO_MBOUT_LEVEL : Fd := ⟨Rg.SPX_FIFO, 24, 7⟩
/-- R539, 18_spx_port.md. -/
def Rg.SPX_SNEG : Rg := ⟨0x40050024, 0x8001⟩
def Fd.SPX_SNEG_NEG : Fd := ⟨Rg.SPX_SNEG, 0, 32⟩
/-- R539, 18_spx_port.md. -/
def Rg.SPX_SSTAT : Rg := ⟨0x40050028, 0x0⟩
def Fd.SPX_SSTAT_UNDERRUN : Fd := ⟨Rg.SPX_SSTAT, 0, 1⟩
def Fd.SPX_SSTAT_BUSY_SENT : Fd := ⟨Rg.SPX_SSTAT, 1, 1⟩
def Fd.SPX_SSTAT_REJECTED : Fd := ⟨Rg.SPX_SSTAT, 2, 1⟩
def Fd.SPX_SSTAT_WR_IGNORED : Fd := ⟨Rg.SPX_SSTAT, 3, 1⟩
def Fd.SPX_SSTAT_REJ_REASON : Fd := ⟨Rg.SPX_SSTAT, 4, 4⟩
def Fd.SPX_SSTAT_SELECTED : Fd := ⟨Rg.SPX_SSTAT, 8, 1⟩
def Fd.SPX_SSTAT_BOOT : Fd := ⟨Rg.SPX_SSTAT, 9, 1⟩
def Fd.SPX_SSTAT_BOOT_OVF : Fd := ⟨Rg.SPX_SSTAT, 10, 1⟩
def Fd.SPX_SSTAT_NEG_RESET : Fd := ⟨Rg.SPX_SSTAT, 11, 1⟩
/-- R539, 18_spx_port.md. -/
def Rg.SPX_UEVT : Rg := ⟨0x4005002C, 0x0⟩
def Fd.SPX_UEVT_WR : Fd := ⟨Rg.SPX_UEVT, 0, 32⟩
/-- R539, 18_spx_port.md. -/
def Rg.SPX_EVT : Rg := ⟨0x40050030, 0x0⟩
def Fd.SPX_EVT_M_DONE : Fd := ⟨Rg.SPX_EVT, 0, 1⟩
def Fd.SPX_EVT_M_FAULT : Fd := ⟨Rg.SPX_EVT, 1, 1⟩
def Fd.SPX_EVT_TOKEN_IN : Fd := ⟨Rg.SPX_EVT, 2, 1⟩
def Fd.SPX_EVT_S_FRAME : Fd := ⟨Rg.SPX_EVT, 3, 1⟩
def Fd.SPX_EVT_S_REJECT : Fd := ⟨Rg.SPX_EVT, 4, 1⟩
def Fd.SPX_EVT_S_UNDER : Fd := ⟨Rg.SPX_EVT, 5, 1⟩
def Fd.SPX_EVT_UREG : Fd := ⟨Rg.SPX_EVT, 6, 1⟩
def Fd.SPX_EVT_MB_IN : Fd := ⟨Rg.SPX_EVT, 7, 1⟩
def Fd.SPX_EVT_MB_OUT_SPACE : Fd := ⟨Rg.SPX_EVT, 8, 1⟩
/-- R539, 18_spx_port.md. -/
def Rg.SPX_IRQ : Rg := ⟨0x40050034, 0x0⟩
def Fd.SPX_IRQ_VEC : Fd := ⟨Rg.SPX_IRQ, 0, 6⟩
def Fd.SPX_IRQ_EN_A : Fd := ⟨Rg.SPX_IRQ, 6, 1⟩
def Fd.SPX_IRQ_EN_B : Fd := ⟨Rg.SPX_IRQ, 7, 1⟩
def Fd.SPX_IRQ_EN : Fd := ⟨Rg.SPX_IRQ, 8, 9⟩
/-- R539, 18_spx_port.md. -/
def Rg.SPX_CNT : Rg := ⟨0x40050038, 0x0⟩
def Fd.SPX_CNT_S_FRAMES : Fd := ⟨Rg.SPX_CNT, 0, 16⟩
def Fd.SPX_CNT_S_REJECTS : Fd := ⟨Rg.SPX_CNT, 16, 8⟩
def Fd.SPX_CNT_MODE_FAULTS : Fd := ⟨Rg.SPX_CNT, 24, 8⟩
/-- R539, 18_spx_port.md. -/
def Rg.SPX_UREG (i : Nat) : Rg := ⟨0x40050100 + 0x4 * i, 0x0⟩
def Fd.SPX_UREG_VALUE (i : Nat) : Fd := ⟨Rg.SPX_UREG i, 0, 32⟩

/-! ### Block `orvia` -/

/-- R397, 12_orvia_link.md. -/
def Rg.OV_NODE : Rg := ⟨0x40060000, 0x0⟩
def Fd.OV_NODE_ID : Fd := ⟨Rg.OV_NODE, 0, 10⟩
def Fd.OV_NODE_NUMBERED : Fd := ⟨Rg.OV_NODE, 10, 1⟩
def Fd.OV_NODE_SRC : Fd := ⟨Rg.OV_NODE, 11, 2⟩
def Fd.OV_NODE_DUP : Fd := ⟨Rg.OV_NODE, 13, 1⟩
/-- R397, 12_orvia_link.md. -/
def Rg.OV_CFG : Rg := ⟨0x40060004, 0x0⟩
def Fd.OV_CFG_ASSIGN_EN : Fd := ⟨Rg.OV_CFG, 0, 1⟩
def Fd.OV_CFG_RING_EXPECTED : Fd := ⟨Rg.OV_CFG, 1, 1⟩
/-- R397, 12_orvia_link.md. -/
def Rg.OV_TOPO : Rg := ⟨0x40060008, 0x0⟩
def Fd.OV_TOPO_MODE : Fd := ⟨Rg.OV_TOPO, 0, 2⟩
def Fd.OV_TOPO_POINTS_E : Fd := ⟨Rg.OV_TOPO, 2, 1⟩
def Fd.OV_TOPO_POINTS_W : Fd := ⟨Rg.OV_TOPO, 3, 1⟩
def Fd.OV_TOPO_SEGMENTED : Fd := ⟨Rg.OV_TOPO, 4, 1⟩
def Fd.OV_TOPO_NODES : Fd := ⟨Rg.OV_TOPO, 16, 11⟩
/-- R397, 12_orvia_link.md. -/
def Rg.OV_EVT : Rg := ⟨0x4006000C, 0x0⟩
def Fd.OV_EVT_E_UP : Fd := ⟨Rg.OV_EVT, 0, 1⟩
def Fd.OV_EVT_E_DOWN : Fd := ⟨Rg.OV_EVT, 1, 1⟩
def Fd.OV_EVT_W_UP : Fd := ⟨Rg.OV_EVT, 2, 1⟩
def Fd.OV_EVT_W_DOWN : Fd := ⟨Rg.OV_EVT, 3, 1⟩
def Fd.OV_EVT_POINTS : Fd := ⟨Rg.OV_EVT, 4, 1⟩
def Fd.OV_EVT_TOPO : Fd := ⟨Rg.OV_EVT, 5, 1⟩
def Fd.OV_EVT_DUP : Fd := ⟨Rg.OV_EVT, 6, 1⟩
def Fd.OV_EVT_VDROP : Fd := ⟨Rg.OV_EVT, 7, 1⟩
def Fd.OV_EVT_TX_DONE : Fd := ⟨Rg.OV_EVT, 8, 1⟩
/-- R397, 12_orvia_link.md. -/
def Rg.OV_IRQ : Rg := ⟨0x40060010, 0x0⟩
def Fd.OV_IRQ_VEC : Fd := ⟨Rg.OV_IRQ, 0, 6⟩
def Fd.OV_IRQ_EN_A : Fd := ⟨Rg.OV_IRQ, 6, 1⟩
def Fd.OV_IRQ_EN_B : Fd := ⟨Rg.OV_IRQ, 7, 1⟩
def Fd.OV_IRQ_EN : Fd := ⟨Rg.OV_IRQ, 8, 9⟩
/-- R397, 12_orvia_link.md. -/
def Rg.OV_TX_SN_LO : Rg := ⟨0x40060014, 0x0⟩
def Fd.OV_TX_SN_LO_SN : Fd := ⟨Rg.OV_TX_SN_LO, 0, 32⟩
/-- R397, 12_orvia_link.md. -/
def Rg.OV_TX_SN_HI : Rg := ⟨0x40060018, 0x0⟩
def Fd.OV_TX_SN_HI_SN : Fd := ⟨Rg.OV_TX_SN_HI, 0, 32⟩
/-- R397, 12_orvia_link.md. -/
def Rg.OV_TX_CMD : Rg := ⟨0x4006001C, 0x0⟩
def Fd.OV_TX_CMD_NODE : Fd := ⟨Rg.OV_TX_CMD, 0, 10⟩
def Fd.OV_TX_CMD_KIND : Fd := ⟨Rg.OV_TX_CMD, 10, 2⟩
def Fd.OV_TX_CMD_GO : Fd := ⟨Rg.OV_TX_CMD, 12, 1⟩
def Fd.OV_TX_CMD_RESULT : Fd := ⟨Rg.OV_TX_CMD, 13, 2⟩
/-- R397, 12_orvia_link.md. -/
def Rg.OV_CNT_DUP : Rg := ⟨0x40060020, 0x0⟩
def Fd.OV_CNT_DUP_COUNT : Fd := ⟨Rg.OV_CNT_DUP, 0, 32⟩
/-- R397, 12_orvia_link.md. -/
def Rg.OV_PSTAT (i : Nat) : Rg := ⟨0x40060100 + 0x100 * i, 0x0⟩
def Fd.OV_PSTAT_STATE (i : Nat) : Fd := ⟨Rg.OV_PSTAT i, 0, 3⟩
def Fd.OV_PSTAT_REV (i : Nat) : Fd := ⟨Rg.OV_PSTAT i, 4, 2⟩
def Fd.OV_PSTAT_LOSS (i : Nat) : Fd := ⟨Rg.OV_PSTAT i, 6, 3⟩
def Fd.OV_PSTAT_FAIL (i : Nat) : Fd := ⟨Rg.OV_PSTAT i, 9, 3⟩
def Fd.OV_PSTAT_PEER_NUMBERED (i : Nat) : Fd := ⟨Rg.OV_PSTAT i, 12, 1⟩
def Fd.OV_PSTAT_PEER_PORT (i : Nat) : Fd := ⟨Rg.OV_PSTAT i, 13, 1⟩
def Fd.OV_PSTAT_PEER_ID (i : Nat) : Fd := ⟨Rg.OV_PSTAT i, 16, 10⟩
/-- R397, 12_orvia_link.md. -/
def Rg.OV_PCTRL (i : Nat) : Rg := ⟨0x40060104 + 0x100 * i, 0x0⟩
def Fd.OV_PCTRL_DISABLE (i : Nat) : Fd := ⟨Rg.OV_PCTRL i, 0, 1⟩
def Fd.OV_PCTRL_RETRAIN (i : Nat) : Fd := ⟨Rg.OV_PCTRL i, 1, 1⟩
/-- R397, 12_orvia_link.md. -/
def Rg.OV_PEER_SN_LO (i : Nat) : Rg := ⟨0x40060108 + 0x100 * i, 0x0⟩
def Fd.OV_PEER_SN_LO_SN (i : Nat) : Fd := ⟨Rg.OV_PEER_SN_LO i, 0, 32⟩
/-- R397, 12_orvia_link.md. -/
def Rg.OV_PEER_SN_HI (i : Nat) : Rg := ⟨0x4006010C + 0x100 * i, 0x0⟩
def Fd.OV_PEER_SN_HI_SN (i : Nat) : Fd := ⟨Rg.OV_PEER_SN_HI i, 0, 32⟩
/-- R397, 12_orvia_link.md. -/
def Rg.OV_DELAY (i : Nat) : Rg := ⟨0x40060110 + 0x100 * i, 0x0⟩
def Fd.OV_DELAY_DELAY (i : Nat) : Fd := ⟨Rg.OV_DELAY i, 0, 16⟩
/-- R397, 12_orvia_link.md. -/
def Rg.OV_ERR (i : Nat) : Rg := ⟨0x40060114 + 0x100 * i, 0x0⟩
def Fd.OV_ERR_CRC (i : Nat) : Fd := ⟨Rg.OV_ERR i, 0, 16⟩
def Fd.OV_ERR_CODE (i : Nat) : Fd := ⟨Rg.OV_ERR i, 16, 8⟩
def Fd.OV_ERR_ELASTIC (i : Nat) : Fd := ⟨Rg.OV_ERR i, 24, 8⟩
/-- R397, 12_orvia_link.md. -/
def Rg.OV_REPLAY (i : Nat) : Rg := ⟨0x40060118 + 0x100 * i, 0x0⟩
def Fd.OV_REPLAY_NACKS (i : Nat) : Fd := ⟨Rg.OV_REPLAY i, 0, 16⟩
def Fd.OV_REPLAY_REPLAYS (i : Nat) : Fd := ⟨Rg.OV_REPLAY i, 16, 16⟩
/-- R397, 12_orvia_link.md. -/
def Rg.OV_DROP (i : Nat) : Rg := ⟨0x4006011C + 0x100 * i, 0x0⟩
def Fd.OV_DROP_VERSION (i : Nat) : Fd := ⟨Rg.OV_DROP i, 0, 16⟩
def Fd.OV_DROP_TYPE (i : Nat) : Fd := ⟨Rg.OV_DROP i, 16, 8⟩
def Fd.OV_DROP_ORPHAN (i : Nat) : Fd := ⟨Rg.OV_DROP i, 24, 8⟩
/-- R397, 12_orvia_link.md. -/
def Rg.OV_WHISTLE (i : Nat) : Rg := ⟨0x40060120 + 0x100 * i, 0x0⟩
def Fd.OV_WHISTLE_TX (i : Nat) : Fd := ⟨Rg.OV_WHISTLE i, 0, 8⟩
def Fd.OV_WHISTLE_RX (i : Nat) : Fd := ⟨Rg.OV_WHISTLE i, 8, 8⟩
def Fd.OV_WHISTLE_BAD (i : Nat) : Fd := ⟨Rg.OV_WHISTLE i, 16, 8⟩
def Fd.OV_WHISTLE_DUP (i : Nat) : Fd := ⟨Rg.OV_WHISTLE i, 24, 8⟩
/-- R397, 12_orvia_link.md. -/
def Rg.OV_LOSS (i : Nat) : Rg := ⟨0x40060124 + 0x100 * i, 0x0⟩
def Fd.OV_LOSS_LOSSES (i : Nat) : Fd := ⟨Rg.OV_LOSS i, 0, 8⟩
/-- R397, 12_orvia_link.md. -/
def Rg.OV_RBUF (i : Nat) : Rg := ⟨0x40060128 + 0x100 * i, 0x0⟩
def Fd.OV_RBUF_BYTES (i : Nat) : Fd := ⟨Rg.OV_RBUF i, 0, 15⟩
def Fd.OV_RBUF_FRAMES (i : Nat) : Fd := ⟨Rg.OV_RBUF i, 16, 11⟩

/-! ### Block `ttbl` -/

/-- R241, 07_timetable_manifest.md. -/
def Rg.TT_STAT : Rg := ⟨0x40070000, 0x0⟩
def Fd.TT_STAT_LOCKED : Fd := ⟨Rg.TT_STAT, 0, 1⟩
def Fd.TT_STAT_MASTER : Fd := ⟨Rg.TT_STAT, 1, 1⟩
def Fd.TT_STAT_HOLDOVER : Fd := ⟨Rg.TT_STAT, 2, 1⟩
def Fd.TT_STAT_SLEWING : Fd := ⟨Rg.TT_STAT, 3, 1⟩
def Fd.TT_STAT_BOUND_VIOL : Fd := ⟨Rg.TT_STAT, 4, 1⟩
def Fd.TT_STAT_CHG_REFUSED : Fd := ⟨Rg.TT_STAT, 5, 1⟩
def Fd.TT_STAT_PERIOD_MISMATCH : Fd := ⟨Rg.TT_STAT, 6, 1⟩
def Fd.TT_STAT_CHG_PENDING : Fd := ⟨Rg.TT_STAT, 7, 1⟩
/-- R241, 07_timetable_manifest.md. -/
def Rg.TT_MASTER : Rg := ⟨0x40070004, 0x103FF⟩
def Fd.TT_MASTER_MASTER_ID : Fd := ⟨Rg.TT_MASTER, 0, 10⟩
def Fd.TT_MASTER_REV : Fd := ⟨Rg.TT_MASTER, 14, 2⟩
def Fd.TT_MASTER_FMT : Fd := ⟨Rg.TT_MASTER, 16, 2⟩
/-- R241, 07_timetable_manifest.md. -/
def Rg.TT_TIME_LO : Rg := ⟨0x40070008, 0x0⟩
def Fd.TT_TIME_LO_TIME : Fd := ⟨Rg.TT_TIME_LO, 0, 32⟩
/-- R241, 07_timetable_manifest.md. -/
def Rg.TT_TIME_HI : Rg := ⟨0x4007000C, 0x0⟩
def Fd.TT_TIME_HI_TIME : Fd := ⟨Rg.TT_TIME_HI, 0, 32⟩
/-- R241, 07_timetable_manifest.md. -/
def Rg.TT_EPOCH_LO : Rg := ⟨0x40070010, 0x0⟩
def Fd.TT_EPOCH_LO_EPOCH : Fd := ⟨Rg.TT_EPOCH_LO, 0, 32⟩
/-- R241, 07_timetable_manifest.md. -/
def Rg.TT_EPOCH_HI : Rg := ⟨0x40070014, 0x0⟩
def Fd.TT_EPOCH_HI_EPOCH : Fd := ⟨Rg.TT_EPOCH_HI, 0, 32⟩
/-- R241, 07_timetable_manifest.md. -/
def Rg.TT_PERIOD : Rg := ⟨0x40070018, 0x3E8⟩
def Fd.TT_PERIOD_PERIOD : Fd := ⟨Rg.TT_PERIOD, 0, 20⟩
/-- R241, 07_timetable_manifest.md. -/
def Rg.TT_PERIOD_ACT : Rg := ⟨0x4007001C, 0x0⟩
def Fd.TT_PERIOD_ACT_PERIOD : Fd := ⟨Rg.TT_PERIOD_ACT, 0, 20⟩
/-- R241, 07_timetable_manifest.md. -/
def Rg.TT_CHG_EPOCH : Rg := ⟨0x40070020, 0x0⟩
def Fd.TT_CHG_EPOCH_EPOCH : Fd := ⟨Rg.TT_CHG_EPOCH, 0, 32⟩
/-- R241, 07_timetable_manifest.md. -/
def Rg.TT_CLOSE : Rg := ⟨0x40070024, 0x0⟩
def Fd.TT_CLOSE_C : Fd := ⟨Rg.TT_CLOSE, 0, 20⟩
def Fd.TT_CLOSE_CAPPED : Fd := ⟨Rg.TT_CLOSE, 20, 1⟩
/-- R241, 07_timetable_manifest.md. -/
def Rg.TT_BOUND : Rg := ⟨0x40070028, 0x0⟩
def Fd.TT_BOUND_BOUND : Fd := ⟨Rg.TT_BOUND, 0, 20⟩
/-- R241, 07_timetable_manifest.md. -/
def Rg.TT_TOPO : Rg := ⟨0x4007002C, 0x0⟩
def Fd.TT_TOPO_H : Fd := ⟨Rg.TT_TOPO, 0, 11⟩
def Fd.TT_TOPO_RING : Fd := ⟨Rg.TT_TOPO, 11, 1⟩
def Fd.TT_TOPO_HOP_NS : Fd := ⟨Rg.TT_TOPO, 16, 16⟩
/-- R241, 07_timetable_manifest.md. -/
def Rg.TT_VOLUME : Rg := ⟨0x40070030, 0x0⟩
def Fd.TT_VOLUME_V : Fd := ⟨Rg.TT_VOLUME, 0, 20⟩
/-- R241, 07_timetable_manifest.md. -/
def Rg.TT_OFFSET : Rg := ⟨0x40070034, 0x0⟩
def Fd.TT_OFFSET_OFFSET : Fd := ⟨Rg.TT_OFFSET, 0, 32⟩
/-- R241, 07_timetable_manifest.md. -/
def Rg.TT_IRQ : Rg := ⟨0x40070038, 0x0⟩
def Fd.TT_IRQ_VEC : Fd := ⟨Rg.TT_IRQ, 0, 6⟩
def Fd.TT_IRQ_EN_A : Fd := ⟨Rg.TT_IRQ, 6, 1⟩
def Fd.TT_IRQ_EN_B : Fd := ⟨Rg.TT_IRQ, 7, 1⟩
def Fd.TT_IRQ_PEND_A : Fd := ⟨Rg.TT_IRQ, 8, 1⟩
def Fd.TT_IRQ_PEND_B : Fd := ⟨Rg.TT_IRQ, 9, 1⟩
/-- R241, 07_timetable_manifest.md. -/
def Rg.TT_CNT : Rg := ⟨0x4007003C, 0x0⟩
def Fd.TT_CNT_MASTER_CHG : Fd := ⟨Rg.TT_CNT, 0, 8⟩
def Fd.TT_CNT_STEPS : Fd := ⟨Rg.TT_CNT, 8, 8⟩
def Fd.TT_CNT_LOCK_LOSS : Fd := ⟨Rg.TT_CNT, 16, 8⟩

/-! ### Block `mani` -/

/-- R242, 07_timetable_manifest.md. -/
def Rg.MANI_CFG : Rg := ⟨0x40080000, 0x800⟩
def Fd.MANI_CFG_EN : Fd := ⟨Rg.MANI_CFG, 0, 1⟩
def Fd.MANI_CFG_POLICY : Fd := ⟨Rg.MANI_CFG, 1, 1⟩
def Fd.MANI_CFG_MISS_LIM : Fd := ⟨Rg.MANI_CFG, 8, 8⟩
/-- R242, 07_timetable_manifest.md. -/
def Rg.MANI_STAT : Rg := ⟨0x40080004, 0x0⟩
def Fd.MANI_STAT_BANKS : Fd := ⟨Rg.MANI_STAT, 0, 3⟩
def Fd.MANI_STAT_CLOSED : Fd := ⟨Rg.MANI_STAT, 3, 1⟩
def Fd.MANI_STAT_CFG_BAD : Fd := ⟨Rg.MANI_STAT, 4, 1⟩
def Fd.MANI_STAT_PUB_POISON : Fd := ⟨Rg.MANI_STAT, 5, 1⟩
def Fd.MANI_STAT_IMG_BAD : Fd := ⟨Rg.MANI_STAT, 6, 1⟩
/-- R242, 07_timetable_manifest.md. -/
def Rg.MANI_IMG_BASE : Rg := ⟨0x40080008, 0x0⟩
def Fd.MANI_IMG_BASE_BASE : Fd := ⟨Rg.MANI_IMG_BASE, 12, 12⟩
/-- R242, 07_timetable_manifest.md. -/
def Rg.MANI_BANK_SIZE : Rg := ⟨0x4008000C, 0x0⟩
def Fd.MANI_BANK_SIZE_SIZE : Fd := ⟨Rg.MANI_BANK_SIZE, 12, 7⟩
/-- R242, 07_timetable_manifest.md. -/
def Rg.MANI_HOLD_A0 : Rg := ⟨0x40080010, 0x0⟩
def Fd.MANI_HOLD_A0_BANK : Fd := ⟨Rg.MANI_HOLD_A0, 0, 3⟩
def Fd.MANI_HOLD_A0_VALID : Fd := ⟨Rg.MANI_HOLD_A0, 3, 1⟩
def Fd.MANI_HOLD_A0_EPOCH : Fd := ⟨Rg.MANI_HOLD_A0, 16, 16⟩
/-- R242, 07_timetable_manifest.md. -/
def Rg.MANI_HOLD_A1 : Rg := ⟨0x40080014, 0x0⟩
def Fd.MANI_HOLD_A1_BANK : Fd := ⟨Rg.MANI_HOLD_A1, 0, 3⟩
def Fd.MANI_HOLD_A1_VALID : Fd := ⟨Rg.MANI_HOLD_A1, 3, 1⟩
def Fd.MANI_HOLD_A1_EPOCH : Fd := ⟨Rg.MANI_HOLD_A1, 16, 16⟩
/-- R242, 07_timetable_manifest.md. -/
def Rg.MANI_HOLD_B0 : Rg := ⟨0x40080018, 0x0⟩
def Fd.MANI_HOLD_B0_BANK : Fd := ⟨Rg.MANI_HOLD_B0, 0, 3⟩
def Fd.MANI_HOLD_B0_VALID : Fd := ⟨Rg.MANI_HOLD_B0, 3, 1⟩
def Fd.MANI_HOLD_B0_EPOCH : Fd := ⟨Rg.MANI_HOLD_B0, 16, 16⟩
/-- R242, 07_timetable_manifest.md. -/
def Rg.MANI_HOLD_B1 : Rg := ⟨0x4008001C, 0x0⟩
def Fd.MANI_HOLD_B1_BANK : Fd := ⟨Rg.MANI_HOLD_B1, 0, 3⟩
def Fd.MANI_HOLD_B1_VALID : Fd := ⟨Rg.MANI_HOLD_B1, 3, 1⟩
def Fd.MANI_HOLD_B1_EPOCH : Fd := ⟨Rg.MANI_HOLD_B1, 16, 16⟩
/-- R242, 07_timetable_manifest.md. -/
def Rg.MANI_MISS : Rg := ⟨0x40080020, 0x0⟩
def Fd.MANI_MISS_MISS_A : Fd := ⟨Rg.MANI_MISS, 0, 8⟩
def Fd.MANI_MISS_MISS_B : Fd := ⟨Rg.MANI_MISS, 8, 8⟩
def Fd.MANI_MISS_STARTED_A : Fd := ⟨Rg.MANI_MISS, 16, 1⟩
def Fd.MANI_MISS_STARTED_B : Fd := ⟨Rg.MANI_MISS, 17, 1⟩
/-- R242, 07_timetable_manifest.md. -/
def Rg.MANI_PEEKABLE : Rg := ⟨0x40080024, 0x0⟩
def Fd.MANI_PEEKABLE_CH : Fd := ⟨Rg.MANI_PEEKABLE, 0, 16⟩
/-- R242, 07_timetable_manifest.md. -/
def Rg.MANI_REVT_CTRL : Rg := ⟨0x40080028, 0x0⟩
def Fd.MANI_REVT_CTRL_VEC_A : Fd := ⟨Rg.MANI_REVT_CTRL, 0, 6⟩
def Fd.MANI_REVT_CTRL_EN_A : Fd := ⟨Rg.MANI_REVT_CTRL, 6, 1⟩
def Fd.MANI_REVT_CTRL_VEC_B : Fd := ⟨Rg.MANI_REVT_CTRL, 8, 6⟩
def Fd.MANI_REVT_CTRL_EN_B : Fd := ⟨Rg.MANI_REVT_CTRL, 14, 1⟩
def Fd.MANI_REVT_CTRL_OVF_A : Fd := ⟨Rg.MANI_REVT_CTRL, 16, 1⟩
def Fd.MANI_REVT_CTRL_OVF_B : Fd := ⟨Rg.MANI_REVT_CTRL, 17, 1⟩
/-- R242, 07_timetable_manifest.md. -/
def Rg.MANI_REVT_A : Rg := ⟨0x4008002C, 0x0⟩
def Fd.MANI_REVT_A_CH : Fd := ⟨Rg.MANI_REVT_A, 0, 4⟩
def Fd.MANI_REVT_A_REASON : Fd := ⟨Rg.MANI_REVT_A, 4, 3⟩
def Fd.MANI_REVT_A_DEPTH : Fd := ⟨Rg.MANI_REVT_A, 8, 4⟩
def Fd.MANI_REVT_A_PROD_NODE : Fd := ⟨Rg.MANI_REVT_A, 12, 10⟩
def Fd.MANI_REVT_A_PROD_CH : Fd := ⟨Rg.MANI_REVT_A, 22, 4⟩
def Fd.MANI_REVT_A_EPOCH : Fd := ⟨Rg.MANI_REVT_A, 26, 6⟩
/-- R242, 07_timetable_manifest.md. -/
def Rg.MANI_REVT_B : Rg := ⟨0x40080030, 0x0⟩
def Fd.MANI_REVT_B_CH : Fd := ⟨Rg.MANI_REVT_B, 0, 4⟩
def Fd.MANI_REVT_B_REASON : Fd := ⟨Rg.MANI_REVT_B, 4, 3⟩
def Fd.MANI_REVT_B_DEPTH : Fd := ⟨Rg.MANI_REVT_B, 8, 4⟩
def Fd.MANI_REVT_B_PROD_NODE : Fd := ⟨Rg.MANI_REVT_B, 12, 10⟩
def Fd.MANI_REVT_B_PROD_CH : Fd := ⟨Rg.MANI_REVT_B, 22, 4⟩
def Fd.MANI_REVT_B_EPOCH : Fd := ⟨Rg.MANI_REVT_B, 26, 6⟩
/-- R242, 07_timetable_manifest.md. -/
def Rg.MANI_CNT_STALE : Rg := ⟨0x40080034, 0x0⟩
def Fd.MANI_CNT_STALE_COUNT : Fd := ⟨Rg.MANI_CNT_STALE, 0, 32⟩
/-- R242, 07_timetable_manifest.md. -/
def Rg.MANI_CNT_DISC : Rg := ⟨0x40080038, 0x0⟩
def Fd.MANI_CNT_DISC_BAD_CHECK : Fd := ⟨Rg.MANI_CNT_DISC, 0, 16⟩
def Fd.MANI_CNT_DISC_LATE : Fd := ⟨Rg.MANI_CNT_DISC, 16, 16⟩
/-- R242, 07_timetable_manifest.md. -/
def Rg.MANI_VOLUME : Rg := ⟨0x4008003C, 0x0⟩
def Fd.MANI_VOLUME_BYTES : Fd := ⟨Rg.MANI_VOLUME, 0, 11⟩
def Fd.MANI_VOLUME_ENTRIES : Fd := ⟨Rg.MANI_VOLUME, 16, 7⟩
/-- R242, 07_timetable_manifest.md. -/
def Rg.PUB0 (i : Nat) : Rg := ⟨0x40082000 + 0x10 * i, 0x0⟩
def Fd.PUB0_SRC (i : Nat) : Fd := ⟨Rg.PUB0 i, 0, 2⟩
def Fd.PUB0_LEN (i : Nat) : Fd := ⟨Rg.PUB0 i, 8, 8⟩
def Fd.PUB0_CHMASK (i : Nat) : Fd := ⟨Rg.PUB0 i, 16, 16⟩
/-- R242, 07_timetable_manifest.md. -/
def Rg.PUB4 (i : Nat) : Rg := ⟨0x40082004 + 0x10 * i, 0x0⟩
def Fd.PUB4_ADDR (i : Nat) : Fd := ⟨Rg.PUB4 i, 0, 32⟩
/-- R242, 07_timetable_manifest.md. -/
def Rg.SUB0 (i : Nat) : Rg := ⟨0x40084000 + 0x8 * i, 0x0⟩
def Fd.SUB0_NODE (i : Nat) : Fd := ⟨Rg.SUB0 i, 0, 10⟩
def Fd.SUB0_ENTRY (i : Nat) : Fd := ⟨Rg.SUB0 i, 10, 6⟩
def Fd.SUB0_OFFSET (i : Nat) : Fd := ⟨Rg.SUB0 i, 16, 14⟩
def Fd.SUB0_EN (i : Nat) : Fd := ⟨Rg.SUB0 i, 31, 1⟩
/-- R242, 07_timetable_manifest.md. -/
def Rg.SUB4 (i : Nat) : Rg := ⟨0x40084004 + 0x8 * i, 0x0⟩
def Fd.SUB4_MAXLEN (i : Nat) : Fd := ⟨Rg.SUB4 i, 0, 8⟩

/-! ### Block `sess` -/

/-- R416, 13_station_access.md. -/
def Rg.SS_CTRL : Rg := ⟨0x40090000, 0x0⟩
def Fd.SS_CTRL_OPEN : Fd := ⟨Rg.SS_CTRL, 0, 1⟩
def Fd.SS_CTRL_BOOT : Fd := ⟨Rg.SS_CTRL, 1, 1⟩
/-- R416, 13_station_access.md. -/
def Rg.SS_ADM : Rg := ⟨0x40090004, 0xF14814⟩
def Fd.SS_ADM_SAFETY_SHARE : Fd := ⟨Rg.SS_ADM, 0, 6⟩
def Fd.SS_ADM_W_CTRL : Fd := ⟨Rg.SS_ADM, 8, 4⟩
def Fd.SS_ADM_W_SUP : Fd := ⟨Rg.SS_ADM, 12, 4⟩
def Fd.SS_ADM_W_BULK : Fd := ⟨Rg.SS_ADM, 16, 4⟩
def Fd.SS_ADM_CLASS_EN : Fd := ⟨Rg.SS_ADM, 20, 4⟩
/-- R416, 13_station_access.md. -/
def Rg.SS_QUEUE : Rg := ⟨0x40090008, 0x0⟩
def Fd.SS_QUEUE_SAFETY : Fd := ⟨Rg.SS_QUEUE, 0, 8⟩
def Fd.SS_QUEUE_CONTROL : Fd := ⟨Rg.SS_QUEUE, 8, 8⟩
def Fd.SS_QUEUE_SUP : Fd := ⟨Rg.SS_QUEUE, 16, 8⟩
def Fd.SS_QUEUE_BULK : Fd := ⟨Rg.SS_QUEUE, 24, 8⟩
/-- R416, 13_station_access.md. -/
def Rg.SS_BOOT : Rg := ⟨0x4009000C, 0x0⟩
def Fd.SS_BOOT_SIZE : Fd := ⟨Rg.SS_BOOT, 0, 25⟩
/-- R416, 13_station_access.md. -/
def Rg.SS_WIN_A0 : Rg := ⟨0x40090010, 0x0⟩
def Fd.SS_WIN_A0_SID : Fd := ⟨Rg.SS_WIN_A0, 0, 10⟩
def Fd.SS_WIN_A0_VALID : Fd := ⟨Rg.SS_WIN_A0, 10, 1⟩
/-- R416, 13_station_access.md. -/
def Rg.SS_WIN_A1 : Rg := ⟨0x40090014, 0x0⟩
def Fd.SS_WIN_A1_SID : Fd := ⟨Rg.SS_WIN_A1, 0, 10⟩
def Fd.SS_WIN_A1_VALID : Fd := ⟨Rg.SS_WIN_A1, 10, 1⟩
/-- R416, 13_station_access.md. -/
def Rg.SS_WIN_B0 : Rg := ⟨0x40090018, 0x0⟩
def Fd.SS_WIN_B0_SID : Fd := ⟨Rg.SS_WIN_B0, 0, 10⟩
def Fd.SS_WIN_B0_VALID : Fd := ⟨Rg.SS_WIN_B0, 10, 1⟩
/-- R416, 13_station_access.md. -/
def Rg.SS_WIN_B1 : Rg := ⟨0x4009001C, 0x0⟩
def Fd.SS_WIN_B1_SID : Fd := ⟨Rg.SS_WIN_B1, 0, 10⟩
def Fd.SS_WIN_B1_VALID : Fd := ⟨Rg.SS_WIN_B1, 10, 1⟩
/-- R416, 13_station_access.md. -/
def Rg.SS_LAST_A0 : Rg := ⟨0x40090020, 0x0⟩
def Fd.SS_LAST_A0_REPLY : Fd := ⟨Rg.SS_LAST_A0, 0, 8⟩
def Fd.SS_LAST_A0_TGEN : Fd := ⟨Rg.SS_LAST_A0, 8, 8⟩
def Fd.SS_LAST_A0_QDEPTH : Fd := ⟨Rg.SS_LAST_A0, 16, 8⟩
/-- R416, 13_station_access.md. -/
def Rg.SS_LAST_A1 : Rg := ⟨0x40090024, 0x0⟩
def Fd.SS_LAST_A1_REPLY : Fd := ⟨Rg.SS_LAST_A1, 0, 8⟩
def Fd.SS_LAST_A1_TGEN : Fd := ⟨Rg.SS_LAST_A1, 8, 8⟩
def Fd.SS_LAST_A1_QDEPTH : Fd := ⟨Rg.SS_LAST_A1, 16, 8⟩
/-- R416, 13_station_access.md. -/
def Rg.SS_LAST_B0 : Rg := ⟨0x40090028, 0x0⟩
def Fd.SS_LAST_B0_REPLY : Fd := ⟨Rg.SS_LAST_B0, 0, 8⟩
def Fd.SS_LAST_B0_TGEN : Fd := ⟨Rg.SS_LAST_B0, 8, 8⟩
def Fd.SS_LAST_B0_QDEPTH : Fd := ⟨Rg.SS_LAST_B0, 16, 8⟩
/-- R416, 13_station_access.md. -/
def Rg.SS_LAST_B1 : Rg := ⟨0x4009002C, 0x0⟩
def Fd.SS_LAST_B1_REPLY : Fd := ⟨Rg.SS_LAST_B1, 0, 8⟩
def Fd.SS_LAST_B1_TGEN : Fd := ⟨Rg.SS_LAST_B1, 8, 8⟩
def Fd.SS_LAST_B1_QDEPTH : Fd := ⟨Rg.SS_LAST_B1, 16, 8⟩
/-- R416, 13_station_access.md. -/
def Rg.SS_CNT_REFUSE : Rg := ⟨0x40090030, 0x0⟩
def Fd.SS_CNT_REFUSE_SERVER : Fd := ⟨Rg.SS_CNT_REFUSE, 0, 16⟩
def Fd.SS_CNT_REFUSE_CLIENT : Fd := ⟨Rg.SS_CNT_REFUSE, 16, 16⟩
/-- R416, 13_station_access.md. -/
def Rg.SS_CNT_AUTH : Rg := ⟨0x40090034, 0x0⟩
def Fd.SS_CNT_AUTH_TAG : Fd := ⟨Rg.SS_CNT_AUTH, 0, 16⟩
def Fd.SS_CNT_AUTH_REPLAY : Fd := ⟨Rg.SS_CNT_AUTH, 16, 16⟩
/-- R416, 13_station_access.md. -/
def Rg.SS_CNT_STALE : Rg := ⟨0x40090038, 0x0⟩
def Fd.SS_CNT_STALE_DISCARD : Fd := ⟨Rg.SS_CNT_STALE, 0, 16⟩
def Fd.SS_CNT_STALE_LATE : Fd := ⟨Rg.SS_CNT_STALE, 16, 16⟩
/-- R416, 13_station_access.md. -/
def Rg.SS_CNT_BCAST : Rg := ⟨0x4009003C, 0x0⟩
def Fd.SS_CNT_BCAST_REFUSED : Fd := ⟨Rg.SS_CNT_BCAST, 0, 16⟩
/-- R416, 13_station_access.md. -/
def Rg.SS_SEL : Rg := ⟨0x40090100, 0x0⟩
def Fd.SS_SEL_ID : Fd := ⟨Rg.SS_SEL, 0, 10⟩
/-- R416, 13_station_access.md. -/
def Rg.SS_E_CFG : Rg := ⟨0x40090104, 0x0⟩
def Fd.SS_E_CFG_VALID : Fd := ⟨Rg.SS_E_CFG, 0, 1⟩
def Fd.SS_E_CFG_CLASS : Fd := ⟨Rg.SS_E_CFG, 1, 3⟩
def Fd.SS_E_CFG_CLIENT : Fd := ⟨Rg.SS_E_CFG, 4, 1⟩
def Fd.SS_E_CFG_SERVER : Fd := ⟨Rg.SS_E_CFG, 5, 1⟩
def Fd.SS_E_CFG_BCAST : Fd := ⟨Rg.SS_E_CFG, 6, 1⟩
def Fd.SS_E_CFG_QUOTA : Fd := ⟨Rg.SS_E_CFG, 8, 6⟩
def Fd.SS_E_CFG_SHARE : Fd := ⟨Rg.SS_E_CFG, 16, 4⟩
def Fd.SS_E_CFG_PIN_GEN : Fd := ⟨Rg.SS_E_CFG, 24, 8⟩
/-- R416, 13_station_access.md. -/
def Rg.SS_E_PEER : Rg := ⟨0x40090108, 0x0⟩
def Fd.SS_E_PEER_NODE : Fd := ⟨Rg.SS_E_PEER, 0, 10⟩
def Fd.SS_E_PEER_ANY : Fd := ⟨Rg.SS_E_PEER, 10, 1⟩
/-- R416, 13_station_access.md. -/
def Rg.SS_E_INFL : Rg := ⟨0x4009010C, 0x0⟩
def Fd.SS_E_INFL_CLIENT : Fd := ⟨Rg.SS_E_INFL, 0, 7⟩
def Fd.SS_E_INFL_SERVER : Fd := ⟨Rg.SS_E_INFL, 8, 7⟩
/-- R416, 13_station_access.md. -/
def Rg.SS_E_TXCNT : Rg := ⟨0x40090110, 0x0⟩
def Fd.SS_E_TXCNT_COUNT : Fd := ⟨Rg.SS_E_TXCNT, 0, 32⟩
/-- R416, 13_station_access.md. -/
def Rg.SS_E_RXCNT : Rg := ⟨0x40090114, 0x0⟩
def Fd.SS_E_RXCNT_COUNT : Fd := ⟨Rg.SS_E_RXCNT, 0, 32⟩
/-- R416, 13_station_access.md. -/
def Rg.SS_E_CMD : Rg := ⟨0x40090118, 0x0⟩
def Fd.SS_E_CMD_LOAD_KEY : Fd := ⟨Rg.SS_E_CMD, 0, 1⟩
def Fd.SS_E_CMD_CLEAR : Fd := ⟨Rg.SS_E_CMD, 1, 1⟩
/-- R416, 13_station_access.md. -/
def Rg.SS_E_WIN_BASE (i : Nat) : Rg := ⟨0x40090120 + 0x8 * i, 0x0⟩
def Fd.SS_E_WIN_BASE_BASE (i : Nat) : Fd := ⟨Rg.SS_E_WIN_BASE i, 0, 30⟩
def Fd.SS_E_WIN_BASE_R (i : Nat) : Fd := ⟨Rg.SS_E_WIN_BASE i, 30, 1⟩
def Fd.SS_E_WIN_BASE_W (i : Nat) : Fd := ⟨Rg.SS_E_WIN_BASE i, 31, 1⟩
/-- R416, 13_station_access.md. -/
def Rg.SS_E_WIN_LIM (i : Nat) : Rg := ⟨0x40090124 + 0x8 * i, 0x0⟩
def Fd.SS_E_WIN_LIM_LIMIT (i : Nat) : Fd := ⟨Rg.SS_E_WIN_LIM i, 0, 30⟩
/-- R416, 13_station_access.md. -/
def Rg.SS_KEY (i : Nat) : Rg := ⟨0x40090180 + 0x4 * i, 0x0⟩
def Fd.SS_KEY_KEY (i : Nat) : Fd := ⟨Rg.SS_KEY i, 0, 32⟩

/-! ### Block `pool` -/

/-- R448, 14_shunters_pool.md. -/
def Rg.PL_CFG : Rg := ⟨0x400A0000, 0x400000F⟩
def Fd.PL_CFG_BASE : Fd := ⟨Rg.PL_CFG, 0, 4⟩
def Fd.PL_CFG_SESS_LIM : Fd := ⟨Rg.PL_CFG, 16, 13⟩
/-- R448, 14_shunters_pool.md. -/
def Rg.PL_STAT : Rg := ⟨0x400A0004, 0x1000⟩
def Fd.PL_STAT_FREE : Fd := ⟨Rg.PL_STAT, 0, 13⟩
def Fd.PL_STAT_SWEEP : Fd := ⟨Rg.PL_STAT, 13, 1⟩
def Fd.PL_STAT_CFG_REFUSED : Fd := ⟨Rg.PL_STAT, 14, 1⟩
def Fd.PL_STAT_SESS_HELD : Fd := ⟨Rg.PL_STAT, 16, 13⟩
/-- R448, 14_shunters_pool.md. -/
def Rg.PL_ALLOC : Rg := ⟨0x400A0008, 0x0⟩
def Fd.PL_ALLOC_RESULT : Fd := ⟨Rg.PL_ALLOC, 0, 4⟩
def Fd.PL_ALLOC_ADDR : Fd := ⟨Rg.PL_ALLOC, 8, 24⟩
/-- R448, 14_shunters_pool.md. -/
def Rg.PL_FREE : Rg := ⟨0x400A000C, 0x0⟩
def Fd.PL_FREE_ADDR : Fd := ⟨Rg.PL_FREE, 0, 32⟩
/-- R448, 14_shunters_pool.md. -/
def Rg.PL_GIVE : Rg := ⟨0x400A0010, 0x0⟩
def Fd.PL_GIVE_WAGON : Fd := ⟨Rg.PL_GIVE, 0, 12⟩
def Fd.PL_GIVE_TAG : Fd := ⟨Rg.PL_GIVE, 16, 12⟩
/-- R448, 14_shunters_pool.md. -/
def Rg.PL_RECLAIM : Rg := ⟨0x400A0014, 0x0⟩
def Fd.PL_RECLAIM_TAG : Fd := ⟨Rg.PL_RECLAIM, 0, 12⟩
/-- R448, 14_shunters_pool.md. -/
def Rg.PL_TAG_SEL : Rg := ⟨0x400A0018, 0x0⟩
def Fd.PL_TAG_SEL_WAGON : Fd := ⟨Rg.PL_TAG_SEL, 0, 12⟩
/-- R448, 14_shunters_pool.md. -/
def Rg.PL_TAG : Rg := ⟨0x400A001C, 0x0⟩
def Fd.PL_TAG_TAG : Fd := ⟨Rg.PL_TAG, 0, 12⟩
/-- R448, 14_shunters_pool.md. -/
def Rg.PL_RES_A0 : Rg := ⟨0x400A0020, 0x0⟩
def Fd.PL_RES_A0_CODE : Fd := ⟨Rg.PL_RES_A0, 0, 4⟩
def Fd.PL_RES_A0_COUNT : Fd := ⟨Rg.PL_RES_A0, 16, 13⟩
/-- R448, 14_shunters_pool.md. -/
def Rg.PL_RES_A1 : Rg := ⟨0x400A0024, 0x0⟩
def Fd.PL_RES_A1_CODE : Fd := ⟨Rg.PL_RES_A1, 0, 4⟩
def Fd.PL_RES_A1_COUNT : Fd := ⟨Rg.PL_RES_A1, 16, 13⟩
/-- R448, 14_shunters_pool.md. -/
def Rg.PL_RES_B0 : Rg := ⟨0x400A0028, 0x0⟩
def Fd.PL_RES_B0_CODE : Fd := ⟨Rg.PL_RES_B0, 0, 4⟩
def Fd.PL_RES_B0_COUNT : Fd := ⟨Rg.PL_RES_B0, 16, 13⟩
/-- R448, 14_shunters_pool.md. -/
def Rg.PL_RES_B1 : Rg := ⟨0x400A002C, 0x0⟩
def Fd.PL_RES_B1_CODE : Fd := ⟨Rg.PL_RES_B1, 0, 4⟩
def Fd.PL_RES_B1_COUNT : Fd := ⟨Rg.PL_RES_B1, 16, 13⟩
/-- R448, 14_shunters_pool.md. -/
def Rg.PL_CNT : Rg := ⟨0x400A0030, 0x0⟩
def Fd.PL_CNT_DOUBLE : Fd := ⟨Rg.PL_CNT, 0, 8⟩
def Fd.PL_CNT_FOREIGN : Fd := ⟨Rg.PL_CNT, 8, 8⟩
def Fd.PL_CNT_EMPTY : Fd := ⟨Rg.PL_CNT, 16, 8⟩
def Fd.PL_CNT_BAD_ADDR : Fd := ⟨Rg.PL_CNT, 24, 8⟩
/-- R448, 14_shunters_pool.md. -/
def Rg.PL_IRQ : Rg := ⟨0x400A0034, 0x0⟩
def Fd.PL_IRQ_VEC : Fd := ⟨Rg.PL_IRQ, 0, 6⟩
def Fd.PL_IRQ_EN_A : Fd := ⟨Rg.PL_IRQ, 6, 1⟩
def Fd.PL_IRQ_EN_B : Fd := ⟨Rg.PL_IRQ, 7, 1⟩
def Fd.PL_IRQ_LOW : Fd := ⟨Rg.PL_IRQ, 16, 13⟩

/-! ### Block `triad` -/

/-- R197, 06_triads.md. -/
def Rg.TR_STAT (i : Nat) : Rg := ⟨0x400B0000 + 0x100 * i, 0x70⟩
def Fd.TR_STAT_MODE (i : Nat) : Fd := ⟨Rg.TR_STAT i, 0, 2⟩
def Fd.TR_STAT_ODD (i : Nat) : Fd := ⟨Rg.TR_STAT i, 2, 2⟩
def Fd.TR_STAT_LIVE (i : Nat) : Fd := ⟨Rg.TR_STAT i, 4, 3⟩
def Fd.TR_STAT_HALTED (i : Nat) : Fd := ⟨Rg.TR_STAT i, 7, 1⟩
def Fd.TR_STAT_RETIRED (i : Nat) : Fd := ⟨Rg.TR_STAT i, 8, 3⟩
/-- R197, 06_triads.md. -/
def Rg.TR_RESYNC_CNT (i : Nat) : Rg := ⟨0x400B0004 + 0x100 * i, 0x0⟩
def Fd.TR_RESYNC_CNT_COUNT (i : Nat) : Fd := ⟨Rg.TR_RESYNC_CNT i, 0, 32⟩
/-- R197, 06_triads.md. -/
def Rg.TR_CORE_CNT (i : Nat) : Rg := ⟨0x400B0008 + 0x100 * i, 0x0⟩
def Fd.TR_CORE_CNT_ODD0 (i : Nat) : Fd := ⟨Rg.TR_CORE_CNT i, 0, 8⟩
def Fd.TR_CORE_CNT_ODD1 (i : Nat) : Fd := ⟨Rg.TR_CORE_CNT i, 8, 8⟩
def Fd.TR_CORE_CNT_ODD2 (i : Nat) : Fd := ⟨Rg.TR_CORE_CNT i, 16, 8⟩
/-- R197, 06_triads.md. -/
def Rg.TR_EVT (i : Nat) : Rg := ⟨0x400B000C + 0x100 * i, 0x0⟩
def Fd.TR_EVT_CORE (i : Nat) : Fd := ⟨Rg.TR_EVT i, 0, 2⟩
def Fd.TR_EVT_KIND (i : Nat) : Fd := ⟨Rg.TR_EVT i, 4, 3⟩
def Fd.TR_EVT_PAIR (i : Nat) : Fd := ⟨Rg.TR_EVT i, 8, 1⟩
def Fd.TR_EVT_RETIRED (i : Nat) : Fd := ⟨Rg.TR_EVT i, 9, 1⟩
def Fd.TR_EVT_VALID (i : Nat) : Fd := ⟨Rg.TR_EVT i, 31, 1⟩
/-- R197, 06_triads.md. -/
def Rg.TR_EVT_PC (i : Nat) : Rg := ⟨0x400B0010 + 0x100 * i, 0x0⟩
def Fd.TR_EVT_PC_PC (i : Nat) : Fd := ⟨Rg.TR_EVT_PC i, 0, 32⟩
/-- R197, 06_triads.md. -/
def Rg.TR_EVT_TIME_LO (i : Nat) : Rg := ⟨0x400B0014 + 0x100 * i, 0x0⟩
def Fd.TR_EVT_TIME_LO_TIME (i : Nat) : Fd := ⟨Rg.TR_EVT_TIME_LO i, 0, 32⟩
/-- R197, 06_triads.md. -/
def Rg.TR_EVT_TIME_HI (i : Nat) : Rg := ⟨0x400B0018 + 0x100 * i, 0x0⟩
def Fd.TR_EVT_TIME_HI_TIME (i : Nat) : Fd := ⟨Rg.TR_EVT_TIME_HI i, 0, 32⟩
/-- R197, 06_triads.md. -/
def Rg.TR_LAST_RESYNC (i : Nat) : Rg := ⟨0x400B001C + 0x100 * i, 0x0⟩
def Fd.TR_LAST_RESYNC_DURATION (i : Nat) : Fd := ⟨Rg.TR_LAST_RESYNC i, 0, 16⟩
/-- R197, 06_triads.md. -/
def Rg.TR_CFG (i : Nat) : Rg := ⟨0x400B0020 + 0x100 * i, 0x3⟩
def Fd.TR_CFG_RETIRE_LIM (i : Nat) : Fd := ⟨Rg.TR_CFG i, 0, 4⟩
/-- R197, 06_triads.md. -/
def Rg.TR_DBG (i : Nat) : Rg := ⟨0x400B0024 + 0x100 * i, 0x0⟩
def Fd.TR_DBG_LOG_LEVEL (i : Nat) : Fd := ⟨Rg.TR_DBG i, 0, 9⟩
def Fd.TR_DBG_LOG_FULL (i : Nat) : Fd := ⟨Rg.TR_DBG i, 9, 1⟩
def Fd.TR_DBG_ATTACHED (i : Nat) : Fd := ⟨Rg.TR_DBG i, 16, 1⟩

/-! ### Block `patrol` -/

/-- R465, 15_integrity.md. -/
def Rg.PT_CFG : Rg := ⟨0x400C0000, 0x6⟩
def Fd.PT_CFG_PERIOD : Fd := ⟨Rg.PT_CFG, 0, 2⟩
def Fd.PT_CFG_EN : Fd := ⟨Rg.PT_CFG, 2, 1⟩
/-- R465, 15_integrity.md. -/
def Rg.PT_STAT : Rg := ⟨0x400C0004, 0x1⟩
def Fd.PT_STAT_ACTIVE : Fd := ⟨Rg.PT_STAT, 0, 1⟩
def Fd.PT_STAT_HEALING : Fd := ⟨Rg.PT_STAT, 1, 1⟩
def Fd.PT_STAT_POS : Fd := ⟨Rg.PT_STAT, 3, 21⟩
/-- R465, 15_integrity.md. -/
def Rg.PT_SWEEPS : Rg := ⟨0x400C0008, 0x0⟩
def Fd.PT_SWEEPS_COUNT : Fd := ⟨Rg.PT_SWEEPS, 0, 32⟩
/-- R465, 15_integrity.md. -/
def Rg.PT_CNT : Rg := ⟨0x400C000C, 0x0⟩
def Fd.PT_CNT_CORRECTED : Fd := ⟨Rg.PT_CNT, 0, 16⟩
def Fd.PT_CNT_POISONED : Fd := ⟨Rg.PT_CNT, 16, 8⟩
def Fd.PT_CNT_HEALED : Fd := ⟨Rg.PT_CNT, 24, 8⟩
/-- R465, 15_integrity.md. -/
def Rg.PT_CNT2 : Rg := ⟨0x400C0010, 0x0⟩
def Fd.PT_CNT2_DEMAND : Fd := ⟨Rg.PT_CNT2, 0, 8⟩
def Fd.PT_CNT2_HEAL_FAILED : Fd := ⟨Rg.PT_CNT2, 8, 8⟩
def Fd.PT_CNT2_FLASH_CORR : Fd := ⟨Rg.PT_CNT2, 16, 8⟩
def Fd.PT_CNT2_FLASH_UNCORR : Fd := ⟨Rg.PT_CNT2, 24, 8⟩
/-- R465, 15_integrity.md. -/
def Rg.PT_LOG_STAT : Rg := ⟨0x400C0014, 0x0⟩
def Fd.PT_LOG_STAT_LEVEL : Fd := ⟨Rg.PT_LOG_STAT, 0, 5⟩
def Fd.PT_LOG_STAT_OVF : Fd := ⟨Rg.PT_LOG_STAT, 5, 1⟩
/-- R465, 15_integrity.md. -/
def Rg.PT_LOG : Rg := ⟨0x400C0018, 0x0⟩
def Fd.PT_LOG_KIND : Fd := ⟨Rg.PT_LOG, 0, 3⟩
def Fd.PT_LOG_ADDR : Fd := ⟨Rg.PT_LOG, 3, 21⟩
/-- R465, 15_integrity.md. -/
def Rg.PT_IRQ : Rg := ⟨0x400C001C, 0x0⟩
def Fd.PT_IRQ_VEC : Fd := ⟨Rg.PT_IRQ, 0, 6⟩
def Fd.PT_IRQ_EN_A : Fd := ⟨Rg.PT_IRQ, 6, 1⟩
def Fd.PT_IRQ_EN_B : Fd := ⟨Rg.PT_IRQ, 7, 1⟩
/-- R465, 15_integrity.md. -/
def Rg.PT_HEAL_MAP0 (i : Nat) : Rg := ⟨0x400C0100 + 0x8 * i, 0x0⟩
def Fd.PT_HEAL_MAP0_PAGES (i : Nat) : Fd := ⟨Rg.PT_HEAL_MAP0 i, 0, 12⟩
def Fd.PT_HEAL_MAP0_BASE (i : Nat) : Fd := ⟨Rg.PT_HEAL_MAP0 i, 12, 12⟩
/-- R465, 15_integrity.md. -/
def Rg.PT_HEAL_MAP4 (i : Nat) : Rg := ⟨0x400C0104 + 0x8 * i, 0x0⟩
def Fd.PT_HEAL_MAP4_SRC (i : Nat) : Fd := ⟨Rg.PT_HEAL_MAP4 i, 0, 32⟩

/-! ### Block `calst` -/

/-- R478, 15_integrity.md. -/
def Rg.FP_KEY : Rg := ⟨0x400D0040, 0x0⟩
def Fd.FP_KEY_KEY : Fd := ⟨Rg.FP_KEY, 0, 16⟩
def Fd.FP_KEY_UNLOCKED : Fd := ⟨Rg.FP_KEY, 16, 1⟩
/-- R478, 15_integrity.md. -/
def Rg.FP_ADDR : Rg := ⟨0x400D0044, 0x0⟩
def Fd.FP_ADDR_ADDR : Fd := ⟨Rg.FP_ADDR, 0, 32⟩
/-- R478, 15_integrity.md. -/
def Rg.FP_SRC : Rg := ⟨0x400D0048, 0x0⟩
def Fd.FP_SRC_ADDR : Fd := ⟨Rg.FP_SRC, 3, 21⟩
/-- R478, 15_integrity.md. -/
def Rg.FP_LEN : Rg := ⟨0x400D004C, 0x0⟩
def Fd.FP_LEN_LEN : Fd := ⟨Rg.FP_LEN, 0, 13⟩
/-- R478, 15_integrity.md. -/
def Rg.FP_CMD : Rg := ⟨0x400D0050, 0x0⟩
def Fd.FP_CMD_CMD : Fd := ⟨Rg.FP_CMD, 0, 2⟩
def Fd.FP_CMD_GO : Fd := ⟨Rg.FP_CMD, 2, 1⟩
/-- R478, 15_integrity.md. -/
def Rg.FP_STAT : Rg := ⟨0x400D0054, 0x0⟩
def Fd.FP_STAT_BUSY : Fd := ⟨Rg.FP_STAT, 0, 1⟩
def Fd.FP_STAT_DONE : Fd := ⟨Rg.FP_STAT, 1, 1⟩
def Fd.FP_STAT_FAIL : Fd := ⟨Rg.FP_STAT, 2, 1⟩
def Fd.FP_STAT_KEY_ERR : Fd := ⟨Rg.FP_STAT, 3, 1⟩
def Fd.FP_STAT_RESULT : Fd := ⟨Rg.FP_STAT, 4, 4⟩
/-- R478, 15_integrity.md. -/
def Rg.FP_CNT : Rg := ⟨0x400D0058, 0x0⟩
def Fd.FP_CNT_ERASES : Fd := ⟨Rg.FP_CNT, 0, 16⟩
def Fd.FP_CNT_FAILS : Fd := ⟨Rg.FP_CNT, 16, 16⟩
/-- R481, 15_integrity.md. -/
def Rg.CS_STAT : Rg := ⟨0x400D0000, 0x0⟩
def Fd.CS_STAT_SEL_BANK : Fd := ⟨Rg.CS_STAT, 0, 1⟩
def Fd.CS_STAT_VALID0 : Fd := ⟨Rg.CS_STAT, 1, 1⟩
def Fd.CS_STAT_VALID1 : Fd := ⟨Rg.CS_STAT, 2, 1⟩
def Fd.CS_STAT_NONE : Fd := ⟨Rg.CS_STAT, 3, 1⟩
def Fd.CS_STAT_BUSY : Fd := ⟨Rg.CS_STAT, 4, 1⟩
def Fd.CS_STAT_STEP : Fd := ⟨Rg.CS_STAT, 5, 3⟩
def Fd.CS_STAT_RESULT : Fd := ⟨Rg.CS_STAT, 8, 4⟩
def Fd.CS_STAT_DONE : Fd := ⟨Rg.CS_STAT, 12, 1⟩
def Fd.CS_STAT_FAIL : Fd := ⟨Rg.CS_STAT, 13, 1⟩
/-- R481, 15_integrity.md. -/
def Rg.CS_GEN : Rg := ⟨0x400D0004, 0x0⟩
def Fd.CS_GEN_GEN : Fd := ⟨Rg.CS_GEN, 0, 32⟩
/-- R481, 15_integrity.md. -/
def Rg.CS_SRC : Rg := ⟨0x400D0008, 0x0⟩
def Fd.CS_SRC_ADDR : Fd := ⟨Rg.CS_SRC, 4, 20⟩
/-- R481, 15_integrity.md. -/
def Rg.CS_LEN : Rg := ⟨0x400D000C, 0x0⟩
def Fd.CS_LEN_LEN : Fd := ⟨Rg.CS_LEN, 0, 10⟩
/-- R481, 15_integrity.md. -/
def Rg.CS_CMD : Rg := ⟨0x400D0010, 0x0⟩
def Fd.CS_CMD_WRITE : Fd := ⟨Rg.CS_CMD, 0, 1⟩
/-- R481, 15_integrity.md. -/
def Rg.CS_CNT : Rg := ⟨0x400D0014, 0x0⟩
def Fd.CS_CNT_WRITES : Fd := ⟨Rg.CS_CNT, 0, 16⟩
def Fd.CS_CNT_FAILS : Fd := ⟨Rg.CS_CNT, 16, 8⟩
/-- R481, 15_integrity.md. -/
def Rg.CS_IRQ : Rg := ⟨0x400D0018, 0x0⟩
def Fd.CS_IRQ_VEC : Fd := ⟨Rg.CS_IRQ, 0, 6⟩
def Fd.CS_IRQ_EN_A : Fd := ⟨Rg.CS_IRQ, 6, 1⟩
def Fd.CS_IRQ_EN_B : Fd := ⟨Rg.CS_IRQ, 7, 1⟩
def Fd.CS_IRQ_EN_DONE : Fd := ⟨Rg.CS_IRQ, 8, 1⟩
def Fd.CS_IRQ_EN_FAIL : Fd := ⟨Rg.CS_IRQ, 9, 1⟩

/-! ### Block `ch` -/

/-- R270, 08_channel_architecture.md. -/
def Rg.CH_STATE (n : Nat) : Rg := ⟨0x40100000 + 0x10000 * n, 0x0⟩
def Fd.CH_STATE_STATE (n : Nat) : Fd := ⟨Rg.CH_STATE n, 0, 3⟩
def Fd.CH_STATE_PENDING (n : Nat) : Fd := ⟨Rg.CH_STATE n, 3, 1⟩
def Fd.CH_STATE_MODE (n : Nat) : Fd := ⟨Rg.CH_STATE n, 4, 4⟩
def Fd.CH_STATE_DISCARD (n : Nat) : Fd := ⟨Rg.CH_STATE n, 8, 1⟩
def Fd.CH_STATE_LINK_ERR (n : Nat) : Fd := ⟨Rg.CH_STATE n, 9, 1⟩
def Fd.CH_STATE_MOD_REFUGE (n : Nat) : Fd := ⟨Rg.CH_STATE n, 10, 1⟩
def Fd.CH_STATE_DIAG (n : Nat) : Fd := ⟨Rg.CH_STATE n, 11, 1⟩
def Fd.CH_STATE_FCAUSE (n : Nat) : Fd := ⟨Rg.CH_STATE n, 12, 3⟩
def Fd.CH_STATE_GEN (n : Nat) : Fd := ⟨Rg.CH_STATE n, 16, 16⟩
/-- R270, 08_channel_architecture.md. -/
def Rg.CH_STATE_DP (n : Nat) : Rg := ⟨0x40100004 + 0x10000 * n, 0x0⟩
def Fd.CH_STATE_DP_STATE (n : Nat) : Fd := ⟨Rg.CH_STATE_DP n, 0, 3⟩
def Fd.CH_STATE_DP_PENDING (n : Nat) : Fd := ⟨Rg.CH_STATE_DP n, 3, 1⟩
def Fd.CH_STATE_DP_MODE (n : Nat) : Fd := ⟨Rg.CH_STATE_DP n, 4, 4⟩
def Fd.CH_STATE_DP_DISCARD (n : Nat) : Fd := ⟨Rg.CH_STATE_DP n, 8, 1⟩
def Fd.CH_STATE_DP_LINK_ERR (n : Nat) : Fd := ⟨Rg.CH_STATE_DP n, 9, 1⟩
def Fd.CH_STATE_DP_MOD_REFUGE (n : Nat) : Fd := ⟨Rg.CH_STATE_DP n, 10, 1⟩
def Fd.CH_STATE_DP_DIAG (n : Nat) : Fd := ⟨Rg.CH_STATE_DP n, 11, 1⟩
def Fd.CH_STATE_DP_FCAUSE (n : Nat) : Fd := ⟨Rg.CH_STATE_DP n, 12, 3⟩
def Fd.CH_STATE_DP_GEN (n : Nat) : Fd := ⟨Rg.CH_STATE_DP n, 16, 16⟩
/-- R270, 08_channel_architecture.md. -/
def Rg.CH_STATE_DIE (n : Nat) : Rg := ⟨0x40100008 + 0x10000 * n, 0x0⟩
def Fd.CH_STATE_DIE_STATE (n : Nat) : Fd := ⟨Rg.CH_STATE_DIE n, 0, 3⟩
def Fd.CH_STATE_DIE_PENDING (n : Nat) : Fd := ⟨Rg.CH_STATE_DIE n, 3, 1⟩
def Fd.CH_STATE_DIE_MODE (n : Nat) : Fd := ⟨Rg.CH_STATE_DIE n, 4, 4⟩
def Fd.CH_STATE_DIE_DISCARD (n : Nat) : Fd := ⟨Rg.CH_STATE_DIE n, 8, 1⟩
def Fd.CH_STATE_DIE_LINK_ERR (n : Nat) : Fd := ⟨Rg.CH_STATE_DIE n, 9, 1⟩
def Fd.CH_STATE_DIE_MOD_REFUGE (n : Nat) : Fd := ⟨Rg.CH_STATE_DIE n, 10, 1⟩
def Fd.CH_STATE_DIE_DIAG (n : Nat) : Fd := ⟨Rg.CH_STATE_DIE n, 11, 1⟩
def Fd.CH_STATE_DIE_FCAUSE (n : Nat) : Fd := ⟨Rg.CH_STATE_DIE n, 12, 3⟩
def Fd.CH_STATE_DIE_GEN (n : Nat) : Fd := ⟨Rg.CH_STATE_DIE n, 16, 16⟩
/-- R270, 08_channel_architecture.md. -/
def Rg.CH_QUEUE (n : Nat) : Rg := ⟨0x4010000C + 0x10000 * n, 0x0⟩
def Fd.CH_QUEUE_MODE_Q (n : Nat) : Fd := ⟨Rg.CH_QUEUE n, 0, 1⟩
def Fd.CH_QUEUE_LATER (n : Nat) : Fd := ⟨Rg.CH_QUEUE n, 1, 1⟩
def Fd.CH_QUEUE_Q_MODE (n : Nat) : Fd := ⟨Rg.CH_QUEUE n, 4, 4⟩
def Fd.CH_QUEUE_ITEMS_Q (n : Nat) : Fd := ⟨Rg.CH_QUEUE n, 8, 8⟩
def Fd.CH_QUEUE_Q_GEN (n : Nat) : Fd := ⟨Rg.CH_QUEUE n, 16, 16⟩
/-- R270, 08_channel_architecture.md. -/
def Rg.CH_EVT (n : Nat) : Rg := ⟨0x40100010 + 0x10000 * n, 0x0⟩
def Fd.CH_EVT_STATE_CHG (n : Nat) : Fd := ⟨Rg.CH_EVT n, 0, 1⟩
def Fd.CH_EVT_ARMED (n : Nat) : Fd := ⟨Rg.CH_EVT n, 1, 1⟩
def Fd.CH_EVT_OFF_REACHED (n : Nat) : Fd := ⟨Rg.CH_EVT n, 2, 1⟩
def Fd.CH_EVT_FAULTED (n : Nat) : Fd := ⟨Rg.CH_EVT n, 3, 1⟩
def Fd.CH_EVT_DISCARD (n : Nat) : Fd := ⟨Rg.CH_EVT n, 4, 1⟩
def Fd.CH_EVT_SKEW (n : Nat) : Fd := ⟨Rg.CH_EVT n, 5, 1⟩
def Fd.CH_EVT_MGMT_REFUSED (n : Nat) : Fd := ⟨Rg.CH_EVT n, 6, 1⟩
def Fd.CH_EVT_LINK_ERR (n : Nat) : Fd := ⟨Rg.CH_EVT n, 7, 1⟩
/-- R270, 08_channel_architecture.md. -/
def Rg.CH_IRQ (n : Nat) : Rg := ⟨0x40100014 + 0x10000 * n, 0x0⟩
def Fd.CH_IRQ_VEC (n : Nat) : Fd := ⟨Rg.CH_IRQ n, 0, 6⟩
def Fd.CH_IRQ_EN (n : Nat) : Fd := ⟨Rg.CH_IRQ n, 8, 8⟩
/-- R270, 08_channel_architecture.md. -/
def Rg.CH_FAULT (n : Nat) : Rg := ⟨0x40100018 + 0x10000 * n, 0x0⟩
def Fd.CH_FAULT_CAUSE (n : Nat) : Fd := ⟨Rg.CH_FAULT n, 0, 3⟩
def Fd.CH_FAULT_COUNT (n : Nat) : Fd := ⟨Rg.CH_FAULT n, 8, 8⟩
/-- R270, 08_channel_architecture.md. -/
def Rg.CH_LINK (n : Nat) : Rg := ⟨0x4010001C + 0x10000 * n, 0x0⟩
def Fd.CH_LINK_BAD_FRAMES (n : Nat) : Fd := ⟨Rg.CH_LINK n, 0, 16⟩
def Fd.CH_LINK_STROBE_MISS (n : Nat) : Fd := ⟨Rg.CH_LINK n, 16, 8⟩
def Fd.CH_LINK_LOSSES (n : Nat) : Fd := ⟨Rg.CH_LINK n, 24, 8⟩
/-- R270, 08_channel_architecture.md. -/
def Rg.CH_SUPPLY (n : Nat) : Rg := ⟨0x40100020 + 0x10000 * n, 0x0⟩
def Fd.CH_SUPPLY_P_V (n : Nat) : Fd := ⟨Rg.CH_SUPPLY n, 0, 10⟩
def Fd.CH_SUPPLY_P_OK (n : Nat) : Fd := ⟨Rg.CH_SUPPLY n, 10, 1⟩
def Fd.CH_SUPPLY_RAIL_OK (n : Nat) : Fd := ⟨Rg.CH_SUPPLY n, 11, 1⟩
def Fd.CH_SUPPLY_DIE_TEMP (n : Nat) : Fd := ⟨Rg.CH_SUPPLY n, 16, 8⟩
/-- R270, 08_channel_architecture.md. -/
def Rg.CH_TIMES (n : Nat) : Rg := ⟨0x40100024 + 0x10000 * n, 0x0⟩
def Fd.CH_TIMES_CFG_US (n : Nat) : Fd := ⟨Rg.CH_TIMES n, 0, 16⟩
def Fd.CH_TIMES_SHUT_US (n : Nat) : Fd := ⟨Rg.CH_TIMES n, 16, 16⟩
/-- R270, 08_channel_architecture.md. -/
def Rg.CH_REFUSE (n : Nat) : Rg := ⟨0x40100028 + 0x10000 * n, 0x0⟩
def Fd.CH_REFUSE_COUNT (n : Nat) : Fd := ⟨Rg.CH_REFUSE n, 0, 16⟩
/-- R270, 08_channel_architecture.md. -/
def Rg.CH_REC (n : Nat) (i : Nat) : Rg := ⟨0x40100100 + 0x10000 * n + 0x4 * i, 0x0⟩
/-- R270, 08_channel_architecture.md. -/
def Rg.CH_PREC (n : Nat) (i : Nat) : Rg := ⟨0x40100140 + 0x10000 * n + 0x4 * i, 0x0⟩
/-- R270, 08_channel_architecture.md. -/
def Rg.CH_ITEM (n : Nat) (i : Nat) : Rg := ⟨0x40100400 + 0x10000 * n + 0x4 * i, 0x0⟩

/-! ### Block `rfx` -/

/-- R346, 10_actuation.md. -/
def Rg.RFX_CTRL (n : Nat) : Rg := ⟨0x40200000 + 0x1000 * n, 0x0⟩
def Fd.RFX_CTRL_RUN (n : Nat) : Fd := ⟨Rg.RFX_CTRL n, 0, 1⟩
def Fd.RFX_CTRL_STOP (n : Nat) : Fd := ⟨Rg.RFX_CTRL n, 1, 1⟩
/-- R346, 10_actuation.md. -/
def Rg.RFX_STAT (n : Nat) : Rg := ⟨0x40200004 + 0x1000 * n, 0x0⟩
def Fd.RFX_STAT_STATE (n : Nat) : Fd := ⟨Rg.RFX_STAT n, 0, 2⟩
def Fd.RFX_STAT_PC (n : Nat) : Fd := ⟨Rg.RFX_STAT n, 2, 6⟩
def Fd.RFX_STAT_REFUSE (n : Nat) : Fd := ⟨Rg.RFX_STAT n, 8, 3⟩
def Fd.RFX_STAT_FAULT (n : Nat) : Fd := ⟨Rg.RFX_STAT n, 11, 2⟩
def Fd.RFX_STAT_WR_RUNNING (n : Nat) : Fd := ⟨Rg.RFX_STAT n, 13, 1⟩
def Fd.RFX_STAT_FOREIGN_WR (n : Nat) : Fd := ⟨Rg.RFX_STAT n, 14, 1⟩
def Fd.RFX_STAT_OVERRUN (n : Nat) : Fd := ⟨Rg.RFX_STAT n, 16, 8⟩
/-- R346, 10_actuation.md. -/
def Rg.RFX_TARGET (n : Nat) : Rg := ⟨0x40200008 + 0x1000 * n, 0x0⟩
def Fd.RFX_TARGET_CH (n : Nat) : Fd := ⟨Rg.RFX_TARGET n, 0, 16⟩
/-- R346, 10_actuation.md. -/
def Rg.RFX_PEND (n : Nat) : Rg := ⟨0x4020000C + 0x1000 * n, 0x0⟩
def Fd.RFX_PEND_PEND (n : Nat) : Fd := ⟨Rg.RFX_PEND n, 0, 8⟩
/-- R346, 10_actuation.md. -/
def Rg.RFX_CNT (n : Nat) : Rg := ⟨0x40200010 + 0x1000 * n, 0x0⟩
def Fd.RFX_CNT_ACTIONS (n : Nat) : Fd := ⟨Rg.RFX_CNT n, 0, 16⟩
def Fd.RFX_CNT_DROPPED (n : Nat) : Fd := ⟨Rg.RFX_CNT n, 16, 16⟩
/-- R346, 10_actuation.md. -/
def Rg.RFX_WCNT (n : Nat) : Rg := ⟨0x40200014 + 0x1000 * n, 0x0⟩
def Fd.RFX_WCNT_SENT (n : Nat) : Fd := ⟨Rg.RFX_WCNT n, 0, 8⟩
def Fd.RFX_WCNT_REFUSED_VERSION (n : Nat) : Fd := ⟨Rg.RFX_WCNT n, 8, 8⟩
def Fd.RFX_WCNT_NO_LINK (n : Nat) : Fd := ⟨Rg.RFX_WCNT n, 16, 8⟩
def Fd.RFX_WCNT_QUEUE_FULL (n : Nat) : Fd := ⟨Rg.RFX_WCNT n, 24, 8⟩
/-- R346, 10_actuation.md. -/
def Rg.RFX_NOTE (n : Nat) : Rg := ⟨0x40200018 + 0x1000 * n, 0x0⟩
def Fd.RFX_NOTE_CODE (n : Nat) : Fd := ⟨Rg.RFX_NOTE n, 0, 8⟩
def Fd.RFX_NOTE_PEND (n : Nat) : Fd := ⟨Rg.RFX_NOTE n, 8, 1⟩
/-- R346, 10_actuation.md. -/
def Rg.RFX_IRQ (n : Nat) : Rg := ⟨0x4020001C + 0x1000 * n, 0x0⟩
def Fd.RFX_IRQ_VEC (n : Nat) : Fd := ⟨Rg.RFX_IRQ n, 0, 6⟩
def Fd.RFX_IRQ_EN_NOTE (n : Nat) : Fd := ⟨Rg.RFX_IRQ n, 6, 1⟩
def Fd.RFX_IRQ_EN_FAULT (n : Nat) : Fd := ⟨Rg.RFX_IRQ n, 7, 1⟩
/-- R346, 10_actuation.md. -/
def Rg.RFX_SEL (n : Nat) (i : Nat) : Rg := ⟨0x40200040 + 0x1000 * n + 0x4 * i, 0x0⟩
def Fd.RFX_SEL_CH (n : Nat) (i : Nat) : Fd := ⟨Rg.RFX_SEL n i, 0, 4⟩
def Fd.RFX_SEL_KIND (n : Nat) (i : Nat) : Fd := ⟨Rg.RFX_SEL n i, 4, 4⟩
/-- R346, 10_actuation.md. -/
def Rg.RFX_V (n : Nat) (i : Nat) : Rg := ⟨0x40200080 + 0x1000 * n + 0x4 * i, 0x0⟩
def Fd.RFX_V_VALUE (n : Nat) (i : Nat) : Fd := ⟨Rg.RFX_V n i, 0, 32⟩
/-- R346, 10_actuation.md. -/
def Rg.RFX_PROG (n : Nat) (i : Nat) : Rg := ⟨0x40200100 + 0x1000 * n + 0x4 * i, 0x0⟩
def Fd.RFX_PROG_INSN (n : Nat) (i : Nat) : Fd := ⟨Rg.RFX_PROG n i, 0, 32⟩
/-- R346, 10_actuation.md. -/
def Rg.RFX_WRX0 (n : Nat) (i : Nat) : Rg := ⟨0x40200200 + 0x1000 * n + 0x10 * i, 0x0⟩
def Fd.RFX_WRX0_CODE (n : Nat) (i : Nat) : Fd := ⟨Rg.RFX_WRX0 n i, 0, 16⟩
def Fd.RFX_WRX0_ORIGIN (n : Nat) (i : Nat) : Fd := ⟨Rg.RFX_WRX0 n i, 16, 10⟩
def Fd.RFX_WRX0_ANY_ORIGIN (n : Nat) (i : Nat) : Fd := ⟨Rg.RFX_WRX0 n i, 26, 1⟩
def Fd.RFX_WRX0_EN (n : Nat) (i : Nat) : Fd := ⟨Rg.RFX_WRX0 n i, 27, 1⟩
def Fd.RFX_WRX0_TYPE (n : Nat) (i : Nat) : Fd := ⟨Rg.RFX_WRX0 n i, 28, 1⟩
/-- R346, 10_actuation.md. -/
def Rg.RFX_WRX4 (n : Nat) (i : Nat) : Rg := ⟨0x40200204 + 0x1000 * n + 0x10 * i, 0x0⟩
def Fd.RFX_WRX4_CH (n : Nat) (i : Nat) : Fd := ⟨Rg.RFX_WRX4 n i, 0, 4⟩
def Fd.RFX_WRX4_KIND (n : Nat) (i : Nat) : Fd := ⟨Rg.RFX_WRX4 n i, 4, 3⟩
def Fd.RFX_WRX4_LATCH (n : Nat) (i : Nat) : Fd := ⟨Rg.RFX_WRX4 n i, 7, 1⟩
def Fd.RFX_WRX4_SEL (n : Nat) (i : Nat) : Fd := ⟨Rg.RFX_WRX4 n i, 8, 3⟩
/-- R346, 10_actuation.md. -/
def Rg.RFX_WRX8 (n : Nat) (i : Nat) : Rg := ⟨0x40200208 + 0x1000 * n + 0x10 * i, 0x0⟩
def Fd.RFX_WRX8_VALUE (n : Nat) (i : Nat) : Fd := ⟨Rg.RFX_WRX8 n i, 0, 32⟩

/-- The register rows of one `sys` block: offset, count, spacing, reset word,
retained bits, and the bits of type RW, HRW or CNT, of type W1C and of type W1S (R10, R561). -/
def regRows_sys : List RegRow := [
  -- RST_CAUSE
  ⟨0x0, 1, 0x4, 0x1, 0x3F, 0x0, 0x3F, 0x0⟩,
  -- STRAP
  ⟨0x4, 1, 0x4, 0x0, 0x0, 0x0, 0x0, 0x0⟩,
  -- BOOT_STAT
  ⟨0x8, 1, 0x4, 0x0, 0x0, 0x0, 0x0, 0x0⟩,
  -- CLK_STAT
  ⟨0x10, 1, 0x4, 0x0, 0x0, 0x0, 0xFFFF007F, 0x0⟩,
  -- NRST_STAT
  ⟨0x14, 1, 0x4, 0x0, 0xFF00, 0xFF00, 0x0, 0x0⟩,
  -- BLK_RST0
  ⟨0x20, 1, 0x4, 0x0, 0x0, 0x0, 0x0, 0xFFF⟩,
  -- BLK_RST1
  ⟨0x24, 1, 0x4, 0x0, 0x0, 0x0, 0x0, 0xFFFFFFFF⟩,
  -- SLEEP_CTRL
  ⟨0x30, 1, 0x4, 0x0, 0x0, 0xF00, 0x0, 0x3⟩,
  -- SLEEP_STAT
  ⟨0x34, 1, 0x4, 0x0, 0x0, 0x0, 0x4, 0x0⟩,
  -- WAKE_CAUSE
  ⟨0x38, 1, 0x4, 0x0, 0x0, 0x0, 0xF, 0x0⟩,
  -- WAKE_CHMASK
  ⟨0x3C, 1, 0x4, 0x0, 0x0, 0xFFFF, 0x0, 0x0⟩,
  -- AON_CNT
  ⟨0x40, 1, 0x4, 0x0, 0xFFFFFFFF, 0xFFFFFFFF, 0x0, 0x0⟩,
  -- AON_CMP
  ⟨0x44, 1, 0x4, 0xFFFFFFFF, 0xFFFFFFFF, 0xFFFFFFFF, 0x0, 0x0⟩,
  -- GEN
  ⟨0x100, 48, 0x4, 0x1, 0xFFFFFFFF, 0x0, 0x0, 0x0⟩,
  -- RFG_STAT
  ⟨0x200, 1, 0x4, 0x0, 0xFFFFFFFF, 0xFF00, 0x0, 0x0⟩,
  -- RFG_CHAL
  ⟨0x204, 1, 0x4, 0x0, 0xFFFFFFFF, 0x0, 0x0, 0x0⟩,
  -- RFG_REL
  ⟨0x208, 1, 0x4, 0x0, 0x0, 0xFFFFFFFF, 0x0, 0x0⟩,
  -- RFG_LAST
  ⟨0x20C, 1, 0x4, 0x0, 0xFFFFFFFF, 0x0, 0x0, 0x0⟩,
  -- RC_CTRL
  ⟨0xF010, 1, 0x4, 0x10, 0x0, 0x13, 0x0, 0x2C⟩,
  -- RC_STAT
  ⟨0xF014, 1, 0x4, 0x0, 0xFFFFFFFF, 0xFF0000, 0x6000000, 0x0⟩,
  -- RC_SCHED_LO
  ⟨0xF018, 1, 0x4, 0x0, 0x0, 0x0, 0x0, 0x0⟩,
  -- RC_SCHED_HI
  ⟨0xF01C, 1, 0x4, 0x0, 0x0, 0x0, 0x0, 0x0⟩,
  -- RC_SCHED_ID
  ⟨0xF020, 1, 0x4, 0x0, 0x0, 0x0, 0x0, 0x0⟩]

/-- The register rows of one `sigbox` block: offset, count, spacing, reset word,
retained bits, and the bits of type RW, HRW or CNT, of type W1C and of type W1S (R10, R561). -/
def regRows_sigbox : List RegRow := [
  -- SB_STAT
  ⟨0x0, 1, 0x4, 0x0, 0x0, 0x0, 0x60, 0x0⟩,
  -- SB_CTRL
  ⟨0x4, 1, 0x4, 0x0, 0x0, 0x0, 0x0, 0x1⟩,
  -- SB_QUIET
  ⟨0x8, 1, 0x4, 0x64, 0x0, 0xFFFF, 0x0, 0x0⟩,
  -- SB_QLEFT
  ⟨0xC, 1, 0x4, 0x0, 0x0, 0x0, 0x0, 0x0⟩,
  -- SB_RECOVER
  ⟨0x10, 1, 0x4, 0x0, 0x0, 0xFFFFFFFF, 0x0, 0x0⟩,
  -- SB_FIRST
  ⟨0x14, 1, 0x4, 0x0, 0x0, 0x0, 0x0, 0x0⟩,
  -- SB_FIRST_TIME_LO
  ⟨0x18, 1, 0x4, 0x0, 0x0, 0x0, 0x0, 0x0⟩,
  -- SB_FIRST_TIME_HI
  ⟨0x1C, 1, 0x4, 0x0, 0x0, 0x0, 0x0, 0x0⟩,
  -- SB_COVER
  ⟨0x20, 1, 0x4, 0x0, 0x0, 0x0, 0x20, 0x0⟩,
  -- SB_IRQ
  ⟨0x24, 1, 0x4, 0x0, 0x0, 0x7F7F, 0x0, 0x0⟩,
  -- SB_CNT
  ⟨0x28, 1, 0x4, 0x0, 0x0, 0xFFFFFFFF, 0x0, 0x0⟩,
  -- SB_STICKY
  ⟨0x40, 4, 0x4, 0x0, 0x0, 0x0, 0xFFFFFFFF, 0x0⟩,
  -- SB_SW
  ⟨0x50, 4, 0x4, 0x0, 0x0, 0x0, 0xFFFFFFFF, 0x0⟩,
  -- SB_WIRE
  ⟨0x60, 4, 0x4, 0x0, 0x0, 0x0, 0x0, 0x0⟩,
  -- SB_CFG
  ⟨0x100, 128, 0x4, 0x30, 0x0, 0x77, 0x0, 0x0⟩]

/-- The register rows of one `tally` block: offset, count, spacing, reset word,
retained bits, and the bits of type RW, HRW or CNT, of type W1C and of type W1S (R10, R561). -/
def regRows_tally : List RegRow := [
  -- TL_CTRL
  ⟨0x0, 1, 0x4, 0x1, 0x0, 0x5, 0x0, 0x2⟩,
  -- TL_STAT
  ⟨0x4, 1, 0x4, 0x0, 0x0, 0x0, 0x8E0, 0x0⟩,
  -- TL_KEY
  ⟨0x8, 1, 0x4, 0x0, 0x0, 0xFFFF, 0x0, 0x0⟩,
  -- TL_PERIOD
  ⟨0xC, 1, 0x4, 0x3E8, 0x0, 0xFFFF, 0x0, 0x0⟩,
  -- TL_EN
  ⟨0x10, 1, 0x4, 0x0, 0x0, 0xFFFF, 0x0, 0x0⟩,
  -- TL_DONE
  ⟨0x14, 1, 0x4, 0x0, 0x0, 0x0, 0x0, 0x0⟩,
  -- TL_MISS
  ⟨0x18, 1, 0x4, 0x0, 0x0, 0x0, 0xFFFF, 0x0⟩,
  -- TL_PHASE
  ⟨0x1C, 1, 0x4, 0x0, 0x0, 0x0, 0x0, 0x0⟩,
  -- TL_ESC
  ⟨0x20, 1, 0x4, 0x3, 0xFFFFFFFF, 0xF, 0x0, 0x0⟩,
  -- TL_CONSEC
  ⟨0x24, 1, 0x4, 0x0, 0xFFFFFFFF, 0x0, 0x0, 0x0⟩,
  -- TL_CNT
  ⟨0x28, 1, 0x4, 0x0, 0xFF000000, 0xFFFFFFFF, 0x0, 0x0⟩,
  -- TL_IRQ
  ⟨0x2C, 1, 0x4, 0x0, 0x0, 0xFF, 0x300, 0x0⟩]

/-- The register rows of one `shunt` block: offset, count, spacing, reset word,
retained bits, and the bits of type RW, HRW or CNT, of type W1C and of type W1S (R10, R561). -/
def regRows_shunt : List RegRow := [
  -- SH_BUSY
  ⟨0x0, 1, 0x4, 0x0, 0x0, 0x0, 0x0, 0x0⟩,
  -- SH_EVT
  ⟨0x4, 1, 0x4, 0x0, 0x0, 0x0, 0xFFFFFFFF, 0x0⟩,
  -- SH_IRQ_EN
  ⟨0x8, 1, 0x4, 0x0, 0xFFFFFFFF, 0xFFFFFFFF, 0x0, 0x0⟩,
  -- SH_IRQ_CFG
  ⟨0xC, 1, 0x4, 0x0, 0xFFFFFFFF, 0xFFFF3F3F, 0x0, 0x0⟩,
  -- SH_CTRL
  ⟨0x100, 16, 0x40, 0x0, 0x0, 0x0, 0x0, 0x7⟩,
  -- SH_CFG
  ⟨0x104, 16, 0x40, 0x1000, 0xFFFFFFFF, 0x3FF3FFFF, 0x0, 0x0⟩,
  -- SH_HEAD_LO
  ⟨0x108, 16, 0x40, 0x0, 0xFFFFFFFF, 0xFFFFFFFF, 0x0, 0x0⟩,
  -- SH_HEAD_HI
  ⟨0x10C, 16, 0x40, 0x0, 0xFFFFFFFF, 0x800FFFFF, 0x0, 0x0⟩,
  -- SH_CUR_LO
  ⟨0x110, 16, 0x40, 0x0, 0xFFFFFFFF, 0x0, 0x0, 0x0⟩,
  -- SH_CUR_HI
  ⟨0x114, 16, 0x40, 0x0, 0xFFFFFFFF, 0x0, 0x0, 0x0⟩,
  -- SH_RESUME_LO
  ⟨0x118, 16, 0x40, 0x0, 0x0, 0x0, 0x0, 0x0⟩,
  -- SH_RESUME_HI
  ⟨0x11C, 16, 0x40, 0x0, 0x0, 0x0, 0x0, 0x0⟩,
  -- SH_STAT
  ⟨0x120, 16, 0x40, 0x0, 0x0, 0x0, 0x4000000, 0x0⟩,
  -- SH_ERR_LO
  ⟨0x124, 16, 0x40, 0x0, 0x0, 0x0, 0x0, 0x0⟩,
  -- SH_ERR_HI
  ⟨0x128, 16, 0x40, 0x0, 0x0, 0x0, 0x0, 0x0⟩,
  -- SH_CNT
  ⟨0x12C, 16, 0x40, 0x0, 0x0, 0xFFFF, 0x0, 0x0⟩,
  -- SH_BYTES
  ⟨0x130, 16, 0x40, 0x0, 0x0, 0xFFFFFFFF, 0x0, 0x0⟩]

/-- The register rows of one `crcu` block: offset, count, spacing, reset word,
retained bits, and the bits of type RW, HRW or CNT, of type W1C and of type W1S (R10, R561). -/
def regRows_crcu : List RegRow := [
  -- CU_CFG
  ⟨0x100, 4, 0x40, 0x5, 0x0, 0x7, 0x0, 0x0⟩,
  -- CU_INIT
  ⟨0x104, 4, 0x40, 0xFFFFFFFF, 0x0, 0xFFFFFFFF, 0x0, 0x0⟩,
  -- CU_CTRL
  ⟨0x108, 4, 0x40, 0x0, 0x0, 0x0, 0x0, 0xF⟩,
  -- CU_FADDR_LO
  ⟨0x10C, 4, 0x40, 0x0, 0x0, 0xFFFFFFFF, 0x0, 0x0⟩,
  -- CU_FADDR_HI
  ⟨0x110, 4, 0x40, 0x0, 0x0, 0xFFFFF, 0x0, 0x0⟩,
  -- CU_FSEQ
  ⟨0x114, 4, 0x40, 0x0, 0x0, 0xFFFFFFFF, 0x0, 0x0⟩,
  -- CU_DATA8
  ⟨0x118, 4, 0x40, 0x0, 0x0, 0xFF, 0x0, 0x0⟩,
  -- CU_DATA16
  ⟨0x11C, 4, 0x40, 0x0, 0x0, 0xFFFF, 0x0, 0x0⟩,
  -- CU_DATA32
  ⟨0x120, 4, 0x40, 0x0, 0x0, 0xFFFFFFFF, 0x0, 0x0⟩,
  -- CU_VALUE
  ⟨0x124, 4, 0x40, 0xFFFFFFFF, 0x0, 0x0, 0x0, 0x0⟩,
  -- CU_RESULT
  ⟨0x128, 4, 0x40, 0x0, 0x0, 0x0, 0x0, 0x0⟩,
  -- CU_STAT
  ⟨0x12C, 4, 0x40, 0x0, 0x0, 0xFFFF0000, 0x100, 0x0⟩]

/-- The register rows of one `spx` block: offset, count, spacing, reset word,
retained bits, and the bits of type RW, HRW or CNT, of type W1C and of type W1S (R10, R561). -/
def regRows_spx : List RegRow := [
  -- SPX_CFG
  ⟨0x0, 1, 0x4, 0x4, 0xFFFFFFFF, 0xF, 0x0, 0x0⟩,
  -- SPX_MCLK
  ⟨0x4, 1, 0x4, 0x2EE, 0xFFFFFFFF, 0xFFF77FF, 0x0, 0x0⟩,
  -- SPX_MFRAME
  ⟨0x8, 1, 0x4, 0x0, 0x0, 0x3FFFFFFF, 0x0, 0x0⟩,
  -- SPX_MCMD
  ⟨0xC, 1, 0x4, 0x0, 0x0, 0xFFFF, 0x0, 0x0⟩,
  -- SPX_MADDR
  ⟨0x10, 1, 0x4, 0x0, 0x0, 0xFFFFFFFF, 0x0, 0x0⟩,
  -- SPX_MLEN
  ⟨0x14, 1, 0x4, 0x0, 0x0, 0x1FFFF, 0x0, 0x0⟩,
  -- SPX_MCTRL
  ⟨0x18, 1, 0x4, 0x0, 0x0, 0xF4, 0x0, 0x303⟩,
  -- SPX_MSTAT
  ⟨0x1C, 1, 0x4, 0x0, 0x0, 0x0, 0x8, 0x0⟩,
  -- SPX_FIFO
  ⟨0x20, 1, 0x4, 0x0, 0x0, 0x0, 0x0, 0x0⟩,
  -- SPX_SNEG
  ⟨0x24, 1, 0x4, 0x8001, 0x0, 0x0, 0x0, 0x0⟩,
  -- SPX_SSTAT
  ⟨0x28, 1, 0x4, 0x0, 0x0, 0x0, 0x40F, 0x800⟩,
  -- SPX_UEVT
  ⟨0x2C, 1, 0x4, 0x0, 0x0, 0x0, 0xFFFFFFFF, 0x0⟩,
  -- SPX_EVT
  ⟨0x30, 1, 0x4, 0x0, 0x0, 0x0, 0x3F, 0x0⟩,
  -- SPX_IRQ
  ⟨0x34, 1, 0x4, 0x0, 0xFFFFFFFF, 0x1FFFF, 0x0, 0x0⟩,
  -- SPX_CNT
  ⟨0x38, 1, 0x4, 0x0, 0xFFFFFFFF, 0xFFFFFFFF, 0x0, 0x0⟩,
  -- SPX_UREG
  ⟨0x100, 32, 0x4, 0x0, 0xFFFFFFFF, 0xFFFFFFFF, 0x0, 0x0⟩]

/-- The register rows of one `orvia` block: offset, count, spacing, reset word,
retained bits, and the bits of type RW, HRW or CNT, of type W1C and of type W1S (R10, R561). -/
def regRows_orvia : List RegRow := [
  -- OV_NODE
  ⟨0x0, 1, 0x4, 0x0, 0xFFFFFFFF, 0x0, 0x2000, 0x0⟩,
  -- OV_CFG
  ⟨0x4, 1, 0x4, 0x0, 0xFFFFFFFF, 0x3, 0x0, 0x0⟩,
  -- OV_TOPO
  ⟨0x8, 1, 0x4, 0x0, 0x0, 0x0, 0x0, 0x0⟩,
  -- OV_EVT
  ⟨0xC, 1, 0x4, 0x0, 0x0, 0x0, 0x1FF, 0x0⟩,
  -- OV_IRQ
  ⟨0x10, 1, 0x4, 0x0, 0xFFFFFFFF, 0x1FFFF, 0x0, 0x0⟩,
  -- OV_TX_SN_LO
  ⟨0x14, 1, 0x4, 0x0, 0x0, 0xFFFFFFFF, 0x0, 0x0⟩,
  -- OV_TX_SN_HI
  ⟨0x18, 1, 0x4, 0x0, 0x0, 0xFFFFFFFF, 0x0, 0x0⟩,
  -- OV_TX_CMD
  ⟨0x1C, 1, 0x4, 0x0, 0x0, 0xFFF, 0x0, 0x1000⟩,
  -- OV_CNT_DUP
  ⟨0x20, 1, 0x4, 0x0, 0x0, 0xFFFFFFFF, 0x0, 0x0⟩,
  -- OV_PSTAT
  ⟨0x100, 2, 0x100, 0x0, 0x0, 0x0, 0x0, 0x0⟩,
  -- OV_PCTRL
  ⟨0x104, 2, 0x100, 0x0, 0x1, 0x1, 0x0, 0x2⟩,
  -- OV_PEER_SN_LO
  ⟨0x108, 2, 0x100, 0x0, 0x0, 0x0, 0x0, 0x0⟩,
  -- OV_PEER_SN_HI
  ⟨0x10C, 2, 0x100, 0x0, 0x0, 0x0, 0x0, 0x0⟩,
  -- OV_DELAY
  ⟨0x110, 2, 0x100, 0x0, 0x0, 0x0, 0x0, 0x0⟩,
  -- OV_ERR
  ⟨0x114, 2, 0x100, 0x0, 0x0, 0xFFFFFFFF, 0x0, 0x0⟩,
  -- OV_REPLAY
  ⟨0x118, 2, 0x100, 0x0, 0x0, 0xFFFFFFFF, 0x0, 0x0⟩,
  -- OV_DROP
  ⟨0x11C, 2, 0x100, 0x0, 0x0, 0xFFFFFFFF, 0x0, 0x0⟩,
  -- OV_WHISTLE
  ⟨0x120, 2, 0x100, 0x0, 0x0, 0xFFFFFFFF, 0x0, 0x0⟩,
  -- OV_LOSS
  ⟨0x124, 2, 0x100, 0x0, 0xFFFFFFFF, 0xFF, 0x0, 0x0⟩,
  -- OV_RBUF
  ⟨0x128, 2, 0x100, 0x0, 0x0, 0x0, 0x0, 0x0⟩]

/-- The register rows of one `ttbl` block: offset, count, spacing, reset word,
retained bits, and the bits of type RW, HRW or CNT, of type W1C and of type W1S (R10, R561). -/
def regRows_ttbl : List RegRow := [
  -- TT_STAT
  ⟨0x0, 1, 0x4, 0x0, 0x0, 0x0, 0x20, 0x0⟩,
  -- TT_MASTER
  ⟨0x4, 1, 0x4, 0x103FF, 0x0, 0x0, 0x0, 0x0⟩,
  -- TT_TIME_LO
  ⟨0x8, 1, 0x4, 0x0, 0x0, 0x0, 0x0, 0x0⟩,
  -- TT_TIME_HI
  ⟨0xC, 1, 0x4, 0x0, 0x0, 0x0, 0x0, 0x0⟩,
  -- TT_EPOCH_LO
  ⟨0x10, 1, 0x4, 0x0, 0x0, 0x0, 0x0, 0x0⟩,
  -- TT_EPOCH_HI
  ⟨0x14, 1, 0x4, 0x0, 0x0, 0x0, 0x0, 0x0⟩,
  -- TT_PERIOD
  ⟨0x18, 1, 0x4, 0x3E8, 0xFFFFFFFF, 0xFFFFF, 0x0, 0x0⟩,
  -- TT_PERIOD_ACT
  ⟨0x1C, 1, 0x4, 0x0, 0x0, 0x0, 0x0, 0x0⟩,
  -- TT_CHG_EPOCH
  ⟨0x20, 1, 0x4, 0x0, 0x0, 0x0, 0x0, 0x0⟩,
  -- TT_CLOSE
  ⟨0x24, 1, 0x4, 0x0, 0x0, 0x0, 0x0, 0x0⟩,
  -- TT_BOUND
  ⟨0x28, 1, 0x4, 0x0, 0x0, 0x0, 0x0, 0x0⟩,
  -- TT_TOPO
  ⟨0x2C, 1, 0x4, 0x0, 0x0, 0x0, 0x0, 0x0⟩,
  -- TT_VOLUME
  ⟨0x30, 1, 0x4, 0x0, 0x0, 0x0, 0x0, 0x0⟩,
  -- TT_OFFSET
  ⟨0x34, 1, 0x4, 0x0, 0x0, 0x0, 0x0, 0x0⟩,
  -- TT_IRQ
  ⟨0x38, 1, 0x4, 0x0, 0xFF, 0xFF, 0x300, 0x0⟩,
  -- TT_CNT
  ⟨0x3C, 1, 0x4, 0x0, 0x0, 0xFFFFFF, 0x0, 0x0⟩]

/-- The register rows of one `mani` block: offset, count, spacing, reset word,
retained bits, and the bits of type RW, HRW or CNT, of type W1C and of type W1S (R10, R561). -/
def regRows_mani : List RegRow := [
  -- MANI_CFG
  ⟨0x0, 1, 0x4, 0x800, 0xFFFFFFFF, 0xFF03, 0x0, 0x0⟩,
  -- MANI_STAT
  ⟨0x4, 1, 0x4, 0x0, 0x0, 0x0, 0x70, 0x0⟩,
  -- MANI_IMG_BASE
  ⟨0x8, 1, 0x4, 0x0, 0xFFFFFFFF, 0xFFF000, 0x0, 0x0⟩,
  -- MANI_BANK_SIZE
  ⟨0xC, 1, 0x4, 0x0, 0xFFFFFFFF, 0x7F000, 0x0, 0x0⟩,
  -- MANI_HOLD_A0
  ⟨0x10, 1, 0x4, 0x0, 0x0, 0x0, 0x0, 0x0⟩,
  -- MANI_HOLD_A1
  ⟨0x14, 1, 0x4, 0x0, 0x0, 0x0, 0x0, 0x0⟩,
  -- MANI_HOLD_B0
  ⟨0x18, 1, 0x4, 0x0, 0x0, 0x0, 0x0, 0x0⟩,
  -- MANI_HOLD_B1
  ⟨0x1C, 1, 0x4, 0x0, 0x0, 0x0, 0x0, 0x0⟩,
  -- MANI_MISS
  ⟨0x20, 1, 0x4, 0x0, 0x0, 0x0, 0x0, 0x0⟩,
  -- MANI_PEEKABLE
  ⟨0x24, 1, 0x4, 0x0, 0xFFFFFFFF, 0xFFFF, 0x0, 0x0⟩,
  -- MANI_REVT_CTRL
  ⟨0x28, 1, 0x4, 0x0, 0x7F7F, 0x7F7F, 0x30000, 0x0⟩,
  -- MANI_REVT_A
  ⟨0x2C, 1, 0x4, 0x0, 0x0, 0x0, 0x0, 0x0⟩,
  -- MANI_REVT_B
  ⟨0x30, 1, 0x4, 0x0, 0x0, 0x0, 0x0, 0x0⟩,
  -- MANI_CNT_STALE
  ⟨0x34, 1, 0x4, 0x0, 0x0, 0xFFFFFFFF, 0x0, 0x0⟩,
  -- MANI_CNT_DISC
  ⟨0x38, 1, 0x4, 0x0, 0x0, 0xFFFFFFFF, 0x0, 0x0⟩,
  -- MANI_VOLUME
  ⟨0x3C, 1, 0x4, 0x0, 0x0, 0x0, 0x0, 0x0⟩,
  -- PUB0
  ⟨0x2000, 64, 0x10, 0x0, 0xFFFFFFFF, 0xFFFFFF03, 0x0, 0x0⟩,
  -- PUB4
  ⟨0x2004, 64, 0x10, 0x0, 0xFFFFFFFF, 0xFFFFFFFF, 0x0, 0x0⟩,
  -- SUB0
  ⟨0x4000, 4096, 0x8, 0x0, 0xFFFFFFFF, 0xBFFFFFFF, 0x0, 0x0⟩,
  -- SUB4
  ⟨0x4004, 4096, 0x8, 0x0, 0xFFFFFFFF, 0xFF, 0x0, 0x0⟩]

/-- The register rows of one `sess` block: offset, count, spacing, reset word,
retained bits, and the bits of type RW, HRW or CNT, of type W1C and of type W1S (R10, R561). -/
def regRows_sess : List RegRow := [
  -- SS_CTRL
  ⟨0x0, 1, 0x4, 0x0, 0x0, 0x1, 0x0, 0x0⟩,
  -- SS_ADM
  ⟨0x4, 1, 0x4, 0xF14814, 0x0, 0xFFFF3F, 0x0, 0x0⟩,
  -- SS_QUEUE
  ⟨0x8, 1, 0x4, 0x0, 0x0, 0x0, 0x0, 0x0⟩,
  -- SS_BOOT
  ⟨0xC, 1, 0x4, 0x0, 0x0, 0x1FFFFFF, 0x0, 0x0⟩,
  -- SS_WIN_A0
  ⟨0x10, 1, 0x4, 0x0, 0x0, 0x7FF, 0x0, 0x0⟩,
  -- SS_WIN_A1
  ⟨0x14, 1, 0x4, 0x0, 0x0, 0x7FF, 0x0, 0x0⟩,
  -- SS_WIN_B0
  ⟨0x18, 1, 0x4, 0x0, 0x0, 0x7FF, 0x0, 0x0⟩,
  -- SS_WIN_B1
  ⟨0x1C, 1, 0x4, 0x0, 0x0, 0x7FF, 0x0, 0x0⟩,
  -- SS_LAST_A0
  ⟨0x20, 1, 0x4, 0x0, 0x0, 0x0, 0x0, 0x0⟩,
  -- SS_LAST_A1
  ⟨0x24, 1, 0x4, 0x0, 0x0, 0x0, 0x0, 0x0⟩,
  -- SS_LAST_B0
  ⟨0x28, 1, 0x4, 0x0, 0x0, 0x0, 0x0, 0x0⟩,
  -- SS_LAST_B1
  ⟨0x2C, 1, 0x4, 0x0, 0x0, 0x0, 0x0, 0x0⟩,
  -- SS_CNT_REFUSE
  ⟨0x30, 1, 0x4, 0x0, 0x0, 0xFFFFFFFF, 0x0, 0x0⟩,
  -- SS_CNT_AUTH
  ⟨0x34, 1, 0x4, 0x0, 0x0, 0xFFFFFFFF, 0x0, 0x0⟩,
  -- SS_CNT_STALE
  ⟨0x38, 1, 0x4, 0x0, 0x0, 0xFFFFFFFF, 0x0, 0x0⟩,
  -- SS_CNT_BCAST
  ⟨0x3C, 1, 0x4, 0x0, 0x0, 0xFFFF, 0x0, 0x0⟩,
  -- SS_SEL
  ⟨0x100, 1, 0x4, 0x0, 0x0, 0x3FF, 0x0, 0x0⟩,
  -- SS_E_CFG
  ⟨0x104, 1, 0x4, 0x0, 0x0, 0xFF0F3F7F, 0x0, 0x0⟩,
  -- SS_E_PEER
  ⟨0x108, 1, 0x4, 0x0, 0x0, 0x7FF, 0x0, 0x0⟩,
  -- SS_E_INFL
  ⟨0x10C, 1, 0x4, 0x0, 0x0, 0x0, 0x0, 0x0⟩,
  -- SS_E_TXCNT
  ⟨0x110, 1, 0x4, 0x0, 0x0, 0x0, 0x0, 0x0⟩,
  -- SS_E_RXCNT
  ⟨0x114, 1, 0x4, 0x0, 0x0, 0x0, 0x0, 0x0⟩,
  -- SS_E_CMD
  ⟨0x118, 1, 0x4, 0x0, 0x0, 0x0, 0x0, 0x3⟩,
  -- SS_E_WIN_BASE
  ⟨0x120, 8, 0x8, 0x0, 0x0, 0xFFFFFFFF, 0x0, 0x0⟩,
  -- SS_E_WIN_LIM
  ⟨0x124, 8, 0x8, 0x0, 0x0, 0x3FFFFFFF, 0x0, 0x0⟩,
  -- SS_KEY
  ⟨0x180, 8, 0x4, 0x0, 0x0, 0xFFFFFFFF, 0x0, 0x0⟩]

/-- The register rows of one `pool` block: offset, count, spacing, reset word,
retained bits, and the bits of type RW, HRW or CNT, of type W1C and of type W1S (R10, R561). -/
def regRows_pool : List RegRow := [
  -- PL_CFG
  ⟨0x0, 1, 0x4, 0x400000F, 0xFFFFFFFF, 0x1FFF000F, 0x0, 0x0⟩,
  -- PL_STAT
  ⟨0x4, 1, 0x4, 0x1000, 0x0, 0x0, 0x4000, 0x0⟩,
  -- PL_ALLOC
  ⟨0x8, 1, 0x4, 0x0, 0x0, 0x0, 0x0, 0x0⟩,
  -- PL_FREE
  ⟨0xC, 1, 0x4, 0x0, 0x0, 0xFFFFFFFF, 0x0, 0x0⟩,
  -- PL_GIVE
  ⟨0x10, 1, 0x4, 0x0, 0x0, 0xFFF0FFF, 0x0, 0x0⟩,
  -- PL_RECLAIM
  ⟨0x14, 1, 0x4, 0x0, 0x0, 0xFFF, 0x0, 0x0⟩,
  -- PL_TAG_SEL
  ⟨0x18, 1, 0x4, 0x0, 0x0, 0xFFF, 0x0, 0x0⟩,
  -- PL_TAG
  ⟨0x1C, 1, 0x4, 0x0, 0x0, 0x0, 0x0, 0x0⟩,
  -- PL_RES_A0
  ⟨0x20, 1, 0x4, 0x0, 0x0, 0x0, 0x0, 0x0⟩,
  -- PL_RES_A1
  ⟨0x24, 1, 0x4, 0x0, 0x0, 0x0, 0x0, 0x0⟩,
  -- PL_RES_B0
  ⟨0x28, 1, 0x4, 0x0, 0x0, 0x0, 0x0, 0x0⟩,
  -- PL_RES_B1
  ⟨0x2C, 1, 0x4, 0x0, 0x0, 0x0, 0x0, 0x0⟩,
  -- PL_CNT
  ⟨0x30, 1, 0x4, 0x0, 0x0, 0xFFFFFFFF, 0x0, 0x0⟩,
  -- PL_IRQ
  ⟨0x34, 1, 0x4, 0x0, 0xFFFFFFFF, 0x1FFF00FF, 0x0, 0x0⟩]

/-- The register rows of one `triad` block: offset, count, spacing, reset word,
retained bits, and the bits of type RW, HRW or CNT, of type W1C and of type W1S (R10, R561). -/
def regRows_triad : List RegRow := [
  -- TR_STAT
  ⟨0x0, 2, 0x100, 0x70, 0x700, 0x0, 0x0, 0x0⟩,
  -- TR_RESYNC_CNT
  ⟨0x4, 2, 0x100, 0x0, 0xFFFFFFFF, 0xFFFFFFFF, 0x0, 0x0⟩,
  -- TR_CORE_CNT
  ⟨0x8, 2, 0x100, 0x0, 0xFFFFFFFF, 0xFFFFFF, 0x0, 0x0⟩,
  -- TR_EVT
  ⟨0xC, 2, 0x100, 0x0, 0xFFFFFFFF, 0x0, 0x80000000, 0x0⟩,
  -- TR_EVT_PC
  ⟨0x10, 2, 0x100, 0x0, 0xFFFFFFFF, 0x0, 0x0, 0x0⟩,
  -- TR_EVT_TIME_LO
  ⟨0x14, 2, 0x100, 0x0, 0xFFFFFFFF, 0x0, 0x0, 0x0⟩,
  -- TR_EVT_TIME_HI
  ⟨0x18, 2, 0x100, 0x0, 0xFFFFFFFF, 0x0, 0x0, 0x0⟩,
  -- TR_LAST_RESYNC
  ⟨0x1C, 2, 0x100, 0x0, 0xFFFFFFFF, 0x0, 0x0, 0x0⟩,
  -- TR_CFG
  ⟨0x20, 2, 0x100, 0x3, 0xFFFFFFFF, 0xF, 0x0, 0x0⟩,
  -- TR_DBG
  ⟨0x24, 2, 0x100, 0x0, 0x0, 0x0, 0x200, 0x0⟩]

/-- The register rows of one `patrol` block: offset, count, spacing, reset word,
retained bits, and the bits of type RW, HRW or CNT, of type W1C and of type W1S (R10, R561). -/
def regRows_patrol : List RegRow := [
  -- PT_CFG
  ⟨0x0, 1, 0x4, 0x6, 0xFFFFFFFF, 0x7, 0x0, 0x0⟩,
  -- PT_STAT
  ⟨0x4, 1, 0x4, 0x1, 0x0, 0x0, 0x0, 0x0⟩,
  -- PT_SWEEPS
  ⟨0x8, 1, 0x4, 0x0, 0x0, 0xFFFFFFFF, 0x0, 0x0⟩,
  -- PT_CNT
  ⟨0xC, 1, 0x4, 0x0, 0x0, 0xFFFFFFFF, 0x0, 0x0⟩,
  -- PT_CNT2
  ⟨0x10, 1, 0x4, 0x0, 0x0, 0xFFFFFFFF, 0x0, 0x0⟩,
  -- PT_LOG_STAT
  ⟨0x14, 1, 0x4, 0x0, 0x0, 0x0, 0x20, 0x0⟩,
  -- PT_LOG
  ⟨0x18, 1, 0x4, 0x0, 0x0, 0x0, 0x0, 0x0⟩,
  -- PT_IRQ
  ⟨0x1C, 1, 0x4, 0x0, 0xFFFFFFFF, 0xFF, 0x0, 0x0⟩,
  -- PT_HEAL_MAP0
  ⟨0x100, 8, 0x8, 0x0, 0xFFFFFFFF, 0x0, 0x0, 0x0⟩,
  -- PT_HEAL_MAP4
  ⟨0x104, 8, 0x8, 0x0, 0xFFFFFFFF, 0x0, 0x0, 0x0⟩]

/-- The register rows of one `calst` block: offset, count, spacing, reset word,
retained bits, and the bits of type RW, HRW or CNT, of type W1C and of type W1S (R10, R561). -/
def regRows_calst : List RegRow := [
  -- FP_KEY
  ⟨0x40, 1, 0x4, 0x0, 0x0, 0xFFFF, 0x0, 0x0⟩,
  -- FP_ADDR
  ⟨0x44, 1, 0x4, 0x0, 0x0, 0xFFFFFFFF, 0x0, 0x0⟩,
  -- FP_SRC
  ⟨0x48, 1, 0x4, 0x0, 0x0, 0xFFFFF8, 0x0, 0x0⟩,
  -- FP_LEN
  ⟨0x4C, 1, 0x4, 0x0, 0x0, 0x1FFF, 0x0, 0x0⟩,
  -- FP_CMD
  ⟨0x50, 1, 0x4, 0x0, 0x0, 0x3, 0x0, 0x4⟩,
  -- FP_STAT
  ⟨0x54, 1, 0x4, 0x0, 0x0, 0x0, 0xE, 0x0⟩,
  -- FP_CNT
  ⟨0x58, 1, 0x4, 0x0, 0xFFFFFFFF, 0xFFFFFFFF, 0x0, 0x0⟩,
  -- CS_STAT
  ⟨0x0, 1, 0x4, 0x0, 0xF, 0x0, 0x3000, 0x0⟩,
  -- CS_GEN
  ⟨0x4, 1, 0x4, 0x0, 0xFFFFFFFF, 0x0, 0x0, 0x0⟩,
  -- CS_SRC
  ⟨0x8, 1, 0x4, 0x0, 0x0, 0xFFFFF0, 0x0, 0x0⟩,
  -- CS_LEN
  ⟨0xC, 1, 0x4, 0x0, 0x0, 0x3FF, 0x0, 0x0⟩,
  -- CS_CMD
  ⟨0x10, 1, 0x4, 0x0, 0x0, 0x0, 0x0, 0x1⟩,
  -- CS_CNT
  ⟨0x14, 1, 0x4, 0x0, 0xFFFFFFFF, 0xFFFFFF, 0x0, 0x0⟩,
  -- CS_IRQ
  ⟨0x18, 1, 0x4, 0x0, 0xFFFFFFFF, 0x3FF, 0x0, 0x0⟩]

/-- The register rows of one `ch` block: offset, count, spacing, reset word,
retained bits, and the bits of type RW, HRW or CNT, of type W1C and of type W1S (R10, R561). -/
def regRows_ch : List RegRow := [
  -- CH_STATE
  ⟨0x0, 1, 0x4, 0x0, 0x0, 0x0, 0x0, 0x0⟩,
  -- CH_STATE_DP
  ⟨0x4, 1, 0x4, 0x0, 0x0, 0x0, 0x0, 0x0⟩,
  -- CH_STATE_DIE
  ⟨0x8, 1, 0x4, 0x0, 0x0, 0x0, 0x0, 0x0⟩,
  -- CH_QUEUE
  ⟨0xC, 1, 0x4, 0x0, 0x0, 0x0, 0x0, 0x0⟩,
  -- CH_EVT
  ⟨0x10, 1, 0x4, 0x0, 0x0, 0x0, 0xFF, 0x0⟩,
  -- CH_IRQ
  ⟨0x14, 1, 0x4, 0x0, 0x0, 0xFF3F, 0x0, 0x0⟩,
  -- CH_FAULT
  ⟨0x18, 1, 0x4, 0x0, 0xFF00, 0xFF00, 0x0, 0x0⟩,
  -- CH_LINK
  ⟨0x1C, 1, 0x4, 0x0, 0xFFFFFFFF, 0xFFFFFFFF, 0x0, 0x0⟩,
  -- CH_SUPPLY
  ⟨0x20, 1, 0x4, 0x0, 0x0, 0x0, 0x0, 0x0⟩,
  -- CH_TIMES
  ⟨0x24, 1, 0x4, 0x0, 0x0, 0x0, 0x0, 0x0⟩,
  -- CH_REFUSE
  ⟨0x28, 1, 0x4, 0x0, 0xFFFFFFFF, 0xFFFF, 0x0, 0x0⟩,
  -- CH_REC
  ⟨0x100, 16, 0x4, 0x0, 0x0, 0x0, 0x0, 0x0⟩,
  -- CH_PREC
  ⟨0x140, 16, 0x4, 0x0, 0x0, 0x0, 0x0, 0x0⟩,
  -- CH_ITEM
  ⟨0x400, 48, 0x4, 0x0, 0x0, 0x0, 0x0, 0x0⟩]

/-- The register rows of one `rfx` block: offset, count, spacing, reset word,
retained bits, and the bits of type RW, HRW or CNT, of type W1C and of type W1S (R10, R561). -/
def regRows_rfx : List RegRow := [
  -- RFX_CTRL
  ⟨0x0, 1, 0x4, 0x0, 0x0, 0x0, 0x0, 0x3⟩,
  -- RFX_STAT
  ⟨0x4, 1, 0x4, 0x0, 0x0, 0xFF0000, 0x6000, 0x0⟩,
  -- RFX_TARGET
  ⟨0x8, 1, 0x4, 0x0, 0xFFFFFFFF, 0xFFFF, 0x0, 0x0⟩,
  -- RFX_PEND
  ⟨0xC, 1, 0x4, 0x0, 0x0, 0x0, 0x0, 0x0⟩,
  -- RFX_CNT
  ⟨0x10, 1, 0x4, 0x0, 0x0, 0xFFFFFFFF, 0x0, 0x0⟩,
  -- RFX_WCNT
  ⟨0x14, 1, 0x4, 0x0, 0x0, 0xFFFFFFFF, 0x0, 0x0⟩,
  -- RFX_NOTE
  ⟨0x18, 1, 0x4, 0x0, 0x0, 0x0, 0x100, 0x0⟩,
  -- RFX_IRQ
  ⟨0x1C, 1, 0x4, 0x0, 0xFFFFFFFF, 0xFF, 0x0, 0x0⟩,
  -- RFX_SEL
  ⟨0x40, 8, 0x4, 0x0, 0xFFFFFFFF, 0xFF, 0x0, 0x0⟩,
  -- RFX_V
  ⟨0x80, 8, 0x4, 0x0, 0x0, 0xFFFFFFFF, 0x0, 0x0⟩,
  -- RFX_PROG
  ⟨0x100, 64, 0x4, 0x0, 0xFFFFFFFF, 0xFFFFFFFF, 0x0, 0x0⟩,
  -- RFX_WRX0
  ⟨0x200, 4, 0x10, 0x0, 0xFFFFFFFF, 0x1FFFFFFF, 0x0, 0x0⟩,
  -- RFX_WRX4
  ⟨0x204, 4, 0x10, 0x0, 0xFFFFFFFF, 0x7FF, 0x0, 0x0⟩,
  -- RFX_WRX8
  ⟨0x208, 4, 0x10, 0x0, 0xFFFFFFFF, 0xFFFFFFFF, 0x0, 0x0⟩]

end Sys2Proof.Machine
end

