-- ==== Sys2Proof/Machine/State.lean ====
section
/-! DEFINITION. The state of the EZ1632 as plain data: the device registers as one
register file, the memories, and for every block what the spec gives it beside its
registers. Default values are the values after a power-on reset. -/

namespace Sys2Proof.Machine

/-! ### Machines and triads -/

/-- An access that a machine has issued and whose completion it waits for: a load or store of
`width` bytes at a local address (R82) or, through session `sess`, at a station address (R100, R106). -/
structure CoreAccess where
  write  : Bool := false
  addr   : Nat := 0
  sess   : Option Nat := none
  width  : Nat := 4
  signed : Bool := false
  rd     : BitVec 5 := 0
  data   : Word := 0
deriving DecidableEq, Repr

/-- An instruction of majors 0x1E and 0x1F that a block in reset, or a page that is being healed, holds, with the
operands that it has read (R82, R152). -/
inductive HeldOp where
  | chmode (gd : BitVec 5) (n : Fin 16) (record : Nat)
  | chset (item : Nat) (gd : BitVec 5) (n : Fin 16) (v : Word)
  | chget (item : Nat) (gd : BitVec 5) (n : Fin 16)
  | propose (gd : BitVec 5) (n : Fin 16) (v : Word)
  | retract (gd : BitVec 5) (n : Fin 16)
  | commit (gd : BitVec 5) (mask : Nat)
  | peek (gd : BitVec 5) (node chan : Nat)
deriving DecidableEq, Repr

/-- What a machine that issues nothing waits for. -/
inductive Wait where
  /-- issuing -/
  | none
  /-- WAITI (R147) -/
  | waiti
  /-- WAITD.DEP, or WAITD.MAN when `man` (R163) -/
  | waitd (man : Bool) (rd : BitVec 5) (epoch : Word)
  /-- an access to a block in reset (R82) -/
  | stall (a : CoreAccess)
  /-- an instruction that acts on a block in reset (R82, R152) -/
  | held (op : HeldOp)
  /-- an entry whose vector word, at index `i` of the table, lies on a page that is being healed (R119, R462):
  whether it is an NMI entry, and its return address -/
  | vector (i : Nat) (nmi : Bool) (ret : Word)
  /-- a station access whose reply is out, carried by request `req` (R100, R106) -/
  | station (a : CoreAccess) (req : Nat)
  /-- a PEEK whose reply is out (R168) -/
  | peek (rd : BitVec 5) (node : Nat) (chan : Nat) (req : Nat)
deriving DecidableEq, Repr

/-- The control registers at reset (R96), with 0 for `VBASE`, which the image gives: `STATUS`, `ESTATUS` and `NSTATUS` at
STATION, `TRAPCFG`, and `TASKID` without a task. -/
def ctrlReset : Vector Word 32 :=
  #v[1, 0, 1, 0, 0, 0, 0, 0, 0, 0, 0, 0, 1, 0, 1, 0x1F, 0, 0, 0, 0, 0, 0, 0, 0, 0, 0, 0, 0, 0, 0, 0, 0]

/-- One architectural machine: the state of R92, and what R97, R121, R122 and R124 make it hold.
`c` keeps the control registers that hold a value of their own; the counters and the
times read through them are kept apart. -/
structure MachState where
  g       : Vector Word 32 := Vector.replicate 32 0
  pc      : Word := 0
  c       : Vector Word 32 := ctrlReset
  cycle   : Nat := 0
  retire  : Nat := 0
  /-- halted under R121 -/
  halted  : Bool := false
  /-- an NMI that has arrived and has not been taken, with the source it reports (R122) -/
  nmi     : Option Nat := none
  /-- when it arrived, in model time: sources of one cycle count as one arrival (R122) -/
  nmiAt   : Nat := 0
  /-- a wake interrupt that has arrived (R120) -/
  wake    : Bool := false
  wait    : Wait := .none
  /-- an element of a long instruction has ended since it started or resumed (R125) -/
  longRun : Bool := false
  /-- an NMI entry has been made and its first instruction has not been fetched yet (R121) -/
  nmiFirst : Bool := false
  /-- a debug step is under way: one instruction executes although the triad is halted (R191) -/
  step : Bool := false
deriving DecidableEq, Repr

/-- Where a resynchronisation or a pair recovery stands (R184, R187). -/
inductive TriadPhase where
  | normal
  /-- the background copy into the odd core runs -/
  | copying (core : Nat)
  /-- the copy is complete; the next boundary is the resynchronisation point -/
  | copied (core : Nat)
  /-- resynchronisation that waits for the wake supply (R189) -/
  | asleep (core : Nat)
  /-- pair recovery from lead `lead`, raised as source `src` -/
  | recovery (lead : Nat) (src : Nat)
deriving DecidableEq, Repr

/-- The hidden state of one triad (R179, R184, R187, R188, R190, R191). -/
structure TriadH where
  phase    : TriadPhase := .normal
  /-- when the event of the present resynchronisation or recovery happened -/
  evtTime  : Nat := 0
  /-- station time of the latest event, whose upper half a read of `TR_EVT_TIME_LO` latches -/
  evtStamp : Nat := 0
  /-- times at which each core was odd, newest first (R188) -/
  oddTimes : List (Nat × Nat) := []
  /-- a debug halt is held until the release (R190) -/
  haltPend : Bool := false
  /-- the replay log: a register code and the value written (R191) -/
  log      : List (Nat × Word) := []
  /-- this triad has set source SB`k`, k = 0-9, and its sticky bit still stands (R487) -/
  raised   : BitVec 10 := 0
deriving DecidableEq, Repr

/-! ### Power, reset and sleep -/

/-- Where the module stands between unpowered and running (R65, R75, R77). -/
inductive Phase where
  /-- no valid intake, or hold-up has ended -/
  | unpowered
  /-- power-on reset held -/
  | powerOn
  /-- a chip reset in progress -/
  | chipReset
  /-- reset released -/
  | running
deriving DecidableEq, Repr

/-- Intakes, pad supply, the reset pin and the release conditions of R66. -/
structure PowerH where
  east      : Bool := false
  west      : Bool := false
  aux24     : Bool := false
  /-- `VIO_IN` has been at or above 1.62 V for 1 ms (R38) -/
  vioOk     : Bool := false
  /-- the power-fail sequence of R52 runs -/
  failing   : Bool := false
  /-- in the power-fail sequence: the intakes that have become valid again since it started (R52, R53) -/
  returned  : List Intake := []
  otpLoaded : Bool := false
  /-- the OTP check has failed (R67) -/
  otpBad    : Bool := false
  memInit   : Bool := false
  /-- a reset release has followed the last power-on reset (R74) -/
  released  : Bool := false
  /-- `nRST` is held low -/
  nrstLow   : Bool := false
  /-- the chip reset in progress was caused by escalation step 2 (R511) -/
  byTally   : Bool := false
  /-- the chip reset in progress was caused by the CHIP_RESET reaction (R491) -/
  bySigbox  : Bool := false
  /-- the monitors of SYSCLK and of the tally oscillator report a fault (R484, R500) -/
  sysFault  : Bool := false
  tallyFault : Bool := false
deriving DecidableEq, Repr

/-- What the entry of a block into reset leaves to be worked off within the same command: consequences
at other blocks that raise sources or send frames. -/
inductive Due where
  /-- a triad's live proposals are withdrawn with the cascade (R238) -/
  | withdraw (t : Triad)
  /-- a LINKED port is lost with cause LOCAL (R395) -/
  | linkLost (p : Port)
  /-- the node is unlocked by a reset of `TTBL` (R204) -/
  | lockLost
  /-- a machine's station access ends ABORTED_RESET by a reset of `SESS` (R411) -/
  | accessAborted (m : Mach)
  /-- a write of the calibration store, or a flash programming command, ends ABORTED (R471, R477) -/
  | calAborted
  | flashAborted
  /-- station pieces of the shunters end ABORTED_RESET by a reset of `SESS` (R445) -/
  | piecesAborted
  /-- shunters lose their check-value units by a reset of `CRCU` (R445) -/
  | unitsLost
  /-- a request that the server held ends ABORTED_RESET by a reset of `SESS` (R411) -/
  | srvAborted (dst cls : Nat) (msg : SessReqMsg) (qdepth : Nat) (key : Vector Word 8)
deriving DecidableEq, Repr

/-- Block resets: requests deferred under R80, when each block last left reset, and what is due. -/
structure ResetH where
  deferred : List Nat := []
  lastRel  : List (Nat × Nat) := []
  due      : List Due := []
deriving DecidableEq, Repr

/-- STABLED: which machines of a split triad have written their ready bit (R86). -/
structure SleepH where
  wrote  : Vector Bool 4 := Vector.replicate 4 false
  /-- in WAKING, the core supply is up and conversions run (R90) -/
  supplyUp : Bool := false
deriving DecidableEq, Repr

/-! ### Signal box and tally watchdog -/

/-- What the signal box holds beside its registers (R489, R490). -/
structure SigboxH where
  /-- when the quiet timer runs out -/
  quietEnd  : Nat := 0
  /-- since FAULT was entered a source with reaction ERR_PINS or CHIP_RESET has been raised -/
  errSince  : Bool := false
  /-- station time of the raise recorded in `SB_FIRST` -/
  firstTime : Nat := 0
  /-- when the latest strong raise arrived -/
  lastAt    : Nat := 0
deriving DecidableEq, Repr

/-- What the tally watchdog holds beside its registers (R501, R502, R505, R506, R507). -/
structure TallyH where
  /-- the period in force, in ms -/
  period  : Nat := 1000
  /-- the tallies enabled for the period in force -/
  enabled : BitVec 16 := 0
  /-- key sequence: 0 none, 1 first value written, 2 key open -/
  keyStage : Nat := 0
  keyTime  : Nat := 0
  /-- ns counted in the present period -/
  phase    : Nat := 0
  /-- ns of suspension added up since the last period end -/
  suspended : Nat := 0
  /-- the erase guard has expired in this period -/
  guardOut : Bool := false
  /-- the module has entered STABLED and counting stands still (R505) -/
  stopped  : Bool := false
deriving DecidableEq, Repr

/-! ### Roll call (R541 to R545) -/

/-- The snapshot that a roll call has latched: its header and the value of every copied register. -/
structure RollSnap where
  /-- model time of the edge -/
  edge   : Nat := 0
  src    : Nat := 0
  sbSrc  : Nat := 0
  locked : Bool := false
  rollId : Nat := 0
  time   : Nat := 0
  epoch  : Nat := 0
  /-- generation indices of the blocks that were in reset -/
  inRst  : List Nat := []
  /-- the next instruction of A0, A1, B0 and B1 -/
  pcs    : List Word := []
  /-- copied values by local address; an address with no entry held its reset word -/
  copy   : List (Nat × Word) := []
deriving DecidableEq, Repr

/-- What roll call holds beside its registers. -/
structure RollH where
  snap    : Option RollSnap := none
  /-- the node's local roll-call count -/
  count   : Nat := 0
  /-- the node's own station roll-call ID (R545) -/
  lastId  : Nat := 0
deriving DecidableEq, Repr

/-! ### Debug port (R547, R548) -/

/-- The vendor debug transport: the result that the next shift returns, and an access that stalls on
a block in reset. -/
structure DebugH where
  /-- the instruction register of the test access port: IDCODE after a TAP reset (R547) -/
  ir      : BitVec 5 := 2
  status  : Nat := 0
  detail  : Nat := 0
  data    : Word := 0
  /-- the stalled access: whether it is a write, its address and its data -/
  stalled : Option (Bool × Nat × Word) := none
deriving DecidableEq, Repr


/-! ### Track walker and calibration store (R460 to R481) -/

/-- What the track walker holds beside its registers. -/
structure PatrolH where
  /-- the log, oldest entry first (R463) -/
  log    : List Word := []
  /-- heals in progress, the oldest first: the SRAM page and the word that started the heal (R462) -/
  heals  : List (Nat × Nat) := []
  /-- the sweep period in force (R464) -/
  period : Nat := 2
deriving DecidableEq, Repr

/-- One trim entry of the calibration store (R468). -/
structure CalEntry where
  ch    : Nat
  range : Nat
  gain  : Word
  ofs   : Word
deriving DecidableEq, Repr

/-- A flash programming command that runs (R476). -/
inductive FpOp where
  | erase (sector : Nat)
  | program (addr : Nat) (data : List Byte)
deriving DecidableEq, Repr

/-- What `CALST` holds beside its registers. -/
structure CalH where
  /-- the shadow table (R469) -/
  shadow  : List CalEntry := []
  /-- the bank that the write in progress goes to, its generation and its body -/
  target  : Nat := 0
  gen     : Nat := 0
  body    : List Byte := []
  /-- the flash programming key: 0 none, 1 first value written, 2 complete (R475) -/
  fpStage : Nat := 0
  fpTime  : Nat := 0
  fpOp    : Option FpOp := none
deriving DecidableEq, Repr


/-! ### Orvia (12_orvia_link.md) -/

/-- Deficit round robin (R408): the class whose turn it is and the deficit of each class; the deficits of the sessions, by
`class * 1024 + session`, and the session of each class that was served last. -/
structure Drr where
  turn : Nat := 4
  cls  : Vector Nat 4 := Vector.replicate 4 0
  sess : List (Nat × Nat) := []
  last : Vector Nat 4 := Vector.replicate 4 0
deriving DecidableEq, Repr

/-- One port beside its registers (R372 to R375, R390). -/
structure PortH where
  txSeq    : Nat := 0
  /-- the LSEQ that the receiver expects next -/
  rxNext   : Nat := 0
  /-- frames sent and not acknowledged, oldest first -/
  unacked  : List (Nat × Frame) := []
  /-- frames held back, by rank and then in the order queued -/
  held     : List (Nat × Frame) := []
  /-- the LSEQ of an accepted first burst that waits for its second -/
  burst0   : Option Nat := none
  /-- replays without progress of the oldest frame -/
  replays  : Nat := 0
  /-- a valid MARK has arrived in the present check interval; intervals without one -/
  marked   : Bool := false
  silent   : Nat := 0
  lossTimes : List Nat := []
  badTimes  : List Nat := []
  /-- the last ACK word, NACK word and MARK word sent, and the count of the last MARK -/
  ackOut   : Option KWord := none
  nackOut  : Option KWord := none
  markOut  : Option KWord := none
  markCount : Nat := 0
  /-- the exchange is complete and the first delay measurement is awaited -/
  exchanged : Bool := false
  /-- the link was lost in RING mode and the points are still to be closed (R391) -/
  toClose  : Bool := false
  /-- SB42 has been set for the present time of holding back -/
  holdTold : Bool := false
  /-- time spent on SAFETY frames in the present interval, in ns, and the turns of the other classes (R408) -/
  safetyUsed : Nat := 0
  drr      : Drr := {}
deriving DecidableEq, Repr

/-- What a node knows of a reachable node (R386, R389). -/
structure NodeInfo where
  /-- the port on the path with fewer hops -/
  port      : Port
  serial    : DWord
  rev       : Nat
  eastSt    : Nat
  westSt    : Nat
  delay     : Nat
  volume    : Nat
  /-- no trained path leads to the node since a link was lost (R199, R393) -/
  cut       : Bool := false
deriving DecidableEq, Repr

/-- What `ORVIA` holds beside its registers. -/
structure OrviaH where
  east   : PortH := {}
  west   : PortH := {}
  oseq   : Nat := 0
  nodes  : List (Nat × NodeInfo) := []
  /-- origin, origin sequence and time of frames accepted within the last 2 ms -/
  recent : List (Nat × Nat × Nat) := []
  /-- frames that have been delivered to the node and await their own event -/
  inbox  : List (Option Port × Frame) := []
  /-- queued whistles, each with the time at which it leaves and its ports (R339) -/
  whistleOut : List (Nat × WhistleMsg × List Port) := []
  whistleSeq : Nat := 0
  /-- origin, sequence and time of whistles received within the last 8 µs (R341) -/
  whistleIn  : List (Nat × Nat × Nat) := []
  /-- RING_OPEN has been set for the present LINE time (R393) -/
  ringTold : Bool := false
deriving DecidableEq, Repr

/-! ### Sessions (13_station_access.md) -/

/-- The replay window of one requester: highest accepted counter, the counters seen, the time of the last
accepted request (R403). -/
structure RxWin where
  node : Nat
  high : Nat
  seen : List Nat
  last : Nat
deriving DecidableEq, Repr

/-- One session entry (R402). -/
structure SessEntry where
  cfg   : Word := 0
  peer  : Word := 0
  base  : Vector Word 8 := Vector.replicate 8 0
  lim   : Vector Word 8 := Vector.replicate 8 0
  key   : Vector Word 8 := Vector.replicate 8 0
  tx    : Nat := 0
  rxHigh : Nat := 0
  wins  : List RxWin := []
  inflC : Nat := 0
  inflS : Nat := 0
  /-- an entry command that waits for the in-flight count to reach 0: LOAD_KEY, or CLEAR when true (R414) -/
  cmd   : Option Bool := none
deriving DecidableEq, Repr

/-- Who waits for the reply of a request. -/
inductive Requester where
  | mach (m : Mach)
  | shunter (n : Fin 16) (piece : Nat)
deriving DecidableEq, Repr

/-- A request of this node that is out (R404, R410). -/
structure OutReq where
  id      : Nat
  who     : Requester
  sid     : Nat
  counter : Nat
  node    : Nat
  write   : Bool
  own     : Bool
  bcast   : Bool
  reqGen  : Nat
  reqBlk  : Nat
  oseq    : Nat
deriving DecidableEq, Repr

/-- A request that the server holds (R406). `own` is the request of this node that it serves. -/
structure SrvReq where
  src    : Nat
  addr   : Nat
  msg    : SessReqMsg
  qdepth : Nat
  bcast  : Bool
  own    : Option Nat
deriving DecidableEq, Repr

/-- What `SESS` holds beside its registers. -/
structure SessH where
  entries : List (Nat × SessEntry) := []
  /-- queues of SAFETY, CONTROL, SUPERVISORY and BULK, oldest first -/
  queues  : Vector (List SrvReq) 4 := Vector.replicate 4 []
  out     : List OutReq := []
  /-- time spent on SAFETY in the present interval, in ns (R408) -/
  safetyUsed : Nat := 0
  /-- the turns of the classes below SAFETY -/
  drr     : Drr := {}
  /-- the boot load over Orvia has ended (R413) -/
  bootLoaded : Bool := false
deriving DecidableEq, Repr

/-! ### Manifest (R212 to R242) -/

/-- The states of a proposal (R229). -/
inductive PropState where
  | none | proposed | doubt | conditional | final | retracted
deriving DecidableEq, Repr

/-- A producer that has been peeked as PROPOSED: node, channel and depth, and the origin sequence number of the reply
(R165, R169, R230). -/
structure Dep where
  node  : Nat
  chan  : Nat
  depth : Nat := 0
  seq   : Nat := 0
deriving DecidableEq, Repr

/-- The proposal of one channel in the present epoch (R229, R230). -/
structure Proposal where
  state : PropState := .none
  value : Word := 0
  depth : Nat := 0
  /-- the producers that it still depends on -/
  deps  : List Dep := []
  /-- the nodes that have recorded a dependency on it -/
  cons  : List Nat := []
  /-- the machine that proposed it -/
  by_   : Mach := .a0
  /-- committed with the present output unchanged (R167) -/
  keep  : Bool := false
deriving DecidableEq, Repr

/-- One enabled subscription in force (R223). -/
structure SubRow where
  idx    : Nat
  node   : Nat
  entry  : Nat
  offset : Nat
  maxlen : Nat
deriving DecidableEq, Repr

/-- One enabled entry in force (R216). -/
structure PubRow where
  idx    : Nat
  src    : Nat
  len    : Nat
  chmask : Nat
  addr   : Nat
deriving DecidableEq, Repr

/-- What `MANI` holds beside its registers. -/
structure ManiH where
  props   : Vector Proposal 16 := Vector.replicate 16 {}
  /-- producers that each machine has peeked as PROPOSED in this epoch and that are live -/
  peeked  : Vector (List Dep) 4 := Vector.replicate 4 []
  revtA   : List Word := []
  revtB   : List Word := []
  /-- what is in force since the last departure (R228) -/
  en      : Bool := false
  pubs    : List PubRow := []
  subs    : List SubRow := []
  base    : Nat := 0
  size    : Nat := 0
  /-- the newest entry accepted for each subscription, and the subscriptions that have this epoch's -/
  newest  : List (Nat × EntryMsg) := []
  arrived : List Nat := []
  /-- the bank that is being written; the latest closed epoch with its bank -/
  bank    : Nat := 0
  closed  : Option (Nat × Nat) := none
  /-- the gathering of the present epoch has not closed -/
  gathering : Bool := false
  /-- the deadline of the next departure has passed, and the values that it applies -/
  resolved : Bool := false
  apply   : Vector (Option Word) 16 := Vector.replicate 16 none
  missed  : Vector Bool 16 := Vector.replicate 16 false
  /-- the channels with a proposal in DOUBT for the departure (R220) -/
  doubt   : BitVec 16 := 0
  /-- entries as last published, for STABLED (R87): index, header flags, payload -/
  lastPub : List (Nat × Nat × List Word) := []
  /-- notices taken in this epoch: node, channel, origin sequence (R169) -/
  notices : List (Nat × Nat × Nat) := []
deriving DecidableEq, Repr

/-! ### Timetable (R198 to R211, R584) -/

/-- What the timetable holds beside its registers. -/
structure TtblH where
  /-- station time in ns, or the node time of R584 while the node has no station time -/
  clk     : Nat := 0
  /-- the epoch of the last departure run, and of the next one -/
  epoch   : Nat := 0
  nextE   : Nat := 0
  anchorE : Nat := 0
  anchorT : Nat := 0
  /-- a period change announced: period in µs and the epoch at which it takes effect -/
  pend    : Option (Nat × Nat) := none
  /-- a time frame has been received since reset release; consecutive ones within ±40 ns -/
  heard   : Bool := false
  okFrames : Nat := 0
  /-- the node has been locked since its reset (R204) -/
  wasLocked : Bool := false
  /-- what remains to be slewed, in ns -/
  slew    : Int := 0
  slewPhase : Nat := 0
  /-- a departure has been run at all, and since the last lock or step (R163, R203) -/
  ran     : Bool := false
  started : Bool := false
  /-- the revision and the format that the next departure takes up (R222, R383) -/
  revNext : Nat := 0
  fmtNext : Nat := 1
deriving DecidableEq, Repr


/-! ### Channels (08 to 11) -/

/-- The configuration of a channel: mode and variant, the value of each item in force, and the record's
words 10 to 12 (R259, R303, R327). -/
structure ChCfg where
  mode    : Nat := 0
  variant : Nat := 0
  items   : List (Nat × Word) := []
  regSeq  : Word := 0
  injSeq  : Word := 0
  modePar : Word := 0
deriving DecidableEq, Repr

/-- Requests of a channel that wait for one departure (R156): the record of the last CHMODE, and the
values of CHSET items in order. -/
structure ChSlot where
  record : Option (List Word) := none
  items : List (Nat × Word) := []
deriving DecidableEq, Repr

/-- An injected result in its queue (R302, R304). -/
structure InjRes where
  slot  : Nat
  mux   : Nat
  delay : Nat
  value : Word
deriving DecidableEq, Repr

/-- A processed value with its completion time in station time (R283, R286). -/
structure ProcRes where
  value   : Word
  time    : Nat
  clipped : Bool
  aux     : Word
deriving DecidableEq, Repr

/-- The newest ZERO, REF, LEAD and CJ results (R284, R292, R293). `zero` and `ref` are in the unit of the
PRIMARY reading; `ref` has the trimmed reference value beside it. -/
structure AuxRes where
  zero : Option Int := none
  ref  : Option (Int × Int) := none
  lead : Option Int := none
  cj   : Option Int := none
deriving DecidableEq, Repr

/-- The state of one channel beside its registers. -/
structure ChanH where
  cfg     : ChCfg := {}
  /-- requests for the next departure, and for the one after it -/
  next    : ChSlot := {}
  later   : ChSlot := {}
  /-- the record that waits for the end of SHUTTING, with the items carried with it -/
  pend    : Option ChSlot := none
  /-- when CONFIGURING or SHUTTING began, when the configuration was complete, when OFF was reached -/
  since   : Nat := 0
  done    : Option Nat := none
  offAt   : Nat := 0
  /-- the mode that a block reset found, unless the channel was OFF (R258) -/
  wasMode : Option Nat := none
  badTimes : List Nat := []
  /-- the die copy differed at the last departure (R266) -/
  dieSkew : Bool := false
  /-- the regular slot that runs; the slot at which the regular sequence goes on after an injected run -/
  regSlot : Option Nat := none
  regNext : Option Nat := none
  /-- station time of the waiting injected request; the injected slot that runs; the delay of its run in µs -/
  injWait : Option Nat := none
  injSlot : Option Nat := none
  injDelay : Nat := 0
  /-- station time at which the latest regular and injected runs started (R279) -/
  regStart : Option Nat := none
  injStart : Option Nat := none
  injQ    : List InjRes := []
  injLost : Bool := false
  /-- regular slots that have completed since ARMED (R284) -/
  seen    : List Nat := []
  aux     : AuxRes := {}
  /-- processed values, the newest first, down to the newest that the last departure could latch -/
  proc    : List ProcRes := []
  regOvr  : Nat := 0
  injOvr  : Nat := 0
  edges   : Nat := 0
  depSkip : Bool := false
  /-- the debounced level at the terminal, the count, the time of the last selected edge -/
  level   : Bool := false
  count   : Word := 0
  lastEdge : Option Nat := none
  /-- the input at the fast comparator in VALUE units, and whether the comparator is armed (R296) -/
  fastIn    : Int := 0
  fastArmed : Bool := false
  /-- the departure lead that governs the next departure (R306) -/
  leadNow : Word := 0
  /-- a request that has registered at departures whose strobe the die missed (R268) -/
  held    : ChSlot := {}
  /-- repeats so far of the frame that the logic end, and the die end, sends (R246) -/
  isoToDie : Nat := 0
  isoToLogic : Nat := 0
  /-- the published record: VALUE, AGE and DIAG; items updated at departures -/
  value   : Word := 0
  age     : Word := 0
  diag    : Word := 0
  lat     : List (Nat × Word) := []
  /-- dropped actions since the last departure -/
  drops   : Nat := 0
  /-- the target in force, and the position that a ramp has reached -/
  target  : Word := 0
  pos     : Int := 0
  /-- actions are numbered; the newest LATCH action and the newest EPOCH action whose hold is in force -/
  actSeq  : Nat := 0
  holdL   : Nat := 0
  holdE   : Nat := 0
  suppressed : Bool := false
  /-- output trim in force and its source; the command field and the result of `TRIM_CTRL` -/
  trimGain : Int := 0
  trimOfs  : Int := 0
  trimSrc  : Nat := 0
  trimCmd  : Nat := 0
  trimRes  : Nat := 0
  /-- a point drive has ended at the present departure (R321) -/
  driveEnded : Bool := false
  /-- effective headroom and boost voltage in mV, the last dropout, flags of the interval -/
  heff    : Nat := 0
  vboost  : Nat := 0
  lastDrop : Nat := 0
  atBound : Bool := false
  boundSide : Bool := false
  boostMax : Bool := false
  boostMin : Bool := false
  iLimit  : Bool := false
  warn    : Bool := false
  /-- the last temperature reading was 125 °C or more; the load resistance measured last, in mΩ (R314, R315) -/
  hot     : Bool := false
  rload   : Option Nat := none
  /-- the last report of the terminal supply lay below 18 V (R248) -/
  pLow    : Bool := false
  fold    : Nat := 100
  foldUp  : Bool := false
  thermal : Bool := false
  /-- switch thermal shutdown: occurred in the interval, off until restart, latched, times -/
  swTherm : Bool := false
  swOff   : Bool := false
  swLatched : Bool := false
  swTimes : List Nat := []
  /-- readback: the slot that runs is the current slot; results with completion times, newest first; the
  boost has been at its maximum throughout the slot; when each readback diagnostic was last found -/
  rbCur   : Bool := false
  rbV     : List (Int × Nat) := []
  rbI     : List (Int × Nat) := []
  boostFull : Bool := false
  rbFound : List (Nat × Nat) := []
  /-- diagnostics active now, and active since the last departure; the time of the latest activation -/
  diagNow : Nat := 0
  occurred : Nat := 0
  diagTime : Nat := 0
  /-- an activation timed at the departure that is due, or after it (R348) -/
  diagLate : Option Nat := none
  /-- `REFUGE_CTRL` -/
  rcCmd   : Nat := 0
  rcRes   : Nat := 0
  rcAuto  : Bool := false
  rcCause : Nat := 0
deriving DecidableEq, Repr

/-! ### Reflex lanes (R329 to R345) -/

/-- What a RUNNING lane waits for: the pending bit of a masked selector, or the end of DELAY. -/
inductive LaneWait where
  | none
  | event (vd : Nat) (mask : Nat)
  | delay (until_ : Nat)
deriving DecidableEq, Repr

/-- A lane beside its registers, which hold its state, its PC and v0 to v7. -/
structure LaneH where
  wait : LaneWait := .none
deriving DecidableEq, Repr

/-- An output action on its way to a channel die (R335, R342): the lane that counts it, whether it came
by a whistle and from which node, and when it was issued. -/
structure ActMsg where
  chan   : Fin 16
  kind   : Nat
  value  : Word
  latch  : Bool
  lane   : Fin 16
  from_  : Option Nat
  issued : Nat
deriving DecidableEq, Repr

/-- One record of the reflex log (R219). -/
structure ReflexRec where
  time   : Nat
  chan   : Nat
  origin : Nat
  node   : Nat
  value  : Word
deriving DecidableEq, Repr

/-- Actions in flight, and the actions of the interval for the reflex log. -/
structure ReflexH where
  flight : List ActMsg := []
  /-- actions that have come with the strobe of the departure that is due (R337) -/
  atDep  : List ActMsg := []
  log    : List ReflexRec := []
deriving DecidableEq, Repr

/-! ### Shunters and the pool (14_shunters_pool.md) -/

/-- Where a shunter stands within a waybill: between waybills, fetching one, waiting for its check-value unit,
moving data, writing back (R424, R434). -/
inductive ShStage where
  | rest | fetch | unit | move | back
deriving DecidableEq, Repr

/-- A station request of a shunter (R428, R431), be it a piece, a fetch or a write-back: its place in the stream
or in the waybill, whether it is a write, when it was first sent, the request that is out, and, while it waits
to be sent again, the reply that asked for it. -/
structure Piece where
  off   : Nat
  len   : Nat
  write : Bool
  first : Nat
  req   : Option Nat
  again : Option Nat := none
deriving DecidableEq, Repr

/-- Why a waybill fails: code and detail of R435, the side, and, where an access fails, its address as `SH_ERR`
holds it. -/
structure ShFail where
  code   : Nat
  detail : Nat
  side   : Nat := 0
  at_    : Option (Word × Word) := none
deriving DecidableEq, Repr

/-- One shunter beside its registers. -/
structure ShuntH where
  stage  : ShStage := .rest
  /-- the first waybill since GO or RESUME, and the waybills fetched since -/
  first  : Word × Word := (0, 0)
  hops   : Nat := 0
  /-- session and EXP_GEN of the fetch -/
  sid    : Nat := 0
  expGen : Nat := 0
  /-- the copy of the waybill (R426) -/
  words  : List Word := []
  /-- how a station fetch or write-back has ended: code and detail of R435, 0 for success, and the data -/
  got    : Option (Nat × Nat × List Byte) := none
  /-- writes of the write-back that are still to come: words 0 and 1, and before them word 15 -/
  back   : Nat := 0
  /-- the stream as far as it has been read without a gap, later parts of it, the next byte to ask for -/
  stream : List Byte := []
  parts  : List (Nat × List Byte) := []
  nextRd : Nat := 0
  /-- bytes whose writes have been issued -/
  wr     : Nat := 0
  pieces : List Piece := []
  fail   : Option ShFail := none
  /-- the check-value unit that it holds -/
  unit   : Option (Fin 4) := none
deriving DecidableEq, Repr

/-- What `POOL` holds beside its registers. -/
structure PoolH where
  /-- the tags of wagons that are not FREE, by index -/
  tags    : List (Nat × Nat) := []
  /-- the free list: the wagons never taken since it was built, from this one up, and those returned since -/
  fresh   : Nat := 0
  freed   : List Nat := []
  /-- wagons freed whose marking is not done -/
  marking : List Nat := []
deriving DecidableEq, Repr

/-! ### SPX (18_spx_port.md) -/

/-- An assertion of `nSPX_SS`: whether it starts a slave frame, the protocol in force then (R532), and whether it
came before the frame before it had been applied (R530). -/
structure SlaveSel where
  served : Bool := false
  neg    : Word := 0x8001
  early  : Bool := false
deriving DecidableEq, Repr

/-- What a master frame does on the bus pads, one entry for each clock cycle that carries bits (R519, R520, R524):
the select lines take a target, `nSPX_SELEN` is asserted, the lanes carry bits that the port drives, DUMMY cycles
run with the lanes released, the lanes are released for the target, they carry bits that the target drives, both
at once in one lane each way, `nSPX_SELEN` is deasserted, every bus pad is released at once (R528). -/
inductive SpxPad where
  | select (target : Nat)
  | enable
  | drive (lanes bits : Nat)
  | dummy (cycles : Nat)
  | release
  | sample (lanes bits : Nat)
  | both (out in_ : Nat)
  | disable
  | off
deriving DecidableEq, Repr

/-- What `SPX` holds beside its registers. -/
structure SpxH where
  /-- FIFOs of the master, and the mailboxes, host to program and program to host, oldest first -/
  tx     : List Word := []
  rx     : List Word := []
  mbIn   : List Word := []
  mbOut  : List Word := []
  /-- the master frame that runs: its `SPX_MFRAME` and RELEASE_AFTER, its length, the bytes or units that are
  left, and what the target will answer -/
  frame  : Word := 0
  rel    : Bool := false
  len    : Nat := 0
  left   : Nat := 0
  din    : List Word := []
  /-- what the last master frame has done on the bus pads, oldest first -/
  pads   : List SpxPad := []
  /-- assertions of the slave select, oldest first -/
  slave  : List SlaveSel := []
  /-- the last word that the slave drove, and what its output lanes carried in the last frame that it served, cycle
  by cycle -/
  driven : Word := 0
  out    : List Nat := []
  /-- BOOT_ADDR, BOOT_CTRL, and that the load has ended (R536) -/
  bootAddr : Nat := 0
  bootSize : Nat := 0
  loaded : Bool := false
deriving DecidableEq, Repr


/-! ### The whole state -/

/-- The state of the module. -/
structure State where
  /-- the device registers of R552 by local address, in rising order; an address with no entry
  holds its reset word -/
  regs     : List (Nat × Word) := []
  /-- model time in ns since the module was first powered -/
  now      : Nat := 0
  phase    : Phase := .powerOn
  pwr      : PowerH := {}
  otp      : Fuses := {}
  straps   : Straps := {}
  image    : Option BootImage := none
  rst      : ResetH := {}
  slp      : SleepH := {}
  machs    : Vector MachState 4 := Vector.replicate 4 {}
  triads   : Vector TriadH 2 := Vector.replicate 2 {}
  /-- SRAM bytes; an address with no entry reads 0x00 -/
  sram     : List Host.Cell := []
  /-- marks of 64-bit SRAM words by word number; a word with no entry is unwritten (R68) -/
  sramMark : List (Nat × Mark) := []
  /-- stored errors of SRAM words that no access has met yet (R457) -/
  sramErr  : List (Nat × EccErr) := []
  /-- flash bytes by local address; an address with no entry reads 0xFF, erased -/
  flash    : List Host.Cell := []
  flashErr : List (Nat × EccErr) := []
  /-- flash sectors whose content an erase or a programming in progress or cut short leaves undefined
  (R472, R477) -/
  flashFlux : List Nat := []
  sb       : SigboxH := {}
  tl       : TallyH := {}
  tt       : TtblH := {}
  mani     : ManiH := {}
  chs      : Vector ChanH 16 := Vector.replicate 16 {}
  lanes    : Vector LaneH 16 := Vector.replicate 16 {}
  rfx      : ReflexH := {}
  ov       : OrviaH := {}
  ss       : SessH := {}
  sh       : Vector ShuntH 16 := Vector.replicate 16 {}
  /-- the shunter that the local fabric has served last (R436) -/
  shTurn   : Fin 16 := 15
  pool     : PoolH := {}
  pt       : PatrolH := {}
  cs       : CalH := {}
  spx      : SpxH := {}
  rc       : RollH := {}
  dbg      : DebugH := {}
  /-- the number of the next request of a machine or a shunter -/
  nextReq  : Nat := 0
  /-- the MODEL's own: how many free values have been taken (see `Config.freeValue`) -/
  freeIdx  : Nat := 0
  /-- the MODEL's own: the commands that wait, first in, first out -/
  pending  : List Instr := []
deriving DecidableEq, Repr

/-- The state right after a power-on reset: every register holds its reset word, and the first intake has
become valid (R65, R77). -/
def State.reset : State := { pwr := { aux24 := true } }

/-- Why a step stops with a fault. No command of this hardware does: what the spec calls an error is
recorded in the state. -/
inductive Fault where
  /-- raised by no meaning, hence safe; kept so that the type is not empty. -/
  | none
deriving DecidableEq, Repr

/-- Why a command is refused. -/
inductive Refusal where
  /-- raised by an arm of `exec` whose command has no meaning yet; safe, because nothing is claimed of it. -/
  | notModelled (mnemonic : String)
deriving DecidableEq, Repr


end Sys2Proof.Machine
end

