-- ==== Sys2Proof/Machine/Ops.lean ====
section
/-! DEFINITION. The named operations over the state that every meaning uses: fields of device
registers, general and control registers of a machine, bytes and words of SRAM and flash, the
times that are stamped, and free values. -/

namespace Sys2Proof.Machine

/-! ### Device registers (R10, R556) -/

/-- The ones of a field of `width` bits at bit `lo`. -/
def fieldMask (lo width : Nat) : Word := BitVec.ofNat 32 ((2 ^ width - 1) <<< lo)

/-- The value of a field in a word. -/
def fieldOf (w : Word) (lo width : Nat) : Nat := (w.toNat >>> lo) % 2 ^ width

/-- A word with one field replaced by `v` modulo the field's width (R13). -/
def fieldPut (w : Word) (lo width v : Nat) : Word :=
  (w &&& ~~~ fieldMask lo width) ||| BitVec.ofNat 32 ((v % 2 ^ width) <<< lo)

/-- The word a device register holds. -/
def State.getR (s : State) (r : Rg) : Word := (lookupNat r.addr s.regs).getD (BitVec.ofNat 32 r.rst)

/-- Puts a word into a device register. -/
def State.setR (s : State) (r : Rg) (w : Word) : State := { s with regs := insertNat r.addr w s.regs }

/-- The value of a register field. -/
def State.getF (s : State) (f : Fd) : Nat := fieldOf (s.getR f.reg) f.lo f.width

/-- Sets a register field. -/
def State.setF (s : State) (f : Fd) (v : Nat) : State :=
  s.setR f.reg (fieldPut (s.getR f.reg) f.lo f.width v)

/-- Whether a one-bit field is 1. -/
def State.isF (s : State) (f : Fd) : Bool := s.getF f != 0

/-- Sets a one-bit field to 1. -/
def State.onF (s : State) (f : Fd) : State := s.setF f 1

/-- Sets a field to 0. -/
def State.offF (s : State) (f : Fd) : State := s.setF f 0

/-- Counts a field up by `k`, saturating at its width (type CNT). -/
def State.addF (s : State) (f : Fd) (k : Nat) : State := s.setF f (satAdd (2 ^ f.width - 1) (s.getF f) k)

/-- Counts a field up by one, saturating. -/
def State.incF (s : State) (f : Fd) : State := s.addF f 1

/-- Bit `i` of a field that is a set of bits. -/
def State.bitF (s : State) (f : Fd) (i : Nat) : Bool := (s.getF f).testBit i

/-- Sets bit `i` of a field that is a set of bits. -/
def State.setBitF (s : State) (f : Fd) (i : Nat) : State := s.setF f (s.getF f ||| 1 <<< i)

/-- Clears bit `i` of a field that is a set of bits. -/
def State.clrBitF (s : State) (f : Fd) (i : Nat) : State :=
  if s.bitF f i then s.setF f (s.getF f - 1 <<< i) else s

/-! ### Parts of the state -/

def State.mach (s : State) (m : Mach) : MachState := vget s.machs m.idx
def State.setMach (s : State) (m : Mach) (x : MachState) : State := { s with machs := vset s.machs m.idx x }
def State.modMach (s : State) (m : Mach) (f : MachState → MachState) : State := s.setMach m (f (s.mach m))

def State.tri (s : State) (t : Triad) : TriadH := vget s.triads t.idx
def State.setTri (s : State) (t : Triad) (x : TriadH) : State := { s with triads := vset s.triads t.idx x }
def State.modTri (s : State) (t : Triad) (f : TriadH → TriadH) : State := s.setTri t (f (s.tri t))

def State.ch (s : State) (n : Fin 16) : ChanH := vget s.chs n
def State.setCh (s : State) (n : Fin 16) (x : ChanH) : State := { s with chs := vset s.chs n x }
def State.modCh (s : State) (n : Fin 16) (f : ChanH → ChanH) : State := s.setCh n (f (s.ch n))

def State.lane (s : State) (n : Fin 16) : LaneH := vget s.lanes n
def State.setLane (s : State) (n : Fin 16) (x : LaneH) : State := { s with lanes := vset s.lanes n x }
def State.modLane (s : State) (n : Fin 16) (f : LaneH → LaneH) : State := s.setLane n (f (s.lane n))

def State.shu (s : State) (n : Fin 16) : ShuntH := vget s.sh n
def State.setShu (s : State) (n : Fin 16) (x : ShuntH) : State := { s with sh := vset s.sh n x }
def State.modShu (s : State) (n : Fin 16) (f : ShuntH → ShuntH) : State := s.setShu n (f (s.shu n))

/-- The next free value, and the state that has taken it. -/
def State.takeFree (s : State) : BitVec 64 × State :=
  (Config.freeValue s.freeIdx, { s with freeIdx := s.freeIdx + 1 })

/-- Does `f` for each of a list of things, in order. -/
def State.each {α : Type} (f : α → State → State) : List α → State → State
  | [], s => s
  | x :: r, s => State.each f r (f x s)

/-- The sixteen numbers of channels, lanes and shunters. -/
def all16 : List (Fin 16) := List.finRange 16

/-! ### General and control registers of a machine (R92, R96) -/

/-- Reads a general register: g0 reads 0. -/
def State.rg (s : State) (m : Mach) (r : BitVec 5) : Word :=
  if r = 0 then 0 else vget (s.mach m).g r.toFin

/-- Writes a general register: a write to g0 is discarded. -/
def State.wg (s : State) (m : Mach) (r : BitVec 5) (w : Word) : State :=
  if r = 0 then s else s.modMach m fun x => { x with g := vset x.g r.toFin w }

/-- Reads the stored word of a control register. -/
def State.rc' (s : State) (m : Mach) (k : Fin 32) : Word := vget (s.mach m).c k

/-- Writes the stored word of a control register. -/
def State.wc (s : State) (m : Mach) (k : Fin 32) (w : Word) : State :=
  s.modMach m fun x => { x with c := vset x.c k w }

def State.setPc (s : State) (m : Mach) (a : Word) : State := s.modMach m fun x => { x with pc := a }

/-- The register after a pair's even register. -/
def pairHi (r : BitVec 5) : BitVec 5 := r + 1

/-- Whether a register may name a pair (R93): even, and not g0. -/
def pairOk (r : BitVec 5) : Bool := r != 0 && !(r.getLsbD 0)

/-! ### SRAM and flash (R68, R110 to R112, R456, R552) -/

/-- The byte at an address of a memory whose unlisted bytes read `d`. -/
def cellGet (d : Byte) (l : List Host.Cell) (a : Nat) : Byte := (lookupNat a l).getD d

/-- Writes a byte and keeps the one canonical form: no entry equal to `d`. -/
def cellPut (d : Byte) (l : List Host.Cell) (a : Nat) (b : Byte) : List Host.Cell :=
  if b = d then eraseNat a l else insertNat a b l

/-- The canonical form of a memory: addresses rise strictly, and no entry equals what an unlisted
address reads as. -/
def Memory.wf (d : Byte) (l : List Host.Cell) : Bool := sortedNat l && l.all fun p => p.2 != d

/-- What an SRAM byte with no entry reads as (R110). -/
def sramDefault : Byte := 0x00

/-- What a flash byte with no entry reads as: an erased byte (R473). -/
def flashDefault : Byte := 0xFF

def State.sramByte (s : State) (a : Nat) : Byte := cellGet sramDefault s.sram a
def State.flashByte (s : State) (a : Nat) : Byte := cellGet flashDefault s.flash a

/-- The value of `n` bytes that `rd` gives from address `a` up, little-endian. -/
def leRead (rd : Nat → Byte) (a : Nat) : Nat → Nat
  | 0 => 0
  | n + 1 => (rd a).toNat + 256 * leRead rd (a + 1) n

/-- Byte `k` of a value, little-endian. -/
def leByte (v k : Nat) : Byte := BitVec.ofNat 8 (v >>> (8 * k))

/-- The `n` bytes of a value, lowest first. -/
def leBytes (v : Nat) : Nat → List Byte
  | 0 => []
  | n + 1 => BitVec.ofNat 8 v :: leBytes (v / 256) n

/-- The value of a list of bytes, lowest first. -/
def leNat : List Byte → Nat
  | [] => 0
  | b :: r => b.toNat + 256 * leNat r

def State.sramRead (s : State) (a n : Nat) : Nat := leRead s.sramByte a n
def State.flashRead (s : State) (a n : Nat) : Nat := leRead s.flashByte a n

/-- Writes a list of bytes into a memory from address `a` up. -/
def cellsPut (d : Byte) (l : List Host.Cell) (a : Nat) : List Byte → List Host.Cell
  | [] => l
  | b :: r => cellsPut d (cellPut d l a b) (a + 1) r

/-- The mark of an SRAM word; none says unwritten (R68). -/
def State.markOf (s : State) (w : Nat) : Option Mark := lookupNat w s.sramMark

def State.setMark (s : State) (w : Nat) (k : Mark) : State := { s with sramMark := insertNat w k s.sramMark }

/-- Marks every word that holds one of `n` bytes from `a` up as written (R111). -/
def markRange (l : List (Nat × Mark)) (a : Nat) : Nat → List (Nat × Mark)
  | 0 => l
  | n + 1 => insertNat ((a + n) / 8) .written (markRange l a n)

/-- Stores bytes into SRAM; each word touched stops being unwritten (R111), and a poisoned one takes
the new data. -/
def State.sramStore (s : State) (a : Nat) (bs : List Byte) : State :=
  { s with sram := cellsPut sramDefault s.sram a bs, sramMark := markRange s.sramMark a bs.length }

/-- Whether some word that holds one of the bytes `a` to `a + n - 1` has a mark that `p` picks. -/
def State.anyMark (s : State) (p : Option Mark → Bool) (a n : Nat) : Bool :=
  (List.range n).any fun i => p (s.markOf ((a + i) / 8))

def isUnwritten : Option Mark → Bool
  | none => true
  | some _ => false

def isPoisoned : Option Mark → Bool
  | some .poisoned => true
  | _ => false

/-- Whether an address lies in SRAM, in flash, in the device region, in the station window (R98). -/
def inSram (a : Nat) : Bool := a < 0x0100_0000
def inFlash (a : Nat) : Bool := 0x1000_0000 ≤ a && a < 0x1400_0000
def inDevice (a : Nat) : Bool := 0x4000_0000 ≤ a && a < 0x8000_0000
def inWindow (a : Nat) : Bool := 0x8000_0000 ≤ a && a < 0x1_0000_0000

/-! ### The triads (R71, R92, R194) -/

/-- Whether a triad is effectively split. -/
def State.split (s : State) (t : Triad) : Bool :=
  match t with
  | .a => s.isF Fd.STRAP_SPLIT_A
  | .b => s.isF Fd.STRAP_SPLIT_B

/-- Whether a machine exists: x0 always, x1 only while its triad is split. -/
def State.machExists (s : State) (m : Mach) : Bool := m.core == 0 || s.split m.triad

/-- The machines of a triad that exist. -/
def State.machsOf (s : State) (t : Triad) : List Mach := if s.split t then [t.mach 0, t.mach 1] else [t.mach 0]

/-! ### Blocks in reset (R81, R91) -/

/-- The bit of `BLK_RST0` or `BLK_RST1` that belongs to a block, if it has one (R78, R91). -/
def blkBit : Blk → Option (Fd × Nat)
  | .shunt => some (Fd.BLK_RST0_SHUNT, 0)
  | .crcu => some (Fd.BLK_RST0_CRCU, 0)
  | .spx => some (Fd.BLK_RST0_SPX, 0)
  | .orvia => some (Fd.BLK_RST0_ORVIA, 0)
  | .ttbl => some (Fd.BLK_RST0_TTBL, 0)
  | .mani => some (Fd.BLK_RST0_MANI, 0)
  | .sess => some (Fd.BLK_RST0_SESS, 0)
  | .pool => some (Fd.BLK_RST0_POOL, 0)
  | .triad .a => some (Fd.BLK_RST0_TRIAD_A, 0)
  | .triad .b => some (Fd.BLK_RST0_TRIAD_B, 0)
  | .patrol => some (Fd.BLK_RST0_PATROL, 0)
  | .calst => some (Fd.BLK_RST0_CALST, 0)
  | .ch n => some (Fd.BLK_RST1_CH, n.val)
  | .rfx n => some (Fd.BLK_RST1_RFX, n.val)
  | .sys => none
  | .sigbox => none
  | .tally => none

/-- Whether the `BLK_RST` bit of a block reads 1: a reset is requested or in progress (R81, R91). -/
def State.rstBit (s : State) (b : Blk) : Bool :=
  match blkBit b with
  | some (f, i) => s.bitF f i
  | none => false

/-- Whether a block is in reset (R81). A request deferred under R80 is not yet a reset. -/
def State.inReset (s : State) (b : Blk) : Bool := s.rstBit b && !(s.rst.deferred.contains b.gen)

def State.setRstBit (s : State) (b : Blk) : State :=
  match blkBit b with
  | some (f, i) => s.setBitF f i
  | none => s

def State.clrRstBit (s : State) (b : Blk) : State :=
  match blkBit b with
  | some (f, i) => s.clrBitF f i
  | none => s

/-- The generation of a block (R79). -/
def State.genOf (s : State) (b : Blk) : Nat := s.getF (Fd.GEN_GEN b.gen)

/-- The generation after `g`: it wraps from 0xFF to 0x01 (R79). -/
def nextGen (g : Nat) : Nat := if g ≥ 0xFF then 1 else g + 1

def State.bumpGen (s : State) (k : Nat) : State := s.setF (Fd.GEN_GEN k) (nextGen (s.getF (Fd.GEN_GEN k)))

end Sys2Proof.Machine
end

