-- ==== Sys2Proof/Machine/Crcu.lean ====
section
/-! DEFINITION. The CRC units of `CRCU` (R453, R454). -/

namespace Sys2Proof.Machine

/-- The polynomial that a unit is set to. -/
def State.cuPoly (s : State) (u : Fin 4) : Poly := Poly.ofCode (s.getF (Fd.CU_CFG_POLY u.val))

/-- `CU_VALUE` as it reads: its upper bits are 0 for the widths 16 and 8 (R455). -/
def State.cuValue (s : State) (u : Fin 4) : Nat := s.getF (Fd.CU_VALUE_VALUE u.val) &&& (s.cuPoly u).mask

/-- `CU_RESULT` as it reads (R453). -/
def State.cuResult (s : State) (u : Fin 4) : Nat :=
  let v := s.cuValue u
  if s.isF (Fd.CU_CFG_INV u.val) then v ^^^ (s.cuPoly u).mask else v

/-- Whether a unit is FREE; whether a shunter other than `by_` holds it (R454). -/
def State.cuFree (s : State) (u : Fin 4) : Bool := s.getF (Fd.CU_STAT_OWNER u.val) == 0

def State.cuForeign (s : State) (u : Fin 4) (by_ : Agent) : Bool :=
  s.getF (Fd.CU_STAT_OWNER u.val) == 2 &&
    match by_ with
    | .shunter n => n.val != s.getF (Fd.CU_STAT_SH u.val)
    | _ => true

def State.cuRefuse (s : State) (u : Fin 4) : State := s.onF (Fd.CU_STAT_REFUSED u.val)

/-- START (R453): the initial value, masked to the width, is the running value. -/
def State.cuLoad (s : State) (u : Fin 4) : State :=
  (s.setF (Fd.CU_VALUE_VALUE u.val) (s.getF (Fd.CU_INIT_INIT u.val) &&& (s.cuPoly u).mask)).offF (Fd.CU_STAT_BYTES u.val)

/-- Bytes enter a unit. -/
def State.cuEnter (s : State) (u : Fin 4) (bs : List Byte) : State :=
  (s.setF (Fd.CU_VALUE_VALUE u.val) (crcBytes (s.cuPoly u) (s.getF (Fd.CU_VALUE_VALUE u.val)) bs)).addF
    (Fd.CU_STAT_BYTES u.val) bs.length

/-- CLAIM (R454): takes a FREE unit for PROGRAM; refused while a shunter holds it. -/
def State.cuClaim (s : State) (u : Fin 4) : State :=
  match s.getF (Fd.CU_STAT_OWNER u.val) with
  | 0 => s.setF (Fd.CU_STAT_OWNER u.val) 1
  | 1 => s
  | _ => s.cuRefuse u

/-- RELEASE (R454): frees a unit that PROGRAM holds. -/
def State.cuRelease (s : State) (u : Fin 4) : State :=
  match s.getF (Fd.CU_STAT_OWNER u.val) with
  | 0 => s
  | 1 => s.offF (Fd.CU_STAT_OWNER u.val)
  | _ => s.cuRefuse u

/-- START as a command of agent `by_` (R454). -/
def State.cuStart (s : State) (u : Fin 4) (by_ : Agent) : State :=
  if s.cuFree u || s.cuForeign u by_ then s.cuRefuse u else s.cuLoad u

/-- FOLD (R451, R453, R454). -/
def State.cuFold (s : State) (u : Fin 4) (by_ : Agent) : State :=
  if s.cuFree u || s.cuForeign u by_ then s.cuRefuse u
  else
    let addr := s.getF (Fd.CU_FADDR_LO_ADDR u.val) + 2 ^ 32 * s.getF (Fd.CU_FADDR_HI_ADDR u.val)
    s.cuEnter u (foldBytes addr (s.getF (Fd.CU_FSEQ_SEQ u.val)))

/-- A write of one of the data registers with `n` bytes (R453, R454). -/
def State.cuData (s : State) (u : Fin 4) (n : Nat) (v : Word) (by_ : Agent) : State :=
  if s.cuFree u || s.cuForeign u by_ then s.cuRefuse u else s.cuEnter u (leBytes v.toNat n)

/-- A write of `CU_CTRL`: its commands in the order of their bits. -/
def State.cuCtrl (s : State) (u : Fin 4) (v : Word) (by_ : Agent) : State :=
  if s.cuForeign u by_ then s.cuRefuse u
  else
    let s := if v.getLsbD 0 then s.cuClaim u else s
    let s := if v.getLsbD 1 then s.cuRelease u else s
    let s := if v.getLsbD 2 then s.cuStart u by_ else s
    if v.getLsbD 3 then s.cuFold u by_ else s

/-- Whether the block accepts writes now. -/
def State.cuLive (s : State) : Bool := s.phase == .running && !s.inReset .crcu

end Sys2Proof.Machine
end

