-- ==== Sys2Proof/Machine/ChanCfg.lean ====
section
/-! DEFINITION. Channel configurations: modes and variants (R260, R261), items by mode (R301, R326, R362),
their layouts and ranges (R272 to R275, R304, R328, R357, R361), the record and its check (R259, R262). -/

namespace Sys2Proof.Machine

/-! ### Modes (R260, R261) -/

def mOff : Nat := 0x0
def mDI : Nat := 0x1
def mCounter : Nat := 0x2
def mHS : Nat := 0x3
def mVI : Nat := 0x4
def mVO : Nat := 0x5
def mCI : Nat := 0x6
def mCO : Nat := 0x7
def mRTD : Nat := 0x8
def mTC : Nat := 0x9
def mRes : Nat := 0xA

/-- The output modes, the analogue output modes, the digital input modes, the analogue input modes. -/
def isOutput (m : Nat) : Bool := m == mHS || m == mVO || m == mCO
def isAnaOut (m : Nat) : Bool := m == mVO || m == mCO
def isDigital (m : Nat) : Bool := m == mDI || m == mCounter
def isAnaIn (m : Nat) : Bool := m == mVI || m == mCI || m == mRTD || m == mTC || m == mRes
def isInput (m : Nat) : Bool := isDigital m || isAnaIn m
def isOhm (m : Nat) : Bool := m == mRTD || m == mRes

/-- VARIANT is valid for the mode (R261). -/
def variantOk (m v : Nat) : Bool :=
  if isDigital m then v < 8 && v % 4 != 0
  else if m = mVI ∨ m = mVO ∨ m = mCI then v < 2
  else if isOhm m then v < 4 && v != 1
  else v == 0

/-- 3-wire and 2-wire connection. -/
def is3Wire (m v : Nat) : Bool := isOhm m && v == 3
def is2Wire (m v : Nat) : Bool := isOhm m && v == 2

def ChCfg.item (c : ChCfg) (i : Nat) : Word := (lookupNat i c.items).getD 0
def ChCfg.setItem (c : ChCfg) (i : Nat) (w : Word) : ChCfg := { c with items := insertNat i w c.items }

/-- The cold-junction source is INTERNAL (R294). -/
def ChCfg.cjInternal (c : ChCfg) : Bool := c.mode == mTC && !c.modePar.getLsbD 7

/-! ### Items by mode -/

/-- The items that CHSET may name in a mode (R301, R326, R362). Item 0x00 is judged apart. -/
def itemSet (m v i : Nat) : Bool :=
  if i = 0x01 ∨ i = 0x02 ∨ i = 0x03 ∨ i = 0x04 ∨ i = 0x07 then isAnaIn m
  else if i = 0x05 then m == mVI || m == mCI
  else if i = 0x06 then isAnaIn m || m == mCounter
  else if i = 0x08 then isDigital m
  else if i = 0x09 then m == mTC || m == mCounter || is2Wire m v
  else if i = 0x10 ∨ i = 0x11 ∨ i = 0x13 ∨ i = 0x14 ∨ i = 0x15 then isAnaOut m
  else if i = 0x12 then m == mHS
  else if i = 0x1D ∨ i = 0x21 then isOutput m
  else if i = 0x20 ∨ i = 0x25 then m != mOff
  else false

/-- The items that a mode defines for CHGET beside those of CHSET. -/
def itemRo (m v i : Nat) : Bool :=
  if i = 0x0A ∨ i = 0x0B ∨ i = 0x0C then isInput m
  else if i = 0x0D then isDigital m || m == mTC || is3Wire m v
  else if i = 0x0E ∨ i = 0x0F then isAnaIn m
  else if i = 0x16 ∨ i = 0x17 ∨ i = 0x1C then isAnaOut m
  else if i = 0x18 ∨ i = 0x19 ∨ i = 0x1A ∨ i = 0x1B ∨ i = 0x1E then isOutput m
  else if i = 0x22 ∨ i = 0x23 ∨ i = 0x24 then m != mOff
  else false

def itemDefined (m v i : Nat) : Bool := i == 0 || itemSet m v i || itemRo m v i

/-! ### Sequences and filters (R272 to R275) -/

/-- A regular slot's code is permitted. -/
def regMuxOk (m v code : Nat) : Bool :=
  code == 0 || code == 3 || code == 4 || (code == 1 && is3Wire m v) || (code == 2 && m == mTC)

/-- An injected slot's code is permitted. -/
def injMuxOk (m v code : Nat) : Bool :=
  code == 0 || (code == 1 && is3Wire m v) || code == 2 || code == 3 || code == 4 || code == 5

/-- Code and profile of slot `i` of a sequence word. -/
def slotMux (w : Word) (i : Nat) : Nat := fieldOf w (4 * i) 3
def slotProf (w : Word) (i : Nat) : Nat := fieldOf w (4 * i + 3) 1

def ChCfg.regLen (c : ChCfg) : Nat := fieldOf (c.item 1) 13 3 + 1
def ChCfg.injLen (c : ChCfg) : Nat := fieldOf (c.item 1) 16 2 + 1

/-- A profile word holds a valid filter (R274, R275). -/
def filterOk (w : Word) : Bool :=
  let order := fieldOf w 0 3
  let dec := fieldOf w 4 15
  fieldOf w 3 1 == 0 && fieldOf w 21 11 == 0 &&
    (if fieldOf w 19 2 = 0 then 1 ≤ order && order ≤ 5 && 1 ≤ dec && dec ≤ 16384 else order == 0 && dec == 0)

/-- The edge field fits the trigger source: non-zero for a `TRIG` source, 0 for another. -/
def edgeOk (src edge : Nat) : Bool := if 2 ≤ src ∧ src ≤ 5 then edge != 0 else edge == 0

/-- Every rule of R273. -/
def ChCfg.seqOk (c : ChCfg) : Bool :=
  let ctrl := c.item 1
  let regs := List.range c.regLen
  let injs := List.range c.injLen
  let prims := regs.filter fun i => slotMux c.regSeq i == 0
  let named := fun p => regs.any (fun i => slotProf c.regSeq i == p) || injs.any fun i => slotProf c.injSeq i == p
  fieldOf ctrl 18 14 == 0 && edgeOk (fieldOf ctrl 1 3) (fieldOf ctrl 4 2)
    && fieldOf ctrl 7 3 != 0 && edgeOk (fieldOf ctrl 7 3) (fieldOf ctrl 10 2)
    && !prims.isEmpty
    && (!c.cjInternal || regs.any fun i => slotMux c.regSeq i == 2)
    && (!is3Wire c.mode c.variant || regs.any fun i => slotMux c.regSeq i == 1)
    && regs.all (fun i => regMuxOk c.mode c.variant (slotMux c.regSeq i))
    && injs.all (fun i => injMuxOk c.mode c.variant (slotMux c.injSeq i))
    && regs.all (fun i => (slotMux c.regSeq i != 3 && slotMux c.regSeq i != 4)
        || prims.all fun j => slotProf c.regSeq j == slotProf c.regSeq i)
    && c.regSeq.toNat >>> (4 * c.regLen) == 0 && c.injSeq.toNat >>> (4 * c.injLen) == 0
    && (filterOk (c.item 2) || (c.item 2 == 0 && !named 0))
    && (filterOk (c.item 3) || (c.item 3 == 0 && !named 1))

/-! ### Diagnostics and refuge values (R349, R357, R361) -/

/-- The diagnostics that R349 lists for a mode and variant. -/
def diagAllowed (c : ChCfg) : Nat :=
  let m := c.mode
  let v := c.variant
  if isDigital m then if v.testBit 2 then 0x40D else 0x001
  else if m = mHS then 0x40F
  else if m = mVO then if v = 1 then 0x20E else 0x00E
  else if m = mCI then if v = 1 then 0x4CD else 0x0C1
  else if m = mCO then 0x03A
  else if m = mRTD then 0x005
  else if m = mRes then 0x001
  else if m = mTC then if c.cjInternal then 0x101 else 0x001
  else 0

/-- A refuge kind and value that R357 admits. -/
def refugeOk (m : Nat) (ne43 : Bool) (kind : Nat) (rval : Int) : Bool :=
  if !isOutput m then kind == 0 && rval == 0
  else if kind = 3 then
    if m = mVO then -11000 ≤ rval && rval ≤ 11000
    else m == mCO && 0 ≤ rval && rval ≤ 24000
  else rval == 0 &&
    (if kind = 0 then true
     else if kind = 1 ∨ kind = 2 then m == mHS
     else if kind = 4 ∨ kind = 5 then m == mCO && ne43
     else false)

/-- RKIND and RVAL of `REFUGE_CFG` (R362). -/
def rKind (w : Word) : Nat := fieldOf w 12 3
def rVal (w : Word) : Int := (w.extractLsb' 16 16).toInt

/-- `DIAG_CFG` and `REFUGE_CFG` meet R357 and R361 together. -/
def ChCfg.diagOk (c : ChCfg) : Bool :=
  let d := c.item 0x20
  let r := c.item 0x21
  let en := fieldOf d 0 11
  let auto := fieldOf d 16 11
  fieldOf d 12 4 == 0 && fieldOf d 27 5 == 0
    && en &&& (0x7FF ^^^ diagAllowed c) == 0 && auto &&& (0x7FF ^^^ en) == 0
    && (!d.getLsbD 11 || c.mode == mCO)
    && fieldOf r 0 12 == 0 && fieldOf r 15 1 == 0
    && refugeOk c.mode (d.getLsbD 11) (rKind r) (rVal r)

/-! ### The value of one item -/

/-- `HR_CFG` (R315, R328). -/
def hrOk (w : Word) : Bool :=
  let t := fieldOf w 0 7
  let lo := fieldOf w 8 7
  let hi := fieldOf w 16 7
  fieldOf w 7 1 == 0 && fieldOf w 15 1 == 0 && fieldOf w 23 9 == 0
    && 15 ≤ lo && lo ≤ t && t ≤ hi && hi ≤ 100

/-- The range of one item's value in a configuration that has the value already in force (R304, R328,
R357, R361, R362). -/
def ChCfg.itemOk (c : ChCfg) (i : Nat) : Bool :=
  let w := c.item i
  if i = 1 ∨ i = 2 ∨ i = 3 then c.seqOk
  else if i = 4 then w.toNat < 1000000
  else if i = 5 then w.toNat < 65536
  else if i = 6 ∨ i = 7 then true
  else if i = 8 then
    w.toNat < 2 ^ 20 && (c.mode != mCounter || fieldOf w 16 2 != 0) && (c.mode != mDI || !w.getLsbD 19)
  else if i = 9 then
    if c.mode = mTC then -50000 ≤ w.toInt && w.toInt ≤ 150000
    else if c.mode = mCounter then true
    else w.toNat ≤ 100000
  else if i = 0x10 then hrOk w
  else if i = 0x11 then w.toNat ≤ 22000000
  else if i = 0x12 then w.toNat < 128 && 1 ≤ fieldOf w 0 4 && fieldOf w 0 4 ≤ 10
  else if i = 0x13 then w.toNat ≤ 4
  else if i = 0x1D then w == 1
  else if i = 0x20 ∨ i = 0x21 then c.diagOk
  else if i = 0x25 then w == 2 || (w == 1 && isOutput c.mode)
  else true

/-! ### The record (R259, R262, R303, R327) -/

def recW (r : List Word) (k : Nat) : Word := r.getD k 0
def recMode (r : List Word) : Nat := fieldOf (recW r 0) 8 4
def recVariant (r : List Word) : Nat := fieldOf (recW r 0) 16 4

/-- The items of R303 and R327 that a record word holds initially. -/
def recItems (m v : Nat) : List Nat :=
  if isInput m then ((List.range 10).filter fun i => itemSet m v i)
  else if isAnaOut m then [0x10, 0x11]
  else if m = mHS then [0x12]
  else []

/-- The record word that holds the initial value of an item. -/
def recWordOf (i : Nat) : Nat := if i ≥ 0x10 then i - 0x0F else i

/-- The configuration that a record gives. -/
def ChCfg.ofRec (r : List Word) : ChCfg :=
  let m := recMode r
  let v := recVariant r
  let w14 := recW r 14
  let items := (recItems m v).map fun i =>
    let w := recW r (recWordOf i)
    (i, if i = 0x10 ∧ w = 0 then 0x64_0F19 else w)
  { mode := m, variant := v
    items := insertNat 0x21 (w14 &&& 0xFFFF_7000) (insertNat 0x20 (w14 &&& 0xFFF) items)
    regSeq := if isAnaIn m then recW r 10 else 0
    injSeq := if isAnaIn m then recW r 11 else 0
    modePar := if isAnaIn m then recW r 12 else 0 }

/-- `MODE_PAR` fits the mode (R304). -/
def modeParOk (m : Nat) (w : Word) : Bool :=
  fieldOf w 8 24 == 0 && (if m = mRTD then fieldOf w 0 3 < 4 else fieldOf w 0 3 == 0)
    && (if m = mTC then fieldOf w 3 4 < 8 else fieldOf w 3 5 == 0)

/-- The record words that a mode uses. -/
def recUses (m v k : Nat) : Bool :=
  k == 0 || k == 14 || k == 15 || (recItems m v).any (fun i => recWordOf i == k)
    || (isAnaIn m && 10 ≤ k && k ≤ 12)

/-- The base address of a channel's block (R259, R553). -/
def chBase (n : Nat) : Nat := 0x4010_0000 + n * 0x1_0000

/-- The bytes of words, little-endian. -/
def wordBytes (l : List Word) : List Byte := l.flatMap fun w => leBytes w.toNat 4

/-- CHECK of a record for channel `n`, with word 0 as the sequence (R259). -/
def recCheck (n : Nat) (r : List Word) : Nat := crcFold .crc32c (chBase n) (recW r 0).toNat (wordBytes (r.take 15))

/-- A record that CHMODE accepts (R262). -/
def recOk (n : Nat) (r : List Word) : Bool :=
  let m := recMode r
  let v := recVariant r
  let c := ChCfg.ofRec r
  (recW r 15).toNat == recCheck n r && fieldOf (recW r 0) 0 8 == 1 && m ≤ 0xA && variantOk m v
    && fieldOf (recW r 0) 12 4 == 0 && fieldOf (recW r 0) 20 12 == 0
    && (List.range 16).all (fun k => recUses m v k || recW r k == 0)
    && (if m = mOff then recW r 14 == 0
        else (recItems m v).all c.itemOk && c.diagOk && fieldOf (recW r 14) 15 1 == 0
          && (!isAnaIn m || (c.seqOk && modeParOk m c.modePar)))

/-! ### Output values (R307, R356, R357) -/

/-- Driver high-impedance. -/
def highZ : Word := 0x8000_0000

/-- The de-energised level. -/
def deEnergised (m : Nat) : Word := if isAnaOut m then highZ else 0

/-- A value that PROPOSE accepts. -/
def valueOk (m : Nat) (w : Word) : Bool :=
  if m = mHS then w == 0 || w == 1
  else if m = mVO then w == highZ || (-11000000 ≤ w.toInt && w.toInt ≤ 11000000)
  else if m = mCO then w == highZ || (0 ≤ w.toInt && w.toInt ≤ 24000000)
  else false

/-- A target as it is taken from a commit or from SET: clamped with NE43 = 1 (R356). -/
def ChCfg.clamp (c : ChCfg) (w : Word) : Word :=
  if c.mode = mCO ∧ (c.item 0x20).getLsbD 11 = true ∧ w ≠ highZ then
    Word.ofInt (min (max w.toInt 3800000) 20500000)
  else w

/-- The refuge value (R357); HOLD keeps the target `now`. -/
def ChCfg.refugeValue (c : ChCfg) (now : Word) : Word :=
  let r := c.item 0x21
  match rKind r with
  | 1 => 1
  | 2 => now
  | 3 => Word.ofInt (rVal r * 1000)
  | 4 => 3500000
  | 5 => 21500000
  | _ => deEnergised c.mode

end Sys2Proof.Machine
end

