-- ==== Sys2Proof/Machine/Item.lean ====
section
/-! DEFINITION. What a channel's items read (R157, R158, R301, R302, R326, R328, R362). -/

namespace Sys2Proof.Machine

/-- A reflex hold is in force; the hold is of kind LATCH (R336). -/
def ChanH.hold (h : ChanH) : Bool := h.holdL != 0 || h.holdE != 0
def ChanH.holdLatch (h : ChanH) : Bool := h.holdL != 0

/-- The value of an item updated at departures before the first latch. -/
def latDefault (mode i : Nat) : Word :=
  if i = 0x0C then (if isAnaIn mode then 2 else 0) else if i = 0x0D ∨ i = 0x1B then 0xFFFF_FFFF else if i = 0x18 then 0x64_0000 else 0

def ChanH.latched (h : ChanH) (i : Nat) : Word := (lookupNat i h.lat).getD (latDefault h.cfg.mode i)

/-- `INJ_INFO` (R304). -/
def ChanH.injInfo (h : ChanH) : Word :=
  match h.injQ with
  | [] => BitVec.ofNat 32 (8 * b2n h.injLost)
  | q :: _ => BitVec.ofNat 32 (q.slot + 4 + 8 * b2n h.injLost + 16 * q.mux + 256 * q.delay)

/-- `TRIM_CTRL` (R328). -/
def ChanH.trimCtrl (h : ChanH) : Word := BitVec.ofNat 32 (h.trimCmd + 8 * h.trimRes + 32 * h.trimSrc)

/-- `REFUGE_CTRL` (R362). -/
def ChanH.refugeCtrl (h : ChanH) : Word :=
  BitVec.ofNat 32 (h.rcCmd + 4 * h.rcRes + 16 * b2n h.rcAuto + 65536 * h.rcCause)

/-- What CHGET of an item returns; `dp` is the data-path copy of the state word. -/
def ChanH.itemRead (h : ChanH) (dp : Word) (i : Nat) : Word :=
  if i = 0 then dp
  else if itemDefined h.cfg.mode h.cfg.variant i = false then 0
  else if i = 0x0A then h.value
  else if i = 0x0B then (if isDigital h.cfg.mode then 0 else h.age)
  else if i = 0x0E then ((h.injQ.head?.map (·.value)).getD 0)
  else if i = 0x0F then h.injInfo
  else if i = 0x13 then h.trimCtrl
  else if i = 0x16 then Word.ofInt h.trimOfs
  else if i = 0x17 then Word.ofInt h.trimGain
  else if i = 0x1D then BitVec.ofNat 32 (b2n h.hold + 2 * b2n h.holdLatch)
  else if i = 0x23 then BitVec.ofNat 32 h.diagNow
  else if i = 0x25 then h.refugeCtrl
  else if itemSet h.cfg.mode h.cfg.variant i then h.cfg.item i
  else h.latched i

/-- What CHGET of an item of channel `n` returns, without its side effect. -/
def State.itemRead (s : State) (n : Fin 16) (i : Nat) : Word := (s.ch n).itemRead (s.getR (Rg.CH_STATE_DP n.val)) i

/-- `CH_PREC`: a word of the queued record, or of the pending one (R270). -/
def State.precRead (s : State) (n : Fin 16) (w : Nat) : Word :=
  let h := s.ch n
  match h.later.record, h.next.record, h.pend with
  | some r, _, _ => recW r w
  | none, some r, _ => recW r w
  | none, none, some p => recW (p.record.getD []) w
  | none, none, none => 0

end Sys2Proof.Machine
end

