-- ==== Sys2Proof/Machine/Abandon.lean ====
section
/-! DEFINITION. What resets and the loss of power do to work in progress: the sectors and banks of flash
(R466, R468, R472, R474), a write of the calibration store cut short (R479), requests abandoned
(R81, R132, R411). -/

namespace Sys2Proof.Machine

/-! ### Flash sectors, banks, entries -/

/-- The first address of an erase sector. -/
def sectorBase (k : Nat) : Nat := 0x1000_0000 + 0x8000 * k

/-- The sector of a flash address. -/
def sectorOf (a : Nat) : Nat := (a - 0x1000_0000) / 0x8000

/-- The base of a calibration bank, and its sector. -/
def bankBase (b : Nat) : Nat := 0x13FE_0000 + 0x8000 * b
def bankSector (b : Nat) : Nat := sectorOf (bankBase b)

def State.addFlux (s : State) (k : Nat) : State :=
  if s.flashFlux.contains k then s else { s with flashFlux := s.flashFlux ++ [k] }

def State.dropFlux (s : State) (k : Nat) : State := { s with flashFlux := s.flashFlux.filter (· != k) }

/-- Bytes are programmed into flash. -/
def State.flashProgram (s : State) (a : Nat) (bs : List Byte) : State :=
  { s with flash := cellsPut flashDefault s.flash a bs }

/-- One entry of 16 bytes that meets R468. -/
def calEntry (bs : List Byte) : Option CalEntry :=
  let w0 := leNat (bs.take 4)
  let range := w0 / 16 % 16
  if w0 / 256 = 1 ∧ range ≤ 1 ∧ leNat (bs.drop 12) = 0 then
    some { ch := w0 % 16, range := range, gain := Word.ofNat (leNat ((bs.drop 4).take 4)), ofs := Word.ofNat (leNat ((bs.drop 8).take 4)) }
  else none

/-- The entries of a body of `n` times 16 bytes; none when one breaks R468 or repeats a channel and
range. -/
def calEntries : Nat → List Byte → Option (List CalEntry)
  | 0, _ => some []
  | n + 1, bs =>
    match calEntry (bs.take 16), calEntries n (bs.drop 16) with
    | some e, some r => if r.any fun x => x.ch == e.ch && x.range == e.range then none else some (e :: r)
    | _, _ => none

/-! ### A write of the calibration store -/

/-- The COMMIT word is programmed. -/
def State.calCommitWord (s : State) : State := s.flashProgram (bankBase s.cs.target + 12) (leBytes 0xCA15C0DE 4)

/-- The shadow table and the selection go over to the target (R470). -/
def State.calSwitch (s : State) : State :=
  let e := (calEntries (s.cs.body.length / 16) s.cs.body).getD []
  let s := { s with cs := { s.cs with shadow := e } }
  let s := (s.setF Fd.CS_STAT_SEL_BANK s.cs.target).setF Fd.CS_GEN_GEN s.cs.gen
  let s := if s.cs.target = 0 then s.onF Fd.CS_STAT_VALID0 else s.onF Fd.CS_STAT_VALID1
  s.offF Fd.CS_STAT_NONE

/-- A chip reset or the loss of power during COMMIT (R472): whether the word was fully programmed is
free. -/
def State.calInterrupt (s : State) : State :=
  if s.getF Fd.CS_STAT_STEP = 5 then
    let (v, s) := s.takeFree
    if v.getLsbD 0 then s.calCommitWord else s
  else s

/-! ### Block reset (R477, R479) -/

/-- What a block reset of `CALST` leaves in progress: a COMMIT word completes with its switch, an erase
ends at once, a failure is counted. -/
def State.calAbort (s : State) : State :=
  let step := s.getF Fd.CS_STAT_STEP
  let s := if step = 5 then s.calCommitWord.calSwitch else s
  let s := if step = 2 then s.offF Fd.TL_STAT_SUSPENDED else s
  let s := if s.isF Fd.CS_STAT_BUSY then s.incF Fd.CS_CNT_FAILS else s
  match s.cs.fpOp with
  | none => s
  | some (.erase _) => (s.offF Fd.TL_STAT_SUSPENDED).incF Fd.FP_CNT_FAILS
  | some (.program _ _) => s.incF Fd.FP_CNT_FAILS

/-! ### Requests that are out (R81, R132) -/

def State.sess (s : State) (sid : Nat) : SessEntry := (lookupNat sid s.ss.entries).getD {}

/-- Puts an entry back; an entry with nothing in it is not listed. -/
def State.setSess (s : State) (sid : Nat) (e : SessEntry) : State :=
  { s with ss := { s.ss with entries := if e = {} then eraseNat sid s.ss.entries else insertNat sid e s.ss.entries } }

def State.modSess (s : State) (sid : Nat) (f : SessEntry → SessEntry) : State := s.setSess sid (f (s.sess sid))

/-- An entry command acts (R416): LOAD_KEY moves the staged key into the entry and starts the counters anew,
CLEAR zeroes the entry. -/
def State.entryDo (s : State) (sid : Nat) (clear : Bool) : State :=
  if clear then s.setSess sid {}
  else
    let key := Vector.ofFn fun i : Fin 8 => s.getR (Rg.SS_KEY i.val)
    let s := State.each (fun i s => s.setR (Rg.SS_KEY i) 0) (List.range 8) s
    s.modSess sid fun e => { e with key := key, tx := 1, rxHigh := 0, wins := [], cmd := none }

/-- An entry command that waits acts once the session has nothing in flight at this end (R414). -/
def State.entryCmdCheck (s : State) (sid : Nat) : State :=
  let e := s.sess sid
  match e.cmd with
  | some c => if e.inflC = 0 ∧ e.inflS = 0 then s.entryDo sid c else s
  | none => s

/-- A write of `SS_E_CMD` (R414, R416). -/
def State.entryCmd (s : State) (clear : Bool) : State :=
  let sid := s.getF Fd.SS_SEL_ID
  (s.modSess sid fun e => { e with cmd := some clear }).entryCmdCheck sid

/-- A request is no longer out: the in-flight count of its session falls. -/
def State.endReq (s : State) (r : OutReq) : State :=
  let s := s.modSess r.sid fun e => { e with inflC := e.inflC - 1 }
  { s with ss := { s.ss with out := s.ss.out.filter fun x => x.id != r.id } }.entryCmdCheck r.sid

/-- Requests of a block that is reset are abandoned. -/
def State.dropOut (s : State) (p : OutReq → Bool) : State :=
  State.each (fun r s => s.endReq r) (s.ss.out.filter p) s

/-- Whether a machine of a triad waits for a request. -/
def ofTriad (t : Triad) (r : OutReq) : Bool :=
  match r.who with
  | .mach m => m.triad == t
  | .shunter _ _ => false

def ofShunter (r : OutReq) : Bool :=
  match r.who with
  | .mach _ => false
  | .shunter _ _ => true

/-- The machines that wait for requests of `SESS`. -/
def State.waitingMachs (s : State) : List Mach :=
  Mach.all.filter fun m => match (s.mach m).wait with
    | .station _ _ => true
    | _ => false

end Sys2Proof.Machine
end

