-- ==== Sys2Proof/Machine/Reset.lean ====
section
/-! DEFINITION. The kinds of reset (R77): what a block reset, a triad restart, a chip reset and a
power-on reset do to the state. The signal box and every request of a reset call these. -/

namespace Sys2Proof.Machine

/-! ### The register rows by address (R553, R561) -/

/-- The row of a block's table that holds the register at an offset. -/
def rowAt (rows : List RegRow) (off : Nat) : Option RegRow :=
  rows.find? fun r => r.off ≤ off && (off - r.off) % r.stride == 0 && (off - r.off) / r.stride < r.count

/-- The rows and the offset of an address of the device region; none where no block lies (R553). -/
def slotOf (a : Nat) : Option (List RegRow × Nat) :=
  let off := a % 0x10000
  match a / 0x10000 with
  | 0x4000 => some (regRows_sys, off)
  | 0x4001 => some (regRows_sigbox, off)
  | 0x4002 => some (regRows_tally, off)
  | 0x4003 => some (regRows_shunt, off)
  | 0x4004 => some (regRows_crcu, off)
  | 0x4005 => some (regRows_spx, off)
  | 0x4006 => some (regRows_orvia, off)
  | 0x4007 => some (regRows_ttbl, off)
  | 0x4008 => some (regRows_mani, off)
  | 0x4009 => some (regRows_sess, off)
  | 0x400A => some (regRows_pool, off)
  | 0x400B => some (regRows_triad, off)
  | 0x400C => some (regRows_patrol, off)
  | 0x400D => some (regRows_calst, off)
  | 0x4020 => some (regRows_rfx, a % 0x1000)
  | k => if 0x4010 ≤ k ∧ k < 0x4020 then some (regRows_ch, off) else none

/-- The row of the register at an address. -/
def regRow (a : Nat) : Option RegRow := (slotOf a).bind fun p => rowAt p.1 p.2

/-- The block that an address of the device region lies in (R553). -/
def blkOf (a : Nat) : Option Blk :=
  match a / 0x10000 with
  | 0x4000 => some .sys
  | 0x4001 => some .sigbox
  | 0x4002 => some .tally
  | 0x4003 => some .shunt
  | 0x4004 => some .crcu
  | 0x4005 => some .spx
  | 0x4006 => some .orvia
  | 0x4007 => some .ttbl
  | 0x4008 => some .mani
  | 0x4009 => some .sess
  | 0x400A => some .pool
  | 0x400B => some (.triad (if a % 0x10000 < 0x100 then .a else .b))
  | 0x400C => some .patrol
  | 0x400D => some .calst
  | 0x4020 => some (.rfx (Fin.ofNat 16 (a / 0x1000)))
  | k => if 0x4010 ≤ k ∧ k < 0x4020 then some (.ch (Fin.ofNat 16 k)) else none

/-- The reset word of the register at an address (R561); `SB_CFG` takes its default reaction (R494). -/
def rstWord (a : Nat) : Word :=
  if 0x4001_0100 ≤ a ∧ a < 0x4001_0300 then BitVec.ofNat 32 (0x30 + 0x101 * sbDefaultCode ((a - 0x4001_0100) / 4))
  else match regRow a with
    | some r => BitVec.ofNat 32 r.rst
    | none => 0

/-- The bits that a block reset leaves in the register at an address: retained ones (R12), the
generation of a channel's state words (R258, R265), `MANI_MISS.STARTED` (R242); and what shows the
straps or that boot runs, which the reset of a block does not change (R224, R413, R536). -/
def keepMask (a : Nat) : Word :=
  if 0x4010_0000 ≤ a ∧ a < 0x4020_0000 ∧ a % 0x10000 < 0x0C then 0xFFFF_0000
  else if a = 0x4008_0020 then 0x0003_0000
  else if a = 0x4008_0004 then 0x0000_0007
  else if a = 0x4005_0028 then 0x0000_0200
  else if a = 0x4009_0000 then 0x0000_0002
  else match regRow a with
  | some r => BitVec.ofNat 32 r.keep
  | none => 0

/-- The bits of a register that a chip reset leaves (R12, R197, R491): as for a block reset, but the
triad banks, the lanes (R331) and `SPX` (R537) take their reset values, the selection of `CALST` is made again, a pin masked as stuck stays so
(R76, R91), and the signal box keeps
its sticky bits and counts, and, after its own CHIP_RESET reaction, the FAULT it is in. -/
def keepMaskChip (bySigbox : Bool) (a : Nat) : Word :=
  if a / 0x10000 = 0x400B then 0
  else if a / 0x10000 = 0x4001 then
    let off := a % 0x10000
    if off = 0x10 ∨ off = 0x28 ∨ (0x40 ≤ off ∧ off < 0x60) then 0xFFFF_FFFF
    else if bySigbox ∧ off = 0x00 then 0x007F_0001
    else if bySigbox ∧ (off = 0x14 ∨ off = 0x18 ∨ off = 0x1C) then 0xFFFF_FFFF
    else if bySigbox ∧ off = 0x20 then 0x0000_0020
    else 0
  else if a / 0x10000 = 0x4005 ∨ a / 0x10000 = 0x4020 then 0
  else if a = 0x4000_0014 then 0x0000_FF01
  else if a = 0x400D_0000 ∨ a = 0x400D_0004 ∨ a = 0x4008_0020 ∨ a = 0x4008_0004 ∨ a = 0x4009_0000 then 0
  else if 0x4010_0000 ≤ a ∧ a < 0x4020_0000 ∧ a % 0x10000 < 0x0C then 0
  else keepMask a

/-- One register across a reset that leaves the bits of `keep`. -/
def resetOne (keep : Nat → Word) (p : Nat × Word) : Nat × Word :=
  (p.1, (p.2 &&& keep p.1) ||| (rstWord p.1 &&& ~~~ keep p.1))

/-- The registers of a block take their reset values, except retained bits (R81). -/
def State.resetRegs (s : State) (b : Blk) : State :=
  { s with regs := s.regs.map fun p => if blkOf p.1 = some b then resetOne keepMask p else p }

/-! ### A machine at reset (R94, R96, R132) -/

/-- The control registers at reset (R96); `VBASE` comes from the image. -/
def resetC (vbase : Word) : Vector Word 32 := vset ctrlReset 5 (vbase &&& 0xFFFF_FE00)

def State.vbase (s : State) : Word := (s.image.map (·.vbase)).getD 0

/-- A machine in reset state that will issue at `pc`. -/
def resetMach (vbase pc : Word) : MachState := { pc := pc, c := resetC vbase }

/-- A machine in reset state now: `STIME_HI` holds the upper half of the time of the reset (R96, R97). -/
def State.freshMach (s : State) (vbase pc : Word) : MachState :=
  { resetMach vbase pc with c := vset (resetC vbase) 26 (Word.ofNat (s.tt.clk / 2 ^ 32)) }

/-- The value of `TR_STAT` when a triad leaves reset (R188, R197): SPLIT with x0 and x1, or TRIPLE
with three live cores, or PAIR without the retired one. -/
def trStatReset (split : Bool) (retired : Nat) : Nat :=
  if split then 0x33
  else if retired = 0 then 0x70
  else 0x02 + (7 - retired) * 16 + retired * 256

/-! ### Block reset (R81) -/

/-- The requests of other nodes that the server holds, each with the key of its session. -/
def State.srvHeld (s : State) : List Due :=
  ((List.finRange 4).flatMap fun c => (vget s.ss.queues c).map fun r => (c.val + 1, r)).filterMap fun p =>
    if p.2.bcast || p.2.own.isSome then none
    else some (.srvAborted p.2.src p.1 p.2.msg p.2.qdepth (s.sess p.2.msg.sid).key)

/-- What the entry of a block into reset leaves due. -/
def State.dueOf (s : State) : Blk → List Due
  | .orvia => (if s.getF (Fd.OV_PSTAT_STATE 0) = 2 then [.linkLost .east] else [])
      ++ if s.getF (Fd.OV_PSTAT_STATE 1) = 2 then [.linkLost .west] else []
  | .ttbl => if s.isF Fd.TT_STAT_LOCKED then [.lockLost] else []
  | .sess => s.waitingMachs.map .accessAborted ++ s.srvHeld ++ [.piecesAborted]
  | .crcu => [.unitsLost]
  | .calst => (if s.isF Fd.CS_STAT_BUSY then [.calAborted] else []) ++ if s.isF Fd.FP_STAT_BUSY then [.flashAborted] else []
  | .triad t => [.withdraw t]
  | _ => []

/-- A slave select that is asserted is ignored until it rises (R537). -/
def SpxH.deselect (x : SpxH) : SpxH := { slave := x.slave.map fun _ => {} }

/-- The check-value units that shunters hold become free (R445). -/
def State.freeUnits (s : State) : State :=
  State.each (fun u s => if s.getF (Fd.CU_STAT_OWNER u) = 2 then s.setF (Fd.CU_STAT_OWNER u) 0 else s) (List.range 4) s

/-- What a reset of `MANI` leaves (R238): live proposals are withdrawn and nothing is sent; what is FINAL, and what the
deadline has resolved already, reaches its departure. -/
def ManiH.reset (x : ManiH) : ManiH :=
  { props := x.props.map fun p => if p.state == .final || p.state == .retracted then { p with cons := [] } else {}
    resolved := x.resolved, apply := x.apply, missed := x.missed, doubt := x.doubt }

/-- What a block holds beside its registers, at reset. Each block's part is stated where its
chapter gives it; retained parts stay. -/
def State.resetHidden (s : State) : Blk → State
  | .sys => s
  | .sigbox => s
  | .tally => s
  | .shunt =>
    let s := s.freeUnits
    { s.dropOut ofShunter with sh := Vector.replicate 16 {}, shTurn := 15 }
  | .crcu => s
  | .spx => { s with spx := s.spx.deselect }
  | .orvia => { s with ov := {} }
  | .ttbl => { s with tt := { clk := s.tt.clk, epoch := s.tt.epoch, ran := s.tt.ran, wasLocked := s.tt.wasLocked || s.isF Fd.TT_STAT_LOCKED } }
  | .mani => { s with mani := s.mani.reset }
  | .sess => { s with ss := {} }
  | .pool => { s with pool := {} }
  | .triad _ => s
  | .patrol => { s with pt := { period := s.getF Fd.PT_CFG_PERIOD } }
  | .calst => { s with cs := { shadow := s.cs.shadow } }
  | .ch n =>
    let m := if s.getF (Fd.CH_STATE_STATE n.val) = 0 then none else some (s.getF (Fd.CH_STATE_MODE n.val))
    let h := s.ch n
    s.setCh n { wasMode := m, value := h.value, age := h.age, level := h.level, fastIn := h.fastIn, pLow := h.pLow }
  | .rfx n => s.setLane n {}

/-- What a block has in progress when its reset begins and that ends with an effect (R479). -/
def State.resetAbort (s : State) : Blk → State
  | .calst => s.calAbort
  | _ => s

/-- Consequences at other blocks are noted. -/
def State.addDue (s : State) (l : List Due) : State := { s with rst := { s.rst with due := s.rst.due ++ l } }

/-- A block enters reset (R81): its bit reads 1, what it had accepted and what it had asked for is
abandoned, its generation increments, and its fields take their reset values. -/
def State.enterBlock (s : State) (b : Blk) : State :=
  let s := (s.addDue (s.dueOf b)).resetAbort b
  (((s.setRstBit b).bumpGen b.gen).resetHidden b).resetRegs b

/-- A machine's hold of a manifest bank is released (R224). -/
def State.releaseHold (s : State) (m : Mach) : State :=
  match m with
  | .a0 => s.setR Rg.MANI_HOLD_A0 0
  | .a1 => s.setR Rg.MANI_HOLD_A1 0
  | .b0 => s.setR Rg.MANI_HOLD_B0 0
  | .b1 => s.setR Rg.MANI_HOLD_B1 0

/-- A triad enters reset (R132): its cores stop and issue nothing further, its own requests are
abandoned, its generation increments, its control registers and its bank take their reset values, its
holds are released; retired cores stay retired and a resynchronisation is abandoned (R189). -/
def State.enterTriad (s : State) (t : Triad) : State :=
  let retired := s.getF (Fd.TR_STAT_RETIRED t.idx)
  let sp := s.split t
  let s := (s.dropOut (ofTriad t)).addDue (s.dueOf (.triad t))
  let s := (((s.setRstBit (.triad t)).bumpGen (Blk.triad t).gen).resetRegs (.triad t))
  let s := s.setR (Rg.TR_STAT t.idx) (BitVec.ofNat 32 (trStatReset sp (if sp then 0 else retired)))
  let s := s.modTri t fun x => { oddTimes := x.oddTimes, raised := x.raised, evtStamp := x.evtStamp }
  let s := (s.releaseHold (t.mach 0)).releaseHold (t.mach 1)
  let s := { s with mani := { s.mani with
    peeked := vset (vset s.mani.peeked (t.mach 0).idx []) (t.mach 1).idx [] } }
  let s := s.setMach (t.mach 0) (s.freshMach s.vbase 0)
  s.setMach (t.mach 1) (s.freshMach s.vbase 0)

/-- A reset that starts at once. -/
def State.startReset (s : State) : Blk → State
  | .triad t => s.enterTriad t
  | b => s.enterBlock b

/-- A request is deferred: its bit reads 1 and the reset has not begun. -/
def State.deferReset (s : State) (b : Blk) : State :=
  { s.setRstBit b with rst := { s.rst with deferred := s.rst.deferred ++ [b.gen] } }

/-- A request for a block reset or a triad restart (R80, R83): merged into one in progress, deferred
within 10 µs of the block's last release, else started. A block without a reset bit has none (R78). A
reset of `PATROL` during a heal waits until the heal is complete (R479). -/
def State.requestReset (s : State) (b : Blk) : State :=
  if s.phase ≠ .running ∨ (blkBit b).isNone ∨ s.rstBit b then s
  else match lookupNat b.gen s.rst.lastRel with
    | some t =>
      if s.now - t < 10000 then s.deferReset b
      else if b = .patrol ∧ s.pt.heals.isEmpty = false then s.deferReset b
      else s.startReset b
    | none => if b = .patrol ∧ s.pt.heals.isEmpty = false then s.deferReset b else s.startReset b

/-! ### Chip reset and power-on reset (R75, R77) -/

/-- The numbers of the blocks that have a generation (R91). -/
def genIndices : List Nat := (List.range 48).filter (· != 15)

/-- The blocks that a reset bit belongs to. -/
def resettable : List Blk :=
  [.shunt, .crcu, .spx, .orvia, .ttbl, .mani, .sess, .pool, .triad .a, .triad .b, .patrol, .calst]
    ++ all16.map Blk.ch ++ all16.map Blk.rfx

/-- Increments every generation, but for a block that a chip reset overtakes in its own reset, which
has counted already (R83). -/
def State.bumpAll (s : State) : State :=
  let done := (resettable.filter s.inReset).map Blk.gen
  State.each (fun k s => if done.contains k then s else s.bumpGen k) genIndices s

/-- The fallback bits follow the monitors that report a fault (R484, R500). -/
def State.showFallback (s : State) : State :=
  (s.setF Fd.SB_STAT_CLK_FALLBACK (b2n s.pwr.sysFault)).setF Fd.TL_STAT_CLK_FALLBACK (b2n s.pwr.tallyFault)

/-- A LINKED port is lost with cause LOCAL (R390). -/
def State.portLost (i : Nat) (s : State) : State :=
  if s.getF (Fd.OV_PSTAT_STATE i) = 2 then (s.incF (Fd.OV_LOSS_LOSSES i)).setBitF (Fd.SB_STICKY_BITS 1) i else s

/-- A chip reset begins (R75). It does not begin before the first release, nor within a power-fail
sequence, nor within a chip reset, into which it merges (R53, R74, R83). -/
def State.chipReset (s : State) : State :=
  if s.phase ≠ .running ∨ s.pwr.failing then s
  else
    let bySb := s.pwr.bySigbox
    let s := State.each State.portLost [0, 1] s.calInterrupt.bumpAll
    -- a chip reset of another cause ends the run of tally-caused ones (R511)
    let s := if s.pwr.byTally then s else s.offF Fd.TL_CONSEC_COUNT
    -- a station-wide roll call that is scheduled is discarded (R545)
    let s := if s.isF Fd.RC_STAT_SCHEDULED then (s.offF Fd.RC_STAT_SCHEDULED).onF Fd.RC_STAT_MISSED else s
    State.showFallback { s with
      regs := s.regs.map (resetOne (keepMaskChip bySb))
      phase := .chipReset
      pwr := { s.pwr with otpLoaded := false, memInit := false }
      image := none
      rst := { lastRel := s.rst.lastRel }
      slp := {}
      machs := Vector.replicate 4 {}
      triads := s.triads.map fun x => { raised := x.raised }
      sram := [], sramMark := [], sramErr := []
      sb := if bySb then s.sb else {}
      tl := {}
      tt := {}, mani := {}, chs := Vector.replicate 16 {}, lanes := Vector.replicate 16 {}, rfx := {}
      ov := {}, ss := {}, sh := Vector.replicate 16 {}, shTurn := 15, pool := {}
      pt := {}, cs := {}, spx := s.spx.deselect }

/-- A power-on reset begins (R65, R77): every register, retained ones too, takes its reset value, and
what the module holds in flash and in OTP stays. -/
def State.powerOnReset (s : State) : State :=
  { regs := [], now := s.now, phase := .powerOn
    pwr := { east := s.pwr.east, west := s.pwr.west, aux24 := s.pwr.aux24, vioOk := s.pwr.vioOk, nrstLow := s.pwr.nrstLow }
    otp := s.otp
    flash := s.flash, flashErr := s.flashErr, flashFlux := s.flashFlux
    dbg := s.dbg
    freeIdx := s.freeIdx, pending := s.pending }

end Sys2Proof.Machine
end

