-- ==== Sys2Proof/Machine/Read.lean ====
section
/-! DEFINITION. What a read of a device register returns, with no side effect: the stored word, and
the fields whose value follows from other state (levels, times, codes of conditions). Roll call
copies these values (R543), and the bus returns them. -/

namespace Sys2Proof.Machine

/-! ### Pads (R33, R38) -/

/-- The edges of `WAKE`, `ROLLCALL` and `TRIG0` to `TRIG3` count: not before the program's first instruction and
during a chip reset (R33), and not without `VIO_IN` (R38). -/
def State.padsRead (s : State) : Bool := s.phase == .running && s.pwr.vioOk && s.getF Fd.BOOT_STAT_RESULT == 1

/-! ### Signal box (R489 to R495) -/

/-- Whether the error pair shows error (R490). -/
def State.errPair (s : State) : Bool :=
  (s.isF Fd.SB_STAT_STATE && s.sb.errSince) || s.phase != .running || s.getF Fd.BOOT_STAT_RESULT != 1
    || s.isF Fd.RFG_STAT_ACTIVE || s.isF Fd.SB_STAT_SELF

/-- Whether a source's reaction is weaker than its default (R492). -/
def State.belowDefault (s : State) : Bool :=
  (List.range 128).any fun i => s.getF (Fd.SB_CFG_REACTION i) < s.getF (Fd.SB_CFG_DEFAULT i)

/-- The ms that remain of the quiet timer; 0 in NORMAL (`SB_QLEFT`). -/
def State.quietLeft (s : State) : Nat :=
  if s.isF Fd.SB_STAT_STATE then (s.sb.quietEnd - s.now + 999999) / 1000000 else 0

/-- `SB_STAT` as it reads. -/
def State.readSbStat (s : State) : Word :=
  let w := s.getR Rg.SB_STAT
  let w := fieldPut w 1 1 (b2n s.errPair)
  let w := fieldPut w 4 1 (s.getF Fd.SB_CTRL_LOCK)
  fieldPut w 7 1 (b2n s.belowDefault)

/-- `SB_COVER` as it reads (R495): the conditions that the module can observe, and COVERED when none
is breached. -/
def State.readSbCover (s : State) : Word :=
  let split := s.split .a || s.split .b
  let pair := s.getF (Fd.TR_STAT_MODE 0) == 2 || s.getF (Fd.TR_STAT_MODE 1) == 2
  let patrol := !s.isF Fd.PT_CFG_EN || s.getF Fd.PT_CFG_PERIOD == 3
  let wire := (List.range 4).any fun i => s.isF (Fd.SB_WIRE_BITS i)
  let second := s.isF Fd.SB_COVER_SECOND
  let below := s.belowDefault
  let n := b2n split + 2 * b2n pair + 4 * b2n patrol + 8 * b2n below + 16 * b2n wire + 32 * b2n second
  BitVec.ofNat 32 (n + if n = 0 then 256 else 0)

/-! ### Tally watchdog (R507, R516) -/

/-- Whether the key admits a protected write now: both values written, the second no more than 1 ms
ago (R507). -/
def State.keyOpen (s : State) : Bool := s.tl.keyStage == 2 && s.now - s.tl.keyTime ≤ 1000000

/-! ### Wagons (R439, R448) -/

def State.plBase (s : State) : Nat := s.getF Fd.PL_CFG_BASE * 2 ^ 20

/-- The tag of a wagon; FREE is 0. -/
def State.plTag (s : State) (i : Nat) : Nat := (lookupNat i s.pool.tags).getD 0

/-- KIND and ID of a tag. -/
def tagKind (t : Nat) : Nat := t / 1024 % 4
def tagId (t : Nat) : Nat := t % 1024

/-- The wagons of kind SESSION. -/
def State.plSessHeld (s : State) : Nat := (s.pool.tags.filter fun p => tagKind p.2 == 2).length

/-- The wagon freed earliest, if there is one. -/
def State.plFirst (s : State) : Option Nat := if s.pool.fresh < 4096 then some s.pool.fresh else s.pool.freed.head?

/-- The word of `PL_ALLOC` for a wagon. -/
def State.plWord (s : State) (i : Nat) : Word := BitVec.ofNat 32 (s.plBase + 256 * i)

/-- `PL_ALLOC` without the allocation: the wagon that would be allocated (R441, R543). -/
def State.readPlAlloc (s : State) : Word :=
  match s.plFirst with
  | some i => s.plWord i
  | none => 1

/-- `PL_STAT` and `PL_TAG` as they read. -/
def State.readPlStat (s : State) : Word :=
  fieldPut (fieldPut (s.getR Rg.PL_STAT) 0 13 (4096 - s.pool.tags.length)) 16 13 s.plSessHeld
def State.readPlTag (s : State) : Word := BitVec.ofNat 32 (s.plTag (s.getF Fd.PL_TAG_SEL_WAGON))

/-! ### The selected session entry (R416) -/

/-- Offsets 0x0104 to 0x015C of `SESS` show the entry that `SS_SEL` selects. -/
def State.readEntry (s : State) (off : Nat) : Word :=
  let e := s.sess (s.getF Fd.SS_SEL_ID)
  match off with
  | 0x104 => e.cfg
  | 0x108 => e.peer
  | 0x10C => BitVec.ofNat 32 (e.inflC + e.inflS * 2 ^ 8)
  | 0x110 => BitVec.ofNat 32 e.tx
  | 0x114 => BitVec.ofNat 32 e.rxHigh
  | 0x118 => match e.cmd with
    | none => 0
    | some c => if c then 2 else 1
  | _ =>
    if off < 0x120 then 0
    else
      let w := Fin.ofNat 8 ((off - 0x120) / 8)
      if off % 8 = 0 then vget e.base w else vget e.lim w

/-! ### The value of a register -/

/-- `FP_KEY` as it reads (R475): UNLOCKED for 1 ms after the key is complete. -/
def State.fpUnlocked (s : State) : Bool := s.cs.fpStage == 2 && s.now - s.cs.fpTime ≤ 1000000

/-- The lower half of a time. -/
def lo32 (t : Nat) : Word := BitVec.ofNat 32 t

/-- The upper half of a time. -/
def hi32 (t : Nat) : Word := BitVec.ofNat 32 (t / 2 ^ 32)

/-- `SPX_FIFO`, `SPX_SSTAT` and `SPX_EVT` as they read (R539). -/
def State.readSpxFifo (s : State) : Word :=
  BitVec.ofNat 32 (s.spx.tx.length + s.spx.rx.length * 2 ^ 8 + s.spx.mbIn.length * 2 ^ 16 + s.spx.mbOut.length * 2 ^ 24)
def State.readSpxSstat (s : State) : Word := fieldPut (s.getR Rg.SPX_SSTAT) 8 1 (b2n !s.spx.slave.isEmpty)
def State.readSpxEvt (s : State) : Word :=
  let w := fieldPut (s.getR Rg.SPX_EVT) 6 1 (b2n (s.getR Rg.SPX_UEVT != 0))
  fieldPut (fieldPut w 7 1 (b2n !s.spx.mbIn.isEmpty)) 8 1 (b2n (s.spx.mbOut.length < 32))

/-- A word of the identity area but its check (R550): the serial number, the stepping that every module of this
manual has, the lots and the dies as the fuses hold them. -/
def State.idWord (s : State) (o : Nat) : Word :=
  if o = 0x00 then s.otp.serial.setWidth 32
  else if o = 0x04 then (s.otp.serial >>> 32).setWidth 32
  else if o = 0x10 then 0x1632_0042
  else if (0x14 ≤ o ∧ o < 0x20) ∨ 0xF8 ≤ o then 0
  else (lookupNat o s.otp.ident).getD 0

/-- `ID_CHECK` (R550). -/
def State.idCheck (s : State) : Word :=
  let bs := (List.range 62).flatMap fun k => leBytes (s.idWord (4 * k)).toNat 4
  BitVec.ofNat 32 (crcBytes .crc32c Poly.crc32c.init bs ^^^ Poly.crc32c.final)

/-- The value that a read of the register at an address returns, without any side effect. -/
def State.readReg (s : State) (a : Nat) : Word :=
  if a = 0x4000_0014 then fieldPut (s.getR Rg.NRST_STAT) 1 1 (b2n (!s.pwr.nrstLow || !s.pwr.vioOk))
  else if a = 0x4000_0208 then 0
  else if 0x4000_0300 ≤ a ∧ a < 0x4000_0400 then (if a = 0x4000_03F8 then s.idCheck else s.idWord (a % 0x100))
  else if a = 0x4000_013C then 0
  else if a = 0x4001_0000 then s.readSbStat
  else if a = 0x4001_000C then BitVec.ofNat 32 s.quietLeft
  else if a = 0x4001_0018 then lo32 s.sb.firstTime
  else if a = 0x4001_0020 then s.readSbCover
  else if a = 0x4002_0008 then (if s.keyOpen then 0x1_0000 else 0)
  else if a = 0x4002_001C then BitVec.ofNat 32 (s.tl.phase / 1000 % 2 ^ 26)
  else if a = 0x400B_0014 then lo32 (s.tri .a).evtStamp
  else if a = 0x400B_0114 then lo32 (s.tri .b).evtStamp
  else if a = 0x4007_0008 then lo32 s.tt.clk
  else if a = 0x4007_0010 then lo32 s.tt.epoch
  else if a = 0x400D_0040 then (if s.fpUnlocked then 0x1_0000 else 0)
  else if a = 0x4005_0020 then s.readSpxFifo
  else if a = 0x4005_0028 then s.readSpxSstat
  else if a = 0x4005_0030 then s.readSpxEvt
  else if 0x4005_2000 ≤ a ∧ a < 0x4005_3000 then s.spx.rx.headD 0
  else if 0x4005_4000 ≤ a ∧ a < 0x4005_5000 then s.spx.mbIn.headD 0
  else if a = 0x400A_0004 then s.readPlStat
  else if a = 0x400A_0008 then s.readPlAlloc
  else if a = 0x400A_001C then s.readPlTag
  else if 0x4009_0104 ≤ a ∧ a < 0x4009_0160 then s.readEntry (a % 0x10000)
  else if a / 0x100 = 0x40_0401 ∧ a % 0x40 = 0x24 then BitVec.ofNat 32 (s.cuValue (Fin.ofNat 4 (a / 0x40)))
  else if a / 0x100 = 0x40_0401 ∧ a % 0x40 = 0x28 then BitVec.ofNat 32 (s.cuResult (Fin.ofNat 4 (a / 0x40)))
  else if 0x4010_0000 ≤ a ∧ a < 0x4020_0000 ∧ 0x140 ≤ a % 0x10000 ∧ a % 0x10000 < 0x180 then
    s.precRead (Fin.ofNat 16 (a / 0x10000)) (a % 0x40 / 4)
  else if 0x4010_0000 ≤ a ∧ a < 0x4020_0000 ∧ 0x400 ≤ a % 0x10000 ∧ a % 0x10000 < 0x4C0 then
    s.itemRead (Fin.ofNat 16 (a / 0x10000)) (a % 0x10000 / 4 - 0x100)
  else (lookupNat a s.regs).getD (rstWord a)

/-! ### Roll call (R541 to R544) -/

/-- Whether the snapshot of a block copies the register at an address (R542, R543). -/
def inCopy (a : Nat) : Bool :=
  match blkOf a with
  | some (.rfx _) => a % 0x1000 < 0x0F0
  | some .sess => a % 0x10000 < 0x100
  | some _ => a % 0x10000 < 0xF00
  | none => false

/-- Registers whose value follows from other state, so that a copy must hold it although the register
file may not list them. -/
def derivedRegs : List Nat :=
  [0x4000_0014, 0x4000_013C, 0x4001_0000, 0x4001_000C, 0x4001_0018, 0x4001_001C, 0x4001_0020, 0x4002_0008,
   0x4002_001C, 0x400B_0014, 0x400B_0018, 0x400B_0114, 0x400B_0118, 0x4007_0008, 0x4007_000C, 0x4007_0010,
   0x4007_0014, 0x400D_0040, 0x4005_0020, 0x4005_0028, 0x4005_0030, 0x400A_0004, 0x400A_0008, 0x400A_001C,
   0x4004_0124, 0x4004_0128, 0x4004_0164, 0x4004_0168, 0x4004_01A4, 0x4004_01A8, 0x4004_01E4, 0x4004_01E8]
    ++ ((List.range 64).map fun i => 0x4000_0300 + 4 * i)
    ++ (List.range 16).flatMap fun n =>
        ((List.range 16).map fun w => 0x4010_0140 + 0x10000 * n + 4 * w)
          ++ (List.range 48).map fun i => 0x4010_0400 + 0x10000 * n + 4 * i

/-- The value that the copy takes: as a read, but the upper half of a time is that of the same
instant (R543). -/
def State.copyReg (s : State) (a : Nat) : Word :=
  if a = 0x4001_001C then hi32 s.sb.firstTime
  else if a = 0x400B_0018 then hi32 (s.tri .a).evtStamp
  else if a = 0x400B_0118 then hi32 (s.tri .b).evtStamp
  else if a = 0x4007_000C then hi32 s.tt.clk
  else if a = 0x4007_0014 then hi32 s.tt.epoch
  else s.readReg a

/-- The next instruction of a machine, as the `TRIAD` extension holds it: 0 for a machine that does
not exist or is halted (R543). -/
def State.snapPc (s : State) (m : Mach) : Word :=
  if s.machExists m && !(s.mach m).halted then (s.mach m).pc else 0

/-- Latches every block at one edge (R541). -/
def State.takeSnap (s : State) (src sb id : Nat) : RollSnap :=
  let locked := s.isF Fd.TT_STAT_LOCKED
  let addrs := derivedRegs ++ (s.regs.map (·.1)).filter fun a => !derivedRegs.contains a
  { edge := s.now, src := src, sbSrc := sb, locked := locked, rollId := id
    time := s.tt.clk
    epoch := if locked then s.tt.epoch % 2 ^ 32 else 0
    inRst := (resettable.filter s.inReset).map Blk.gen
    pcs := Mach.all.map s.snapPc
    copy := (addrs.filter inCopy).foldl (fun l a => insertNat a (s.copyReg a) l) [] }

/-- A trigger that finds no snapshot held: HELD is set in every area and in `RC_STAT` (R544). -/
def State.rollLatch (s : State) (src sb id : Nat) : State :=
  let s := { s with rc := { s.rc with snap := some (s.takeSnap src sb id) } }
  ((s.onF Fd.RC_STAT_HELD).setF Fd.RC_STAT_SRC src).setF Fd.RC_STAT_SB sb

/-- The sources of R540 in the order in which the first of several at one edge is named (R551). -/
def rollRank : Nat → Nat
  | 4 => 0
  | 3 => 1
  | 1 => 2
  | 2 => 3
  | _ => 4

/-- The snapshot that another source has latched at the edge of a trigger by `src` (R551). -/
def State.rollMeets (s : State) (src : Nat) : Option RollSnap :=
  s.rc.snap.filter fun p => s.isF Fd.RC_STAT_HELD && p.edge == s.now && p.src != src

/-- Triggers of several sources at one edge are one latch, and it names the first of them (R551). -/
def State.rollJoin (s : State) (p : RollSnap) (src sb id : Nat) : State :=
  if rollRank p.src < rollRank src then s
  else
    let s := { s with rc := { s.rc with snap := some { p with src := src, sbSrc := sb, rollId := id } } }
    (s.setF Fd.RC_STAT_SRC src).setF Fd.RC_STAT_SB sb

/-- A trigger that the node counts itself: ROLL_ID is the node's local roll-call count (R542). -/
def State.rollLocal (s : State) (src sb : Nat) : State :=
  let n := (s.rc.count + 1) % 2 ^ 16
  { s with rc := { s.rc with count := n } }.rollLatch src sb n

end Sys2Proof.Machine
end

