-- ==== Sys2Proof/Machine/SigBox.lean ====
section
/-! DEFINITION. The signal box: a raise of a source with its reaction (R485 to R490), and the
commands of its family. -/

namespace Sys2Proof.Machine

/-- Who raises a source: a block of the module, a triad's own logic for SB0-SB9 (R196), or the RAISE
instruction of a triad (R160). -/
inductive RaisedBy where
  | block
  | triad (t : Triad)
  | program (t : Triad)
deriving DecidableEq, Repr

/-- The triad that counts as having set the source. -/
def RaisedBy.triad? : RaisedBy → Option Triad
  | .block => none
  | .triad t => some t
  | .program t => some t

def RaisedBy.bySw : RaisedBy → Bool
  | .program _ => true
  | _ => false

/-- Sources that are reserved (R494). -/
def reservedSource (src : Nat) : Bool := (11 ≤ src && src ≤ 15) || src == 31

/-- The triads that a source's interrupt or NMI goes to (R487). -/
def State.sbRoute (s : State) (src : Nat) (by_ : RaisedBy) : List Triad :=
  if src ≤ 9 then by_.triad?.toList
  else
    let a := s.isF (Fd.SB_CFG_ROUTE_A src)
    let b := s.isF (Fd.SB_CFG_ROUTE_B src)
    if !a && !b then [.a, .b] else (if a then [Triad.a] else []) ++ (if b then [Triad.b] else [])

/-- An NMI arrives at a machine: only one is held, and a later one merges into it; of those that arrive at one time
the highest-numbered source is reported (R122). -/
def State.nmiTo (s : State) (src : Nat) (m : Mach) : State :=
  s.modMach m fun x => match x.nmi with
    | none => { x with nmi := some src, nmiAt := s.now }
    | some k => { x with nmi := some (if x.nmiAt = s.now then max k src else k) }

/-- An NMI goes to a triad: in a split triad to both machines (R194). -/
def State.nmiToTriad (s : State) (src : Nat) (t : Triad) : State :=
  State.each (fun m s => s.nmiTo src m) (s.machsOf t) s

/-- The lanes that are FAULTED. -/
def State.faultedLanes (s : State) : List (Fin 16) := all16.filter fun n => s.getF (Fd.RFX_STAT_STATE n.val) == 2

/-- The blocks that a BLOCK_RESET of a source resets (R494). -/
def State.sbTargets (s : State) (src : Nat) (by_ : RaisedBy) : List Blk :=
  if src ≤ 6 ∨ src = 9 then by_.triad?.toList.map Blk.triad
  else if src = 10 then s.faultedLanes.map Blk.rfx
  else if 16 ≤ src ∧ src ≤ 23 ∨ src = 29 then [.patrol]
  else if src = 26 ∨ src = 27 ∨ src = 28 ∨ src = 30 then [.calst]
  else if 32 ≤ src ∧ src ≤ 43 then [.orvia]
  else if 44 ≤ src ∧ src ≤ 47 then [.sess]
  else if 48 ≤ src ∧ src ≤ 52 ∨ src = 63 then [.ttbl]
  else if 53 ≤ src ∧ src ≤ 62 then [.mani]
  else if 64 ≤ src ∧ src ≤ 95 then [.ch (Fin.ofNat 16 src)]
  else if 96 ≤ src ∧ src ≤ 103 then [.shunt]
  else if 104 ≤ src ∧ src ≤ 107 then [.pool]
  else if 108 ≤ src ∧ src ≤ 111 then [.spx]
  else []

/-- Whether a source has a target block, so that BLOCK_RESET can be set for it (R494). -/
def hasTarget (src : Nat) : Bool :=
  src ≤ 6 || src == 9 || src == 10 || (16 ≤ src && src ≤ 23) || (26 ≤ src && src ≤ 30) || (32 ≤ src && src ≤ 111)

/-- The quiet period in ns; 0 ms is taken as 1 ms (R489). -/
def State.quietNs (s : State) : Nat :=
  let q := s.getF Fd.SB_QUIET_QUIET
  (if q = 0 then 1 else q) * 1000000

/-- The sticky bit of a raised source, its `SB_SW` bit, and for SB0-SB9 the level of the triad that
set it (R486, R487, R488). -/
def State.setSticky (s : State) (src : Nat) (by_ : RaisedBy) : State :=
  let s := s.setBitF (Fd.SB_STICKY_BITS (src / 32)) (src % 32)
  let s := if by_.bySw then s.setBitF (Fd.SB_SW_BITS (src / 32)) (src % 32) else s
  match by_.triad? with
  | some t =>
    if src ≤ 9 then s.modTri t fun x => { x with raised := x.raised ||| BitVec.ofNat 10 (1 <<< src) } else s
  | none => s

/-- FAULT is entered or extended by a strong raise (R486, R489): the first one is recorded, a strong
raise of another source sets SECOND, each restarts the quiet timer; of those at one time LAST holds the
highest-numbered (R498). -/
def State.strongRaise (s : State) (src : Nat) (by_ : RaisedBy) (errPins : Bool) : State :=
  let s :=
    if s.isF Fd.SB_STAT_STATE then
      if s.getF Fd.SB_FIRST_SOURCE = src then s else s.onF Fd.SB_COVER_SECOND
    else
      let s := (s.onF Fd.SB_STAT_STATE).incF Fd.SB_CNT_FAULT_ENTRIES
      let s := (s.setF Fd.SB_FIRST_SOURCE src).setF Fd.SB_FIRST_SW (b2n by_.bySw)
      { s with sb := { s.sb with errSince := false, firstTime := s.tt.clk } }
  let s := s.setF Fd.SB_STAT_LAST (if s.sb.lastAt = s.now then max (s.getF Fd.SB_STAT_LAST) src else src)
  { s with sb := { s.sb with quietEnd := s.now + s.quietNs, errSince := s.sb.errSince || errPins, lastAt := s.now } }

/-- The reaction of a source, without the roll call and the chip reset that it may cause (R485, R486).
During a chip reset no reaction acts (R498). -/
def State.reactCore (s : State) (src : Nat) (by_ : RaisedBy) : State :=
  if reservedSource src || s.phase != .running then s
  else
    let r := s.getF (Fd.SB_CFG_REACTION src)
    if r < 2 then s
    else
      let s := s.strongRaise src by_ (r == 4 || r == 5)
      if r = 2 ∨ r = 4 then State.each (fun t s => s.nmiToTriad src t) (s.sbRoute src by_) s
      else if r = 3 then State.each (fun b s => s.requestReset b) (s.sbTargets src by_) s
      else s

/-- One raise of a source, without the roll call that it may trigger (R486). -/
def State.raiseCore (s : State) (src : Nat) (by_ : RaisedBy) : State := (s.setSticky src by_).reactCore src by_

/-- A trigger of the roll call within a raise: latched as SRC 3, or counted as overrun with SB125
(R540, R544). -/
def State.rollBySource (s : State) (src : Nat) : State :=
  match s.rollMeets 3 with
  | some p => s.rollJoin p 3 src p.rollId
  | none =>
    if s.isF Fd.RC_STAT_HELD then (s.incF Fd.RC_STAT_OVERRUN).raiseCore 125 .block
    else s.rollLocal 3 src

/-- The whole reaction of a source whose sticky bit stands (R486): the strong reaction, the roll call, and
last the chip reset, which overtakes the others. -/
def State.react (s : State) (src : Nat) (by_ : RaisedBy := .block) : State :=
  let live := s.phase == .running && !reservedSource src
  let s := s.reactCore src by_
  let s := if live && s.isF (Fd.SB_CFG_ROLL src) then s.rollBySource src else s
  if live && s.getF (Fd.SB_CFG_REACTION src) == 5 then
    if s.pwr.failing then s
    else
      let s := (s.incF Fd.SB_CNT_CHIP_RESETS).onF Fd.RST_CAUSE_SIGBOX
      { s with pwr := { s.pwr with bySigbox := true } }.chipReset
  else s

/-- A raise of a source (R486): its sticky bit and its reaction. -/
def State.raise (s : State) (src : Nat) (by_ : RaisedBy := .block) : State := (s.setSticky src by_).react src by_

/-- A trigger of the roll call other than by a source (R540, R544): the state, and whether it latched. -/
def State.rollTrigger (s : State) (src : Nat) : State × Bool :=
  if s.phase ≠ .running then (s, false)
  else match s.rollMeets src with
  | some p => (s.rollJoin p src 0 p.rollId, true)
  | none =>
    if s.isF Fd.RC_STAT_HELD then ((s.incF Fd.RC_STAT_OVERRUN).raise 125, false)
    else (s.rollLocal src 0, true)

/-- Who counts as having raised a source that a block reports on its own pair: for SB0-SB9 the triad
`t`, for every other source the block. -/
def wireBy (src : Nat) (t : Triad) : RaisedBy := if src ≤ 9 then .triad t else .block

/-- A write of `SB_CFG[src]` (R485, R492, R493): ignored while locked, ignored as a whole for a code
that is not used or a target that does not exist. -/
def State.sbCfgWrite (s : State) (src : Nat) (v : Word) : State :=
  if s.isF Fd.SB_CTRL_LOCK then s.onF Fd.SB_STAT_LOCK_WR
  else
    let r := fieldOf v 0 3
    if r ≥ 6 ∨ (r = 3 ∧ hasTarget src = false) then s.onF Fd.SB_STAT_CFG_IGNORED
    else
      let s := s.setF (Fd.SB_CFG_REACTION src) r
      let s := s.setF (Fd.SB_CFG_ROUTE_A src) (fieldOf v 4 1)
      let s := s.setF (Fd.SB_CFG_ROUTE_B src) (fieldOf v 5 1)
      s.setF (Fd.SB_CFG_ROLL src) (fieldOf v 6 1)

/-- A write of `SB_CTRL`: a 1 to LOCK locks until the next chip reset (R493). -/
def State.sbLock (s : State) : State := s.onF Fd.SB_CTRL_LOCK

/-- A write of `SB_QUIET` or `SB_IRQ` is ignored while LOCK = 1 (R493). -/
def State.sbLockedWrite (s : State) (r : Rg) (mask v : Word) : State :=
  if s.isF Fd.SB_CTRL_LOCK then s.onF Fd.SB_STAT_LOCK_WR
  else s.setR r ((s.getR r &&& ~~~mask) ||| (v &&& mask))

/-- SB7 is set for as long as a triad is split (R29, R71): the cause stands, and a clearing write does not keep
the bit clear. -/
def State.splitStands (s : State) (t : Triad) : State :=
  if s.phase == .running && s.split t then s.setSticky 7 (.triad t) else s

/-- A write of ones to sticky bits (R488): clears them, and with SB0-SB9 the levels of both triads
(R487); SB7 stands while a triad is split. -/
def State.stickyClear (s : State) (i : Nat) (v : Word) : State :=
  let s := s.setR (Rg.SB_STICKY i) (s.getR (Rg.SB_STICKY i) &&& ~~~v)
  if i = 0 then
    let drop := fun x : TriadH => { x with raised := x.raised &&& ~~~(v.setWidth 10) }
    (((s.modTri .a drop).modTri .b drop).splitStands .a).splitStands .b
  else s

end Sys2Proof.Machine
end

