-- ==== Sys2Proof/Machine/Patrol.lean ====
section
/-! DEFINITION. Stored words: what an access meets in SRAM and in flash (R456 to R459), the track
walker with its visits, heals and log (R460 to R465). -/

namespace Sys2Proof.Machine

/-! ### The log (R463) -/

/-- One entry of the log. -/
def ptEntry (kind word : Nat) : Word := BitVec.ofNat 32 (kind + word % 2 ^ 21 * 8)

/-- `PT_LOG` and `PT_LOG_STAT.LEVEL` show the log. -/
def State.ptShow (s : State) (l : List Word) : State :=
  let s := { s with pt := { s.pt with log := l } }
  (s.setR Rg.PT_LOG (l.headD 0)).setF Fd.PT_LOG_STAT_LEVEL l.length

/-- An event is logged; one that finds 16 entries is not, and sets OVF and SB23. -/
def State.ptLog (s : State) (kind word : Nat) : State :=
  if s.pt.log.length < 16 then s.ptShow (s.pt.log ++ [ptEntry kind word])
  else (s.onF Fd.PT_LOG_STAT_OVF).raise 23

/-- A read of `PT_LOG`: the oldest entry, which it removes. -/
def State.ptLogRead (s : State) : Word × State := (s.getR Rg.PT_LOG, s.ptShow s.pt.log.tail)

/-! ### Flash words (R459) -/

/-- Whether an address lies in a sector whose content is undefined (R477). -/
def State.inFlux (s : State) (a : Nat) : Bool := s.flashFlux.contains ((a - 0x1000_0000) / 0x8000)

/-- A read meets a flash word (R459): whether the word reads as poisoned. A single-bit error is
corrected on each read and stays stored. -/
def State.flashWord (s : State) (w : Nat) : Bool × State :=
  match lookupNat w s.flashErr with
  | none => (false, s)
  | some .single => (false, (s.incF Fd.PT_CNT2_FLASH_CORR).raise 24)
  | some .multi => (true, (s.incF Fd.PT_CNT2_FLASH_UNCORR).raise 25)

/-- The 64-bit words that hold the bytes `a` to `a + n - 1`. -/
def wordsOf (a n : Nat) : List Nat := if n = 0 then [] else List.range' (a / 8) ((a + n - 1) / 8 + 1 - a / 8)

/-- A read meets each of some flash words: whether one reads as poisoned. -/
def State.flashWords : List Nat → State → Bool × State
  | [], s => (false, s)
  | w :: r, s =>
    let (p, s) := s.flashWord w
    let (q, s) := State.flashWords r s
    (p || q, s)

/-- A read of `n` bytes of flash (R459, R477): none when a word reads as uncorrectable. In a sector
whose content is undefined the value, and whether it reads as uncorrectable, are free. -/
def State.flashLoad (s : State) (a n : Nat) : Option Nat × State :=
  if s.inFlux a then
    let (v, s) := s.takeFree
    if v.getLsbD 63 then (none, (s.incF Fd.PT_CNT2_FLASH_UNCORR).raise 25)
    else (some (v.toNat % 2 ^ (8 * n)), s)
  else
    let (p, s) := State.flashWords (wordsOf a n) s
    (if p then none else some (s.flashRead a n), s)

/-! ### Healing (R462) -/

/-- The reloadable region that an SRAM address lies in: the flash address of its page. -/
def State.healSrc (s : State) (a : Nat) : Option Nat :=
  (List.range 8).findSome? fun i =>
    let pages := s.getF (Fd.PT_HEAL_MAP0_PAGES i)
    let base := s.getF (Fd.PT_HEAL_MAP0_BASE i)
    let p := a / 4096
    if base ≤ p ∧ p < base + pages then some (s.getF (Fd.PT_HEAL_MAP4_SRC i) + 4096 * (p - base)) else none

/-- One word of the page is rewritten from flash, or written POISONED when the flash word is
uncorrectable; `bad` says that one was. -/
def State.healWord (page src : Nat) (acc : Bool × State) (i : Nat) : Bool × State :=
  let (bad, s) := acc
  let (v, s) := s.flashLoad (src + 8 * i) 8
  let w := page * 512 + i
  let s := { s with sramErr := eraseNat w s.sramErr }
  match v with
  | some x => (bad, s.sramStore (8 * w) (leBytes x 8))
  | none => (true, s.setMark w .poisoned)

/-- The page is rewritten and the heal is logged, counted and raised (R462). -/
def State.healPage (s : State) (page word : Nat) : State :=
  match s.healSrc (page * 4096) with
  | none => s
  | some src =>
    let (bad, s) := (List.range 512).foldl (State.healWord page src) (false, s)
    if bad then ((s.ptLog 4 word).incF Fd.PT_CNT2_HEAL_FAILED).raise 22
    else ((s.ptLog 3 word).incF Fd.PT_CNT_HEALED).raise 20

/-- Whether one of `n` bytes from `a` up lies in a page that is being healed, so that an access to it
stalls (R462). -/
def State.healingAt (s : State) (a n : Nat) : Bool :=
  s.pt.heals.any fun p => a / 4096 == p.1 || (a + n - 1) / 4096 == p.1

/-! ### Accesses to SRAM words (R457, R458) -/

/-- A correctable error has been corrected (R457, R461). -/
def State.eccCorrected (s : State) (w : Nat) : State :=
  ({ s with sramErr := eraseNat w s.sramErr }.incF Fd.PT_CNT_CORRECTED).raise 16

/-- A read, or a write of part of a word, meets the stored word (R457, R458): afterwards the word has
no error; an uncorrectable one is poisoned, logged, and healed where a region holds it. -/
def State.eccTouch (w : Nat) (s : State) : State :=
  match lookupNat w s.sramErr with
  | none => s
  | some .single => s.eccCorrected w
  | some .multi =>
    let s := { s with sramErr := eraseNat w s.sramErr }.setMark w .poisoned
    let s := ((s.ptLog 2 w).incF Fd.PT_CNT2_DEMAND).raise 19
    if (s.healSrc (8 * w)).isSome then s.healPage (w / 512) w else s

/-- What a read of SRAM gives. -/
inductive SramRes where
  | data (v : Nat)
  | poison
deriving DecidableEq, Repr

/-- The words of an access that it reads or writes in part. -/
def State.eccTouchAll (s : State) (a n : Nat) : State := State.each State.eccTouch (wordsOf a n) s

/-- A read of `n` bytes of SRAM by an agent of the fabric (R457): a poisoned word gives POISON, and
an unwritten one reads 0x00 bytes and sets SB21. -/
def State.sramLoad (s : State) (a n : Nat) : SramRes × State :=
  let s := s.eccTouchAll a n
  if s.anyMark isPoisoned a n then (.poison, s)
  else
    let v := s.sramRead a n
    (.data v, if s.anyMark isUnwritten a n then s.raise 21 else s)

/-- Whether a word lies whole within the bytes `a` to `a + n - 1`. -/
def wholeWord (a n w : Nat) : Bool := a ≤ 8 * w && 8 * w + 8 ≤ a + n

/-- A write of bytes to SRAM by an agent of the fabric (R457): words written in part are met first,
and one that is then poisoned stops the write and answers POISON (false). -/
def State.sramWrite (s : State) (a : Nat) (bs : List Byte) : Bool × State :=
  let n := bs.length
  let parts := (wordsOf a n).filter fun w => !wholeWord a n w
  let s := State.each State.eccTouch parts s
  if parts.any fun w => isPoisoned (s.markOf w) then (false, s)
  else
    let s := { s with sramErr := s.sramErr.filter fun p => !(wordsOf a n).contains p.1 }
    (true, s.sramStore a bs)

/-- A stored word takes an error (R456, R459). -/
def State.upset (s : State) : Upset → State
  | .none => s
  | .sram w e => { s with sramErr := insertNat (w % 2 ^ 21) e s.sramErr }
  | .flash w e => { s with flashErr := insertNat (0x0200_0000 + w % 0x80_0000) e s.flashErr }

/-- Whether the walker visits words now (R460): it runs in STABLED too. -/
def State.patrolRuns (s : State) : Bool := s.phase == .running && !s.inReset .patrol && s.isF Fd.PT_STAT_ACTIVE

/-- What the walker does at a word (R461). -/
def State.walk (s : State) (w : Nat) : State :=
  match lookupNat w s.sramErr with
  | none => s
  | some .single => s.eccCorrected w
  | some .multi =>
    let s := { s with sramErr := eraseNat w s.sramErr }.setMark w .poisoned
    if (s.healSrc (8 * w)).isSome then
      if s.healingAt (8 * w) 1 then s
      else { s.onF Fd.PT_STAT_HEALING with pt := { s.pt with heals := s.pt.heals ++ [(w / 512, w)] } }
    else ((s.ptLog 1 w).incF Fd.PT_CNT_POISONED).raise 17

end Sys2Proof.Machine
end

