-- ==== Sys2Proof/Machine/Tally.lean ====
section
/-! DEFINITION. The tally watchdog: counting, windows, the protected writes and their key, the
escalation ladder (R500 to R511), and the registers of refuge (R512, R514, R517). -/

namespace Sys2Proof.Machine

/-! ### Who owns a tally (R128, R501) -/

/-- The triad that a task of the image is bound to. -/
def Task.triadOf (t : Task) : Triad := if t.triad = 0 then .a else .b

def State.tasks (s : State) : List Task := (s.image.map (·.tasks)).getD []

/-- The task that a tally is bound to. -/
def State.tallyTask (s : State) (n : Nat) : Option Task := s.tasks.find? fun t => t.tallies.getLsbD n

/-- The tallies that a task of a triad owns. -/
def State.talliesOf (s : State) (t : Triad) : Nat :=
  (s.tasks.filter fun k => Task.triadOf k == t).foldl (fun m k => m ||| k.tallies.toNat) 0

/-- The tallies that some task owns. -/
def State.ownedTallies (s : State) : Nat := s.tasks.foldl (fun m k => m ||| k.tallies.toNat) 0

/-! ### Counting, periods and windows (R501 to R506) -/

/-- Whether the watchdog counts now: enabled, started, not stopped by STABLED, not suspended. -/
def State.tlCounting (s : State) : Bool :=
  s.phase == .running && s.isF Fd.TL_CTRL_EN && s.isF Fd.TL_STAT_STARTED && !s.tl.stopped && !s.isF Fd.TL_STAT_SUSPENDED

/-- The window opens (R502): OPEN reads 1 and each enabled window interrupt becomes pending. -/
def State.tlOpen (s : State) : State :=
  let s := s.onF Fd.TL_STAT_OPEN
  let s := if s.isF Fd.TL_IRQ_EN_A then s.onF Fd.TL_IRQ_PEND_A else s
  if s.isF Fd.TL_IRQ_EN_B then s.onF Fd.TL_IRQ_PEND_B else s

/-- Whether an erase of flash is in progress (R470, R476, R506). -/
def State.erasing (s : State) : Bool :=
  s.getF Fd.CS_STAT_STEP == 2 || match s.cs.fpOp with
    | some (.erase _) => true
    | _ => false

/-- A new period starts: the period value and the enables written so far are in force, and with a
window fraction of 0 the window is open from the start (R501, R502); an erase that still runs suspends it (R506). -/
def State.tlStartPeriod (s : State) : State :=
  let s := { s with tl := { s.tl with
    period := s.getF Fd.TL_PERIOD_PERIOD, enabled := BitVec.ofNat 16 (s.getF Fd.TL_EN_EN)
    phase := 0, suspended := 0, guardOut := false, stopped := false } }
  let s := (s.setR Rg.TL_DONE 0).offF Fd.TL_STAT_OPEN
  let s := if s.erasing then s.onF Fd.TL_STAT_SUSPENDED else s
  if s.getF Fd.TL_STAT_WINFRAC = 0 then s.tlOpen else s

/-- Counting starts with the first period (R505); nothing happens when it has started. -/
def State.tlStart (s : State) : State :=
  if s.isF Fd.TL_STAT_STARTED || s.getF Fd.BOOT_STAT_RESULT != 1 then s
  else (s.onF Fd.TL_STAT_STARTED).tlStartPeriod

/-- A flash erase starts: counting is suspended, unless the guard has expired in this period (R506). -/
def State.tlEraseStart (s : State) : State :=
  if s.tl.guardOut then s else s.onF Fd.TL_STAT_SUSPENDED

/-- A flash erase ends: counting resumes (R506). -/
def State.tlEraseEnd (s : State) : State := s.offF Fd.TL_STAT_SUSPENDED

/-- A check-in on TALLY`n` (R159, R503): its code and the state. -/
def State.tlCheckIn (s : State) (n : Nat) : Nat × State :=
  if !s.isF Fd.TL_CTRL_EN || !s.isF Fd.TL_STAT_STARTED || !s.tl.enabled.getLsbD n then (2, s)
  else if s.isF Fd.TL_STAT_OPEN then (0, s.setBitF Fd.TL_DONE_DONE n)
  else (1, ((s.setBitF Fd.TL_DONE_EARLY n).incF Fd.TL_CNT_EARLY).raise 113)

/-! ### Key and protected writes (R507, R508) -/

/-- A write of `TL_KEY`. -/
def State.tlKeyWrite (s : State) (v : Nat) : State :=
  if s.isF Fd.TL_CTRL_LOCK then s.onF Fd.TL_STAT_PROT_WR
  else if s.tl.keyStage = 1 then
    if v % 65536 = 0x81C5 then { s with tl := { s.tl with keyStage := 2, keyTime := s.now } }
    else { s.onF Fd.TL_STAT_KEY_ERR with tl := { s.tl with keyStage := 0 } }
  else if v % 65536 = 0x7E3A then { s with tl := { s.tl with keyStage := 1 } }
  else { s.onF Fd.TL_STAT_KEY_ERR with tl := { s.tl with keyStage := 0 } }

/-- Any other write to the block between the two key writes clears the sequence. -/
def State.tlDisturb (s : State) : State :=
  if s.tl.keyStage = 1 then { s.onF Fd.TL_STAT_KEY_ERR with tl := { s.tl with keyStage := 0 } } else s

/-- The start of a write to `TL_CTRL`, `TL_EN`, `TL_PERIOD` or `TL_ESC`: whether the key admits it, and
the state with the key used up. -/
def State.tlUseKey (s : State) : Bool × State :=
  let open_ := s.keyOpen
  let s := s.tlDisturb
  (open_, { s with tl := { s.tl with keyStage := 0 } })

/-- A write of `TL_CTRL` (R501, R507, R508). -/
def State.tlCtrlWrite (s : State) (v : Word) : State :=
  let (key, s) := s.tlUseKey
  let en := fieldOf v 0 1
  let lock := fieldOf v 1 1
  let hold := fieldOf v 2 1
  let prot := (s.isF Fd.TL_CTRL_EN && en == 0) || (!s.isF Fd.TL_CTRL_DBG_HOLD && hold == 1)
  if prot && !key then s.onF Fd.TL_STAT_PROT_WR
  else
    let rising := !s.isF Fd.TL_CTRL_EN && en == 1
    let s := (s.setF Fd.TL_CTRL_EN en).setF Fd.TL_CTRL_DBG_HOLD hold
    let s := if lock = 1 then s.onF Fd.TL_CTRL_LOCK else s
    if rising && s.isF Fd.TL_STAT_STARTED then s.tlStartPeriod else s

/-- A write of `TL_EN` (R501, R505, R507): a bit whose tally no task owns is not set. -/
def State.tlEnWrite (s : State) (v : Word) : State :=
  let (key, s) := s.tlUseKey
  let new := fieldOf v 0 16
  let old := s.getF Fd.TL_EN_EN
  let cleared := old &&& (0xFFFF ^^^ new)
  if cleared ≠ 0 ∧ key = false then s.onF Fd.TL_STAT_PROT_WR
  else
    let own := s.ownedTallies
    let unowned := (new &&& (0xFFFF ^^^ old)) &&& (0xFFFF ^^^ own)
    let s := s.setF Fd.TL_EN_EN (new &&& (0xFFFF ^^^ unowned))
    let s := if unowned ≠ 0 then s.onF Fd.TL_STAT_PROT_WR else s
    if s.getF Fd.TL_EN_EN ≠ 0 then s.tlStart else s

/-- A write of `TL_PERIOD` (R502, R507). -/
def State.tlPeriodWrite (s : State) (v : Word) : State :=
  let (key, s) := s.tlUseKey
  let p := fieldOf v 0 16
  if p = 0 ∨ p > 65000 then s.onF Fd.TL_STAT_RANGE
  else if p ≠ s.getF Fd.TL_PERIOD_PERIOD ∧ key = false then s.onF Fd.TL_STAT_PROT_WR
  else s.setF Fd.TL_PERIOD_PERIOD p

/-- A write of `TL_ESC` (R507, R511). -/
def State.tlEscWrite (s : State) (v : Word) : State :=
  let (key, s) := s.tlUseKey
  let n := fieldOf v 0 4
  if n = 0 then s.onF Fd.TL_STAT_RANGE
  else if n ≠ s.getF Fd.TL_ESC_N ∧ key = false then s.onF Fd.TL_STAT_PROT_WR
  else s.setF Fd.TL_ESC_N n

/-! ### Escalation (R510, R511) -/

def State.tlLevel (s : State) (t : Triad) : Nat :=
  match t with
  | .a => s.getF Fd.TL_STAT_LEVEL_A
  | .b => s.getF Fd.TL_STAT_LEVEL_B

def State.setTlLevel (s : State) (t : Triad) (v : Nat) : State :=
  match t with
  | .a => s.setF Fd.TL_STAT_LEVEL_A v
  | .b => s.setF Fd.TL_STAT_LEVEL_B v

/-- Whether a triad is halted for debug and its steps are held off (R510). -/
def State.tlHeldOff (s : State) (t : Triad) : Bool :=
  s.isF Fd.TL_CTRL_DBG_HOLD && s.isF (Fd.TR_STAT_HALTED t.idx)

/-- Step 2 (R510, R511): the chip reset caused by the watchdog. -/
def State.tlStep2 (s : State) : State :=
  let s := ((s.incF Fd.TL_CONSEC_COUNT).incF Fd.TL_CNT_CHIP_RESETS).onF Fd.RST_CAUSE_TALLY
  let s := { s with pwr := { s.pwr with byTally := true } }
  (s.raise 114).chipReset

/-- Step 1 for one triad (R510): its restart, and level 1 unless the module is in refuge. -/
def State.tlStep1 (s : State) (t : Triad) : State :=
  let s := if s.isF Fd.RFG_STAT_ACTIVE then s else s.setTlLevel t 1
  (s.incF Fd.TL_CNT_RESTARTS).raise 114 |>.requestReset (.triad t)

/-- What one triad's ladder does at a period end when no step 2 is taken. -/
def State.tlLadder (s : State) (missed done : Nat) (none_ : Bool) (t : Triad) : State :=
  let own := s.talliesOf t
  if missed &&& own ≠ 0 ∨ none_ = true then (if s.tlHeldOff t then s else s.tlStep1 t)
  else if done &&& own ≠ 0 then s.setTlLevel t 0
  else s

/-- A period end (R502, R503, R510): the misses, then the steps, then the next period. -/
def State.tlPeriodEnd (s : State) : State :=
  let en := s.tl.enabled.toNat
  let done := s.getF Fd.TL_DONE_DONE
  let early := s.getF Fd.TL_DONE_EARLY
  let missed := en &&& ((0xFFFF ^^^ done) ||| early)
  let none_ := en == 0
  let accepted := (en &&& done) &&& (0xFFFF ^^^ early)
  let refuge := s.isF Fd.RFG_STAT_ACTIVE
  let wants2 := fun t => (missed &&& s.talliesOf t != 0 || none_) && !s.tlHeldOff t && s.tlLevel t == 1 && !refuge
  let step2 := !s.pwr.failing && (wants2 .a || wants2 .b)
  let s := s.setF Fd.TL_MISS_MISS (s.getF Fd.TL_MISS_MISS ||| missed)
  let s := if none_ then s.onF Fd.TL_STAT_NONE_EN else s
  -- the chip reset of step 2 and one by SB112 in the same cycle are one, tally-caused (R515)
  let s := { s with pwr := { s.pwr with byTally := s.pwr.byTally || step2 } }
  let s := if missed ≠ 0 ∨ none_ = true then (s.incF Fd.TL_CNT_MISSES).raise 112 else s
  if step2 then s.tlStep2
  else if s.phase ≠ .running then s
  else
    let s := if s.pwr.failing then s else (s.tlLadder missed accepted none_ .a).tlLadder missed accepted none_ .b
    if s.phase = .running then s.tlStartPeriod else s

/-! ### The registers of refuge (R512, R514) -/

/-- A new challenge that is not 0: a free value, but another than the old one (R512). -/
def newChallenge (old w : Word) : Word := if w = 0 ∨ w = old then (if old = 1 then 2 else 1) else w

/-- Refuge is entered, as its registers show it (R512): ACTIVE with its cause, a new challenge, one entry more. -/
def State.refugeRegs (s : State) (cause : Nat) : State :=
  let (v, s) := s.takeFree
  let s := (s.onF Fd.RFG_STAT_ACTIVE).setF Fd.RFG_STAT_CAUSE cause
  let s := s.setR Rg.RFG_CHAL (newChallenge (s.getR Rg.RFG_CHAL) (v.setWidth 32))
  s.incF Fd.RFG_STAT_ENTRIES

/-- The module is released from refuge (R514). -/
def State.refugeRelease (s : State) : State :=
  let s := (s.offF Fd.RFG_STAT_ACTIVE).offF Fd.TL_CONSEC_COUNT
  let s := (s.offF Fd.TL_STAT_LEVEL_A).offF Fd.TL_STAT_LEVEL_B
  (s.offF Fd.MANI_MISS_MISS_A).offF Fd.MANI_MISS_MISS_B

/-- A write of `RFG_REL` (R514): whether a session gets OK, and the state. -/
def State.rfgRelWrite (s : State) (by_ : Agent) (v : Word) : Bool × State :=
  match by_ with
  | .core _ => (true, s.onF Fd.RFG_LAST_CORE)
  | .debug => (true, s.onF Fd.RFG_LAST_CORE)
  | .shunter _ => (true, s)
  | .session _ cls node =>
    let s := (s.offF Fd.RFG_LAST_CORE).setF Fd.RFG_LAST_NODE node
    if !s.isF Fd.RFG_STAT_ACTIVE then (true, s.setF Fd.RFG_LAST_RESULT 3)
    else if cls == 1 && node != s.getF Fd.OV_NODE_ID && v == s.getR Rg.RFG_CHAL then
      (true, (s.setF Fd.RFG_LAST_RESULT 1).refugeRelease)
    else (false, s.setF Fd.RFG_LAST_RESULT 2)

end Sys2Proof.Machine
end

