-- ==== Sys2Proof/Machine/Calst.lean ====
section
/-! DEFINITION. `CALST`: the calibration store with its selection and its writes (R466 to R472), and
flash programming (R474 to R477). -/

namespace Sys2Proof.Machine

/-! ### Sectors and banks (R466, R467, R474) -/

/-- A sector is erased: its bytes read 0xFF and its words have no error. -/
def State.eraseSector (s : State) (k : Nat) : State :=
  { s.dropFlux k with
    flash := s.flash.filter fun p => sectorOf p.1 != k
    flashErr := s.flashErr.filter fun p => sectorOf (8 * p.1) != k }

/-- Whether a sector is wholly erased and readable (R469). -/
def State.sectorErased (s : State) (k : Nat) : Bool :=
  !s.flashFlux.contains k && s.flash.all (fun p => sectorOf p.1 != k)
    && s.flashErr.all (fun p => !(sectorOf (8 * p.1) == k && p.2 == .multi))

/-! ### Entries and validity (R467 to R469) -/

/-- The bytes of flash from an address up. -/
def State.flashBytes (s : State) (a n : Nat) : List Byte := (List.range n).map fun i => s.flashByte (a + i)

/-- `CHECK` of a bank's content (R467). -/
def calCheck (base gen : Nat) (lenAndBody : List Byte) : Nat := crcFold .crc32c base gen lenAndBody

/-- The bytes that `CHECK` covers: the length and the body (R467). -/
def calCovered (body : List Byte) : List Byte := leBytes body.length 4 ++ body

/-- The entries of a valid bank, with its generation (R469); none when it is invalid. -/
def State.calBank (s : State) (b : Nat) : Option (Nat × List CalEntry) :=
  let a := bankBase b
  let gen := s.flashRead a 4
  let len := s.flashRead (a + 4) 4
  let bad := s.flashErr.any fun p => p.2 == .multi && a ≤ 8 * p.1 + 7 && 8 * p.1 < a + 16 + len
  if s.flashFlux.contains (bankSector b) ∨ s.flashRead (a + 12) 4 ≠ 0xCA15C0DE ∨ gen = 0 ∨ gen = 0xFFFFFFFF
      ∨ len > 512 ∨ len % 16 ≠ 0 ∨ bad = true then none
  else if s.flashRead (a + 8) 4 ≠ calCheck a gen (calCovered (s.flashBytes (a + 16) len)) then none
  else (calEntries (len / 16) (s.flashBytes (a + 16) len)).map fun e => (gen, e)

/-- The uncorrectable words of a bank are read during selection, and set SB25 (R469). -/
def State.calRead (s : State) (b : Nat) : State :=
  (State.flashWords ((s.flashErr.filter fun p => sectorOf (8 * p.1) == bankSector b).map (·.1)) s).2

/-- The selection at power-on and at chip reset (R469). -/
def State.calSelect (s : State) : State :=
  let s := (s.calRead 0).calRead 1
  let v0 := s.calBank 0
  let v1 := s.calBank 1
  let put := fun (s : State) (b : Nat) (g : Nat) (e : List CalEntry) =>
    let s := ((s.setF Fd.CS_STAT_SEL_BANK b).setF Fd.CS_GEN_GEN g).offF Fd.CS_STAT_NONE
    { s with cs := { s.cs with shadow := e } }
  let s := (s.setF Fd.CS_STAT_VALID0 (b2n v0.isSome)).setF Fd.CS_STAT_VALID1 (b2n v1.isSome)
  match v0, v1 with
  | some (g0, e0), some (g1, e1) => if g1 > g0 then put s 1 g1 e1 else put s 0 g0 e0
  | some (g0, e0), none =>
    let s := put s 0 g0 e0
    if s.sectorErased (bankSector 1) then s else s.raise 26
  | none, some (g1, e1) =>
    let s := put s 1 g1 e1
    if s.sectorErased (bankSector 0) then s else s.raise 26
  | none, none =>
    let s := ((s.offF Fd.CS_STAT_SEL_BANK).offF Fd.CS_GEN_GEN).onF Fd.CS_STAT_NONE
    { s with cs := { s.cs with shadow := [] } }.raise 27

/-- The entry that a channel takes for a range (R320, R321). -/
def State.calFor (s : State) (n range : Nat) : Option CalEntry := s.cs.shadow.find? fun e => e.ch == n && e.range == range

/-- Whether `CALST` acts. -/
def State.calLive (s : State) : Bool := s.phase == .running && !s.inReset .calst

/-- Whether an erase or program operation of flash may be started: none is once the power-fail sequence of R52
has started, so that a write of the store then stands where it is until the reset of R53. -/
def State.flashStarts (s : State) : Bool := s.calLive && !s.pwr.failing

/-! ### Writing the store (R470, R471) -/

/-- A write of the store or a flash programming command is in progress. -/
def State.calBusy (s : State) : Bool := s.isF Fd.CS_STAT_BUSY || s.isF Fd.FP_STAT_BUSY

/-- A write is refused, or ends in failure (R471). -/
def State.calFail (s : State) (r : Nat) : State :=
  (((s.setF Fd.CS_STAT_RESULT r).onF Fd.CS_STAT_FAIL).incF Fd.CS_CNT_FAILS).raise 28

def State.calStop (s : State) : State := (s.offF Fd.CS_STAT_BUSY).offF Fd.CS_STAT_STEP

/-- A write of `CS_CMD.WRITE` (R470, R471). -/
def State.calWrite (s : State) : State :=
  let src := 16 * s.getF Fd.CS_SRC_ADDR
  let len := s.getF Fd.CS_LEN_LEN
  if s.calBusy then s.calFail 2
  else if src + len > 0x0100_0000 then s.calFail 3
  else if len % 16 ≠ 0 ∨ len > 512 then s.calFail 4
  else if s.getF Fd.CS_GEN_GEN = 0xFFFFFFFE then s.calFail 6
  else if s.pwr.failing then s.calFail 7
  else
    let none_ := s.isF Fd.CS_STAT_NONE
    let s := (s.onF Fd.CS_STAT_BUSY).setF Fd.CS_STAT_STEP 1
    { s with cs := { s.cs with
      target := if none_ then 0 else 1 - s.getF Fd.CS_STAT_SEL_BANK
      gen := if none_ then 1 else s.getF Fd.CS_GEN_GEN + 1 } }

/-- The body is copied and checked, and the erase starts (R470). -/
def State.calCopied (s : State) : State :=
  let src := 16 * s.getF Fd.CS_SRC_ADDR
  let len := s.getF Fd.CS_LEN_LEN
  let s := s.eccTouchAll src len
  if s.getF Fd.CS_STAT_STEP ≠ 1 then s
  else if s.anyMark (fun m => isUnwritten m || isPoisoned m) src len then s.calStop.calFail 3
  else
    let body := (List.range len).map fun i => s.sramByte (src + i)
    match calEntries (len / 16) body with
    | none => s.calStop.calFail 5
    | some _ =>
      let s := { s with cs := { s.cs with body := body } }
      ((s.setF Fd.CS_STAT_STEP 2).addFlux (bankSector s.cs.target)).tlEraseStart

/-- The erase ends (R470). -/
def State.calErased (s : State) (blank : Bool) : State :=
  let s := s.tlEraseEnd
  if blank then ((s.eraseSector (bankSector s.cs.target)).addFlux (bankSector s.cs.target)).setF Fd.CS_STAT_STEP 3
  else s.calStop.calFail 8

/-- Body, LENGTH, GEN and CHECK stand in the bank (R467, R470). -/
def State.calProgrammed (s : State) : State :=
  let a := bankBase s.cs.target
  let chk := calCheck a s.cs.gen (calCovered s.cs.body)
  let s := s.dropFlux (bankSector s.cs.target)
  let s := s.flashProgram (a + 16) s.cs.body
  let s := s.flashProgram a (leBytes s.cs.gen 4 ++ leBytes s.cs.body.length 4 ++ leBytes chk 4)
  s.setF Fd.CS_STAT_STEP 4

/-- The write ends OK (R470). -/
def State.calCommitted (s : State) : State :=
  let s := s.calCommitWord.calSwitch.calStop
  ((s.setF Fd.CS_STAT_RESULT 1).onF Fd.CS_STAT_DONE).incF Fd.CS_CNT_WRITES

/-- Any write to `CALST` other than the second key write, between the two key writes, clears the
sequence (R475). -/
def State.fpDisturb (s : State) : State :=
  if s.cs.fpStage = 1 then { s.onF Fd.FP_STAT_KEY_ERR with cs := { s.cs with fpStage := 0 } } else s

/-! ### Flash programming (R474 to R477) -/

/-- A write of `FP_KEY` (R475). -/
def State.fpKey (s : State) (v : Nat) : State :=
  let bad := { s.onF Fd.FP_STAT_KEY_ERR with cs := { s.cs with fpStage := 0 } }
  if s.cs.fpStage = 1 then
    if v % 65536 = 0xC3E8 then { s with cs := { s.cs with fpStage := 2, fpTime := s.now } } else bad
  else if v % 65536 = 0x5A17 then { s with cs := { s.cs with fpStage := 1 } }
  else bad

/-- A command is refused, or ends in failure. -/
def State.fpFail (s : State) (r : Nat) : State :=
  (((s.setF Fd.FP_STAT_RESULT r).onF Fd.FP_STAT_FAIL).incF Fd.FP_CNT_FAILS).raise 30

/-- Whether a sector is open to flash programming commands (R474). -/
def fpSector (k : Nat) : Bool := k < 2044 || k == 2047

/-- Whether every target word reads erased. -/
def State.fpErased (s : State) (a n : Nat) : Bool :=
  !s.flashFlux.contains (sectorOf a)
    && s.flash.all (fun p => !(a ≤ p.1 && p.1 < a + n))
    && s.flashErr.all (fun p => !(p.2 == .multi && a ≤ 8 * p.1 && 8 * p.1 < a + n))

/-- The checks of a command in order (R475): the code of the first failure, or 0. -/
def State.fpCheck (s : State) (unlocked : Bool) (cmd : Nat) : Nat :=
  let a := s.getF Fd.FP_ADDR_ADDR
  let n := s.getF Fd.FP_LEN_LEN
  let src := 8 * s.getF Fd.FP_SRC_ADDR
  if !unlocked then 2
  else if s.calBusy then 3
  else if s.pwr.failing then 4
  else if cmd ≠ 1 ∧ cmd ≠ 2 then 5
  else if !inFlash a then 6
  else if cmd = 1 ∧ a % 0x8000 ≠ 0 then 6
  else if cmd = 2 ∧ (a % 8 ≠ 0 ∨ n % 8 ≠ 0 ∨ n < 8 ∨ n > 4096 ∨ a % 0x8000 + n > 0x8000) then 6
  else if fpSector (sectorOf a) = false then 7
  else if cmd = 2 ∧ (src + n > 0x0100_0000 ∨ s.anyMark (fun m => isUnwritten m || isPoisoned m) src n) then 8
  else if cmd = 2 ∧ s.fpErased a n = false then 9
  else 0

/-- A write of `FP_CMD` with GO = 1 (R475, R476): the key is used up, the command is checked and
starts, or is refused. -/
def State.fpGo (s : State) (cmd : Nat) : State :=
  let unlocked := s.fpUnlocked
  let s := s.setF Fd.FP_CMD_CMD cmd
  let s := s.fpDisturb
  let s := { s with cs := { s.cs with fpStage := 0 } }
  let src := 8 * s.getF Fd.FP_SRC_ADDR
  let n := s.getF Fd.FP_LEN_LEN
  let s := if unlocked && cmd == 2 && src + n ≤ 0x0100_0000 then s.eccTouchAll src n else s
  if !s.calLive then s
  else match s.fpCheck unlocked cmd with
  | 0 =>
    let a := s.getF Fd.FP_ADDR_ADDR
    let s := (s.onF Fd.FP_STAT_BUSY).addFlux (sectorOf a)
    if cmd = 1 then { s with cs := { s.cs with fpOp := some (.erase (sectorOf a)) } }.tlEraseStart
    else { s with cs := { s.cs with fpOp := some (.program a ((List.range n).map fun i => s.sramByte (src + i))) } }
  | r => s.fpFail r

/-- A command ends OK. -/
def State.fpDone (s : State) : State :=
  (((s.offF Fd.FP_STAT_BUSY).setF Fd.FP_STAT_RESULT 1).onF Fd.FP_STAT_DONE)

end Sys2Proof.Machine
end

