-- ==== Sys2Proof/Machine/Drr.lean ====
section
/-! DEFINITION. Admission (R408): deficit round robin over CONTROL, SUPERVISORY and BULK, and within a class over its
sessions. It orders the service of requests at the server, and the session frames that a port sends. -/

namespace Sys2Proof.Machine

/-- What waits for its turn: its class (1 SAFETY to 4 BULK), its session, its bytes. -/
structure Waiting where
  cls : Nat
  sid : Nat
  len : Nat
deriving DecidableEq, Repr

/-- The place of a class. -/
def clsIdx (c : Nat) : Fin 4 := Fin.ofNat 4 (c - 1)

/-- The class after one, among CONTROL, SUPERVISORY and BULK. -/
def nextCls (c : Nat) : Nat := if c = 2 then 3 else if c = 3 then 4 else 2

/-- The weight W of a class (R416). -/
def State.clsWeight (s : State) (c : Nat) : Nat :=
  max 1 (match c with
    | 2 => s.getF Fd.SS_ADM_W_CTRL
    | 3 => s.getF Fd.SS_ADM_W_SUP
    | _ => s.getF Fd.SS_ADM_W_BULK)

/-- The SHARE of a session. -/
def SessEntry.share (e : SessEntry) : Nat := max 1 (fieldOf e.cfg 16 4)

/-- The sessions of a class that have something waiting, in rising order. -/
def waitingSids (q : List Waiting) (c : Nat) : List Nat :=
  ((q.filter fun x => x.cls == c).foldl (fun l x => insertNat x.sid () l) []).map (·.1)

/-- The first that waits of a session. -/
def waitingHead (q : List Waiting) (c sid : Nat) : Option Waiting := q.find? fun x => x.cls == c && x.sid == sid

/-- The entry after `x` in a list that is gone through in a circle. -/
def nextIn (l : List Nat) (x : Nat) : Nat := ((l.find? fun y => x < y).or l.head?).getD x

/-- From session `sid` with deficits `d` on: the session of class `c` whose turn it is. Each round gives a session SHARE × 64
bytes. -/
def sessTurn (share : Nat → Nat) (c : Nat) (q : List Waiting) : Nat → Nat → List (Nat × Nat) → Nat × List (Nat × Nat)
  | 0, sid, d => (sid, d)
  | n + 1, sid, d =>
    let room := (lookupNat (c * 1024 + sid) d).getD 0
    if (waitingHead q c sid).any fun r => r.len ≤ room then (sid, d)
    else
      let nx := nextIn (waitingSids q c) sid
      let k := c * 1024 + nx
      sessTurn share c q n nx (insertNat k ((lookupNat k d).getD 0 + 64 * share nx) d)

/-- What is next in a class, with the deficits of its sessions. -/
def clsNext (share : Nat → Nat) (q : List Waiting) (d : Drr) (c : Nat) : Option (Waiting × List (Nat × Nat)) :=
  let (sid, e) := sessTurn share c q 1024 (vget d.last (clsIdx c)) d.sess
  (waitingHead q c sid).map fun r => (r, e)

/-- From class `c` on: the class whose turn it is. Each round gives a class W × 64 bytes, and an idle one nothing. -/
def clsTurn (weight share : Nat → Nat) (q : List Waiting) (d : Drr) : Nat → Nat → Vector Nat 4 → Nat × Vector Nat 4
  | 0, c, v => (c, v)
  | n + 1, c, v =>
    if (clsNext share q d c).any fun p => p.1.len ≤ vget v (clsIdx c) then (c, v)
    else
      let nx := nextCls c
      let was := vget v (clsIdx nx)
      clsTurn weight share q d n nx (vset v (clsIdx nx) (if q.any fun x => x.cls == nx then was + 64 * weight nx else 0))

/-- What waits in CONTROL, SUPERVISORY and BULK and has its turn, with the turns after it. -/
def drrNext (weight share : Nat → Nat) (q : List Waiting) (d : Drr) : Option (Waiting × Drr) :=
  let q := q.filter fun x => 2 ≤ x.cls
  if q.isEmpty then none
  else
    let (c, v) := clsTurn weight share q d 64 d.turn d.cls
    (clsNext share q d c).map fun p =>
      let r := p.1
      let k := c * 1024 + r.sid
      let rest := q.erase r
      let left := (lookupNat k p.2).getD 0 - r.len
      (r, { turn := c
            cls := vset v (clsIdx c) (if rest.any fun x => x.cls == c then vget v (clsIdx c) - r.len else 0)
            sess := if (waitingHead rest c r.sid).isSome then insertNat k left p.2 else eraseNat k p.2
            last := vset d.last (clsIdx c) r.sid })

end Sys2Proof.Machine
end

