-- ==== Sys2Proof/Machine/Net.lean ====
section
/-! DEFINITION. Sending over Orvia: ports, replay buffers and queues (R375, R376, R382, R387, R388), what
the node knows of the station (R386, R389), and the parts of the timetable that links act on: bound
and close offset (R205 to R208), holdover and the loss of lock (R202, R204). -/

namespace Sys2Proof.Machine

/-! ### Ports -/

def State.port (s : State) (p : Port) : PortH :=
  match p with
  | .east => s.ov.east
  | .west => s.ov.west

def State.setPort (s : State) (p : Port) (x : PortH) : State :=
  match p with
  | .east => { s with ov := { s.ov with east := x } }
  | .west => { s with ov := { s.ov with west := x } }

def State.modPort (s : State) (p : Port) (f : PortH → PortH) : State := s.setPort p (f (s.port p))

/-- The state of a port, as `OV_PSTAT.STATE` has it. -/
def State.portSt (s : State) (p : Port) : Nat := s.getF (Fd.OV_PSTAT_STATE p.idx)

/-- Whether a port is LINKED. -/
def State.linked (s : State) (p : Port) : Bool := s.getF (Fd.OV_PSTAT_STATE p.idx) == 2

def State.linkedPorts (s : State) : List Port := [Port.east, Port.west].filter s.linked

/-- This node's ID; 0x3FF while it is unnumbered (R384). -/
def State.nodeId (s : State) : Nat := s.getF Fd.OV_NODE_ID
def State.numbered (s : State) : Bool := s.isF Fd.OV_NODE_NUMBERED

/-- The module's part in the station runs: not in reset, `ORVIA` not in reset. -/
def State.ovLive (s : State) : Bool := s.phase == .running && !s.inReset .orvia

/-! ### The replay buffer and the queues (R375, R376) -/

def PortH.bytes (x : PortH) : Nat := x.unacked.foldl (fun n p => n + p.2.bytes) 0

/-- New frames are held back: 1,024 frames unacknowledged, or no room in 16 KiB. -/
def PortH.full (x : PortH) (f : Frame) : Bool := 1024 ≤ x.unacked.length || 16384 < x.bytes + f.bytes

/-- `OV_RBUF` shows the replay buffer. -/
def State.showRbuf (s : State) (p : Port) : State :=
  (s.setF (Fd.OV_RBUF_BYTES p.idx) (s.port p).bytes).setF (Fd.OV_RBUF_FRAMES p.idx) (s.port p).unacked.length

/-- A frame leaves with the next LSEQ and stays until it is acknowledged. -/
def State.transmit (s : State) (p : Port) (f : Frame) : State :=
  (s.modPort p fun x => { x with unacked := x.unacked ++ [(x.txSeq, f)], txSeq := (x.txSeq + 1) % 65536 }).showRbuf p

/-- Puts a frame behind those of its rank and of the ranks before it; within rank 7, SAFETY goes first
(R376, R408). -/
def insertHeld (key : Nat) (f : Frame) : List (Nat × Frame) → List (Nat × Frame)
  | [] => [(key, f)]
  | (k, g) :: r => if key < k then (key, f) :: (k, g) :: r else (k, g) :: insertHeld key f r

/-- The place of a frame among those held back. -/
def heldKey (f : Frame) : Nat := 2 * f.body.rank + (if f.cls = 1 then 0 else 1)

/-- What a frame of rank 7 is in the admission of R408: REFUSE, WAKE and ASSIGN queue with CONTROL. -/
def waitingOf (f : Frame) : Waiting :=
  match f.body with
  | .sessReq m => { cls := f.cls, sid := m.sid, len := f.bytes }
  | .sessRep m => { cls := f.cls, sid := m.sid, len := f.bytes }
  | _ => { cls := 2, sid := 1024, len := f.bytes }

/-- ns that a frame takes on the line, at 300 MB/s (R205, R364). -/
def sendNs (f : Frame) : Nat := (10 * f.bytes + 2) / 3

/-- SAFETY has room within its share of the interval. -/
def State.safetyRoom (s : State) (used : Nat) : Bool := used < s.getF Fd.SS_ADM_SAFETY_SHARE * 1000

/-- The frame of a port that leaves next, with what it takes of the admission (R376, R408): the ranks in order, and in
rank 7 SAFETY within its share, then the other classes in their turns. -/
def State.nextHeld (s : State) (p : Port) : Option ((Nat × Frame) × Nat × Drr) :=
  let x := s.port p
  let plain := fun (q : Nat × Frame) => (q, 0, x.drr)
  match x.held.find? fun q => q.1 < 14 with
  | some q => some (plain q)
  | none =>
    match (if s.safetyRoom x.safetyUsed then x.held.find? fun q => q.1 == 14 else none) with
    | some q => some (q, sendNs q.2, x.drr)
    | none =>
      let q7 := x.held.filter fun q => q.1 == 15
      match drrNext s.clsWeight (fun sid => (s.sess sid).share) (q7.map fun q => waitingOf q.2) x.drr with
      | some (w, d) => (q7.find? fun q => waitingOf q.2 == w).map fun q => (q, 0, d)
      | none => (x.held.find? fun q => 16 ≤ q.1).map plain

/-- Frames held back leave while there is room; `n` bounds their number. -/
def State.drainHeld (p : Port) : Nat → State → State
  | 0, s => s
  | n + 1, s =>
    match s.nextHeld p with
    | none => if (s.port p).held.isEmpty then s.modPort p fun x => { x with holdTold := false } else s
    | some (q, ns, d) =>
      if (s.port p).full q.2 then s
      else State.drainHeld p n ((s.modPort p fun x =>
        { x with held := x.held.erase q, safetyUsed := x.safetyUsed + ns, drr := d }).transmit p q.2)

/-- A port sends what it holds back, as far as it may. -/
def State.drain (s : State) (p : Port) : State := State.drainHeld p ((s.port p).held.length + 1) s

/-- A frame is queued on a LINKED port at its place: it leaves, or it is held back. -/
def State.queueAt (s : State) (p : Port) (key : Nat) (f : Frame) : State :=
  (s.modPort p fun x => { x with held := insertHeld key f x.held }).drain p

def State.queueOn (s : State) (p : Port) (f : Frame) : State := s.queueAt p (heldKey f) f

/-! ### Broadcast and unicast (R382, R387, R388) -/

/-- The port of the path to a node (R388); EAST when none is known. -/
def State.pathPort (s : State) (n : Nat) : Port :=
  match lookupNat n s.ov.nodes with
  | some i => i.port
  | none => .east

/-- The port that a unicast frame to a node leaves on: that of its path, or the other one while that is
not LINKED (R391). -/
def State.outPort (s : State) (n : Nat) : Option Port :=
  let p := s.pathPort n
  if s.linked p then some p else if s.linked p.other then some p.other else none

/-- Whether a node is reachable (R386). -/
def State.reachable (s : State) (n : Nat) : Bool := n == s.nodeId || (lookupNat n s.ov.nodes).isSome

/-- A frame that the link's revision does not carry is dropped and counted (R382). -/
def State.countDrop (s : State) (p : Port) : State :=
  ((s.incF (Fd.OV_DROP_VERSION p.idx)).onF Fd.OV_EVT_VDROP).raise 40

/-- A frame is put where the node itself takes it up. -/
def State.toSelf (s : State) (f : Frame) : State := { s with ov := { s.ov with inbox := s.ov.inbox ++ [(none, f)] } }

/-- The REFUSE that answers a dropped frame goes to its origin; an unnumbered node originates none (R384). -/
def State.sendRefuse (s : State) (dst oseq : Nat) (lane : Option Nat) : State :=
  let f : Frame := { dest := dst * 2 ^ 42, src := s.nodeId, oseq := s.ov.oseq, cls := 0, body := .refuse oseq lane }
  if dst = s.nodeId then s.toSelf f
  else if !s.numbered then s
  else
    let s := { s with ov := { s.ov with oseq := (s.ov.oseq + 1) % 65536 } }
    match s.outPort dst with
    | some p => s.queueOn p f
    | none => s

/-- A frame leaves on a port whose link carries its type, at a place among the frames held back, or is dropped there
(R382). -/
def State.sendAt (s : State) (key : Nat) (f : Frame) (p : Port) : State :=
  if s.getF (Fd.OV_PSTAT_REV p.idx) < f.body.rev then
    let s := s.countDrop p
    if f.broadcast then s else s.sendRefuse f.src f.oseq none
  else s.queueAt p key f

def State.sendOn (s : State) (f : Frame) (p : Port) : State := s.sendAt (heldKey f) f p

/-- A frame sets out: a broadcast on each LINKED port, a unicast on its path; one to a node that cannot
be reached is discarded (R387, R388). -/
def State.route (s : State) (f : Frame) : State :=
  if f.broadcast then State.each (fun p s => s.sendOn f p) s.linkedPorts s
  else if f.node = s.nodeId then s.toSelf f
  else if !s.reachable f.node then s
  else match s.outPort f.node with
    | some p => s.sendOn f p
    | none => s

/-- The node originates a frame (R370): its OSEQ is the next one. An unnumbered node originates nothing
but PRESENCE (R384). -/
def State.originate (s : State) (dest cls : Nat) (b : Body) : State :=
  let isPresence := match b with
    | .presence _ => true
    | _ => false
  if !s.ovLive || (!s.numbered && !isPresence) then s
  else
    let f : Frame := { dest := dest, src := s.nodeId, oseq := s.ov.oseq, cls := cls, body := b }
    { s with ov := { s.ov with oseq := (s.ov.oseq + 1) % 65536 } }.route f

/-- The station address of a node's local address 0. -/
def nodeBase (n : Nat) : Nat := n * 2 ^ 42

/-! ### Topology (R386, R389, R393) -/

/-- The mode of R389. -/
def State.topoMode (s : State) : Nat :=
  if s.linkedPorts.isEmpty then 0
  else if s.linkedPorts.length = 2 ∧ s.ov.nodes.all (fun p => p.2.eastSt == 2 && p.2.westSt == 2) = true then 2
  else 1

/-- `OV_TOPO` follows the ports and the reachable nodes. -/
def State.topoUpdate (s : State) : State :=
  let m := s.topoMode
  let n := s.ov.nodes.length + 1
  let changed := m != s.getF Fd.OV_TOPO_MODE || n != s.getF Fd.OV_TOPO_NODES
  let s := (s.setF Fd.OV_TOPO_MODE m).setF Fd.OV_TOPO_NODES n
  let s := if changed then s.onF Fd.OV_EVT_TOPO else s
  if m = 2 then { s.offF Fd.OV_TOPO_SEGMENTED with ov := { s.ov with ringTold := false } }
  else if m = 0 then { s with ov := { s.ov with ringTold := false } }
  else s

/-- The node's serial number (R380, R550). -/
def State.serial (s : State) : DWord := s.otp.serial

/-- PRESENCE as this node sends it (R386). -/
def State.presence (s : State) : Body :=
  .presence { node := s.nodeId, serial := s.serial, rev := 2, eastSt := s.portSt .east, westSt := s.portSt .west
              eastDelay := s.getF (Fd.OV_DELAY_DELAY 0), westDelay := s.getF (Fd.OV_DELAY_DELAY 1)
              volume := s.getF Fd.MANI_VOLUME_BYTES }

def State.sendPresence (s : State) : State := s.originate (nodeBase 0x3FF) 0 s.presence

/-- The lowest revision that a reachable node offers (R383). -/
def State.lowestRev (s : State) : Nat := s.ov.nodes.foldl (fun r p => min r p.2.rev) 2

/-- The other nodes that trained links lead to (R199, R393): of the reachable ones, those that no loss has cut
off. -/
def State.joined (s : State) : List (Nat × NodeInfo) := s.ov.nodes.filter fun p => !p.2.cut

/-- Nodes are cut off. -/
def State.cutOff (s : State) (p : Nat × NodeInfo → Bool) : State :=
  { s with ov := { s.ov with nodes := s.ov.nodes.map fun x => if p x then (x.1, { x.2 with cut := true }) else x } }

/-- Whether this is the node with the lowest ID (R199, R202): in holdover the master is lost and does not count. -/
def State.lowestId (s : State) : Bool :=
  s.numbered && s.joined.all fun p =>
    s.nodeId ≤ p.1 || (s.isF Fd.TT_STAT_HOLDOVER && p.1 == s.getF Fd.TT_MASTER_MASTER_ID)

/-! ### Bound and close offset (R205 to R208) -/

/-- The hops h of R205. -/
def State.hops (s : State) : Nat :=
  let n := s.joined.length + 1
  if s.topoMode = 2 then n / 2 else n - 1

/-- t_hop in units of 0.1 ns: the largest measured delay and 120 ns. -/
def State.hopTime (s : State) : Nat :=
  s.joined.foldl (fun d p => max d p.2.delay)
    (max (s.getF (Fd.OV_DELAY_DELAY 0)) (s.getF (Fd.OV_DELAY_DELAY 1))) + 1200

/-- V of R205. -/
def State.volume (s : State) : Nat := s.joined.foldl (fun v p => v + p.2.volume) (s.getF Fd.MANI_VOLUME_BYTES)

/-- max(h x t_hop, V / 300 MB/s) in µs, rounded up. -/
def State.spanUs (s : State) : Nat := (max (3 * s.hops * s.hopTime) (100 * s.volume) + 29999) / 30000

/-- The bound of R205 in µs, rounded up. -/
def State.boundUs (s : State) : Nat := 2 + s.spanUs

/-- The announced period T in µs. -/
def State.period (s : State) : Nat := s.getF Fd.TT_PERIOD_ACT_PERIOD

/-- The period that the master has announced: the pending one, or the one in force (R207). -/
def State.announced (s : State) : Nat := (s.tt.pend.map (·.1)).getD s.period

/-- `TT_PERIOD` is held against the announced period (R207). -/
def State.checkMismatch (s : State) : State :=
  if s.announced = 0 ∨ s.getF Fd.TT_PERIOD_PERIOD = s.announced then s.offF Fd.TT_STAT_PERIOD_MISMATCH
  else if s.isF Fd.TT_STAT_PERIOD_MISMATCH then s
  else (s.onF Fd.TT_STAT_PERIOD_MISMATCH).raise 52

/-- The master announces C (R208). -/
def State.setClose (s : State) : State :=
  let c := s.spanUs
  let cap := s.period - 2
  if cap < c then (s.setF Fd.TT_CLOSE_C cap).onF Fd.TT_CLOSE_CAPPED
  else (s.setF Fd.TT_CLOSE_C c).offF Fd.TT_CLOSE_CAPPED

/-- The first multiple of 1,024 at least 64 departures after the announcement, the next departure being the
first of them (R207). -/
def State.changeEpoch (s : State) : Nat := (s.tt.nextE + 63 + 1023) / 1024 * 1024

/-- The master judges its period request (R206, R207). -/
def State.judgePeriod (s : State) : State :=
  let want := s.getF Fd.TT_PERIOD_PERIOD
  if want = s.period ∨ s.tt.pend.isSome = true then s
  else if want < s.boundUs then s.onF Fd.TT_STAT_CHG_REFUSED
  else
    let e := s.changeEpoch
    { (s.onF Fd.TT_STAT_CHG_PENDING).setF Fd.TT_CHG_EPOCH_EPOCH e with tt := { s.tt with pend := some (want, e) } }

/-- One computation of the bound (R206): the node's own registers, the violation, and at the master C and
the judgement of a request. -/
def State.computeBound (s : State) : State :=
  if !s.isF Fd.TT_STAT_LOCKED then s
  else
    let s := s.setF Fd.TT_BOUND_BOUND s.boundUs
    let s := (s.setF Fd.TT_TOPO_H s.hops).setF Fd.TT_TOPO_RING (b2n (s.topoMode == 2))
    let s := (s.setF Fd.TT_TOPO_HOP_NS (s.hopTime / 10)).setF Fd.TT_VOLUME_V s.volume
    let s := if s.isF Fd.TT_STAT_MASTER then s.setClose.judgePeriod.checkMismatch else s
    if s.period < s.boundUs then (s.onF Fd.TT_STAT_BOUND_VIOL).raise 49 else s.offF Fd.TT_STAT_BOUND_VIOL

/-! ### Loss of the master and of lock (R202 to R204) -/

/-- Holdover is entered (R202, R203): a slew in progress ends where it stands. `TT_MASTER.MASTER_ID` keeps the lost
master until another takes office: DESIGN CHOICE (log 107). -/
def State.enterHoldover (s : State) : State :=
  if s.isF Fd.TT_STAT_LOCKED && !s.isF Fd.TT_STAT_MASTER && !s.isF Fd.TT_STAT_HOLDOVER then
    ({ (s.onF Fd.TT_STAT_HOLDOVER).offF Fd.TT_STAT_SLEWING with tt := { s.tt with slew := 0 } }).raise 48
  else s

/-- A locked node becomes unlocked (R204): it follows no master and has no departures. -/
def State.loseLock (s : State) : State :=
  if s.isF Fd.TT_STAT_LOCKED then
    let s := ((s.offF Fd.TT_STAT_LOCKED).offF Fd.TT_STAT_MASTER).offF Fd.TT_STAT_HOLDOVER
    let s := ((s.offF Fd.TT_STAT_SLEWING).offF Fd.TT_STAT_CHG_PENDING).setF Fd.TT_MASTER_MASTER_ID 0x3FF
    let s := { s with tt := { s.tt with slew := 0, okFrames := 0, wasLocked := true, heard := false, pend := none, started := false } }
    (s.incF Fd.TT_CNT_LOCK_LOSS).raise 51
  else s

/-- The reachable nodes or their links have changed: the paths, the bound, and the master where it can no
longer be reached. -/
def State.topologyChanged (s : State) : State :=
  let s := s.topoUpdate.computeBound
  let id := s.getF Fd.TT_MASTER_MASTER_ID
  if id = s.nodeId ∨ s.joined.any (fun p => p.1 == id) = true then s else s.enterHoldover

/-- A change of a port's state changes the topology (R206) and sends TOPOLOGY and PRESENCE (R386, R389). -/
def State.portChanged (s : State) (p : Port) : State :=
  let s := s.topologyChanged
  (s.originate (nodeBase 0x3FF) 0 (.topology s.nodeId p (s.portSt p) [])).sendPresence

/-- A port that is not LINKED, and will not be, changes its state. -/
def State.putPort (s : State) (p : Port) (st : Nat) : State :=
  if s.portSt p = st then s else (s.setF (Fd.OV_PSTAT_STATE p.idx) st).portChanged p

/-- A time frame as the master sends it (R199). -/
def State.sendTime (s : State) : State :=
  s.originate (nodeBase 0x3FF) 0 (.time
    { time := s.tt.clk, master := s.nodeId, period := s.period, pend := s.tt.pend, close := s.getF Fd.TT_CLOSE_C
      rev := s.lowestRev, fmt := if s.lowestRev = 2 then 2 else 1, anchorE := s.tt.anchorE, anchorT := s.tt.anchorT })

/-- The time of departure `e` (R209). -/
def State.depTime (s : State) (e : Nat) : Nat := s.tt.anchorT + (e - s.tt.anchorE) * s.period * 1000

/-- The time of the next departure, and its commit deadline (R210). -/
def State.nextDep (s : State) : Nat := s.depTime s.tt.nextE
def State.deadline (s : State) : Nat := s.nextDep - 2000

end Sys2Proof.Machine
end

