-- ==== Sys2Proof/Machine/Props.lean ====
section
/-! DEFINITION. Proposals and what moves between them: retraction events (R235), the cascade (R231),
finality (R229), withdrawal. -/

namespace Sys2Proof.Machine

def State.prop (s : State) (c : Fin 16) : Proposal := vget s.mani.props c
def State.setProp (s : State) (c : Fin 16) (p : Proposal) : State :=
  { s with mani := { s.mani with props := vset s.mani.props c p } }

/-- The task that owns a channel (R128), and its triad. -/
def State.chTask (s : State) (c : Fin 16) : Option Task := s.tasks.find? fun t => t.channels.getLsbD c.val
def State.chTriad (s : State) (c : Fin 16) : Option Triad := (s.chTask c).map Task.triadOf

/-- `MANI_REVT_A` and `MANI_REVT_B` show the oldest record. -/
def State.setRevt (s : State) (t : Triad) (l : List Word) : State :=
  match t with
  | .a => { s with mani := { s.mani with revtA := l } }.setR Rg.MANI_REVT_A (l.headD 0)
  | .b => { s with mani := { s.mani with revtB := l } }.setR Rg.MANI_REVT_B (l.headD 0)

def State.revts (s : State) (t : Triad) : List Word :=
  match t with
  | .a => s.mani.revtA
  | .b => s.mani.revtB

/-- A retraction event is queued for the owner's triad; one that finds 16 records is lost (R235). -/
def State.revt (s : State) (c : Fin 16) (reason depth node chan : Nat) : State :=
  match s.chTriad c with
  | none => s
  | some t =>
    let w := BitVec.ofNat 32 (c.val + reason * 2 ^ 4 + min depth 15 * 2 ^ 8 + node % 1024 * 2 ^ 12 + chan % 16 * 2 ^ 22 + s.tt.epoch % 64 * 2 ^ 26)
    if (s.revts t).length < 16 then s.setRevt t (s.revts t ++ [w])
    else
      let s := match t with
        | .a => s.onF Fd.MANI_REVT_CTRL_OVF_A
        | .b => s.onF Fd.MANI_REVT_CTRL_OVF_B
      s.raise 60

/-- A read of a retraction event register removes the record that it returns (R242). -/
def State.revtRead (s : State) (t : Triad) : Word × State := ((s.revts t).headD 0, s.setRevt t (s.revts t).tail)

/-- One origin sequence number comes after another (R370). -/
def oseqAfter (a b : Nat) : Bool := (a + 65536 - b) % 65536 < 32768 && a != b

/-- A peeked proposal is the one that a notice is about: of that producer and, where the notice has crossed the
station with a sequence number `q`, peeked by a reply that the producer sent before it (R169). -/
def Dep.hit (node chan : Nat) (q : Option Nat) (d : Dep) : Bool :=
  d.node == node && d.chan == chan && (match q with
    | some q => oseqAfter q d.seq
    | none => true)

/-- A producer's proposal is no longer live, so that no later PROPOSE depends on it (R165). -/
def State.dropPeeked (s : State) (node chan : Nat) (q : Option Nat) : State :=
  { s with mani := { s.mani with peeked := s.mani.peeked.map fun l => l.filter fun d => !d.hit node chan q } }

/-- A notice to a consumer on another node (R231). -/
def State.sendNotice (s : State) (dst : Nat) (m : NoticeMsg) : State := s.originate (nodeBase dst) 0 (.notice m)

/-- Whether a channel's proposal depends on a producer and can still change by it. -/
def State.depends (s : State) (node chan : Nat) (q : Option Nat) (c : Fin 16) : Bool :=
  let p := s.prop c
  p.deps.any (fun d => d.hit node chan q) && (p.state == .proposed || p.state == .conditional)

/-- The cascade (R231): every proposal of this node that depends on the withdrawn one becomes RETRACTED,
its event is queued, and its own consumers are told; one that the cascade has reached on another way is left. `fuel` bounds the
length of a chain within the node. -/
def State.retractDeps : Nat → Nat → Nat → Option Nat → Nat → Nat → State → State
  | 0, _, _, _, _, _, s => s
  | f + 1, node, chan, q, on_, oc, s =>
    State.each (fun c s =>
      if !s.depends node chan q c then s
      else
        let p := s.prop c
        let s := s.setProp c { p with state := .retracted, deps := [], cons := [] }
        let s := s.revt c 1 p.depth on_ oc
        State.each (fun n s =>
          if n = s.nodeId then State.retractDeps f s.nodeId c.val none on_ oc s
          else s.sendNotice n { final := false, chan := c.val, epoch := s.tt.nextE, origNode := on_, origChan := oc }) p.cons s)
      all16 (s.dropPeeked node chan q)

/-- The chain within one node is at most as long as it has channels. -/
def cascadeFuel : Nat := 17

/-- A proposal's consumers learn that it is withdrawn (R231). -/
def State.tellRetract (s : State) (c : Fin 16) (cons : List Nat) : State :=
  State.each (fun n s =>
    if n = s.nodeId then State.retractDeps cascadeFuel s.nodeId c.val none s.nodeId c.val s
    else s.sendNotice n { final := false, chan := c.val, epoch := s.tt.nextE, origNode := s.nodeId, origChan := c.val })
    cons (s.dropPeeked s.nodeId c.val none)

/-- A producer has become final (R229, R231): proposals that depend on it no longer do, and a CONDITIONAL
one without a further producer becomes FINAL and tells its own consumers. -/
def State.finalDeps : Nat → Nat → Nat → Option Nat → State → State
  | 0, _, _, _, s => s
  | f + 1, node, chan, q, s =>
    State.each (fun c s =>
      let p := s.prop c
      let deps := p.deps.filter fun d => !d.hit node chan q
      if p.state = .conditional ∧ deps.isEmpty = true then
        let s := s.setProp c { p with state := .final, deps := [], cons := [] }
        State.each (fun n s =>
          if n = s.nodeId then State.finalDeps f s.nodeId c.val none s
          else s.sendNotice n { final := true, chan := c.val, epoch := s.tt.nextE, origNode := s.nodeId, origChan := c.val }) p.cons s
      else s.setProp c { p with deps := deps })
      (all16.filter (s.depends node chan q)) (s.dropPeeked node chan q)

/-- A proposal becomes FINAL and its consumers are told (R231). -/
def State.finalize (s : State) (c : Fin 16) : State :=
  let p := s.prop c
  let s := (s.setProp c { p with state := .final, deps := [], cons := [] }).dropPeeked s.nodeId c.val none
  State.each (fun n s =>
    if n = s.nodeId then State.finalDeps cascadeFuel s.nodeId c.val none s
    else s.sendNotice n { final := true, chan := c.val, epoch := s.tt.nextE, origNode := s.nodeId, origChan := c.val }) p.cons s

/-- Whether a proposal is live: neither committed nor retracted (R165). -/
def Proposal.live (p : Proposal) : Bool := p.state == .proposed || p.state == .doubt

/-- A live proposal, or a CONDITIONAL commit, is withdrawn with the cascade: its channel is as though it
had never been proposed (R52, R203, R238). -/
def State.withdraw (c : Fin 16) (s : State) : State :=
  let p := s.prop c
  if p.live || p.state == .conditional then (s.setProp c {}).tellRetract c p.cons else s

/-- Every live proposal of the node is withdrawn with the cascade. -/
def State.withdrawAll (s : State) : State := State.each State.withdraw all16 s

/-- A triad's live proposals are withdrawn with the cascade (R238). -/
def State.withdrawTriad (s : State) (t : Triad) : State :=
  State.each State.withdraw (all16.filter fun c => s.chTriad c == some t) s

/-- Every channel starts the epoch with no proposal (R229). -/
def State.newProposals (s : State) : State :=
  { s with mani := { s.mani with
      props := Vector.replicate 16 {}, peeked := Vector.replicate 4 [], notices := [], resolved := false
      apply := Vector.replicate 16 none, missed := Vector.replicate 16 false } }

end Sys2Proof.Machine
end

