-- ==== Sys2Proof/Machine/Sha.lean ====
section
/-! DEFINITION. SHA-256 and HMAC-SHA-256, the functions of FIPS 180-4 and FIPS 198-1 that R403 names
(PRESUMED: the standards' text is not in the spec). -/

namespace Sys2Proof.Machine

/-- The largest x with x^k at most `n` that extends `x` in its lowest bits, bit by bit. -/
def rootBits (k n : Nat) : Nat → Nat → Nat
  | 0, x => x
  | b + 1, x => rootBits k n b (if (x + 2 ^ b) ^ k ≤ n then x + 2 ^ b else x)

/-- The first 32 bits of the fraction of the k-th root of `p`; the root of the numbers used here lies below
16. -/
def fracRoot (k p : Nat) : Word := BitVec.ofNat 32 (rootBits k (p * 2 ^ (32 * k)) 36 0)

/-- The first 64 primes: below 312, a number with no smaller divisor up to 17 is one. -/
def shaPrimes : List Nat :=
  (List.range 312).filter fun n => 2 ≤ n && [2, 3, 5, 7, 11, 13, 17].all fun d => n == d || n % d != 0

/-- The round constants: the cube roots of the first 64 primes. -/
def shaKs : List Word := shaPrimes.map (fracRoot 3)

/-- The eight working words. -/
structure ShaH where
  a : Word
  b : Word
  c : Word
  d : Word
  e : Word
  f : Word
  g : Word
  h : Word
deriving DecidableEq, Repr

/-- The initial value: the square roots of the first eight primes. -/
def shaInit : ShaH :=
  let r := fracRoot 2
  ⟨r 2, r 3, r 5, r 7, r 11, r 13, r 17, r 19⟩

def shaRound (x : ShaH) (kw : Word × Word) : ShaH :=
  let s1 := x.e.rotateRight 6 ^^^ x.e.rotateRight 11 ^^^ x.e.rotateRight 25
  let ch := (x.e &&& x.f) ^^^ (~~~x.e &&& x.g)
  let t1 := x.h + s1 + ch + kw.1 + kw.2
  let s0 := x.a.rotateRight 2 ^^^ x.a.rotateRight 13 ^^^ x.a.rotateRight 22
  let maj := (x.a &&& x.b) ^^^ (x.a &&& x.c) ^^^ (x.b &&& x.c)
  ⟨t1 + (s0 + maj), x.a, x.b, x.c, x.d + t1, x.e, x.f, x.g⟩

/-- The message schedule, newest word first, extended by `n` words. -/
def shaExtend : Nat → List Word → List Word
  | 0, w => w
  | n + 1, w =>
    let w2 := w.getD 1 0
    let w7 := w.getD 6 0
    let w15 := w.getD 14 0
    let w16 := w.getD 15 0
    let s0 := w15.rotateRight 7 ^^^ w15.rotateRight 18 ^^^ (w15 >>> 3)
    let s1 := w2.rotateRight 17 ^^^ w2.rotateRight 19 ^^^ (w2 >>> 10)
    shaExtend n ((w16 + s0 + w7 + s1) :: w)

/-- One block of 16 words, first word first. -/
def shaBlock (x : ShaH) (w : List Word) : ShaH :=
  let y := (shaKs.zip (shaExtend 48 w.reverse).reverse).foldl shaRound x
  ⟨x.a + y.a, x.b + y.b, x.c + y.c, x.d + y.d, x.e + y.e, x.f + y.f, x.g + y.g, x.h + y.h⟩

/-- A big-endian word of four bytes. -/
def beWord (bs : List Byte) : Word := bs.foldl (fun w b => (w <<< 8) ||| b.setWidth 32) 0

/-- The `n` bytes of a value, most significant first. -/
def beBytes (v : Nat) (n : Nat) : List Byte := (List.range n).map fun i => BitVec.ofNat 8 (v >>> (8 * (n - 1 - i)))

/-- The value of a list of bytes, most significant first. -/
def beNat (bs : List Byte) : Nat := bs.foldl (fun n b => n * 256 + b.toNat) 0

/-- `n` blocks of 64 bytes. -/
def shaBlocks : Nat → ShaH → List Byte → ShaH
  | 0, x, _ => x
  | n + 1, x, bs => shaBlocks n (shaBlock x ((List.range 16).map fun i => beWord ((bs.drop (4 * i)).take 4))) (bs.drop 64)

/-- The message with its padding: a 1 bit, zeros, the length in bits. -/
def shaPad (bs : List Byte) : List Byte :=
  let n := bs.length
  bs ++ [0x80] ++ List.replicate ((119 - n % 64) % 64) 0 ++ beBytes (8 * n) 8

/-- SHA-256 of a message: 32 bytes. -/
def sha256 (bs : List Byte) : List Byte :=
  let m := shaPad bs
  let x := shaBlocks (m.length / 64) shaInit m
  [x.a, x.b, x.c, x.d, x.e, x.f, x.g, x.h].flatMap fun w => beBytes w.toNat 4

/-- HMAC-SHA-256 with a key of at most 64 bytes. -/
def hmac (key msg : List Byte) : List Byte :=
  let k := key ++ List.replicate (64 - key.length) 0
  sha256 (k.map (· ^^^ 0x5C) ++ sha256 (k.map (· ^^^ 0x36) ++ msg))

end Sys2Proof.Machine
end

