-- ==== Sys2Proof/Machine/Orvia.lean ====
section
/-! DEFINITION. The link layer (12_orvia_link.md): training, bursts, acknowledgement and replay, loss of
a link and the points, reachability, node numbers. -/

namespace Sys2Proof.Machine

/-! ### Delivered frames -/

/-- Takes the first thing of a list that `p` picks. -/
def takeFirst {α : Type} (p : α → Bool) : List α → Option (α × List α)
  | [] => none
  | x :: r => if p x then some (x, r) else (takeFirst p r).map fun q => (q.1, x :: q.2)

/-- The oldest delivered frame of a type. -/
def State.takeFrame (s : State) (type : Nat) : Option ((Option Port × Frame) × State) :=
  (takeFirst (fun x : Option Port × Frame => x.2.body.type == type) s.ov.inbox).map fun q =>
    (q.1, { s with ov := { s.ov with inbox := q.2 } })

/-! ### Control words (R366, R367) -/

/-- Three data bytes after a K group. -/
def kWord (x : Fin 32) (y : Fin 8) (a b c : Byte) : KWord := { x := x, y := y, data := a ++ b ++ c }

def bubbleWord : KWord := kWord 28 5 0xB5 0xB5 0xB5
def trainWord (d : BitVec 24) : KWord := { x := 28, y := 1, data := d }
def sofWord (type flags : Nat) : KWord := kWord 27 7 (BitVec.ofNat 8 type) (BitVec.ofNat 8 flags) 0
def eofWord : KWord := kWord 29 7 0 0 0
def abortWord : KWord := kWord 30 7 0 0 0

/-- The CRC-8 of the two data bytes of an ACK, NACK or MARK. -/
def controlCrc (v : Nat) : Byte :=
  BitVec.ofNat 8 (crcBytes .crc8 Poly.crc8.init [BitVec.ofNat 8 (v / 256), BitVec.ofNat 8 v] ^^^ Poly.crc8.final)

/-- The word of an ACK, NACK or MARK: 16 bits and their CRC-8. -/
def checkedWord (y : Fin 8) (v : Nat) (crc : Byte) : KWord := kWord 28 y (BitVec.ofNat 8 (v / 256)) (BitVec.ofNat 8 v) crc
def ackWord (k : Nat) : KWord := checkedWord 0 k (controlCrc k)
def nackWord (k : Nat) : KWord := checkedWord 2 k (controlCrc k)
def markWord (k : Nat) : KWord := checkedWord 4 k (controlCrc k)

/-- The 16 bits of a word of three data bytes. -/
def kVal (w : KWord) : Nat := (w.data.extractLsb' 8 16).toNat

/-- The K groups of R366, and, for ACK, NACK and MARK, the CRC-8: a word that a receiver does not discard (R367). -/
def kValid (w : KWord) : Bool :=
  if w.x = 28 then
    if w.y = 0 ∨ w.y = 2 ∨ w.y = 4 then w == checkedWord w.y (kVal w) (controlCrc (kVal w)) else w.y == 1 || w.y == 3 || w.y == 5
  else (w.x == 27 || w.x == 29 || w.x == 30) && w.y == 7

/-- A discarded word is counted (R367). -/
def State.badWord (s : State) (p : Port) : State := s.incF (Fd.OV_ERR_CODE p.idx)

/-! ### Loss of a link (R390, R391, R393) -/

/-- The ports of reachable nodes, this one included, that are not LINKED. -/
def State.downPorts (s : State) : Nat :=
  (2 - s.linkedPorts.length) + s.ov.nodes.foldl (fun n p => n + b2n (p.2.eastSt != 2) + b2n (p.2.westSt != 2)) 0

def State.segment (s : State) : State := (s.onF Fd.OV_TOPO_SEGMENTED).raise 35

/-- A LINKED port declares its link lost (R390). With the two ends of one cable down the ring is broken and
the points will close; with more, the station splits: the nodes beyond the port are cut off (R391, R393). A master
whose path is lost counts as lost (R202). -/
def State.linkLoss (s : State) (p : Port) (c : LossCause) : State :=
  if !s.linked p then s
  else
    let times := s.now :: (s.port p).lossTimes.filter fun t => s.now - t ≤ 1000000000
    let damped := 3 ≤ times.length
    let wasLine := s.getF Fd.OV_TOPO_MODE == 1
    let s := (s.setF (Fd.OV_PSTAT_LOSS p.idx) c.num).incF (Fd.OV_LOSS_LOSSES p.idx)
    let s := s.setF (Fd.OV_PSTAT_STATE p.idx) (if damped then 4 else 0)
    let s := s.onF (match p with
      | .east => Fd.OV_EVT_E_DOWN
      | .west => Fd.OV_EVT_W_DOWN)
    let ring := s.downPorts ≤ 2 && s.linked p.other
    let s := s.modPort p fun x =>
      { txSeq := x.txSeq, unacked := if ring then x.unacked else [], held := if ring then x.held else []
        lossTimes := if damped then [] else times, toClose := ring }
    let s := s.showRbuf p
    let viaLost := s.pathPort (s.getF Fd.TT_MASTER_MASTER_ID) == p
    let s := s.raise (if p = .east then 32 else 33)
    let s := if damped then s.raise 37 else s
    let s := if wasLine && !ring then s.segment else s
    let s := if ring then s else s.cutOff fun x => x.2.port == p
    let s := if viaLost || s.linkedPorts.isEmpty then s.enterHoldover else s
    s.portChanged p

/-- The points close on a lost port (R391): the frames of its replay buffer go to the other port at rank 4, those held
back at theirs. -/
def State.closePoints (s : State) (p : Port) : State :=
  let frames := (s.port p).unacked.map (fun f => (8, f.2)) ++ (s.port p).held
  let s := s.modPort p fun x => { x with unacked := [], held := [], toClose := false }
  let s := s.showRbuf p
  let s := State.each (fun f s => s.sendAt f.1 f.2 p.other) frames s
  let s := s.onF (match p with
    | .east => Fd.OV_TOPO_POINTS_E
    | .west => Fd.OV_TOPO_POINTS_W)
  ((s.onF Fd.OV_EVT_POINTS).raise 34).originate (nodeBase 0x3FF) 0 (.topology s.nodeId p (s.portSt p) [])

/-! ### Replay (R374, R375) -/

/-- Frames after LSEQ `k` of a port's replay buffer are sent again; the eighth replay without progress
loses the link. -/
def State.replay (s : State) (p : Port) (frames : Nat) : State :=
  let s := s.addF (Fd.OV_REPLAY_REPLAYS p.idx) frames
  let n := (s.port p).replays + 1
  let s := s.modPort p fun x => { x with replays := n }
  if 8 ≤ n then s.linkLoss p .replay else s

/-- Drops the frames up to LSEQ `k`, where that one is unacknowledged. -/
def ackList (k : Nat) (l : List (Nat × Frame)) : List (Nat × Frame) :=
  if l.any (fun x => x.1 == k) then (l.dropWhile fun x => x.1 != k).tail else l

def State.ack (s : State) (p : Port) (k : Nat) : State :=
  let l := ackList k (s.port p).unacked
  if l.length = (s.port p).unacked.length then s
  else
    let s := (s.modPort p fun x => { x with unacked := l, replays := 0 }).showRbuf p
    s.drain p

def State.nack (s : State) (p : Port) (k : Nat) : State :=
  let s := s.incF (Fd.OV_REPLAY_NACKS p.idx)
  let l := ackList k (s.port p).unacked
  if l.isEmpty then s else s.replay p l.length

/-! ### Bursts (R372, R374, R387, R388) -/

/-- A NACK leaves with the LSEQ of the last frame accepted in order. -/
def State.sendNack (s : State) (p : Port) : State :=
  s.modPort p fun x => { x with nackOut := some (nackWord ((x.rxNext + 65535) % 65536)) }

/-- A burst fails (R372, R396). -/
def State.badBurst (s : State) (p : Port) : State :=
  let times := s.now :: (s.port p).badTimes.filter fun t => s.now - t ≤ 1000000
  let s := (s.incF (Fd.OV_ERR_CRC p.idx)).modPort p fun x => { x with badTimes := times }
  let s := s.sendNack p
  if 16 < times.length then s.raise 36 else s

/-- A burst of a pair without its other half is discarded (R372). -/
def State.orphan (s : State) (p : Port) : State :=
  ((s.incF (Fd.OV_DROP_ORPHAN p.idx)).modPort p fun x => { x with burst0 := none }).sendNack p

/-- FLAGS of a burst (R370). -/
def burstFlags (b : Burst) : Nat := 128 * b2n b.second + 64 * b2n b.pair + 8 * (b.frame.cls % 8)

/-- The bytes that CHECK covers: the data bytes of the SOF word, the header from byte 4, the payload and its padding
(R370, R371). -/
def burstCovered (b : Burst) : List Byte :=
  beBytes (sofWord b.frame.body.type (burstFlags b)).data.toNat 3 ++ beBytes (b.lseq % 65536) 2 ++ beBytes b.len 2
    ++ beBytes (b.frame.dest % 2 ^ 52) 8 ++ beBytes (b.frame.src % 1024) 2 ++ beBytes (b.frame.oseq % 65536) 2 ++ b.bytes

/-- CHECK of a burst: its fold has DEST as the address and {BURST, LSEQ} as the sequence (R371). -/
def burstSum (b : Burst) : Word :=
  BitVec.ofNat 32 (crcFold .crc32c (b.frame.dest % 2 ^ 52) (65536 * b2n b.second + b.lseq % 65536) (burstCovered b))

/-- The padding is zero and fills the payload up to a multiple of 4. -/
def burstPadOk (b : Burst) : Bool := b.bytes.length == (b.len + 3) / 4 * 4 && (b.bytes.drop b.len).all (· == 0)

/-- Whether a burst is accepted (R372). -/
def burstAccepted (b : Burst) : Bool :=
  b.check == burstSum b && b.len ≤ 512 && (!(b.pair && !b.second) || b.len == 512) && burstPadOk b && b.codeErrs == 0 && b.last == eofWord

/-- A copy of a frame that has been accepted within the last 2 ms; the list keeps no older one. -/
def State.seenFrame (s : State) (f : Frame) : Bool :=
  s.ov.recent.any fun r => r.1 == f.src && r.2.1 == f.oseq && s.now - r.2.2 ≤ 2000000

def State.noteFrame (s : State) (f : Frame) : State :=
  { s with ov := { s.ov with
      recent := (f.src, f.oseq, s.now) :: s.ov.recent.filter fun r => s.now - r.2.2 ≤ 2000000 } }

/-- A frame as the node sends it on: a time frame carries the station time at its new reference symbol (R199). -/
def State.onward (s : State) (p : Port) (f : Frame) : Frame :=
  match f.body with
  | .time m => { f with body := .time { m with time := m.time + s.getF (Fd.OV_DELAY_DELAY p.idx) / 10 } }
  | _ => f

/-- A frame accepted on a port is delivered, forwarded or discarded (R387, R388). -/
def State.receiveFrame (s : State) (p : Port) (f : Frame) : State :=
  match f.body with
  | .other _ => s.incF (Fd.OV_DROP_TYPE p.idx)
  | .link => s
  | _ =>
    if f.broadcast then
      if (s.numbered && f.src == s.nodeId) || s.seenFrame f then s.incF Fd.OV_CNT_DUP_COUNT
      else
        let s := s.noteFrame f
        let s := if s.linked p.other then s.sendOn (s.onward p f) p.other else s
        { s with ov := { s.ov with inbox := s.ov.inbox ++ [(some p, f)] } }
    else if s.numbered && f.node == s.nodeId then
      if s.seenFrame f then s.incF Fd.OV_CNT_DUP_COUNT
      else
        let s := s.noteFrame f
        { s with ov := { s.ov with inbox := s.ov.inbox ++ [(some p, f)] } }
    else if s.linked p.other then s.sendOn f p.other
    else if s.isF (match p.other with
      | .east => Fd.OV_TOPO_POINTS_E
      | .west => Fd.OV_TOPO_POINTS_W) then s.sendOn f p
    else s

/-- A whole frame with its LSEQ reaches the receiver (R374). -/
def State.receiveSeq (s : State) (p : Port) (k : Nat) (f : Frame) : State :=
  let next := (s.port p).rxNext
  if k = next then
    let s := s.modPort p fun x => { x with rxNext := (next + 1) % 65536, ackOut := some (ackWord k), nackOut := none }
    s.receiveFrame p f
  else if (next + 65536 - k) % 65536 ≤ 32768 then s.modPort p fun x => { x with ackOut := some (ackWord k) }
  else s.sendNack p

/-- A burst arrives (R372, R374). -/
def State.receiveBurst (s : State) (p : Port) (b : Burst) : State :=
  let s := s.addF (Fd.OV_ERR_CODE p.idx) b.codeErrs
  let held := (s.port p).burst0
  if b.elastic then ((s.incF (Fd.OV_ERR_ELASTIC p.idx)).modPort p fun x => { x with burst0 := none }).sendNack p
  else if !burstAccepted b then
    let s := s.badBurst p
    if held.isSome then s.orphan p else s
  else if b.pair then
    if b.second then
      if held = some b.lseq then (s.modPort p fun x => { x with burst0 := none }).receiveSeq p b.lseq b.frame
      else s.orphan p
    else if held.isSome then s.orphan p
    else s.modPort p fun x => { x with burst0 := some b.lseq }
  else if held.isSome then s.orphan p
  else s.receiveSeq p b.lseq b.frame

/-! ### Training (R380) -/

/-- A port enters FAILED (R380, R396). -/
def State.trainFail (s : State) (p : Port) (cause : Nat) : State :=
  (((s.setF (Fd.OV_PSTAT_FAIL p.idx) cause).modPort p fun x => { x with exchanged := false }).putPort p 3).raise 37

/-- The highest revision that both ends offer; the module offers all three. -/
def bestRev (o : PeerOffer) : Option Nat :=
  if o.rev20 then some 2 else if o.rev11 then some 1 else if o.rev10 then some 0 else none

/-- The TRAIN exchange is complete. -/
def State.trained (s : State) (p : Port) (o : PeerOffer) : State :=
  match bestRev o with
  | none => s.trainFail p 3
  | some r =>
    if o.serial = s.serial then s.trainFail p 4
    else
      let s := if (s.port p).toClose then s.closePoints p else s
      let s := s.setF (Fd.OV_PSTAT_REV p.idx) r
      let s := s.setF (Fd.OV_PSTAT_PEER_NUMBERED p.idx) (b2n o.node.isSome)
      let s := s.setF (Fd.OV_PSTAT_PEER_PORT p.idx) o.port.idx
      let s := s.setF (Fd.OV_PSTAT_PEER_ID p.idx) ((o.node.map (·.val)).getD 0x3FF)
      let s := (s.setF (Fd.OV_PEER_SN_LO_SN p.idx) (o.serial.toNat % 2 ^ 32)).setF (Fd.OV_PEER_SN_HI_SN p.idx) (o.serial.toNat / 2 ^ 32)
      let s := s.modPort p fun x => { lossTimes := x.lossTimes, exchanged := true }
      s.showRbuf p

/-- The port becomes LINKED (R380, R392). -/
def State.linkUp (s : State) (p : Port) (delay : Nat) : State :=
  let s := (s.setF (Fd.OV_DELAY_DELAY p.idx) delay).setF (Fd.OV_PSTAT_STATE p.idx) 2
  let s := s.modPort p fun x => { x with exchanged := false, marked := false, silent := 0 }
  let s := s.onF (match p with
    | .east => Fd.OV_EVT_E_UP
    | .west => Fd.OV_EVT_W_UP)
  let points := match p with
    | .east => Fd.OV_TOPO_POINTS_E
    | .west => Fd.OV_TOPO_POINTS_W
  let s := if s.isF points then (s.offF points).onF Fd.OV_EVT_POINTS else s
  s.portChanged p

/-- A port leaves what it does and listens, or is held DISABLED. -/
def State.portDown (s : State) (p : Port) : State :=
  let s := s.linkLoss p .local
  if s.portSt p = 1 ∨ s.portSt p = 3 then (s.modPort p fun x => { x with exchanged := false }).putPort p 0
  else s

/-- A write of `OV_PCTRL.DISABLE` (R397). -/
def State.portDisable (s : State) (p : Port) (v : Bool) : State :=
  let s := s.setF (Fd.OV_PCTRL_DISABLE p.idx) (b2n v)
  if v then s.portDown p |>.putPort p 5
  else if s.portSt p = 5 then s.putPort p 0
  else s

/-! ### Reachability (R384 to R389) -/

/-- The key of a node: its ID, or, unnumbered, a key of its serial number beyond every ID. -/
def presKey (m : PresMsg) : Nat := if m.node < 1023 then m.node else 1024 + m.serial.toNat

/-- The node loses a duplicate contest (R386). -/
def State.loseNumber (s : State) : State :=
  let s := ((s.setF Fd.OV_NODE_ID 0x3FF).offF Fd.OV_NODE_NUMBERED).offF Fd.OV_NODE_SRC
  ((s.onF Fd.OV_NODE_DUP).raise 38).loseLock

/-- A PRESENCE arrives (R386). -/
def State.presenceIn (s : State) (m : PresMsg) : State :=
  if s.numbered ∧ m.node = s.nodeId ∧ m.serial ≠ s.serial then
    let s := s.onF Fd.OV_EVT_DUP
    if m.serial.toNat < s.serial.toNat then s.loseNumber else s
  else
    let i : NodeInfo := { port := m.path, serial := m.serial, rev := m.rev, eastSt := m.eastSt, westSt := m.westSt,
                          delay := max m.eastDelay m.westDelay, volume := m.volume }
    if lookupNat (presKey m) s.ov.nodes = some i then s
    else { s with ov := { s.ov with nodes := insertNat (presKey m) i s.ov.nodes } }.topologyChanged

/-- Some nodes take the path over the other port. -/
def State.turnPaths (s : State) (l : List Nat) : State :=
  let f := fun (x : Nat × NodeInfo) => if l.contains x.1 then (x.1, { x.2 with port := x.2.port.other }) else x
  { s with ov := { s.ov with nodes := s.ov.nodes.map f } }

/-- A TOPOLOGY arrives with the new state of a port (R389, R393): of a link lost or come back, `beyond` are the nodes whose
path with fewer hops changes its port; a loss in a line cuts them off. -/
def State.topologyIn (s : State) (node : Nat) (port : Port) (st : Nat) (beyond : List Nat) : State :=
  match lookupNat node s.ov.nodes with
  | none => s
  | some i =>
    let was := match port with
      | .east => i.eastSt
      | .west => i.westSt
    let i := match port with
      | .east => { i with eastSt := st }
      | .west => { i with westSt := st }
    let wasLine := s.getF Fd.OV_TOPO_MODE == 1
    let s := { s with ov := { s.ov with nodes := insertNat node i s.ov.nodes } }
    let s := if (was = 2) = (st = 2) then s
      else if was = 2 ∧ wasLine = true ∧ 3 ≤ s.downPorts then s.segment.cutOff fun x => beyond.contains x.1
      else s.turnPaths beyond
    s.topologyChanged

/-- No PRESENCE has come from a node for 25 ms (R386). -/
def State.unreach (s : State) (n : Nat) : State :=
  if (lookupNat n s.ov.nodes).isSome then { s with ov := { s.ov with nodes := eraseNat n s.ov.nodes } }.topologyChanged
  else s

/-- An ASSIGN arrives (R385). -/
def State.assignIn (s : State) (serial : DWord) (id : Nat) : State :=
  if !s.numbered && s.isF Fd.OV_CFG_ASSIGN_EN && serial == s.serial && id < 1023 then
    ((s.setF Fd.OV_NODE_ID id).onF Fd.OV_NODE_NUMBERED).setF Fd.OV_NODE_SRC 2
  else s

/-- The station revision (R383). -/
def State.stationRev (s : State) : Nat := s.getF Fd.TT_MASTER_REV

/-- A write of `OV_TX_CMD` with GO (R394): another KIND is refused with no effect. -/
def State.ovTx (s : State) (kind node : Nat) : State :=
  if kind ≠ 1 ∧ kind ≠ 2 then s
  else
    let res := if s.stationRev < 1 then 2 else if s.linkedPorts.isEmpty || !s.numbered then 3 else 1
    let s := if res ≠ 1 then s
      else if kind = 1 then s.originate (nodeBase node) 0 .wake
      else s.originate (nodeBase 0x3FF) 0 (.assign (BitVec.ofNat 64 (s.getF Fd.OV_TX_SN_LO_SN + 2 ^ 32 * s.getF Fd.OV_TX_SN_HI_SN)) node)
    (s.setF Fd.OV_TX_CMD_RESULT res).onF Fd.OV_EVT_TX_DONE

end Sys2Proof.Machine
end

