-- ==== Sys2Proof/Machine/Operands.lean ====
section
/-! DEFINITION. Operand forms of Tapol instructions: formats (R133, R136), immediates and effective
addresses (R135, R141), register pairs (R93), and the rounding and saturating functions of R135. -/

namespace Sys2Proof.Machine

/-! ### The instruction word (R133) -/

/-- A word of format R. -/
def encR (major : Nat) (gd ga gb : BitVec 5) (func : Nat) : Word :=
  BitVec.ofNat 32 (major * 2 ^ 27 + gd.toNat * 2 ^ 22 + ga.toNat * 2 ^ 17 + gb.toNat * 2 ^ 12 + func)

/-- A word of format I. -/
def encI (major : Nat) (gd ga : BitVec 5) (imm : BitVec 17) : Word :=
  BitVec.ofNat 32 (major * 2 ^ 27 + gd.toNat * 2 ^ 22 + ga.toNat * 2 ^ 17 + imm.toNat)

/-- A word of format J. -/
def encJ (major : Nat) (gd : BitVec 5) (imm : BitVec 22) : Word :=
  BitVec.ofNat 32 (major * 2 ^ 27 + gd.toNat * 2 ^ 22 + imm.toNat)

/-! ### Immediates (R135) -/

def simm (i : BitVec 17) : Word := i.signExtend 32
def zimm (i : BitVec 17) : Word := i.setWidth 32
def himm (i : BitVec 17) : Word := (i.setWidth 32) <<< 15
def branchOff (i : BitVec 17) : Word := (i.signExtend 32) <<< 2
def jumpOff (i : BitVec 22) : Word := (i.signExtend 32) <<< 2

/-! ### Saturation and rounding (R135) -/

def sat (x : Int) (w : Nat) : Int := min (max x (-(2 ^ (w - 1)))) (2 ^ (w - 1) - 1)
def usat (x : Int) (w : Nat) : Int := min (max x 0) (2 ^ w - 1)
def rnd (x : Int) (k : Nat) : Int := if k = 0 then x else (x + 2 ^ (k - 1)) / 2 ^ k

/-! ### Registers and pairs -/

/-- The effective address of a load or a store (R141). -/
def State.effAddr (s : State) (m : Mach) (ga : BitVec 5) (i : BitVec 17) : Word := s.rg m ga + simm i

/-- A station address in a register pair: bits [51:0] (R93). -/
def State.stationAddr (s : State) (m : Mach) (ga : BitVec 5) : Nat :=
  (s.rg m ga).toNat + (s.rg m (pairHi ga)).toNat % 2 ^ 20 * 2 ^ 32

/-- A 64-bit value in a register pair. -/
def State.pair64 (s : State) (m : Mach) (r : BitVec 5) : Nat := (s.rg m r).toNat + (s.rg m (pairHi r)).toNat * 2 ^ 32

/-- Writes a 64-bit value into a register pair. -/
def State.setPair64 (s : State) (m : Mach) (r : BitVec 5) (v : BitVec 64) : State :=
  (s.wg m r (v.setWidth 32)).wg m (pairHi r) ((v >>> 32).setWidth 32)

end Sys2Proof.Machine
end

