-- ==== Sys2Proof/Machine/TapolDecode.lean ====
section
/-! DEFINITION. The instruction that a 32-bit word of Tapol code spells (R133, R134, R136), by the encoding columns
of R137 to R162; none for an illegal word: a func value that is not assigned, or a field or func bit that its
encoding does not use and that is not 0. -/

namespace Sys2Proof.Machine

/-- The fields of R133. -/
structure TapolWord where
  major : Nat
  gd    : BitVec 5
  ga    : BitVec 5
  gb    : BitVec 5
  func  : Nat
  imm17 : BitVec 17
  imm22 : BitVec 22
deriving DecidableEq, Repr

def tapolFields (w : Word) : TapolWord where
  major := fieldOf w 27 5
  gd := BitVec.ofNat 5 (fieldOf w 22 5)
  ga := BitVec.ofNat 5 (fieldOf w 17 5)
  gb := BitVec.ofNat 5 (fieldOf w 12 5)
  func := fieldOf w 0 12
  imm17 := BitVec.ofNat 17 (fieldOf w 0 17)
  imm22 := BitVec.ofNat 22 (fieldOf w 0 22)

/-- The instruction, where the fields that it does not use are 0 (R134). -/
def withZero (zero : List (BitVec 5)) (i : Instr) : Option Instr := if zero.all (· == 0) then some i else none

/-- Major 0x00 (R137). -/
def decodeAlu (m : Mach) (x : TapolWord) : Option Instr :=
  let d := x.gd
  let a := x.ga
  let b := x.gb
  match x.func with
  | 0x000 => some (.add m d a b)
  | 0x001 => some (.sub m d a b)
  | 0x002 => some (.and m d a b)
  | 0x003 => some (.or m d a b)
  | 0x004 => some (.xor m d a b)
  | 0x005 => some (.andn m d a b)
  | 0x008 => some (.shl m d a b)
  | 0x009 => some (.shr m d a b)
  | 0x00A => some (.shra m d a b)
  | 0x00B => some (.rotr m d a b)
  | 0x010 => some (.clt m d a b)
  | 0x011 => some (.cltu m d a b)
  | 0x012 => some (.min m d a b)
  | 0x013 => some (.max m d a b)
  | 0x014 => some (.minu m d a b)
  | 0x015 => some (.maxu m d a b)
  | 0x018 => withZero [b] (.clz m d a)
  | 0x019 => withZero [b] (.popc m d a)
  | 0x020 => some (.mul m d a b)
  | 0x021 => some (.mulhiS m d a b)
  | 0x022 => some (.mulhiU m d a b)
  | 0x028 => some (.divs m d a b)
  | 0x029 => some (.divu m d a b)
  | 0x02A => some (.mods m d a b)
  | 0x02B => some (.modu m d a b)
  | _ => none

/-- Major 0x07 (R139): gb holds the count. -/
def decodeShift (m : Mach) (x : TapolWord) : Option Instr :=
  match x.func with
  | 0x000 => some (.shli m x.gd x.ga x.gb)
  | 0x001 => some (.shri m x.gd x.ga x.gb)
  | 0x002 => some (.shrai m x.gd x.ga x.gb)
  | 0x003 => some (.rotri m x.gd x.ga x.gb)
  | _ => none

/-- Major 0x0A (R140). -/
def decodeFixed (m : Mach) (x : TapolWord) : Option Instr :=
  let d := x.gd
  let a := x.ga
  let b := x.gb
  match x.func with
  | 0x000 => some (.qadd m d a b)
  | 0x001 => some (.qsub m d a b)
  | 0x002 => withZero [b] (.qneg m d a)
  | 0x003 => withZero [b] (.qabs m d a)
  | 0x004 => some (.qmul m d a b)
  | 0x005 => some (.mac m d a b)
  | 0x006 => some (.msu m d a b)
  | 0x007 => some (.macl m d a b)
  | 0x008 => some (.sats m d a b)
  | 0x009 => some (.satu m d a b)
  | 0x00A => some (.qshl m d a b)
  | 0x00B => some (.qrshr m d a b)
  | _ => none

/-- Major 0x13 (R143). -/
def decodeAtomic (m : Mach) (x : TapolWord) : Option Instr :=
  match x.func with
  | 0x000 => some (.swap m x.gd x.ga x.gb)
  | 0x001 => some (.aadd m x.gd x.ga x.gb)
  | 0x002 => some (.cas m x.gd x.ga x.gb)
  | _ => none

/-- Major 0x1C (R145): the sub-operation stands in func[11:8]. -/
def decodeSystem (m : Mach) (x : TapolWord) : Option Instr :=
  let none_ := [x.gd, x.ga, x.gb]
  match x.func / 256, x.func % 256 with
  | 0x0, 0x00 => withZero [x.gb] (.mfc m x.gd x.ga)
  | 0x1, 0x00 => withZero [x.gb] (.mtc m x.gd x.ga)
  | 0x2, 0x00 => withZero none_ (.eret m)
  | 0x3, 0x00 => withZero none_ (.nret m)
  | 0x4, 0x01 => withZero none_ (.fenceAcq m)
  | 0x4, 0x02 => withZero none_ (.fenceRel m)
  | 0x4, 0x03 => withZero none_ (.fenceAr m)
  | 0x5, k => withZero none_ (.syscall m (BitVec.ofNat 8 k))
  | 0x6, 0x00 => withZero none_ (.breakTrap m)
  | 0x7, 0x00 => withZero none_ (.waiti m)
  | _, _ => none

/-- Major 0x1D (R149). -/
def decodeLong (m : Mach) (x : TapolWord) : Option Instr :=
  match x.func with
  | 0x000 => some (.bmov m x.gd x.ga x.gb)
  | 0x001 => some (.bfill m x.gd x.ga x.gb)
  | 0x004 => some (.bcrc m 0 x.gd x.ga x.gb)
  | 0x005 => some (.bcrc m 1 x.gd x.ga x.gb)
  | 0x006 => some (.bcrc m 2 x.gd x.ga x.gb)
  | 0x007 => some (.bcrc m 3 x.gd x.ga x.gb)
  | 0x008 => some (.firv m x.gd x.ga x.gb)
  | _ => none

/-- Major 0x1E (R153, R157). -/
def decodeChannel (m : Mach) (x : TapolWord) : Option Instr :=
  let k := x.func % 256
  match x.func / 256 with
  | 0x0 => if k = 0 then some (.chmode m x.gd x.ga x.gb) else none
  | 0x1 =>
    if k = 0 then some (.chsetStart m x.gd x.ga x.gb)
    else if k < 0x30 then some (.chset m (BitVec.ofNat 8 k) x.gd x.ga x.gb)
    else none
  | 0x2 => if k < 0x30 then withZero [x.gb] (.chget m (BitVec.ofNat 8 k) x.gd x.ga) else none
  | 0x3 => if k < 16 then withZero [x.ga, x.gb] (.tally m (Fin.ofNat 16 k) x.gd) else none
  | 0x4 => if k = 0 then withZero [x.gb] (.raise m x.gd x.ga) else none
  | 0x5 =>
    if k = 0 then withZero [x.ga, x.gb] (.roll m x.gd)
    else if k = 1 then withZero [x.gb] (.rollS m x.gd x.ga)
    else none
  | _ => none

/-- Major 0x1F (R162, R171). -/
def decodeStation (m : Mach) (x : TapolWord) : Option Instr :=
  let k := x.func % 256
  match x.func / 256 with
  | 0x0 =>
    if k = 0 then withZero [x.gb] (.waitdDep m x.gd x.ga)
    else if k = 1 then withZero [x.gb] (.waitdMan m x.gd x.ga)
    else none
  | 0x1 => if k = 0 then some (.propose m x.gd x.ga x.gb) else none
  | 0x2 => if k = 0 then withZero [x.gb] (.retract m x.gd x.ga) else none
  | 0x3 => if k = 0 then withZero [x.gb] (.commit m x.gd x.ga) else none
  | 0x4 => if k = 0 then withZero [x.gb] (.peek m x.gd x.ga) else none
  | 0x5 => if [0, 1, 2, 4, 5].contains k then some (.lds m (BitVec.ofNat 3 k) x.gd x.ga x.gb) else none
  | 0x6 => if k < 3 then some (.sts m (BitVec.ofNat 3 k) x.gd x.ga x.gb) else none
  | 0x7 => if k < 4 then some (.crcf m (BitVec.ofNat 2 k) x.gd x.ga x.gb) else none
  | _ => none

/-- The instruction of machine `m` that a word spells (R136); none for an illegal word. -/
def decodeTapol (m : Mach) (w : Word) : Option Instr :=
  let x := tapolFields w
  let d := x.gd
  let a := x.ga
  let i := x.imm17
  match x.major with
  | 0x00 => decodeAlu m x
  | 0x01 => some (.addi m d a i)
  | 0x02 => some (.andi m d a i)
  | 0x03 => some (.ori m d a i)
  | 0x04 => some (.xori m d a i)
  | 0x05 => some (.clti m d a i)
  | 0x06 => some (.cltiu m d a i)
  | 0x07 => decodeShift m x
  | 0x08 => withZero [a] (.ldhi m d i)
  | 0x09 => withZero [a] (.addpc m d i)
  | 0x0A => decodeFixed m x
  | 0x0B => some (.ldw m d a i)
  | 0x0C => some (.ldh m d a i)
  | 0x0D => some (.ldhu m d a i)
  | 0x0E => some (.ldb m d a i)
  | 0x0F => some (.ldbu m d a i)
  | 0x10 => some (.stw m d a i)
  | 0x11 => some (.sth m d a i)
  | 0x12 => some (.stb m d a i)
  | 0x13 => decodeAtomic m x
  | 0x14 => some (.beq m d a i)
  | 0x15 => some (.bne m d a i)
  | 0x16 => some (.blt m d a i)
  | 0x17 => some (.bge m d a i)
  | 0x18 => some (.bltu m d a i)
  | 0x19 => some (.bgeu m d a i)
  | 0x1A => some (.jal m d x.imm22)
  | 0x1B => some (.jalr m d a i)
  | 0x1C => decodeSystem m x
  | 0x1D => decodeLong m x
  | 0x1E => decodeChannel m x
  | _ => decodeStation m x

/-- A word that executing traps ILLEGAL with DETAIL 0x00 (R134). -/
def illegalWord (w : Word) : Bool := (decodeTapol .a0 w).isNone

end Sys2Proof.Machine
end

