-- ==== Sys2Proof/Machine/Trap.lean ====
section
/-! DEFINITION. How a machine issues an instruction, how it takes a trap, an NMI or an interrupt
(R113 to R122), how it returns, and how an instruction retires. -/

namespace Sys2Proof.Machine

/-! ### The privilege level and the status (R92, R96) -/

def cStatus : Fin 32 := 0
def cEpc : Fin 32 := 1
def cEstatus : Fin 32 := 2
def cCause : Fin 32 := 3
def cTval : Fin 32 := 4
def cVbase : Fin 32 := 5
def cIvcfg : Fin 32 := 10
def cNepc : Fin 32 := 11
def cNstatus : Fin 32 := 12
def cNcause : Fin 32 := 13
def cTrapcfg : Fin 32 := 14
def cTaskid : Fin 32 := 15
def cOwned : Fin 32 := 16

/-- The machine is at STATION level. -/
def State.atStation (s : State) (m : Mach) : Bool := (s.rc' m cStatus).getLsbD 0
def State.exl (s : State) (m : Mach) : Bool := (s.rc' m cStatus).getLsbD 2
def State.nmiActive (s : State) (m : Mach) : Bool := (s.rc' m cStatus).getLsbD 3

/-- The machine's triad has neither been reset nor lost power. -/
def State.alive (s : State) (m : Mach) : Bool := s.phase == .running && !s.inReset (.triad m.triad)

/-- Whether the triad stands in a pair recovery (R187). -/
def State.triadStopped (s : State) (t : Triad) : Bool :=
  match (s.tri t).phase with
  | .recovery _ _ => true
  | _ => false

/-- The machine exists, its triad runs and it has not halted (R72, R87, R90, R121, R190). -/
def State.running (s : State) (m : Mach) : Bool :=
  s.alive m && s.getF Fd.BOOT_STAT_RESULT == 1 && s.machExists m && !(s.mach m).halted
    && (!s.isF (Fd.TR_STAT_HALTED m.triad.idx) || (s.mach m).step) && !s.triadStopped m.triad && s.getF Fd.SLEEP_STAT_STATE < 2

/-- The machine issues instructions: it runs and waits for nothing. -/
def State.canIssue (s : State) (m : Mach) : Bool := s.running m && (s.mach m).wait == .none

/-! ### Vector-table fetch (R110, R112, R119) -/

/-- What a read of the vector-table word at an address gives: the handler's address, or the code and
detail of the trap that the read takes. -/
def State.vectorRead (s : State) (m : Mach) (a : Nat) : (Word ⊕ Nat) × State :=
  if inSram a then
    match s.sramLoad a 4 with
    | (.poison, s) => (.inr 6, s.raise 18)
    | (.data v, s) =>
      if s.anyMark isUnwritten a 4 && (s.rc' m cTrapcfg).getLsbD 1 then (.inr 5, s) else (.inl (Word.ofNat v), s)
  else if inFlash a then
    match s.flashLoad a 4 with
    | (some v, s) => (.inl (Word.ofNat v), s)
    | (none, s) => (.inr 6, s.raise 18)
  else if (slotOf a).isSome then (.inl (s.readReg a), s)
  else (.inr 4, s)

/-! ### Entry (R119, R121) -/

/-- The machine halts for good (R121): SB4 is set by its triad. -/
def State.haltMach (s : State) (m : Mach) : State :=
  (s.modMach m fun x => { x with halted := true, wait := .none }).raise 4 (.triad m.triad)

/-- `CAUSE` or `NCAUSE` as entry writes it (R96). -/
def causeWord (code vector detail : Nat) (long int : Bool) : Word :=
  BitVec.ofNat 32 (code + vector * 2 ^ 8 + detail * 2 ^ 16 + b2n long * 2 ^ 30 + b2n int * 2 ^ 31)

/-- The vector word at an index of the table. -/
def State.vectorAddr (s : State) (m : Mach) (i : Nat) : Nat := ((s.rc' m cVbase).toNat + 4 * i) % 2 ^ 32

/-- The machine goes on at a handler. DESIGN CHOICE (log 100): bits [1:0] of the vector word are taken as 0; the spec does
not say what they do. -/
def State.toHandler (s : State) (m : Mach) (h : Word) : State :=
  s.modMach m fun x => { x with pc := h &&& 0xFFFF_FFFC, wait := .none, longRun := false }

/-- The fetch of an NMI's handler address stalls while its page is being healed (R462); a trap during it halts the
machine (R121). -/
def State.nmiFetch (s : State) (m : Mach) (ret : Word) : State :=
  if s.healingAt (s.vectorAddr m 1) 4 then s.modMach m fun x => { x with wait := .vector 1 true ret }
  else
    let (v, s) := s.vectorRead m (s.vectorAddr m 1)
    if !s.alive m then s
    else match v with
      | .inl h => (s.toHandler m h).modMach m fun x => { x with nmiFirst := true }
      | .inr _ => s.haltMach m

/-- NMI entry (R119): the pc, the status and the cause are saved, the level is STATION, IE is 0, and
NMI_ACTIVE is 1; the handler's address is fetched. -/
def State.nmiEntry (s : State) (m : Mach) (ret : Word) (code detail : Nat) : State :=
  let st := s.rc' m cStatus
  let s := ((s.wc m cNepc (ret &&& 0xFFFF_FFFC)).wc m cNstatus st).wc m cNcause (causeWord code 0 detail (s.mach m).longRun false)
  (s.wc m cStatus ((st ||| 9) &&& 0xFFFF_FFFD)).nmiFetch m ret

/-- The fetch of the handler's address at index `i`, which stalls while its page is being healed (R462). A trap
during it is a trap while EXL = 1. -/
def State.entryFetch (s : State) (m : Mach) (ret : Word) (i : Nat) : State :=
  if s.healingAt (s.vectorAddr m i) 4 then s.modMach m fun x => { x with wait := .vector i false ret }
  else
    let (v, s) := s.vectorRead m (s.vectorAddr m i)
    if !s.alive m then s
    else match v with
      | .inl h => s.toHandler m h
      | .inr c => if s.nmiActive m then s.haltMach m else s.nmiEntry m ret 0x0C c

/-- Entry to the handler at index `i` (R119): `EPC`, `ESTATUS` and `CAUSE` are saved, the level is
STATION, IE is 0 and EXL is 1, and the handler's address is fetched. -/
def State.entry (s : State) (m : Mach) (ret : Word) (cause : Word) (i : Nat) : State :=
  let st := s.rc' m cStatus
  let s := ((s.wc m cEpc (ret &&& 0xFFFF_FFFC)).wc m cEstatus st).wc m cCause cause
  (s.wc m cStatus ((st ||| 5) &&& 0xFFFF_FFFD)).entryFetch m ret i

/-- A synchronous trap (R114, R115, R119, R121) with its return address. -/
def State.trapAt (s : State) (m : Mach) (ret : Word) (code detail : Nat) (tval : Word) : State :=
  if !s.alive m then s
  else if s.exl m then
    if s.nmiActive m then s.haltMach m else s.nmiEntry m ret 0x0C code
  else (s.wc m cTval tval).entry m ret (causeWord code 0 detail (s.mach m).longRun false) 0

/-- A trap of the instruction at the pc, which is the return address (R115). -/
def State.trap (s : State) (m : Mach) (code detail : Nat) (tval : Word) : State :=
  s.trapAt m (s.mach m).pc code detail tval

/-- The traps of R114 by name. -/
def State.illegal (s : State) (m : Mach) (detail : Nat) (w : Word) : State := s.trap m 1 detail w
def State.privTrap (s : State) (m : Mach) (w : Word) : State := s.trap m 2 0 w
def State.alignTrap (s : State) (m : Mach) (a : Word) : State := s.trap m 3 0 a
def State.accessTrap (s : State) (m : Mach) (detail : Nat) (a : Word) : State := s.trap m 4 detail a
def State.uninitTrap (s : State) (m : Mach) (a : Word) : State := s.trap m 5 0 a

/-- A POISON trap, which sets SB18 (R112). -/
def State.poisonTrap (s : State) (m : Mach) (detail : Nat) (a : Word) : State := (s.raise 18).trap m 6 detail a

def State.ownerTrap (s : State) (m : Mach) (detail : Nat) (v : Nat) : State := s.trap m 8 detail (Word.ofNat v)
def State.replyTrap (s : State) (m : Mach) (code : Nat) (a : Nat) : State := s.trap m 9 code (Word.ofNat a)

/-! ### Retirement and returns -/

/-- The instruction at the pc has retired and execution goes on at `a`. -/
def State.retireTo (s : State) (m : Mach) (a : Word) : State :=
  s.modMach m fun x => { x with pc := a, retire := x.retire + 1, longRun := false, nmiFirst := false }

/-- The instruction at the pc has retired. -/
def State.retire (s : State) (m : Mach) : State := s.retireTo m ((s.mach m).pc + 4)

/-- ERET (R122, R145, R146). -/
def State.eret (s : State) (m : Mach) : State :=
  (s.wc m cStatus (s.rc' m cEstatus)).retireTo m (s.rc' m cEpc)

/-- NRET (R122, R145, R146). -/
def State.nret (s : State) (m : Mach) : State :=
  (s.wc m cStatus (s.rc' m cNstatus &&& 0xFFFF_FFF7)).retireTo m (s.rc' m cNepc)

/-! ### Issue -/

/-- A FETCH trap at an address (R113); on the first fetch of an NMI entry it halts the machine (R121). -/
def State.fetchTrap (s : State) (m : Mach) (detail : Nat) (a : Word) : State :=
  if !s.alive m then s
  else if (s.mach m).nmiFirst then s.haltMach m else s.trap m 7 detail a

/-- The word that has been fetched: an illegal one traps (R134). -/
def State.fetchWord (s : State) (m : Mach) (w : Word) : Bool × State :=
  if illegalWord w && s.alive m then (false, s.illegal m 0 w) else (s.alive m, s)

/-- The fetch of the instruction at the pc (R99, R113, R134, R459): false when it traps. -/
def State.fetch (s : State) (m : Mach) : Bool × State :=
  let pc := (s.mach m).pc
  let a := pc.toNat
  if inSram a then
    let s := s.eccTouch (a / 8)
    if isUnwritten (s.markOf (a / 8)) then (false, s.fetchTrap m 2 pc)
    else if isPoisoned (s.markOf (a / 8)) then (false, (s.raise 18).fetchTrap m 3 pc)
    else s.fetchWord m (Word.ofNat (s.sramRead a 4))
  else if inFlash a then
    match s.flashLoad a 4 with
    | (some v, s) => s.fetchWord m (Word.ofNat v)
    | (none, s) => (false, (s.raise 18).fetchTrap m 3 pc)
  else (false, s.fetchTrap m 1 pc)

/-- An instruction that writes one general register and retires. -/
def State.setRetire (s : State) (m : Mach) (gd : BitVec 5) (v : Word) : State := (s.wg m gd v).retire m

end Sys2Proof.Machine
end

