-- ==== Sys2Proof/Machine/Session.lean ====
section
/-! DEFINITION. Sessions: tags (R403, R404), the client's checks and the sending of requests (R405), the
server's checks on arrival (R406), and the end of a machine's access (R407). -/

namespace Sys2Proof.Machine

/-! ### Entries (R402, R416) -/

def SessEntry.valid (e : SessEntry) : Bool := e.cfg.getLsbD 0 && 1 ≤ fieldOf e.cfg 1 3 && fieldOf e.cfg 1 3 ≤ 4
def SessEntry.cls (e : SessEntry) : Nat := fieldOf e.cfg 1 3
def SessEntry.client (e : SessEntry) : Bool := e.cfg.getLsbD 4
def SessEntry.server (e : SessEntry) : Bool := e.cfg.getLsbD 5
def SessEntry.bcast (e : SessEntry) : Bool := e.cfg.getLsbD 6
/-- Requests in flight that are allowed: the field holds one less. -/
def SessEntry.quota (e : SessEntry) : Nat := fieldOf e.cfg 8 6 + 1
def SessEntry.pinGen (e : SessEntry) : Nat := fieldOf e.cfg 24 8
/-- Whether PEER admits a node. -/
def SessEntry.admits (e : SessEntry) (n : Nat) : Bool := e.peer.getLsbD 10 || fieldOf e.peer 0 10 == n

/-- The key's 32 bytes, most significant first. -/
def keyBytes (k : Vector Word 8) : List Byte := (k.toList.reverse).flatMap fun w => beBytes w.toNat 4

/-! ### Reply bytes (R407): DETAIL in [7:4], CODE in [3:0] -/

def rOk : Nat := 0x00
def rOkDelayed : Nat := 0x01
def rQuota : Nat := 0x02
def rClass : Nat := 0x13
def rQueueFull : Nat := 0x23
def rReset : Nat := 0x04
def rAborted : Nat := 0x05
def rStaleGen : Nat := 0x06
def rNoSession : Nat := 0x17
def rPeer : Nat := 0x27
def rWindow : Nat := 0x37
def rRight : Nat := 0x47
def rProgram : Nat := 0x57
def rUnmapped : Nat := 0x67
def rWidth : Nat := 0x77
def rKey : Nat := 0x87
def rBcastRead : Nat := 0x97
def rChanging : Nat := 0xA7
def rVersion : Nat := 0x08
def rNoReply : Nat := 0x19
def rUnreachable : Nat := 0x29
def rExpired : Nat := 0x39
def rPoison : Nat := 0x0A

/-! ### Tags (R403, R404) -/

/-- Data padded with 0x00 to a multiple of 4. -/
def pad4 (d : List Byte) : List Byte := d ++ List.replicate ((4 - d.length % 4) % 4) 0

/-- The payload of a request with the TAG field as zero. -/
def reqPayload (m : SessReqMsg) : List Byte :=
  beBytes m.sid 2 ++ [BitVec.ofNat 8 m.op, BitVec.ofNat 8 m.expGen, BitVec.ofNat 8 m.reqGen, BitVec.ofNat 8 m.reqBlk]
    ++ beBytes m.len 2 ++ beBytes m.issueT 4 ++ beBytes m.counter 4 ++ List.replicate 8 0 ++ pad4 m.data

/-- The payload of a reply with the TAG field as zero. -/
def repPayload (m : SessRepMsg) : List Byte :=
  beBytes m.sid 2 ++ [BitVec.ofNat 8 m.reply, BitVec.ofNat 8 m.tgen, BitVec.ofNat 8 m.reqGen, BitVec.ofNat 8 m.reqBlk]
    ++ beBytes m.len 2 ++ [BitVec.ofNat 8 m.qdepth, 0, 0, 0] ++ beBytes m.counter 4 ++ List.replicate 8 0 ++ pad4 m.data

/-- The tag over DEST, SRC and a payload (R403). -/
def tagOf (key : Vector Word 8) (dest src : Nat) (payload : List Byte) : DWord :=
  BitVec.ofNat 64 (beNat ((hmac (keyBytes key) (beBytes dest 8 ++ beBytes src 2 ++ payload)).take 8))

/-! ### Replies of the server (R406, R407) -/

/-- The boot session of R413 answers session 0 while boot loads over Orvia. -/
def State.bootSess (s : State) (sid : Nat) : Bool := s.isF Fd.SS_CTRL_BOOT && sid == 0

/-- The server's entry of a session: the built-in one while it stands (R413). -/
def State.srvEntry (s : State) (sid : Nat) : SessEntry :=
  if s.bootSess sid then
    { cfg := 0x3F29, peer := 0x400
      base := vset (vset (Vector.replicate 8 0) 0 0x8000_0000) 1 0x8004_0090
      lim := vset (vset (Vector.replicate 8 0) 0 0x1000) 1 0x4_0091 }
  else s.sess sid

/-- A reply leaves for the requester, tagged with a key; an untagged one carries a tag of zeros. -/
def State.sendKeyed (s : State) (key : Vector Word 8) (dst cls : Nat) (q : SessReqMsg) (reply tgen qdepth : Nat)
    (data : List Byte) (tagged : Bool) : State :=
  let m : SessRepMsg := { sid := q.sid, reply := reply, tgen := tgen, reqGen := q.reqGen, reqBlk := q.reqBlk
                          len := data.length, qdepth := qdepth, counter := q.counter, tag := 0, data := data }
  let tag := if tagged then tagOf key (nodeBase dst) s.nodeId (repPayload m) else 0
  s.originate (nodeBase dst) cls (.sessRep { m with tag := tag })

/-- A reply under the session's own entry. -/
def State.sendReply (s : State) (dst cls : Nat) (q : SessReqMsg) (reply tgen qdepth : Nat) (data : List Byte) (tagged : Bool) : State :=
  s.sendKeyed (s.srvEntry q.sid).key dst cls q reply tgen qdepth data tagged

/-- A refusal by the server (R406): a broadcast gets no reply and is counted; a request of this node is
answered by the value; another one by a frame. -/
def State.srvRefuse (s : State) (r : SrvReq) (cls reply tgen : Nat) (tagged : Bool) : Option Nat × State :=
  let s := s.incF Fd.SS_CNT_REFUSE_SERVER
  if r.bcast then (some reply, s.incF Fd.SS_CNT_BCAST_REFUSED)
  else match r.own with
    | some _ => (some reply, s)
    | none => (some reply, s.sendReply r.src cls r.msg reply tgen r.qdepth [] tagged)

/-- PEER is ANY. -/
def SessEntry.any (e : SessEntry) : Bool := e.peer.getLsbD 10

/-- The window of a requester, a fresh one where it has none: of its own with PEER ANY, else the one window of the
entry, under number 1,024. -/
def winOf (e : SessEntry) (node : Nat) : Nat := if e.any then node else 1024
def rxWin (e : SessEntry) (node : Nat) : RxWin :=
  (e.wins.find? fun w => w.node == winOf e node).getD { node := winOf e node, high := 0, seen := [], last := 0 }

/-- The counter check (R403): the entry with the counter taken, or none. -/
def takeCounter (e : SessEntry) (node c now : Nat) : Option SessEntry :=
  let w := rxWin e node
  let others := e.wins.filter fun x => x.node != winOf e node
  let fresh := others.length = e.wins.length
  let live := others.filter fun x => now - x.last < 2000000
  if w.high < c + 64 ∧ w.seen.contains c = false ∧ (e.any = false ∨ fresh = false ∨ live.length < 8) then
    let h := max w.high c
    let w := { w with high := h, seen := c :: w.seen.filter fun x => h < x + 64, last := now }
    some { e with wins := w :: (if fresh ∧ 8 ≤ others.length then live else others), rxHigh := h }
  else none

/-- The queue of a class, and its length in `SS_QUEUE`. -/
def State.queue (s : State) (c : Nat) : List SrvReq := vget s.ss.queues (clsIdx c)

def State.setQueue (s : State) (c : Nat) (l : List SrvReq) : State :=
  let s := { s with ss := { s.ss with queues := vset s.ss.queues (clsIdx c) l } }
  match c with
  | 1 => s.setF Fd.SS_QUEUE_SAFETY l.length
  | 2 => s.setF Fd.SS_QUEUE_CONTROL l.length
  | 3 => s.setF Fd.SS_QUEUE_SUP l.length
  | _ => s.setF Fd.SS_QUEUE_BULK l.length

/-- Checks 5 to 7 of R406, and the queue. A session with an entry command that waits takes no new request (R414, log
118). -/
def State.srvQueue (s : State) (r : SrvReq) (cls : Nat) (e : SessEntry) : Option Nat × State :=
  if e.cmd.isSome then s.srvRefuse r cls rChanging 0 true
  else if cls ≠ e.cls ∨ (s.getF Fd.SS_ADM_CLASS_EN).testBit (cls - 1) = false then s.srvRefuse r cls rClass 0 true
  else if e.quota ≤ (s.sess r.msg.sid).inflS then s.srvRefuse r cls rQuota 0 true
  else if 64 ≤ (s.queue cls).length then
    let (a, s) := s.srvRefuse r cls rQueueFull 0 true
    (a, s.raise 46)
  else
    let r := { r with qdepth := min 255 (s.queue cls).length }
    (none, (s.setQueue cls (s.queue cls ++ [r])).modSess r.msg.sid fun e => { e with inflS := e.inflS + 1 })

/-- A request arrives (R406, checks 1 to 7): the reply byte of a refusal, or none where it is queued or
discarded. -/
def State.srvArrive (s : State) (r : SrvReq) (cls : Nat) (dest : Nat) : Option Nat × State :=
  let sid := r.msg.sid
  let boot := s.bootSess sid
  let e := s.srvEntry sid
  if s.inReset .sess ∨ (boot = false ∧ s.isF Fd.SS_CTRL_OPEN = false) ∨ (s.isF Fd.SS_CTRL_BOOT ∧ boot = false) then
    s.srvRefuse r cls rReset 0 false
  else if !(e.valid && e.server) then s.srvRefuse r cls rNoSession 0 false
  else if !e.admits r.src then s.srvRefuse r cls rPeer 0 false
  else if tagOf e.key dest r.src (reqPayload r.msg) ≠ r.msg.tag then (none, (s.incF Fd.SS_CNT_AUTH_TAG).raise 44)
  else if boot then s.srvQueue r cls e
  else match takeCounter e r.src r.msg.counter s.now with
    | none => (none, (s.incF Fd.SS_CNT_AUTH_REPLAY).raise 45)
    | some e' => (s.setSess sid e').srvQueue r cls e'

/-! ### The client (R405) -/

/-- The checks of R405 after the first: the reply byte of the first failure. -/
def State.clientCheck (s : State) (sid node : Nat) (write : Bool) : Option Nat :=
  let e := s.sess sid
  if !(e.valid && e.client) then some rNoSession
  else if e.cmd.isSome then some rChanging
  else if node = 0x3FF ∧ write = false then some rBcastRead
  else if node = 0x3FF ∧ e.bcast = false then some rPeer
  else if !e.admits node then some rPeer
  else if 0xFFFF_FFFF ≤ e.tx then some rKey
  else if e.quota ≤ e.inflC then some rQuota
  else if node ≠ 0x3FF ∧ (!s.numbered || !s.reachable node) = true then some rUnreachable
  else none

/-- A request that is to be sent. -/
structure NewReq where
  who    : Requester
  sid    : Nat
  addr   : Nat
  write  : Bool
  len    : Nat
  data   : List Byte
  expGen : Nat
  reqBlk : Nat

/-- A request ends at the client: TIMEOUT sets SB47 (R415). -/
def State.clientEnd (s : State) (reply : Nat) : State :=
  let s := s.incF Fd.SS_CNT_REFUSE_CLIENT
  if reply % 16 = 9 then s.raise 47 else s

/-- A request is checked, tagged and sent (R403 to R405): the reply byte with which it ends at once, or
none with the number under which it is out. A request to this node goes to its own server (R399); a
broadcast goes to every port and to the own server (R400). -/
def State.request (s : State) (q : NewReq) : Option Nat × Nat × State :=
  let node := q.addr / 2 ^ 42
  match s.clientCheck q.sid node q.write with
  | some r => (some r, 0, s.clientEnd r)
  | none =>
    let e := s.sess q.sid
    let gen := s.getF (Fd.GEN_GEN q.reqBlk)
    let m : SessReqMsg :=
      { sid := q.sid, op := if q.write then 2 else 1, expGen := q.expGen, reqGen := gen, reqBlk := q.reqBlk
        len := q.len, issueT := s.tt.clk % 2 ^ 32, counter := e.tx, tag := 0, data := q.data }
    let m := { m with tag := tagOf e.key q.addr s.nodeId (reqPayload m) }
    let id := s.nextReq
    let own := node == s.nodeId
    let bc := node == 0x3FF
    let out : OutReq := { id := id, who := q.who, sid := q.sid, counter := e.tx, node := node, write := q.write
                          own := own, bcast := bc, reqGen := gen, reqBlk := q.reqBlk, oseq := s.ov.oseq }
    let s := s.setSess q.sid { e with tx := e.tx + 1, inflC := e.inflC + 1 }
    let s := { s with nextReq := id + 1, ss := { s.ss with out := s.ss.out ++ [out] } }
    let s := if own then s else s.originate q.addr e.cls (.sessReq m)
    if own || bc then
      let (a, s) := s.srvArrive { src := s.nodeId, addr := q.addr, msg := m, qdepth := 0, bcast := bc, own := some id } e.cls q.addr
      match a with
      | none => (none, id, s)
      | some r => if bc then (some rOk, id, s.endReq out) else (some r, id, s.endReq out)
    else (none, id, s)

/-! ### The end of a machine's access (R100, R407, R416) -/

/-- `SS_LAST` of a machine. -/
def lastReg : Mach → Rg
  | .a0 => Rg.SS_LAST_A0
  | .a1 => Rg.SS_LAST_A1
  | .b0 => Rg.SS_LAST_B0
  | .b1 => Rg.SS_LAST_B1

/-- The value that a load of `width` bytes gives to its register. -/
def loadValue (width : Nat) (signed : Bool) (v : Nat) : Word :=
  match width, signed with
  | 1, true => (BitVec.ofNat 8 v).signExtend 32
  | 1, false => Word.ofNat (v % 2 ^ 8)
  | 2, true => (BitVec.ofNat 16 v).signExtend 32
  | 2, false => Word.ofNat (v % 2 ^ 16)
  | _, _ => Word.ofNat v

/-- The access of a machine ends with a reply: it retires with its result, or traps STATION_REPLY. -/
def State.accessEnd (s : State) (m : Mach) (a : CoreAccess) (reply tgen qdepth : Nat) (data : List Byte) : State :=
  let s := s.setR (lastReg m) (BitVec.ofNat 32 (reply + tgen * 2 ^ 8 + qdepth * 2 ^ 16))
  let s := s.modMach m fun x => { x with wait := .none }
  if reply = rOk ∨ reply = rOkDelayed then
    if a.write then s.retire m else s.setRetire m a.rd (loadValue a.width a.signed (leNat data))
  else s.replyTrap m reply a.addr

/-- A machine's station access sets out (R171, R401): the request is sent and the machine waits, or it ends
at once. EXP_GEN is PIN_GEN of the entry (R407). -/
def State.stationAccess (s : State) (m : Mach) (a : CoreAccess) (sid : Nat) : State :=
  let a := { a with sess := some sid }
  if s.inReset .sess then s.modMach m fun x => { x with wait := .stall a }
  else
    let (r, id, s) := s.request { who := .mach m, sid := sid, addr := a.addr, write := a.write, len := a.width
                                  data := if a.write then leBytes a.data.toNat a.width else []
                                  expGen := (s.sess sid).pinGen, reqBlk := (Blk.triad m.triad).gen }
    if !s.alive m then s
    else match r with
      | some x => s.accessEnd m a x 0 0 []
      | none => s.modMach m fun x => { x with wait := .station a id }

end Sys2Proof.Machine
end

