-- ==== Sys2Proof/Machine/ShuntCtl.lean ====
section
/-! DEFINITION. Shunters (R417 to R438) as far as they need no access to the local fabric: the waybill and its
checks, pieces, station requests, the claim of a check-value unit, the states of R424 and completion. -/

namespace Sys2Proof.Machine

/-! ### Addresses (R419) -/

/-- Whether an address names the local fabric. -/
def isLocal (hi : Word) : Bool := hi.getLsbD 31

/-- The address as a number: local, or 52 bits. -/
def pairAddr (lo hi : Word) : Nat := if isLocal hi then lo.toNat else lo.toNat + 2 ^ 32 * (hi.toNat % 2 ^ 20)

/-- Bits that R419 gives as 0 are not 0. -/
def pairBad (hi : Word) : Bool := fieldOf hi 20 11 != 0 || (isLocal hi && fieldOf hi 0 20 != 0)

/-- A waybill can lie at the address (R417, R419, R424). -/
def waybillPlace (lo hi : Word) : Bool := !pairBad hi && pairAddr lo hi % 64 == 0 && pairAddr lo hi % 2 ^ 42 < 0x0100_0000

/-- An address as `SH_ERR` holds it. -/
def errAddr (loc : Bool) (a : Nat) : Word × Word :=
  (Word.ofNat a, Word.ofNat (if loc then 2 ^ 31 else a / 2 ^ 32 % 2 ^ 20))

/-! ### The waybill (R417, R418, R420, R421) -/

def ShuntH.word (h : ShuntH) (i : Nat) : Word := h.words.getD i 0
def ShuntH.ctrl (h : ShuntH) (i : Nat) : Bool := (h.word 0).getLsbD i
def ShuntH.swap (h : ShuntH) : Nat := fieldOf (h.word 0) 0 2
def ShuntH.crcEn (h : ShuntH) : Bool := h.ctrl 2
def ShuntH.crcUnit (h : ShuntH) : Fin 4 := Fin.ofNat 4 (fieldOf (h.word 0) 3 2)
def ShuntH.srcLen (h : ShuntH) : Nat := fieldOf (h.word 6) 0 24
def ShuntH.dstLen (h : ShuntH) : Nat := fieldOf (h.word 10) 0 24
def ShuntH.srcLines (h : ShuntH) : Nat := fieldOf (h.word 12) 0 16 + 1
def ShuntH.dstLines (h : ShuntH) : Nat := fieldOf (h.word 12) 16 16 + 1
def ShuntH.total (h : ShuntH) : Nat := h.srcLines * h.srcLen

/-- The address of byte `k` of the stream on a side: a local one is taken modulo 2^32, a station one keeps its
node and its offset is taken modulo 2^42 (R420). -/
def sideAddr (lo hi stride : Word) (len k : Nat) : Nat :=
  let d : Int := (k / len : Nat) * stride.toInt + (k % len : Nat)
  let a := pairAddr lo hi
  if isLocal hi then ((a + d) % 2 ^ 32).toNat
  else a / 2 ^ 42 * 2 ^ 42 + (((a % 2 ^ 42 : Nat) + d) % 2 ^ 42).toNat

/-- The sides by whether they are the destination. -/
def ShuntH.loc (h : ShuntH) (dst : Bool) : Bool := isLocal (h.word (if dst then 9 else 5))
def ShuntH.addr (h : ShuntH) (dst : Bool) (k : Nat) : Nat :=
  if dst then sideAddr (h.word 8) (h.word 9) (h.word 11) h.dstLen k
  else sideAddr (h.word 4) (h.word 5) (h.word 7) h.srcLen k

/-- Whether a side starts in the device region (R421, R429). -/
def ShuntH.device (h : ShuntH) (dst : Bool) : Bool :=
  inDevice (pairAddr (h.word (if dst then 8 else 4)) (h.word (if dst then 9 else 5)) % 2 ^ 42)

/-- RESERVED of R421. -/
def ShuntH.reservedBad (h : ShuntH) : Bool :=
  fieldOf (h.word 0) 11 19 != 0 || fieldOf (h.word 1) 21 11 != 0 || pairBad (h.word 3) || pairBad (h.word 5)
    || pairBad (h.word 9) || fieldOf (h.word 6) 24 8 != 0 || fieldOf (h.word 10) 24 8 != 0
    || fieldOf (h.word 13) 10 6 != 0 || fieldOf (h.word 13) 24 8 != 0

/-- DEVICE_WIDTH of R421 on one side. -/
def ShuntH.widthBad (h : ShuntH) (dst : Bool) : Bool :=
  let len := if dst then h.dstLen else h.srcLen
  let stride := h.word (if dst then 11 else 7)
  h.device dst && ((h.word (if dst then 8 else 4)).toNat % 4 != 0 || len % 4 != 0 || stride.toNat % 4 != 0)

/-- The checks of R421 in order: the detail of the first that fails. -/
def ShuntH.badWaybill (h : ShuntH) : Option Nat :=
  if h.reservedBad then some 1
  else if h.srcLen = 0 ∨ h.dstLen = 0 then some 2
  else if h.total ≠ h.dstLines * h.dstLen then some 3
  else if 16777216 < h.total then some 4
  else if (h.swap = 1 ∧ h.total % 2 ≠ 0) ∨ (2 ≤ h.swap ∧ h.total % 4 ≠ 0) then some 5
  else if 1 < h.dstLines ∧ (h.word 11).toInt.natAbs < h.dstLen then some 6
  else if (h.ctrl 8 || h.ctrl 6) && !h.crcEn then some 7
  else if h.widthBad false || h.widthBad true then some 8
  else none

/-- The place in the stream that byte `k` of the destination is taken from (R422). -/
def swapIdx (swap k : Nat) : Nat :=
  match swap with
  | 0 => k
  | 1 => k - k % 2 + (1 - k % 2)
  | 2 => k - k % 4 + (3 - k % 4)
  | _ => k ^^^ 2

/-- Bytes `a` to `a + n - 1` of the swapped stream. -/
def ShuntH.swapped (h : ShuntH) (a n : Nat) : List Byte :=
  (List.range n).map fun i => h.stream.getD (swapIdx h.swap (a + i)) 0

/-- The piece that starts at byte `k` of a side (R428, R429): within one source line and one destination line,
at most 64 bytes locally, at most 512 at the station with the widening of a read, 4 in the device region. -/
def ShuntH.pieceLen (h : ShuntH) (dst : Bool) (k : Nat) : Nat :=
  let room := if h.device dst then 4 else if h.loc dst then 64 else if dst then 512 else 512 - h.addr false k % 8
  min (min room (h.total - k)) (min (h.srcLen - k % h.srcLen) (h.dstLen - k % h.dstLen))

/-- The next write piece has all its bytes: swap units of the last byte included. -/
def ShuntH.canWrite (h : ShuntH) : Bool :=
  let u := if h.swap = 0 then 1 else if h.swap = 1 then 2 else 4
  h.wr < h.total && (h.wr + h.pieceLen true h.wr + u - 1) / u * u ≤ h.stream.length

/-- Where the widened bytes of a station read start, and how many they are (R429). -/
def ShuntH.widened (h : ShuntH) (k n : Nat) : Nat × Nat :=
  let a := h.addr false k
  if h.device false then (a, n) else (a - a % 8, (a % 8 + n + 7) / 8 * 8)

/-! ### The check-value unit (R423) -/

/-- Stream bytes pass through the unit, where `point` is the waybill's CRC_POINT. -/
def State.shFeed (s : State) (n : Fin 16) (point : Bool) (bs : List Byte) : State :=
  match (s.shu n).unit with
  | some u => if (s.shu n).ctrl 5 = point then s.cuEnter u bs else s
  | none => s

/-- The unit is freed. -/
def State.shUnitFree (s : State) (n : Fin 16) : State :=
  match (s.shu n).unit with
  | some u => (s.setF (Fd.CU_STAT_OWNER u.val) 0).modShu n fun h => { h with unit := none }
  | none => s

/-- The unit is claimed, loaded, and the fold preamble enters it. -/
def State.shClaim (s : State) (n : Fin 16) : State :=
  let h := s.shu n
  let u := h.crcUnit
  let s := ((s.setF (Fd.CU_STAT_OWNER u.val) 2).setF (Fd.CU_STAT_SH u.val) n.val).cuLoad u
  let i := if h.ctrl 7 then 8 else 4
  let s := if h.ctrl 6 then s.cuEnter u (foldBytes (pairAddr (h.word i) (h.word (i + 1))) (h.word 14).toNat) else s
  s.modShu n fun h => { h with unit := some u, stage := .move }

/-- Whether the unit that a waybill names can be claimed now. -/
def State.unitOpen (s : State) (n : Fin 16) : Bool := !s.inReset .crcu && s.cuFree (s.shu n).crcUnit

/-! ### The states of R424 -/

def State.shLive (s : State) : Bool := s.phase == .running && !s.inReset .shunt

/-- RUNNING or STOPPING. -/
def State.shActive (s : State) (n : Fin 16) : Bool :=
  s.shLive && (s.getF (Fd.SH_STAT_STATE n.val) == 1 || s.getF (Fd.SH_STAT_STATE n.val) == 2)

/-- The waybill in progress, and the one that it names. -/
def State.shCur (s : State) (n : Fin 16) : Word × Word := (s.getR (Rg.SH_CUR_LO n.val), s.getR (Rg.SH_CUR_HI n.val))
def ShuntH.next (h : ShuntH) : Word × Word := (h.word 2, h.word 3)

/-- IDLE (0) or HALTED (3) is reached with an END and the waybill from which work would go on. -/
def State.shRest (s : State) (n : Fin 16) (st end_ : Nat) (at_ : Word × Word) : State :=
  let s := s.shUnitFree n
  let s := ((s.setF (Fd.SH_STAT_STATE n.val) st).setF (Fd.SH_STAT_END n.val) end_).clrBitF Fd.SH_BUSY_BUSY n.val
  let s := (s.setR (Rg.SH_RESUME_LO n.val) at_.1).setR (Rg.SH_RESUME_HI n.val) at_.2
  let s := (s.offF (Fd.SH_CTRL_STOP n.val)).modShu n fun _ => {}
  if st = 3 then s.setBitF Fd.SH_EVT_ERR n.val else s

/-- The source of a status code (R435). -/
def codeSource : Nat → Nat
  | 2 => 102
  | 3 => 99
  | 4 => 100
  | 5 => 96
  | 6 => 97
  | 7 => 97
  | _ => 101

/-- END ERROR with its code, detail, side and address. -/
def State.shError (s : State) (n : Fin 16) (f : ShFail) (lost : Bool) : State :=
  let s := ((s.setF (Fd.SH_STAT_CODE n.val) f.code).setF (Fd.SH_STAT_DETAIL n.val) f.detail).setF (Fd.SH_STAT_SIDE n.val) f.side
  let s := s.setF (Fd.SH_STAT_WB_LOST n.val) (b2n lost)
  let s := match f.at_ with
    | some a => (s.setR (Rg.SH_ERR_LO n.val) a.1).setR (Rg.SH_ERR_HI n.val) a.2
    | none => s
  (s.shRest n 3 4 (s.shCur n)).raise (codeSource f.code)

/-- A waybill fails; the first failure counts (R435). -/
def State.shFail (s : State) (n : Fin 16) (code detail side : Nat) (at_ : Option (Word × Word)) : State :=
  s.modShu n fun h => { h with fail := h.fail <|> some { code := code, detail := detail, side := side, at_ := at_ } }

/-! ### Station requests (R431) -/

/-- The request of a piece. -/
def State.pieceReq (s : State) (n : Fin 16) (p : Piece) : NewReq :=
  let h := s.shu n
  let who := Requester.shunter n (2 * p.off + b2n p.write)
  match h.stage with
  | .move =>
    let sid := fieldOf (h.word 13) 0 10
    let g := fieldOf (h.word 13) 16 8
    if p.write then
      { who := who, sid := sid, addr := h.addr true p.off, write := true, len := p.len, data := h.swapped p.off p.len
        expGen := g, reqBlk := 3 }
    else
      let w := h.widened p.off p.len
      { who := who, sid := sid, addr := w.1, write := false, len := w.2, data := [], expGen := g, reqBlk := 3 }
  | .back =>
    let cur := s.shCur n
    let v := if p.off = 0 then (h.word 0).toNat + 2 ^ 32 * (h.word 1).toNat else (h.word 15).toNat
    { who := who, sid := h.sid, addr := pairAddr cur.1 cur.2 + p.off, write := true, len := p.len, data := leBytes v p.len
      expGen := fieldOf (h.word 13) 16 8, reqBlk := 3 }
  | _ =>
    let cur := s.shCur n
    { who := who, sid := h.sid, addr := pairAddr cur.1 cur.2, write := false, len := 64, data := [], expGen := h.expGen, reqBlk := 3 }

/-- The piece at a place of the stream. -/
def samePiece (off : Nat) (write : Bool) (p : Piece) : Bool := p.off == off && p.write == write

def State.modPiece (s : State) (n : Fin 16) (off : Nat) (write : Bool) (f : Piece → Piece) : State :=
  s.modShu n fun h => { h with pieces := h.pieces.map fun p => if samePiece off write p then f p else p }

def State.dropPiece (s : State) (n : Fin 16) (off : Nat) (write : Bool) : State :=
  s.modShu n fun h => { h with pieces := h.pieces.filter fun p => !samePiece off write p }

/-- Parts of the stream that continue it without a gap are put together; `n` bounds their number. -/
def joinParts : Nat → List Byte → List (Nat × List Byte) → List Byte × List (Nat × List Byte)
  | 0, st, l => (st, l)
  | n + 1, st, l =>
    match l.find? fun p => p.1 == st.length with
    | some p => joinParts n (st ++ p.2) (l.filter fun q => q.1 != p.1)
    | none => (st, l)

/-- Bytes of the stream have been read. -/
def State.shRead (s : State) (n : Fin 16) (off : Nat) (bs : List Byte) : State :=
  let h := s.shu n
  let parts := (off, bs) :: h.parts
  let (st, rest) := joinParts parts.length h.stream parts
  let s := s.shFeed n false (st.drop h.stream.length)
  s.modShu n fun h => { h with stream := st, parts := rest }

/-- The waybill has ended for its data (R434, R435): the status is put into its copy and the write-back begins;
the check value is written only where all data has been performed. -/
def State.toBack (s : State) (n : Fin 16) : State :=
  let s := match (s.shu n).fail, (s.shu n).unit with
    | none, some u =>
      let v := s.cuResult u
      let bad := (s.shu n).ctrl 8 && v != (s.shu n).word 15
      let s := if bad then s.shFail n 2 0 0 none else s
      s.modShu n fun h => { h with words := h.words.set 15 (Word.ofNat v), back := 2 }
    | _, _ => s.modShu n fun h => { h with back := 1 }
  s.modShu n fun h =>
    let code := match h.fail with
      | some f => f.code + f.detail * 2 ^ 8 + f.side * 2 ^ 20
      | none => 1
    let h := { h with stage := .back, got := none
                      words := (h.words.set 0 (h.word 0 &&& 0x7FFF_FFFF)).set 1 (Word.ofNat (code + n.val * 2 ^ 16)) }
    if isLocal (s.shCur n).2 then h
    else { h with pieces := [if h.back = 2 then ⟨60, 4, true, s.now, none, none⟩ else ⟨0, 8, true, s.now, none, none⟩] }

/-- Once no data piece is out, a waybill that has failed or has issued its last write goes to its write-back. -/
def State.shCheckEnd (s : State) (n : Fin 16) : State :=
  let h := s.shu n
  if h.stage == .move && h.pieces.all (fun p => p.req.isNone) && (h.fail.isSome || (h.pieces.isEmpty && h.wr == h.total)) then
    (s.modShu n fun h => { h with pieces := [] }).toBack n
  else s

/-- A station request has ended well, with the data of a read. -/
def State.pieceDone (s : State) (n : Fin 16) (p : Piece) (data : List Byte) : State :=
  let h := s.shu n
  let s := s.dropPiece n p.off p.write
  match h.stage with
  | .move =>
    if p.write then s.shCheckEnd n
    else
      let skip := h.addr false p.off - (h.widened p.off p.len).1
      (s.shRead n p.off ((data.drop skip).take p.len)).shCheckEnd n
  | .back =>
    if p.off = 60 then s.modShu n fun h => { h with back := 1, pieces := [⟨0, 8, true, s.now, none, none⟩] }
    else s.modShu n fun h => { h with got := some (0, 0, []) }
  | _ => s.modShu n fun h => { h with got := some (0, 0, data) }

/-- A station request has ended with a failure. -/
def State.pieceFail (s : State) (n : Fin 16) (p : Piece) (code detail : Nat) : State :=
  let h := s.shu n
  let s := s.dropPiece n p.off p.write
  match h.stage with
  | .move => (s.shFail n code detail (b2n p.write) (some (errAddr false (h.addr p.write p.off)))).shCheckEnd n
  | _ => s.modShu n fun h => { h with got := some (code, detail, []) }

/-- The reply to a station request of a shunter (R431); `sent` says that it came from a server, for which
QUOTA and QUEUE_FULL let the piece be sent again within 2 ms. -/
def State.pieceReply (s : State) (n : Fin 16) (p : Piece) (reply : Nat) (data : List Byte) : State :=
  if reply = rOk ∨ reply = rOkDelayed then s.pieceDone n p data
  else if reply = rQuota ∨ reply = rQueueFull then
    if s.now - p.first < 2000000 then s.modPiece n p.off p.write fun p => { p with req := none, again := some reply }
    else s.pieceFail n p 8 reply
  else if reply = rPoison then s.pieceFail n p 6 0x0A
  else if reply % 16 = 9 then s.pieceFail n p 5 reply
  else s.pieceFail n p 8 reply

/-- A piece is sent, unless it waits for a completion on its session or for `SESS` to leave reset (R405, R431). -/
def State.sendPiece (s : State) (n : Fin 16) (p : Piece) : State :=
  let q := s.pieceReq n p
  if s.inReset .sess || s.clientCheck q.sid (q.addr / 2 ^ 42) q.write == some rQuota then s
  else
    let (r, id, s) := s.request q
    match r with
    | none => s.modPiece n p.off p.write fun p => { p with req := some id, again := none }
    | some r => if (s.shu n).pieces.any (samePiece p.off p.write) then s.pieceReply n p r [] else s

/-! ### What a shunter issues -/

/-- Puts a new piece in line. -/
def State.newPiece (s : State) (n : Fin 16) (write : Bool) : State :=
  let h := s.shu n
  let k := if write then h.wr else h.nextRd
  let len := h.pieceLen write k
  let s := if write then s.shFeed n true (h.swapped k len) else s
  s.modShu n fun h =>
    let h := if write then { h with wr := k + len } else { h with nextRd := k + len }
    { h with pieces := h.pieces ++ [⟨k, len, write, s.now, none, none⟩] }

/-- Up to 8 station pieces are in line (R428). -/
def State.linePieces (n : Fin 16) : Nat → State → State
  | 0, s => s
  | k + 1, s =>
    let h := s.shu n
    if h.stage ≠ .move ∨ h.fail.isSome = true ∨ 8 ≤ h.pieces.length then s
    else if !h.loc true && h.canWrite then State.linePieces n k (s.newPiece n true)
    else if !h.loc false && h.nextRd < h.total then State.linePieces n k (s.newPiece n false)
    else s

/-- Pieces in line that wait for nothing are sent, one after another. -/
def State.sendLine (s : State) (n : Fin 16) : State :=
  State.each (fun p s =>
    if p.req.isSome || p.again.isSome || (s.shu n).fail.isSome || !s.shActive n then s else s.sendPiece n p) (s.shu n).pieces s

/-- A shunter goes on as far as it can without the local fabric: it claims its unit, and it issues station
requests; `k` bounds the rounds. -/
def State.pumpN (n : Fin 16) : Nat → State → State
  | 0, s => s
  | k + 1, s =>
    if !s.shActive n then s
    else
      let s := if (s.shu n).stage == .unit && s.unitOpen n then s.shClaim n else s
      let was := (s.shu n).pieces
      let s := (State.linePieces n 8 s).sendLine n
      if (s.shu n).pieces = was then s else State.pumpN n k s

def State.shPump (s : State) (n : Fin 16) : State := State.pumpN n 16 s

/-- The shunters in the order in which those of equal PRIO take turns (R436). -/
def State.shOrder (s : State) : List (Fin 16) := all16.map fun i => s.shTurn + 1 + i

/-- Every shunter goes on, those of the highest PRIO first (R436). -/
def State.shPumpAll (s : State) : State :=
  if s.getF Fd.SH_BUSY_BUSY = 0 then s
  else State.each (fun pr s => State.each (fun n s => if s.getF (Fd.SH_CFG_PRIO n.val) = pr then s.shPump n else s) s.shOrder s)
    [3, 2, 1, 0] s

/-- A request of a shunter has ended (R407, R431). -/
def State.shReply (s : State) (n : Fin 16) (id reply : Nat) (data : List Byte) : State :=
  match (s.shu n).pieces.find? fun p => p.req == some id with
  | some p => (s.pieceReply n p reply data).shPumpAll
  | none => s.shPumpAll

/-! ### Fetching (R425 to R427) -/

/-- A fetch is issued. -/
def State.shFetch (s : State) (n : Fin 16) (at_ : Word × Word) (sid expGen : Nat) : State :=
  let s := (s.setR (Rg.SH_CUR_LO n.val) at_.1).setR (Rg.SH_CUR_HI n.val) at_.2
  let s := s.modShu n fun h =>
    { first := h.first, hops := h.hops, stage := .fetch, sid := sid, expGen := expGen
      pieces := if isLocal at_.2 then [] else [⟨0, 64, false, s.now, none, none⟩] }
  (s.setF (Fd.SH_CNT_HOPS n.val) (s.shu n).hops).shPump n

/-- An address that no waybill can have (BAD_NEXT), or a chain that loops (LOOP), ends it HALTED (R424, R427). -/
def State.shStray (s : State) (n : Fin 16) (end_ : Nat) (at_ : Word × Word) : State := (s.shRest n 3 end_ at_).raise 98

/-- GO and RESUME (R424) from IDLE or HALTED. -/
def State.shStart (s : State) (n : Fin 16) (at_ : Word × Word) : State :=
  let s := s.setR (Rg.SH_STAT n.val) ((s.getR (Rg.SH_STAT n.val) &&& 0x0400_0000) ||| 1)
  let s := s.setBitF Fd.SH_BUSY_BUSY n.val
  if waybillPlace at_.1 at_.2 then
    (s.modShu n fun _ => { first := at_, hops := 1 }).shFetch n at_ (s.getF (Fd.SH_CFG_SID n.val)) 0
  else s.shStray n 6 at_

/-- The limit of R427. -/
def State.hopLim (s : State) (n : Fin 16) : Nat :=
  let l := s.getF (Fd.SH_CFG_HOP_LIM n.val)
  if l = 0 then 65536 else l

/-- The chain goes on with NEXT (R427). -/
def State.shNext (s : State) (n : Fin 16) : State :=
  let h := s.shu n
  let nx := h.next
  if !waybillPlace nx.1 nx.2 then s.shStray n 6 nx
  else if nx = h.first ∨ s.hopLim n < h.hops + 1 then s.shStray n 5 nx
  else (s.modShu n fun h => { h with hops := h.hops + 1 }).shFetch n nx (fieldOf (h.word 13) 0 10) (fieldOf (h.word 13) 16 8)

/-- A fetch has failed: nothing is written to the waybill (R426). -/
def State.fetchFail (s : State) (n : Fin 16) (code detail : Nat) : State :=
  s.shError n { code := code, detail := detail, at_ := some (s.shCur n) } true

/-- A fetched waybill (R421, R423, R424, R426). -/
def State.shFetched (s : State) (n : Fin 16) (words : List Word) : State :=
  let s := s.modShu n fun h => { h with words := words, got := none }
  let h := s.shu n
  if !h.ctrl 31 then s.shRest n 0 2 (s.shCur n)
  else match h.badWaybill with
    | some d => ((s.shFail n 3 d 0 none).toBack n).shPump n
    | none => (s.modShu n fun h => { h with stage := if h.crcEn then .unit else .move }).shPump n

/-- The words of the 64 bytes of a waybill. -/
def wordsOfBytes (bs : List Byte) : List Word := (List.range 16).map fun i => Word.ofNat (leNat ((bs.drop (4 * i)).take 4))

/-! ### Completion (R434, R435) -/

/-- The write-back has ended, or has failed with a code and a detail. -/
def State.shComplete (s : State) (n : Fin 16) (wb : Option (Nat × Nat)) : State :=
  let h := s.shu n
  let s := s.shUnitFree n
  match h.fail, wb with
  | some f, w => (s.shError n f w.isSome).shPumpAll
  | none, some (c, d) => (s.shError n { code := c, detail := d, side := 1, at_ := some (s.shCur n) } true).shPumpAll
  | none, none =>
    let s := if h.ctrl 30 then s.setBitF Fd.SH_EVT_DONE n.val else s
    let s := s.setF (Fd.SH_CNT_WAYBILLS n.val) (s.getF (Fd.SH_CNT_WAYBILLS n.val) + 1)
    let s := s.setF (Fd.SH_BYTES_BYTES n.val) (s.getF (Fd.SH_BYTES_BYTES n.val) + h.total)
    let s :=
      if s.getF (Fd.SH_STAT_STATE n.val) = 2 then s.shRest n 0 3 h.next
      else if h.ctrl 10 then s.shNext n
      else s.shRest n 0 1 h.next
    s.shPumpAll

/-! ### The commands of `SH_CTRL` (R424, R425, R445) -/

def State.shIgnored (s : State) (n : Fin 16) : State := s.onF (Fd.SH_STAT_GO_IGNORED n.val)

/-- GO or RESUME. -/
def State.shGo (s : State) (n : Fin 16) (resume : Bool) : State :=
  if s.shActive n then s.shIgnored n
  else if resume then s.shStart n (s.getR (Rg.SH_RESUME_LO n.val), s.getR (Rg.SH_RESUME_HI n.val))
  else s.shStart n (s.getR (Rg.SH_HEAD_LO n.val), s.getR (Rg.SH_HEAD_HI n.val))

/-- STOP: at a waybill boundary, and at once where a fetch is under way. -/
def State.shStop (s : State) (n : Fin 16) : State :=
  if s.getF (Fd.SH_STAT_STATE n.val) ≠ 1 then s
  else if (s.shu n).stage = .fetch then s.shRest n 0 3 (s.shCur n)
  else (s.setF (Fd.SH_STAT_STATE n.val) 2).onF (Fd.SH_CTRL_STOP n.val)

/-- A write of `SH_CTRL`: STOP wins over GO and RESUME, and GO over RESUME. -/
def State.shCtrl (s : State) (n : Fin 16) (v : Word) : State :=
  let go := v.getLsbD 0
  let res := v.getLsbD 1
  if v.getLsbD 2 then (if go || res then s.shIgnored n else s).shStop n
  else if go then (if res then s.shIgnored n else s).shGo n false
  else if res then s.shGo n true
  else s

/-! ### Resets that shunters meet (R445) -/

/-- Pending station pieces end REFUSED with ABORTED_RESET. -/
def State.abortPieces (s : State) : State :=
  State.each (fun n s =>
    let out := (s.shu n).pieces.filter fun p => p.req.isSome
    if !s.shActive n then s else (State.each (fun p s => s.pieceFail n p 8 rAborted) out s).shPump n) all16 s

/-- Claimed units are lost: the waybills end ACCESS with detail CRC_UNIT. -/
def State.loseUnits (s : State) : State :=
  State.each (fun n s =>
    if (s.shu n).unit.isSome && s.shActive n then
      let s := s.modShu n fun h => { h with unit := none }
      if (s.shu n).stage = .move then ((s.shFail n 4 7 0 none).shCheckEnd n).shPump n else s
    else s) all16 s

end Sys2Proof.Machine
end

