-- ==== Sys2Proof/Machine/Settle.lean ====
section
/-! DEFINITION. The end of a command: what a reset within it left due at other blocks is worked off, and
the command answers the next state. And the end of a debug step. -/

namespace Sys2Proof.Machine

/-- One thing that is due. -/
def State.workOff (s : State) : Due → State
  | .withdraw t => s.withdrawTriad t
  | .linkLost p => (((s.onF (match p with
      | .east => Fd.OV_EVT_E_DOWN
      | .west => Fd.OV_EVT_W_DOWN)).incF (Fd.OV_LOSS_LOSSES p.idx)).raise (if p = .east then 32 else 33)).enterHoldover
  | .lockLost => s.raise 51
  | .accessAborted m =>
    match (s.mach m).wait with
    | .station a _ => s.accessEnd m a rAborted 0 0 []
    | _ => s
  | .calAborted => s.raise 28
  | .flashAborted => s.raise 30
  | .piecesAborted => s.abortPieces
  | .unitsLost => s.loseUnits
  | .srvAborted dst cls q d key => s.sendKeyed key dst cls q rAborted 0 d [] true

/-- What is due is worked off in order; `n` bounds the number. -/
def State.settleN : Nat → State → State
  | 0, s => s
  | n + 1, s =>
    match s.rst.due with
    | [] => s
    | d :: r => State.settleN n ({ s with rst := { s.rst with due := r } }.workOff d)

/-- Each block enters reset at most once in a command, and leaves no more due than the server holds requests, and
a few things more. -/
def State.settle (s : State) : State := State.settleN 1024 s

/-- The outcome of a command that takes effect. -/
def ok (s : State) : Host.Outcome State Fault Refusal := .next s.settle

/-- A debug step is over once its instruction executes (R191). -/
def State.endStep (s : State) (m : Mach) : State :=
  if (s.mach m).step then s.modMach m fun x => { x with step := false } else s

end Sys2Proof.Machine
end

