-- ==== Sys2Proof/Machine/CalstCmd.lean ====
section
/-! DEFINITION. The commands of the calibration store and of flash programming (R466 to R477). -/

namespace Sys2Proof.Machine

/-- CS_WRITE (R470). -/
def execCsWrite (s : State) : Host.Outcome State Fault Refusal := if s.calLive then ok s.fpDisturb.calWrite else ok s

/-- CAL_COPY_COMPLETE (R470). -/
def execCalCopyComplete (s : State) : Host.Outcome State Fault Refusal :=
  if s.flashStarts && s.getF Fd.CS_STAT_STEP == 1 then ok s.calCopied else ok s

/-- CAL_ERASE_COMPLETE (R470): `blank` is the outcome of the blank check. -/
def execCalEraseComplete (blank : Bool) (s : State) : Host.Outcome State Fault Refusal :=
  if s.flashStarts && s.getF Fd.CS_STAT_STEP == 2 then ok (s.calErased blank) else ok s

/-- CAL_PROGRAM_COMPLETE (R470). -/
def execCalProgramComplete (s : State) : Host.Outcome State Fault Refusal :=
  if s.calLive && s.getF Fd.CS_STAT_STEP == 3 then ok s.calProgrammed else ok s

/-- CAL_VERIFY_COMPLETE (R470, R471): `good` is the outcome of the read-back. -/
def execCalVerifyComplete (good : Bool) (s : State) : Host.Outcome State Fault Refusal :=
  if s.calLive && s.getF Fd.CS_STAT_STEP == 4 then
    if !good then ok (s.calStop.calFail 9) else if s.pwr.failing then ok s else ok (s.setF Fd.CS_STAT_STEP 5)
  else ok s

/-- CAL_COMMIT_COMPLETE (R470). -/
def execCalCommitComplete (s : State) : Host.Outcome State Fault Refusal :=
  if s.calLive && s.getF Fd.CS_STAT_STEP == 5 then ok s.calCommitted else ok s

/-- FP_KEY_WRITE (R475). -/
def execFpKeyWrite (v : Word) (s : State) : Host.Outcome State Fault Refusal :=
  if s.calLive then ok (s.fpKey v.toNat) else ok s

/-- FP_ERASE (R475). -/
def execFpErase (s : State) : Host.Outcome State Fault Refusal := if s.calLive then ok (s.fpGo 1) else ok s

/-- FP_PROGRAM (R475). -/
def execFpProgram (s : State) : Host.Outcome State Fault Refusal := if s.calLive then ok (s.fpGo 2) else ok s

/-- FP_ERASE_COMPLETE (R476): `blank` is the outcome of the blank check. -/
def execFpEraseComplete (blank : Bool) (s : State) : Host.Outcome State Fault Refusal :=
  match s.cs.fpOp with
  | some (.erase k) =>
    if s.calLive then
      let s := { s with cs := { s.cs with fpOp := none } }.tlEraseEnd
      if blank then ok ((s.eraseSector k).fpDone.incF Fd.FP_CNT_ERASES)
      else ok ((s.offF Fd.FP_STAT_BUSY).fpFail 0xA)
    else ok s
  | _ => ok s

/-- FP_PROGRAM_COMPLETE (R476): `good` is the outcome of the read-back. -/
def execFpProgramComplete (good : Bool) (s : State) : Host.Outcome State Fault Refusal :=
  match s.cs.fpOp with
  | some (.program a bs) =>
    if s.calLive then
      let s := { s with cs := { s.cs with fpOp := none } }
      if good then ok (((s.dropFlux (sectorOf a)).flashProgram a bs).fpDone)
      else ok ((s.offF Fd.FP_STAT_BUSY).fpFail 0xB)
    else ok s
  | _ => ok s

end Sys2Proof.Machine
end

