-- ==== Sys2Proof/Machine/Reflex.lean ====
section
/-! DEFINITION. Events at the reflex lanes (R333). -/

namespace Sys2Proof.Machine

/-- A lane is RUNNING. -/
def State.laneRuns (s : State) (n : Fin 16) : Bool := s.getF (Fd.RFX_STAT_STATE n.val) == 1

/-- The pending bit of a selector of a lane is set; an event that finds it set is merged and counted. -/
def State.pendSel (s : State) (n : Fin 16) (i : Nat) : State :=
  if s.bitF (Fd.RFX_PEND_PEND n.val) i then s.incF (Fd.RFX_STAT_OVERRUN n.val)
  else s.setBitF (Fd.RFX_PEND_PEND n.val) i

/-- A selector of a lane names an event kind and, but for DEPARTURE, the channel. -/
def State.selMatch (s : State) (kind : Nat) (c : Fin 16) (n : Fin 16) (i : Nat) : Bool :=
  s.getF (Fd.RFX_SEL_KIND n.val i) == kind && (kind == 7 || s.getF (Fd.RFX_SEL_CH n.val i) == c.val)

/-- An event of a kind on a channel reaches every RUNNING lane. -/
def State.laneEvent (kind : Nat) (c : Fin 16) (s : State) : State :=
  State.each (fun n s => State.each (fun i s => s.pendSel n i) ((List.range 8).filter (s.selMatch kind c n)) s)
    (all16.filter s.laneRuns) s

/-- The kinds of R333. -/
def evFast : Nat := 1
def evEdge : Nat := 2
def evHi : Nat := 3
def evLo : Nat := 4
def evCmp : Nat := 5
def evWhistle : Nat := 6
def evDeparture : Nat := 7

end Sys2Proof.Machine
end

