-- ==== Sys2Proof/Machine/Channel.lean ====
section
/-! DEFINITION. The channel controllers (08_channel_architecture.md): states and transitions (R250 to
R258), the state word and its copies (R264 to R266), requests and their registration (R155 to R157,
R252, R265, R268), module refuge at the channels (R255). -/

namespace Sys2Proof.Machine

/-! ### The state word -/

def stOff : Nat := 0
def stConfiguring : Nat := 1
def stArmed : Nat := 2
def stActive : Nat := 3
def stShutting : Nat := 4
def stRefuge : Nat := 5
def stFaulted : Nat := 6

def State.chSt (s : State) (n : Fin 16) : Nat := s.getF (Fd.CH_STATE_STATE n.val)

/-- The channel converts, latches and drives: ARMED, ACTIVE or REFUGE, and not shed to the floor by a
power-fail sequence (R52). -/
def State.chOn (s : State) (n : Fin 16) : Bool :=
  (s.chSt n == stArmed || s.chSt n == stActive || s.chSt n == stRefuge) && !s.pwr.failing

/-- The mode of the configuration in force, or being configured or shut down. -/
def State.chMode (s : State) (n : Fin 16) : Nat := (s.ch n).cfg.mode

/-- The channel's block is there to act: the module runs and the block is not in reset. -/
def State.chLive (s : State) (n : Fin 16) : Bool := s.phase == .running && !s.inReset (.ch n)

/-- The module is in refuge. -/
def State.refuge (s : State) : Bool := s.isF Fd.RFG_STAT_ACTIVE

/-- The die reports its copy of the state word (R266). -/
def State.dieReport (s : State) (n : Fin 16) : State := s.setR (Rg.CH_STATE_DIE n.val) (s.getR (Rg.CH_STATE n.val))

/-- STATE changes; the die reports the change. -/
def State.setChSt (s : State) (n : Fin 16) (st : Nat) : State :=
  if s.chSt n = st then s
  else ((s.setF (Fd.CH_STATE_STATE n.val) st).onF (Fd.CH_EVT_STATE_CHG n.val)).dieReport n

/-- DIAG of the state word follows the active diagnostics (R351). -/
def State.showDiag (s : State) (n : Fin 16) : State :=
  (s.setF (Fd.CH_STATE_DIAG n.val) (b2n ((s.ch n).diagNow != 0))).dieReport n

/-- `CH_QUEUE` follows the requests (R265, R270). -/
def ChSlot.isLive (q : ChSlot) : Bool := q.record.isSome || !q.items.isEmpty

def State.showQueue (s : State) (n : Fin 16) : State :=
  let h := s.ch n
  let rec_ := h.later.record <|> h.next.record
  let gen := s.getF (Fd.CH_STATE_GEN n.val)
  let q := b2n rec_.isSome + 2 * b2n h.later.record.isSome + 16 * ((rec_.map recMode).getD 0)
    + 256 * min 255 (h.next.items.length + h.later.items.length)
    + 65536 * (if h.next.isLive || h.later.isLive then (gen + b2n h.next.isLive + b2n h.later.isLive) % 65536 else 0)
  s.setR (Rg.CH_QUEUE n.val) (BitVec.ofNat 32 q)

/-- A CHSET item or a queued request is discarded: the event, and, at a departure, DISCARD. -/
def State.discardEvt (s : State) (n : Fin 16) : State := s.onF (Fd.CH_EVT_DISCARD n.val)
def State.discard (s : State) (n : Fin 16) : State := (s.onF (Fd.CH_STATE_DISCARD n.val)).discardEvt n

/-! ### What leaving a state ends -/

/-- Sequences stop; a running slot is abandoned (R305). -/
def ChanH.stopSeq (h : ChanH) : ChanH := { h with regSlot := none, regNext := none, injWait := none, injSlot := none }

/-- A hold, a trim point drive and every active diagnostic end, and with REFUGE what REFUGE_CTRL says of it (R321, R336,
R350, R362). -/
def ChanH.quiet (h : ChanH) : ChanH :=
  { h.stopSeq with holdL := 0, holdE := 0, trimCmd := 0, diagNow := 0, fastArmed := false, swOff := false, swLatched := false,
                   rbFound := [], injQ := [], injLost := false, rcAuto := false, rcCause := 0, held := {} }

/-- The output trim points N1 and N2 (R321). -/
def trimPoints (mode : Nat) : Int × Int := if mode = mVO then (-8000000, 8000000) else (4000000, 20000000)

/-- Where the output stands from which SHUTTING ramps down (R250): at a trim point where one is driven. -/
def ChanH.stands (h : ChanH) : Int :=
  if h.trimCmd = 1 then (trimPoints h.cfg.mode).1 else if h.trimCmd = 2 then (trimPoints h.cfg.mode).2 else h.pos

/-- The position of the DAC follows a target that steps (R311): leaving high-impedance starts from 0. -/
def posOf (w : Word) : Int := if w = highZ then 0 else w.toInt

/-- A target that steps at once. -/
def ChanH.step (h : ChanH) (w : Word) : ChanH := { h with target := w, pos := posOf w }

/-- The start, at a time, of the sequences of a regular trigger CONTINUOUS (R279, R280). -/
def ChanH.startContinuous (h : ChanH) (now : Nat) : ChanH :=
  let c := h.cfg.item 1
  if isAnaIn h.cfg.mode && c.getLsbD 0 && fieldOf c 1 3 == 0 && h.regSlot.isNone && h.regNext.isNone && h.injSlot.isNone then
    { h with regSlot := some 0, regStart := some now }
  else h

/-! ### The transitions (R251) -/

def hrMv (w : Word) (lo : Nat) : Nat := 100 * fieldOf w lo 7

/-- OFF is reached: the record is cleared. -/
def State.toOff (s : State) (n : Fin 16) : State :=
  let h := s.ch n
  let s := s.setCh n { next := h.next, later := h.later, pend := h.pend, offAt := s.now, badTimes := h.badTimes
                       level := h.level, fastIn := h.fastIn, actSeq := h.actSeq, pLow := h.pLow }
  let s := State.each (fun w s => s.setR (Rg.CH_REC n.val w) 0) (List.range 16) s
  let s := ((s.setF (Fd.CH_STATE_MODE n.val) 0).offF (Fd.CH_STATE_PENDING n.val)).offF (Fd.CH_STATE_MOD_REFUGE n.val)
  (s.setF (Fd.CH_STATE_FCAUSE n.val) 0).showDiag n |>.setChSt n stOff

/-- The trim entry of the calibration store that applies to a mode, within the limits of R320. -/
def State.trimEntry (s : State) (n : Fin 16) (mode : Nat) : Option CalEntry :=
  s.cs.shadow.find? fun e =>
    e.ch == n.val && e.range == (if mode = mVO then 0 else 1) && e.gain.toInt.natAbs ≤ 20000
      && e.ofs.toInt.natAbs ≤ (if mode = mVO then 200000 else 240000)

/-- The trim in force is loaded from the store, or is none (R319, R320). -/
def State.loadTrim (s : State) (n : Fin 16) (h : ChanH) : ChanH :=
  match s.trimEntry n h.cfg.mode with
  | some e => { h with trimGain := e.gain.toInt, trimOfs := e.ofs.toInt, trimSrc := 1 }
  | none => { h with trimGain := 0, trimOfs := 0, trimSrc := 0 }

/-- Command items are never carried with a record (R268). -/
def isCommand (i : Nat) : Bool := i == 0x25 || i == 0x13 || i == 0x1D

/-- CONFIGURING begins with a record and the items carried with it (R251, R268). -/
def State.startConfig (s : State) (n : Fin 16) (q : ChSlot) : State :=
  let r := q.record.getD []
  let h := s.ch n
  let cfg := q.items.foldl (fun c p => if itemSet c.mode c.variant p.1 then c.setItem p.1 p.2 else c) (ChCfg.ofRec r)
  let h : ChanH := { next := h.next, later := h.later, cfg := cfg, since := s.now, age := 0xFFFF_FFFF
                     badTimes := h.badTimes, dieSkew := h.dieSkew, actSeq := h.actSeq, level := h.level, fastIn := h.fastIn
                     pLow := h.pLow }
  let h := if isAnaOut cfg.mode then s.loadTrim n h else h
  let s := s.setCh n h
  let s := State.each (fun w s => s.setR (Rg.CH_REC n.val w) (recW r w)) (List.range 16) s
  ((s.setF (Fd.CH_STATE_MODE n.val) cfg.mode).offF (Fd.CH_STATE_PENDING n.val)).setChSt n stConfiguring

/-- What the channel holds when ARMED registers at a time: sequences and counters start (R300, R305), the
output is at the de-energised level, the headroom at its target. -/
def ChanH.arm (h : ChanH) (now : Nat) : ChanH :=
  let c := h.cfg
  let h := { h with done := none, seen := [], aux := {}, proc := [], lastEdge := none, rbV := [], rbI := [], rbCur := false
                    count := if c.mode = mCounter then c.item 9 else 0
                    value := if isAnaIn c.mode then highZ else 0
                    age := if isAnaIn c.mode then 0xFFFF_FFFF else 0
                    leadNow := c.item 4
                    heff := hrMv (c.item 0x10) 0, vboost := if isAnaOut c.mode then 6000 else 0 }
  if isOutput c.mode then h.step (deEnergised c.mode) else h.startContinuous now

/-- REFUGE is entered by module refuge, or per channel (R251, R358, R359): refuge values step, holds and a
trim point drive end. -/
def State.chRefuge (s : State) (n : Fin 16) (mod_ auto : Bool) (cause : Nat) : State :=
  let s := s.modCh n fun h =>
    let h := { h with holdL := 0, holdE := 0, trimCmd := 0 }
    let h := { h with rcAuto := auto, rcCause := if auto then cause else 0 }
    if isOutput h.cfg.mode then h.step (h.cfg.refugeValue h.target) else h
  (s.setF (Fd.CH_STATE_MOD_REFUGE n.val) (b2n mod_)).setChSt n stRefuge

/-- The end of CONFIGURING registers (R251). -/
def State.armCh (s : State) (n : Fin 16) : State :=
  let s := s.modCh n fun h => h.arm s.tt.clk
  if s.refuge then s.chRefuge n true false 0
  else (s.setChSt n stArmed).onF (Fd.CH_EVT_ARMED n.val)

/-- SHUTTING begins, with the record that waits for its end, if any. -/
def State.startShut (s : State) (n : Fin 16) (q : Option ChSlot) : State :=
  let s := s.modCh n fun h => { h.quiet with pend := q, since := s.now, done := none, pos := h.stands }
  let s := (s.offF (Fd.CH_STATE_MOD_REFUGE n.val)).setF (Fd.CH_STATE_FCAUSE n.val) 0
  ((s.setF (Fd.CH_STATE_PENDING n.val) (b2n q.isSome)).showDiag n).setChSt n stShutting

/-- FAULTED is entered (R256), without its source. -/
def State.faultCore (s : State) (n : Fin 16) (cause : Nat) : State :=
  let s := s.modCh n fun h => { h.quiet with pend := none, done := none, pos := 0 }
  let s := (s.offF (Fd.CH_STATE_PENDING n.val)).offF (Fd.CH_STATE_MOD_REFUGE n.val)
  let s := (s.setF (Fd.CH_STATE_FCAUSE n.val) cause).showDiag n
  let s := ((s.setF (Fd.CH_FAULT_CAUSE n.val) cause).incF (Fd.CH_FAULT_COUNT n.val)).onF (Fd.CH_EVT_FAULTED n.val)
  s.setChSt n stFaulted

/-- The channel can enter FAULTED by a cause: from any state but FAULTED, from OFF by causes 1 to 4 only, and
by TRIM only while it configures (R251, R256). -/
def State.canFault (s : State) (n : Fin 16) (cause : Nat) : Bool :=
  s.chLive n && s.chSt n != stFaulted && (s.chSt n != stOff || cause ≤ 4)
    && (cause != 6 || s.chSt n == stConfiguring) && 1 ≤ cause && cause ≤ 7

/-- A channel-die fault. -/
def State.chFault (s : State) (n : Fin 16) (cause : Nat) : State :=
  if s.canFault n cause then (s.faultCore n cause).raise (80 + n.val) else s

/-! ### Module refuge (R255, R512) -/

/-- What entry to the module refuge does to one channel: requests that have not registered are discarded, and PENDING in
SHUTTING (R251); the die reports the change (R266). -/
def State.refugeCh (n : Fin 16) (s : State) : State :=
  let h := s.ch n
  let s := if h.next.isLive || h.later.isLive then s.discardEvt n else s
  let s := (s.setCh n { h with next := {}, later := {} }).showQueue n
  if s.chSt n = stArmed ∨ s.chSt n = stActive then s.chRefuge n true false 0
  else if s.chSt n = stRefuge then (s.onF (Fd.CH_STATE_MOD_REFUGE n.val)).dieReport n
  else if s.chSt n = stShutting then
    ((s.modCh n fun h => { h with pend := none }).offF (Fd.CH_STATE_PENDING n.val)).dieReport n
  else s

/-- The module enters refuge (R512): the registers, the channels, the proposals. The source is raised by
the caller. -/
def State.enterRefuge (s : State) (cause : Nat) : State :=
  if s.refuge then s
  else (State.each State.refugeCh all16 (s.refugeRegs cause)).withdrawAll

/-! ### Requests (R155 to R157, R252) -/

/-- Whether a request that arrives now waits for the departure after the next one (R156). -/
def State.isLater (s : State) : Bool := s.isF Fd.TT_STAT_LOCKED && s.deadline ≤ s.tt.clk

/-- An item takes its place behind the others; an earlier one of the same item goes. -/
def putItem (l : List (Nat × Word)) (i : Nat) (v : Word) : List (Nat × Word) := l.filter (fun p => p.1 != i) ++ [(i, v)]

/-- Items behind others. -/
def putItems (l q : List (Nat × Word)) : List (Nat × Word) := q.foldl (fun l p => putItem l p.1 p.2) l

/-- The configuration that will be in force at the registration departure of a request that arrives now. -/
def State.cfgAt (s : State) (n : Fin 16) (later : Bool) : ChCfg :=
  let h := s.ch n
  let put := fun (c : ChCfg) (q : ChSlot) =>
    q.items.foldl (fun c p => if isCommand p.1 then c else c.setItem p.1 p.2)
      (match q.record with
       | some r => ChCfg.ofRec r
       | none => c)
  let base := match h.pend with
    | some q => put {} q
    | none => if s.chSt n = stOff ∨ s.chSt n = stShutting then {} else put h.cfg h.held
  let c := put base h.next
  if later then put c h.later else c

/-- CHMODE with a record (R155, R252, R262): the value it returns. -/
def State.chMode_ (s : State) (n : Fin 16) (r : List Word) : Word × State :=
  if s.refuge then (4, s)
  else if !recOk n.val r then (2, s)
  else if s.chSt n = stFaulted ∧ recMode r ≠ mOff then (3, s)
  else
    let later := s.isLater
    let h := s.ch n
    let q := if later then h.later else h.next
    let h' := if later then { h with later := { h.later with record := some r } } else { h with next := { h.next with record := some r } }
    let gen := s.getF (Fd.CH_STATE_GEN n.val) + 1 + b2n (later && h.next.isLive)
    let code := b2n (s.chSt n == stShutting) + 16 * b2n q.record.isSome + 32 * b2n later + 65536 * (gen % 65536)
    (BitVec.ofNat 32 code, (s.setCh n h').showQueue n)

/-- CHSET of an item other than 0x00 (R157): the value it returns. `HOLD_REL` keeps the number of the last
action that it releases (R336). -/
def State.chSet (s : State) (n : Fin 16) (i : Nat) (v : Word) : Word × State :=
  if s.refuge then (5, s)
  else
    let later := s.isLater
    let c := s.cfgAt n later
    let drives := i = 0x13 ∧ 1 ≤ v.toNat ∧ v.toNat ≤ 4
    if itemSet c.mode c.variant i = false ∨ (drives ∧ (isAnaOut (s.chMode n) && s.chSt n == stActive) = false) then (2, s)
    else if (c.setItem i v).itemOk i = false then (3, s)
    else
      let h := s.ch n
      let q := if later then h.later else h.next
      let v := if i = 0x1D then BitVec.ofNat 32 h.actSeq else v
      let q' := { q with items := putItem q.items i v }
      let h' := if later then { h with later := q' } else { h with next := q' }
      (BitVec.ofNat 32 (16 * b2n (q.items.any fun p => p.1 == i) + 32 * b2n later), (s.setCh n h').showQueue n)

/-- A management write to a channel's configuration is refused and counted (R263). -/
def State.mgmtRefuse (s : State) (n : Fin 16) : State :=
  (s.incF (Fd.CH_REFUSE_COUNT n.val)).onF (Fd.CH_EVT_MGMT_REFUSED n.val)

/-! ### Outputs at other times -/

/-- The next departure is due: node time has reached it. -/
def State.depDue (s : State) : Bool := s.isF Fd.TT_STAT_LOCKED && s.nextDep ≤ s.tt.clk

/-- The channel will be an ACTIVE output at the next departure (R164, R254, R359, R360), with `DIAG_CFG` as it will have
registered by then. -/
def State.willDrive (s : State) (n : Fin 16) : Bool :=
  let h := s.ch n
  let items := putItems h.held.items h.next.items
  let cmd := lookupNat 0x25 items
  let dc := (lookupNat 0x20 items).getD (h.cfg.item 0x20)
  let auto := h.diagNow &&& fieldOf dc 0 11 &&& fieldOf dc 16 11 != 0
  isOutput h.cfg.mode && h.next.record.isNone &&
    (if s.chSt n = stArmed then cmd != some 1 && !auto
     else if s.chSt n = stActive then cmd != some 1
     else s.chSt n == stRefuge && !s.refuge && cmd == some 2 && !auto)

/-- The channel is an ACTIVE output. -/
def State.activeOut (s : State) (n : Fin 16) : Bool := s.chSt n == stActive && isOutput (s.chMode n)

end Sys2Proof.Machine
end

