-- ==== Sys2Proof/Machine/Diag.lean ====
section
/-! DEFINITION. Field wiring diagnostics (11_field_diagnostics.md): activation, the entry into per-channel
refuge that it can cause, clearing, and the evaluation of output readback (R349 to R355, R359). -/

namespace Sys2Proof.Machine

/-- The bits of the diagnostics of R348. -/
def dShortLp : Nat := 1
def dOverload : Nat := 3
def dOpenLoop : Nat := 4
def dCompliance : Nat := 5

def ChanH.diagEn (h : ChanH) (b : Nat) : Bool := (fieldOf (h.cfg.item 0x20) 0 11).testBit b
def ChanH.diagAuto (h : ChanH) : Nat := fieldOf (h.cfg.item 0x20) 16 11

/-- A diagnostic that readback results decide (R349): SHORT_LP of a voltage output, OPEN_LOOP, COMPLIANCE and SHORT_LP of
a current output. -/
def ChCfg.byReadback (c : ChCfg) (b : Nat) : Bool :=
  (c.mode == mVO && b == 1) || (c.mode == mCO && (b == 1 || b == 4 || b == 5))

/-- Whether a diagnostic is evaluated now (R349, R350): one that readback decides is suspended in STABLED. -/
def State.diagRuns (s : State) (n : Fin 16) (b : Nat) : Bool :=
  s.chLive n && s.chOn n && (s.ch n).diagEn b && (diagAllowed (s.ch n).cfg).testBit b
    && (!(s.ch n).cfg.byReadback b || s.getF Fd.SLEEP_STAT_STATE < 2 || s.slp.supplyUp)

/-- The bits and the time of diagnostics that become active; what lies at the departure that is due, or after it,
belongs to the interval that begins there (R348). -/
def ChanH.activate (h : ChanH) (m now : Nat) (late : Bool) : ChanH :=
  let h := { h with diagNow := h.diagNow ||| m }
  if late then { h with diagLate := some now } else { h with occurred := h.occurred ||| m, diagTime := now }

/-- Diagnostics become active at one evaluation (R351, R359): their bits and the time, the entry into REFUGE of an ACTIVE
output for those whose AUTO bit is set, and last the source. Of `m`, those count that are evaluated and not active. -/
def State.diagSetAll (s : State) (n : Fin 16) (m : Nat) : State :=
  let m := ((List.range 11).filter fun b => m.testBit b && s.diagRuns n b && !(s.ch n).diagNow.testBit b).foldl (fun a b => a + 2 ^ b) 0
  if m = 0 then s
  else
    let s := (s.modCh n fun h => h.activate m s.tt.clk s.depDue).showDiag n
    let s := if s.activeOut n && (s.ch n).diagAuto &&& m != 0 then s.chRefuge n false true ((s.ch n).diagAuto &&& m) else s
    s.raise (64 + n.val)

/-- One diagnostic becomes active. -/
def State.diagSet (s : State) (n : Fin 16) (b : Nat) : State := s.diagSetAll n (2 ^ b)

/-- A diagnostic becomes inactive (R350). -/
def State.diagClear (s : State) (n : Fin 16) (b : Nat) : State :=
  if (s.ch n).diagNow.testBit b then
    (s.modCh n fun h => { h with diagNow := h.diagNow - 2 ^ b, rbFound := h.rbFound.filter fun p => p.1 != b }).showDiag n
  else s

/-! ### Readback (R349, R355) -/

/-- Compares a reading with a threshold that lies anywhere from `lo` to `hi`: free in between. -/
def State.above (s : State) (x lo hi : Int) : Bool × State :=
  if hi < x then (true, s)
  else if x < lo then (false, s)
  else
    let (v, s) := s.takeFree
    (v.getLsbD 0, s)

/-- Readback diagnostics evaluated together: `m` are those evaluated, `found` those whose condition was found. One found
is noted and becomes active; another becomes inactive at the first evaluation at least 10 ms after the last that found
it. -/
def State.rbJudge (s : State) (n : Fin 16) (m found : Nat) : State :=
  let bits := (List.range 11).filter m.testBit
  let s := State.each (fun b s =>
    if found.testBit b then s.modCh n fun h => { h with rbFound := insertNat b s.now h.rbFound }
    else match lookupNat b (s.ch n).rbFound with
      | some t => if 10000000 ≤ s.now - t then s.diagClear n b else s
      | none => s.diagClear n b) bits s
  s.diagSetAll n (m &&& found)

/-- The setpoint of R355 in nA. -/
def ChanH.setpoint (h : ChanH) : Int := h.target.toInt * h.fold / 100

/-- The evaluation at a current readback result (R349, R355). A target of 0x8000_0000 and a setpoint below 1 mA are
evaluated for SHORT_LP alone. -/
def State.rbEvaluate (s : State) (n : Fin 16) (volt cur : Int) : State :=
  let h := s.ch n
  if h.cfg.mode = mVO then
    let (f, s) := s.above volt.natAbs 11800000 12200000
    s.rbJudge n 0x02 (2 * b2n f)
  else if h.cfg.mode = mCO then
    let (lp, s) := s.above volt 28700000 29300000
    if h.target = highZ ∨ h.setpoint < 1000000 then s.rbJudge n 0x02 (2 * b2n lp)
    else
      let sp := h.setpoint
      let (ten, s) := s.above (cur * 1000) (sp * 95) (sp * 105)
      let (full, s) := s.above (cur * 1000) (sp * 993) (sp * 997)
      s.rbJudge n 0x32 (2 * b2n lp + 16 * b2n (h.boostFull && !ten) + 32 * b2n (h.boostFull && ten && !full))
  else s

end Sys2Proof.Machine
end

