-- ==== Sys2Proof/Machine/Sleep.lean ====
section
/-! DEFINITION. STABLED: requests, wake events and the conditions of entry (R84 to R90). -/

namespace Sys2Proof.Machine

def slAwake : Nat := 0
def slEntering : Nat := 1
def slStabled : Nat := 2
def slWaking : Nat := 3

def State.sleepState (s : State) : Nat := s.getF Fd.SLEEP_STAT_STATE

/-- The cores and the conversions stand still. -/
def State.asleep (s : State) : Bool := 2 ≤ s.sleepState

/-- Both ready bits are 1. -/
def State.bothReady (s : State) : Bool := s.isF Fd.SLEEP_CTRL_RDY_A && s.isF Fd.SLEEP_CTRL_RDY_B

/-- The ready bits return to 0. -/
def State.clearReady (s : State) : State :=
  let s := (s.offF Fd.SLEEP_CTRL_RDY_A).offF Fd.SLEEP_CTRL_RDY_B
  { s with slp := { s.slp with wrote := Vector.replicate 4 false } }

/-- The ready bit of a triad becomes 1. -/
def State.setReady (s : State) (t : Triad) : State :=
  match t with
  | .a => s.onF Fd.SLEEP_CTRL_RDY_A
  | .b => s.onF Fd.SLEEP_CTRL_RDY_B

/-- A write of 1 to a ready bit by a machine (R86): in a split triad both of its machines must have
written it, so that a write from elsewhere sets nothing there. -/
def State.readyBy (s : State) (t : Triad) (m : Option Mach) : State :=
  if s.split t = false then s.setReady t
  else match m with
  | none => s
  | some m =>
    if m.triad ≠ t then s
    else
      let s := { s with slp := { s.slp with wrote := vset s.slp.wrote m.idx true } }
      if vget s.slp.wrote (t.mach 0).idx && vget s.slp.wrote (t.mach 1).idx then s.setReady t else s

/-- The kinds of wake event, by the place of their bit in `WAKE_CAUSE` and in `WAKE_EN` (R89). -/
def wkPin : Nat := 0
def wkFrame : Nat := 1
def wkTimer : Nat := 2
def wkChan : Nat := 3

def wkCause : Nat → Fd
  | 0 => Fd.WAKE_CAUSE_PIN
  | 1 => Fd.WAKE_CAUSE_FRAME
  | 2 => Fd.WAKE_CAUSE_TIMER
  | _ => Fd.WAKE_CAUSE_CHAN

/-- A wake event occurs (R88 to R90): its cause is recorded; an enabled one wakes the module, or cancels an
entry that has not yet gated the cores. -/
def State.wakeEvent (s : State) (k : Nat) : State :=
  let s := s.onF (wkCause k)
  if (s.getF Fd.SLEEP_CTRL_WAKE_EN).testBit k then
    if s.sleepState = slStabled then s.setF Fd.SLEEP_STAT_STATE slWaking
    else if s.sleepState ≠ slWaking ∧ s.bothReady = true then
      (s.onF Fd.SLEEP_STAT_ABORTED).clearReady.setF Fd.SLEEP_STAT_STATE slAwake
    else s
  else s

/-- A threshold comparator of a channel trips (R89). -/
def State.wakeChan (s : State) (n : Fin 16) : State :=
  if s.bitF Fd.WAKE_CHMASK_MASK n.val then
    let s := if s.isF Fd.WAKE_CAUSE_CHAN then s else s.setF Fd.WAKE_CAUSE_CHAN_NUM n.val
    s.wakeEvent wkChan
  else s

/-- A source with reaction IRQ or NMI is pending. -/
def State.faultPending (s : State) : Bool :=
  (List.range 128).any fun i =>
    s.bitF (Fd.SB_STICKY_BITS (i / 32)) (i % 32) && (s.getF (Fd.SB_CFG_REACTION i) == 1 || s.getF (Fd.SB_CFG_REACTION i) == 2)

/-- The code of the first condition of R86 that fails; 0 when every one holds. -/
def State.sleepRefuse (s : State) : Nat :=
  if all16.any fun n => 1 ≤ s.getF (Fd.SH_STAT_STATE n.val) && s.getF (Fd.SH_STAT_STATE n.val) ≤ 2 then 1
  else if s.isF Fd.CS_STAT_BUSY || s.isF Fd.FP_STAT_BUSY then 2
  else if all16.any fun n => s.getF (Fd.CH_STATE_STATE n.val) == 1 || s.getF (Fd.CH_STATE_STATE n.val) == 4
      || s.isF (Fd.CH_STATE_PENDING n.val) then 3
  else if s.getF Fd.SLEEP_CTRL_WAKE_EN = 0 then 4
  else if s.faultPending then 5
  else if s.isF Fd.RFG_STAT_ACTIVE then 6
  else 0

/-- The check at a departure (R86): refused with its code, or the entry begins. -/
def State.sleepCheck (s : State) : State :=
  if s.bothReady && s.sleepState == slAwake then
    let r := s.sleepRefuse
    if r = 0 then s.setF Fd.SLEEP_STAT_STATE slEntering
    else (s.setF Fd.SLEEP_STAT_REFUSE r).clearReady
  else s

end Sys2Proof.Machine
end

