-- ==== Sys2Proof/Machine/Measure.lean ====
section
/-! DEFINITION. The measurement path (09_measurement.md): triggers and sequences (R279 to R282), the
processing of results (R284, R286, R292, R293), limits and comparators (R296, R297), debounced edges
and counters (R299, R300). -/

namespace Sys2Proof.Machine

/-! ### Sequences (R279 to R282) -/

/-- The measurement path runs: ARMED, ACTIVE or REFUGE, and not in STABLED (R305). -/
def State.measures (s : State) (n : Fin 16) : Bool := s.chLive n && s.chOn n && (s.getF Fd.SLEEP_STAT_STATE < 2 || s.slp.supplyUp)

def ChanH.regRun (h : ChanH) : Bool := (h.cfg.item 1).getLsbD 0
def ChanH.regTrig (h : ChanH) : Nat := fieldOf (h.cfg.item 1) 1 3
def ChanH.injEn (h : ChanH) : Bool := (h.cfg.item 1).getLsbD 6
def ChanH.injTrig (h : ChanH) : Nat := fieldOf (h.cfg.item 1) 7 3
def ChanH.urgent (h : ChanH) : Bool := (h.cfg.item 1).getLsbD 12
/-- A streaming sequence (R277). -/
def ChanH.streams (h : ChanH) : Bool := h.regTrig == 0 && h.cfg.regLen == 1

/-- A regular trigger at a time (R280, R282). One of DEPARTURE that finds a pass only waiting behind an injected run is
not dropped: the pass that waits is its pass. -/
def ChanH.trigReg (h : ChanH) (departure : Bool) (now : Nat) : ChanH :=
  if !h.regRun then h
  else if departure && h.regSlot.isNone && h.regNext == some 0 then h
  else if h.regSlot.isSome || h.regNext.isSome then
    { h with regOvr := satAdd 255 h.regOvr 1, depSkip := h.depSkip || departure }
  else if h.injSlot.isSome || h.injWait.isSome then { h with regNext := some 0 }
  else { h with regSlot := some 0, regStart := some now }

/-- An injected trigger at a time (R281, R282). -/
def ChanH.trigInj (h : ChanH) (now : Nat) : ChanH :=
  if !h.injEn then h
  else if h.injSlot.isSome || h.injWait.isSome then { h with injOvr := satAdd 255 h.injOvr 1 }
  else if h.regSlot.isSome then { h with injWait := some now }
  else { h with injSlot := some 0, injDelay := 0, injStart := some now }

/-- A trigger of a source starts every sequence that it selects; the injected one goes first (R306). -/
def ChanH.trigger (h : ChanH) (src now : Nat) : ChanH :=
  if !isAnaIn h.cfg.mode then h
  else
    let h := if h.injTrig = src then h.trigInj now else h
    if h.regTrig = src ∧ src ≠ 0 then h.trigReg (src == 1) now else h

/-- The effective departure lead in µs (R279): of the lead that governs the next departure (R306). -/
def State.lead (s : State) (n : Fin 16) : Nat := min (s.ch n).leadNow.toNat (s.period - 1)

/-- The edge that an edge field selects. -/
def edgeSel (field : Nat) (rising : Bool) : Bool := field.testBit (if rising then 0 else 1)

/-- A `TRIG` edge at a channel (R279). -/
def ChanH.trigEdge (h : ChanH) (k : Nat) (rising : Bool) (now : Nat) : ChanH :=
  if !isAnaIn h.cfg.mode then h
  else
    let c := h.cfg.item 1
    let h := if h.injTrig = 2 + k ∧ edgeSel (fieldOf c 10 2) rising = true then h.trigInj now else h
    if h.regTrig = 2 + k ∧ edgeSel (fieldOf c 4 2) rising = true then h.trigReg false now else h

/-- CHSET item 0x00 (R157, R301): the value it returns. -/
def State.chStart (s : State) (n : Fin 16) (v : Word) : Word × State :=
  let h := s.ch n
  if s.refuge then (5, s)
  else if !isAnaIn h.cfg.mode then (2, s)
  else if s.chSt n ≠ stActive then (4, s)
  else if v = 0 ∨ 4 ≤ v.toNat ∨ (v.getLsbD 0 = true ∧ h.regTrig ≠ 6) ∨ (v.getLsbD 1 = true ∧ h.injTrig ≠ 6) then (3, s)
  else
    let h := if v.getLsbD 1 then h.trigInj s.tt.clk else h
    let h := if v.getLsbD 0 then h.trigReg false s.tt.clk else h
    (0, s.setCh n h)

/-! ### Ranges (R287, R288) -/

def rtdRange (sensor : Nat) : Int × Int := if sensor < 2 then (-200000, 850000) else (-60000, 180000)

def tcRange (type : Nat) : Int × Int :=
  match type with
  | 0 => (-210000, 1200000)
  | 1 => (-270000, 1372000)
  | 2 => (-270000, 400000)
  | 3 => (-270000, 1000000)
  | 4 => (-270000, 1300000)
  | 5 => (-50000, 1768000)
  | 6 => (-50000, 1768000)
  | _ => (0, 1820000)

/-- The measuring range of a configuration in VALUE units. -/
def ChCfg.range (c : ChCfg) : Int × Int :=
  if c.mode = mVI then (-11000000, 11000000)
  else if c.mode = mCI then (-1000000, 25000000)
  else if c.mode = mRTD then rtdRange (fieldOf c.modePar 0 3)
  else if c.mode = mTC then tcRange (fieldOf c.modePar 3 4)
  else (0, 11000000)

/-- A value clipped to a range, and whether it was. -/
def clip (r : Int × Int) (x : Int) : Int × Bool :=
  if x < r.1 then (r.1, true) else if r.2 < x then (r.2, true) else (x, false)

/-! ### Platinum (R292) -/

/-- The ratio R/R0 of the Callendar-Van Dusen equation at t in 0.001 °C, times 10^27. -/
def cvd (t : Int) : Int :=
  10 ^ 27 + 39083 * t * 10 ^ 17 - 5775 * t ^ 2 * 10 ^ 11 - (if t < 0 then 4183 * (t - 100000) * t ^ 3 else 0)

/-- The highest t between `lo` and `hi` at which R0 times the ratio is at most r (mΩ), by halving `fuel`
times. -/
def cvdInv (r0 r : Int) : Nat → Int → Int → Int
  | 0, lo, _ => lo
  | f + 1, lo, hi =>
    let m := (lo + hi + 1) / 2
    if lo < hi then (if r0 * cvd m ≤ r * 10 ^ 27 then cvdInv r0 r f m hi else cvdInv r0 r f lo (m - 1)) else lo

/-! ### Processing (R284, R286, R292, R293) -/

/-- A quotient that the die forms: exact where it is whole, otherwise either neighbour (R284 gives no
rounding). -/
def State.quotient (s : State) (num den : Int) : Int × State :=
  if den = 0 then
    let (v, s) := s.takeFree
    (v.toInt, s)
  else if num % den = 0 then (num / den, s)
  else
    let (v, s) := s.takeFree
    (num / den + (if v.getLsbD 0 then 1 else 0), s)

/-- The PRIMARY reading corrected by the newest ZERO and REF results (R284). -/
def State.corrected (s : State) (a : AuxRes) (x : Int) : Int × State :=
  match a.zero, a.ref with
  | some z, some (r, nom) => s.quotient ((x - z) * nom) (r - z)
  | some z, none => (x - z, s)
  | none, some (r, nom) => s.quotient (x * nom) r
  | none, none => (x, s)

/-- The temperature of a platinum sensor: the inversion adds at most 0.005 °C. -/
def State.platinum (s : State) (r0 x : Int) : Int × Bool × State :=
  let (lo, hi) := rtdRange 0
  if x * 10 ^ 27 < r0 * cvd lo then (lo, true, s)
  else if r0 * cvd hi < x * 10 ^ 27 then (hi, true, s)
  else
    let (v, s) := s.takeFree
    let t := cvdInv r0 x 22 lo hi + ((v.toNat % 11 : Nat) : Int) - 5
    ((clip (lo, hi) t).1, (clip (lo, hi) t).2, s)

/-- The temperature of a thermocouple (R293). -/
def tcProcess (type : Nat) (v tcj : Int) : Int × Bool :=
  let r := tcRange type
  let (cj, c1) := clip r tcj
  let sum := v + Config.tcVolt type cj
  if sum < Config.tcVolt type r.1 then (r.1, true)
  else if Config.tcVolt type r.2 < sum then (r.2, true)
  else
    let (t, c2) := clip r (Config.tcTemp type sum)
    (t, c1 || c2)

/-- The cold-junction temperature that a result uses (R294). -/
def ChanH.tcj (h : ChanH) : Int := if h.cfg.cjInternal then h.aux.cj.getD 0 else (h.cfg.item 9).toInt

/-- The processed value of a PRIMARY reading (R284, R286): the value in VALUE units, and whether it was
clipped. -/
def State.process (s : State) (h : ChanH) (x : Int) : Int × Bool × State :=
  let (x, s) := s.corrected h.aux x
  let c := h.cfg
  let ohm := if is3Wire c.mode c.variant then x - h.aux.lead.getD 0 else if is2Wire c.mode c.variant then x - (c.item 9).toNat else x
  if c.mode = mRTD then
    let sensor := fieldOf c.modePar 0 3
    if sensor < 2 then s.platinum (if sensor = 0 then 100000 else 1000000) ohm
    else
      let (t, k) := clip c.range (Config.nickelTemp sensor ohm)
      (t, k, s)
  else if c.mode = mTC then
    let (t, k) := tcProcess (fieldOf c.modePar 3 4) x h.tcj
    (t, k, s)
  else
    let (v, k) := clip c.range (if c.mode = mRes then ohm else x)
    (v, k, s)

/-- `AUX_RES` of a processed value (R304). -/
def ChanH.auxOf (h : ChanH) : Word :=
  if h.cfg.mode = mTC then Word.ofInt h.tcj
  else if is3Wire h.cfg.mode h.cfg.variant then Word.ofInt (h.aux.lead.getD 0) else 0

/-- Every other slot of the regular sequence has completed since ARMED (R284). -/
def ChanH.allSeen (h : ChanH) (but_ : Option Nat) : Bool :=
  (List.range h.cfg.regLen).all fun i => some i == but_ || h.seen.contains i

/-- A limit is passed (R297). -/
def overHi (v lim : Word) : Bool := lim != highZ && lim.toInt < v.toInt
def underLo (v lim : Word) : Bool := lim != highZ && v.toInt < lim.toInt

/-- A threshold event of a channel: it reaches the lanes, and is a channel wake event (R89, R333). -/
def State.threshold (kind : Nat) (n : Fin 16) (s : State) : State := (s.laneEvent kind n).wakeChan n

/-- A processed value is formed and compared with the limits; `slot` is the regular slot. None while some
other slot has not completed. -/
def State.primary (s : State) (n : Fin 16) (slot : Option Nat) (x : Int) : Option Word × State :=
  let h := s.ch n
  if !h.allSeen slot then (none, s)
  else
    let (v, clipped, s) := s.process h x
    let w := Word.ofInt v
    let s := s.modCh n fun h => { h with
      proc := { value := w, time := s.tt.clk, clipped := clipped, aux := h.auxOf } :: h.proc
      edges := satAdd 255 h.edges 1 }
    let s := if overHi w (h.cfg.item 6) then s.threshold evHi n else s
    (some w, if underLo w (h.cfg.item 7) then s.threshold evLo n else s)

/-- The newest auxiliary results of the regular sequence. -/
def AuxRes.put (a : AuxRes) (mux : Nat) (r : Reading) : AuxRes :=
  match mux with
  | 1 => { a with lead := some r.raw }
  | 2 => { a with cj := some r.raw }
  | 3 => { a with zero := some r.path }
  | 4 => { a with ref := some (r.path, r.nom) }
  | _ => a

/-- An injected result is queued; a full queue loses its oldest (R302). -/
def ChanH.queueInj (h : ChanH) (q : InjRes) : ChanH :=
  if h.injQ.length < 4 then { h with injQ := h.injQ ++ [q] }
  else { h with injQ := h.injQ.tail ++ [q], injLost := true }

/-- The injected run that waits starts (R281). -/
def ChanH.startInj (h : ChanH) (t now : Nat) : ChanH :=
  { h with injWait := none, injSlot := some 0, injDelay := min 0xFF_FFFF ((now - t) / 1000), injStart := some now }

/-- A pass that begins at its first slot has started now (R279). -/
def ChanH.passAt (h : ChanH) (now : Nat) : ChanH := if h.regSlot = some 0 then { h with regStart := some now } else h

/-- What follows a regular slot: the injected request that may be served now, the next slot, the next
pass of a CONTINUOUS sequence. -/
def ChanH.afterReg (h : ChanH) (k now : Nat) : ChanH :=
  let last := h.cfg.regLen ≤ k + 1
  let next := if !last then some (k + 1) else if h.regTrig = 0 ∧ h.regRun = true then some 0 else none
  match h.injWait with
  | some t =>
    if h.urgent || last || h.streams then { h with regSlot := none, regNext := next }.startInj t now
    else { h with regSlot := next }.passAt now
  | none => { h with regSlot := next }.passAt now

/-- What follows an injected slot: the next one, or the regular sequence. -/
def ChanH.afterInj (h : ChanH) (k now : Nat) : ChanH :=
  if k + 1 < h.cfg.injLen then { h with injSlot := some (k + 1) }
  else { h with injSlot := none, regSlot := h.regNext, regNext := none }.passAt now

/-- A conversion slot completes (R281, R283, R284). -/
def State.slotComplete (s : State) (n : Fin 16) (r : Reading) : State :=
  let h := s.ch n
  match h.injSlot, h.regSlot with
  | some k, _ =>
    let mux := slotMux h.cfg.injSeq k
    let (w, s) := if mux = 0 then s.primary n none r.path else (some (Word.ofInt r.raw), s)
    s.modCh n fun h =>
      let h := match w with
        | some w => h.queueInj { slot := k, mux := mux, delay := h.injDelay, value := w }
        | none => h
      h.afterInj k s.tt.clk
  | none, some k =>
    let mux := slotMux h.cfg.regSeq k
    let s := s.modCh n fun h => { h with aux := h.aux.put mux r }
    let s := if mux = 0 then (s.primary n (some k) r.path).2 else s
    s.modCh n fun h => { h with seen := if h.seen.contains k then h.seen else k :: h.seen }.afterReg k s.tt.clk
  | none, none => s

/-- CHGET of `INJ_RES` removes the entry that it returns (R302). -/
def ChanH.popInj (h : ChanH) : ChanH :=
  { h with injQ := h.injQ.tail, injLost := h.injLost && 2 ≤ h.injQ.length }

/-! ### Comparators and edges (R296, R299, R300) -/

/-- The fast comparator is on (R305). -/
def State.fastOn (s : State) (n : Fin 16) : Bool :=
  s.chLive n && s.chOn n && (s.chMode n == mVI || s.chMode n == mCI)

/-- The level of `THR_FAST` divides the measuring range into 1,023 steps (R296): the input, and a level in codes, in
steps of a 1,023rd of a VALUE unit from the lower limit up. -/
def ChCfg.fastScale (c : ChCfg) (x : Int) : Int := 1023 * (x - c.range.1)
def ChCfg.fastLevel (c : ChCfg) (code : Int) : Int := code * (c.range.2 - c.range.1)

/-- The input lies past the level in the direction of DIR. -/
def ChanH.fastPast (h : ChanH) : Bool :=
  let w := h.cfg.item 5
  let x := h.cfg.fastScale h.fastIn
  let l := h.cfg.fastLevel (fieldOf w 0 10)
  if w.getLsbD 14 then x < l else l < x

/-- The input has moved HYST codes back past the level. -/
def ChanH.fastBack (h : ChanH) : Bool :=
  let w := h.cfg.item 5
  let x := h.cfg.fastScale h.fastIn
  let k : Int := fieldOf w 10 4
  let l : Int := fieldOf w 0 10
  if w.getLsbD 14 then h.cfg.fastLevel (l + k) ≤ x else x ≤ h.cfg.fastLevel (l - k)

/-- The comparator as it finds its input: an armed one with the input past the level raises its event where events are
enabled, and waits; one that waits re-arms. -/
def State.fastJudge (s : State) (n : Fin 16) : State :=
  let h := s.ch n
  if h.fastArmed && h.fastPast then
    let s := s.setCh n { h with fastArmed := false }
    if (h.cfg.item 5).getLsbD 15 then s.threshold evFast n else s
  else if !h.fastArmed && h.fastBack then s.setCh n { h with fastArmed := true }
  else s

/-- The comparator starts: at ARMED, and at a registration of `THR_FAST` with EN = 1. -/
def State.fastStart (s : State) (n : Fin 16) : State :=
  if s.fastOn n then (s.modCh n fun h => { h with fastArmed := true }).fastJudge n else s

/-- A debounced change of level (R299, R300): its time is that of the first sample at the new level. -/
def State.debounced (s : State) (n : Fin 16) (level : Bool) : State :=
  let h := s.ch n
  if h.level = level ∨ !isDigital h.cfg.mode then s.setCh n { h with level := level }
  else
    let c := h.cfg.item 8
    let rising := level != c.getLsbD 18
    let t := s.tt.clk - 1000 * fieldOf c 0 16
    let s := s.setCh n { h with level := level }
    if edgeSel (fieldOf c 16 2) rising then
      let cnt := if h.cfg.mode = mCounter then h.count + 1 else h.count
      let s := s.modCh n fun h => { h with lastEdge := some t, edges := satAdd 255 h.edges 1, count := cnt }
      let s := s.threshold evEdge n
      if h.cfg.mode = mCounter ∧ c.getLsbD 19 = true ∧ cnt = h.cfg.item 6 then s.threshold evCmp n else s
    else s

end Sys2Proof.Machine
end

