-- ==== Sys2Proof/Machine/Actuate.lean ====
section
/-! DEFINITION. The actuation path (10_actuation.md): reflex actions and holds (R335 to R337), ramps (R311),
boost, headroom and thermal override (R314 to R317), trim points (R319 to R321), the high-side switch (R323),
readback (R325). -/

namespace Sys2Proof.Machine

/-! ### Actions (R335 to R337) -/

/-- The value that an output action sets on a channel, or none where the action is dropped for its kind. -/
def ChCfg.actValue (c : ChCfg) (now : Word) (kind : Nat) (v : Word) : Option Word :=
  if !isOutput c.mode then none
  else match kind with
    | 0 => some (deEnergised c.mode)
    | 1 => if c.mode = mHS then some 1 else none
    | 2 =>
      if c.mode = mHS then some (if v.getLsbD 0 then 1 else 0)
      else if valueOk c.mode v then some (c.clamp v) else none
    | 3 => some (c.refugeValue now)
    | _ => none

/-- The value that an action sets in the state that its channel is in; none where it is dropped. -/
def State.actApplies (s : State) (a : ActMsg) : Option Word :=
  let h := s.ch a.chan
  if !s.chLive a.chan then none
  else match h.cfg.actValue h.target a.kind a.value with
    | none => none
    | some w =>
      if s.chSt a.chan = stActive ∨ (s.chSt a.chan = stRefuge ∧ w = deEnergised h.cfg.mode) then some w else none

/-- A dropped action is counted in its lane and in its channel. -/
def State.actDrop (s : State) (a : ActMsg) : State :=
  (s.incF (Fd.RFX_CNT_DROPPED a.lane.val)).modCh a.chan fun h => { h with drops := satAdd 0xFFFF_FFFF h.drops 1 }

/-- An action reaches the die (R335): CONV starts sequences; an output action sets the target, ends a trim
point drive, starts a hold, and is counted and logged; any other is dropped. -/
def State.actArrive (s : State) (a : ActMsg) : State :=
  if a.kind = 4 then
    if s.measures a.chan && isInput (s.chMode a.chan) then s.modCh a.chan fun h => h.trigger 7 s.tt.clk
    else s.actDrop a
  else match s.actApplies a with
    | none => s.actDrop a
    | some w =>
      let s := s.modCh a.chan fun h =>
        let h := { h.step w with trimCmd := 0, actSeq := h.actSeq + 1 }
        if a.latch then { h with holdL := h.actSeq } else { h with holdE := h.actSeq }
      let r : ReflexRec := { time := s.tt.clk, chan := a.chan.val, origin := if a.from_.isSome then 0x80 else a.lane.val
                             node := a.from_.getD s.nodeId, value := w }
      { s.incF (Fd.RFX_CNT_ACTIONS a.lane.val) with rfx := { s.rfx with log := s.rfx.log ++ [r] } }

/-- Whether an action would set the de-energised level of its channel. -/
def State.actDe (s : State) (a : ActMsg) : Bool :=
  (s.ch a.chan).cfg.actValue (s.ch a.chan).target a.kind a.value == some (deEnergised (s.chMode a.chan))

/-- The origin that R337 compares. -/
def ActMsg.origin (a : ActMsg) : Nat := if a.from_.isSome then 0x80 else a.lane.val

/-- Whether `a` goes before `b` where both reach one channel in one cycle (R337). -/
def State.actBefore (s : State) (a b : ActMsg) : Bool :=
  if s.actDe a != s.actDe b then s.actDe a else a.origin < b.origin

/-- The winner among actions of one cycle: the first that no other goes before. -/
def State.actWinner (s : State) : ActMsg → List ActMsg → ActMsg
  | a, [] => a
  | a, b :: r => s.actWinner (if s.actBefore b a then b else a) r

/-- An output action reaches the die: one that comes with the strobe of the departure waits until that is done (R337). -/
def State.actReach (s : State) (a : ActMsg) : State :=
  if s.depDue then { s with rfx := { s.rfx with atDep := s.rfx.atDep ++ [a] } } else s.actArrive a

/-- The actions that came with the strobe are applied after the departure's apply. -/
def State.actsAtDep (s : State) : State :=
  State.each (fun a s => s.actArrive a) s.rfx.atDep { s with rfx := { s.rfx with atDep := [] } }

/-- The oldest action in flight arrives, with those issued in the same cycle for the same channel (R337). CONV
competes with nothing. -/
def State.flightArrive (s : State) : State :=
  let s := if s.depDue then s else s.actsAtDep
  match s.rfx.flight with
  | [] => s
  | a :: r =>
    if a.kind = 4 then { s with rfx := { s.rfx with flight := r } }.actArrive a
    else
      let same := fun b : ActMsg => b.chan == a.chan && b.issued == a.issued && b.kind != 4
      let s := { s with rfx := { s.rfx with flight := r.filter fun b => !same b } }
      let w := s.actWinner a (r.filter same)
      let s := State.each (fun b s => s.actDrop b) ((a :: r.filter same).erase w) s
      s.actReach w

/-! ### Output trim points (R321) -/

/-- What an analogue output is to deliver: the trim point that is driven, or the target; none in high-impedance. -/
def ChanH.aim (h : ChanH) : Option Int :=
  if h.trimCmd = 1 then some (trimPoints h.cfg.mode).1
  else if h.trimCmd = 2 then some (trimPoints h.cfg.mode).2
  else if h.target = highZ then none else some h.target.toInt

/-! ### Ramps (R311) -/

/-- The position one step nearer to a target, landing on it. -/
def rampStep (pos dst : Int) (step : Nat) : Int :=
  if pos < dst then min dst (pos + step) else max dst (pos - step)

/-- A target taken from an applied commit: it ramps in an analogue output with `RAMP` not 0, else steps. -/
def ChanH.commitTo (h : ChanH) (w : Word) : ChanH :=
  let step := (h.cfg.item 0x11).toNat
  if isAnaOut h.cfg.mode ∧ step ≠ 0 ∧ w ≠ highZ then
    { h with target := w, pos := rampStep (posOf (if h.target = highZ then highZ else Word.ofInt h.pos)) w.toInt step }
  else h.step w

def ChanH.ramping (h : ChanH) : Bool := isAnaOut h.cfg.mode && h.target != highZ && h.pos != h.target.toInt

/-- A grid point in SHUTTING (R250, R253): the output comes nearer to 0. By how much is not stated; the end of the
time of R253 is SHUTDOWN_COMPLETE. -/
def ChanH.shutStep (h : ChanH) (v : DWord) : ChanH :=
  let k : Int := (v.toNat % (h.pos.natAbs + 1) : Nat)
  { h with pos := if h.pos < 0 then -k else k }

/-- A grid point of the DAC. -/
def ChanH.gridPoint (h : ChanH) : ChanH :=
  if h.ramping && h.trimCmd == 0 then { h with pos := rampStep h.pos h.target.toInt (h.cfg.item 0x11).toNat } else h

/-! ### Boost and headroom (R314 to R316) -/

/-- H_eff moves to a value in mV, held at the program's bounds. -/
def ChanH.setHeff (h : ChanH) (v : Int) : ChanH :=
  let lo := hrMv (h.cfg.item 0x10) 8
  let hi := hrMv (h.cfg.item 0x10) 16
  if (hi : Int) < v then { h with heff := hi, atBound := true, boundSide := false }
  else if v < (lo : Int) then { h with heff := lo, atBound := true, boundSide := true }
  else { h with heff := v.toNat }

/-- |V_term| in mV as the target, or the trim point, lets expect it (R314): in voltage output the target itself, in
current output its product with the load resistance measured last. -/
def ChanH.expected (h : ChanH) : Nat :=
  match h.aim with
  | none => 0
  | some x => if h.cfg.mode = mVO then x.natAbs / 1000 else x.natAbs * (h.rload.getD 0) / 1000000000

/-- The die sets V_boost (R314), once in 10 µs: `meas` is |V_term| as measured now in mV, `dropout` that the driver has
dropped out, `iLimit` that the current limit is active. V_boost falls by at most 1.0 V in that time. -/
def ChanH.boostUpdate (h : ChanH) (meas : Nat) (dropout iLimit : Bool) (now : Nat) : ChanH :=
  let drop := dropout && h.vboost < 28000
  let h := if drop then { h with lastDrop := now } else h
  let h := if drop && !h.hot then h.setHeff (h.heff + 500) else h
  let want := if h.aim = none then 6000 else min (max (max meas h.expected + h.heff) 6000) 28000
  let v := max want (h.vboost - 1000)
  { h with vboost := v, boostMax := h.boostMax || v == 28000
           boostMin := h.boostMin || (v == 6000 && h.aim != none && hrMv (h.cfg.item 0x10) 16 + meas < 6000)
           iLimit := h.iLimit || iLimit, boostFull := h.boostFull && v == 28000 }

/-- H_eff at a temperature reading (R315, R317), once per ms. -/
def ChanH.heffTick (h : ChanH) (temp : Int) (now : Nat) : ChanH :=
  if 125 ≤ temp then { h with warn := true, hot := true }.setHeff (h.heff - 100)
  else
    let h := { h with hot := false, warn := h.warn && !decide (temp ≤ 120) }
    let tgt := hrMv (h.cfg.item 0x10) 0
    if h.warn ∨ now - h.lastDrop < 10000000 then h
    else if h.heff < tgt then { h with heff := min tgt (h.heff + 100) }
    else { h with heff := max tgt (h.heff - 100) }

/-- The fold-back factor at a temperature reading (R317). -/
def ChanH.foldTick (h : ChanH) (temp : Int) : ChanH :=
  if 140 ≤ temp then { h with fold := h.fold - 10, thermal := true, foldUp := false }
  else if h.fold < 100 ∧ (temp ≤ 130 ∨ h.foldUp = true) then
    let f := min 100 (h.fold + 10)
    { h with fold := f, foldUp := f < 100, thermal := f < 100 }
  else if h.fold = 100 then { h with thermal := false, foldUp := false }
  else h

/-! ### The switch (R323) -/

/-- The switch shuts down: off through the clamp; latched by RESTART or by the eighth within 1 s. -/
def ChanH.switchTrip (h : ChanH) (now : Nat) : ChanH :=
  let times := now :: h.swTimes.filter fun t => now - t ≤ 1000000000
  { h with swTherm := true, swOff := true, swTimes := times
           swLatched := h.swLatched || (h.cfg.item 0x12).getLsbD 6 || 8 ≤ times.length }

def State.switchTrip (s : State) (n : Fin 16) : State :=
  (s.modCh n fun h => h.switchTrip s.now).diagSet n dOverload

/-- A departure applies a target to a latched switch: off ends the latch. -/
def ChanH.unlatch (h : ChanH) (w : Word) : ChanH :=
  if h.cfg.mode = mHS ∧ w = 0 ∧ h.swLatched = true then { h with swLatched := false, swOff := false } else h

/-- The switch conducts. -/
def ChanH.conducts (h : ChanH) : Bool := h.cfg.mode == mHS && h.target == 1 && !h.swOff && !h.swLatched

/-! ### Output trim (R319 to R321) -/

/-- Rounds a quotient to the nearest integer, halves away from zero. -/
def roundDiv (num den : Int) : Int :=
  let q := (2 * num.natAbs + den.natAbs) / (2 * den.natAbs)
  if (num < 0) = (den < 0) then q else -(q : Int)

/-- APPLY (R321). -/
def ChanH.trimApply (h : ChanH) : ChanH :=
  let m1 := (h.cfg.item 0x14).toInt
  let m2 := (h.cfg.item 0x15).toInt
  let (n1, n2) := trimPoints h.cfg.mode
  let gain := roundDiv ((m2 - m1) * 1000000) (n2 - n1) - 1000000
  let ofs := roundDiv (m1 * 1000000 - (1000000 + gain) * n1) 1000000
  if gain.natAbs ≤ 20000 ∧ ofs.natAbs ≤ (if h.cfg.mode = mVO then 200000 else 240000) then
    { h with trimGain := gain, trimOfs := ofs, trimSrc := 2, trimRes := 1 }
  else { h with trimRes := 2 }

/-- A point drive ends and the output steps to the target in force. -/
def ChanH.endDrive (h : ChanH) : ChanH := if h.trimCmd = 0 then h else { h.step h.target with trimCmd := 0, driveEnded := true }

/-- `TRIM_CTRL.CMD` at its registration. -/
def State.trimCommand (s : State) (n : Fin 16) (cmd : Nat) : State :=
  s.modCh n fun h =>
    match cmd with
    | 1 => { h with trimCmd := 1 }
    | 2 => { h with trimCmd := 2 }
    | 3 => h.trimApply.endDrive
    | 4 => (s.loadTrim n h).endDrive
    | _ => h.endDrive

end Sys2Proof.Machine
end

