-- ==== Sys2Proof/Machine/Terminals.lean ====
section
/-! DEFINITION. What stands at the terminals of a channel: the use of each (R247), the hardware floor (R22, R36, R249),
what an output drives (R248, R250, R309, R311, R317, R319, R321, R323, R358), the supplies (R305), and the currents that
diagnostics feed (R350, R352, R354). -/

namespace Sys2Proof.Machine

/-! ### The use of the terminals (R247, R261) -/

/-- The mode and variant draw from `CHn_P`. -/
def ChCfg.drawsP (c : ChCfg) : Bool :=
  c.mode == mHS || (isDigital c.mode && c.variant.testBit 2) || (c.mode == mCI && c.variant.testBit 0)

/-- The uses of `CHn_A`, `CHn_B`, `CHn_C` and `CHn_D` in a mode and variant. -/
def ChCfg.terminals (c : ChCfg) : Vector TermUse 4 :=
  let v := c.variant
  if isDigital c.mode then #v[if v.testBit 2 then .input else .sink, if v.testBit 2 then .supply else .highZ, .highZ, .highZ]
  else if c.mode = mHS then #v[.switched, .highZ, .highZ, .highZ]
  else if c.mode = mVI then #v[.highZ, .input, if v.testBit 0 then .joined else .input, .highZ]
  else if c.mode = mVO then if v.testBit 0 then #v[.output, .readSense, .readSense, .highZ] else #v[.output, .highZ, .highZ, .highZ]
  else if c.mode = mCI then #v[if v.testBit 0 then .loopSupply else .highZ, .input, .highZ, .highZ]
  else if c.mode = mCO then #v[.output, .highZ, .highZ, .highZ]
  else if c.mode = mRTD ∨ c.mode = mRes then
    #v[.excitation, if is2Wire c.mode v then .highZ else .readSense,
       if is2Wire c.mode v || is3Wire c.mode v then .highZ else .readSense, .return_]
  else if c.mode = mTC then #v[.highZ, .input, .input, .highZ]
  else Vector.replicate 4 .highZ

/-- The channel is at the hardware floor: unpowered or in reset, OFF, CONFIGURING or FAULTED, or in a power-fail
sequence. -/
def State.atFloor (s : State) (n : Fin 16) : Bool :=
  !s.chLive n || s.pwr.failing || s.chSt n == stOff || s.chSt n == stConfiguring || s.chSt n == stFaulted

/-- What each terminal is now: high-impedance at the floor. -/
def State.terminals (s : State) (n : Fin 16) : Vector TermUse 4 :=
  if s.atFloor n then Vector.replicate 4 .highZ else (s.ch n).cfg.terminals

/-! ### Outputs -/

/-- What an analogue output gives its DAC in VALUE units (R309, R319, R321): the position with the output trim in force,
or a trim point untrimmed, times the fold-back factor in current output, rounded to the nearest; none in high-impedance.
DESIGN CHOICE (log 116): the spec gives the code's step only as a typical figure, so no code stands here. -/
def ChanH.drive (h : ChanH) : Option Int :=
  let f : Int := if h.cfg.mode = mCO then h.fold else 100
  if h.trimCmd = 1 ∨ h.trimCmd = 2 then h.aim.map fun x => roundDiv (x * f) 100
  else if h.target = highZ then none
  else some (roundDiv ((h.pos - h.trimOfs) * 1000000 * f) ((1000000 + h.trimGain) * 100))

/-- What output channel `n` drives: 1 or 0 of a high-side switch, a value of an analogue output; none at the hardware floor
and in high-impedance. A mode that draws from `CHn_P` delivers nothing while that is below 18 V. -/
def State.drive (s : State) (n : Fin 16) : Option Int :=
  let h := s.ch n
  if s.atFloor n then none
  else if h.cfg.mode = mHS then
    if s.chSt n ≠ stShutting ∧ h.conducts = true ∧ h.pLow = false then some 1 else some 0
  else if isAnaOut h.cfg.mode then h.drive
  else none

/-- The current limit of an output in µA: its typical figure (R312, R317, R322; log 116). -/
def ChanH.currentLimit (h : ChanH) : Option Nat :=
  if h.cfg.mode = mVO then some (26000 * h.fold / 100)
  else if h.cfg.mode = mHS then some (250000 * fieldOf (h.cfg.item 0x12) 0 4)
  else none

/-- A voltage output senses at the load: the remote-sense variant, unless SENSE_OPEN is active (R354). -/
def ChanH.senses (h : ChanH) : Bool := h.cfg.mode == mVO && h.cfg.variant.testBit 0 && !h.diagNow.testBit 9

/-! ### Supplies and test currents -/

/-- The loop power, sensor supply or excitation that a mode and variant has. -/
def ChCfg.feeds (c : ChCfg) : Bool := (c.drawsP && c.mode != mHS) || c.mode == mRTD || c.mode == mRes

/-- The feed at the terminals in each state (R305). -/
def State.feed (s : State) (n : Fin 16) : Feed :=
  if !(s.ch n).cfg.feeds || !s.chLive n || s.pwr.failing then .off
  else if s.chSt n = stConfiguring then .starting
  else if s.chSt n = stShutting then .discharging
  else if s.chOn n then .on
  else .off

/-- The feed delivers: one drawn from `CHn_P` only at 18 V and more (R248). -/
def State.feedDelivers (s : State) (n : Fin 16) : Bool :=
  s.feed n == .on && !((s.ch n).cfg.drawsP && (s.ch n).pLow)

/-- The off-state bias flows into `CHn_A` of a high-side output (R352). -/
def State.offBias (s : State) (n : Fin 16) : Bool :=
  s.chLive n && s.chOn n && s.chMode n == mHS && (s.ch n).diagEn 0 && !(s.ch n).conducts

/-- The burnout current of a thermocouple flows (R349, R350). -/
def State.burnout (s : State) (n : Fin 16) : Bool :=
  s.chLive n && s.chOn n && s.chMode n == mTC && (s.ch n).diagEn 0

end Sys2Proof.Machine
end

