-- ==== Sys2Proof/Machine/ChanDep.lean ====
section
/-! DEFINITION. What a departure does to one channel (R210, R211, R218, R251, R265, R266, R268, R302, R308, R336,
R359, R360): the latch, the registration of requests, the transitions, the apply, the record. -/

namespace Sys2Proof.Machine

/-! ### The latch (R211, R283, R302) -/

/-- ns from a time to the departure (R218). -/
def ageOf (te t : Nat) : Word := BitVec.ofNat 32 (min (te - t) 0xFFFF_FFFE)

/-- `RES_STAT` (R304); `fast` says that the fast comparator is past its level. -/
def resStat (h : ChanH) (r : Option ProcRes) (clippedLead fast : Bool) : Word :=
  let v := (r.map (·.value)).getD 0
  let n := b2n ((r.map (·.clipped)).getD false) + 2 * b2n (isAnaIn h.cfg.mode && r.isNone) + 4 * b2n fast
    + 8 * b2n (r.isSome && overHi v (h.cfg.item 6)) + 16 * b2n (r.isSome && underLo v (h.cfg.item 7))
    + 32 * b2n clippedLead + 64 * b2n h.depSkip
    + 256 * h.regOvr + 65536 * h.injOvr + 2 ^ 24 * h.edges
  BitVec.ofNat 32 n

/-- The age of a digital channel's last selected edge (R304). -/
def edgeAge (te : Nat) (h : ChanH) : Word :=
  match h.lastEdge with
  | some t => ageOf te t
  | none => 0xFFFF_FFFF

/-- The newest result completed strictly before a departure. -/
def newestBefore (te : Nat) (l : List (Int × Nat)) : Option (Int × Nat) := l.find? fun p => p.2 < te

/-- The counts of an interval start again. -/
def ChanH.newInterval (h : ChanH) : ChanH := { h with regOvr := 0, injOvr := 0, edges := 0, depSkip := false }

/-- Inputs and readback are latched at the departure at `te`. -/
def ChanH.latch (h : ChanH) (te : Nat) (leadClip : Bool) : ChanH :=
  let m := h.cfg.mode
  if isAnaIn m then
    let r := h.proc.find? fun r => r.time < te
    let rs := resStat h r leadClip (h.fastPast && (m == mVI || m == mCI))
    let lat := insertNat 0x0C rs (insertNat 0x0D ((r.map (·.aux)).getD 0) h.lat)
    let h := { h with lat := lat, proc := h.proc.takeWhile (fun r => te ≤ r.time) ++ r.toList }
    match r with
    | some r => { h with value := r.value, age := ageOf te r.time }
    | none => h
  else if isDigital m then
    let v : Word := if m = mCounter then h.count else if h.level != (h.cfg.item 8).getLsbD 18 then 1 else 0
    { h with value := v, age := 0, lat := insertNat 0x0C (resStat h none false false) (insertNat 0x0D (edgeAge te h) h.lat) }
  else if isOutput m then
    let v := newestBefore te h.rbV
    let i := newestBefore te h.rbI
    let age : Word := match v, i with
      | some a, some b => ageOf te (min a.2 b.2)
      | _, _ => 0xFFFF_FFFF
    let lat := insertNat 0x19 (Word.ofInt ((v.map (·.1)).getD 0)) h.lat
    let lat := insertNat 0x1B age (insertNat 0x1A (Word.ofInt ((i.map (·.1)).getD 0)) lat)
    let lat := insertNat 0x1C (BitVec.ofNat 32 (h.vboost + 65536 * h.heff)) lat
    { h with lat := lat, rbV := h.rbV.takeWhile (fun p => te ≤ p.2) ++ v.toList, rbI := h.rbI.takeWhile (fun p => te ≤ p.2) ++ i.toList }
  else h

/-! ### Registration (R156, R265, R268, R306) -/

/-- A registration of the sequence or of a filter abandons running slots and queued results (R306). -/
def ChanH.reseq (h : ChanH) (now : Nat) : ChanH :=
  { h.stopSeq with injQ := [], injLost := h.injLost || !h.injQ.isEmpty }.startContinuous now

/-- One CHSET item of a channel whose configuration stands registers. `REFUGE_CTRL` is worked off after the
transitions. -/
def State.regItem (n : Fin 16) (p : Nat × Word) (s : State) : State :=
  let (i, v) := p
  if i = 0x25 then s
  else if i = 0x13 then s.trimCommand n v.toNat
  else if i = 0x1D then
    s.modCh n fun h => { h with holdL := if h.holdL ≤ v.toNat then 0 else h.holdL, holdE := if h.holdE ≤ v.toNat then 0 else h.holdE }
  else
    let s := s.modCh n fun h => { h with cfg := h.cfg.setItem i v }
    if i = 1 ∨ i = 2 ∨ i = 3 then (if s.chOn n then s.modCh n fun h => h.reseq s.tt.clk else s)
    else if i = 5 then (if v.getLsbD 15 then s.fastStart n else s)
    else if i = 9 then s.modCh n fun h => if h.cfg.mode = mCounter ∧ s.chOn n = true then { h with count := v } else h
    else if i = 0x10 then s.modCh n fun h => { h with heff := hrMv v 0 }
    else if i = 0x20 then
      (s.modCh n fun h => { h with diagNow := h.diagNow &&& fieldOf v 0 11
                                   rbFound := h.rbFound.filter fun p => (fieldOf v 0 11).testBit p.1 }).showDiag n
    else s

/-- The items that the mode in force defines register in order; another is discarded (R156). Where the die misses the
strobe they are held; a strobe that it receives applies them, those of this departure last (R268). -/
def State.regItems (s : State) (n : Fin 16) (l : List (Nat × Word)) (miss : Bool) : Bool × Bool × State :=
  let h := s.ch n
  let good := l.filter fun p => itemSet h.cfg.mode h.cfg.variant p.1
  let due := putItems h.held.items good
  let s := s.setCh n { h with held := if miss then { items := due } else {} }
  (!good.isEmpty, good.length != l.length, if miss then s else State.each (State.regItem n) due s)

/-- The requests of a departure register (R156, R251, R268): whether one registered, whether one was
discarded, and the state. `miss` says that the die does not receive the strobe. -/
def State.register (s : State) (n : Fin 16) (q : ChSlot) (miss : Bool) : Bool × Bool × State :=
  let st := s.chSt n
  match q.record with
  | some r =>
    let cmds := q.items.any fun p => isCommand p.1
    let carried : ChSlot := { record := some r, items := q.items.filter fun p => !isCommand p.1 }
    if recMode r = mOff then
      let s := if st = stOff then s.modCh n fun h => { h with pend := none } else if st = stShutting then
          (s.modCh n fun h => { h with pend := none }).offF (Fd.CH_STATE_PENDING n.val)
        else s.startShut n none
      (true, !q.items.isEmpty, s)
    else if st = stFaulted then (false, true, s)
    else
      let v := recMode r
      let lost := carried.items.any fun p => !itemSet v (recVariant r) p.1
      let s := if st = stOff then (s.modCh n fun h => { h with pend := none }).startConfig n carried
        else if st = stShutting then
          (s.modCh n fun h => { h with pend := some carried }).onF (Fd.CH_STATE_PENDING n.val)
        else s.startShut n (some carried)
      (true, cmds || lost, s)
  | none =>
    if q.items.isEmpty && (s.ch n).held.items.isEmpty then (false, false, s)
    else match (s.ch n).pend with
      | some p =>
        let keep := q.items.filter fun x => !isCommand x.1 && itemSet (recMode (p.record.getD [])) (recVariant (p.record.getD [])) x.1
        let items := keep.foldl (fun l x => putItem l x.1 x.2) p.items
        (!keep.isEmpty, keep.length != q.items.length, s.modCh n fun h => { h with pend := some { p with items := items } })
      | none =>
        if st = stFaulted ∨ st = stShutting ∨ st = stOff then (false, !q.items.isEmpty, s) else s.regItems n q.items miss

/-! ### Per-channel refuge commands (R359, R360) -/

/-- ENTER or RELEASE once the transitions are done: whether it was discarded. -/
def State.refugeCommand (s : State) (n : Fin 16) (v : Word) : Bool × State :=
  let s := s.modCh n fun h => { h with rcCmd := v.toNat }
  let res := fun (k : Nat) (s : State) => s.modCh n fun h => { h with rcRes := k }
  if v = 1 then
    if s.activeOut n then (false, (res 1 s).chRefuge n false false 0) else (true, res 3 s)
  else if s.chSt n ≠ stRefuge then (true, res 3 s)
  else if (s.ch n).diagNow &&& (s.ch n).diagAuto ≠ 0 then (false, res 2 s)
  else
    let s := (res 1 s).modCh n fun h => { h with rcAuto := false, rcCause := 0 }
    (false, (s.offF (Fd.CH_STATE_MOD_REFUGE n.val)).setChSt n stActive)

/-- The `REFUGE_CTRL` items of a departure: whether one was discarded. One that a CHMODE accompanies, or that meets no
configuration that stands, reads DISCARDED (R268, R359, R360); one whose strobe the die misses is held. -/
def State.refugeItems (s : State) (n : Fin 16) (items held : List (Nat × Word)) (stands miss : Bool) : Bool × State :=
  match lookupNat 0x25 (if !stands then items else if miss then [] else putItems held items) with
  | some v => if stands then s.refugeCommand n v else (true, s.modCh n fun h => { h with rcRes := 3 })
  | none => (false, s)

/-! ### Transitions at a departure (R251) -/

/-- What a channel with no CHMODE registered does; `was` is its state before the departure. -/
def State.chMoves (s : State) (n : Fin 16) (was : Nat) : State :=
  let h := s.ch n
  if was = stArmed ∧ s.chSt n = stArmed then
    let s := s.setChSt n stActive
    let c := h.diagNow &&& h.diagAuto
    if isOutput h.cfg.mode ∧ c ≠ 0 then s.chRefuge n false true c else s
  else if was = stConfiguring ∧ s.chSt n = stConfiguring then
    match h.done with
    | some t => if 2000 ≤ s.now - t then (s.armCh n).fastStart n else s
    | none => s
  else if was = stOff ∧ s.chSt n = stOff then
    match h.pend with
    | some q => if 2000 ≤ s.now - h.offAt then (s.modCh n fun h => { h with pend := none }).startConfig n q else s
    | none => s
  else s

/-! ### The apply (R232, R236, R321, R336) -/

/-- An ACTIVE output at a departure: the value of a FINAL commit, or what a missed departure does. In a
power-fail sequence nothing reaches the terminals (R52). -/
def State.applyCh (s : State) (n : Fin 16) (apply : Option Word) (missed : Bool) : State :=
  if !s.activeOut n || s.pwr.failing then s
  else s.modCh n fun h =>
    match apply with
    | some w =>
      if h.hold ∨ h.trimCmd ≠ 0 then { h with suppressed := true }
      else
        let v := h.cfg.clamp w
        (if h.driveEnded then h.step v else h.commitTo v).unlatch w
    | none =>
      if missed then
        if s.isF Fd.MANI_CFG_POLICY then { (h.step (h.cfg.refugeValue h.target)).unlatch (h.cfg.refugeValue h.target) with trimCmd := 0 }
        else h.endDrive
      else h

/-- `OUT_STAT` (R328). -/
def outStat (h : ChanH) (now : Nat) : Word :=
  let n := b2n h.atBound + 2 * b2n h.boundSide + 4 * b2n h.boostMax + 8 * b2n h.boostMin + 16 * b2n h.iLimit
    + 32 * b2n h.warn + 64 * b2n h.thermal + 128 * b2n h.swTherm + 256 * b2n h.swLatched
    + 512 * b2n (isAnaOut h.cfg.mode && h.trimSrc == 0) + 1024 * b2n (h.trimCmd == 1 || h.trimCmd == 2)
    + 2048 * b2n h.hold + 4096 * b2n h.holdLatch + 8192 * b2n h.suppressed + 16384 * b2n h.ramping
    + 65536 * h.fold + 2 ^ 24 * min 255 (h.swTimes.filter fun t => now - t ≤ 1000000000).length
  BitVec.ofNat 32 n

/-- What the departure latches once its apply is done: VALUE of an output, `OUT_STAT`, the diagnostics (R218,
R308, R348). An EPOCH hold ends here. `acts` is the number of actions of the interval. -/
def ChanH.record (h : ChanH) (now : Nat) (on_ : Bool) (acts : Nat) : ChanH :=
  let lat := insertNat 0x1E (BitVec.ofNat 32 h.drops) h.lat
  let lat := if on_ then insertNat 0x18 (outStat h now) lat else lat
  let lat := if isOutput h.cfg.mode then lat else h.lat
  let d := h.diagNow + 4096 * h.occurred
  let lat := insertNat 0x22 (BitVec.ofNat 32 d) (insertNat 0x24 (BitVec.ofNat 32 h.diagTime) lat)
  { h with lat := lat, diag := BitVec.ofNat 32 (d + 2 ^ 24 * acts)
           value := if on_ && isOutput h.cfg.mode then h.target else h.value
           age := if on_ && isOutput h.cfg.mode then 0 else h.age
           drops := 0, occurred := h.diagNow, diagTime := h.diagLate.getD h.diagTime, diagLate := none
           holdE := 0, suppressed := false, driveEnded := false, swTherm := false
           atBound := false, boostMin := false, boostMax := h.vboost == 28000, iLimit := false }

/-- The record of a departure whose strobe the die misses (R246): VALUE, AGE and the diagnostics stay as they were, and
what the die counts goes on (log 113). -/
def ChanH.recordMiss (h : ChanH) (acts : Nat) : ChanH :=
  { h with diag := BitVec.ofNat 32 (h.diag.toNat % 2 ^ 24 + 2 ^ 24 * acts), holdE := 0, driveEnded := false }

/-! ### One departure of one channel -/

/-- The actions on a channel with time in [tp, te) (R218). -/
def State.actCount (s : State) (n : Fin 16) (tp te : Nat) : Nat :=
  min 255 (s.rfx.log.filter fun r => r.chan == n.val && tp ≤ r.time && r.time < te).length

/-- The lead that governs the next departure is below the one set (R279). -/
def State.leadClipped (s : State) (n : Fin 16) : Bool := s.lead n < (s.ch n).leadNow.toNat

/-- The requests and the transitions of a departure (R251, R268): whether a request registered, whether one was
discarded. -/
def State.chRequests (s : State) (n : Fin 16) (miss : Bool) : Bool × Bool × State :=
  let was := s.chSt n
  let h := s.ch n
  let q := h.next
  let stands := q.record.isNone && was != stOff && was != stShutting && was != stFaulted
  let (reg, disc, s) := (s.setCh n { h with next := h.later, later := {} }).register n q miss
  let s := if q.record.isSome && reg then s else s.chMoves n was
  let (d, s) := s.refugeItems n q.items h.held.items stands miss
  let s := if reg then (s.setF (Fd.CH_STATE_GEN n.val) ((s.getF (Fd.CH_STATE_GEN n.val) + 1) % 65536)).offF (Fd.CH_STATE_DISCARD n.val) else s
  (reg, disc || d, s)

/-- The copies of the state word are compared as at the departure, and agree from then on (R266). -/
def State.chCopies (s : State) (n : Fin 16) (skewDp skewDie : Bool) : State :=
  let s := (s.setR (Rg.CH_STATE_DP n.val) (s.getR (Rg.CH_STATE n.val)))
  let s := if skewDp || skewDie then s.onF (Fd.CH_EVT_SKEW n.val) else s
  let again := skewDie && (s.ch n).dieSkew
  let s := s.modCh n fun h => { h with dieSkew := skewDie }
  if again && s.chSt n != stFaulted then s.faultCore n 7 else s

/-- The channel's part in the departure at `te`, the one before it having been at `tp`. `miss` says that the die did not
receive the strobe (R246); `apply` is the value of its FINAL commit and `missed` that it missed (R232, R236); `skewDp`
and `skewDie` that a copy of the state word was found to differ (R266). In STABLED nothing is latched (R84), the state
stays (R251), and requests wait (log 113). -/
def State.departCh (tp te : Nat) (miss skewDp skewDie : Bool) (apply : Option Word) (missed : Bool) (n : Fin 16) (s : State) : State :=
  if !s.chLive n then s
  else
    let sleep := s.asleep
    let wasOn := s.chOn n
    let lead := (s.ch n).cfg.item 4
    let s := if wasOn && !miss then
        let clip := s.leadClipped n
        s.modCh n fun h => (if sleep then h else h.latch te clip).newInterval
      else s
    let (_, disc, s) := if sleep then (false, false, s) else s.chRequests n miss
    -- a channel that becomes ARMED here latches as from now on (R250)
    let s := if !miss && s.chOn n && !wasOn then
        let clip := s.leadClipped n
        s.modCh n fun h => h.latch te clip
      else s
    let s := if disc then s.discard n else s
    let s := if miss || sleep then s else s.applyCh n apply missed
    let acts := s.actCount n tp te
    let on_ := s.chOn n
    let s := s.modCh n fun h => if miss then h.recordMiss acts else h.record s.now on_ acts
    let s := if miss then (((s.onF (Fd.CH_STATE_LINK_ERR n.val)).onF (Fd.CH_EVT_LINK_ERR n.val)).incF (Fd.CH_LINK_STROBE_MISS n.val)) else s
    let s := (s.showQueue n).chCopies n skewDp skewDie
    let s := if miss then s else (s.offF (Fd.CH_STATE_LINK_ERR n.val)).dieReport n
    -- sequences that start at the departure itself; a new lead governs from the next one on (R306)
    let s := if s.measures n && s.lead n == 0 then s.modCh n fun h => h.trigger 1 te else s
    if wasOn then s.modCh n fun h => { h with leadNow := lead } else s

end Sys2Proof.Machine
end

