-- ==== Sys2Proof/Machine/ChannelCmd.lean ====
section
/-! DEFINITION. The commands of the channel dies and their controllers: configuration, shutdown and faults
(R251, R256), the isolator link (R246), conversions and comparators (R279, R283, R296, R299), the actuation
path (R311, R314, R317, R323, R325), diagnostics (R349, R350). -/

namespace Sys2Proof.Machine

/-! ### States (R251, R256, R258) -/

/-- µs since an instant, as `CH_TIMES` holds it. -/
def State.usSince (s : State) (t : Nat) : Nat := min 0xFFFF ((s.now - t) / 1000)

/-- CONFIGURATION_COMPLETE (R251): ARMED or REFUGE registers at a departure at least 2 µs later. A channel whose factory
trim record fails its check faults with cause TRIM (R256, R290). -/
def execConfigurationComplete (n : Fin 16) (s : State) : Host.Outcome State Fault Refusal :=
  if s.chLive n && s.chSt n == stConfiguring && (s.ch n).done.isNone then
    if !(s.otp.trim.get n).good then ok (s.chFault n 6)
    else
    let s := s.setF (Fd.CH_TIMES_CFG_US n.val) (s.usSince (s.ch n).since)
    ok (s.modCh n fun h => { h with done := some s.now })
  else ok s

/-- SHUTDOWN_COMPLETE (R251, R257): the restart check passes, or fails with a cause. -/
def execShutdownComplete (n : Fin 16) (cause : Option (Fin 8)) (s : State) : Host.Outcome State Fault Refusal :=
  if s.chLive n && s.chSt n == stShutting then
    let s := s.setF (Fd.CH_TIMES_SHUT_US n.val) (s.usSince (s.ch n).since)
    match cause with
    | none => ok ((s.toOff n).onF (Fd.CH_EVT_OFF_REACHED n.val))
    | some c => ok (s.chFault n c.val)
  else ok s

/-- CHANNEL_DIE_FAULT (R256). -/
def execChannelDieFault (n : Fin 16) (cause : Fin 8) (s : State) : Host.Outcome State Fault Refusal :=
  ok (s.chFault n cause.val)

/-- A channel's block leaves reset (R258): SHUTTING begins, unless the channel was OFF. -/
def State.chanRelease (s : State) (n : Fin 16) : State :=
  match (s.ch n).wasMode with
  | some m =>
    let s := s.modCh n fun h => { h with wasMode := none, since := s.now }
    (s.setF (Fd.CH_STATE_MODE n.val) m).setChSt n stShutting
  | none => s

/-! ### The isolator link (R246) -/

/-- The 40 bits of a good frame: 32 data bits and their CRC-8, most significant byte first (R245; log 117). -/
def isoFrame (data : Word) : BitVec 40 :=
  data ++ BitVec.ofNat 8 (crcBytes .crc8 Poly.crc8.init (beBytes data.toNat 4) ^^^ Poly.crc8.final)

/-- A symbol passes: a frame whose CRC is right. -/
def isoGood : IsoSymbol → Bool
  | .frame b => b == isoFrame (b.extractLsb' 8 32)
  | .badUrgent => false

/-- A bad frame has its sender repeat it, up to 3 times; a good one is the last of its kind. An urgent symbol is never
repeated. -/
def isoRepeat (sym : IsoSymbol) (k : Nat) : Nat :=
  match sym with
  | .frame _ => if isoGood sym then 0 else if k < 3 then k + 1 else 0
  | .badUrgent => k

/-- ISO_FRAME_RECEIVE (R246): a bad frame, or a corrupted urgent symbol, is discarded and counted; the eighth within 1 ms at
the logic end loses the link. What a good frame carries is the subject of other commands (log 117). -/
def execIsoFrameReceive (n : Fin 16) (logicEnd : Bool) (sym : IsoSymbol) (s : State) : Host.Outcome State Fault Refusal :=
  if !s.chLive n then ok s
  else
    let s := s.modCh n fun h =>
      if logicEnd then { h with isoToLogic := isoRepeat sym h.isoToLogic } else { h with isoToDie := isoRepeat sym h.isoToDie }
    if isoGood sym then ok s
    else
      let s := (s.incF (Fd.CH_LINK_BAD_FRAMES n.val)).onF (Fd.CH_STATE_LINK_ERR n.val)
      let s := (s.onF (Fd.CH_EVT_LINK_ERR n.val)).dieReport n
      if logicEnd then
        let times := s.now :: (s.ch n).badTimes.filter fun t => s.now - t ≤ 1000000
        let s := s.modCh n fun h => { h with badTimes := times }
        if 8 ≤ times.length ∧ s.chSt n ≠ stFaulted then ok ((s.incF (Fd.CH_LINK_LOSSES n.val)).chFault n 2) else ok s
      else ok s

/-- ISO_LINK_TIMEOUT (R246). -/
def execIsoLinkTimeout (n : Fin 16) (s : State) : Host.Outcome State Fault Refusal :=
  if s.chLive n then ok ((s.incF (Fd.CH_LINK_LOSSES n.val)).chFault n 1) else ok s

/-- PERIODIC_SELF_CHECK (R256): it does not run in OFF. -/
def execPeriodicSelfCheck (n : Fin 16) (pass : Bool) (s : State) : Host.Outcome State Fault Refusal :=
  if pass || s.chSt n == stOff then ok s else ok (s.chFault n 5)

/-! ### Measurement (R279 to R300) -/

/-- SEQUENCE_TRIG_EDGE (R279): an edge of a `TRIG` line reaches every measuring channel; without `VIO_IN`
the pad reads inactive (R38). -/
def execSequenceTrigEdge (k : Fin 4) (rising : Bool) (s : State) : Host.Outcome State Fault Refusal :=
  if s.padsRead then
    ok (State.each (fun n s => s.modCh n fun h => h.trigEdge k.val rising s.tt.clk) (all16.filter s.measures) s)
  else ok s

/-- CONVERSION_LEAD_START (R210, R279): at t_e − L the sequences with the departure trigger start. -/
def execConversionLeadStart (n : Fin 16) (s : State) : Host.Outcome State Fault Refusal :=
  if s.measures n && s.isF Fd.TT_STAT_LOCKED && 1 ≤ s.lead n then ok (s.modCh n fun h => h.trigger 1 s.tt.clk) else ok s

/-- SLOT_COMPLETE (R283). -/
def execSlotComplete (n : Fin 16) (r : Reading) (s : State) : Host.Outcome State Fault Refusal :=
  if s.measures n then ok (s.slotComplete n r) else ok s

/-- FAST_COMPARATOR_EVENT (R296): the input at the comparator is now `x`, in VALUE units. Of a channel whose comparator is
off, only the input stands for the time when it starts. -/
def execFastComparatorEvent (n : Fin 16) (x : Int) (s : State) : Host.Outcome State Fault Refusal :=
  if s.chLive n then
    let s := s.modCh n fun h => { h with fastIn := x }
    ok (if s.fastOn n then s.fastJudge n else s)
  else ok s

/-- DEBOUNCED_EDGE (R299, R300). Of a channel that is not on, only the level stands for the time when it is. -/
def execDebouncedEdge (n : Fin 16) (level : Bool) (s : State) : Host.Outcome State Fault Refusal :=
  if s.chLive n && s.chOn n && isDigital (s.chMode n) then ok (s.debounced n level)
  else if s.chLive n then ok (s.modCh n fun h => { h with level := level })
  else ok s

/-! ### Actuation (R311 to R325) -/

/-- The driver or the switch may be energised: the channel is on, or ramps down in SHUTTING (R250, R318). -/
def State.energised (s : State) (n : Fin 16) : Bool :=
  s.chLive n && !s.pwr.failing && (s.chOn n || s.chSt n == stShutting)

/-- DIE_TEMP_READING (R271, R315, R317): the report, the headroom and fold-back of an analogue output, the
thermal shutdown of a switch. -/
def execDieTempReading (n : Fin 16) (r : DieReport) (s : State) : Host.Outcome State Fault Refusal :=
  if s.chLive n then
    let s := (s.setF (Fd.CH_SUPPLY_P_V n.val) r.pv.val).setF (Fd.CH_SUPPLY_P_OK n.val) (b2n (360 ≤ r.pv.val))
    let s := (s.setF (Fd.CH_SUPPLY_RAIL_OK n.val) (b2n r.railOk)).setF (Fd.CH_SUPPLY_DIE_TEMP n.val) (min 255 (r.temp + 64).toNat)
    let s := s.modCh n fun h => { h with pLow := r.pv.val < 360 }
    if s.energised n && isAnaOut (s.chMode n) then
      let s := s.modCh n fun h => (h.heffTick r.temp s.now).foldTick r.temp
      ok (if 140 ≤ r.temp then s.diagSet n dOverload else s)
    else if s.energised n && 140 ≤ r.temp && (s.ch n).conducts then ok (s.switchTrip n)
    else ok s
  else ok s

/-- DAC_GRID_POINT (R311): a ramp takes its step; in SHUTTING the output ramps down (R250). -/
def execDacGridPoint (n : Fin 16) (s : State) : Host.Outcome State Fault Refusal :=
  if s.energised n && isAnaOut (s.chMode n) then
    if s.chSt n = stShutting then
      let (v, s) := s.takeFree
      ok (s.modCh n fun h => h.shutStep v)
    else ok (s.modCh n ChanH.gridPoint)
  else ok s

/-- BOOST_UPDATE (R314): `meas` is |V_term| as measured now, in mV. -/
def execBoostUpdate (n : Fin 16) (meas : Nat) (dropout iLimit : Bool) (s : State) : Host.Outcome State Fault Refusal :=
  if s.energised n && isAnaOut (s.chMode n) then
    ok (s.modCh n fun h => h.boostUpdate meas dropout iLimit s.now)
  else ok s

/-- SWITCH_THERMAL_SHUTDOWN (R323). -/
def execSwitchThermalShutdown (n : Fin 16) (s : State) : Host.Outcome State Fault Refusal :=
  if s.energised n && (s.ch n).conducts then ok (s.switchTrip n) else ok s

/-- SWITCH_AUTO_RESTART (R323): the sensor of a switch that has shut down and is not latched reads 125 °C or less; the
switch turns on again where the target is still on, and no longer stays off where it is not. -/
def execSwitchAutoRestart (n : Fin 16) (s : State) : Host.Outcome State Fault Refusal :=
  let h := s.ch n
  if s.chLive n && s.chOn n && h.cfg.mode == mHS && h.swOff && !h.swLatched then
    ok (s.modCh n fun h => { h with swOff := false })
  else ok s

/-- The load resistance in mΩ that a pair of readback results gives (R314; log 114): none without a current. -/
def loadOf (volt cur : Int) : Option Nat :=
  if cur = 0 then none else some (volt.natAbs * 1000000 / cur.natAbs)

/-- READBACK_COMPLETE (R325, R355): the voltage slot, then the current slot; at the second the readback
diagnostics are evaluated. `iLimit` says that the switch or the driver has limited in the slot. -/
def execReadbackComplete (n : Fin 16) (value : Int) (iLimit : Bool) (s : State) : Host.Outcome State Fault Refusal :=
  if s.measures n && isOutput (s.chMode n) then
    let s := s.modCh n fun h => { h with iLimit := h.iLimit || iLimit }
    if (s.ch n).rbCur then
      let volt := (((s.ch n).rbV.head?).map (·.1)).getD 0
      let s := s.modCh n fun h => { h with rbI := (value, s.tt.clk) :: h.rbI, rbCur := false, rload := loadOf volt value <|> h.rload }
      ok (s.rbEvaluate n volt value)
    else ok (s.modCh n fun h => { h with rbV := (value, s.tt.clk) :: h.rbV, rbCur := true, boostFull := h.vboost == 28000 })
  else ok s

/-! ### Diagnostics (R349, R350) -/

/-- DIAG_ACTIVATION (R349): the condition of diagnostic `b` has held for its qualification time. -/
def execDiagActivation (n : Fin 16) (b : Fin 11) (s : State) : Host.Outcome State Fault Refusal := ok (s.diagSet n b.val)

/-- DIAG_DEACTIVATION (R350): the condition has been absent for 10 ms. -/
def execDiagDeactivation (n : Fin 16) (b : Fin 11) (s : State) : Host.Outcome State Fault Refusal :=
  if s.chLive n then ok (s.diagClear n b.val) else ok s

end Sys2Proof.Machine
end

