-- ==== Sys2Proof/Machine/CrcuCmd.lean ====
section
/-! DEFINITION. The commands of the CRC units (R453, R454). -/

namespace Sys2Proof.Machine

/-- CU_CLAIM (R454). -/
def execCuClaim (u : Fin 4) (s : State) : Host.Outcome State Fault Refusal := if s.cuLive then ok (s.cuClaim u) else ok s

/-- CU_RELEASE (R454). -/
def execCuRelease (u : Fin 4) (s : State) : Host.Outcome State Fault Refusal := if s.cuLive then ok (s.cuRelease u).shPumpAll else ok s

/-- CU_START (R453). -/
def execCuStart (u : Fin 4) (by_ : Agent) (s : State) : Host.Outcome State Fault Refusal :=
  if s.cuLive then ok (s.cuStart u by_) else ok s

/-- CU_FOLD (R453). -/
def execCuFold (u : Fin 4) (by_ : Agent) (s : State) : Host.Outcome State Fault Refusal :=
  if s.cuLive then ok (s.cuFold u by_) else ok s

/-- CU_DATA8_WRITE (R453). -/
def execCuData8Write (u : Fin 4) (by_ : Agent) (v : Word) (s : State) : Host.Outcome State Fault Refusal :=
  if s.cuLive then ok (s.cuData u 1 v by_) else ok s

/-- CU_DATA16_WRITE (R453). -/
def execCuData16Write (u : Fin 4) (by_ : Agent) (v : Word) (s : State) : Host.Outcome State Fault Refusal :=
  if s.cuLive then ok (s.cuData u 2 v by_) else ok s

/-- CU_DATA32_WRITE (R453). -/
def execCuData32Write (u : Fin 4) (by_ : Agent) (v : Word) (s : State) : Host.Outcome State Fault Refusal :=
  if s.cuLive then ok (s.cuData u 4 v by_) else ok s

end Sys2Proof.Machine
end

