-- ==== Sys2Proof/Machine/Flags.lean ====
section
/-! DEFINITION. Writes by field type (R10, R560 to R562): what a write of `v` makes of a register
with read/write, write-1-to-clear and write-1-to-set bits, and the control registers of a machine by
the types of R96. -/

namespace Sys2Proof.Machine

/-- A register after a write of `v`: `rw` bits take it, `w1c` bits that are written 1 become 0, the
rest stays. -/
def writeTyped (old rw w1c v : Word) : Word := (old &&& ~~~rw &&& ~~~(w1c &&& v)) ||| (v &&& rw)

/-- The RW bits of a control register (R96). -/
def ctrlRw : Nat → Word
  | 0 => 0x2
  | 1 => 0xFFFF_FFFC
  | 2 => 0xF
  | 5 => 0xFFFF_FE00
  | 6 => 0xFFFF_FFFF
  | 7 => 0xFFFF_FFFF
  | 10 => 0x3F
  | 11 => 0xFFFF_FFFC
  | 12 => 0xF
  | 14 => 0x3
  | 15 => 0x1F
  | 17 => 0xFFFF_FFC0
  | 18 => 0xFFFF_FFC0
  | 19 => 0x1F_FFFF
  | 27 => 0xFFFF_FFFF
  | 28 => 0xFFFF_FFFF
  | 29 => 0xFFFF_FFFF
  | 30 => 0xFFFF_FFFF
  | _ => 0

/-- The W1C bits of a control register: `STATUS.EXL` and `STATUS.NMI_ACTIVE`. -/
def ctrlW1c (k : Nat) : Word := if k = 0 then 0xC else 0

/-- Whether TASK may read a control register (R96). -/
def ctrlTaskRead (k : Nat) : Bool := k == 15 || k == 16 || (19 ≤ k && k ≤ 26)

/-- A general control register after an MTC of `v` (R146). -/
def ctrlWrite (k : Nat) (old v : Word) : Word := writeTyped old (ctrlRw k) (ctrlW1c k) v

end Sys2Proof.Machine
end

