-- ==== Sys2Proof/Machine/Lane.lean ====
section
/-! DEFINITION. Reflex lanes (R329 to R335, R344) and whistles (R339 to R342, R377, R378). -/

namespace Sys2Proof.Machine

/-! ### Owners (R129, R330) -/

/-- The machine that a task runs on (R129). -/
def State.taskMach (s : State) (t : Task) : Mach :=
  let tr := Task.triadOf t
  if s.split tr then tr.mach t.slot else tr.mach 0

/-- The machine that owns a channel; none where no task does. -/
def State.chMach (s : State) (c : Fin 16) : Option Mach := (s.chTask c).map s.taskMach

/-! ### Program words (R334) -/

def State.prog (s : State) (n : Fin 16) (w : Nat) : Word := s.getR (Rg.RFX_PROG n.val w)
def laneOp (w : Word) : Nat := fieldOf w 27 5
def laneVd (w : Word) : Nat := fieldOf w 24 3
def laneVa (w : Word) : Nat := fieldOf w 21 3
def laneVb (w : Word) : Nat := fieldOf w 18 3

/-- The bits that an operation uses. -/
def laneUses (op : Nat) : Word :=
  match op with
  | 0x01 => 0xFF1F_FFFF
  | 0x02 => 0xFF00_FFFF
  | 0x03 => 0xFFE3_FFFF
  | 0x04 => 0xFFFC_0000
  | 0x05 => 0xFFFC_0000
  | 0x06 => 0xFFFC_003F
  | 0x07 => 0xFF00_00FF
  | 0x08 => 0xFFE0_010F
  | 0x09 => 0xF80F_FFFF
  | 0x0A => 0xFF00_0000
  | 0x0B => 0xF81F_FFFF
  | 0x0C => 0xFF00_007F
  | 0x0D => 0xF800_00FF
  | 0x0E => 0xF800_00FF
  | _ => 0xF800_0000

/-- A word is a legal lane instruction (R334, R335). -/
def laneLegal (w : Word) : Bool :=
  let op := laneOp w
  op ≤ 0x0F && w &&& ~~~laneUses op == 0
    && (op != 0x06 || laneVd w != 7)
    && (op != 0x08 || laneVd w ≤ 4)
    && (op != 0x09 || fieldOf w 16 4 != 0)
    && (op != 0x0B || fieldOf w 0 21 != 0)
    && (op != 0x0C || fieldOf w 4 3 ≤ 3)

/-! ### RUN and STOP (R331, R332) -/

/-- The first check of R332 that fails; 0 when every one passes. -/
def State.laneRefuse (s : State) (n : Fin 16) : Nat :=
  let tgt := s.getF (Fd.RFX_TARGET_CH n.val)
  match s.chMach n with
  | none => 1
  | some m =>
    if all16.any fun c => tgt.testBit c.val && s.chMach c != some m then 2
    else if (List.range 64).any fun k =>
        let w := s.prog n k
        !laneLegal w || (laneOp w == 0x08 && !tgt.testBit (fieldOf w 0 4)) then 3
    else if (List.range 8).any fun i => 8 ≤ s.getF (Fd.RFX_SEL_KIND n.val i) then 4
    else if (List.range 4).any fun j =>
        s.isF (Fd.RFX_WRX0_EN n.val j) &&
          (if s.isF (Fd.RFX_WRX0_TYPE n.val j) then s.getF (Fd.RFX_SEL_KIND n.val (s.getF (Fd.RFX_WRX4_SEL n.val j))) != 6
           else !tgt.testBit (s.getF (Fd.RFX_WRX4_CH n.val j)) || 4 ≤ s.getF (Fd.RFX_WRX4_KIND n.val j)) then 5
    else 0

/-- A write of 1 to RUN. -/
def State.laneRun (s : State) (n : Fin 16) : State :=
  if s.getF (Fd.RFX_STAT_STATE n.val) ≠ 0 then s
  else
    let r := s.laneRefuse n
    if r ≠ 0 then s.setF (Fd.RFX_STAT_REFUSE n.val) r
    else
      let s := (s.setF (Fd.RFX_STAT_STATE n.val) 1).offF (Fd.RFX_STAT_PC n.val)
      (s.setR (Rg.RFX_PEND n.val) 0).setLane n {}

/-- A write of 1 to STOP. -/
def State.laneStop (s : State) (n : Fin 16) : State :=
  ((s.offF (Fd.RFX_STAT_STATE n.val)).offF (Fd.RFX_STAT_FAULT n.val)).setLane n {}

/-- A write of `RFX_CTRL` (R331): STOP alone where both are set. -/
def State.rfxCtrl (s : State) (n : Fin 16) (v : Word) : State :=
  if v.getLsbD 1 then s.laneStop n else if v.getLsbD 0 then s.laneRun n else s

/-! ### Steps (R329, R334) -/

def State.rfxLive (s : State) (n : Fin 16) : Bool := s.phase == .running && !s.inReset (.rfx n)

/-- The word of the lane's next step, where the lane takes one: RUNNING and not waiting. -/
def State.laneWord (s : State) (n : Fin 16) : Option Word :=
  if s.rfxLive n && s.laneRuns n && (s.lane n).wait == .none then some (s.prog n (s.getF (Fd.RFX_STAT_PC n.val))) else none

def State.rv (s : State) (n : Fin 16) (i : Nat) : Word := s.getR (Rg.RFX_V n.val i)
def State.wv (s : State) (n : Fin 16) (i : Nat) (w : Word) : State := s.setR (Rg.RFX_V n.val i) w

/-- The PC steps, from word 63 to word 0. -/
def State.laneNext (s : State) (n : Fin 16) : State :=
  s.setF (Fd.RFX_STAT_PC n.val) ((s.getF (Fd.RFX_STAT_PC n.val) + 1) % 64)

/-- The lowest pending selector in a mask. -/
def State.firstPend (s : State) (n : Fin 16) (mask : Nat) : Option Nat :=
  (List.range 8).find? fun i => mask.testBit i && s.bitF (Fd.RFX_PEND_PEND n.val) i

/-- WAIT completes with a selector's index, clearing its bit. -/
def State.waitDone (s : State) (n : Fin 16) (vd i : Nat) : State :=
  let s := ((s.wv n vd (Word.ofNat i)).clrBitF (Fd.RFX_PEND_PEND n.val) i).setLane n {}
  s.laneNext n

/-- A condition of BR (R334). -/
def laneCond (c : Nat) (a b : Word) : Bool :=
  match c with
  | 0 => a == b
  | 1 => a != b
  | 2 => a.toInt < b.toInt
  | 3 => b.toInt ≤ a.toInt
  | 4 => a.toNat < b.toNat
  | 5 => b.toNat ≤ a.toNat
  | _ => c == 6

/-- An action of ACT is on its way to its channel's die (R335). -/
def State.laneAct (s : State) (n : Fin 16) (w : Word) : State :=
  let a : ActMsg := { chan := Fin.ofNat 16 (fieldOf w 0 4), kind := laneVd w, value := s.rv n (laneVa w)
                      latch := w.getLsbD 8, lane := n, from_ := none, issued := s.now }
  { s with rfx := { s.rfx with flight := s.rfx.flight ++ [a] } }

/-! ### Whistles (R339 to R342) -/

/-- Bytes 1 to 10 of a whistle (R377). -/
def whistleBytes (m : WhistleMsg) : List Byte :=
  BitVec.ofNat 8 m.seq :: beBytes (4096 * (m.hops % 16) + m.origin % 1024) 2
    ++ BitVec.ofNat 8 (m.lane % 16) :: beBytes (m.code % 65536) 2 ++ beBytes (m.time % 2 ^ 32) 4

/-- The first word of a whistle on the wire: K28.3 and bytes 1 to 3 (R366, R377). -/
def whistleWord (m : WhistleMsg) : KWord :=
  kWord 28 3 (BitVec.ofNat 8 m.seq) (BitVec.ofNat 8 (16 * (m.hops % 16) + m.origin % 1024 / 256)) (BitVec.ofNat 8 m.origin)

/-- CHECK of a whistle (R377): CRC-8 over bytes 1 to 10 with HOPS as 0. -/
def whistleCheck (m : WhistleMsg) : Byte :=
  BitVec.ofNat 8 (crcBytes .crc8 Poly.crc8.init (whistleBytes { m with hops := 0 }) ^^^ Poly.crc8.final)

/-- A whistle joins the queue behind the others, for some ports; each leaves 40 ns after the one before. -/
def State.whistleEnqueue (s : State) (m : WhistleMsg) (ports : List Port) : State :=
  let t := s.ov.whistleOut.foldl (fun t p => max t p.1) s.now + 40
  { s with ov := { s.ov with whistleOut := s.ov.whistleOut ++ [(t, m, ports)] } }

/-- A whistle leaves on a LINKED port of revision 2.0, or is dropped there and its origin told (R345, R378, R382). -/
def State.whistleOn (s : State) (m : WhistleMsg) (p : Port) : State :=
  if !s.linked p then s
  else if s.getF (Fd.OV_PSTAT_REV p.idx) < 2 then (s.countDrop p).sendRefuse m.origin 0 (some m.lane)
  else s.incF (Fd.OV_WHISTLE_TX p.idx)

/-- The whistles that are due leave, each on its ports, and free their entries (R339). -/
def State.whistleFlush (s : State) : State :=
  let due := s.ov.whistleOut.filter fun p => p.1 ≤ s.now
  let s := { s with ov := { s.ov with whistleOut := s.ov.whistleOut.filter fun p => s.now < p.1 } }
  State.each (fun e s => State.each (fun p s => s.whistleOn e.2.1 p) e.2.2 s) due s

/-- WHISTLE of a lane (R339, R340); none is originated in STABLED (R395). -/
def State.laneWhistle (s : State) (n : Fin 16) (w : Word) : State :=
  if s.asleep then s
  else if s.stationRev < 2 then s.incF (Fd.RFX_WCNT_REFUSED_VERSION n.val)
  else if s.linkedPorts.isEmpty || !s.numbered || !s.ovLive then s.incF (Fd.RFX_WCNT_NO_LINK n.val)
  else if 8 ≤ s.ov.whistleOut.length then s.incF (Fd.RFX_WCNT_QUEUE_FULL n.val)
  else
    let m : WhistleMsg := { seq := s.ov.whistleSeq, hops := fieldOf w 16 4, origin := s.nodeId, lane := n.val, code := fieldOf w 0 16
                            time := s.tt.clk % 2 ^ 32, check := 0 }
    let m := { m with check := whistleCheck m }
    let s := { s with ov := { s.ov with whistleSeq := (s.ov.whistleSeq + 1) % 256 } }
    (s.whistleEnqueue m s.linkedPorts).incF (Fd.RFX_WCNT_SENT n.val)

/-- One enabled receive entry of a RUNNING lane meets a whistle (R342). -/
def State.wrxMatch (s : State) (m : WhistleMsg) (n : Fin 16) (j : Nat) : Bool :=
  s.isF (Fd.RFX_WRX0_EN n.val j) && s.getF (Fd.RFX_WRX0_CODE n.val j) == m.code
    && (s.isF (Fd.RFX_WRX0_ANY_ORIGIN n.val j) || s.getF (Fd.RFX_WRX0_ORIGIN n.val j) == m.origin)

def State.wrxAct (m : WhistleMsg) (n : Fin 16) (j : Nat) (s : State) : State :=
  if s.isF (Fd.RFX_WRX0_TYPE n.val j) then
    let i := s.getF (Fd.RFX_WRX4_SEL n.val j)
    if s.getF (Fd.RFX_SEL_KIND n.val i) = evWhistle then s.pendSel n i else s
  else
    let a : ActMsg := { chan := Fin.ofNat 16 (s.getF (Fd.RFX_WRX4_CH n.val j)), kind := s.getF (Fd.RFX_WRX4_KIND n.val j)
                        value := s.getR (Rg.RFX_WRX8 n.val j), latch := s.isF (Fd.RFX_WRX4_LATCH n.val j), lane := n
                        from_ := some m.origin, issued := s.now }
    { s with rfx := { s.rfx with flight := s.rfx.flight ++ [a] } }

/-- The receive entries of every RUNNING lane act. -/
def State.whistleMatch (s : State) (m : WhistleMsg) : State :=
  State.each (fun n s => State.each (fun j s => s.wrxAct m n j) ((List.range 4).filter (s.wrxMatch m n)) s)
    (all16.filter s.laneRuns) s

/-- A whistle is forwarded while hops remain, never on the port it came by (R341). -/
def State.whistleForward (s : State) (p : Port) (m : WhistleMsg) : State :=
  let m := { m with hops := m.hops - 1 }
  if 0 < m.hops ∧ s.linked p.other = true then s.whistleEnqueue m [p.other] else s

/-- A whistle arrives (R341, R378). One that fails its check has already been forwarded (R379). -/
def State.whistleIn (s : State) (p : Port) (m : WhistleMsg) : State :=
  if s.ov.whistleIn.any (fun r => r.1 == m.origin && r.2.1 == m.seq && s.now - r.2.2 ≤ 8000) || (s.numbered && m.origin == s.nodeId) then
    s.incF (Fd.OV_WHISTLE_DUP p.idx)
  else if m.check ≠ whistleCheck m then
    ((s.whistleForward p m).incF (Fd.OV_WHISTLE_BAD p.idx)).raise 41
  else
    let s := { s with ov := { s.ov with
      whistleIn := (m.origin, m.seq, s.now) :: s.ov.whistleIn.filter fun r => s.now - r.2.2 ≤ 8000 } }
    ((s.whistleForward p m).incF (Fd.OV_WHISTLE_RX p.idx)).whistleMatch m

end Sys2Proof.Machine
end

