-- ==== Sys2Proof/Machine/Timetable.lean ====
section
/-! DEFINITION. The timetable: lock, the master, holdover and merge (R199 to R204), the period (R207), and the
register of a departure (R209, R210). -/

namespace Sys2Proof.Machine

/-- `TTBL` runs. -/
def State.ttLive (s : State) : Bool := s.phase == .running && !s.inReset .ttbl

def State.locked (s : State) : Bool := s.isF Fd.TT_STAT_LOCKED

/-! ### Departures to come (R201, R209) -/

/-- The first epoch whose departure falls at or after a time. -/
def State.firstEpoch (s : State) (t : Nat) : Nat :=
  let p := s.period * 1000
  if t ≤ s.tt.anchorT ∨ p = 0 then s.tt.anchorE else s.tt.anchorE + (t - s.tt.anchorT + p - 1) / p

/-- The node locks: its first departure is the first one at least 1 ms later (R201). Actions of the time without
departures lie in no epoch (R219). -/
def State.lock (s : State) : State :=
  let s := s.onF Fd.TT_STAT_LOCKED
  let s := { s with tt := { s.tt with nextE := s.firstEpoch (s.tt.clk + 1000000), started := false, wasLocked := true }
                    rfx := { s.rfx with log := [] } }
  s.newProposals.computeBound

/-! ### What a time frame announces (R199, R207, R208, R222) -/

/-- A pending change, or none. -/
def State.takePend (s : State) (p : Option (Nat × Nat)) : State :=
  let s := { s with tt := { s.tt with pend := p } }
  match p with
  | some (_, e) => (s.onF Fd.TT_STAT_CHG_PENDING).setF Fd.TT_CHG_EPOCH_EPOCH e
  | none => s.offF Fd.TT_STAT_CHG_PENDING

/-- The master's C; CAPPED follows the node's own view of the bound. -/
def State.takeClose (s : State) (c : Nat) : State :=
  (s.setF Fd.TT_CLOSE_C c).setF Fd.TT_CLOSE_CAPPED (b2n (s.period - 2 < s.spanUs))

/-- Revision and format, from the next departure on. -/
def State.takeRevNext (s : State) (m : TimeMsg) : State := { s with tt := { s.tt with revNext := m.rev, fmtNext := m.fmt } }

/-- Period and anchor. -/
def State.takeSchedule (s : State) (m : TimeMsg) : State :=
  { s.setF Fd.TT_PERIOD_ACT_PERIOD m.period with tt := { s.tt with anchorE := m.anchorE, anchorT := m.anchorT } }

/-- A frame announces the period and the anchor in force. -/
def State.inForce (s : State) (m : TimeMsg) : Bool :=
  m.period == s.period && m.anchorE == s.tt.anchorE && m.anchorT == s.tt.anchorT

/-- A frame announces as in force the change that is pending here: the master has made that departure, this node
makes it next. -/
def State.changeAhead (s : State) (m : TimeMsg) : Bool :=
  s.tt.pend == some (m.period, m.anchorE) && m.anchorT == s.depTime m.anchorE

def State.sameSchedule (s : State) (m : TimeMsg) : Bool := s.inForce m || s.changeAhead m

/-- What a frame of the node's own timetable announces: nothing of a schedule that is not the one in force, so
that a change ahead of the node stays pending and one behind it stays made (R198, R207). -/
def State.takeAnnounced (s : State) (m : TimeMsg) : State :=
  if s.inForce m then (((s.takePend m.pend).takeClose m.close).takeRevNext m).checkMismatch else s

/-- The master changes. -/
def State.newMaster (s : State) (id : Nat) : State :=
  let old := s.getF Fd.TT_MASTER_MASTER_ID
  let s := (s.setF Fd.TT_MASTER_MASTER_ID id).offF Fd.TT_STAT_MASTER
  if old = id ∨ old = 0x3FF then s else s.incF Fd.TT_CNT_MASTER_CHG

/-- Node time is corrected by slewing (R202). -/
def State.slewTo (s : State) (off : Int) : State := { s with tt := { s.tt with slew := off, slewPhase := 0 } }

/-! ### Merge (R203) -/

/-- A step: proposals are withdrawn, the winner's time, period and anchor are taken, and departures go on with
the first one on the new time. -/
def State.mergeStep (s : State) (rx : Nat) (m : TimeMsg) : State :=
  let s := s.withdrawAll
  let s := (s.newMaster m.master).takeSchedule m
  let s := ((s.offF Fd.TT_STAT_SLEWING).offF Fd.TT_STAT_HOLDOVER).incF Fd.TT_CNT_STEPS
  let s := { s with tt := { s.tt with clk := rx, slew := 0, started := false }
                    mani := { s.mani with gathering := false, doubt := 0 }, rfx := { s.rfx with log := [] } }.newProposals
  let s := { s with tt := { s.tt with nextE := s.firstEpoch (rx + 1) } }
  let s := ((s.takePend m.pend).takeClose m.close).takeRevNext m
  ((s.checkMismatch).raise 50).raise 63

/-- A slew: departures follow local time. -/
def State.mergeSlew (s : State) (off : Int) (m : TimeMsg) : State :=
  let s := ((s.newMaster m.master).slewTo off).incF Fd.TT_CNT_STEPS
  let s := (s.setF Fd.TT_STAT_SLEWING (b2n (40 < off.natAbs))).offF Fd.TT_STAT_HOLDOVER
  (s.takeAnnounced m).raise 50

/-! ### A time frame arrives (R199, R201 to R203) -/

/-- At a node that is not locked: the first frame, or one of a lower master, steps it; eight in a row within
±40 ns lock it. Until then each frame steps its time: DESIGN CHOICE (log 105). -/
def State.timeUnlocked (s : State) (rx : Nat) (off : Int) (m : TimeMsg) : State :=
  let cur := s.getF Fd.TT_MASTER_MASTER_ID
  if s.tt.heard = true ∧ cur < m.master ∧ s.reachable cur = true then s
  else
    let first := !s.tt.heard || m.master != cur
    let n := if first || 40 < off.natAbs then 0 else s.tt.okFrames + 1
    let s := ((s.newMaster m.master).takeSchedule m).takeRevNext m
    let s := { s with tt := { s.tt with heard := true, clk := rx, okFrames := n } }
    let s := (s.takePend m.pend).takeClose m.close
    (if 8 ≤ n then s.lock else s).checkMismatch

/-- At a locked node. The node's own master corrects the time by slewing whatever schedule its frame names, since
no segments are joined there (R198); one that the node had lost and that comes back with a schedule of its own, and
time more than 10 µs off, joins as another master does (R203). -/
def State.timeLocked (s : State) (rx : Nat) (off : Int) (m : TimeMsg) : State :=
  let cur := s.getF Fd.TT_MASTER_MASTER_ID
  if s.isF Fd.TT_STAT_HOLDOVER ∨ m.master = cur then
    if s.sameSchedule m || (m.master == cur && (!s.isF Fd.TT_STAT_HOLDOVER || off.natAbs ≤ 10000)) then
      let s := ((s.newMaster m.master).offF Fd.TT_STAT_HOLDOVER).slewTo off
      let s := if off.natAbs ≤ 40 then s.offF Fd.TT_STAT_SLEWING else s
      s.takeAnnounced m
    else s.mergeStep rx m
  else if cur < m.master then s
  else if s.sameSchedule m && off.natAbs ≤ 10000 then s.mergeSlew off m
  else s.mergeStep rx m

/-- A time frame arrives, `delay` tenths of a ns after it was sent (R199). -/
def State.timeIn (s : State) (delay : Nat) (m : TimeMsg) : State :=
  if !s.ttLive || !s.numbered || m.master == s.nodeId then s
  else
    let rx := m.time + delay / 10
    let off : Int := rx - s.tt.clk
    let s := if s.locked && !s.isF Fd.TT_STAT_HOLDOVER && s.getF Fd.TT_MASTER_MASTER_ID < m.master then s
      else s.setR Rg.TT_OFFSET (Word.ofInt off)
    if s.locked then s.timeLocked rx off m else s.timeUnlocked rx off m

/-! ### Mastership (R201, R202) -/

/-- The node becomes master with station time 0 (R201). -/
def State.selfMaster (s : State) : State :=
  if s.ttLive && s.numbered && !s.locked && !s.tt.heard then
    let s := (s.setF Fd.TT_PERIOD_ACT_PERIOD (s.getF Fd.TT_PERIOD_PERIOD)).newMaster s.nodeId
    let s := s.onF Fd.TT_STAT_MASTER
    let s := { s with tt := { s.tt with clk := 0, anchorE := 0, anchorT := 0, pend := none, slew := 0
                                        revNext := s.lowestRev, fmtNext := if s.lowestRev = 2 then 2 else 1 } }
    s.lock.checkMismatch
  else s

/-- The node with the lowest ID takes office from the time it holds: in holdover (R202), and where the master's ID
is higher than its own (R199). -/
def State.takeOffice (s : State) : State :=
  if s.ttLive && s.locked && !s.isF Fd.TT_STAT_MASTER && s.lowestId
      && (s.isF Fd.TT_STAT_HOLDOVER || s.nodeId < s.getF Fd.TT_MASTER_MASTER_ID) then
    let s := ((s.newMaster s.nodeId).onF Fd.TT_STAT_MASTER).offF Fd.TT_STAT_HOLDOVER
    (s.slewTo 0).computeBound.sendTime
  else s

/-! ### The period (R207) -/

/-- A write of `TT_PERIOD`; the master judges it. -/
def State.ttPeriodWrite (s : State) (v : Word) : State :=
  let p := fieldOf v 0 20
  if p < 20 ∨ 1000000 < p then s.onF Fd.TT_STAT_CHG_REFUSED
  else
    let s := s.setF Fd.TT_PERIOD_PERIOD p
    (if s.locked && s.isF Fd.TT_STAT_MASTER then s.judgePeriod else s).checkMismatch

/-- The change that falls due at departure `e` at time `te`. -/
def State.periodChange (s : State) (e te : Nat) : State :=
  match s.tt.pend with
  | some (p, e') =>
    if e' = e then
      let s := (s.setF Fd.TT_PERIOD_ACT_PERIOD p).takePend none
      { s with tt := { s.tt with anchorE := e, anchorT := te } }
    else s
  | none => s

/-- Revision and format from this departure on (R222, R383). -/
def State.revChange (s : State) : State :=
  let r := if s.isF Fd.TT_STAT_MASTER then s.lowestRev else s.tt.revNext
  let f := if s.isF Fd.TT_STAT_MASTER then (if s.lowestRev = 2 then 2 else 1) else s.tt.fmtNext
  (s.setF Fd.TT_MASTER_REV r).setF Fd.TT_MASTER_FMT f

/-- The departure interrupt (R210, R241). -/
def State.depIrq (s : State) : State :=
  let s := if s.isF Fd.TT_IRQ_EN_A then s.onF Fd.TT_IRQ_PEND_A else s
  if s.isF Fd.TT_IRQ_EN_B then s.onF Fd.TT_IRQ_PEND_B else s

end Sys2Proof.Machine
end

