-- ==== Sys2Proof/Machine/Manifest.lean ====
section
/-! DEFINITION. The manifest: configuration of entries and subscriptions (R212, R223, R242), publishing (R213 to
R222), the image with its banks, and the close (R215, R224 to R228). -/

namespace Sys2Proof.Machine

def State.maniLive (s : State) : Bool := s.phase == .running && !s.inReset .mani

/-! ### Configuration (R212, R223, R242) -/

/-- The number of 1 bits among the low 16. -/
def pop16 (n : Nat) : Nat := ((List.range 16).filter fun i => n.testBit i).length

/-- The payload words of an entry by its first `PUB` word. -/
def pubLen (w0 : Word) : Nat :=
  if fieldOf w0 0 2 = 1 then 4 * pop16 (fieldOf w0 16 16) else fieldOf w0 8 8

/-- The bytes of an entry on the wire; none while it is OFF. -/
def pubBytes (w0 : Word) : Nat := if fieldOf w0 0 2 = 0 then 0 else 16 + 4 * pubLen w0

def State.pub0 (s : State) (k : Nat) : Word := s.getR (Rg.PUB0 k)

/-- The entries that are enabled as written, in rising order. -/
def State.pubOn (s : State) : List Nat := (List.range 64).filter fun k => fieldOf (s.pub0 k) 0 2 != 0

/-- `MANI_VOLUME` shows the node's contribution. -/
def State.showVolume (s : State) : State :=
  let on_ := s.pubOn
  (s.setF Fd.MANI_VOLUME_BYTES (on_.foldl (fun n k => n + pubBytes (s.pub0 k)) 0)).setF Fd.MANI_VOLUME_ENTRIES on_.length

/-- A configuration write is refused. -/
def State.cfgRefused (s : State) : State := (s.onF Fd.MANI_STAT_CFG_BAD).raise 62

/-- An entry of these two words is admitted beside the others (R212, R216). -/
def State.pubOk (s : State) (k : Nat) (w0 w4 : Word) : Bool :=
  let src := fieldOf w0 0 2
  let n := pubLen w0
  let others := s.pubOn.filter (· != k)
  src == 0 ||
    ((if src = 1 then n != 0
      else if src = 2 then 1 ≤ n && n ≤ 252 && w4.toNat % 4 == 0 && w4.toNat + 4 * n ≤ 0x0100_0000
      else n % 4 == 0 && 8 ≤ n && n ≤ 252 && !(others.any fun j => fieldOf (s.pub0 j) 0 2 == 3))
    && pubBytes w0 + others.foldl (fun b j => b + pubBytes (s.pub0 j)) 0 ≤ 1024)

/-- A write of word `i` of `PUB[k]`. -/
def State.pubWrite (s : State) (k i : Nat) (v : Word) : State :=
  let w0 := if i = 0 then v &&& 0xFFFF_FF03 else s.pub0 k
  let w4 := if i = 0 then s.getR (Rg.PUB4 k) else v
  if s.pubOk k w0 w4 then
    (if i = 0 then s.setR (Rg.PUB0 k) w0 else s.setR (Rg.PUB4 k) w4).showVolume
  else s.cfgRefused

/-- The length of a bank in bytes. -/
def State.bankSize (s : State) : Nat := 4096 * s.getF Fd.MANI_BANK_SIZE_SIZE

/-- A subscription of these two words is admitted (R223). -/
def State.subOk (s : State) (w0 w4 : Word) : Bool :=
  let m := fieldOf w4 0 8
  fieldOf w0 31 1 == 0 ||
    (fieldOf w0 0 10 != 0x3FF && 1 ≤ m && m ≤ 252 && 16 * fieldOf w0 16 14 + 16 + 4 * m ≤ s.bankSize)

/-- A write of word `i` of `SUB[j]`. -/
def State.subWrite (s : State) (j i : Nat) (v : Word) : State :=
  let w0 := if i = 0 then v &&& 0xBFFF_FFFF else s.getR (Rg.SUB0 j)
  let w4 := if i = 0 then s.getR (Rg.SUB4 j) else v &&& 0xFF
  if s.subOk w0 w4 then (if i = 0 then s.setR (Rg.SUB0 j) w0 else s.setR (Rg.SUB4 j) w4) else s.cfgRefused

/-- A write of `MANI_BANK_SIZE`. -/
def State.bankSizeWrite (s : State) (v : Word) : State :=
  let n := fieldOf v 12 7
  if 64 < n then s.cfgRefused else s.setF Fd.MANI_BANK_SIZE_SIZE n

/-! ### Entries (R213 to R215) -/

/-- The station address of entry `k` of a node. -/
def entryAddr (node k : Nat) : Nat := nodeBase node + 0x4008_2000 + 16 * k

/-- LEN of an entry. -/
def entryLen (m : EntryMsg) : Nat := fieldOf (m.addrFlags.extractLsb' 32 32) 20 8

/-- CHECK of an entry: bit [60] is taken as 0, and everything as on the wire. -/
def entryCheck (addr : Nat) (flags : DWord) (epoch : Word) (payload : List Word) : Word :=
  BitVec.ofNat 32 (crcFold .crc32c addr epoch.toNat
    (beBytes (flags &&& 0xEFFF_FFFF_FFFF_FFFF).toNat 8 ++ payload.flatMap fun w => beBytes w.toNat 4))

/-- An entry of this node with its check. -/
def State.mkEntry (s : State) (k flags : Nat) (payload : List Word) : EntryMsg :=
  let a := entryAddr s.nodeId k
  let af : DWord := BitVec.ofNat 64 (a + payload.length * 2 ^ 52 + flags * 2 ^ 60)
  let e : Word := BitVec.ofNat 32 s.tt.epoch
  { addrFlags := af, epoch := e, check := entryCheck a af e payload, payload := payload }

/-! ### What is in force (R228) -/

/-- The entries enabled as written. -/
def State.pubRows (s : State) : List PubRow :=
  s.pubOn.map fun k =>
    { idx := k, src := s.getF (Fd.PUB0_SRC k), len := pubLen (s.pub0 k), chmask := s.getF (Fd.PUB0_CHMASK k)
      addr := s.getF (Fd.PUB4_ADDR k) }

/-- The first words of enabled subscriptions, with their numbers. -/
def State.subOn (s : State) : List (Nat × Word) :=
  s.regs.filterMap fun p =>
    if 0x4008_4000 ≤ p.1 ∧ p.1 < 0x4008_C000 ∧ p.1 % 8 = 0 ∧ p.2.getLsbD 31 = true then some ((p.1 - 0x4008_4000) / 8, p.2) else none

/-- The subscriptions enabled as written that fit a bank. -/
def State.subRows (s : State) : List SubRow :=
  (s.subOn.map fun (j, w) =>
    { idx := j, node := fieldOf w 0 10, entry := fieldOf w 10 6, offset := 16 * fieldOf w 16 14, maxlen := s.getF (Fd.SUB4_MAXLEN j) }).filter
    fun r : SubRow => r.offset + 16 + 4 * r.maxlen ≤ s.bankSize

/-- The bank that a machine holds. -/
def holdReg : Mach → Rg
  | .a0 => Rg.MANI_HOLD_A0
  | .a1 => Rg.MANI_HOLD_A1
  | .b0 => Rg.MANI_HOLD_B0
  | .b1 => Rg.MANI_HOLD_B1

def State.held (s : State) (b : Nat) : Bool :=
  Mach.all.any fun m => fieldOf (s.getR (holdReg m)) 3 1 == 1 && fieldOf (s.getR (holdReg m)) 0 3 == b

/-- A machine takes hold of the latest closed bank (R224). -/
def State.takeHold (s : State) (m : Mach) (e b : Nat) : State :=
  s.setR (holdReg m) (BitVec.ofNat 32 (b + 8 + e % 65536 * 65536))

/-- A bank that is neither held nor the latest closed one. -/
def State.freeBank (s : State) : Nat :=
  ((List.range (s.getF Fd.MANI_STAT_BANKS)).find? fun b => !s.held b && s.mani.closed.map (·.2) != some b).getD 0

/-- The boot has ended in a failure: the module contributes no entries (R72). -/
def State.bootFailed (s : State) : Bool := 2 ≤ s.getF Fd.BOOT_STAT_RESULT

/-- The configuration is taken up at a departure, and the gathering of its epoch begins. The newest entry of a
subscription stays while the subscription is not in force (R226). -/
def State.startEpoch (s : State) : State :=
  let en := s.isF Fd.MANI_CFG_EN && !s.pwr.failing
  let base := 4096 * s.getF Fd.MANI_IMG_BASE_BASE
  let size := s.bankSize
  let bad := 0x0100_0000 < base + s.getF Fd.MANI_STAT_BANKS * size
  let s := if bad then s.onF Fd.MANI_STAT_IMG_BAD else s
  let subs := if en && !bad then s.subRows else []
  let s := { s with mani := { s.mani with
    en := en, pubs := if en && !s.bootFailed then s.pubRows else [], subs := subs, base := base, size := size
    arrived := [], bank := s.freeBank, gathering := true } }
  s.offF Fd.MANI_STAT_CLOSED

/-! ### The image (R214, R224, R226) -/

/-- An entry with its header as a slot holds it. -/
def slotBytes (m : EntryMsg) : List Byte :=
  leBytes m.addrFlags.toNat 8 ++ leBytes m.epoch.toNat 4 ++ leBytes m.check.toNat 4 ++ m.payload.flatMap fun w => leBytes w.toNat 4

/-- An entry is written into a subscription's slot of the bank being written: its whole words of 8 bytes, then the half
word that may be left. Where that one is poisoned nothing of it is written (R457), and the slot reads as POISON there:
DESIGN CHOICE (log 112). -/
def State.writeSlot (s : State) (r : SubRow) (m : EntryMsg) : State :=
  let a := s.mani.base + s.mani.bank * s.mani.size + r.offset
  let bs := slotBytes m
  let k := bs.length / 8 * 8
  let s := (s.sramWrite a (bs.take k)).2
  if k = bs.length then s else (s.sramWrite (a + k) (bs.drop k)).2

/-- STALE. -/
def staleBit : DWord := 0x1000_0000_0000_0000

/-- A slot that has never had an entry: its CHECK is not stated. -/
def State.emptySlot (s : State) (r : SubRow) : State :=
  let (v, s) := s.takeFree
  s.writeSlot r { addrFlags := BitVec.ofNat 64 (entryAddr r.node r.entry) ||| staleBit, epoch := 0, check := v.setWidth 32
                  payload := List.replicate r.maxlen 0 }

/-- A slot without an entry of the epoch is filled (R226) with the newest accepted one of the subscription's address. One
that a smaller MAXLEN no longer admits is none: DESIGN CHOICE (log 111). -/
def State.staleSlot (r : SubRow) (s : State) : State :=
  match lookupNat r.idx s.mani.newest with
  | some m =>
    if m.addrFlags.toNat % 2 ^ 52 = entryAddr r.node r.entry ∧ entryLen m ≤ r.maxlen then s.writeSlot r { m with addrFlags := m.addrFlags ||| staleBit }
    else s.emptySlot r
  | none => s.emptySlot r

/-- The bytes in which two slots overlap: the offset in a bank and the number. -/
def slotOverlap (a b : SubRow) : Nat × Nat :=
  let lo := max a.offset b.offset
  let hi := min (a.offset + 16 + 4 * a.maxlen) (b.offset + 16 + 4 * b.maxlen)
  (lo, hi - lo)

/-- The content of overlapping bytes is undefined (R223): one byte of it. -/
def State.freeByteAt (a : Nat) (s : State) : State :=
  let (v, s) := s.takeFree
  (s.sramWrite a [v.setWidth 8]).2

def State.freeOverlap (p : Nat × Nat) (s : State) : State :=
  State.each (fun i s => State.freeByteAt (s.mani.base + s.mani.bank * s.mani.size + p.1 + i) s) (List.range p.2) s

def overlaps : List SubRow → List (Nat × Nat)
  | [] => []
  | r :: l => ((l.map (slotOverlap r)).filter fun p => p.2 != 0) ++ overlaps l

/-- The manifest of the present epoch closes (R225, R226). -/
def State.closeManifest (s : State) : State :=
  if !s.mani.gathering then s
  else
    let missing := s.mani.subs.filter fun r => !s.mani.arrived.contains r.idx
    let s := State.each State.staleSlot missing s
    let s := State.each State.freeOverlap (overlaps s.mani.subs) s
    let s := { s with mani := { s.mani with gathering := false, closed := some (s.tt.epoch, s.mani.bank) } }
    let s := (s.onF Fd.MANI_STAT_CLOSED).addF Fd.MANI_CNT_STALE_COUNT missing.length
    if missing.isEmpty then s else s.raise 53

/-- The manifest closes early once every subscription has its entry (R225). -/
def State.closeIfFull (s : State) : State :=
  if s.mani.subs.all fun r => s.mani.arrived.contains r.idx then s.closeManifest else s

/-! ### An entry arrives (R215, R226, R227) -/

/-- One subscription takes an entry, unless it is too long for it. -/
def State.takeEntry (m : EntryMsg) (r : SubRow) (s : State) : State :=
  if r.maxlen < entryLen m then s
  else
    let s := s.writeSlot r m
    { s with mani := { s.mani with arrived := r.idx :: s.mani.arrived.filter (· != r.idx), newest := insertNat r.idx m s.mani.newest } }

/-- An entry arrives at a node that gathers. One that no subscription in force names is none of its entries and is not
counted: DESIGN CHOICE (log 106). -/
def State.entryIn (s : State) (m : EntryMsg) : State :=
  let a := m.addrFlags.toNat % 2 ^ 52
  let rows := s.mani.subs.filter fun r => entryAddr r.node r.entry == a
  if rows.isEmpty then s
  else if m.check ≠ entryCheck a m.addrFlags m.epoch m.payload then (s.incF Fd.MANI_CNT_DISC_BAD_CHECK).raise 54
  else if !s.mani.gathering || m.epoch.toNat != s.tt.epoch % 2 ^ 32 then (s.incF Fd.MANI_CNT_DISC_LATE).raise 55
  else
    let long := rows.any fun r => r.maxlen < entryLen m
    let s := (State.each (State.takeEntry m) rows s).closeIfFull
    if long then s.raise 56 else s

/-! ### Publishing (R216 to R221) -/

/-- The record of one channel (R218). -/
def State.chRecord (s : State) (n : Fin 16) : List Word :=
  let h := s.ch n
  [h.value, h.age, s.getR (Rg.CH_STATE_DP n.val), h.diag]

/-- The channels of a mask, in rising order. -/
def maskChans (m : Nat) : List (Fin 16) := all16.filter fun n => m.testBit n.val

/-- Four words of one record of the reflex log (R219). -/
def reflexWords (r : ReflexRec) : List Word :=
  [BitVec.ofNat 32 r.time, BitVec.ofNat 32 (r.time / 2 ^ 32), BitVec.ofNat 32 (r.chan + r.origin * 2 ^ 8 + r.node * 2 ^ 16), r.value]

/-- The payload of the reflex log in `len` words, for the actions of the interval. -/
def reflexPayload (len : Nat) (l : List ReflexRec) : List Word :=
  let kept := l.take ((len - 4) / 4)
  let w := [BitVec.ofNat 32 kept.length, BitVec.ofNat 32 (l.length - kept.length), 0, 0] ++ kept.flatMap reflexWords
  w ++ List.replicate (len - w.length) 0

/-- The words of an SRAM area (R217): none where one is poisoned. -/
def State.sramArea (s : State) (a len : Nat) : Option (List Word) × State :=
  let s := s.eccTouchAll a (4 * len)
  if s.anyMark isPoisoned a (4 * len) then (none, s.onF Fd.MANI_STAT_PUB_POISON)
  else (some ((List.range len).map fun i => BitVec.ofNat 32 (s.sramRead (a + 4 * i) 4)), s)

/-- The actions of [t_{e−1}, t_e) that the log of epoch e reports (R219). In format 1 there is none of a received
whistle (R222). -/
def State.actsOf (s : State) (tp te : Nat) : List ReflexRec :=
  s.rfx.log.filter fun r => tp ≤ r.time && r.time < te && (s.getF Fd.TT_MASTER_FMT == 2 || r.origin != 0x80)

/-- The flags that go onto the wire: in format 1 no DOUBT (R222). -/
def State.wireFlags (s : State) (fl : Nat) : Nat := if s.getF Fd.TT_MASTER_FMT = 2 then fl else fl % 8

/-- Flags (bits [63:60] of ADDR_FLAGS: STALE 1, STABLED 2, REFLEX 4, DOUBT 8) and payload of an entry. -/
def State.pubContent (s : State) (log : List ReflexRec) (r : PubRow) : Option (Nat × List Word) × State :=
  if r.src = 1 then
    let chs := maskChans r.chmask
    let reflex := chs.any fun n => fieldOf (s.ch n).diag 24 8 != 0
    let doubt := r.chmask &&& s.mani.doubt.toNat != 0
    (some (4 * b2n reflex + 8 * b2n doubt, chs.flatMap s.chRecord), s)
  else if r.src = 2 then
    let (w, s) := s.sramArea r.addr r.len
    (w.map fun w => (0, w), s)
  else (some (4 * b2n (!log.isEmpty), reflexPayload r.len log), s)

/-- An entry leaves on both ports and reaches the node's own subscriptions. -/
def State.sendEntry (k flags : Nat) (payload : List Word) (s : State) : State :=
  let m := s.mkEntry k (s.wireFlags flags) payload
  (s.originate (nodeBase 0x3FF) 0 (.entry m)).entryIn m

/-- What the entries of a departure hold, as one snapshot (R217): with each entry's number, none where it is not
published. -/
def State.contents (s : State) (log : List ReflexRec) : List PubRow → List (Nat × Option (Nat × List Word)) × State
  | [] => ([], s)
  | r :: l =>
    let (x, s) := s.pubContent log r
    let (rest, s) := s.contents log l
    ((r.idx, x) :: rest, s)

/-- The entries of the departure at `te`, the one before it having been at `tp` (R210, R217 to R220): all are copied
before any is sent, and are kept for STABLED. In STABLED each entry is that of the last departure before, under
the present epoch (R87). -/
def State.publish (s : State) (tp te : Nat) : State :=
  let log := s.actsOf tp te
  let s := { s with rfx := { s.rfx with log := s.rfx.log.filter fun r => te ≤ r.time } }
  if !s.mani.en || s.pwr.failing || s.bootFailed || !s.maniLive then s
  else if s.asleep then State.each (fun p s => State.sendEntry p.1 (p.2.1 ||| 2) p.2.2 s) s.mani.lastPub s
  else
    let (l, s) := s.contents log s.mani.pubs
    let l := l.filterMap fun p => p.2.map fun x => (p.1, x.1, x.2)
    let s := { s with mani := { s.mani with lastPub := l } }
    let s := State.each (fun p s => State.sendEntry p.1 p.2.1 p.2.2 s) l s
    let full := s.mani.pubs.any fun r => r.src == 3 && (r.len - 4) / 4 < log.length
    if full then s.raise 61 else s

end Sys2Proof.Machine
end

