-- ==== Sys2Proof/Machine/OrviaCmd.lean ====
section
/-! DEFINITION. The commands of the Orvia link layer (R366 to R397). -/

namespace Sys2Proof.Machine

/-! ### Training (R380) -/

/-- SIGNAL_DETECT: a DOWN port that is not DISABLED trains. -/
def execSignalDetect (p : Port) (s : State) : Host.Outcome State Fault Refusal :=
  if s.ovLive && s.portSt p == 0 && !s.isF (Fd.OV_PCTRL_DISABLE p.idx) then
    ok (s.putPort p 1)
  else ok s

/-- TRAIN_EXCHANGE_COMPLETE. -/
def execTrainExchangeComplete (p : Port) (o : PeerOffer) (s : State) : Host.Outcome State Fault Refusal :=
  if s.ovLive && s.portSt p == 1 && !(s.port p).exchanged then ok (s.trained p o) else ok s

/-- LINK_DELAY_COMPLETE: `delay` is the one-way delay in units of 0.1 ns. -/
def execLinkDelayComplete (p : Port) (delay : Fin 65536) (s : State) : Host.Outcome State Fault Refusal :=
  if s.ovLive && s.portSt p == 1 && (s.port p).exchanged then ok (s.linkUp p delay.val) else ok s

/-- TRAIN_FAIL_TIMEOUT: `lock` says that symbol lock has been reached. -/
def execTrainFailTimeout (p : Port) (lock : Bool) (s : State) : Host.Outcome State Fault Refusal :=
  if s.ovLive && s.portSt p == 1 && !(s.port p).exchanged then
    ok (s.trainFail p (if lock then 2 else 1))
  else ok s

/-- TRAIN_RETRY: a FAILED port listens again. -/
def execTrainRetry (p : Port) (s : State) : Host.Outcome State Fault Refusal :=
  if s.ovLive && s.portSt p == 3 then ok (s.putPort p 0) else ok s

/-- DAMPED_END (R390). -/
def execDampedEnd (p : Port) (s : State) : Host.Outcome State Fault Refusal :=
  if s.ovLive && s.portSt p == 4 then ok (s.putPort p 0) else ok s

/-! ### Bursts, acknowledgement, replay (R372 to R375, R396) -/

/-- BURST_RECEIVE (R372, R374). -/
def execBurstReceive (p : Port) (b : Burst) (s : State) : Host.Outcome State Fault Refusal :=
  if s.ovLive && s.linked p then ok (s.receiveBurst p b) else ok s

/-- ACK_RECEIVE (R375): one whose check fails is discarded and counted (R367). -/
def execAckReceive (p : Port) (lseq : Fin 65536) (crc : Byte) (s : State) : Host.Outcome State Fault Refusal :=
  if s.ovLive && s.linked p then
    if kValid (checkedWord 0 lseq.val crc) then ok (s.ack p lseq.val) else ok (s.badWord p)
  else ok s

/-- NACK_RECEIVE (R375). -/
def execNackReceive (p : Port) (lseq : Fin 65536) (crc : Byte) (s : State) : Host.Outcome State Fault Refusal :=
  if s.ovLive && s.linked p then
    if kValid (checkedWord 2 lseq.val crc) then ok (s.nack p lseq.val) else ok (s.badWord p)
  else ok s

/-- MARK_SEND (R366): each heartbeat carries the next count. -/
def execMarkSend (p : Port) (s : State) : Host.Outcome State Fault Refusal :=
  if s.ovLive && s.linked p then ok (s.modPort p fun x =>
    let k := (x.markCount + 1) % 65536
    { x with markCount := k, markOut := some (markWord k) }) else ok s

/-- MARK_RECEIVE (R366, R390). -/
def execMarkReceive (p : Port) (count : Fin 65536) (crc : Byte) (s : State) : Host.Outcome State Fault Refusal :=
  if s.ovLive && s.linked p then
    if kValid (checkedWord 4 count.val crc) then ok (s.modPort p fun x => { x with marked := true }) else ok (s.badWord p)
  else ok s

/-- REPLAY_TIMEOUT (R375): 4 µs without progress of the oldest frame. -/
def execReplayTimeout (p : Port) (s : State) : Host.Outcome State Fault Refusal :=
  if s.ovLive && s.linked p && !(s.port p).unacked.isEmpty then ok (s.replay p (s.port p).unacked.length) else ok s

/-- REPLAY_HOLD_BACK_TIMEOUT (R396): SB42 once for each time of holding back. -/
def execReplayHoldBackTimeout (p : Port) (s : State) : Host.Outcome State Fault Refusal :=
  if s.ovLive && s.linked p && (s.port p).held.any (fun q => (s.port p).full q.2) && !(s.port p).holdTold then
    ok ((s.modPort p fun x => { x with holdTold := true }).raise 42)
  else ok s

/-! ### Loss of a link (R390 to R393) -/

/-- SILENT_CHECK_INTERVAL (R390): the second check interval in a row without a valid MARK loses the link. -/
def execSilentCheckInterval (p : Port) (s : State) : Host.Outcome State Fault Refusal :=
  if s.ovLive && s.linked p then
    let n := if (s.port p).marked then 0 else (s.port p).silent + 1
    let s := s.modPort p fun x => { x with marked := false, silent := n }
    ok (if 2 ≤ n then s.linkLoss p .silent else s)
  else ok s

/-- LINK_LOSS (R390). -/
def execLinkLoss (p : Port) (c : LossCause) (s : State) : Host.Outcome State Fault Refusal :=
  if s.ovLive then ok (s.linkLoss p c) else ok s

/-- POINTS_CLOSE (R391). -/
def execPointsClose (p : Port) (s : State) : Host.Outcome State Fault Refusal :=
  if s.ovLive && (s.port p).toClose then ok (s.closePoints p) else ok s

/-- RING_OPEN_TIMEOUT (R393): the mode has been LINE for 100 ms. -/
def execRingOpenTimeout (s : State) : Host.Outcome State Fault Refusal :=
  if s.ovLive && s.isF Fd.OV_CFG_RING_EXPECTED && s.getF Fd.OV_TOPO_MODE == 1 && !s.ov.ringTold then
    ok ({ s with ov := { s.ov with ringTold := true } }.raise 43)
  else ok s

/-! ### Presence, topology, node numbers (R384 to R389) -/

/-- PRESENCE_TIMER (R386). -/
def execPresenceTimer (s : State) : Host.Outcome State Fault Refusal :=
  if s.ovLive then ok s.sendPresence else ok s

/-- PRESENCE_RECEIVE (R386). -/
def execPresenceReceive (s : State) : Host.Outcome State Fault Refusal :=
  match s.takeFrame 0x02 with
  | some ((_, f), s) =>
    match f.body with
    | .presence m => ok (s.presenceIn m)
    | _ => ok s
  | none => ok s

/-- PRESENCE_REACH_TIMEOUT (R386): no PRESENCE of a node for 25 ms; the node is named by its ID, or by the
serial number of an unnumbered one. -/
def execPresenceReachTimeout (node : Nat) (s : State) : Host.Outcome State Fault Refusal :=
  if s.ovLive then ok (s.unreach node) else ok s

/-- TOPOLOGY_RECEIVE (R389, R393). -/
def execTopologyReceive (s : State) : Host.Outcome State Fault Refusal :=
  match s.takeFrame 0x03 with
  | some ((_, f), s) =>
    match f.body with
    | .topology n p st beyond => ok (s.topologyIn n p st beyond)
    | _ => ok s
  | none => ok s

/-- ASSIGN_RECEIVE (R385). -/
def execAssignReceive (s : State) : Host.Outcome State Fault Refusal :=
  match s.takeFrame 0x0B with
  | some ((_, f), s) =>
    match f.body with
    | .assign sn id => ok (s.assignIn sn id)
    | _ => ok s
  | none => ok s

/-! ### Commands of a program (R394, R397) -/

/-- A write of `OV_TX_CMD`: NODE and KIND take it, and GO acts. -/
def State.ovTxWrite (s : State) (v : Word) : State :=
  let s := (s.setF Fd.OV_TX_CMD_NODE (fieldOf v 0 10)).setF Fd.OV_TX_CMD_KIND (fieldOf v 10 2)
  if fieldOf v 12 1 = 1 then s.ovTx (fieldOf v 10 2) (fieldOf v 0 10) else s

/-- OV_TX_WAKE: a write of `OV_TX_CMD` with KIND WAKE and GO. -/
def execOvTxWake (node : Fin 1024) (s : State) : Host.Outcome State Fault Refusal :=
  if s.ovLive then ok (s.ovTxWrite (BitVec.ofNat 32 (node.val + 1 * 2 ^ 10 + 2 ^ 12))) else ok s

/-- OV_TX_ASSIGN: a write of `OV_TX_CMD` with KIND ASSIGN and GO; the serial number stands in `OV_TX_SN`. -/
def execOvTxAssign (node : Fin 1024) (s : State) : Host.Outcome State Fault Refusal :=
  if s.ovLive then ok (s.ovTxWrite (BitVec.ofNat 32 (node.val + 2 * 2 ^ 10 + 2 ^ 12))) else ok s

/-- A write of `OV_PCTRL`. -/
def State.pctrlWrite (s : State) (p : Port) (v : Word) : State :=
  let d := v.getLsbD 0
  let s := if d == s.isF (Fd.OV_PCTRL_DISABLE p.idx) then s else s.portDisable p d
  if v.getLsbD 1 && !d then s.portDown p else s

/-- OV_RETRAIN (R397): a write of RETRAIN that leaves DISABLE. -/
def execOvRetrain (p : Port) (s : State) : Host.Outcome State Fault Refusal :=
  if s.ovLive then ok (s.pctrlWrite p (fieldPut (s.getR (Rg.OV_PCTRL p.idx)) 1 1 1)) else ok s

/-- OV_PORT_DISABLE (R397). -/
def execOvPortDisable (p : Port) (v : Bool) (s : State) : Host.Outcome State Fault Refusal :=
  if s.ovLive then ok (s.pctrlWrite p (BitVec.ofNat 32 (b2n v))) else ok s

/-- LINK_DELAY_TIMER (R199, R205): a LINK frame measures the delay of the link, in units of 0.1 ns. -/
def execLinkDelayTimer (p : Port) (delay : Fin 65536) (s : State) : Host.Outcome State Fault Refusal :=
  if s.ovLive && s.linked p then
    let f : Frame := { dest := nodeBase 0x3FF, src := s.nodeId, oseq := s.ov.oseq, body := .link }
    let s := { s with ov := { s.ov with oseq := (s.ov.oseq + 1) % 65536 } }
    ok ((s.queueOn p f).setF (Fd.OV_DELAY_DELAY p.idx) delay.val)
  else ok s

end Sys2Proof.Machine
end

