-- ==== Sys2Proof/Machine/Pool.lean ====
section
/-! DEFINITION. The pool of wagons (R439 to R444). -/

namespace Sys2Proof.Machine

/-! ### Wagons and tags (R439, R440) -/

/-- A new tag that `PL_GIVE` may set. -/
def tagValid (t : Nat) : Bool :=
  match tagKind t with
  | 0 => false
  | 1 => tagId t ≤ 30
  | 2 => true
  | _ => tagId t ≤ 3

/-- The identity of a requester (R440); the debug transport and shunters have none. -/
def State.plIdentity (s : State) : Agent → Nat
  | .core m =>
    let id := fieldOf (s.rc' m cTaskid) 0 5
    if id = 31 then 3 * 1024 + m.idx.val else 1024 + id
  | .session sid _ _ => 2 * 1024 + sid % 1024
  | .debug => 0
  | .shunter _ => 0

/-- The words of `n` bytes from `lo` up are marked unwritten: errors stored in them are gone too. -/
def State.unmark (s : State) (lo n : Nat) : State :=
  { s with
    sram := s.sram.filter fun p => !(lo ≤ p.1 && p.1 < lo + n)
    sramMark := s.sramMark.filter fun p => !(lo / 8 ≤ p.1 && p.1 < (lo + n) / 8)
    sramErr := s.sramErr.filter fun p => !(lo / 8 ≤ p.1 && p.1 < (lo + n) / 8) }

/-- A wagon is marked unwritten. -/
def State.markWagon (s : State) (i : Nat) : State := s.unmark (s.plBase + 256 * i) 256

/-! ### Allocation (R441, R444) -/

/-- The wagon leaves the free list with a tag. -/
def State.plTake (s : State) (i tag : Nat) : State :=
  let p := { s.pool with tags := insertNat i tag s.pool.tags }
  { s with pool := if s.pool.fresh < 4096 then { p with fresh := s.pool.fresh + 1 } else { p with freed := s.pool.freed.tail } }

/-- A read of `PL_ALLOC`: the word it returns. During a sweep it is free how far the marking has come. -/
def State.plAlloc (s : State) (by_ : Agent) : Word × State :=
  let tag := s.plIdentity by_
  if by_ = .debug then (s.readPlAlloc, s)
  else if tagKind tag = 2 ∧ s.getF Fd.PL_CFG_SESS_LIM ≤ s.plSessHeld then (2, s.incF Fd.PL_CNT_EMPTY)
  else match s.plFirst with
    | none => (1, (s.incF Fd.PL_CNT_EMPTY).raise 106)
    | some i =>
      if s.isF Fd.PL_STAT_SWEEP then
        let (v, s) := s.takeFree
        if v.getLsbD 0 then (s.plWord i, (s.markWagon i).plTake i tag) else (3, s)
      else (s.plWord i, s.plTake i tag)

/-! ### Free, give and reclaim (R442) -/

/-- `PL_RES` of a machine. -/
def plRes : Mach → Rg
  | .a0 => Rg.PL_RES_A0
  | .a1 => Rg.PL_RES_A1
  | .b0 => Rg.PL_RES_B0
  | .b1 => Rg.PL_RES_B1

/-- The result of an operation: a machine finds its code in `PL_RES`, a session gets NO_RIGHT for a refusal. -/
def State.plResult (s : State) (by_ : Agent) (code : Nat) : Bool × State :=
  match by_ with
  | .core m => (code == 0, s.setR (plRes m) (fieldPut (s.getR (plRes m)) 0 4 code))
  | _ => (code == 0, s)

/-- A refusal: its result, its count, its source. -/
def State.plRefuse (s : State) (by_ : Agent) (code : Nat) (cnt : Fd) (src : Option Nat) : Bool × State :=
  let (ok, s) := (s.incF cnt).plResult by_ code
  (ok, match src with
    | some k => s.raise k
    | none => s)

/-- A wagon becomes FREE at once, and returns to the free list when it has been marked. -/
def State.plRelease (i : Nat) (s : State) : State :=
  { s with pool := { s.pool with tags := eraseNat i s.pool.tags, marking := s.pool.marking ++ [i] } }

/-- A write of `PL_FREE`. -/
def State.plFree (s : State) (by_ : Agent) (a : Nat) : Bool × State :=
  let i := (a - s.plBase) / 256
  if a < s.plBase ∨ s.plBase + 0x10_0000 ≤ a ∨ a % 256 ≠ 0 then s.plRefuse by_ 6 Fd.PL_CNT_BAD_ADDR (some 107)
  else if s.plTag i = 0 then s.plRefuse by_ 4 Fd.PL_CNT_DOUBLE (some 104)
  else if s.plTag i ≠ s.plIdentity by_ then s.plRefuse by_ 5 Fd.PL_CNT_FOREIGN (some 105)
  else (State.plRelease i s).plResult by_ 0

/-- A write of `PL_GIVE`. -/
def State.plGive (s : State) (by_ : Agent) (i tag : Nat) : Bool × State :=
  if !tagValid tag then s.plRefuse by_ 7 Fd.PL_CNT_BAD_ADDR none
  else if s.plTag i = 0 then s.plRefuse by_ 4 Fd.PL_CNT_DOUBLE (some 104)
  else if s.plTag i ≠ s.plIdentity by_ then s.plRefuse by_ 5 Fd.PL_CNT_FOREIGN (some 105)
  else if tagKind tag = 2 ∧ tagKind (s.plTag i) ≠ 2 ∧ s.getF Fd.PL_CFG_SESS_LIM ≤ s.plSessHeld then s.plResult by_ 2
  else { s with pool := { s.pool with tags := insertNat i tag s.pool.tags } }.plResult by_ 0

/-- A write of `PL_RECLAIM`: by a machine alone. -/
def State.plReclaim (s : State) (by_ : Agent) (tag : Nat) : Bool × State :=
  match by_ with
  | .core m =>
    let l := (s.pool.tags.filter fun p => p.2 == tag).map (·.1)
    let s := State.each State.plRelease l s
    (true, s.setR (plRes m) (BitVec.ofNat 32 (l.length * 2 ^ 16)))
  | _ => (false, s)

/-- The oldest freed wagon has been marked. -/
def State.plMarked (s : State) : State :=
  match s.pool.marking with
  | [] => s
  | i :: r =>
    let s := s.markWagon i
    { s with pool := { s.pool with marking := r, freed := s.pool.freed ++ [i] } }

/-! ### The base and the sweep (R443, R444) -/

/-- A sweep begins. -/
def State.plSweep (s : State) : State := { s.onF Fd.PL_STAT_SWEEP with pool := {} }

/-- A write of `PL_CFG`. -/
def State.plCfgWrite (s : State) (v : Word) : State :=
  let s := s.setF Fd.PL_CFG_SESS_LIM (fieldOf v 16 13)
  let b := fieldOf v 0 4
  if b = s.getF Fd.PL_CFG_BASE then s
  else if s.pool.tags.isEmpty && s.pool.marking.isEmpty && !s.isF Fd.PL_STAT_SWEEP then (s.setF Fd.PL_CFG_BASE b).plSweep
  else s.onF Fd.PL_STAT_CFG_REFUSED

/-- The sweep ends: every wagon that has not been taken is marked. -/
def State.plSwept (s : State) : State :=
  (s.unmark (s.plBase + 256 * s.pool.fresh) (256 * (4096 - s.pool.fresh))).offF Fd.PL_STAT_SWEEP

/-- Whether the block accepts accesses now. -/
def State.plLive (s : State) : Bool := s.phase == .running && !s.inReset .pool

end Sys2Proof.Machine
end

