-- ==== Sys2Proof/Machine/Spx.lean ====
section
/-! DEFINITION. The SPX port (R518 to R539): the token, master frames with their FIFOs, the slave protocol with
its mailboxes. -/

namespace Sys2Proof.Machine

def State.spxLive (s : State) : Bool := s.phase == .running && !s.inReset .spx

def State.modSpx (s : State) (f : SpxH → SpxH) : State := { s with spx := f s.spx }

/-- A master frame is RUNNING or STALLED. -/
def State.spxBusy (s : State) : Bool := s.getF Fd.SPX_MSTAT_STATE != 0

/-- A lane code's number of lanes; none for 0b11. -/
def lanesOf : Nat → Option Nat
  | 0 => some 1
  | 1 => some 2
  | 2 => some 4
  | _ => none

/-! ### Configuration (R518, R521) -/

/-- The token after a write of ROLE (R518). -/
def State.spxSetRole (s : State) (role : Nat) : State :=
  (s.setF Fd.SPX_CFG_ROLE role).setF Fd.SPX_MSTAT_TOKEN
    (match role with
      | 0 => 0
      | 1 => 1
      | _ => s.getF Fd.SPX_CFG_INIT_TOKEN)

/-- A write of `SPX_CFG`. -/
def State.spxCfgWrite (s : State) (v : Word) : State :=
  if s.spxBusy then s.onF Fd.SPX_MSTAT_CFG_IGNORED
  else
    let s := (s.setF Fd.SPX_CFG_SLAVE_EN (fieldOf v 2 1)).setF Fd.SPX_CFG_INIT_TOKEN (fieldOf v 3 1)
    if fieldOf v 0 2 = 3 then s.onF Fd.SPX_MSTAT_CFG_IGNORED else s.spxSetRole (fieldOf v 0 2)

/-- A write of `SPX_MCLK`: a DIV outside 15 to 1,024 is not stored (R521). -/
def State.spxClkWrite (s : State) (v : Word) : State :=
  let d := fieldOf v 0 11
  let bad := d < 15 || 1024 < d
  let w := fieldPut (v &&& 0x0FFF_77FF) 0 11 (if bad then s.getF Fd.SPX_MCLK_DIV else d)
  let s := s.setR Rg.SPX_MCLK w
  if bad then s.onF Fd.SPX_MSTAT_CFG_IGNORED else s

/-! ### Master frames (R519 to R525) -/

/-- What the running frame does in its DATA phase. -/
def SpxH.sends (x : SpxH) : Bool := fieldOf x.frame 22 2 != 1
def SpxH.takes (x : SpxH) : Bool := fieldOf x.frame 22 2 != 0
def SpxH.raw (x : SpxH) : Bool := x.frame.getLsbD 24

/-- The bits that `l` lanes carry, cycle after cycle, of a value of `w` bits (R520): the highest-numbered lane
carries the most significant bit of a group, and the most significant group goes first, or the least significant
one. -/
def spxLaneGroups (l : Nat) (lsbFirst : Bool) (w v : Nat) : List Nat :=
  (List.range (w / l)).map fun k => v / 2 ^ (if lsbFirst then l * k else w - l * (k + 1)) % 2 ^ l

/-- The value that groups of `l` bits spell, in the order in which the lanes carry them. -/
def spxLaneValue (l : Nat) (lsbFirst : Bool) (gs : List Nat) : Nat :=
  if lsbFirst then gs.foldr (fun g a => a * 2 ^ l + g) 0 else gs.foldl (fun a g => a * 2 ^ l + g) 0

/-- The lanes of the DATA phase, and the bits of one byte or unit. -/
def SpxH.dataLanes (x : SpxH) : Nat := (lanesOf (fieldOf x.frame 20 2)).getD 1
def SpxH.unitBits (x : SpxH) : Nat := if x.raw then fieldOf x.frame 25 5 + 1 else 8

/-- What comes before the DATA phase (R519, R520, R524): the target is selected, then CMD and ADDR, most
significant bit first, and DUMMY; the lanes are released for a target that turns them around. -/
def State.spxHead (s : State) : List SpxPad :=
  let f := s.getR Rg.SPX_MFRAME
  let phase := fun (code bits v : Nat) =>
    let l := (lanesOf code).getD 1
    (spxLaneGroups l false bits v).map (SpxPad.drive l)
  [.select (s.getF Fd.SPX_MCTRL_TGT), .enable] ++ phase (fieldOf f 5 2) (fieldOf f 0 5) (s.getF Fd.SPX_MCMD_CMD)
    ++ phase (fieldOf f 13 2) (fieldOf f 7 6) (s.getR Rg.SPX_MADDR).toNat
    ++ (if fieldOf f 15 5 = 0 then [] else [.dummy (fieldOf f 15 5)])
    ++ if fieldOf f 22 2 = 1 ∧ fieldOf f 20 2 ≠ 0 then [.release] else []

/-- The cycles of one byte or unit: `o` goes out and `i` comes in, where the direction has them. -/
def State.spxCycles (s : State) (o i : Nat) : List SpxPad :=
  let x := s.spx
  let groups := spxLaneGroups x.dataLanes (s.isF Fd.SPX_MCLK_LSB_FIRST) x.unitBits
  if x.sends && x.takes then (List.zip (groups o) (groups i)).map fun p => .both p.1 p.2
  else if x.sends then (groups o).map (SpxPad.drive x.dataLanes)
  else (groups i).map (SpxPad.sample x.dataLanes)

/-- The next bits that the target drives, in the order in which they arrive, the first one the most significant;
free where they are not known. -/
def State.spxIn (s : State) : Nat × State :=
  match s.spx.din with
  | v :: r => (v.toNat % 2 ^ s.spx.unitBits, s.modSpx fun x => { x with din := r })
  | [] => let (v, s) := s.takeFree; (v.toNat % 2 ^ s.spx.unitBits, s)

/-- The byte or unit that the target's bits spell in the order of `LSB_FIRST`. -/
def State.spxUnit (s : State) (v : Nat) : Nat :=
  spxLaneValue s.spx.dataLanes (s.isF Fd.SPX_MCLK_LSB_FIRST) (spxLaneGroups s.spx.dataLanes false s.spx.unitBits v)

/-- `n` bytes, lowest-order byte first, or one unit: those of `w` go out, and the word of those that come in is
answered; the pads carry both. -/
def State.spxWord : Nat → Nat → State → Nat × State
  | 0, _, s => (0, s)
  | n + 1, w, s =>
    let (v, s) := if s.spx.takes then s.spxIn else (0, s)
    let i := s.spxUnit v
    let b := s.spx.unitBits
    let s := s.modSpx fun x => { x with pads := x.pads ++ s.spxCycles (w % 2 ^ b) i }
    let (r, s) := State.spxWord n (w / 2 ^ b) s
    (i + r * 2 ^ b, s)

/-- The frame moves on by one TX or RX word after another, until its data is done or it stalls (R523); at most
64 words come between two stalls. -/
def State.spxMove : Nat → State → State
  | 0, s => s
  | n + 1, s =>
    let x := s.spx
    if x.left = 0 then s.setF Fd.SPX_MSTAT_STATE 1
    else if (x.sends && x.tx.isEmpty) || (x.takes && 64 ≤ x.rx.length) then s.setF Fd.SPX_MSTAT_STATE 2
    else
      let g := if x.raw then 1 else min 4 x.left
      let (w, s) := State.spxWord g (x.tx.headD 0).toNat s
      let s := s.modSpx fun x => { x with
        left := x.left - g, tx := if x.sends then x.tx.tail else x.tx
        rx := if x.takes then x.rx ++ [Word.ofNat w] else x.rx }
      State.spxMove n s

def State.spxRun (s : State) : State := State.spxMove 66 s

/-- Bytes or units completed: those up to a stall, and a free number of them while the frame runs. -/
def State.spxDone (s : State) : Nat × State :=
  let n := s.spx.len - s.spx.left
  if s.getF Fd.SPX_MSTAT_STATE = 2 then (n, s)
  else let (v, s) := s.takeFree; (v.toNat % (n + 1), s)

/-- A frame ends with a result and its count, and the pads with `last`; every end raises M_DONE (R525). What the
pads have carried beyond `done` bytes or units has not come about. -/
def State.spxEnd (s : State) (result done : Nat) (last : SpxPad) : State :=
  let s := ((s.setF Fd.SPX_MSTAT_STATE 0).setF Fd.SPX_MSTAT_RESULT result).setF Fd.SPX_MSTAT_DONE_BYTES done
  (s.modSpx fun x => { x with
    left := 0, din := []
    pads := x.pads.take (x.pads.length - (x.len - x.left - done) * (x.unitBits / x.dataLanes)) ++ [last] }).onF Fd.SPX_EVT_M_DONE

/-- Both FIFOs are emptied. -/
def State.spxFlush (s : State) : State := s.modSpx fun x => { x with tx := [], rx := [] }

/-- The first check of R522 that fails, by its RESULT. -/
def State.spxCheck (s : State) : Option Nat :=
  let f := s.getR Rg.SPX_MFRAME
  let cmd := fieldOf f 0 5
  let addr := fieldOf f 7 6
  let lc := lanesOf (fieldOf f 5 2)
  let la := lanesOf (fieldOf f 13 2)
  let ld := lanesOf (fieldOf f 20 2)
  let dir := fieldOf f 22 2
  if s.getF Fd.SPX_CFG_ROLE = 0 then some 7
  else if s.spxBusy then some 6
  else if !s.isF Fd.SPX_MSTAT_TOKEN then some 4
  else if !s.spx.slave.isEmpty then some 3
  else match lc, la, ld with
    | some lc, some la, some ld =>
      if 16 < cmd ∨ 32 < addr ∨ cmd % lc ≠ 0 ∨ addr % la ≠ 0 ∨ dir = 3 then some 5
      else if f.getLsbD 24 ∧ ((fieldOf f 25 5 + 1) % ld ≠ 0 ∨ cmd ≠ 0 ∨ addr ≠ 0 ∨ fieldOf f 15 5 ≠ 0) then some 5
      else if dir = 2 ∧ ld ≠ 1 then some 5
      else if 65536 < s.getF Fd.SPX_MLEN_LEN then some 5
      else none
    | _, _, _ => some 5

/-- GO (R522). -/
def State.spxGo (s : State) (din : List Word) : State :=
  match s.spxCheck with
  | some r =>
    let s := (s.setF Fd.SPX_MSTAT_RESULT r).onF Fd.SPX_EVT_M_DONE
    if r = 3 then s.raise 108 else s
  | none =>
    let len := s.getF Fd.SPX_MLEN_LEN
    let s := s.modSpx fun x => { x with
      frame := s.getR Rg.SPX_MFRAME, rel := s.isF Fd.SPX_MCTRL_RELEASE_AFTER, len := len, left := len, din := din, pads := s.spxHead }
    s.spxRun

/-- A frame that runs ends ABORTED, and the pads with `last`. -/
def State.spxCut (s : State) (last : SpxPad) : State :=
  if s.spxBusy then
    let (n, s) := s.spxDone
    s.spxFlush.spxEnd 2 n last
  else s

/-- ABORT (R525). -/
def State.spxAbort (s : State) : State := s.spxCut .disable

/-- The last bit has been sent and the select has ended (R524, R526). -/
def State.spxFrameEnd (s : State) : State :=
  if s.getF Fd.SPX_MSTAT_STATE = 1 then
    let rel := s.spx.rel && s.getF Fd.SPX_CFG_ROLE == 2
    let s := s.spxEnd 1 s.spx.len .disable
    if rel then s.offF Fd.SPX_MSTAT_TOKEN else s
  else s

/-- A mode fault (R528). -/
def State.spxModeFault (s : State) : State :=
  let (n, s) := s.spxDone
  let s := s.spxFlush.spxEnd 3 n .off
  let s := (s.incF Fd.SPX_CNT_MODE_FAULTS).onF Fd.SPX_EVT_M_FAULT
  let s := if s.getF Fd.SPX_CFG_ROLE = 2 then s.offF Fd.SPX_MSTAT_TOKEN else s
  (s.modSpx fun x => { x with slave := x.slave ++ [{}] }).raise 108

def State.spxTxFlush (s : State) : State := if s.spxBusy then s else s.modSpx fun x => { x with tx := [] }
def State.spxRxFlush (s : State) : State := if s.spxBusy then s else s.modSpx fun x => { x with rx := [] }

/-- A write of `SPX_MCTRL`: RELEASE_AFTER and TGT, the flushes, and GO or ABORT; written with GO, ABORT acts on
nothing (R537). -/
def State.spxCtrlWrite (s : State) (v : Word) : State :=
  let s := (s.setF Fd.SPX_MCTRL_RELEASE_AFTER (fieldOf v 2 1)).setF Fd.SPX_MCTRL_TGT (fieldOf v 4 4)
  let s := if v.getLsbD 8 then s.spxTxFlush else s
  let s := if v.getLsbD 9 then s.spxRxFlush else s
  if v.getLsbD 0 then s.spxGo [] else if v.getLsbD 1 then s.spxAbort else s

/-- A stalled frame goes on when it can. -/
def State.spxResume (s : State) : State := if s.getF Fd.SPX_MSTAT_STATE = 2 then s.spxRun else s

/-- A write of the TX window, a read of the RX window (R523). -/
def State.spxTxWrite (s : State) (v : Word) : State :=
  if s.spx.tx.length < 64 then (s.modSpx fun x => { x with tx := x.tx ++ [v] }).spxResume else s

def State.spxRxRead (s : State) : Word × State :=
  (s.spx.rx.headD 0, (s.modSpx fun x => { x with rx := x.rx.tail }).spxResume)

/-- The mailbox windows of the program (R535). -/
def State.mailRead (s : State) : Word × State := (s.spx.mbIn.headD 0, s.modSpx fun x => { x with mbIn := x.mbIn.tail })
def State.mailWrite (s : State) (v : Word) : State :=
  if s.spx.mbOut.length < 64 then s.modSpx fun x => { x with mbOut := x.mbOut ++ [v] } else s

/-! ### The slave (R529 to R536) -/

def State.spxBoot (s : State) : Bool := s.isF Fd.SPX_SSTAT_BOOT

/-- STATUS as a host reads it (R534). -/
def State.slaveStatus (s : State) : Word :=
  let w := fieldOf s.readSpxSstat 0 11
  BitVec.ofNat 32 (w + s.getF Fd.SPX_MSTAT_TOKEN * 2 ^ 11 + s.spx.mbOut.length * 2 ^ 12 + (64 - s.spx.mbIn.length) * 2 ^ 19)

/-- The value of a slave register outside the mailbox window (R534). -/
def State.slaveReg (s : State) (a : Nat) : Word :=
  if a = 0 then 0x1632_0102
  else if a = 1 then s.getR Rg.SPX_SNEG
  else if a = 2 then s.slaveStatus
  else if a = 4 then Word.ofNat s.spx.bootSize
  else if a = 5 then Word.ofNat s.spx.bootAddr
  else if a = 8 then Word.ofNat (s.otp.serial.toNat % 2 ^ 32)
  else if a = 9 then Word.ofNat (s.otp.serial.toNat / 2 ^ 32)
  else if 0x10 ≤ a ∧ a < 0x20 then s.readReg (0x4000_0000 + 4 * (a - 0x10))
  else if 0x20 ≤ a ∧ a < 0x40 then s.getR (Rg.SPX_UREG (a - 0x20))
  else 0

/-- The address after `a` (R529). -/
def slaveNext (a : Nat) : Nat := if a = 0x7F then 0x40 else a + 1

/-- W of a NEGOTIATE value. -/
def negW (neg : Word) : Nat :=
  match fieldOf neg 10 2 with
  | 0 => 8
  | 1 => 16
  | _ => 32

/-- Where a read frame stands: the address, the words driven of its register, the mailbox words left, whether
the busy pattern or a repeated word was driven, and the last word driven. -/
structure SlaveRun where
  addr : Nat
  sub  : Nat := 0
  mail : List Word
  busy : Bool := false
  under : Bool := false
  last : Word
  out  : List Word := []

/-- One word of a read frame (R529, R533). -/
def State.slaveWord (s : State) (w : Nat) (late : Bool) (r : SlaveRun) : SlaveRun :=
  let win := 0x40 ≤ r.addr
  let empty := win && (s.spxBoot || r.mail.isEmpty)
  if late || empty then
    if w = 32 then { r with under := true } else { r with busy := true, last := Word.ofNat (0x5A5A_5A5A % 2 ^ w) }
  else
    let v := if win then r.mail.headD 0 else s.slaveReg r.addr
    let r := { r with last := Word.ofNat (v.toNat / 2 ^ (32 - w * (r.sub + 1)) % 2 ^ w), sub := r.sub + 1 }
    if w * r.sub = 32 then
      { r with sub := 0, addr := slaveNext r.addr, mail := if win then r.mail.tail else r.mail }
    else r

/-- `n` words of a read frame, the next one number `i`. -/
def State.slaveRead (s : State) (w : Nat) (late : List Nat) : Nat → Nat → SlaveRun → SlaveRun
  | 0, _, r => r
  | n + 1, i, r =>
    let r := s.slaveWord w (late.contains i) r
    State.slaveRead s w late n (i + 1) { r with out := r.out ++ [r.last] }

/-- Whether a NEGOTIATE value is accepted (R532). -/
def negOk (v : Word) : Bool :=
  let v := v &&& 0x7FFF_FFFF
  if fieldOf v 0 8 = 1 then v == 0x8001
  else fieldOf v 0 8 == 2 && fieldOf v 8 2 != 3 && fieldOf v 10 2 != 3 && fieldOf v 18 13 == 0

/-- A write that does nothing. -/
def State.slaveIgnored (s : State) : State := s.onF Fd.SPX_SSTAT_WR_IGNORED

/-- A word of the image (R536). -/
def State.bootStore (s : State) (v : Word) : State :=
  if s.spx.bootAddr < 0x0100_0000 then
    (s.sramWrite s.spx.bootAddr (leBytes v.toNat 4)).2.modSpx fun x => { x with bootAddr := x.bootAddr + 4 }
  else s.onF Fd.SPX_SSTAT_BOOT_OVF

/-- One register of a write frame is applied (R531 to R536); the flag tells of a breach of the token's protocol
(R527). -/
def State.slaveWrite (s : State) (a : Nat) (v : Word) : Bool × State :=
  if a = 1 then
    if negOk v then (false, s.setR Rg.SPX_SNEG (v &&& 0x7FFF_FFFF))
    else (false, s.setR Rg.SPX_SNEG (s.getR Rg.SPX_SNEG ||| 0x8000_0000))
  else if a = 2 then (false, s.setR Rg.SPX_SSTAT (s.getR Rg.SPX_SSTAT &&& ~~~(v &&& 0x40F)))
  else if a = 3 then
    if v = 1 ∧ s.getF Fd.SPX_CFG_ROLE = 2 ∧ s.isF Fd.SPX_MSTAT_TOKEN = false then
      (false, (s.onF Fd.SPX_MSTAT_TOKEN).onF Fd.SPX_EVT_TOKEN_IN)
    else (true, s)
  else if a = 4 then
    if s.spxBoot && !s.spx.loaded then (false, s.modSpx fun x => { x with bootSize := fieldOf v 0 25, loaded := true })
    else (false, s.slaveIgnored)
  else if a = 5 then
    if s.spxBoot && !s.spx.loaded && v.toNat % 4 == 0 then (false, s.modSpx fun x => { x with bootAddr := v.toNat })
    else (false, s.slaveIgnored)
  else if 0x20 ≤ a ∧ a < 0x40 then
    (false, (s.setR (Rg.SPX_UREG (a - 0x20)) v).setBitF Fd.SPX_UEVT_WR (a - 0x20))
  else if 0x40 ≤ a then
    if s.spxBoot then (false, s.bootStore v) else (false, s.modSpx fun x => { x with mbIn := x.mbIn ++ [v] })
  else (false, s.slaveIgnored)

/-- The registers of a write frame, in transfer order. -/
def State.slaveWrites : List Word → Nat → Bool → State → Bool × State
  | [], _, bad, s => (bad, s)
  | v :: r, a, bad, s =>
    let (b, s) := s.slaveWrite a v
    State.slaveWrites r (slaveNext a) (bad || b) s

/-- The words of a write that go into the mailbox window. -/
def mailCount : Nat → Nat → Nat
  | 0, _ => 0
  | n + 1, a => (if 0x40 ≤ a then 1 else 0) + mailCount n (slaveNext a)

/-- Why a frame is rejected (R530). -/
def State.slaveReject (s : State) (e : SlaveSel) (f : SlaveFrame) : Option Nat :=
  let n := f.bits - 8
  if e.early then some 5
  else if f.bits < 8 ∨ n % negW e.neg ≠ 0 then some 1
  else if f.read then none
  else if n % 32 ≠ 0 then some 2
  else if 64 < n / 32 then some 3
  else if !s.spxBoot && 64 - s.spx.mbIn.length < mailCount (n / 32) f.addr.val then some 4
  else none

/-- The bits that the slave's output lanes carry of the words of a read frame (R529), cycle by cycle: the lanes of
the header, or `SPX_IO1` alone, most significant bit first. -/
def slaveCycles (neg : Word) (ws : List Nat) : List Nat :=
  ws.flatMap fun w => spxLaneGroups ((lanesOf (fieldOf neg 8 2)).getD 1) false (negW neg) w

/-- What the words of a read frame do while they are driven: STATUS, the event and SB109 (R533). -/
def State.slaveDriven (s : State) (neg : Word) (r : SlaveRun) : State :=
  let s := s.modSpx fun x => { x with driven := r.last, out := slaveCycles neg (r.out.map (·.toNat)) }
  let s := if r.busy then s.onF Fd.SPX_SSTAT_BUSY_SENT else s
  let s := if r.under then s.onF Fd.SPX_SSTAT_UNDERRUN else s
  if r.busy || r.under then s.onF Fd.SPX_EVT_S_UNDER else s

/-- The select is released: the frame is judged and applied as one step (R530, R531). -/
def State.slaveApply (s : State) (e : SlaveSel) (f : SlaveFrame) : State :=
  let run := if f.read && !e.early && 8 ≤ f.bits then
      some (s.slaveRead (negW e.neg) f.late ((f.bits - 8) / negW e.neg) 0 { addr := f.addr.val, mail := s.spx.mbOut, last := s.spx.driven })
    else none
  let s := match run with
    | some r => s.slaveDriven e.neg r
    | none => s.modSpx fun x => { x with out := [] }
  let under := match run with
    | some r => r.under
    | none => false
  let (src, s) := match s.slaveReject e f with
    | some c =>
      (some 110, (((s.onF Fd.SPX_SSTAT_REJECTED).setF Fd.SPX_SSTAT_REJ_REASON c).incF Fd.SPX_CNT_S_REJECTS).onF Fd.SPX_EVT_S_REJECT)
    | none =>
      let s := (s.incF Fd.SPX_CNT_S_FRAMES).onF Fd.SPX_EVT_S_FRAME
      match run with
      | some r => (none, s.modSpx fun x => { x with mbOut := r.mail })
      | none =>
        let (bad, s) := State.slaveWrites (f.data.take ((f.bits - 8) / 32)) f.addr.val false s
        (if bad then some 111 else none, s)
  let s := match src with
    | some k => s.raise k
    | none => s
  if under then s.raise 109 else s

/-- `nSPX_SS` falls while the port is not mastering (R518, R529, R530). -/
def State.slaveFall (s : State) : State :=
  let e : SlaveSel :=
    { served := s.spxLive && s.isF Fd.SPX_CFG_SLAVE_EN, neg := s.getR Rg.SPX_SNEG, early := s.spx.slave.any (·.served) }
  s.modSpx fun x => { x with slave := x.slave ++ [e] }

/-- The oldest assertion of the select ends. -/
def State.slaveRise (s : State) (f : SlaveFrame) : State :=
  match s.spx.slave with
  | [] => s
  | e :: r =>
    let s := s.modSpx fun x => { x with slave := r }
    if e.served && s.spxLive then s.slaveApply e f else s

/-- NEG_RESET (R532). -/
def State.negReset (s : State) : State := s.setR Rg.SPX_SNEG 0x8001

/-- The I/O supply is lost: a master frame ends with its pads released (R537). -/
def State.spxVioLost (s : State) (f : SlaveFrame) : State :=
  let s := if s.spxLive then s.spxCut .off else s
  s.slaveRise f

end Sys2Proof.Machine
end

