-- ==== Sys2Proof/Machine/Bus.lean ====
section
/-! DEFINITION. Reads and writes of device registers (R10, R555 to R562, R565): what they return, what they
change, and what else they do. -/

namespace Sys2Proof.Machine

/-! ### Snapshot areas (R542, R543) -/

/-- Whether an offset of a block lies in its snapshot area; the live roll-call registers of `SYS` do not. -/
def inSnapArea (a : Nat) : Bool :=
  if a / 0x10000 = 0x4020 then 0xF00 ≤ a % 0x1000
  else 0xF000 ≤ a % 0x10000 && !(a / 0x10000 == 0x4000 && 0xF010 ≤ a % 0x10000 && a % 0x10000 < 0xF100)

/-- The generation indices whose reset the header of a block's area tells of. -/
def snapGens (a : Nat) : List Nat :=
  match blkOf a with
  | some (.triad _) => [11, 12]
  | some b => [b.gen]
  | none => []

/-- The header of an area. -/
def State.snapHdr (s : State) (p : RollSnap) (a : Nat) : Word :=
  BitVec.ofNat 32 (s.getF Fd.RC_STAT_HELD + p.src * 2 + p.sbSrc * 2 ^ 4 + b2n ((snapGens a).any p.inRst.contains) * 2 ^ 11
    + b2n p.locked * 2 ^ 12 + p.rollId % 2 ^ 16 * 2 ^ 16)

/-- A word of a snapshot area. -/
def State.snapRead (s : State) (a : Nat) : Word :=
  match s.rc.snap with
  | none => 0
  | some p =>
    let lane := a / 0x10000 == 0x4020
    let x := if lane then a % 0x1000 - 0xF00 else a % 0x10000 - 0xF000
    let base := if lane then a / 0x1000 * 0x1000 else a / 0x10000 * 0x10000
    let copy := if lane then 0x10 else 0x100
    if x = 0 then s.snapHdr p a
    else if x = 4 then lo32 p.time
    else if x = 8 then hi32 p.time
    else if x = 12 then lo32 p.epoch
    else if copy ≤ x then
      let y := base + (x - copy)
      if inCopy y then (lookupNat y p.copy).getD (rstWord y) else 0
    else if a / 0x10000 = 0x400B ∧ x < 0x20 then p.pcs.getD ((x - 0x10) / 4) 0
    else 0

/-! ### Reads -/

/-- Registers that a read acts on only as a whole (R559). -/
def wholeRead (a : Nat) : Bool :=
  a == 0x400A_0008 || a == 0x4008_002C || a == 0x4008_0030 || a == 0x400C_0018
    || (0x4005_2000 ≤ a && a < 0x4005_3000) || (0x4005_4000 ≤ a && a < 0x4005_5000)
    || a == 0x4007_0008 || a == 0x4007_0010 || a == 0x400B_0014 || a == 0x400B_0114 || a == 0x4001_0018

/-- The registers whose read latches the upper half of a time or of an epoch, each with the register of that half
and its value (R556, R559). -/
def State.latchLo (s : State) (a : Nat) : Option (Rg × Word) :=
  match a with
  | 0x4007_0008 => some (Rg.TT_TIME_HI, hi32 s.tt.clk)
  | 0x4007_0010 => some (Rg.TT_EPOCH_HI, hi32 s.tt.epoch)
  | 0x400B_0014 => some (Rg.TR_EVT_TIME_HI 0, hi32 (s.tri .a).evtStamp)
  | 0x400B_0114 => some (Rg.TR_EVT_TIME_HI 1, hi32 (s.tri .b).evtStamp)
  | 0x4001_0018 => some (Rg.SB_FIRST_TIME_HI, hi32 s.sb.firstTime)
  | _ => none

/-- A whole-word read of a latching register. -/
def State.loRead (s : State) (a : Nat) : Word × State :=
  (s.readReg a, match s.latchLo a with
    | some (r, w) => s.setR r w
    | none => s)

/-- A read of the word at an address of an assigned block by a requester other than the debug transport, with
its effect (R559). -/
def State.readActs (s : State) (by_ : Agent) (a : Nat) : Word × State :=
  if a = 0x400A_0008 then s.plAlloc by_
  else if a = 0x4008_002C then s.revtRead .a
  else if a = 0x4008_0030 then s.revtRead .b
  else if a = 0x400C_0018 then s.ptLogRead
  else if 0x4005_2000 ≤ a ∧ a < 0x4005_3000 then s.spxRxRead
  else if 0x4005_4000 ≤ a ∧ a < 0x4005_5000 then s.mailRead
  else s.loRead a

/-- A read of `n` bytes at an address of an assigned block: the containing word. -/
def State.devRead (s : State) (by_ : Agent) (a n : Nat) : Word × State :=
  let a := a / 4 * 4
  if inSnapArea a then (s.snapRead a, s)
  else if by_ = .debug then (s.readReg a, s)
  else if wholeRead a then (if n = 4 then s.readActs by_ a else (0, s))
  else (s.readReg a, s)

/-! ### Writes -/

/-- The bits of a register that software writes as values. -/
def rwBits (a : Nat) : Word :=
  match regRow a with
  | some r => BitVec.ofNat 32 r.rw
  | none => 0

/-- What a write of `v` in the lanes of `mask` gives to a register as a whole: its RW fields keep their value
outside the lanes, and every other bit is written 0 there (R558). -/
def State.merged (s : State) (a : Nat) (v mask : Word) : Word := (s.readReg a &&& rwBits a &&& ~~~mask) ||| (v &&& mask)

/-- A write that does nothing beyond the rules of its fields' types (R10, R560, R562). -/
def State.plainWrite (s : State) (a : Nat) (v mask : Word) : State :=
  match regRow a with
  | some r =>
    { s with regs := insertNat a (writeTyped ((lookupNat a s.regs).getD (rstWord a)) (BitVec.ofNat 32 r.rw &&& mask)
        (BitVec.ofNat 32 r.w1c) (v &&& mask)) s.regs }
  | none => s

/-- The blocks of `BLK_RST0`, by bit. -/
def blkRst0 : List Blk := [.shunt, .crcu, .spx, .orvia, .ttbl, .mani, .sess, .pool, .triad .a, .triad .b, .patrol, .calst]
def blkRst1 : List Blk := all16.map Blk.ch ++ all16.map Blk.rfx

/-- The resets that a write of ones requests, in the order of the bits. -/
def State.requestBits (s : State) (l : List Blk) (v : Word) : State :=
  State.each (fun p s => if v.getLsbD p.2 then s.requestReset p.1 else s) l.zipIdx s

/-- A write of `RC_CTRL` (R540, R544 to R546): release before trigger. -/
def State.rcCtrl (s : State) (w v : Word) : State :=
  let s := (s.setF Fd.RC_CTRL_PAD_EN (fieldOf w 0 1)).setF Fd.RC_CTRL_PAD_EDGE (fieldOf w 1 1)
  let s := s.setF Fd.RC_CTRL_STATION_EN (fieldOf w 4 1)
  let s := if v.getLsbD 2 then s.offF Fd.RC_STAT_HELD else s
  let s := if v.getLsbD 5 then s.offF Fd.RC_STAT_SCHEDULED else s
  if v.getLsbD 3 then (s.rollTrigger 5).1 else s

/-- `SYS` (R91, R514, R546). -/
def State.sysWrite (s : State) (by_ : Agent) (a : Nat) (v mask : Word) : Bool × State :=
  let w := s.merged a v mask
  let vm := v &&& mask
  match a % 0x10000 with
  | 0x20 => (true, s.requestBits blkRst0 vm)
  | 0x24 => (true, s.requestBits blkRst1 vm)
  | 0x30 =>
    let m := match by_ with
      | .core m => some m
      | _ => none
    let s := s.plainWrite a v mask
    let s := if vm.getLsbD 0 then s.readyBy .a m else s
    (true, if vm.getLsbD 1 then s.readyBy .b m else s)
  | 0x208 => s.rfgRelWrite by_ v
  | 0xF010 => (true, s.rcCtrl w vm)
  | _ => (true, s.plainWrite a v mask)

/-- `SIGBOX` (R488, R492, R493). -/
def State.sigboxWrite (s : State) (a : Nat) (v mask : Word) : State :=
  let off := a % 0x10000
  let w := s.merged a v mask
  if off = 0x04 then (if (v &&& mask).getLsbD 0 then s.sbLock else s)
  else if off = 0x08 then s.sbLockedWrite Rg.SB_QUIET (rwBits a) w
  else if off = 0x24 then s.sbLockedWrite Rg.SB_IRQ (rwBits a) w
  else if 0x40 ≤ off ∧ off < 0x50 then s.stickyClear ((off - 0x40) / 4) (v &&& mask)
  else if 0x100 ≤ off ∧ off < 0x300 then s.sbCfgWrite ((off - 0x100) / 4) w
  else s.plainWrite a v mask

/-- `TALLY` (R507 to R509): a session may not write it. -/
def State.tallyWrite (s : State) (by_ : Agent) (a : Nat) (v mask : Word) : Bool × State :=
  let w := s.merged a v mask
  match by_ with
  | .session _ _ _ => (false, s)
  | _ =>
    (true, match a % 0x10000 with
      | 0x00 => s.tlCtrlWrite w
      | 0x08 => s.tlKeyWrite v.toNat
      | 0x0C => s.tlPeriodWrite w
      | 0x10 => s.tlEnWrite w
      | 0x20 => s.tlEscWrite w
      | _ => s.tlDisturb.plainWrite a v mask)

/-- `SHUNT` (R447). -/
def State.shuntWrite (s : State) (a : Nat) (v mask : Word) : State :=
  let off := a % 0x10000
  if 0x100 ≤ off ∧ off < 0x500 ∧ off % 0x40 = 0 then s.shCtrl (Fin.ofNat 16 ((off - 0x100) / 0x40)) (v &&& mask)
  else s.plainWrite a v mask

/-- `CRCU` (R453, R454). -/
def State.crcuWrite (s : State) (by_ : Agent) (a : Nat) (v mask : Word) : State :=
  let off := a % 0x10000
  if 0x100 ≤ off ∧ off < 0x200 then
    let u := Fin.ofNat 4 (off / 0x40)
    if off % 0x40 ≤ 0x20 ∧ s.cuForeign u by_ = true then s.cuRefuse u
    else match off % 0x40 with
      | 0x08 => (s.cuCtrl u (v &&& mask) by_).shPumpAll
      | 0x18 => s.cuData u 1 v by_
      | 0x1C => s.cuData u 2 v by_
      | 0x20 => s.cuData u 4 v by_
      | _ => s.plainWrite a v mask
  else s

/-- `SPX` (R518 to R539). -/
def State.spxWrite (s : State) (a : Nat) (v mask : Word) : State :=
  let off := a % 0x10000
  let w := s.merged a v mask
  if 0x1000 ≤ off ∧ off < 0x2000 then s.spxTxWrite v
  else if 0x3000 ≤ off ∧ off < 0x4000 then s.mailWrite v
  else if off = 0x00 then (if mask.getLsbD 0 then s.spxCfgWrite w else s)
  else if off = 0x04 then s.spxClkWrite w
  else if off = 0x18 then s.spxCtrlWrite w
  else if off = 0x28 then
    let s := s.plainWrite a v mask
    if (v &&& mask).getLsbD 11 then s.negReset else s
  else s.plainWrite a v mask

/-- `ORVIA` (R394, R397). -/
def State.orviaWrite (s : State) (a : Nat) (v mask : Word) : State :=
  let w := s.merged a v mask
  match a % 0x10000 with
  | 0x1C => s.ovTxWrite w
  | 0x104 => s.pctrlWrite .east w
  | 0x204 => s.pctrlWrite .west w
  | _ => s.plainWrite a v mask

/-- `MANI` (R242). -/
def State.maniWrite (s : State) (a : Nat) (v mask : Word) : State :=
  let off := a % 0x10000
  let w := s.merged a v mask
  if off = 0x00 then
    let s := s.plainWrite a v mask
    if s.getF Fd.MANI_CFG_MISS_LIM = 0 then s.setF Fd.MANI_CFG_MISS_LIM 1 else s
  else if off = 0x0C then s.bankSizeWrite w
  else if 0x2000 ≤ off ∧ off < 0x2400 then
    if off % 16 < 8 then s.pubWrite ((off - 0x2000) / 16) (off % 16 / 4) w else s
  else if 0x4000 ≤ off ∧ off < 0xC000 then s.subWrite ((off - 0x4000) / 8) (off % 8 / 4) w
  else s.plainWrite a v mask

/-- A write of the image size ends a boot load over Orvia (R413). -/
def State.ssBootWrite (s : State) (v : Word) : State :=
  if s.isF Fd.SS_CTRL_BOOT && !s.ss.bootLoaded then
    { s.setF Fd.SS_BOOT_SIZE (fieldOf v 0 25) with ss := { s.ss with bootLoaded := true } }
  else s

/-- `SESS` (R416). -/
def State.sessWrite (s : State) (a : Nat) (v mask : Word) : State :=
  let off := a % 0x10000
  let w := s.merged a v mask &&& rwBits a
  let sid := s.getF Fd.SS_SEL_ID
  if off = 0x04 then
    let share := fieldOf w 0 6
    s.setR Rg.SS_ADM (if share < 5 ∨ 50 < share then fieldPut w 0 6 (s.getF Fd.SS_ADM_SAFETY_SHARE) else w)
  else if off = 0x0C then s.ssBootWrite v
  else if off = 0x104 then s.modSess sid fun e => { e with cfg := w }
  else if off = 0x108 then s.modSess sid fun e => { e with peer := w }
  else if off = 0x118 then
    let s := if (v &&& mask).getLsbD 0 then s.entryCmd false else s
    if (v &&& mask).getLsbD 1 then s.entryCmd true else s
  else if 0x120 ≤ off ∧ off < 0x160 then
    let i := Fin.ofNat 8 ((off - 0x120) / 8)
    if off % 8 = 0 then s.modSess sid fun e => { e with base := vset e.base i w }
    else s.modSess sid fun e => { e with lim := vset e.lim i w }
  else s.plainWrite a v mask

/-- `POOL` (R441 to R443); the debug transport has no identity (R549). -/
def State.poolWrite (s : State) (by_ : Agent) (a : Nat) (v mask : Word) : Bool × State :=
  let w := s.merged a v mask
  match a % 0x10000 with
  | 0x00 => (true, s.plCfgWrite w)
  | 0x0C => if by_ = .debug then (true, s) else s.plFree by_ v.toNat
  | 0x10 => if by_ = .debug then (true, s) else s.plGive by_ (fieldOf v 0 12) (fieldOf v 16 12)
  | 0x14 => if by_ = .debug then (true, s) else s.plReclaim by_ (fieldOf v 0 12)
  | _ => (true, s.plainWrite a v mask)

/-- `CALST` (R470, R475, R478, R481). -/
def State.calstWrite (s : State) (a : Nat) (v mask : Word) : State :=
  let w := s.merged a v mask
  match a % 0x10000 with
  | 0x40 => s.fpKey v.toNat
  | 0x50 => if w.getLsbD 2 then s.fpGo (fieldOf w 0 2) else s.fpDisturb.plainWrite a v mask
  | 0x10 => if w.getLsbD 0 then s.fpDisturb.calWrite else s.fpDisturb
  | _ => s.fpDisturb.plainWrite a v mask

/-- A channel block (R263). -/
def State.chWrite (s : State) (n : Fin 16) (a : Nat) (v mask : Word) : State :=
  let off := a % 0x10000
  if 0x100 ≤ off ∧ off < 0x800 then s.mgmtRefuse n else s.plainWrite a v mask

/-- Registers of a lane that cannot be written while it runs (R330). -/
def laneHeld (off : Nat) : Bool :=
  off == 0x08 || (0x40 ≤ off && off < 0x60) || (0x80 ≤ off && off < 0xA0) || (0x100 ≤ off && off < 0x240)

/-- A lane block (R330): a store of the machine that serves the lane. -/
def State.rfxWrite (s : State) (n : Fin 16) (by_ : Agent) (a : Nat) (v mask : Word) : State :=
  let off := a % 0x1000
  let served := match by_ with
    | .core m => s.chMach n == some m
    | .debug => false
    | _ => true
  if !served then s.onF (Fd.RFX_STAT_FOREIGN_WR n.val)
  else if laneHeld off && s.laneRuns n then s.onF (Fd.RFX_STAT_WR_RUNNING n.val)
  else if off = 0 then s.rfxCtrl n (v &&& mask)
  else s.plainWrite a v mask

/-- Registers that a write acts on only as a whole (R559). -/
def wholeWrite (a : Nat) : Bool :=
  (0x4005_1000 ≤ a && a < 0x4005_2000) || (0x4005_3000 ≤ a && a < 0x4005_4000)
    || a == 0x400A_000C || a == 0x400A_0010 || a == 0x400A_0014 || a == 0x4002_0008 || a == 0x400D_0040 || a == 0x4000_0208
    || (0x4004_0100 ≤ a && a < 0x4004_0200 && 0x18 ≤ a % 0x40 && a % 0x40 ≤ 0x20) || a == 0x4009_000C

/-- A write to the word at an address of an assigned block, in the lanes of `mask`; false tells a session that it
is refused with NO_RIGHT, detail RIGHT. -/
def State.devWrite (s : State) (by_ : Agent) (a : Nat) (v mask : Word) : Bool × State :=
  let a := a / 4 * 4
  if inSnapArea a || (wholeWrite a && mask != 0xFFFF_FFFF) then (true, s)
  else match blkOf a with
    | none => (true, s)
    | some b => match b with
      | .sys => s.sysWrite by_ a v mask
      | .sigbox => (true, s.sigboxWrite a v mask)
      | .tally => s.tallyWrite by_ a v mask
      | .shunt => (true, s.shuntWrite a v mask)
      | .crcu => (true, s.crcuWrite by_ a v mask)
      | .spx => (true, s.spxWrite a v mask)
      | .orvia => (true, s.orviaWrite a v mask)
      | .ttbl => (true, if a % 0x10000 = 0x18 then s.ttPeriodWrite (s.merged a v mask) else s.plainWrite a v mask)
      | .mani => (true, s.maniWrite a v mask)
      | .sess => (true, s.sessWrite a v mask)
      | .pool => s.poolWrite by_ a v mask
      | .triad _ => (true, s.plainWrite a v mask)
      | .patrol => (true, s.plainWrite a v mask)
      | .calst => (true, s.calstWrite a v mask)
      | .ch n => (true, s.chWrite n a v mask)
      | .rfx n => (true, s.rfxWrite n by_ a v mask)

/-- The block whose reset an access to an address meets: a triad bank belongs to its triad. -/
def State.targetReset (s : State) (a : Nat) : Bool :=
  match blkOf a with
  | some b => s.inReset b
  | none => false

/-- The lanes of `n` bytes at an address, and the value in them (R558). -/
def laneMask (a n : Nat) : Word := BitVec.ofNat 32 ((2 ^ (8 * n) - 1) <<< (8 * (a % 4)))
def laneValue (a : Nat) (v : Word) : Word := v <<< (8 * (a % 4))

/-- The value of `n` bytes at an address within their word. -/
def laneRead (a n : Nat) (w : Word) : Nat := w.toNat / 2 ^ (8 * (a % 4)) % 2 ^ (8 * n)

end Sys2Proof.Machine
end

