-- ==== Sys2Proof/Machine/Fabric.lean ====
section
/-! DEFINITION. Accesses of sessions, shunters and the debug transport to the local map (R98, R112, R457, R564):
where an address lies, and what a read or a write there gives. -/

namespace Sys2Proof.Machine

/-- Whether every one of `n` bytes from `a` up lies in a region or an assigned block (R98, R553). -/
def mapped (a n : Nat) : Bool :=
  let z := a + n - 1
  (inSram a && inSram z) || (inFlash a && inFlash z) || (inDevice a && (slotOf a).isSome && a / 0x1000 == z / 0x1000)

/-- Whether the address is that of a four-byte access that is aligned. -/
def wordAt (a n : Nat) : Bool := a % 4 == 0 && n == 4

/-- The offset of a write that the programs own (R263, R330). -/
def programOwned (a : Nat) : Bool :=
  match blkOf a with
  | some (.ch _) => 0x100 ≤ a % 0x10000 && a % 0x10000 < 0x800
  | some (.rfx _) => a % 0x1000 < 0x300
  | _ => false

/-- What a read gives: its bytes, or none where it meets a poisoned word. -/
def State.fabRead (s : State) (by_ : Agent) (a n : Nat) : Option (List Byte) × State :=
  if inSram a then
    match s.sramLoad a n with
    | (.data v, s) => (some (leBytes v n), s)
    | (.poison, s) => (none, s)
  else if inFlash a then
    match s.flashLoad a n with
    | (some v, s) => (some (leBytes v n), s)
    | (none, s) => (none, s)
  else
    let (w, s) := s.devRead by_ a n
    (some (leBytes w.toNat n), s)

/-- What a write gives. -/
inductive WrRes where
  | done | poison | right
deriving DecidableEq, Repr

/-- A write to SRAM, or of four bytes to the device region. -/
def State.fabWrite (s : State) (by_ : Agent) (a : Nat) (bs : List Byte) : WrRes × State :=
  if inSram a then
    match s.sramWrite a bs with
    | (true, s) => (.done, s)
    | (false, s) => (.poison, s)
  else
    match s.devWrite by_ a (Word.ofNat (leNat bs)) 0xFFFF_FFFF with
    | (true, s) => (.done, s)
    | (false, s) => (.right, s)

end Sys2Proof.Machine
end

