-- ==== Sys2Proof/Machine/Pads.lean ====
section
/-! DEFINITION. What stands at the logic-side pads that the module drives (R33, R35, R37, R38, R47, R518): levels
that follow from the state. -/

namespace Sys2Proof.Machine

/-- The level of a pad: driven, or high-impedance. -/
inductive PadLevel where
  | low | high | highZ
deriving DecidableEq, Repr

def PadLevel.of (b : Bool) : PadLevel := if b then .high else .low

/-- The logic pad outputs are high-impedance: the module is unpowered (R37), or `VIO_IN` has fallen after a reset
release and is not back (R38). -/
def State.padsOff (s : State) : Bool := s.phase == .unpowered || (s.pwr.released && !s.pwr.vioOk)

/-- `VIO_OUT` is on (R33, R47): from power-on through every reset, STABLED and the power-fail sequence until the end
of hold-up. -/
def State.vioOut (s : State) : Bool := s.phase != .unpowered

/-- `ERR_P` and `ERR_N` (R33, R35). -/
def State.errPads (s : State) : PadLevel × PadLevel :=
  if s.padsOff then (.highZ, .highZ) else (PadLevel.of (!s.errPair), PadLevel.of s.errPair)

/-- What the error pair says with the pull-downs of R35. -/
inductive ErrSays where
  | noError | error | notDriven
deriving DecidableEq, Repr

def State.errSays (s : State) : ErrSays :=
  match s.errPads with
  | (.high, .low) => .noError
  | (.low, .high) => .error
  | _ => .notDriven

/-- The port drives the bus pads of a master (R518): MASTER, or MULTI with the token. In reset they are released
(R33), and so they are after a mode fault until the next frame (R528). -/
def State.spxDrives (s : State) : Bool :=
  s.phase == .running && !s.inReset .spx && !s.padsOff && s.spx.pads.getLast? != some .off
    && (s.getF Fd.SPX_CFG_ROLE == 1 || (s.getF Fd.SPX_CFG_ROLE == 2 && s.isF Fd.SPX_MSTAT_TOKEN))

/-- The target that the select lines hold: the last one they took. -/
def SpxH.selected (x : SpxH) : Nat :=
  (x.pads.reverse.findSome? fun p => match p with
    | .select t => some t
    | _ => none).getD 0

/-- `SPX_SEL0` to `SPX_SEL3`, and `nSPX_SELEN` (R518, R524). -/
def State.spxSelPad (s : State) (k : Fin 4) : PadLevel :=
  if s.spxDrives then PadLevel.of (s.spx.selected.testBit k.val) else .highZ
def State.spxSelenPad (s : State) : PadLevel :=
  if s.spxDrives then PadLevel.of (s.getF Fd.SPX_MSTAT_STATE == 0) else .highZ

/-- `SPX_CLK` between clock edges, and while a frame is stalled: the idle level (R518, R523). -/
def State.spxClkPad (s : State) : PadLevel := if s.spxDrives then PadLevel.of (s.isF Fd.SPX_MCLK_CPOL) else .highZ

/-- `SPX_IO0` to `SPX_IO3` of the master between frames and while a frame is stalled (R518, R520). -/
def State.spxIoPad (s : State) (k : Fin 4) : PadLevel :=
  if s.spxDrives && s.getF Fd.SPX_MSTAT_STATE != 0 then
    match s.spx.pads.getLast? with
    | some (.drive l v) => if k.val < l then PadLevel.of (v.testBit k.val) else .highZ
    | some (.both o _) => if k.val = 0 then PadLevel.of (o.testBit 0) else .highZ
    | _ => .highZ
  else .highZ

/-- `TDO` (R33): high-impedance unless the TAP shifts, and each command of the debug port is a whole shift. -/
def State.tdoPad (_s : State) : PadLevel := .highZ

end Sys2Proof.Machine
end

