-- ==== Sys2Proof/Machine/Vectors.lean ====
section
/-! DEFINITION. Maskable vectors: the levels that the blocks drive to the input platform (R97, R117, R194, R235, R478,
R487), and what a machine finds pending. -/

namespace Sys2Proof.Machine

/-- An interrupt level: the triad that it goes to, and its vector. -/
abbrev Level := Triad × Nat

/-- The levels of a block whose register has VEC and enables for A and B, while a condition holds. -/
def State.levels (s : State) (on : Bool) (vec enA enB : Fd) : List Level :=
  if on then (if s.isF enA then [(Triad.a, s.getF vec)] else []) ++ (if s.isF enB then [(Triad.b, s.getF vec)] else [])
  else []

/-- A source's level is up for a triad (R487): its sticky bit with reaction IRQ or BLOCK_RESET. -/
def State.sbLevel (s : State) (t : Triad) (src : Nat) : Bool :=
  let r := s.getF (Fd.SB_CFG_REACTION src)
  (r == 1 || r == 3) && s.bitF (Fd.SB_STICKY_BITS (src / 32)) (src % 32)
    && (if src ≤ 9 then (s.tri t).raised.getLsbD src else (s.sbRoute src .block).contains t)

def State.sbLevels (s : State) : List Level :=
  (if s.isF Fd.SB_IRQ_EN_A && (List.range 128).any (s.sbLevel .a) then [(Triad.a, s.getF Fd.SB_IRQ_VEC_A)] else [])
    ++ if s.isF Fd.SB_IRQ_EN_B && (List.range 128).any (s.sbLevel .b) then [(Triad.b, s.getF Fd.SB_IRQ_VEC_B)] else []

/-- The shunters' levels by route. -/
def State.shLevels (s : State) : List Level :=
  let ev := s.getR Rg.SH_EVT &&& s.getR Rg.SH_IRQ_EN
  let up := fun (b : Bool) => all16.any fun n => s.bitF Fd.SH_IRQ_CFG_ROUTE n.val == b && (ev.getLsbD n.val || ev.getLsbD (16 + n.val))
  (if up false then [(Triad.a, s.getF Fd.SH_IRQ_CFG_VEC_A)] else []) ++ if up true then [(Triad.b, s.getF Fd.SH_IRQ_CFG_VEC_B)] else []

/-- Retraction events (R235). -/
def State.revtLevels (s : State) : List Level :=
  (if s.isF Fd.MANI_REVT_CTRL_EN_A && !s.mani.revtA.isEmpty then [(Triad.a, s.getF Fd.MANI_REVT_CTRL_VEC_A)] else [])
    ++ if s.isF Fd.MANI_REVT_CTRL_EN_B && !s.mani.revtB.isEmpty then [(Triad.b, s.getF Fd.MANI_REVT_CTRL_VEC_B)] else []

/-- A channel's level and a lane's, which go to the triad that owns the channel. -/
def State.chLevels (s : State) (n : Fin 16) : List Level :=
  match s.chTriad n with
  | none => []
  | some t =>
    let ch := fieldOf (s.getR (Rg.CH_EVT n.val)) 0 8 &&& s.getF (Fd.CH_IRQ_EN n.val) != 0
    let lane := (s.isF (Fd.RFX_IRQ_EN_NOTE n.val) && s.isF (Fd.RFX_NOTE_PEND n.val))
      || (s.isF (Fd.RFX_IRQ_EN_FAULT n.val) && s.getF (Fd.RFX_STAT_STATE n.val) == 2)
    (if ch then [(t, s.getF (Fd.CH_IRQ_VEC n.val))] else []) ++ if lane then [(t, s.getF (Fd.RFX_IRQ_VEC n.val))] else []

/-- `CALST`: of the calibration store and of flash programming (R478). -/
def State.calstUp (s : State) : Bool :=
  (s.isF Fd.CS_IRQ_EN_DONE && (s.isF Fd.CS_STAT_DONE || s.isF Fd.FP_STAT_DONE))
    || (s.isF Fd.CS_IRQ_EN_FAIL && (s.isF Fd.CS_STAT_FAIL || s.isF Fd.FP_STAT_FAIL))

/-- Every level that is up. -/
def State.allLevels (s : State) : List Level :=
  s.sbLevels ++ s.shLevels ++ s.revtLevels ++ all16.flatMap s.chLevels
    ++ s.levels (fieldOf (s.getR Rg.OV_EVT) 0 9 &&& s.getF Fd.OV_IRQ_EN != 0) Fd.OV_IRQ_VEC Fd.OV_IRQ_EN_A Fd.OV_IRQ_EN_B
    ++ s.levels true Fd.TT_IRQ_VEC Fd.TT_IRQ_PEND_A Fd.TT_IRQ_PEND_B
    ++ s.levels true Fd.TL_IRQ_VEC Fd.TL_IRQ_PEND_A Fd.TL_IRQ_PEND_B
    ++ s.levels (4096 - s.pool.tags.length < s.getF Fd.PL_IRQ_LOW) Fd.PL_IRQ_VEC Fd.PL_IRQ_EN_A Fd.PL_IRQ_EN_B
    ++ s.levels (!s.pt.log.isEmpty) Fd.PT_IRQ_VEC Fd.PT_IRQ_EN_A Fd.PT_IRQ_EN_B
    ++ s.levels s.calstUp Fd.CS_IRQ_VEC Fd.CS_IRQ_EN_A Fd.CS_IRQ_EN_B
    ++ s.levels (fieldOf s.readSpxEvt 0 9 &&& s.getF Fd.SPX_IRQ_EN != 0) Fd.SPX_IRQ_VEC Fd.SPX_IRQ_EN_A Fd.SPX_IRQ_EN_B

/-- `IPEND` of a machine (R194): in a split triad x0 has vectors 0 to 31 and x1 the others. -/
def State.ipend (s : State) (m : Mach) : Nat :=
  let l := (s.allLevels.filter fun p => p.1 == m.triad).map (·.2)
  let mine := fun v => !s.split m.triad || (v < 32) == (m.core == 0)
  ((List.range 64).filter fun v => l.contains v && mine v).foldl (fun n v => n + 2 ^ v) 0

/-- The vectors that are pending and enabled. -/
def State.ienabled (s : State) (m : Mach) : Nat :=
  s.ipend m &&& ((s.rc' m 6).toNat + 2 ^ 32 * (s.rc' m 7).toNat)

/-- The lowest of them. -/
def State.firstVector (s : State) (m : Mach) : Option Nat := (List.range 64).find? (s.ienabled m).testBit

end Sys2Proof.Machine
end

