-- ==== Sys2Proof/Machine/Issue.lean ====
section
/-! DEFINITION. The retire slot (R118): the entries that the input platform delivers (R117 to R122, R147), which take a
slot before the instruction at it, and the issue of one instruction of a machine. -/

namespace Sys2Proof.Machine

/-! ### Entries (R117 to R122, R147) -/

/-- A delivery ends WAITI (R147): an NMI, a vector that is pending and enabled, or the wake interrupt. -/
def State.delivers (s : State) (m : Mach) : Bool :=
  (s.mach m).wake || (s.mach m).nmi.isSome || s.ienabled m != 0

/-- WAITI retires. -/
def State.waitiEnd (s : State) (m : Mach) : State :=
  if (s.mach m).wait = .waiti then (s.modMach m fun x => { x with wait := .none }).retire m else s

/-- The machine runs and stands between instructions; a strongly ordered access comes to its end first (R106). -/
def State.canEnter (s : State) (m : Mach) : Bool :=
  s.running m && match (s.mach m).wait with
    | .none => true
    | .waiti => true
    | .waitd _ _ _ => true
    | _ => false

/-- The NMI that is held is taken. -/
def State.takeNmi (s : State) (m : Mach) : State :=
  match (s.mach m).nmi with
  | some src =>
    if s.nmiActive m then s
    else
      let s := (s.waitiEnd m).modMach m fun x => { x with nmi := none }
      s.nmiEntry m (s.mach m).pc 0x0D src
  | none => s

/-- The wake interrupt is taken (R120). -/
def State.takeWake (s : State) (m : Mach) : State :=
  let v := (s.rc' m cIvcfg).toNat % 64
  let s := (s.waitiEnd m).modMach m fun x => { x with wake := false }
  let pc := (s.mach m).pc
  if s.exl m then
    if s.nmiActive m then s.haltMach m else s.nmiEntry m pc 0x0C 0
  else s.entry m pc (causeWord 0 v 0 (s.mach m).longRun true) (64 + v)

/-- The conditions of R117. -/
def State.irqOpen (s : State) (m : Mach) : Bool := (s.rc' m cStatus).getLsbD 1 && !s.exl m && !s.nmiActive m

/-- The lowest vector that is pending and enabled is taken. -/
def State.takeIrq (s : State) (m : Mach) : State :=
  match s.firstVector m with
  | some v =>
    let s := s.waitiEnd m
    s.entry m (s.mach m).pc (causeWord 0 v 0 (s.mach m).longRun true) (64 + v)
  | none => s

/-- An NMI that is held can be taken (R122). -/
def State.nmiDue (s : State) (m : Mach) : Bool := (s.mach m).nmi.isSome && !s.nmiActive m

/-- An interrupt takes the slot of the next instruction (R118). -/
def State.entryDue (s : State) (m : Mach) : Bool :=
  s.nmiDue m || (s.mach m).wake || (s.irqOpen m && (s.firstVector m).isSome)

/-- The interrupt that takes the slot, in the order of R118. -/
def State.slotEntry (s : State) (m : Mach) : State :=
  if s.nmiDue m then s.takeNmi m else if (s.mach m).wake then s.takeWake m else s.takeIrq m

/-! ### Issue -/

/-- One instruction of a machine: nothing while the machine does not issue; the interrupt that takes its slot, after
whose return the instruction comes again (R118); nothing while its fetch stalls on a page that is being healed; the trap
of its fetch; else its own effect `f`. It ends a debug step. -/
def State.issue (s : State) (m : Mach) (f : State → State) : Host.Outcome State Fault Refusal :=
  if !s.canIssue m then ok s
  else if s.entryDue m then ok ((s.endStep m).slotEntry m)
  else if s.healingAt (s.mach m).pc.toNat 4 then ok s
  else match (s.endStep m).fetch m with
    | (true, s) => ok (f s)
    | (false, s) => ok s

/-- An instruction that only STATION may execute (R95). -/
def State.issueStation (s : State) (m : Mach) (w : Word) (f : State → State) : Host.Outcome State Fault Refusal :=
  s.issue m fun s => if s.atStation m then f s else s.privTrap m w

end Sys2Proof.Machine
end

