-- ==== Sys2Proof/Machine/TapolAlu.lean ====
section
/-! DEFINITION. Tapol integer arithmetic and logic, immediate forms, saturating fixed-point
operations, branches and jumps (R137 to R140, R144). -/

namespace Sys2Proof.Machine

/-! ### The operations -/

/-- A shift or rotate count: u(gb)[4:0] (R137). -/
def shiftCount (b : Word) : Nat := b.toNat % 32

/-- 1 for true, 0 for false, as a word. -/
def truth (b : Bool) : Word := if b then 1 else 0

/-- The number of 1 bits of a word. -/
def popc (a : Word) : Word := Word.ofNat ((List.range 32).countP fun i => a.getLsbD i)

/-- The number of leading zero bits of a word. -/
def clz (a : Word) : Word := Word.ofNat (if a = 0 then 32 else 31 - Nat.log2 a.toNat)

/-- A result saturated to 32 bits. -/
def sat32 (x : Int) : Word := Word.ofInt (sat x 32)

/-- `divs` of R138. -/
def divs (a b : Word) : Word :=
  if b = 0 then (if a.toInt > 0 then 0x7FFF_FFFF else if a.toInt < 0 then 0x8000_0000 else 0)
  else sat32 (a.toInt.tdiv b.toInt)

/-- `divu` of R138. -/
def divu (a b : Word) : Word := if b = 0 then (if a ≠ 0 then 0xFFFF_FFFF else 0) else Word.ofNat (a.toNat / b.toNat)

/-- `mods` of R138. -/
def mods (a b : Word) : Word := if b = 0 then 0 else Word.ofInt (a.toInt - b.toInt * a.toInt.tdiv b.toInt)

/-- `modu` of R138. -/
def modu (a b : Word) : Word := if b = 0 then 0 else Word.ofNat (a.toNat - b.toNat * (a.toNat / b.toNat))

/-! ### The shapes -/

/-- gd := f(ga, gb). -/
def State.aluR (s : State) (m : Mach) (gd ga gb : BitVec 5) (f : Word → Word → Word) : Host.Outcome State Fault Refusal :=
  s.issue m fun s => s.setRetire m gd (f (s.rg m ga) (s.rg m gb))

/-- gd := f(ga). -/
def State.aluU (s : State) (m : Mach) (gd ga : BitVec 5) (f : Word → Word) : Host.Outcome State Fault Refusal :=
  s.issue m fun s => s.setRetire m gd (f (s.rg m ga))

/-- gd := f(gd, ga, gb). -/
def State.aluD (s : State) (m : Mach) (gd ga gb : BitVec 5) (f : Word → Word → Word → Word) :
    Host.Outcome State Fault Refusal :=
  s.issue m fun s => s.setRetire m gd (f (s.rg m gd) (s.rg m ga) (s.rg m gb))

/-- A branch that is taken when `p gd ga` holds. -/
def State.branch (s : State) (m : Mach) (gd ga : BitVec 5) (i : BitVec 17) (p : Word → Word → Bool) :
    Host.Outcome State Fault Refusal :=
  s.issue m fun s =>
    let pc := (s.mach m).pc
    s.retireTo m (if p (s.rg m gd) (s.rg m ga) then pc + branchOff i else pc + 4)

/-! ### Integer arithmetic and logic (R137, R138) -/

/-- ADD (R137): gd := ga + gb. -/
def execAdd (m : Mach) (gd ga gb : BitVec 5) (s : State) : Host.Outcome State Fault Refusal :=
  s.aluR m gd ga gb fun a b => a + b

/-- SUB (R137): gd := ga - gb. -/
def execSub (m : Mach) (gd ga gb : BitVec 5) (s : State) : Host.Outcome State Fault Refusal :=
  s.aluR m gd ga gb fun a b => a - b

/-- AND (R137): gd := ga and gb. -/
def execAnd (m : Mach) (gd ga gb : BitVec 5) (s : State) : Host.Outcome State Fault Refusal :=
  s.aluR m gd ga gb fun a b => a &&& b

/-- OR (R137): gd := ga or gb. -/
def execOr (m : Mach) (gd ga gb : BitVec 5) (s : State) : Host.Outcome State Fault Refusal :=
  s.aluR m gd ga gb fun a b => a ||| b

/-- XOR (R137): gd := ga xor gb. -/
def execXor (m : Mach) (gd ga gb : BitVec 5) (s : State) : Host.Outcome State Fault Refusal :=
  s.aluR m gd ga gb fun a b => a ^^^ b

/-- ANDN (R137): gd := ga and not gb. -/
def execAndn (m : Mach) (gd ga gb : BitVec 5) (s : State) : Host.Outcome State Fault Refusal :=
  s.aluR m gd ga gb fun a b => a &&& ~~~b

/-- SHL (R137): gd := ga << k. -/
def execShl (m : Mach) (gd ga gb : BitVec 5) (s : State) : Host.Outcome State Fault Refusal :=
  s.aluR m gd ga gb fun a b => a <<< shiftCount b

/-- SHR (R137): gd := ga >> k. -/
def execShr (m : Mach) (gd ga gb : BitVec 5) (s : State) : Host.Outcome State Fault Refusal :=
  s.aluR m gd ga gb fun a b => a >>> shiftCount b

/-- SHRA (R137): gd := floor(s(ga) / 2^k). -/
def execShra (m : Mach) (gd ga gb : BitVec 5) (s : State) : Host.Outcome State Fault Refusal :=
  s.aluR m gd ga gb fun a b => a.sshiftRight (shiftCount b)

/-- ROTR (R137): gd := ga rotated right by k. -/
def execRotr (m : Mach) (gd ga gb : BitVec 5) (s : State) : Host.Outcome State Fault Refusal :=
  s.aluR m gd ga gb fun a b => a.rotateRight (shiftCount b)

/-- CLT (R137): 1 if s(ga) < s(gb), else 0. -/
def execClt (m : Mach) (gd ga gb : BitVec 5) (s : State) : Host.Outcome State Fault Refusal :=
  s.aluR m gd ga gb fun a b => truth (a.slt b)

/-- CLTU (R137): 1 if u(ga) < u(gb), else 0. -/
def execCltu (m : Mach) (gd ga gb : BitVec 5) (s : State) : Host.Outcome State Fault Refusal :=
  s.aluR m gd ga gb fun a b => truth (a.ult b)

/-- MIN (R137): the signed minimum. -/
def execMin (m : Mach) (gd ga gb : BitVec 5) (s : State) : Host.Outcome State Fault Refusal :=
  s.aluR m gd ga gb fun a b => if a.slt b then a else b

/-- MAX (R137): the signed maximum. -/
def execMax (m : Mach) (gd ga gb : BitVec 5) (s : State) : Host.Outcome State Fault Refusal :=
  s.aluR m gd ga gb fun a b => if a.slt b then b else a

/-- MINU (R137): the unsigned minimum. -/
def execMinu (m : Mach) (gd ga gb : BitVec 5) (s : State) : Host.Outcome State Fault Refusal :=
  s.aluR m gd ga gb fun a b => if a.ult b then a else b

/-- MAXU (R137): the unsigned maximum. -/
def execMaxu (m : Mach) (gd ga gb : BitVec 5) (s : State) : Host.Outcome State Fault Refusal :=
  s.aluR m gd ga gb fun a b => if a.ult b then b else a

/-- CLZ (R137): the number of leading zero bits of ga, 32 when ga = 0. -/
def execClz (m : Mach) (gd ga : BitVec 5) (s : State) : Host.Outcome State Fault Refusal :=
  s.aluU m gd ga fun a => clz a

/-- POPC (R137): the number of 1 bits of ga. -/
def execPopc (m : Mach) (gd ga : BitVec 5) (s : State) : Host.Outcome State Fault Refusal :=
  s.aluU m gd ga fun a => popc a

/-- MUL (R137): gd := (u(ga) x u(gb))[31:0]. -/
def execMul (m : Mach) (gd ga gb : BitVec 5) (s : State) : Host.Outcome State Fault Refusal :=
  s.aluR m gd ga gb fun a b => a * b

/-- MULHI.S (R137): gd := (s(ga) x s(gb))[63:32]. -/
def execMulhiS (m : Mach) (gd ga gb : BitVec 5) (s : State) : Host.Outcome State Fault Refusal :=
  s.aluR m gd ga gb fun a b => Word.ofInt (a.toInt * b.toInt / 2 ^ 32)

/-- MULHI.U (R137): gd := (u(ga) x u(gb))[63:32]. -/
def execMulhiU (m : Mach) (gd ga gb : BitVec 5) (s : State) : Host.Outcome State Fault Refusal :=
  s.aluR m gd ga gb fun a b => Word.ofNat (a.toNat * b.toNat / 2 ^ 32)

/-- DIVS (R137): divs of R138. -/
def execDivs (m : Mach) (gd ga gb : BitVec 5) (s : State) : Host.Outcome State Fault Refusal :=
  s.aluR m gd ga gb fun a b => divs a b

/-- DIVU (R137): divu of R138. -/
def execDivu (m : Mach) (gd ga gb : BitVec 5) (s : State) : Host.Outcome State Fault Refusal :=
  s.aluR m gd ga gb fun a b => divu a b

/-- MODS (R137): mods of R138. -/
def execMods (m : Mach) (gd ga gb : BitVec 5) (s : State) : Host.Outcome State Fault Refusal :=
  s.aluR m gd ga gb fun a b => mods a b

/-- MODU (R137): modu of R138. -/
def execModu (m : Mach) (gd ga gb : BitVec 5) (s : State) : Host.Outcome State Fault Refusal :=
  s.aluR m gd ga gb fun a b => modu a b

/-! ### Immediate forms (R139) -/

/-- ADDI (R139): gd := ga + sext(imm17, 32). -/
def execAddi (m : Mach) (gd ga : BitVec 5) (i : BitVec 17) (s : State) : Host.Outcome State Fault Refusal :=
  s.aluU m gd ga fun a => a + simm i

/-- ANDI (R139): gd := ga and zext(imm17, 32). -/
def execAndi (m : Mach) (gd ga : BitVec 5) (i : BitVec 17) (s : State) : Host.Outcome State Fault Refusal :=
  s.aluU m gd ga fun a => a &&& zimm i

/-- ORI (R139): gd := ga or zext(imm17, 32). -/
def execOri (m : Mach) (gd ga : BitVec 5) (i : BitVec 17) (s : State) : Host.Outcome State Fault Refusal :=
  s.aluU m gd ga fun a => a ||| zimm i

/-- XORI (R139): gd := ga xor zext(imm17, 32). -/
def execXori (m : Mach) (gd ga : BitVec 5) (i : BitVec 17) (s : State) : Host.Outcome State Fault Refusal :=
  s.aluU m gd ga fun a => a ^^^ zimm i

/-- CLTI (R139): 1 if s(ga) < s(sext(imm17, 32)), else 0. -/
def execClti (m : Mach) (gd ga : BitVec 5) (i : BitVec 17) (s : State) : Host.Outcome State Fault Refusal :=
  s.aluU m gd ga fun a => truth (a.slt (simm i))

/-- CLTIU (R139): 1 if u(ga) < u(sext(imm17, 32)), else 0. -/
def execCltiu (m : Mach) (gd ga : BitVec 5) (i : BitVec 17) (s : State) : Host.Outcome State Fault Refusal :=
  s.aluU m gd ga fun a => truth (a.ult (simm i))

/-- SHLI (R139): as SHL with k the gb field. -/
def execShli (m : Mach) (gd ga k : BitVec 5) (s : State) : Host.Outcome State Fault Refusal :=
  s.aluU m gd ga fun a => a <<< k.toNat

/-- SHRI (R139): as SHR with k the gb field. -/
def execShri (m : Mach) (gd ga k : BitVec 5) (s : State) : Host.Outcome State Fault Refusal :=
  s.aluU m gd ga fun a => a >>> k.toNat

/-- SHRAI (R139): as SHRA with k the gb field. -/
def execShrai (m : Mach) (gd ga k : BitVec 5) (s : State) : Host.Outcome State Fault Refusal :=
  s.aluU m gd ga fun a => a.sshiftRight k.toNat

/-- ROTRI (R139): as ROTR with k the gb field. -/
def execRotri (m : Mach) (gd ga k : BitVec 5) (s : State) : Host.Outcome State Fault Refusal :=
  s.aluU m gd ga fun a => a.rotateRight k.toNat

/-- LDHI (R139): gd := imm17 << 15. -/
def execLdhi (m : Mach) (gd : BitVec 5) (i : BitVec 17) (s : State) : Host.Outcome State Fault Refusal :=
  s.issue m fun s => s.setRetire m gd (himm i)

/-- ADDPC (R139): gd := PC + (imm17 << 15). -/
def execAddpc (m : Mach) (gd : BitVec 5) (i : BitVec 17) (s : State) : Host.Outcome State Fault Refusal :=
  s.issue m fun s => s.setRetire m gd ((s.mach m).pc + himm i)

/-! ### Saturating fixed-point and multiply-accumulate (R140) -/

/-- QADD (R140): sat(s(ga) + s(gb), 32). -/
def execQadd (m : Mach) (gd ga gb : BitVec 5) (s : State) : Host.Outcome State Fault Refusal :=
  s.aluR m gd ga gb fun a b => sat32 (a.toInt + b.toInt)

/-- QSUB (R140): sat(s(ga) - s(gb), 32). -/
def execQsub (m : Mach) (gd ga gb : BitVec 5) (s : State) : Host.Outcome State Fault Refusal :=
  s.aluR m gd ga gb fun a b => sat32 (a.toInt - b.toInt)

/-- QNEG (R140): sat(-s(ga), 32). -/
def execQneg (m : Mach) (gd ga : BitVec 5) (s : State) : Host.Outcome State Fault Refusal :=
  s.aluU m gd ga fun a => sat32 (-a.toInt)

/-- QABS (R140): sat(abs(s(ga)), 32). -/
def execQabs (m : Mach) (gd ga : BitVec 5) (s : State) : Host.Outcome State Fault Refusal :=
  s.aluU m gd ga fun a => sat32 a.toInt.natAbs

/-- QMUL (R140): sat(rnd(s(ga) x s(gb), 31), 32). -/
def execQmul (m : Mach) (gd ga gb : BitVec 5) (s : State) : Host.Outcome State Fault Refusal :=
  s.aluR m gd ga gb fun a b => sat32 (rnd (a.toInt * b.toInt) 31)

/-- SATS (R140): sat(s(ga), u(gb)[4:0] + 1). -/
def execSats (m : Mach) (gd ga gb : BitVec 5) (s : State) : Host.Outcome State Fault Refusal :=
  s.aluR m gd ga gb fun a b => Word.ofInt (sat a.toInt (shiftCount b + 1))

/-- SATU (R140): usat(s(ga), u(gb)[4:0] + 1). -/
def execSatu (m : Mach) (gd ga gb : BitVec 5) (s : State) : Host.Outcome State Fault Refusal :=
  s.aluR m gd ga gb fun a b => Word.ofInt (usat a.toInt (shiftCount b + 1))

/-- QSHL (R140): sat(s(ga) x 2^(u(gb)[4:0]), 32). -/
def execQshl (m : Mach) (gd ga gb : BitVec 5) (s : State) : Host.Outcome State Fault Refusal :=
  s.aluR m gd ga gb fun a b => sat32 (a.toInt * 2 ^ shiftCount b)

/-- QRSHR (R140): rnd(s(ga), u(gb)[4:0]). -/
def execQrshr (m : Mach) (gd ga gb : BitVec 5) (s : State) : Host.Outcome State Fault Refusal :=
  s.aluR m gd ga gb fun a b => Word.ofInt (rnd a.toInt (shiftCount b))

/-- MAC (R140): gd := sat(s(gd) + rnd(s(ga) x s(gb), 31), 32). -/
def execMac (m : Mach) (gd ga gb : BitVec 5) (s : State) : Host.Outcome State Fault Refusal :=
  s.aluD m gd ga gb fun d a b => sat32 (d.toInt + rnd (a.toInt * b.toInt) 31)

/-- MSU (R140): gd := sat(s(gd) - rnd(s(ga) x s(gb), 31), 32). -/
def execMsu (m : Mach) (gd ga gb : BitVec 5) (s : State) : Host.Outcome State Fault Refusal :=
  s.aluD m gd ga gb fun d a b => sat32 (d.toInt - rnd (a.toInt * b.toInt) 31)

/-- MACL (R140): the pair gd, gd+1 := sat(s64(pair) + s(ga) x s(gb), 64); an odd gd or g0 traps ILLEGAL. -/
def execMacl (m : Mach) (gd ga gb : BitVec 5) (s : State) : Host.Outcome State Fault Refusal :=
  s.issue m fun s =>
    if pairOk gd then
      let v := sat ((BitVec.ofNat 64 (s.pair64 m gd)).toInt + (s.rg m ga).toInt * (s.rg m gb).toInt) 64
      (s.setPair64 m gd (BitVec.ofInt 64 v)).retire m
    else s.illegal m 1 (encR 0x0A gd ga gb 0x007)

/-! ### Branches and jumps (R144) -/

/-- BEQ (R144): if gd = ga, then PC := PC + sext(imm17, 32) x 4. -/
def execBeq (m : Mach) (gd ga : BitVec 5) (i : BitVec 17) (s : State) : Host.Outcome State Fault Refusal :=
  s.branch m gd ga i fun a b => a == b

/-- BNE (R144): if gd is not ga, then PC := PC + sext(imm17, 32) x 4. -/
def execBne (m : Mach) (gd ga : BitVec 5) (i : BitVec 17) (s : State) : Host.Outcome State Fault Refusal :=
  s.branch m gd ga i fun a b => a != b

/-- BLT (R144): if s(gd) < s(ga), then PC := PC + sext(imm17, 32) x 4. -/
def execBlt (m : Mach) (gd ga : BitVec 5) (i : BitVec 17) (s : State) : Host.Outcome State Fault Refusal :=
  s.branch m gd ga i fun a b => a.slt b

/-- BGE (R144): if s(gd) >= s(ga), then PC := PC + sext(imm17, 32) x 4. -/
def execBge (m : Mach) (gd ga : BitVec 5) (i : BitVec 17) (s : State) : Host.Outcome State Fault Refusal :=
  s.branch m gd ga i fun a b => !a.slt b

/-- BLTU (R144): if u(gd) < u(ga), then PC := PC + sext(imm17, 32) x 4. -/
def execBltu (m : Mach) (gd ga : BitVec 5) (i : BitVec 17) (s : State) : Host.Outcome State Fault Refusal :=
  s.branch m gd ga i fun a b => a.ult b

/-- BGEU (R144): if u(gd) >= u(ga), then PC := PC + sext(imm17, 32) x 4. -/
def execBgeu (m : Mach) (gd ga : BitVec 5) (i : BitVec 17) (s : State) : Host.Outcome State Fault Refusal :=
  s.branch m gd ga i fun a b => !a.ult b

/-- JAL (R144): gd := PC + 4; PC := PC + sext(imm22, 32) x 4. -/
def execJal (m : Mach) (gd : BitVec 5) (i : BitVec 22) (s : State) : Host.Outcome State Fault Refusal :=
  s.issue m fun s =>
    let pc := (s.mach m).pc
    (s.wg m gd (pc + 4)).retireTo m (pc + jumpOff i)

/-- JALR (R144): a jump to ga + sext(imm17, 32) that links; a misaligned target traps FETCH at the JALR. -/
def execJalr (m : Mach) (gd ga : BitVec 5) (i : BitVec 17) (s : State) : Host.Outcome State Fault Refusal :=
  s.issue m fun s =>
    let t := s.effAddr m ga i
    if t &&& 3 = 0 then (s.wg m gd ((s.mach m).pc + 4)).retireTo m t
    else s.trap m 7 4 t

end Sys2Proof.Machine
end

