-- ==== Sys2Proof/Machine/Triad.lean ====
section
/-! DEFINITION. Triads: odd cores, retirement, resynchronisation and pair recovery (R178 to R188), the
platform (R179), restart (R132). -/

namespace Sys2Proof.Machine

/-- The cores of a triad that are live, by the bits of `TR_STAT.LIVE`. -/
def State.liveCores (s : State) (t : Triad) : List Nat :=
  (List.range 3).filter fun k => (s.getF (Fd.TR_STAT_LIVE t.idx)).testBit k

/-- The lowest-numbered live core: the donor, or the lead of a recovery (R183, R187). -/
def State.leadCore (s : State) (t : Triad) : Nat := (s.liveCores t).headD 0

/-- The triad is unsplit and its cores retire instructions, be it the one of a debug step (R181, R191). -/
def State.voting (s : State) (t : Triad) : Bool :=
  s.alive (t.mach 0) && !s.split t && !s.triadStopped t && (!s.isF (Fd.TR_STAT_HALTED t.idx) || (s.mach (t.mach 0)).step)
    && s.getF Fd.SLEEP_STAT_STATE < 2

/-- The record of an event of the vote gate (R184, R187, R197). -/
def State.recordEvent (s : State) (t : Triad) (core kind : Nat) (pair retired : Bool) : State :=
  let s := s.setR (Rg.TR_EVT t.idx)
    (BitVec.ofNat 32 (core + kind * 16 + b2n pair * 2 ^ 8 + b2n retired * 2 ^ 9 + 2 ^ 31))
  let s := s.setR (Rg.TR_EVT_PC t.idx) (s.mach (t.mach 0)).pc
  s.modTri t fun x => { x with evtStamp := s.tt.clk }

/-- The odd-event count of a core (R188). -/
def coreCnt (t : Triad) (core : Nat) : Fd :=
  match core with
  | 0 => Fd.TR_CORE_CNT_ODD0 t.idx
  | 1 => Fd.TR_CORE_CNT_ODD1 t.idx
  | _ => Fd.TR_CORE_CNT_ODD2 t.idx

/-- Whether an odd event of a core, this one included, reaches the retirement limit (R188). -/
def State.retires (s : State) (t : Triad) (core : Nat) : Bool :=
  let lim := s.getF (Fd.TR_CFG_RETIRE_LIM t.idx)
  let recent := (s.tri t).oddTimes.filter fun p => p.1 == core && s.now - p.2 ≤ 1000000000
  lim != 0 && lim ≤ recent.length + 1

/-- An odd event of a core (R184, R188): recorded and counted; the core is retired, or its
resynchronisation starts. -/
def State.oddEvent (s : State) (t : Triad) (core kind : Nat) : State :=
  let ret := s.retires t core
  let s := (s.recordEvent t core kind false ret).incF (coreCnt t core)
  let s := s.modTri t fun x => { x with
    oddTimes := (core, s.now) :: x.oddTimes.filter fun p => s.now - p.2 ≤ 1000000000
    evtTime := s.now }
  let live := s.getF (Fd.TR_STAT_LIVE t.idx)
  let s := s.setF (Fd.TR_STAT_LIVE t.idx) (if live.testBit core then live - 2 ^ core else live)
  if ret then
    let s := ((s.setBitF (Fd.TR_STAT_RETIRED t.idx) core).setF (Fd.TR_STAT_MODE t.idx) 2).offF (Fd.TR_STAT_ODD t.idx)
    s.modTri t fun x => { x with phase := .normal }
  else
    let s := (s.setF (Fd.TR_STAT_MODE t.idx) 1).setF (Fd.TR_STAT_ODD t.idx) core
    s.modTri t fun x => { x with phase := .copying core }

/-- An odd event of a core with its sources: `src`, and SB1 when it retires the core (R188). -/
def State.oddRaises (s : State) (t : Triad) (core kind src : Nat) : State :=
  let ret := s.retires t core
  let s := (s.oddEvent t core kind).raise src (.triad t)
  if ret then s.raise 1 (.triad t) else s

/-- A core becomes odd in TRIPLE mode (R181, R182). -/
def State.becomeOdd (s : State) (t : Triad) (core kind : Nat) : State := s.oddRaises t core kind 0

/-- Pair recovery begins (R187): the source is set, and its reaction waits for the release. DESIGN CHOICE (log 104): MODE, ODD
and LIVE of `TR_STAT` keep their values until the release; the spec gives MODE at the release only. -/
def State.startRecovery (s : State) (t : Triad) (kind src : Nat) : State :=
  let lead := s.leadCore t
  let s := s.recordEvent t lead kind true false
  let s := s.modTri t fun x => { x with phase := .recovery lead src, evtTime := s.now }
  s.setSticky src (.triad t)

/-- A debug halt takes hold (R190). -/
def State.debugHalt (s : State) (t : Triad) : State :=
  (s.onF (Fd.TR_STAT_HALTED t.idx)).modTri t fun x => { x with haltPend := false }

/-- A halt that was held until the release (R190). -/
def State.heldHalt (s : State) (t : Triad) : State := if (s.tri t).haltPend then s.debugHalt t else s

/-- The duration from the event to the release (R197). -/
def State.recordDuration (s : State) (t : Triad) : State :=
  s.setF (Fd.TR_LAST_RESYNC_DURATION t.idx) (s.now - (s.tri t).evtTime)

/-- The triad leaves reset (R132): its machines start at the restart entry point. -/
def State.triadRelease (s : State) (t : Triad) : State :=
  let pc := match s.image, t with
    | some i, .a => i.restartA
    | some i, .b => i.restartB
    | none, _ => 0
  let s := s.clrRstBit (.triad t)
  let s := { s with rst := { s.rst with lastRel := insertNat (Blk.triad t).gen s.now s.rst.lastRel } }
  State.each (fun m s => s.setMach m (s.freshMach s.vbase (pc &&& 0xFFFF_FFFC))) (s.machsOf t) s

end Sys2Proof.Machine
end

