-- ==== Sys2Proof/Machine/TapolSys.lean ====
section
/-! DEFINITION. Tapol system instructions (R145 to R148), CRCF (R172), and the entries that the input platform
delivers (R117 to R122). -/

namespace Sys2Proof.Machine

/-! ### Control registers (R96, R97, R129, R146) -/

/-- `OWNED`: the channels and tallies of the current task. -/
def State.owned (s : State) (m : Mach) : Nat :=
  let id := (s.rc' m cTaskid).toNat % 32
  match s.tasks.find? fun t => t.id == id && s.taskMach t == m with
  | some t => t.channels.toNat + t.tallies.toNat * 2 ^ 16
  | none => 0

/-- `CORE_ID`. -/
def State.coreId (s : State) (m : Mach) : Nat := m.triad.idx.val + 2 * m.core + 8 * b2n (s.split m.triad)

/-- What MFC of a control register returns. -/
def State.ctrlRead (s : State) (m : Mach) (k : Fin 32) : Word :=
  match k.val with
  | 8 => Word.ofNat (s.ipend m)
  | 9 => Word.ofNat (s.ipend m / 2 ^ 32)
  | 16 => Word.ofNat (s.owned m)
  | 20 => Word.ofNat (s.coreId m)
  | 21 => Word.ofNat (s.mach m).cycle
  | 23 => Word.ofNat (s.mach m).retire
  | 25 => Word.ofNat s.tt.clk
  | _ => s.rc' m k

/-- The upper half that a read of a LO register latches (R97). -/
def State.ctrlLatch (s : State) (m : Mach) (k : Fin 32) : State :=
  match k.val with
  | 21 => s.wc m 22 (Word.ofNat ((s.mach m).cycle / 2 ^ 32))
  | 23 => s.wc m 24 (Word.ofNat ((s.mach m).retire / 2 ^ 32))
  | 25 => s.wc m 26 (Word.ofNat (s.tt.clk / 2 ^ 32))
  | _ => s

/-- MFC (R145, R146). -/
def execMfc (m : Mach) (gd n : BitVec 5) (s : State) : Host.Outcome State Fault Refusal :=
  s.issue m fun s =>
    let w := encR 0x1C gd n 0 0
    if n = 31 then s.illegal m 2 w
    else if !s.atStation m && !ctrlTaskRead n.toNat then s.privTrap m w
    else (s.ctrlLatch m n.toFin).setRetire m gd (s.ctrlRead m n.toFin)

/-- The machine serves the task (R129). -/
def State.serves (s : State) (m : Mach) (id : Nat) : Bool := s.tasks.any fun t => t.id == id && s.taskMach t == m

/-- MTC (R129, R145, R146). -/
def execMtc (m : Mach) (n ga : BitVec 5) (s : State) : Host.Outcome State Fault Refusal :=
  s.issue m fun s =>
    let w := encR 0x1C n ga 0 0x100
    let v := s.rg m ga
    let id := v.toNat % 32
    if n = 31 then s.illegal m 2 w
    else if !s.atStation m then s.privTrap m w
    else if n = 15 ∧ id ≠ 31 ∧ s.serves m id = false then s.ownerTrap m 3 id
    else (s.wc m n.toFin (ctrlWrite n.toNat (s.rc' m n.toFin) v)).retire m

/-! ### Returns, fences, traps (R103, R145, R148) -/

/-- ERET (R122, R145). -/
def execEret (m : Mach) (s : State) : Host.Outcome State Fault Refusal := s.issueStation m (encR 0x1C 0 0 0 0x200) fun s => s.eret m

/-- NRET (R122, R145). -/
def execNret (m : Mach) (s : State) : Host.Outcome State Fault Refusal := s.issueStation m (encR 0x1C 0 0 0 0x300) fun s => s.nret m

/-- FENCE.ACQ (R103): every access of the model is performed when it is issued. -/
def execFenceAcq (m : Mach) (s : State) : Host.Outcome State Fault Refusal := s.issue m fun s => s.retire m

/-- FENCE.REL (R103). -/
def execFenceRel (m : Mach) (s : State) : Host.Outcome State Fault Refusal := s.issue m fun s => s.retire m

/-- FENCE.AR (R145). -/
def execFenceAr (m : Mach) (s : State) : Host.Outcome State Fault Refusal := s.issue m fun s => s.retire m

/-- SYSCALL (R114, R115, R145). -/
def execSyscall (m : Mach) (k : BitVec 8) (s : State) : Host.Outcome State Fault Refusal :=
  s.issue m fun s =>
    let pc := (s.mach m).pc
    s.trapAt m (pc + 4) 0x0A k.toNat pc

/-- A halt for the debugger takes hold, or waits for the release of a resynchronisation (R190). -/
def State.haltRequest (s : State) (t : Triad) : State :=
  match (s.tri t).phase with
  | .normal => s.debugHalt t
  | _ => s.modTri t fun x => { x with haltPend := true }

/-- BREAK (R148). -/
def execBreakTrap (m : Mach) (s : State) : Host.Outcome State Fault Refusal :=
  s.issue m fun s =>
    let pc := (s.mach m).pc
    if s.isF (Fd.TR_DBG_ATTACHED m.triad.idx) then (s.retire m).haltRequest m.triad
    else s.trapAt m (pc + 4) 0x0B 0 pc

/-- WAITI (R147). -/
def execWaiti (m : Mach) (s : State) : Host.Outcome State Fault Refusal :=
  s.issueStation m (encR 0x1C 0 0 0 0x700) fun s =>
    if s.delivers m then s.retire m else s.modMach m fun x => { x with wait := .waiti }

/-! ### Entries (R117 to R122) -/

/-- WAITI_RELEASE (R147): what ends WAITI has been delivered, and the entry follows where its conditions hold. -/
def execWaitiRelease (m : Mach) (s : State) : Host.Outcome State Fault Refusal :=
  if s.running m && (s.mach m).wait == .waiti && s.delivers m then
    if s.nmiDue m then ok (s.takeNmi m)
    else if (s.mach m).wake then ok (s.takeWake m)
    else if s.irqOpen m then ok (s.takeIrq m)
    else ok (s.waitiEnd m)
  else ok s

/-- MASKABLE_INTERRUPT_ENTRY (R117 to R120): at a retire slot without an NMI to take, the wake interrupt or the lowest
vector is taken. DESIGN CHOICE (log 98): the wake interrupt goes before a vector that is open at the same slot; R118 names
the two together and gives no order. -/
def execMaskableInterruptEntry (m : Mach) (s : State) : Host.Outcome State Fault Refusal :=
  if s.canEnter m && !s.nmiDue m then
    if (s.mach m).wake then ok (s.takeWake m)
    else if s.irqOpen m then ok (s.takeIrq m)
    else ok s
  else ok s

/-- NMI_ENTRY (R118, R119, R122). -/
def execNmiEntry (m : Mach) (s : State) : Host.Outcome State Fault Refusal :=
  if s.canEnter m then ok (s.takeNmi m) else ok s

/-! ### The fold (R172) -/

/-- CRCF (R172): the preamble of address and sequence enters the running value. -/
def execCrcf (m : Mach) (p : BitVec 2) (gd ga gb : BitVec 5) (s : State) : Host.Outcome State Fault Refusal :=
  s.issue m fun s =>
    if !pairOk ga then s.illegal m 1 (encR 0x1F gd ga gb (0x700 + p.toNat))
    else
      let q := Poly.ofCode p.toNat
      let v := (s.rg m gd).toNat % 2 ^ q.width
      s.setRetire m gd (Word.ofNat (crcBytes q v (foldBytes (s.stationAddr m ga) (s.rg m gb).toNat)))

end Sys2Proof.Machine
end

