-- ==== Sys2Proof/Machine/Debug.lean ====
section
/-! DEFINITION. The debug port (R547 to R549) with halting, the replay log and stepping (R190 to R192). -/

namespace Sys2Proof.Machine

/-! ### Results (R548) -/

def dOk : Nat := 0
def dBusy : Nat := 1
def dRefused : Nat := 2
def dFault : Nat := 3
def dLogFull : Nat := 4

/-- The result that the next shift returns. -/
def State.dbgResult (s : State) (status detail : Nat) (data : Word) : State :=
  { s with dbg := { s.dbg with status := status, detail := detail, data := data, stalled := none } }

/-! ### The test access port (R547) -/

/-- The data register that the instruction register selects: boundary scan, the identification code, the transport of
R548, or BYPASS. -/
inductive TapReg where
  | scan | idcode | debug | bypass
deriving DecidableEq, Repr

/-- The code that IDCODE shifts out. -/
def tapIdcode : Word := 0x0163_24D7

def State.tapReg (s : State) : TapReg :=
  match s.dbg.ir.toNat with
  | 0x00 => if s.pwr.nrstLow then .scan else .bypass
  | 0x01 => .scan
  | 0x02 => .idcode
  | 0x10 => if s.otp.dbgLock then .bypass else .debug
  | _ => .bypass

/-- A command of the transport, for which DEBUG is in the instruction register: none while the debug lock fuse makes it
BYPASS, while the previous command has not completed, or while the pads of the port read inactive (R38). -/
def State.dbgCmd (s : State) (f : State → State) : State :=
  if s.padsOff then s
  else
    let s := { s with dbg := { s.dbg with ir := 0x10 } }
    if s.tapReg ≠ .debug ∨ s.dbg.stalled.isSome = true then s else f s

/-! ### Memory and registers through the fabric (R549) -/

/-- A read of four bytes. -/
def State.dbgRead (s : State) (a : Nat) : State :=
  match s.fabRead .debug a 4 with
  | (some bs, s) => s.dbgResult dOk 0 (Word.ofNat (leNat bs))
  | (none, s) => (s.dbgResult dFault 0x601 0).raise 18

/-- A write of four bytes, as a store of a STATION core: one that covers part of a poisoned word faults (R112). -/
def State.dbgWrite (s : State) (a : Nat) (v : Word) : State :=
  match s.fabWrite .debug a (leBytes v.toNat 4) with
  | (.poison, s) => (s.dbgResult dFault 0x602 0).raise 18
  | (_, s) => s.dbgResult dOk 0 0

/-- Whether an access waits for a reset to end, or for a page that is being healed. -/
def State.dbgBlocked (s : State) (a : Nat) : Bool := s.phase != .running || s.targetReset a || (inSram a && s.healingAt a 4)

/-- An access that can be performed. -/
def State.dbgPerform (s : State) (write : Bool) (a : Nat) (v : Word) : State := if write then s.dbgWrite a v else s.dbgRead a

/-- READ and WRITE. -/
def State.dbgAccess (s : State) (write : Bool) (a : Nat) (v : Word) : State :=
  if a % 4 ≠ 0 then s.dbgResult dFault 0x300 0
  else if !mapped a 4 then s.dbgResult dFault 0x401 0
  else if write && inFlash a then s.dbgResult dFault 0x404 0
  else if s.dbgBlocked a then { s with dbg := { ir := s.dbg.ir, status := dBusy, stalled := some (write, a, v) } }
  else s.dbgPerform write a v

/-- An access that waits is tried again. -/
def State.dbgRetry (s : State) : State :=
  match s.dbg.stalled with
  | some (w, a, v) => if s.dbgBlocked a then s else s.dbgPerform w a v
  | none => s

/-! ### Halting (R190 to R194) -/

def State.attached (s : State) (t : Triad) : Bool := s.isF (Fd.TR_DBG_ATTACHED t.idx)
def State.dbgHalted (s : State) (t : Triad) : Bool := s.isF (Fd.TR_STAT_HALTED t.idx)

/-- The checker cores have applied the log, which is empty then (R191). -/
def State.drainLog (s : State) (t : Triad) : State := (s.modTri t fun x => { x with log := [] }).offF (Fd.TR_DBG_LOG_LEVEL t.idx)

/-- A halted triad goes on; a halt that is held is dropped. -/
def State.dbgResume (s : State) (t : Triad) : State :=
  let s := (s.drainLog t).offF (Fd.TR_STAT_HALTED t.idx)
  let s := State.each (fun m s => s.modMach m fun x => { x with step := false }) [t.mach 0, t.mach 1] s
  s.modTri t fun x => { x with haltPend := false }

def State.detach (s : State) (t : Triad) : State := (s.dbgResume t).offF (Fd.TR_DBG_ATTACHED t.idx)

/-- The request of a step is logged (R191); its entry names no register. -/
def State.logStep (s : State) (t : Triad) : State :=
  if s.split t then s else s.modTri t fun x => { x with log := x.log ++ [(0xFF, 0)] }

/-- A step (R191): it is logged, the checker cores apply the log, the next instruction of each machine of the triad
executes, and the triad halts again. -/
def State.dbgStep (s : State) (t : Triad) : State :=
  State.each (fun m s => s.modMach m fun x => { x with step := true }) (s.machsOf t) ((s.logStep t).drainLog t)

/-! ### Registers of a halted triad (R191, R192, R548) -/

/-- The machine that a register command names. -/
def State.dbgMach (s : State) (t : Triad) (x1 : Bool) : Mach := t.mach (if s.split t && x1 then 1 else 0)

/-- The value of a register by its code; none where there is no such register. -/
def State.dbgRegRead (s : State) (m : Mach) (code : Nat) : Option Word :=
  if h : code < 32 then some (s.rg m (BitVec.ofFin ⟨code, h⟩))
  else if code < 63 then some (s.ctrlRead m (Fin.ofNat 32 (code - 32)))
  else if code = 64 then some (s.mach m).pc
  else none

/-- A write of a register by its code. Control registers take it by the types of their fields. -/
def State.dbgRegWrite (s : State) (m : Mach) (code : Nat) (v : Word) : State :=
  if code < 32 then s.wg m (BitVec.ofNat 5 code) v
  else if code < 63 then
    let k := Fin.ofNat 32 (code - 32)
    let id := v.toNat % 32
    if k = 15 ∧ id ≠ 31 ∧ s.serves m id = false then s else s.wc m k (ctrlWrite k.val (s.rc' m k) v)
  else if code = 64 then s.setPc m (v &&& 0xFFFF_FFFC)
  else s

/-- A register write with its place in the replay log of an unsplit triad. -/
def State.dbgRegLog (s : State) (t : Triad) (x1 : Bool) (code : Nat) (v : Word) : State :=
  let m := s.dbgMach t x1
  if s.split t then (s.dbgRegWrite m code v).dbgResult dOk 0 0
  else if 256 ≤ (s.tri t).log.length then (s.onF (Fd.TR_DBG_LOG_FULL t.idx)).dbgResult dLogFull 0 0
  else
    let s := (s.dbgRegWrite m code v).modTri t fun x => { x with log := x.log ++ [(code, v)] }
    (s.setF (Fd.TR_DBG_LOG_LEVEL t.idx) (s.tri t).log.length).dbgResult dOk 0 0

/-! ### The commands -/

/-- TAP_RESET (R547, R548): IDCODE is selected, and both triads are detached. -/
def execTapReset (s : State) : Host.Outcome State Fault Refusal :=
  if s.phase = .unpowered then ok s
  else ok { (s.detach .a).detach .b with dbg := { s.dbg with ir := 2 } }

/-- DEBUG_NOP (R548): the previous result is returned. -/
def execDebugNop (s : State) : Host.Outcome State Fault Refusal := ok (s.dbgCmd id)

/-- DEBUG_READ (R549). -/
def execDebugRead (a : Word) (s : State) : Host.Outcome State Fault Refusal := ok (s.dbgCmd fun s => s.dbgAccess false a.toNat 0)

/-- DEBUG_WRITE (R549). -/
def execDebugWrite (a v : Word) (s : State) : Host.Outcome State Fault Refusal := ok (s.dbgCmd fun s => s.dbgAccess true a.toNat v)

/-- DEBUG_ATTACH (R548). -/
def execDebugAttach (t : Triad) (s : State) : Host.Outcome State Fault Refusal :=
  ok (s.dbgCmd fun s => (s.onF (Fd.TR_DBG_ATTACHED t.idx)).dbgResult dOk 0 0)

/-- DEBUG_DETACH (R548). -/
def execDebugDetach (t : Triad) (s : State) : Host.Outcome State Fault Refusal :=
  ok (s.dbgCmd fun s => (s.detach t).dbgResult dOk 0 0)

/-- DEBUG_HALT (R190, R548). -/
def execDebugHalt (t : Triad) (s : State) : Host.Outcome State Fault Refusal :=
  ok (s.dbgCmd fun s => if s.attached t then (s.haltRequest t).dbgResult dOk 0 0 else s.dbgResult dRefused 0 0)

/-- DEBUG_RESUME (R191). -/
def execDebugResume (t : Triad) (s : State) : Host.Outcome State Fault Refusal :=
  ok (s.dbgCmd fun s => (s.dbgResume t).dbgResult dOk 0 0)

/-- DEBUG_STEP (R191). -/
def execDebugStep (t : Triad) (s : State) : Host.Outcome State Fault Refusal :=
  ok (s.dbgCmd fun s => if s.attached t && s.dbgHalted t then (s.dbgStep t).dbgResult dOk 0 0 else s.dbgResult dRefused 0 0)

/-- DEBUG_REG_READ (R548). -/
def execDebugRegRead (t : Triad) (x1 : Bool) (code : BitVec 8) (s : State) : Host.Outcome State Fault Refusal :=
  ok (s.dbgCmd fun s =>
    if s.attached t && s.dbgHalted t then
      match s.dbgRegRead (s.dbgMach t x1) code.toNat with
      | some v => s.dbgResult dOk 0 v
      | none => s.dbgResult dRefused 0 0
    else s.dbgResult dRefused 0 0)

/-- DEBUG_REG_WRITE (R191, R192, R548). -/
def execDebugRegWrite (t : Triad) (x1 : Bool) (code : BitVec 8) (v : Word) (s : State) : Host.Outcome State Fault Refusal :=
  ok (s.dbgCmd fun s =>
    if s.attached t && s.dbgHalted t && (code.toNat ≤ 64 && code.toNat != 63) then s.dbgRegLog t x1 code.toNat v
    else s.dbgResult dRefused 0 0)

/-- DEBUG_CHIP_RESET (R548): a chip reset with `RST_CAUSE.DEBUG`, by its magic value. -/
def execDebugChipReset (v : Word) (s : State) : Host.Outcome State Fault Refusal :=
  ok (s.dbgCmd fun s =>
    if v ≠ 0x5E7C_0A11 then s.dbgResult dRefused 0 0
    else
      let s := s.dbgResult dOk 0 0
      if s.phase ≠ .running ∨ s.pwr.failing = true then s else (s.onF Fd.RST_CAUSE_DEBUG).chipReset)

end Sys2Proof.Machine
end

