-- ==== Sys2Proof/Machine/Clock.lean ====
section
/-! DEFINITION. The passage of time: what counts at each nanosecond (R84, R97, R198, R202, R501, R506, R584). -/

namespace Sys2Proof.Machine

/-- Cycles of the always-on clock that have begun by a time, at its nominal 32.768 kHz (R60). -/
def aonTicks (t : Nat) : Nat := t * 32768 / 1000000000

/-- ns of slewing done in `n` ns, 1 µs per ms (R202), and what remains of it. -/
def slewDone (s : State) (n : Nat) : Int :=
  let k := (s.tt.slewPhase + n) / 1000
  if s.tt.slew < 0 then -(min k s.tt.slew.natAbs : Nat) else (min k s.tt.slew.natAbs : Nat)

/-- Node time moves on by `n` ns, slewing towards the master (R202, R203, R584). -/
def State.advanceTime (s : State) (n : Nat) : State :=
  let d := slewDone s n
  let s := { s with tt := { s.tt with
    clk := (s.tt.clk + n + d).toNat, slew := s.tt.slew - d
    slewPhase := if s.tt.slew = 0 then 0 else (s.tt.slewPhase + n) % 1000 } }
  if s.tt.slew.natAbs ≤ 40 ∧ s.isF Fd.TT_STAT_SLEWING = true then s.offF Fd.TT_STAT_SLEWING else s

/-- The cores of a triad are clocked: `CYCLE` counts CCLK cycles since the triad's reset (R97). DESIGN CHOICE (log 99):
it does not count while the cores are clock-gated in STABLED and WAKING; the spec does not say whether it does. -/
def State.clocked (s : State) (m : Mach) : Bool :=
  s.phase == .running && !s.inReset (.triad m.triad) && s.machExists m && s.getF Fd.SLEEP_STAT_STATE < 2

/-- `n` ns pass; the whistles that fall due leave. -/
def State.advance (s : State) (n : Nat) : State :=
  if s.phase = .unpowered then { s with now := s.now + n }
  else
    let s := s.setF Fd.AON_CNT_COUNT (s.getF Fd.AON_CNT_COUNT + (aonTicks (s.now + n) - aonTicks s.now))
    let s := State.each (fun m s => s.modMach m fun x => { x with cycle := x.cycle + 3 * n }) (Mach.all.filter s.clocked) s
    let s := if s.tlCounting then { s with tl := { s.tl with phase := s.tl.phase + n } } else s
    let s := if s.isF Fd.TL_STAT_SUSPENDED then { s with tl := { s.tl with suspended := s.tl.suspended + n } } else s
    let s := if s.phase = .running then s.advanceTime n else s
    { s with now := s.now + n }.whistleFlush

/-- Node time is at least `t`: the time until then passes. -/
def State.advanceTo (s : State) (t : Nat) : State := if s.tt.clk < t then s.advance (t - s.tt.clk) else s

end Sys2Proof.Machine
end

