-- ==== Sys2Proof/Machine/LaneCmd.lean ====
section
/-! DEFINITION. The commands of the reflex lanes (R331 to R344). A lane instruction takes its operands from
the program word at the lane's PC; where that word is another instruction, or the lane takes no step, the
row does not occur. -/

namespace Sys2Proof.Machine

/-- One step of a lane by the instruction of an operation code. -/
def State.laneStep (s : State) (n : Fin 16) (op : Nat) (f : Word → State → State) : Host.Outcome State Fault Refusal :=
  match s.laneWord n with
  | some w => if laneOp w = op ∧ laneLegal w = true then ok (f w s) else ok s
  | none => ok s

/-- A step that writes vd and goes on. -/
def State.laneSet (s : State) (n : Fin 16) (op : Nat) (f : Word → State → Word) : Host.Outcome State Fault Refusal :=
  s.laneStep n op fun w s => (s.wv n (laneVd w) (f w s)).laneNext n

/-- LANE_RUN (R331). -/
def execLaneRun (n : Fin 16) (s : State) : Host.Outcome State Fault Refusal :=
  if s.rfxLive n then ok (s.rfxCtrl n 1) else ok s

/-- LANE_STOP (R331). -/
def execLaneStop (n : Fin 16) (s : State) : Host.Outcome State Fault Refusal :=
  if s.rfxLive n then ok (s.rfxCtrl n 2) else ok s

def execLaneNop (n : Fin 16) (s : State) : Host.Outcome State Fault Refusal := s.laneStep n 0x00 fun _ s => s.laneNext n

def execLaneLdi (n : Fin 16) (s : State) : Host.Outcome State Fault Refusal :=
  s.laneSet n 0x01 fun w _ => (w.extractLsb' 0 21).signExtend 32

def execLaneLdh (n : Fin 16) (s : State) : Host.Outcome State Fault Refusal :=
  s.laneSet n 0x02 fun w s => (s.rv n (laneVd w) &&& 0xFFFF) ||| (w <<< 16)

def execLaneAddi (n : Fin 16) (s : State) : Host.Outcome State Fault Refusal :=
  s.laneSet n 0x03 fun w s => s.rv n (laneVa w) + (w.extractLsb' 0 18).signExtend 32

def execLaneAdd (n : Fin 16) (s : State) : Host.Outcome State Fault Refusal :=
  s.laneSet n 0x04 fun w s => s.rv n (laneVa w) + s.rv n (laneVb w)

def execLaneSub (n : Fin 16) (s : State) : Host.Outcome State Fault Refusal :=
  s.laneSet n 0x05 fun w s => s.rv n (laneVa w) - s.rv n (laneVb w)

def execLaneBr (n : Fin 16) (s : State) : Host.Outcome State Fault Refusal :=
  s.laneStep n 0x06 fun w s =>
    if laneCond (laneVd w) (s.rv n (laneVa w)) (s.rv n (laneVb w)) then s.setF (Fd.RFX_STAT_PC n.val) (fieldOf w 0 6)
    else s.laneNext n

/-- LANE_WAIT: completes at once where a masked selector is pending. -/
def execLaneWait (n : Fin 16) (s : State) : Host.Outcome State Fault Refusal :=
  s.laneStep n 0x07 fun w s =>
    match s.firstPend n (fieldOf w 0 8) with
    | some i => s.waitDone n (laneVd w) i
    | none => s.setLane n { wait := .event (laneVd w) (fieldOf w 0 8) }

/-- LANE_WAIT_RELEASE. -/
def execLaneWaitRelease (n : Fin 16) (s : State) : Host.Outcome State Fault Refusal :=
  if s.rfxLive n && s.laneRuns n then
    match (s.lane n).wait with
    | .event vd mask =>
      match s.firstPend n mask with
      | some i => ok (s.waitDone n vd i)
      | none => ok s
    | _ => ok s
  else ok s

/-- ACT of one kind. -/
def State.laneActKind (s : State) (n : Fin 16) (kind : Nat) : Host.Outcome State Fault Refusal :=
  match s.laneWord n with
  | some w => if laneOp w = 0x08 ∧ laneVd w = kind ∧ laneLegal w = true then ok ((s.laneAct n w).laneNext n) else ok s
  | none => ok s

def execLaneActOff (n : Fin 16) (s : State) : Host.Outcome State Fault Refusal := s.laneActKind n 0
def execLaneActOn (n : Fin 16) (s : State) : Host.Outcome State Fault Refusal := s.laneActKind n 1
def execLaneActSet (n : Fin 16) (s : State) : Host.Outcome State Fault Refusal := s.laneActKind n 2
def execLaneActRefuge (n : Fin 16) (s : State) : Host.Outcome State Fault Refusal := s.laneActKind n 3
def execLaneActConv (n : Fin 16) (s : State) : Host.Outcome State Fault Refusal := s.laneActKind n 4

def execLaneWhistle (n : Fin 16) (s : State) : Host.Outcome State Fault Refusal :=
  s.laneStep n 0x09 fun w s => (s.laneWhistle n w).laneNext n

def execLaneTime (n : Fin 16) (s : State) : Host.Outcome State Fault Refusal :=
  s.laneSet n 0x0A fun _ s => lo32 s.tt.clk

/-- LANE_DELAY: the lane waits its count of cycles of 4 ns (R60, R334). -/
def execLaneDelay (n : Fin 16) (s : State) : Host.Outcome State Fault Refusal :=
  s.laneStep n 0x0B fun w s => s.setLane n { wait := .delay (s.now + 4 * fieldOf w 0 21) }

/-- LANE_DELAY_EXPIRY: the count is over; the time until then has passed. -/
def execLaneDelayExpiry (n : Fin 16) (s : State) : Host.Outcome State Fault Refusal :=
  if s.rfxLive n && s.laneRuns n then
    match (s.lane n).wait with
    | .delay t =>
      let s := if s.now < t then s.advance (t - s.now) else s
      ok ((s.setLane n {}).laneNext n)
    | _ => ok s
  else ok s

/-- LANE_READ (R334). -/
def execLaneRead (n : Fin 16) (s : State) : Host.Outcome State Fault Refusal :=
  s.laneSet n 0x0C fun w s =>
    let h := s.ch (Fin.ofNat 16 (fieldOf w 0 4))
    match fieldOf w 4 3 with
    | 0 => h.value
    | 1 => Word.ofNat (b2n (s.fastOn (Fin.ofNat 16 (fieldOf w 0 4)) && h.fastPast))
    | 2 => Word.ofNat (b2n h.level)
    | _ => h.count

def execLaneNote (n : Fin 16) (s : State) : Host.Outcome State Fault Refusal :=
  s.laneStep n 0x0D fun w s =>
    ((s.setF (Fd.RFX_NOTE_CODE n.val) (fieldOf w 0 8)).onF (Fd.RFX_NOTE_PEND n.val)).laneNext n

def execLaneClr (n : Fin 16) (s : State) : Host.Outcome State Fault Refusal :=
  s.laneStep n 0x0E fun w s =>
    (s.setR (Rg.RFX_PEND n.val) (s.getR (Rg.RFX_PEND n.val) &&& ~~~(w &&& 0xFF))).laneNext n

def execLaneHalt (n : Fin 16) (s : State) : Host.Outcome State Fault Refusal :=
  s.laneStep n 0x0F fun _ s => s.offF (Fd.RFX_STAT_STATE n.val)

/-- REFLEX_ACTION_ARRIVAL (R335, R337). -/
def execReflexActionArrival (s : State) : Host.Outcome State Fault Refusal :=
  if s.phase = .running then ok s.flightArrive else ok s

/-- LANE_COMPARE_FAULT (R344): the copies differ at a step. -/
def execLaneCompareFault (n : Fin 16) (s : State) : Host.Outcome State Fault Refusal :=
  if s.rfxLive n && s.laneRuns n then
    let s := ((s.setF (Fd.RFX_STAT_STATE n.val) 2).setF (Fd.RFX_STAT_FAULT n.val) 1).setLane n {}
    ok (s.raise 10)
  else ok s

/-- WHISTLE_RECEIVE (R341). -/
def execWhistleReceive (p : Port) (m : WhistleMsg) (s : State) : Host.Outcome State Fault Refusal :=
  if s.ovLive && s.linked p then ok (s.whistleIn p m) else ok s

end Sys2Proof.Machine
end

