-- ==== Sys2Proof/Machine/PatrolCmd.lean ====
section
/-! DEFINITION. The commands of the track walker (R460 to R464). -/

namespace Sys2Proof.Machine

/-- WALKER_VISIT (R461): the walker visits the word at `PT_STAT.POS`; `u` is an error that a stored word
has taken beforehand. -/
def execWalkerVisit (u : Upset) (s : State) : Host.Outcome State Fault Refusal :=
  let s := s.upset u
  if s.patrolRuns then
    let w := s.getF Fd.PT_STAT_POS
    ok ((s.setF Fd.PT_STAT_POS (w + 1)).walk w)
  else ok s

/-- PATROL_PERIOD_END (R464): one sweep is complete; while the walker is off or slow SB29 is set; a
change of `PT_CFG` is in force from now and restarts the sweep. -/
def execPatrolPeriodEnd (s : State) : Host.Outcome State Fault Refusal :=
  if s.phase = .running ∧ s.inReset .patrol = false then
    let slow := !s.isF Fd.PT_CFG_EN || s.getF Fd.PT_CFG_PERIOD == 3
    let s := if s.isF Fd.PT_STAT_ACTIVE then s.setF Fd.PT_SWEEPS_COUNT (s.getF Fd.PT_SWEEPS_COUNT + 1) else s
    let en := s.getF Fd.PT_CFG_EN
    let period := s.getF Fd.PT_CFG_PERIOD
    let changed := en != s.getF Fd.PT_STAT_ACTIVE || period != s.pt.period
    let s := (s.setF Fd.PT_STAT_ACTIVE en)
    let s := { s with pt := { s.pt with period := period } }
    let s := if changed then s.offF Fd.PT_STAT_POS else s
    ok (if slow then s.raise 29 else s)
  else ok s

/-- PT_LOG_READ (R463): the read removes the oldest entry. -/
def execPtLogRead (s : State) : Host.Outcome State Fault Refusal :=
  if s.phase = .running ∧ s.inReset .patrol = false then ok s.ptLogRead.2 else ok s

end Sys2Proof.Machine
end

