-- ==== Sys2Proof/Machine/PoolCmd.lean ====
section
/-! DEFINITION. The commands of the pool (R441 to R444). A shunter's access to `POOL` is refused before it reaches
the block (R430, R440). -/

namespace Sys2Proof.Machine

/-- Whether the pool serves a requester now. -/
def State.plServes (s : State) (by_ : Agent) : Bool :=
  s.plLive && match by_ with
    | .shunter _ => false
    | _ => true

/-- PL_ALLOC_READ (R441). -/
def execPlAllocRead (by_ : Agent) (s : State) : Host.Outcome State Fault Refusal :=
  if s.plServes by_ then ok (s.plAlloc by_).2 else ok s

/-- PL_FREE_WRITE (R442). -/
def execPlFreeWrite (by_ : Agent) (v : Word) (s : State) : Host.Outcome State Fault Refusal :=
  if s.plServes by_ then ok (s.plFree by_ v.toNat).2 else ok s

/-- PL_GIVE_WRITE (R442). -/
def execPlGiveWrite (by_ : Agent) (v : Word) (s : State) : Host.Outcome State Fault Refusal :=
  if s.plServes by_ then ok (s.plGive by_ (fieldOf v 0 12) (fieldOf v 16 12)).2 else ok s

/-- PL_RECLAIM_WRITE (R442). -/
def execPlReclaimWrite (by_ : Agent) (v : Word) (s : State) : Host.Outcome State Fault Refusal :=
  if s.plServes by_ then ok (s.plReclaim by_ (fieldOf v 0 12)).2 else ok s

/-- WAGON_MARK_COMPLETE (R442). -/
def execWagonMarkComplete (s : State) : Host.Outcome State Fault Refusal := if s.plLive then ok s.plMarked else ok s

/-- PL_BASE_WRITE (R443): a write of `PL_CFG`. -/
def execPlBaseWrite (v : Word) (s : State) : Host.Outcome State Fault Refusal := if s.plLive then ok (s.plCfgWrite v) else ok s

/-- POOL_SWEEP_COMPLETE (R444). -/
def execPoolSweepComplete (s : State) : Host.Outcome State Fault Refusal :=
  if s.plLive && s.isF Fd.PL_STAT_SWEEP then ok s.plSwept else ok s

end Sys2Proof.Machine
end

