-- ==== Sys2Proof/Machine/Access.lean ====
section
/-! DEFINITION. Accesses of the cores (R98 to R106, R110 to R112, R401): the checks in the order of R116, the access
itself, the stall of one whose target is in reset (R82), and its end. -/

namespace Sys2Proof.Machine

/-- What is left of an instruction once an event within it may have reset the machine. -/
def State.still (s : State) (m : Mach) (f : State → State) : State := if s.alive m then f s else s

/-- Whether a read of an unwritten word traps at the machine's level (R110). -/
def State.uninitTraps (s : State) (m : Mach) : Bool := (s.rc' m cTrapcfg).getLsbD (if s.atStation m then 1 else 0)

def cTwinLo : Fin 32 := 17
def cTwinHi : Fin 32 := 18
def cStwin : Fin 32 := 19

/-- Whether the bytes `a` to `a + n - 1` lie inside the TASK store window (R99). -/
def State.inTwin (s : State) (m : Mach) (a n : Nat) : Bool :=
  (s.rc' m cTwinLo).toNat ≤ a && a + n ≤ (s.rc' m cTwinHi).toNat

/-- The DETAIL of the ACCESS trap of a load or a store (R99, R114). DESIGN CHOICE (log 101): of an access that breaks two
items of R99 the DETAIL is 0x01 before 0x04 before 0x02 before 0x03, so that a TASK access to a device block that is not
assigned gives 0x01, and a TASK store to the device region 0x02 wherever the store window lies; the spec gives no order. -/
def State.accessDetail (s : State) (m : Mach) (write : Bool) (a n : Nat) : Option Nat :=
  if !(inSram a || inFlash a || inWindow a || (inDevice a && (slotOf a).isSome)) then some 1
  else if write && inFlash a then some 4
  else if inDevice a && !s.atStation m then some 2
  else if write && inSram a && !s.atStation m && !s.inTwin m a n then some 3
  else none

/-- The machine waits for a block in reset, or for a page that is being healed (R82, R462). -/
def State.stallOn (s : State) (m : Mach) (a : CoreAccess) : State := s.modMach m fun x => { x with wait := .stall a }

/-- A load that has its value. -/
def State.loaded (s : State) (m : Mach) (a : CoreAccess) (v : Nat) : State :=
  s.still m fun s => s.setRetire m a.rd (loadValue a.width a.signed v)

/-- A load from SRAM or flash. -/
def State.memLoad (s : State) (m : Mach) (a : CoreAccess) : State :=
  let w := Word.ofNat a.addr
  if inSram a.addr then
    let un := s.anyMark isUnwritten a.addr a.width
    match s.sramLoad a.addr a.width with
    | (.poison, s) => s.poisonTrap m 1 w
    | (.data v, s) => if un && s.uninitTraps m then s.uninitTrap m w else s.loaded m a v
  else
    match s.flashLoad a.addr a.width with
    | (some v, s) => s.loaded m a v
    | (none, s) => s.poisonTrap m 1 w

/-- A store to SRAM. -/
def State.memStore (s : State) (m : Mach) (a : CoreAccess) : State :=
  match s.sramWrite a.addr (leBytes a.data.toNat a.width) with
  | (true, s) => s.still m fun s => s.retire m
  | (false, s) => s.poisonTrap m 2 (Word.ofNat a.addr)

/-- A load or a store of the device region. -/
def State.devAccess (s : State) (m : Mach) (a : CoreAccess) : State :=
  if a.write then
    ((s.devWrite (.core m) a.addr (laneValue a.addr a.data) (laneMask a.addr a.width)).2).still m fun s => s.retire m
  else
    let (w, s) := s.devRead (.core m) a.addr a.width
    s.loaded m a (laneRead a.addr a.width w)

/-- A load or a store in the station window (R401). -/
def State.windowAccess (s : State) (m : Mach) (a : CoreAccess) : State :=
  if s.inReset .sess then s.stallOn m a
  else
    let addr := (s.rc' m cStwin).toNat % 2 ^ 21 * 2 ^ 31 + a.addr % 2 ^ 31
    let w := s.getR (winReg m)
    let a := { a with addr := addr }
    if w.getLsbD 10 then s.stationAccess m a (fieldOf w 0 10)
    else (s.clientEnd rNoSession).still m fun s => s.accessEnd m a rNoSession 0 0 []
where
  /-- `SS_WIN` of a machine. -/
  winReg : Mach → Rg
    | .a0 => Rg.SS_WIN_A0
    | .a1 => Rg.SS_WIN_A1
    | .b0 => Rg.SS_WIN_B0
    | .b1 => Rg.SS_WIN_B1

/-- A load or a store that has passed its checks. -/
def State.coreAccess (s : State) (m : Mach) (a : CoreAccess) : State :=
  if inWindow a.addr then s.windowAccess m a
  else if inDevice a.addr then (if s.targetReset a.addr then s.stallOn m a else s.devAccess m a)
  else if s.healingAt a.addr a.width then s.stallOn m a
  else if a.write then s.memStore m a
  else s.memLoad m a

/-- A load or a store of `width` bytes: ALIGN, then ACCESS, then the access (R116). -/
def State.loadStore (s : State) (m : Mach) (a : CoreAccess) : State :=
  if a.addr % a.width ≠ 0 then s.alignTrap m (Word.ofNat a.addr)
  else match s.accessDetail m a.write a.addr a.width with
    | some d => s.accessTrap m d (Word.ofNat a.addr)
    | none => s.coreAccess m a

end Sys2Proof.Machine
end

