-- ==== Sys2Proof/Machine/Intents.lean ====
section
/-! DEFINITION. Proposals (R164 to R170, R229 to R235) and what the commit deadline makes of them (R232, R236,
R237). -/

namespace Sys2Proof.Machine

/-- A proposal made now is in time for the next departure (R170): there is an epoch, and its deadline has not
come. -/
def State.hasEpoch (s : State) : Bool := s.locked && s.tt.started
def State.late (s : State) : Bool := !s.hasEpoch || s.mani.resolved || s.deadline ≤ s.tt.clk

/-! ### PROPOSE, RETRACT, COMMIT (R164 to R167) -/

/-- The producers that a proposal of a machine depends on now, and its depth (R165, R230). -/
def State.peekedBy (s : State) (m : Mach) : List Dep := vget s.mani.peeked m.idx

def depthOf (l : List Dep) : Nat := if l.isEmpty then 0 else 1 + l.foldl (fun d p => max d p.depth) 0

/-- PROPOSE (R164): the value it returns. Where several refusals apply, the rule does not order them: DESIGN CHOICE (log
102). One that ends in DOUBT returns ACCEPTED with DEPENDENT (R229). -/
def State.propose (s : State) (m : Mach) (c : Fin 16) (v : Word) : Word × State :=
  let p := s.prop c
  if s.refuge then (6, s)
  else if !s.hasEpoch then (4, s)
  else if s.late then (3, s)
  else if !s.willDrive c then (4, s)
  else if p.state = .conditional ∨ p.state = .final then (2, s)
  else if !valueOk (s.cfgAt c false).mode v then (5, s)
  else
    let s := if p.live then (s.setProp c {}).tellRetract c p.cons else s
    let l := s.peekedBy m
    let d := depthOf l
    if 9 ≤ d then
      let s := s.setProp c { state := .doubt, value := v, depth := d, by_ := m }
      (16, (s.revt c 3 d s.nodeId c.val).raise 59)
    else
      (BitVec.ofNat 32 (b2n p.live + 16 * b2n (!l.isEmpty)),
        s.setProp c { state := .proposed, value := v, depth := d, deps := l, by_ := m })

/-- RETRACT (R166). The order of its codes, and LATE without an epoch: DESIGN CHOICE (log 102). -/
def State.retract (s : State) (c : Fin 16) : Word × State :=
  let p := s.prop c
  if s.late then (3, s)
  else if p.state = .conditional ∨ p.state = .final then (2, s)
  else if !p.live then (1, s)
  else (BitVec.ofNat 32 (16 * b2n (!p.cons.isEmpty)), (s.setProp c {}).tellRetract c p.cons)

/-- COMMIT of one channel (R167). -/
def State.commitOne (m : Mach) (c : Fin 16) (s : State) : State :=
  let p := s.prop c
  match p.state with
  | .none => (s.setProp c { p with state := .final, value := (s.ch c).target, keep := true, by_ := m }).finalize c
  | .proposed => if p.deps.isEmpty then s.finalize c else s.setProp c { p with state := .conditional }
  | _ => s

def Proposal.committed (p : Proposal) : Bool := p.state == .conditional || p.state == .final

/-- The triad has executed a COMMIT (R236). -/
def State.markStarted (s : State) (t : Triad) : State :=
  match t with
  | .a => s.onF Fd.MANI_MISS_STARTED_A
  | .b => s.onF Fd.MANI_MISS_STARTED_B

def State.startedBit (s : State) (t : Triad) : Bool :=
  match t with
  | .a => s.isF Fd.MANI_MISS_STARTED_A
  | .b => s.isF Fd.MANI_MISS_STARTED_B

/-- The channels of this epoch's commits, as a mask. -/
def State.committedMask (s : State) : Nat :=
  all16.foldl (fun n c => n + if (s.prop c).committed then 2 ^ c.val else 0) 0

/-- COMMIT (R167): in refuge nothing is committed (R513); the code that it returns there: DESIGN CHOICE (log 103). -/
def State.commit (s : State) (m : Mach) (mask : Nat) : Word × State :=
  let s := s.markStarted m.triad
  let done := fun (s : State) (code : Nat) => BitVec.ofNat 32 (code + s.committedMask * 65536)
  if !s.refuge && s.late then (done s 2, s)
  else
    let s := if s.refuge then s else State.each (State.commitOne m) (maskChans mask) s
    (done s (b2n ((maskChans mask).any fun c => !(s.prop c).committed)), s)

/-! ### PEEK (R168, R169) -/

/-- The state code of a proposal as PEEK reports it (R229). -/
def Proposal.peekCode (p : Proposal) : Nat :=
  match p.state with
  | .none => 0
  | .proposed => 1
  | .conditional => 1
  | .final => 2
  | .retracted => 3
  | .doubt => 4

/-- The state code at or after the deadline (R238): what is not FINAL by then is dropped. -/
def State.peekCodeNow (s : State) (p : Proposal) : Nat := if s.late && p.peekCode == 1 then 3 else p.peekCode

/-- The producer's answer to a PEEK from a node: state, value, depth, and whether a dependency is recorded. The
peeking machine is named where it is one of this node. -/
def State.peekAt (s : State) (c : Fin 16) (node : Nat) (by_ : Option Mach) : (Nat × Word × Nat × Bool) × State :=
  let p := s.prop c
  if !s.bitF Fd.MANI_PEEKABLE_CH c.val || !s.maniLive then ((0, 0, 0, false), s)
  else
    let k := s.peekCodeNow p
    let dep := k == 1 && by_ != some p.by_
    let s := if dep then s.setProp c { p with cons := node :: p.cons.filter (· != node) } else s
    let v := if k = 1 ∨ k = 2 ∨ k = 4 then (if p.keep then (s.ch c).target else p.value) else 0
    ((k, v, p.depth, dep), s)

/-- A producer peeked as PROPOSED. -/
def State.notePeek (s : State) (m : Mach) (d : Dep) : State :=
  let l := (s.peekedBy m).filter fun p => !(p.node == d.node && p.chan == d.chan)
  { s with mani := { s.mani with peeked := vset s.mani.peeked m.idx (d :: l) } }

/-- The status word of a PEEK. -/
def peekStatus (code : Nat) (dep : Bool) (epoch : Nat) : Word := BitVec.ofNat 32 (code + 16 * b2n dep + epoch % 65536 * 65536)

/-- A notice with origin sequence `q` of a producer, taken or not yet (R169). -/
def State.noticedAfter (s : State) (node chan q : Nat) : Bool :=
  s.mani.notices.any fun p => p.1 == node && p.2.1 == chan && oseqAfter p.2.2 q

/-- A request for a PEEK arrives from another node (R169). -/
def State.peekReqIn (s : State) (src : Nat) (m : PeekReqMsg) : State :=
  let ((k, v, d, dep), s) := s.peekAt (Fin.ofNat 16 m.chan) src none
  s.originate (nodeBase src) 0 (.peekRep { chan := m.chan, req := m.req, state := k, value := v, depth := d, dep := dep, epoch := s.tt.nextE % 65536 })

/-! ### Notices (R231) -/

/-- A notice from a producer's node: for the present departure only, and a final notice before the deadline. It
touches only what was peeked before it in the producer's order (R169). -/
def State.noticeIn (s : State) (src oseq : Nat) (m : NoticeMsg) : State :=
  if !s.hasEpoch || m.epoch != s.tt.nextE then s
  else
    let s := { s with mani := { s.mani with notices := (src, m.chan, oseq) :: s.mani.notices } }
    if m.final then (if s.late then s else State.finalDeps cascadeFuel src m.chan (some oseq) s)
    else State.retractDeps cascadeFuel src m.chan (some oseq) m.origNode m.origChan s

/-! ### The commit deadline (R232, R236) -/

/-- One channel at the deadline. -/
def State.resolveCh (s : State) (c : Fin 16) : State :=
  let p := s.prop c
  match p.state with
  | .final =>
    if p.keep then s else { s with mani := { s.mani with apply := vset s.mani.apply c (some p.value) } }
  | .conditional => (s.setProp c { p with state := .retracted, deps := [], cons := [] }).revt c 2 p.depth s.nodeId c.val
  | .proposed => s.setProp c { p with state := .retracted, deps := [], cons := [] }
  | _ => s

/-- A channel misses the departure to come (R236). -/
def State.misses (s : State) (c : Fin 16) : Bool :=
  s.activeOut c && (s.prop c).state != .final && !s.asleep &&
    (match s.chTriad c with
     | some t => s.startedBit t
     | none => false)

/-- The channels in DOUBT, as a mask. -/
def State.doubtMask (s : State) : BitVec 16 :=
  BitVec.ofNat 16 (all16.foldl (fun n c => n + if (s.prop c).state == .doubt then 2 ^ c.val else 0) 0)

/-- The commits for the next departure are resolved (R232); missed outputs set SB57. -/
def State.commitDeadline (s : State) : State :=
  if !s.locked || s.mani.resolved then s
  else
    let missed := Vector.ofFn fun c => s.misses c
    let s := { s with mani := { s.mani with resolved := true, missed := missed, doubt := s.doubtMask, apply := Vector.replicate 16 none } }
    let s := all16.foldl State.resolveCh s
    if all16.any fun c => vget missed c then s.raise 57 else s

/-! ### Missed departures (R237) -/

def missFd : Triad → Fd
  | .a => Fd.MANI_MISS_MISS_A
  | .b => Fd.MANI_MISS_MISS_B

/-- The limit; 0 is taken as 1. -/
def State.missLim (s : State) : Nat := max 1 (s.getF Fd.MANI_CFG_MISS_LIM)

/-- A triad's counter at a departure at which one of its channels misses, or none does. -/
def State.countMiss (s : State) (t : Triad) (missed : Bool) : State := if missed then s.incF (missFd t) else s.offF (missFd t)

/-- A counter that has just risen stands at the limit. -/
def State.missOut (s : State) : Bool := s.missLim ≤ s.getF Fd.MANI_MISS_MISS_A || s.missLim ≤ s.getF Fd.MANI_MISS_MISS_B

/-- MISS_LIMIT is reached (R237, R512). -/
def State.missRefuge (s : State) : State := if s.missOut && !s.refuge then (s.enterRefuge 1).raise 58 else s

/-- A triad has an ACTIVE output and has committed. -/
def State.wouldMiss (s : State) (t : Triad) : Bool := all16.any fun c => s.activeOut c && s.chTriad c == some t && s.startedBit t

/-- An announced period passes while the node is not locked, after it has been (R204); in STABLED no counter advances
(R237). -/
def State.unlockedTick (s : State) : State :=
  if s.asleep then s else
  let s := if s.wouldMiss .a then s.countMiss .a true else s
  let s := if s.wouldMiss .b then s.countMiss .b true else s
  if s.wouldMiss .a || s.wouldMiss .b then s.missRefuge else s

end Sys2Proof.Machine
end

