-- ==== Sys2Proof/Machine/ChanOps.lean ====
section
/-! DEFINITION. Instructions of majors 0x1E and 0x1F that act on a channel's block or on the manifest block: their effect,
and the stall of one whose block is in reset (R82, R152 to R158, R164 to R168); and the end of every stall. -/

namespace Sys2Proof.Machine

/-! ### Ownership (R130) -/

/-- The channel that u(ga)[3:0] names. -/
def State.chanOf (s : State) (m : Mach) (ga : BitVec 5) : Fin 16 := Fin.ofNat 16 (s.rg m ga).toNat

/-- The channels and tallies that the machine may use, as `OWNED` is laid out: at TASK those of the current task, at
STATION those of every task that it serves. -/
def State.mayUse (s : State) (m : Mach) : Nat :=
  if s.atStation m then
    (s.tasks.filter fun t => s.taskMach t == m).foldl (fun n t => n ||| (t.channels.toNat + t.tallies.toNat * 2 ^ 16)) 0
  else s.owned m

/-- The machine waits until what the instruction acts on has left reset, or its page is healed (R82, R462). -/
def State.holdOp (s : State) (m : Mach) (op : HeldOp) : State := s.modMach m fun x => { x with wait := .held op }

/-! ### CHMODE (R154, R155) -/

/-- The first word of a record in SRAM with a mark that `p` picks: its address. -/
def State.recordMark (s : State) (p : Option Mark → Bool) (a : Nat) : Option Nat :=
  ((List.range 16).map fun i => a + 4 * i).find? fun x => p (s.markOf (x / 8))

/-- `n` words of 64 bits of a record in flash from an address up, or the address of the first that reads as
uncorrectable (R459). -/
def State.flashRecord (a : Nat) : Nat → State → (List Byte ⊕ Nat) × State
  | 0, s => (.inl [], s)
  | n + 1, s =>
    match s.flashLoad a 8 with
    | (none, s) => (.inr a, s)
    | (some v, s) =>
      match State.flashRecord (a + 8) n s with
      | (.inl r, s) => (.inl (leBytes v 8 ++ r), s)
      | (.inr x, s) => (.inr x, s)

/-- The words of the record at an address, or the code and the address of the trap that its reading takes: an
unwritten word comes before a poisoned one (R116). -/
def State.recordRead (s : State) (m : Mach) (a : Nat) : (List Word ⊕ (Nat × Nat)) × State :=
  if inSram a then
    let s := s.eccTouchAll a 64
    let un := s.recordMark isUnwritten a
    let po := s.recordMark isPoisoned a
    let data := wordsOfBytes (leBytes (s.sramRead a 64) 64)
    let s' := if un.isSome then s.raise 21 else s
    match un, po with
    | some x, p =>
      if s.uninitTraps m then (.inr (5, x), s')
      else match p with
        | some y => (.inr (6, y), s')
        | none => (.inl data, s')
    | none, some y => (.inr (6, y), s')
    | none, none => (.inl data, s')
  else
    match State.flashRecord a 8 s with
    | (.inl bs, s) => (.inl (wordsOfBytes bs), s)
    | (.inr x, s) => (.inr (6, x), s)

/-- CHMODE of an owned channel with the record at `a`; a page that is being healed holds it (R462). -/
def State.chmodeAt (s : State) (m : Mach) (gd : BitVec 5) (n : Fin 16) (a : Nat) : State :=
  if a % 64 ≠ 0 then s.alignTrap m (Word.ofNat a)
  else if !(inSram a || inFlash a) then s.accessTrap m 6 (Word.ofNat a)
  else if s.healingAt a 64 then s.holdOp m (.chmode gd n a)
  else match s.recordRead m a with
    | (.inl r, s) => s.still m fun s =>
      let (v, s) := s.chMode_ n r
      s.setRetire m gd v
    | (.inr (code, x), s) => s.still m fun s =>
      if code = 6 then s.poisonTrap m 1 (Word.ofNat x) else s.uninitTrap m (Word.ofNat x)

/-! ### CHSET and CHGET (R157, R158, R301, R302) -/

/-- CHSET of an owned channel's item `i`: item 0x00 starts conversions at once, the others wait for their
departure. -/
def State.chsetAt (s : State) (m : Mach) (gd : BitVec 5) (n : Fin 16) (i : Nat) (v : Word) : State :=
  let (c, s) := if i = 0 then s.chStart n v else s.chSet n i v
  s.setRetire m gd c

/-- CHGET of an owned channel's item: `INJ_RES` gives its oldest entry, and removes it. -/
def State.chgetAt (s : State) (m : Mach) (gd : BitVec 5) (n : Fin 16) (i : Nat) : State :=
  let v := s.itemRead n i
  let c := (s.ch n).cfg
  (if i = 0x0E ∧ itemDefined c.mode c.variant 0x0E = true then s.modCh n ChanH.popInj else s).setRetire m gd v

/-! ### PEEK (R168, R169) -/

/-- A PEEK whose answer is here: value and status. -/
def State.peekEnd (s : State) (m : Mach) (gd : BitVec 5) (v status : Word) : State :=
  ((s.wg m gd v).wg m (pairHi gd) status).retire m

/-- PEEK: at this node at once; elsewhere a request goes out, numbered by its origin sequence. -/
def State.peek (s : State) (m : Mach) (gd : BitVec 5) (node chan : Nat) : State :=
  let e := s.tt.nextE
  if s.stationRev < 2 then s.peekEnd m gd 0 (peekStatus 8 false e)
  else if node = s.nodeId then
    let ((k, v, depth, dep), s) := s.peekAt (Fin.ofNat 16 chan) node (some m)
    let s := if dep then s.notePeek m { node := node, chan := chan, depth := depth } else s
    s.peekEnd m gd v (peekStatus k dep e)
  else if !s.numbered || !s.reachable node || s.inReset .orvia then s.peekEnd m gd 0 (peekStatus 9 false e)
  else
    let req := s.ov.oseq
    let s := s.originate (nodeBase node) 0 (.peekReq { chan := chan, req := req })
    s.still m fun s => s.modMach m fun x => { x with wait := .peek gd node chan req }

/-! ### The whole instruction -/

/-- An instruction on owned channel `n`: the OWNER trap, the stall on block `b`, or its effect (R130, R82, R152). -/
def State.onOwned (s : State) (m : Mach) (n : Fin 16) (b : Blk) (op : HeldOp) (f : State → State) : State :=
  if !(s.mayUse m).testBit n.val then s.ownerTrap m 1 n.val
  else if s.inReset b then s.holdOp m op
  else f s

/-- COMMIT (R162, R167): the lowest channel of the mask that is not owned traps. -/
def State.commitOp (s : State) (m : Mach) (gd : BitVec 5) (mask : Nat) : State :=
  match (maskChans mask).find? fun n => !(s.mayUse m).testBit n.val with
  | some n => s.ownerTrap m 1 n.val
  | none =>
    if s.inReset .mani then s.holdOp m (.commit gd mask)
    else
      let (c, s) := s.commit m mask
      s.still m fun s => s.setRetire m gd c

/-- The instruction with the operands that it has read. -/
def State.chanDo (s : State) (m : Mach) (op : HeldOp) : State :=
  match op with
  | .chmode gd n a => s.onOwned m n (.ch n) op fun s => s.chmodeAt m gd n a
  | .chset i gd n v => s.onOwned m n (.ch n) op fun s => s.chsetAt m gd n i v
  | .chget i gd n => s.onOwned m n (.ch n) op fun s => s.chgetAt m gd n i
  | .propose gd n v =>
    s.onOwned m n .mani op fun s =>
      let (c, s) := s.propose m n v
      s.still m fun s => s.setRetire m gd c
  | .retract gd n =>
    s.onOwned m n .mani op fun s =>
      let (c, s) := s.retract n
      s.still m fun s => s.setRetire m gd c
  | .commit gd mask => s.commitOp m gd mask
  | .peek gd node chan => if s.inReset .mani then s.holdOp m op else s.peek m gd node chan

/-! ### The end of a stall (R81, R82, R462) -/

/-- What waits is tried again: an access, an instruction on a block that was in reset, a vector fetch. -/
def State.unstall (s : State) (m : Mach) : State :=
  let w := (s.mach m).wait
  let t := s.modMach m fun x => { x with wait := .none }
  match w with
  | .stall a =>
    match a.sess with
    | some sid => t.stationAccess m a sid
    | none => t.coreAccess m a
  | .held op => t.chanDo m op
  | .vector i nmi ret => if nmi then t.nmiFetch m ret else t.entryFetch m ret i
  | _ => s

/-- Everything that waits is tried again, in a triad that is halted for the debugger too: the platform brings an access
that is outstanding to its end. -/
def State.unstallAll (s : State) : State :=
  State.each (fun m s => if s.alive m && s.machExists m && !(s.mach m).halted then s.unstall m else s) Mach.all s

end Sys2Proof.Machine
end

