-- ==== Sys2Proof/Machine/Power.lean ====
section
/-! DEFINITION. From the intakes to the first instruction: power-fail and hold-up (R43, R51 to R53), the
release of a reset with the straps and the node identity record (R66 to R71, R384), boot (R72, R128), and what
the release of a block does (R81). -/

namespace Sys2Proof.Machine

/-! ### Intakes (R43, R51, R52) -/

def PowerH.valid (p : PowerH) : Intake → Bool
  | .east => p.east
  | .west => p.west
  | .aux24 => p.aux24

def PowerH.put (p : PowerH) (i : Intake) (b : Bool) : PowerH :=
  match i with
  | .east => { p with east := b }
  | .west => { p with west := b }
  | .aux24 => { p with aux24 := b }

/-- Some intake is valid. -/
def PowerH.any (p : PowerH) : Bool := p.east || p.west || p.aux24

def State.modPwr (s : State) (f : PowerH → PowerH) : State := { s with pwr := f s.pwr }

/-- The power-fail sequence (R52): nothing new is started, publishing stops, what is not committed is withdrawn,
every channel is shed, and SB121 is set. -/
def State.powerFail (s : State) : State :=
  let s := s.modPwr fun p => { p with failing := true, returned := [] }
  let s := if s.phase = .running then s.withdrawAll else s
  let s := State.each (fun n s => s.modCh n ChanH.stopSeq) all16 s
  s.raise 121

/-- Power is gone: what flash and OTP hold stays. -/
def State.powerOff (s : State) : State := { s.calInterrupt.powerOnReset with phase := .unpowered, dbg := {} }

/-! ### Reset release (R66 to R71) -/

/-- Every release condition of R66 holds, but for `nRST`. -/
def State.relOthers (s : State) : Bool :=
  (s.phase == .powerOn || s.phase == .chipReset) && s.pwr.memInit && s.pwr.otpLoaded && s.pwr.vioOk && !s.pwr.failing

/-- `nRST` is deasserted, or masked. -/
def State.nrstOk (s : State) : Bool := !s.pwr.nrstLow || s.isF Fd.NRST_STAT_MASKED

/-- The majority of three samples of a level. -/
def majority (a b c : Bool) : Bool := (a && b) || (a && c) || (b && c)

/-- The straps by three samples (R69). -/
def strapVote (x y z : Straps) : Straps where
  boot := (x.boot &&& y.boot) ||| (x.boot &&& z.boot) ||| (y.boot &&& z.boot)
  splitA := majority x.splitA y.splitA z.splitA
  splitB := majority x.splitB y.splitB z.splitB

/-- `STRAP` shows the straps and the effective splits (R71). -/
def State.showStraps (s : State) : State :=
  let x := s.straps
  let free := !s.otp.safeOnly
  s.setR Rg.STRAP (BitVec.ofNat 32 (x.boot.toNat + b2n x.splitA * 4 + b2n x.splitB * 8 + b2n (x.splitA && free) * 16
    + b2n (x.splitB && free) * 32 + b2n s.otp.safeOnly * 64))

/-- The fuses lock the configurations and give the window fraction (R493, R502, R508). -/
def State.applyFuses (s : State) : State :=
  let s := if s.otp.sbLock then s.sbLock else s
  let s := if s.otp.tallyLock then s.onF Fd.TL_CTRL_LOCK else s
  s.setF Fd.TL_STAT_WINFRAC s.otp.winFrac.toNat

/-- The node identity record lies here (R384). -/
def idBase : Nat := 0x13FF_F000

/-- `n` words of 64 bits of flash from an address up; none where one reads as uncorrectable. -/
def State.flashLoads (a : Nat) : Nat → State → Option (List Byte) × State
  | 0, s => (some [], s)
  | n + 1, s =>
    let (v, s) := s.flashLoad a 8
    let (r, s) := State.flashLoads (a + 8) n s
    (match v, r with
      | some v, some r => some (leBytes v 8 ++ r)
      | _, _ => none, s)

/-- Word 1 of a node identity record that holds (R384): the sequence of its check is its word 0, as in R259. -/
def idRecord (bs : List Byte) : Option Nat :=
  let w := fun k => leNat ((bs.drop (4 * k)).take 4)
  let w1 := w 1
  if w 0 = 1 ∧ w1 % 1024 ≤ 1022 ∧ w1 / 1024 % 64 = 0 ∧ w1 / 2 ^ 18 = 0 ∧ ((bs.drop 8).take 52).all (· == 0)
      ∧ crcFold .crc32c idBase 1 (bs.take 60) = w 15 then some w1
  else none

/-- The node ID and `OV_CFG` from the record; a node without one is unnumbered (R384), and a record in a sector that a
command left undefined fails its check (R477). -/
def State.loadNodeId (s : State) : State :=
  let (bs, s) := if s.inFlux idBase then (none, s) else State.flashLoads idBase 8 s
  match bs.bind idRecord with
  | some w =>
    let s := (s.setF Fd.OV_NODE_ID w).setF Fd.OV_NODE_NUMBERED 1
    let s := (s.setF Fd.OV_NODE_SRC 1).offF Fd.OV_NODE_DUP
    (s.setF Fd.OV_CFG_ASSIGN_EN (w / 2 ^ 16)).setF Fd.OV_CFG_RING_EXPECTED (w / 2 ^ 17)
  | none =>
    let s := (s.setF Fd.OV_NODE_ID 0x3FF).offF Fd.OV_NODE_NUMBERED
    let s := (s.offF Fd.OV_NODE_SRC).offF Fd.OV_NODE_DUP
    (s.onF Fd.OV_CFG_ASSIGN_EN).offF Fd.OV_CFG_RING_EXPECTED

/-- The registers that the straps give a value (R197, R224). -/
def State.strapRegs (s : State) : State :=
  let s := State.each (fun t s => s.setR (Rg.TR_STAT (Triad.idx t)) (BitVec.ofNat 32 (trStatReset (s.split t) 0))) [.a, .b] s
  s.setF Fd.MANI_STAT_BANKS (4 + b2n (s.split .a) + b2n (s.split .b))

/-- Boot waits for an image where its source is not flash (R70, R413, R536). -/
def State.startBoot (s : State) : State :=
  match s.straps.boot.toNat with
  | 1 => s.onF Fd.SPX_SSTAT_BOOT
  | 2 => s.onF Fd.SS_CTRL_BOOT
  | _ => s

/-- What the release of a reset raises: a split refused or in force, a node that comes up unnumbered (R71,
R384). -/
def State.releaseRaises (s : State) : State :=
  let one := fun (pin eff : Bool) (t : Triad) (s : State) =>
    let s := if pin && s.otp.safeOnly then s.raise 8 (.triad t) else s
    if eff then s.raise 7 (.triad t) else s
  let a := s.split .a
  let b := s.split .b
  let s := one s.straps.splitB b .b (one s.straps.splitA a .a s)
  if s.isF Fd.OV_NODE_NUMBERED then s else s.raise 39

/-- A reset is released (R65, R75): time starts from 0, the straps and the fuses are in force, boot begins. After
a reset by the tally watchdog at its limit the module is in refuge (R511); after one by the signal box the quiet
timer starts again (R491). -/
def State.release (s : State) (straps : Straps) : State :=
  let tally := s.pwr.byTally && s.getF Fd.TL_ESC_N ≤ s.getF Fd.TL_CONSEC_COUNT
  let quiet := s.pwr.bySigbox && s.isF Fd.SB_STAT_STATE
  let s := { s with phase := .running, straps := straps, tt := {} }
  let s := s.modPwr fun p => { p with released := true, byTally := false, bySigbox := false }
  let s := { s with rst := { s.rst with lastRel := relTimes s.now resettable } }
  let s := (s.showStraps.applyFuses).strapRegs
  let s := { s with machs := Vector.replicate 4 (resetMach 0 0) }
  let s := s.loadNodeId.showVolume.topoUpdate
  let s := if quiet then { s with sb := { s.sb with quietEnd := s.now + s.quietNs } } else s
  let s := if tally then s.enterRefuge 2 else s
  let s := (s.startBoot.releaseRaises).dbgRetry
  if tally then s.raise 114 else s
where
  /-- The release of every block counts for the spacing of R80. -/
  relTimes (t : Nat) (l : List Blk) : List (Nat × Nat) := l.foldl (fun r b => insertNat b.gen t r) []

/-! ### Boot (R72, R128) -/

/-- No two entries share a bit of a set. -/
def disjointSets : List (BitVec 16) → Bool
  | [] => true
  | x :: r => r.all (fun y => x &&& y == 0) && disjointSets r

/-- The rules of the task table whose code is BAD_FORMAT (R128). -/
def tableOk (l : List Task) : Bool :=
  l.all (fun t => t.id ≤ 30 && t.triad ≤ 1 && t.slot ≤ 1) && nodupNat (l.map (·.id))
    && disjointSets (l.map (·.channels)) && disjointSets (l.map (·.tallies))
where
  /-- No number occurs twice. -/
  nodupNat : List Nat → Bool
    | [] => true
    | x :: r => !r.contains x && nodupNat r

/-- The result code of the checks of R72, in their order. -/
def State.bootResult (s : State) (i : BootImage) : Nat :=
  if !i.present then 2
  else if !(i.format == 1 || i.format == 2) then 5
  else if !i.signatureOk || s.isF Fd.SPX_SSTAT_BOOT_OVF then 3
  else if !i.layoutOk || !tableOk i.tasks || 8 < i.heal.length then 4
  else if i.tasks.any fun t => t.safe && s.split (Task.triadOf t) then 6
  else 1

/-- The heal map is loaded (R462). -/
def State.loadHealMap (s : State) (l : List HealMap) : State :=
  State.each (fun (p : HealMap × Nat) s =>
    ((s.setF (Fd.PT_HEAL_MAP0_PAGES p.2) p.1.pages.toNat).setF (Fd.PT_HEAL_MAP0_BASE p.2) p.1.base.toNat).setF
      (Fd.PT_HEAL_MAP4_SRC p.2) p.1.src.toNat) l.zipIdx s

/-- Boot copies the pages of a region from flash (R462). -/
def State.copyRegion (h : HealMap) (s : State) : State :=
  State.each (fun k s => ((List.range 512).foldl (State.healWord (h.base.toNat + k) (h.src.toNat + 4096 * k)) (false, s)).2)
    (List.range h.pages.toNat) s

/-- The machines start at the entry points of their triads (R72, R132); `CYCLE` has counted since the reset (R97). -/
def State.startMachs (s : State) (i : BootImage) : State :=
  State.each (fun m s => s.modMach m fun x => { s.freshMach i.vbase ((match Mach.triad m with
    | .a => i.entryA
    | .b => i.entryB) &&& 0xFFFF_FFFC) with cycle := x.cycle }) (Mach.all.filter s.machExists) s

/-- Boot has ended with a result (R72, R91, R413, R536). -/
def State.bootEnd (s : State) (i : BootImage) (r source : Nat) : State :=
  let fmt := if r = 2 ∨ r = 5 ∨ r = 3 then 0 else i.format
  let s := s.setR Rg.BOOT_STAT (BitVec.ofNat 32 (r + source * 16 + fmt * 256))
  let s := (s.offF Fd.SPX_SSTAT_BOOT).offF Fd.SS_CTRL_BOOT
  if r ≠ 1 then s
  else
    let s := State.each State.copyRegion i.heal ({ s with image := some i }.loadHealMap i.heal)
    let s := s.startMachs i
    if s.getF Fd.TL_EN_EN ≠ 0 then s.tlStart else s

/-- An image in flash: one that reaches into a sector that a command left undefined fails verification (R477). -/
def State.flashImage (s : State) (i : BootImage) : BootImage :=
  if s.flashFlux.any fun k => decide (0x8000 * k < i.size) then { i with signatureOk := false } else i

/-- Verification of the image from the present source ends; a load that has not ended has no image yet. A flash
image that fails under source 0b11 writes no code, and the load over Orvia follows (R70, R73). -/
def State.boot (s : State) (i : BootImage) : State :=
  let r := s.bootResult i
  let f := s.flashImage i
  match s.straps.boot.toNat with
  | 0 => s.bootEnd f (s.bootResult f) 0
  | 1 => if s.spx.loaded then s.bootEnd i r 1 else s
  | 2 => if s.ss.bootLoaded then s.bootEnd i r 2 else s
  | _ =>
    if s.isF Fd.SS_CTRL_BOOT then (if s.ss.bootLoaded then s.bootEnd i r 2 else s)
    else if s.bootResult f = 1 then s.bootEnd f 1 0
    else s.onF Fd.SS_CTRL_BOOT

/-! ### The release of a block (R81) -/

/-- What the release of a block starts or lets go on. -/
def State.afterRelease (s : State) : Blk → State
  | .ch n => s.chanRelease n
  | .mani => s.showVolume
  | .orvia => s.topoUpdate
  | .pool => s.plSweep
  | .crcu => s.shPumpAll
  | .sess => s.shPumpAll
  | _ => s

/-- A block leaves reset: accesses that have waited are performed on it (R81, R82). -/
def State.leaveReset (s : State) (b : Blk) : State :=
  match b with
  | .triad t => ((s.triadRelease t).unstallAll).dbgRetry
  | b =>
    let s := s.clrRstBit b
    let s := { s with rst := { s.rst with lastRel := insertNat b.gen s.now s.rst.lastRel } }
    ((s.afterRelease b).unstallAll).dbgRetry

/-- A reset that was deferred begins (R80, R479). -/
def State.startDeferred (s : State) (b : Blk) : State :=
  let waits := match lookupNat b.gen s.rst.lastRel with
    | some t => s.now - t < 10000
    | none => false
  if s.phase == .running && s.rst.deferred.contains b.gen && !(b == .patrol && !s.pt.heals.isEmpty) && !waits then
    { s with rst := { s.rst with deferred := s.rst.deferred.filter (· != b.gen) } }.startReset b
  else s

/-- The oldest heal is complete (R462): accesses to its page go on, and a reset of the walker that waited for it
begins (R479). -/
def State.healDone (s : State) : State :=
  match s.pt.heals with
  | [] => s
  | p :: r =>
    let s := { s with pt := { s.pt with heals := r } }
    let s := if r.isEmpty then s.offF Fd.PT_STAT_HEALING else s
    let s := s.healPage p.1 p.2
    ((s.startDeferred .patrol).unstallAll).dbgRetry

end Sys2Proof.Machine
end

