-- ==== Sys2Proof/Machine/PowerCmd.lean ====
section
/-! DEFINITION. The commands of power, clocks, resets, boot and STABLED (R38 to R91). -/

namespace Sys2Proof.Machine

/-! ### Intakes and pad supply (R38, R43 to R54) -/

/-- An intake becomes valid (R43); within the power-fail sequence it counts as valid again (R53). -/
def PowerH.comes (p : PowerH) (i : Intake) : PowerH :=
  { p.put i true with returned := if p.failing && !p.valid i then p.returned ++ [i] else p.returned }

/-- An intake becomes invalid. -/
def PowerH.goes (p : PowerH) (i : Intake) : PowerH :=
  { p.put i false with returned := p.returned.filter (· != i) }

/-- INTAKE_VALID (R43): an unpowered module starts with POWER_ON instead. -/
def execIntakeValid (i : Intake) (s : State) : Host.Outcome State Fault Refusal :=
  if s.phase = .unpowered then ok s else ok (s.modPwr fun p => p.comes i)

/-- INTAKE_INVALID (R51): SB120 while another intake stays valid; in hold-up an intake that had returned is lost
again. The last valid intake otherwise starts the power-fail sequence by POWER_FAIL_START. -/
def execIntakeInvalid (i : Intake) (s : State) : Host.Outcome State Fault Refusal :=
  if s.phase = .unpowered ∨ s.pwr.valid i = false then ok s
  else
    let t := s.modPwr fun p => p.goes i
    if t.pwr.any then ok (t.raise 120) else if s.pwr.failing then ok t else ok s

/-- POWER_FAIL_START (R52): `lost` is the last valid intake, or none where the internal bus falls below its
brownout threshold. -/
def execPowerFailStart (lost : Option Intake) (s : State) : Host.Outcome State Fault Refusal :=
  if s.phase = .unpowered ∨ s.pwr.failing = true then ok s
  else match lost with
    | none => ok s.powerFail
    | some i =>
      let t := s.modPwr fun p => p.put i false
      if s.pwr.valid i && !t.pwr.any then ok t.powerFail else ok s

/-- HOLD_UP_END (R52, R53): no intake has become valid again, and the module is off; so too where a brownout
started the sequence with an intake that stayed valid. -/
def execHoldUpEnd (s : State) : Host.Outcome State Fault Refusal :=
  if s.pwr.failing && s.pwr.returned.isEmpty then ok s.powerOff else ok s

/-- INTAKE_RETURN_RESET (R53): an intake has become valid again, and the power-on sequence runs. -/
def execIntakeReturnReset (s : State) : Host.Outcome State Fault Refusal :=
  if s.pwr.failing && !s.pwr.returned.isEmpty then ok s.calInterrupt.powerOnReset else ok s

/-- VIO_IN_LOST (R38, R537): `f` is a slave frame of the SPX port that is cut short. -/
def execVioInLost (f : SlaveFrame) (s : State) : Host.Outcome State Fault Refusal :=
  if s.pwr.vioOk = false then ok s
  else
    let live := s.phase == .running
    let t := if live then s.spxVioLost f else s
    let t := t.modPwr fun p => { p with vioOk := false }
    ok (if live then t.raise 122 else t)

/-- RAIL_FAULT (R54). -/
def execRailFault (s : State) : Host.Outcome State Fault Refusal := if s.phase = .unpowered then ok s else ok (s.raise 123)

/-! ### The start of the module (R65 to R73) -/

/-- POWER_ON (R65): `i` is the first valid intake. -/
def execPowerOn (i : Intake) (s : State) : Host.Outcome State Fault Refusal :=
  if s.phase = .unpowered then ok (s.powerOnReset.modPwr fun p => p.put i true) else ok s

/-- OTP_LOAD_COMPLETE (R65, R67, R550): `good` is the outcome of the check. -/
def execOtpLoadComplete (good : Bool) (f : Fuses) (s : State) : Host.Outcome State Fault Refusal :=
  if (s.phase == .powerOn || s.phase == .chipReset) && !s.pwr.otpLoaded && !s.pwr.otpBad then
    if good then
      ok ({ s with otp := f }.modPwr fun p => { p with otpLoaded := true })
    else ok (s.modPwr fun p => { p with otpBad := true })
  else ok s

/-- MEMORY_INITIALISER_COMPLETE (R68, R469): every word of SRAM is unwritten; the calibration store has selected
its bank. -/
def execMemoryInitialiserComplete (s : State) : Host.Outcome State Fault Refusal :=
  if (s.phase == .powerOn || s.phase == .chipReset) && !s.pwr.memInit then
    let s := { s with sram := [], sramMark := [], sramErr := [] }.modPwr fun p => { p with memInit := true }
    ok s.calSelect
  else ok s

/-- RESET_RELEASE (R66, R69): `x`, `y` and `z` are the three samples of the straps. -/
def execResetRelease (x y z : Straps) (s : State) : Host.Outcome State Fault Refusal :=
  if s.relOthers && s.nrstOk then ok (s.release (strapVote x y z)) else ok s

/-- BOOT_COMPLETE (R72): `i` is the image at the source. -/
def execBootComplete (i : BootImage) (s : State) : Host.Outcome State Fault Refusal :=
  if s.phase == .running && s.getF Fd.BOOT_STAT_RESULT == 0 then ok (s.boot i) else ok s

/-! ### Clock monitors (R61, R62, R390, R484, R500) -/

/-- CLOCK_MONITOR_FAULT (R61): a recovered clock is monitored only while its port is LINKED, and its fault loses
the link. -/
def execClockMonitorFault (c : MonClock) (s : State) : Host.Outcome State Fault Refusal :=
  if s.phase = .unpowered then ok s
  else match c with
    | .xin => ok ((s.onF Fd.CLK_STAT_XIN).raise 116)
    | .cclk => ok ((s.onF Fd.CLK_STAT_PLL_CORE).raise 117)
    | .sysclk => ok (((s.modPwr fun p => { p with sysFault := true }).showFallback.onF Fd.CLK_STAT_PLL_SYS).raise 117)
    | .rclk => ok ((s.onF Fd.CLK_STAT_PLL_SYS).raise 117)
    | .tallyOsc => ok (((s.modPwr fun p => { p with tallyFault := true }).showFallback.onF Fd.CLK_STAT_TALLY_OSC).raise 118)
    | .aonOsc => ok ((s.onF Fd.CLK_STAT_AON_OSC).raise 118)
    | .recovered p =>
      if s.linked p then
        let s := s.onF (match p with
          | .east => Fd.CLK_STAT_EAST_RCLK
          | .west => Fd.CLK_STAT_WEST_RCLK)
        ok ((s.linkLoss p .clock).raise 119)
      else ok s
    | .chOsc n => ok ((s.setBitF Fd.CLK_STAT_CHOSC n.val).chFault n 4)

/-- CLOCK_MONITOR_CLEARS (R484, R500). -/
def execClockMonitorClears (c : MonClock) (s : State) : Host.Outcome State Fault Refusal :=
  if s.phase = .unpowered then ok s
  else match c with
    | .sysclk => ok (s.modPwr fun p => { p with sysFault := false }).showFallback
    | .tallyOsc => ok (s.modPwr fun p => { p with tallyFault := false }).showFallback
    | _ => ok s

/-! ### The reset pin (R74, R76) -/

/-- A low level on `nRST` acts: chip resets follow the first release, the pin is not masked, and its supply is
there (R38, R74, R76). -/
def State.nrstActs (s : State) : Bool := s.pwr.released && !s.isF Fd.NRST_STAT_MASKED && s.pwr.vioOk && !s.pwr.failing

/-- VIO_IN_RESTORED (R38): the pads operate again; an `nRST` that is low then is asserted from then on (R74). -/
def execVioInRestored (s : State) : Host.Outcome State Fault Refusal :=
  let t := s.modPwr fun p => { p with vioOk := true }
  if !s.pwr.vioOk && s.pwr.nrstLow && t.nrstActs then ok (t.onF Fd.RST_CAUSE_NRST).chipReset else ok t

/-- NRST_PULSE (R74): a pulse of at least 1 µs, and a level that stays low, cause a chip reset, one of 100 ns or less
never does, and one between may. A pulse that ends a level held low has had its effect. -/
def execNrstPulse (l : NrstLow) (s : State) : Host.Outcome State Fault Refusal :=
  if s.phase = .unpowered then ok s
  else
    let act := s.nrstActs && !s.pwr.nrstLow
    let fire := fun s : State => (s.onF Fd.RST_CAUSE_NRST).chipReset
    match l with
    | .held =>
      let s := s.modPwr fun p => { p with nrstLow := true }
      ok (if act then fire s else s)
    | .pulse ns =>
      let s := s.modPwr fun p => { p with nrstLow := false }
      if !act || ns ≤ 100 then ok s
      else if 1000 ≤ ns then ok (fire s)
      else
        let (v, s) := s.takeFree
        ok (if v.getLsbD 0 then fire s else s)

/-- The causes of a chip reset (R77). -/
def State.chipBy (s : State) : ChipCause → State
  | .nrst => (s.onF Fd.RST_CAUSE_NRST).chipReset
  | .sigbox =>
    let s := (s.incF Fd.SB_CNT_CHIP_RESETS).onF Fd.RST_CAUSE_SIGBOX
    (s.modPwr fun p => { p with bySigbox := true }).chipReset
  | .tally => s.tlStep2
  | .debug => (s.onF Fd.RST_CAUSE_DEBUG).chipReset

/-- CHIP_RESET (R75): the chip reset that a cause of R77 asks for runs. One that finds a chip reset in progress
merges into it and shows its cause (R83, R515). -/
def execChipReset (c : ChipCause) (s : State) : Host.Outcome State Fault Refusal :=
  if s.pwr.failing then ok s
  else if s.phase = .running then ok (s.chipBy c)
  else if s.phase = .chipReset then
    ok (s.onF (match c with
      | .nrst => Fd.RST_CAUSE_NRST
      | .sigbox => Fd.RST_CAUSE_SIGBOX
      | .tally => Fd.RST_CAUSE_TALLY
      | .debug => Fd.RST_CAUSE_DEBUG))
  else ok s

/-- NRST_STUCK (R76): the pin has been low for 2.0 s; the module leaves reset with the pin masked. -/
def execNrstStuck (x y z : Straps) (s : State) : Host.Outcome State Fault Refusal :=
  if s.relOthers && s.pwr.nrstLow && !s.isF Fd.NRST_STAT_MASKED then
    let s := (s.onF Fd.NRST_STAT_MASKED).release (strapVote x y z)
    ok (((s.onF Fd.RST_CAUSE_NRST_STUCK).incF Fd.NRST_STAT_STUCK_CNT).raise 124)
  else ok s

/-- NRST_REARM (R76): the masked pin has been high for 10 ms. -/
def execNrstRearm (s : State) : Host.Outcome State Fault Refusal :=
  if s.isF Fd.NRST_STAT_MASKED then ok ((s.offF Fd.NRST_STAT_MASKED).modPwr fun p => { p with nrstLow := false }) else ok s

/-! ### Block resets (R80, R81) -/

/-- BLOCK_RESET_REQUEST (R81). -/
def execBlockResetRequest (b : Blk) (s : State) : Host.Outcome State Fault Refusal := ok (s.requestReset b)

/-- BLOCK_RESET_DEFERRED_START (R80): at the end of the spacing. -/
def execBlockResetDeferredStart (b : Blk) (s : State) : Host.Outcome State Fault Refusal :=
  if s.phase == .running && s.rst.deferred.contains b.gen then
    let t := ((lookupNat b.gen s.rst.lastRel).map (· + 10000)).getD 0
    ok ((s.advance (t - s.now)).startDeferred b)
  else ok s

/-- BLOCK_LEAVES_RESET (R81). -/
def execBlockLeavesReset (b : Blk) (s : State) : Host.Outcome State Fault Refusal :=
  if s.phase == .running && s.inReset b then ok (s.leaveReset b) else ok s

/-! ### STABLED (R84 to R90) -/

/-- SLEEP_READY (R86): a machine at STATION writes the ready bit of its triad. -/
def execSleepReady (m : Mach) (s : State) : Host.Outcome State Fault Refusal :=
  if s.running m && s.atStation m then ok (s.readyBy m.triad (some m)) else ok s

/-- CORES_GATED (R87, R189, R305, R505): conversions and the cores stop, a resynchronisation waits, the watchdog
stands still. -/
def execCoresGated (s : State) : Host.Outcome State Fault Refusal :=
  if s.phase == .running && s.sleepState == slEntering then
    let s := s.setF Fd.SLEEP_STAT_STATE slStabled
    let s := State.each (fun n s => s.modCh n fun h => { h.stopSeq with rbCur := false, boostFull := false }) all16 s
    let s := State.each (fun t s => s.modTri t fun x => { x with phase := match x.phase with
      | .copying c => .asleep c
      | .copied c => .asleep c
      | p => p }) [.a, .b] s
    ok { s with tl := { s.tl with stopped := true } }
  else ok s

/-- WAKE_PIN_EDGE (R89): ignored until the program's first instruction (R33) and without `VIO_IN` (R38). -/
def execWakePinEdge (s : State) : Host.Outcome State Fault Refusal :=
  if s.padsRead then ok (s.wakeEvent wkPin) else ok s

/-- AON_TIMER_MATCH (R89): `AON_CNT` equals `AON_CMP`. -/
def execAonTimerMatch (s : State) : Host.Outcome State Fault Refusal :=
  if s.phase == .running then ok ((s.setF Fd.AON_CNT_COUNT (s.getF Fd.AON_CMP_CMP)).wakeEvent wkTimer) else ok s

/-- WAKE_SUPPLY_UP (R90, R189, R305): conversions restart, and so does a resynchronisation that waited. -/
def execWakeSupplyUp (s : State) : Host.Outcome State Fault Refusal :=
  if s.phase == .running && s.sleepState == slWaking && !s.slp.supplyUp then
    let s := { s with slp := { s.slp with supplyUp := true } }
    let s := State.each (fun n s => if s.measures n then s.modCh n fun h => h.startContinuous s.tt.clk else s) all16 s
    ok (State.each (fun t s => s.modTri t fun x => { x with phase := match x.phase with
      | .asleep c => .copying c
      | p => p }) [.a, .b] s)
  else ok s

/-- The wake interrupt reaches a machine, and is taken where no NMI goes before it (R118, R120). -/
def State.deliverWake (m : Mach) (s : State) : State :=
  if s.alive m && s.machExists m then
    let s := s.modMach m fun x => { x with wake := true }
    if s.canEnter m && !s.nmiDue m then s.takeWake m else s
  else s

/-- WAKE_INTERRUPT_DELIVERY (R90, R505): the module is awake, and every machine takes the wake interrupt. -/
def execWakeInterruptDelivery (s : State) : Host.Outcome State Fault Refusal :=
  if s.phase == .running && s.sleepState == slWaking && s.slp.supplyUp then
    let s := (s.setF Fd.SLEEP_STAT_STATE slAwake).clearReady
    let s := { s with slp := { s.slp with supplyUp := false } }
    let s := if s.isF Fd.TL_STAT_STARTED then s.tlStartPeriod else { s with tl := { s.tl with stopped := false } }
    ok (State.each State.deliverWake Mach.all s)
  else ok s

end Sys2Proof.Machine
end

