-- ==== Sys2Proof/Machine/RollCall.lean ====
section
/-! DEFINITION. Roll call: station-wide schedules (R545) and the commands of its family (R540 to R546). -/

namespace Sys2Proof.Machine

/-- A roll call is scheduled at station time `t`. -/
def State.rollSchedule (s : State) (t id origin : Nat) : State :=
  let s := (s.setR Rg.RC_SCHED_LO (lo32 t)).setR Rg.RC_SCHED_HI (hi32 t)
  let s := s.setR Rg.RC_SCHED_ID (BitVec.ofNat 32 (id % 2 ^ 16 + origin % 2 ^ 10 * 2 ^ 16))
  s.onF Fd.RC_STAT_SCHEDULED

/-- ROLL.S (R161, R545): the code that it returns. -/
def State.rollStation (s : State) (t : Nat) : Nat × State :=
  if t - s.tt.clk < 500000 then (3, s)
  else if s.isF Fd.RC_STAT_SCHEDULED then (4, s)
  else
    let id := (s.rc.lastId + 1) % 2 ^ 16
    let s := { s with rc := { s.rc with lastId := id } }.rollSchedule t id s.nodeId
    (2, s.originate (nodeBase 0x3FF) 0 (.rollcall t id))

/-- A ROLLCALL frame at a node (R545); an unnumbered one accepts none (R384). -/
def State.rollFrame (s : State) (t id origin : Nat) : State :=
  if !s.numbered || !s.isF Fd.RC_CTRL_STATION_EN then s
  else if s.isF Fd.RC_STAT_SCHEDULED then s.onF Fd.RC_STAT_SCHED_DROP
  else if t ≤ s.tt.clk then s.onF Fd.RC_STAT_MISSED
  else s.rollSchedule t id origin

/-- The station time of the schedule. -/
def State.rollTime (s : State) : Nat := (s.getR Rg.RC_SCHED_LO).toNat + 2 ^ 32 * (s.getR Rg.RC_SCHED_HI).toNat

/-- The scheduled time has come (R545): the node latches, unless it is not locked or a snapshot is held. -/
def State.rollDue (s : State) : State :=
  let s := s.offF Fd.RC_STAT_SCHEDULED
  if !s.isF Fd.TT_STAT_LOCKED then s.onF Fd.RC_STAT_MISSED
  else match s.rollMeets 4 with
  | some p => s.rollJoin p 4 0 (s.getF Fd.RC_SCHED_ID_ID)
  | none =>
    if s.isF Fd.RC_STAT_HELD then (s.incF Fd.RC_STAT_OVERRUN).raise 125
    else s.rollLatch 4 0 (s.getF Fd.RC_SCHED_ID_ID)

/-- ROLLCALL_PAD_EDGE (R540): an edge at the pad. -/
def execRollcallPadEdge (rising : Bool) (s : State) : Host.Outcome State Fault Refusal :=
  if s.padsRead && s.isF Fd.RC_CTRL_PAD_EN && s.isF Fd.RC_CTRL_PAD_EDGE != rising then ok (s.rollTrigger 1).1
  else ok s

/-- RC_TRIGGER (R540): a write of `RC_CTRL.TRIGGER`. -/
def execRcTrigger (s : State) : Host.Outcome State Fault Refusal :=
  if s.phase = .running then ok (s.rollTrigger 5).1 else ok s

/-- RC_RELEASE (R544): a write of `RC_CTRL.RELEASE`. -/
def execRcRelease (s : State) : Host.Outcome State Fault Refusal :=
  if s.phase = .running then ok (s.offF Fd.RC_STAT_HELD) else ok s

/-- RC_CANCEL (R545): a write of `RC_CTRL.CANCEL`. -/
def execRcCancel (s : State) : Host.Outcome State Fault Refusal :=
  if s.phase = .running then ok (s.offF Fd.RC_STAT_SCHEDULED) else ok s

/-- ROLLCALL_FRAME_RECEIVE (R545). -/
def execRollcallFrameReceive (s : State) : Host.Outcome State Fault Refusal :=
  match s.takeFrame 0x05 with
  | some ((_, f), s) =>
    match f.body with
    | .rollcall t id => ok (s.rollFrame t id f.src)
    | _ => ok s
  | none => ok s

/-- STATION_ROLLCALL_TIME (R545): station time reaches the scheduled time. -/
def execStationRollcallTime (s : State) : Host.Outcome State Fault Refusal :=
  if s.phase == .running && s.isF Fd.RC_STAT_SCHEDULED then ok ((s.advanceTo s.rollTime).rollDue) else ok s

end Sys2Proof.Machine
end

