-- ==== Sys2Proof/Machine/Server.lean ====
section
/-! DEFINITION. The session server (R406 to R409): the order of service, the checks at service, the performance of
a request, and the end of a request at its client (R407, R410). -/

namespace Sys2Proof.Machine

/-! ### Order of service (R408) -/

/-- The requests that wait, class by class and in order of arrival. -/
def State.waiting (s : State) : List Waiting :=
  [2, 3, 4].flatMap fun c => (s.queue c).map fun r => { cls := c, sid := r.msg.sid, len := r.msg.len }

/-- The request served next, taken out of its queue: SAFETY within its share, else by turns. -/
def State.pickRequest (s : State) : Option (Nat × SrvReq × State) :=
  match s.queue 1, s.safetyRoom s.ss.safetyUsed with
  | r :: q, true => some (1, r, s.setQueue 1 q)
  | _, _ =>
    match drrNext s.clsWeight (fun sid => (s.srvEntry sid).share) s.waiting s.ss.drr with
    | none => none
    | some (w, d) =>
      match takeFirst (fun r => r.msg.sid == w.sid) (s.queue w.cls) with
      | none => none
      | some (r, q) => some (w.cls, r, { s.setQueue w.cls q with ss := { (s.setQueue w.cls q).ss with drr := d } })

/-! ### Checks 8 to 11 (R406) -/

/-- Whether the bytes `o` to `o + n - 1` lie in window `i` of an entry; whether it grants the access. -/
def inWin (e : SessEntry) (o n : Nat) (i : Fin 8) : Bool :=
  4096 * fieldOf (vget e.base i) 0 30 ≤ o && o + n ≤ 4096 * fieldOf (vget e.lim i) 0 30
def winGrants (e : SessEntry) (write : Bool) (i : Fin 8) : Bool :=
  (vget e.base i).getLsbD (if write then 31 else 30)

/-- The address check: the reply byte of the first test that fails. The boot session reaches `SS_BOOT` and nothing
else in its second window (R413). -/
def addrCheck (boot : Bool) (e : SessEntry) (op o n : Nat) : Option Nat :=
  let write := op == 2
  let wins := (List.finRange 8).filter (inWin e o n)
  if n = 0 ∨ 512 < n then some rWidth
  else if 2 ^ 31 ≤ o ∨ mapped o n = false then some rUnmapped
  else if (op ≠ 1 ∧ op ≠ 2) ∨ (inDevice o = true ∧ wordAt o n = false) then some rWidth
  else if wins.isEmpty then some rWindow
  else if !wins.any (winGrants e write) || (write && inFlash o) || (boot && inDevice o && o != 0x4009_000C) then some rRight
  else if write && programOwned o then some rProgram
  else if 0x4009_0100 ≤ o ∧ o < 0x4009_0200 then some rKey
  else none

/-- The generation of the block that an address lies in; 0 where there is no block. -/
def State.targetGen (s : State) (o : Nat) : Nat := (blkOf o).elim 0 s.genOf

/-- Checks 8 to 11: the reply byte of the first that fails, with TGEN. -/
def State.serviceCheck (s : State) (r : SrvReq) : Option (Nat × Nat) :=
  let o := r.addr % 2 ^ 42
  let g := s.targetGen o
  if 1800000 < (BitVec.ofNat 32 s.tt.clk - BitVec.ofNat 32 r.msg.issueT).toNat then some (rExpired, 0)
  else match addrCheck (s.bootSess r.msg.sid) (s.srvEntry r.msg.sid) r.msg.op o r.msg.len with
    | some d => some (d, 0)
    | none =>
      if r.msg.expGen ≠ 0 ∧ r.msg.expGen ≠ g then some (rStaleGen, g)
      else if s.targetReset o then some (rReset, g)
      else none

/-- A refused write to what the programs own is counted at a channel (R263). -/
def State.countOwned (s : State) (o : Nat) : State :=
  match blkOf o with
  | some (.ch n) => s.mgmtRefuse n
  | _ => s

/-! ### The end of a request at the client (R407, R410) -/

/-- A request of this node has ended. -/
def State.completeReq (s : State) (r : OutReq) (reply tgen qdepth : Nat) (data : List Byte) : State :=
  let s := s.endReq r
  let s := if reply % 16 = 9 then s.raise 47 else s
  let reply := if r.bcast then rOk else reply
  match r.who with
  | .mach m =>
    match (s.mach m).wait with
    | .station a id => if id = r.id then s.accessEnd m a reply tgen qdepth data else s
    | _ => s
  | .shunter n _ => s.shReply n r.id reply data

/-! ### Service (R406) -/

/-- The server's part of a request is over: its place is free again, and its requester is answered. -/
def State.serviceEnd (s : State) (r : SrvReq) (cls reply tgen : Nat) (data : List Byte) : State :=
  let s := (s.modSess r.msg.sid fun e => { e with inflS := e.inflS - 1 }).entryCmdCheck r.msg.sid
  match r.own.bind fun id => s.ss.out.find? fun x => x.id == id with
  | some o => s.completeReq o reply tgen r.qdepth data
  | none => if r.bcast || r.own.isSome then s else s.sendReply r.src cls r.msg reply tgen r.qdepth data true

/-- A request that has passed is performed. -/
def State.perform (s : State) (r : SrvReq) (cls : Nat) : State :=
  let o := r.addr % 2 ^ 42
  let g := s.targetGen o
  let by_ : Agent := .session r.msg.sid cls r.src
  let done := if r.qdepth = 0 then rOk else rOkDelayed
  if r.msg.op = 1 then
    match s.fabRead by_ o r.msg.len with
    | (some bs, s) => s.serviceEnd r cls done g bs
    | (none, s) => s.serviceEnd r cls rPoison g []
  else
    match s.fabWrite by_ o ((r.msg.data ++ List.replicate r.msg.len 0).take r.msg.len) with
    | (.done, s) => s.serviceEnd r cls done g []
    | (.poison, s) => s.serviceEnd r cls rPoison g []
    | (.right, s) => s.serviceEnd r cls rRight g []

/-- A request reaches service. -/
def State.serve (s : State) (r : SrvReq) (cls : Nat) : State :=
  match s.serviceCheck r with
  | none => s.perform r cls
  | some (reply, g) =>
    let s := s.incF Fd.SS_CNT_REFUSE_SERVER
    let s := if r.bcast then s.incF Fd.SS_CNT_BCAST_REFUSED else s
    (if reply = rProgram then s.countOwned (r.addr % 2 ^ 42) else s).serviceEnd r cls reply g []

/-- SAFETY has used up to 100 µs of service in an interval. -/
def State.useSafety (s : State) (cls ns : Nat) : State :=
  if cls = 1 then { s with ss := { s.ss with safetyUsed := s.ss.safetyUsed + ns } } else s

end Sys2Proof.Machine
end

