-- ==== Sys2Proof/Machine/SessionCmd.lean ====
section
/-! DEFINITION. The commands of sessions (R398 to R416). -/

namespace Sys2Proof.Machine

/-- SESS_REQ_RECEIVE (R406): checks 1 to 7. An unnumbered node accepts none (R384). -/
def execSessReqReceive (s : State) : Host.Outcome State Fault Refusal :=
  match s.takeFrame 0x06 with
  | some ((_, f), s) =>
    match f.body with
    | .sessReq m =>
      if !s.numbered then ok s
      else ok (s.srvArrive { src := f.src, addr := f.dest, msg := m, qdepth := 0, bcast := f.node == 0x3FF, own := none } f.cls f.dest).2
    | _ => ok s
  | none => ok s

/-- SESSION_SERVICE_START (R406, R408): the request that is next is served; `ns` is the time that its service
takes. An access to a page that is being healed waits. -/
def execSessionServiceStart (ns : Nat) (s : State) : Host.Outcome State Fault Refusal :=
  match s.pickRequest with
  | some (cls, r, t) =>
    let o := r.addr % 2 ^ 42
    if inSram o && t.healingAt o r.msg.len then ok s
    else ok ((t.useSafety cls ns).serve r cls)
  | none => ok s

/-- Whether a reply is one that may come without a tag. -/
def untaggedOk (m : SessRepMsg) : Bool := m.tag == 0 && (m.reply == rReset || m.reply == rNoSession || m.reply == rPeer)

/-- A reply at the client (R403, R407, R410). -/
def State.replyIn (s : State) (f : Frame) (m : SessRepMsg) : State :=
  if !untaggedOk m && tagOf (s.sess m.sid).key f.dest f.src (repPayload m) != m.tag then (s.incF Fd.SS_CNT_AUTH_TAG).raise 44
  else if 48 ≤ m.reqBlk ∨ m.reqGen ≠ s.getF (Fd.GEN_GEN m.reqBlk) then s.incF Fd.SS_CNT_STALE_DISCARD
  else match s.ss.out.find? fun r => r.sid == m.sid && r.counter == m.counter && r.node == f.src && !r.own && !r.bcast with
    | some r => s.completeReq r m.reply m.tgen m.qdepth m.data
    | none => s.incF Fd.SS_CNT_STALE_LATE

/-- SESS_REP_RECEIVE (R407). -/
def execSessRepReceive (s : State) : Host.Outcome State Fault Refusal :=
  match s.takeFrame 0x07 with
  | some ((_, f), s) =>
    match f.body with
    | .sessRep m => if s.inReset .sess then ok s else ok (s.replyIn f m)
    | _ => ok s
  | none => ok s

/-- The machine that waits for the PEEK with a number (R168). -/
def State.peekOf (s : State) (id : Nat) : Option Mach :=
  Mach.all.find? fun k => match (s.mach k).wait with
    | .peek _ _ _ r => r == id
    | _ => false

/-- A PEEK ends without a reply: TIMEOUT, or another code (R168). -/
def State.peekFail (s : State) (k : Mach) (code : Nat) : State :=
  match (s.mach k).wait with
  | .peek rd _ _ _ => (((s.modMach k fun x => { x with wait := .none }).wg k rd 0).wg k (pairHi rd) (peekStatus code false s.tt.nextE)).retire k
  | _ => s

/-- REQUEST_TIMEOUT (R410): no reply has come to the request or the PEEK with a number. -/
def execRequestTimeout (peek : Bool) (id : Nat) (s : State) : Host.Outcome State Fault Refusal :=
  if peek then
    match s.peekOf id with
    | some k => ok (s.peekFail k 9)
    | none => ok s
  else
    match s.ss.out.find? fun r => r.id == id with
    | some r => ok (s.completeReq r rNoReply 0 0 [])
    | none => ok s

/-- REPLAY_WINDOW_RELEASE (R403): a requester has passed no counter check for 2 ms. -/
def execReplayWindowRelease (sid node : Fin 1024) (s : State) : Host.Outcome State Fault Refusal :=
  if (s.sess sid.val).peer.getLsbD 10 && (s.sess sid.val).wins.any fun w => w.node == node.val then
    ok (s.modSess sid.val fun e => { e with wins := e.wins.filter fun w => w.node != node.val })
  else ok s

/-- SAFETY_SHARE_INTERVAL (R408): SAFETY has its share again, at the server and at the ports. -/
def execSafetyShareInterval (s : State) : Host.Outcome State Fault Refusal :=
  let s := { s with ss := { s.ss with safetyUsed := 0 } }
  ok (State.each (fun p s => (s.modPort p fun x => { x with safetyUsed := 0 }).drain p) s.linkedPorts s)

/-- The block takes commands of software. -/
def State.ssLive (s : State) : Bool := s.phase == .running && !s.inReset .sess

/-- LOAD_KEY (R416). -/
def execLoadKey (s : State) : Host.Outcome State Fault Refusal := if s.ssLive then ok (s.entryCmd false) else ok s

/-- ENTRY_CLEAR (R416). -/
def execEntryClear (s : State) : Host.Outcome State Fault Refusal := if s.ssLive then ok (s.entryCmd true) else ok s

/-- SS_BOOT_WRITE (R413, R416). -/
def execSsBootWrite (v : Word) (s : State) : Host.Outcome State Fault Refusal := if s.ssLive then ok (s.ssBootWrite v) else ok s

/-- A REFUSE at the origin of a dropped frame (R382): the operation ends REFUSED_VERSION. -/
def State.refuseIn (s : State) (oseq : Nat) (lane : Option Nat) : State :=
  match lane with
  | some n => if n < 16 then s.incF (Fd.RFX_WCNT_REFUSED_VERSION n) else s
  | none =>
    match s.ss.out.find? fun r => r.oseq == oseq && !r.own && !r.bcast with
    | some r => s.completeReq r rVersion 0 0 []
    | none =>
      match s.peekOf oseq with
      | some k => s.peekFail k 8
      | none => s

/-- REFUSE_RECEIVE (R382). -/
def execRefuseReceive (s : State) : Host.Outcome State Fault Refusal :=
  match s.takeFrame 0x08 with
  | some ((_, f), s) =>
    match f.body with
    | .refuse oseq lane => ok (s.refuseIn oseq lane)
    | _ => ok s
  | none => ok s

/-- WAKE_FRAME_RECEIVE (R89, R394). -/
def execWakeFrameReceive (s : State) : Host.Outcome State Fault Refusal :=
  match s.takeFrame 0x0A with
  | some (_, s) => ok (if s.numbered then s.wakeEvent wkFrame else s)
  | none => ok s

end Sys2Proof.Machine
end

