-- ==== Sys2Proof/Machine/ShuntCmd.lean ====
section
/-! DEFINITION. The commands of the shunters (R424 to R438), with their accesses to the local map (R429 to
R432). -/

namespace Sys2Proof.Machine

/-! ### Local pieces (R429, R430, R432) -/

/-- Blocks and offsets that no shunter reaches. -/
def shProtected (a : Nat) : Bool :=
  match blkOf a with
  | some b => match b with
    | .sys => true
    | .sigbox => true
    | .tally => true
    | .triad _ => true
    | .shunt => true
    | .pool => true
    | .sess => 0x100 ≤ a % 0x10000 && a % 0x10000 < 0x200
    | .calst => 0x40 ≤ a % 0x10000 && a % 0x10000 < 0x5C
    | _ => false
  | none => false

/-- The DETAIL with which R430 refuses an access of `n` bytes. -/
def State.shRefuses (s : State) (write : Bool) (a n : Nat) : Option Nat :=
  if !mapped a n then some 1
  else if write && inFlash a then some 2
  else if inDevice a && !wordAt a n then some 3
  else if shProtected a then some 4
  else if write && programOwned a then some 5
  else if s.targetReset a then some 6
  else none

/-! ### Grants of the local fabric (R436) -/

/-- Whether the next local piece of a waybill can be performed: a write whose bytes have been read, or a read; none to a
page that is being healed (R462). -/
def State.shPieceReady (s : State) (n : Fin 16) : Bool :=
  let h := s.shu n
  let free := fun (dst : Bool) (k : Nat) => !(inSram (h.addr dst k) && s.healingAt (h.addr dst k) (h.pieceLen dst k))
  if h.loc true && h.canWrite then free true h.wr else h.loc false && h.nextRd < h.total && free false h.nextRd

/-- Whether a shunter has an access for the local fabric that can be performed now. -/
def State.shWaits (s : State) (n : Fin 16) : Bool :=
  let h := s.shu n
  let cur := s.shCur n
  s.shActive n && match h.stage with
    | .fetch => isLocal cur.2 && !s.healingAt cur.1.toNat 64
    | .back => isLocal cur.2 && !s.healingAt cur.1.toNat 64
    | .move => h.fail.isNone && s.shPieceReady n
    | _ => false

/-- The shunter that the local fabric serves next: of the highest PRIO, and in turn among equals. -/
def State.shNextGrant (s : State) : Option (Fin 16) :=
  [3, 2, 1, 0].findSome? fun pr => s.shOrder.find? fun n => s.getF (Fd.SH_CFG_PRIO n.val) == pr && s.shWaits n

def State.shGranted (s : State) (n : Fin 16) : Bool := s.shNextGrant == some n

/-- The local fabric serves a shunter. -/
def State.shServed (s : State) (n : Fin 16) : State := { s with shTurn := n }

/-- A local access fails the waybill, whose data ends there. -/
def State.shLocalFail (s : State) (n : Fin 16) (dst : Bool) (code detail a : Nat) : State :=
  if s.shActive n then ((s.shFail n code detail (b2n dst) (some (errAddr true a))).shCheckEnd n).shPumpAll else s

/-- A local write of the next piece. -/
def State.shLocalWrite (s : State) (n : Fin 16) : State :=
  let h := s.shu n
  let k := h.wr
  let len := h.pieceLen true k
  let a := h.addr true k
  match s.shRefuses true a len with
  | some d => s.shLocalFail n true 4 d a
  | none =>
    let bs := h.swapped k len
    let s := (s.shFeed n true bs).modShu n fun h => { h with wr := k + len }
    match s.fabWrite (.shunter n) a bs with
    | (.poison, s) => s.shLocalFail n true 6 0 a
    | (_, s) => (s.shCheckEnd n).shPumpAll

/-- A local read of the next piece, widened in SRAM and flash. -/
def State.shLocalRead (s : State) (n : Fin 16) : State :=
  let h := s.shu n
  let k := h.nextRd
  let len := h.pieceLen false k
  let a := h.addr false k
  match s.shRefuses false a len with
  | some d => s.shLocalFail n false 4 d a
  | none =>
    let w := h.widened k len
    if h.ctrl 9 && inSram a && s.anyMark isUnwritten a len then s.shLocalFail n false 7 0 a
    else
      match s.fabRead (.shunter n) w.1 w.2 with
      | (none, s) => s.shLocalFail n false 6 0 a
      | (some bs, s) =>
        if s.shActive n then
          let s := s.modShu n fun h => { h with nextRd := k + len }
          ((s.shRead n k ((bs.drop (a - w.1)).take len)).shCheckEnd n).shPumpAll
        else s

/-- LOCAL_PIECE_RESPONSE: the next local piece of the shunter that the fabric serves is performed (R436): a write whose
bytes have been read, or else a read. -/
def execLocalPieceResponse (n : Fin 16) (s : State) : Host.Outcome State Fault Refusal :=
  let h := s.shu n
  if s.shGranted n && h.stage == .move then
    let s := s.shServed n
    ok (if h.loc true && h.canWrite then s.shLocalWrite n else s.shLocalRead n)
  else ok s

/-! ### The commands of R424 -/

/-- SH_GO (R424). -/
def execShGo (n : Fin 16) (s : State) : Host.Outcome State Fault Refusal :=
  if s.shLive then ok (s.shCtrl n 1) else ok s

/-- SH_RESUME (R424). -/
def execShResume (n : Fin 16) (s : State) : Host.Outcome State Fault Refusal :=
  if s.shLive then ok (s.shCtrl n 2) else ok s

/-- SH_STOP (R425). -/
def execShStop (n : Fin 16) (s : State) : Host.Outcome State Fault Refusal :=
  if s.shLive then ok (s.shCtrl n 4) else ok s

/-! ### Fetch and write-back (R426, R434) -/

/-- How a station request of a fetch has ended. -/
def State.shFetchEnd (s : State) (n : Fin 16) (c d : Nat) (bs : List Byte) : State :=
  (if c = 0 then s.shFetched n (wordsOfBytes bs) else s.fetchFail n c d).shPumpAll

/-- WAYBILL_FETCH_COMPLETE: the waybill has been read, from SRAM or through the session. -/
def execWaybillFetchComplete (n : Fin 16) (s : State) : Host.Outcome State Fault Refusal :=
  let h := s.shu n
  let cur := s.shCur n
  if s.shActive n && h.stage == .fetch then
    if isLocal cur.2 then
      if !s.shGranted n then ok s
      else match (s.shServed n).sramLoad cur.1.toNat 64 with
        | (.data v, s) => ok (if s.shActive n then s.shFetchEnd n 0 0 (leBytes v 64) else s)
        | (.poison, s) => ok (if s.shActive n then s.shFetchEnd n 6 0 [] else s)
    else match h.got with
      | some (c, d, bs) => ok (s.shFetchEnd n c d bs)
      | none => ok s
  else ok s

/-- The words that a local write-back writes: word 15, and then words 0 and 1 as one. -/
def State.shWriteBack (s : State) (n : Fin 16) : Bool × State :=
  let h := s.shu n
  let a := (s.shCur n).1.toNat
  let (p, s) := if h.back = 2 then s.sramWrite (a + 60) (leBytes (h.word 15).toNat 4) else (true, s)
  if p then s.sramWrite a (leBytes ((h.word 0).toNat + 2 ^ 32 * (h.word 1).toNat) 8) else (false, s)

/-- WAYBILL_WRITEBACK_COMPLETE: the write-back has had its response. -/
def execWaybillWritebackComplete (n : Fin 16) (s : State) : Host.Outcome State Fault Refusal :=
  let h := s.shu n
  let cur := s.shCur n
  if s.shActive n && h.stage == .back then
    if isLocal cur.2 then
      if !s.shGranted n then ok s
      else match (s.shServed n).shWriteBack n with
        | (true, s) => ok (if s.shActive n then s.shComplete n none else s)
        | (false, s) => ok (if s.shActive n then s.shComplete n (some (6, 0)) else s)
    else match h.got with
      | some (c, d, _) => ok (s.shComplete n (if c = 0 then none else some (c, d)))
      | none => ok s
  else ok s

/-! ### Time limits (R423, R431, R433) -/

/-- LOCAL_ACCESS_TIMEOUT: a local access has had no response for 10 µs. -/
def execLocalAccessTimeout (n : Fin 16) (s : State) : Host.Outcome State Fault Refusal :=
  let h := s.shu n
  if s.shActive n then
    match h.stage with
    | .fetch => if isLocal (s.shCur n).2 then ok ((s.fetchFail n 5 0).shPumpAll) else ok s
    | .back => if isLocal (s.shCur n).2 then ok (s.shComplete n (some (5, 0))) else ok s
    | .move =>
      if h.fail.isSome then ok s
      else if h.loc true && h.canWrite then ok (s.shLocalFail n true 5 0 (h.addr true h.wr))
      else if h.loc false && h.nextRd < h.total then ok (s.shLocalFail n false 5 0 (h.addr false h.nextRd))
      else ok s
    | _ => ok s
  else ok s

/-- A piece that waits to be sent again: 2 ms after it was first sent it ends REFUSED. -/
def State.retryPiece (s : State) (n : Fin 16) (p : Piece) : State :=
  match p.again with
  | some r =>
    if s.now - p.first < 2000000 then s.modPiece n p.off p.write fun p => { p with again := none }
    else s.pieceFail n p 8 r
  | none => s

/-- PIECE_RETRY_TIMER: 10 µs after a refusal by quota or a full queue, the pieces are sent again. -/
def execPieceRetryTimer (n : Fin 16) (s : State) : Host.Outcome State Fault Refusal :=
  if s.shActive n then ok ((State.each (fun p s => s.retryPiece n p) (s.shu n).pieces s).shPumpAll) else ok s

/-- CRC_UNIT_WAIT_TIMEOUT: the unit has not been free for 10 µs (R423). -/
def execCrcUnitWaitTimeout (n : Fin 16) (s : State) : Host.Outcome State Fault Refusal :=
  if s.shActive n && (s.shu n).stage == .unit then ok ((((s.shFail n 4 7 0 none).toBack n).shPump n).shPumpAll) else ok s

/-- SHUNT_ENGINE_MISMATCH (R438). -/
def execShuntEngineMismatch (n : Fin 16) (s : State) : Host.Outcome State Fault Refusal :=
  if s.shActive n then ok (((s.shRest n 3 7 (s.shCur n)).raise 103).shPumpAll) else ok s

end Sys2Proof.Machine
end

