-- ==== Sys2Proof/Machine/SigBoxCmd.lean ====
section
/-! DEFINITION. The commands of the signal box (R483, R484, R486, R489, R492, R493). -/

namespace Sys2Proof.Machine

/-- The sources of the vote, of resynchronisation and of recovery, which are absent in a split triad
(R194). -/
def voteSource (src : Nat) : Bool := src ≤ 3 || src == 6

/-- SOURCE_RAISE (R486): a source raises itself on its pair; reserved sources are never set, and
SB127 has no pair (R483, R494), and those of the vote are never set for a split triad (R194). On a broken pair a well-formed raise re-arms the pair as well. -/
def execSourceRaise (src : Fin 128) (t : Triad) (s : State) : Host.Outcome State Fault Refusal :=
  if reservedSource src.val || src.val == 127 || s.phase == .unpowered || (voteSource src.val && s.split t) then ok s
  else ok ((s.clrBitF (Fd.SB_WIRE_BITS (src.val / 32)) (src.val % 32)).raise src.val (wireBy src.val t))

/-- WIRE_BREAK (R483): a pair is declared broken. When both rails open together the pair shows the
raised levels first, so its source acts once before the declaration. -/
def execWireBreak (src : Fin 128) (bothOpen : Bool) (t : Triad) (s : State) : Host.Outcome State Fault Refusal :=
  if src.val == 127 || s.phase == .unpowered || s.bitF (Fd.SB_WIRE_BITS (src.val / 32)) (src.val % 32) then ok s
  else
    let s := if bothOpen && !(voteSource src.val && s.split t) then s.raise src.val (wireBy src.val t) else s
    ok ((s.setBitF (Fd.SB_WIRE_BITS (src.val / 32)) (src.val % 32)).raise 127)

/-- WIRE_REARM (R483): a broken pair has read idle for 1 ms and is re-armed. -/
def execWireRearm (src : Fin 128) (s : State) : Host.Outcome State Fault Refusal :=
  ok (s.clrBitF (Fd.SB_WIRE_BITS (src.val / 32)) (src.val % 32))

/-- COLLECTOR_MISMATCH (R484): the collector's copies disagree; SELF is set and the error pair stays
in error until the next chip reset or power-on reset. -/
def execCollectorMismatch (s : State) : Host.Outcome State Fault Refusal :=
  if s.phase = .unpowered then ok s else ok (s.onF Fd.SB_STAT_SELF)

/-- QUIET_TIMER_EXPIRY (R489): the quiet timer runs out; the box returns to NORMAL and counts one
recovery. -/
def execQuietTimerExpiry (s : State) : Host.Outcome State Fault Refusal :=
  if s.phase = .running ∧ s.isF Fd.SB_STAT_STATE = true then
    let s := (s.offF Fd.SB_STAT_STATE).incF Fd.SB_RECOVER_COUNT
    ok { s with sb := { s.sb with errSince := false, quietEnd := 0 } }
  else ok s

/-- SB_CFG_WRITE (R492). -/
def execSbCfgWrite (src : Fin 128) (v : Word) (s : State) : Host.Outcome State Fault Refusal :=
  if s.phase = .running then ok (s.sbCfgWrite src.val v) else ok s

/-- SB_LOCK (R493). -/
def execSbLock (s : State) : Host.Outcome State Fault Refusal :=
  if s.phase = .running then ok s.sbLock else ok s

end Sys2Proof.Machine
end

