-- ==== Sys2Proof/Machine/SpxCmd.lean ====
section
/-! DEFINITION. The commands of the SPX port (R518 to R537). -/

namespace Sys2Proof.Machine

/-- SPX_CFG_WRITE (R518). -/
def execSpxCfgWrite (v : Word) (s : State) : Host.Outcome State Fault Refusal := if s.spxLive then ok (s.spxCfgWrite v) else ok s

/-- SPX_GO (R522): `din` is what the target will drive, by byte or by unit, each in the order in which its bits
arrive. -/
def execSpxGo (din : List Word) (s : State) : Host.Outcome State Fault Refusal := if s.spxLive then ok (s.spxGo din) else ok s

/-- SPX_ABORT (R525). -/
def execSpxAbort (s : State) : Host.Outcome State Fault Refusal := if s.spxLive then ok s.spxAbort else ok s

/-- SPX_TX_FLUSH (R525). -/
def execSpxTxFlush (s : State) : Host.Outcome State Fault Refusal := if s.spxLive then ok s.spxTxFlush else ok s

/-- SPX_RX_FLUSH (R525). -/
def execSpxRxFlush (s : State) : Host.Outcome State Fault Refusal := if s.spxLive then ok s.spxRxFlush else ok s

/-- MASTER_FRAME_END (R524). -/
def execMasterFrameEnd (s : State) : Host.Outcome State Fault Refusal := if s.spxLive then ok s.spxFrameEnd else ok s

/-- SPX_TX_WINDOW_WRITE (R523). -/
def execSpxTxWindowWrite (v : Word) (s : State) : Host.Outcome State Fault Refusal :=
  if s.spxLive then ok (s.spxTxWrite v) else ok s

/-- SPX_RX_WINDOW_READ (R523). -/
def execSpxRxWindowRead (s : State) : Host.Outcome State Fault Refusal := if s.spxLive then ok s.spxRxRead.2 else ok s

/-- SPX_MODE_FAULT (R528): `nSPX_SS` falls while the port is mastering; without `VIO_IN` it counts as deasserted
(R38). -/
def execSpxModeFault (s : State) : Host.Outcome State Fault Refusal :=
  if s.spxLive && s.spxBusy && s.pwr.vioOk then ok s.spxModeFault else ok s

/-- SLAVE_SELECT_FALL (R529); without `VIO_IN` the select counts as deasserted (R38). -/
def execSlaveSelectFall (s : State) : Host.Outcome State Fault Refusal :=
  if s.phase = .unpowered ∨ s.spxBusy = true ∨ s.pwr.vioOk = false then ok s else ok s.slaveFall

/-- SLAVE_FRAME_APPLY (R530, R531): the select rises after the frame `f`. -/
def execSlaveFrameApply (f : SlaveFrame) (s : State) : Host.Outcome State Fault Refusal := ok (s.slaveRise f)

/-- MAILBOX_READ (R535). -/
def execMailboxRead (s : State) : Host.Outcome State Fault Refusal := if s.spxLive then ok s.mailRead.2 else ok s

/-- MAILBOX_WRITE (R535). -/
def execMailboxWrite (v : Word) (s : State) : Host.Outcome State Fault Refusal := if s.spxLive then ok (s.mailWrite v) else ok s

/-- SPX_NEG_RESET (R532). -/
def execSpxNegReset (s : State) : Host.Outcome State Fault Refusal := if s.spxLive then ok s.negReset else ok s

end Sys2Proof.Machine
end

