-- ==== Sys2Proof/Machine/SysCmd.lean ====
section
/-! DEFINITION. The commands that reach the registers of any block (R514, R559, R562), and the end of a heal (R462). -/

namespace Sys2Proof.Machine

/-- Whether a register of an assigned block can be reached now. -/
def State.regServes (s : State) (a : Nat) : Bool := s.phase == .running && (slotOf a).isSome && !s.targetReset a

/-- PAGE_HEAL_COMPLETE (R462). -/
def execPageHealComplete (s : State) : Host.Outcome State Fault Refusal :=
  if s.phase == .running then ok s.healDone else ok s

/-- RFG_REL_WRITE (R514). -/
def execRfgRelWrite (by_ : Agent) (v : Word) (s : State) : Host.Outcome State Fault Refusal :=
  if s.phase == .running then ok (s.rfgRelWrite by_ v).2 else ok s

/-- LATCHING_LO_READ (R559). -/
def execLatchingLoRead (r : LoReg) (s : State) : Host.Outcome State Fault Refusal :=
  if s.regServes r.addr then ok (s.loRead r.addr).2 else ok s

/-- REGISTER_WRITE (R10, R562): a whole word by a requester. -/
def execRegisterWrite (by_ : Agent) (a v : Word) (s : State) : Host.Outcome State Fault Refusal :=
  if s.regServes a.toNat then ok (s.devWrite by_ a.toNat v 0xFFFF_FFFF).2 else ok s

end Sys2Proof.Machine
end

