-- ==== Sys2Proof/Machine/TallyCmd.lean ====
section
/-! DEFINITION. The commands of the tally watchdog (R500 to R511). -/

namespace Sys2Proof.Machine

/-- TALLY_WINDOW_OPEN (R502): the count reaches F x PERIOD. -/
def execTallyWindowOpen (s : State) : Host.Outcome State Fault Refusal :=
  if s.tlCounting && !s.isF Fd.TL_STAT_OPEN then ok s.tlOpen else ok s

/-- TALLY_PERIOD_END (R503, R510). -/
def execTallyPeriodEnd (s : State) : Host.Outcome State Fault Refusal :=
  if s.tlCounting then ok s.tlPeriodEnd else ok s

/-- TALLY_COUNT_START_TIMEOUT (R505): 1 s after boot counting starts. -/
def execTallyCountStartTimeout (s : State) : Host.Outcome State Fault Refusal :=
  if s.phase = .running then ok s.tlStart else ok s

/-- ERASE_GUARD_EXPIRY (R506): the suspended time of the period has reached 2.0 s. -/
def execEraseGuardExpiry (s : State) : Host.Outcome State Fault Refusal :=
  if s.isF Fd.TL_STAT_SUSPENDED then
    let s := s.offF Fd.TL_STAT_SUSPENDED
    ok ({ s with tl := { s.tl with guardOut := true } }.raise 115)
  else ok s

/-- CONSEC_CLEAR_TIMEOUT (R511): 10 s after a reset release without a further step 2. -/
def execConsecClearTimeout (s : State) : Host.Outcome State Fault Refusal :=
  if s.phase = .running then ok (s.offF Fd.TL_CONSEC_COUNT) else ok s

/-- TALLY_COPY_MISMATCH (R500): the two copies disagree and step 2 is taken at once. -/
def execTallyCopyMismatch (s : State) : Host.Outcome State Fault Refusal :=
  if s.phase = .running ∧ s.pwr.failing = false then ok s.tlStep2 else ok s

/-- TL_KEY_WRITE (R507). -/
def execTlKeyWrite (v : Word) (s : State) : Host.Outcome State Fault Refusal :=
  if s.phase = .running then ok (s.tlKeyWrite v.toNat) else ok s

/-- TL_EN_WRITE (R501). -/
def execTlEnWrite (v : Word) (s : State) : Host.Outcome State Fault Refusal :=
  if s.phase = .running then ok (s.tlEnWrite v) else ok s

/-- TL_CTRL_EN_WRITE (R501, R507): a write of `TL_CTRL` that sets or clears EN and leaves DBG_HOLD. -/
def execTlCtrlEnWrite (en : Bool) (s : State) : Host.Outcome State Fault Refusal :=
  if s.phase = .running then
    ok (s.tlCtrlWrite (fieldPut (s.getR Rg.TL_CTRL &&& 4) 0 1 (b2n en)))
  else ok s

/-- TL_LOCK (R508): a write of `TL_CTRL` that sets LOCK and leaves EN and DBG_HOLD. -/
def execTlLock (s : State) : Host.Outcome State Fault Refusal :=
  if s.phase = .running then ok (s.tlCtrlWrite (s.getR Rg.TL_CTRL ||| 2)) else ok s

/-- TL_DBG_HOLD_WRITE (R507): a write of `TL_CTRL` that sets or clears DBG_HOLD and leaves EN. -/
def execTlDbgHoldWrite (hold : Bool) (s : State) : Host.Outcome State Fault Refusal :=
  if s.phase = .running then
    ok (s.tlCtrlWrite (fieldPut (s.getR Rg.TL_CTRL &&& 1) 2 1 (b2n hold)))
  else ok s

/-- TL_PERIOD_WRITE (R502, R507). -/
def execTlPeriodWrite (v : Word) (s : State) : Host.Outcome State Fault Refusal :=
  if s.phase = .running then ok (s.tlPeriodWrite v) else ok s

/-- TL_ESC_WRITE (R507, R511). -/
def execTlEscWrite (v : Word) (s : State) : Host.Outcome State Fault Refusal :=
  if s.phase = .running then ok (s.tlEscWrite v) else ok s

end Sys2Proof.Machine
end

