-- ==== Sys2Proof/Machine/Departure.lean ====
section
/-! DEFINITION. The departure (R210): what has to be resolved before it, the channels, the counters of missed
departures, the manifest of the new epoch, the check for STABLED. -/

namespace Sys2Proof.Machine

/-- Every channel at the departure at `te`, the one before it having been at `tp`. -/
def State.departAll (s : State) (env : DepEnv) (tp te : Nat) : State :=
  let m := s.mani
  State.each (fun (n : Fin 16) s => s.departCh tp te (env.strobeMiss.getLsbD n) (env.skewDp.getLsbD n) (env.skewDie.getLsbD n)
    (vget m.apply n) (vget m.missed n) n)
    all16 s

/-- The channels of a triad miss the departure. -/
def State.triadMissed (s : State) (t : Triad) : Bool :=
  all16.any fun c => vget s.mani.missed c && s.chTriad c == some t

/-- The epoch that begins, delivered to both triads (R163, R210). -/
def State.enterEpoch (s : State) (e : Nat) : State :=
  { s with tt := { s.tt with epoch := e, nextE := e + 1, ran := true, started := true } }

/-- The sources of channels whose copies differ, and of those that this faults (R266). -/
def State.raiseSkew (s : State) (env : DepEnv) (before : List Nat) : State :=
  let s := State.each (fun n s =>
    if s.chSt n == stFaulted && before.getD n.val 0 != stFaulted then s.raise (80 + n.val) else s) all16 s
  if env.skewDp ||| env.skewDie = 0 then s else s.raise 126

/-- Departure `s.tt.nextE` (R210). The commit deadline and the close of the manifest lie before it. -/
def State.depart (s : State) (env : DepEnv) : State :=
  if !s.ttLive || !s.locked then s
  else
    let s := s.commitDeadline.closeManifest
    if s.phase ≠ .running then s
    else
      let e := s.tt.nextE
      let te := s.nextDep
      let tp := te - s.period * 1000
      let s := s.advanceTo te
      let before := all16.map s.chSt
      let missA := s.triadMissed .a
      let missB := s.triadMissed .b
      let sleep := s.asleep
      let s := s.departAll env tp te
      let s := ((s.periodChange e te).revChange).enterEpoch e
      let s := if sleep then s else (s.countMiss .a missA).countMiss .b missB
      let s := s.newProposals
      let s := if s.maniLive then s.startEpoch else s
      let s := State.laneEvent evDeparture 0 s.depIrq
      let s := ((s.publish tp te).closeIfFull).sleepCheck
      let s := s.checkMismatch.raiseSkew env before
      (if !sleep && (missA || missB) then s.missRefuge else s).actsAtDep

end Sys2Proof.Machine
end

