-- ==== Sys2Proof/Machine/TimetableCmd.lean ====
section
/-! DEFINITION. The commands of the timetable and of the manifest (R198 to R242). -/

namespace Sys2Proof.Machine

/-! ### Time and mastership -/

/-- TIME_FRAME_SEND_TIMER (R199): at a departure, or 100 µs after the last one. -/
def execTimeFrameSendTimer (s : State) : Host.Outcome State Fault Refusal :=
  if s.ttLive && s.isF Fd.TT_STAT_MASTER then ok s.sendTime else ok s

/-- TIME_FRAME_RECEIVE (R199 to R203): the oldest time frame that has been delivered. -/
def execTimeFrameReceive (s : State) : Host.Outcome State Fault Refusal :=
  match s.takeFrame 0x01 with
  | some ((p, f), s) =>
    match f.body with
    | .time m => ok (s.timeIn (s.getF (Fd.OV_DELAY_DELAY (p.getD .east).idx)) m)
    | _ => ok s
  | none => ok s

/-- SELF_MASTER_TIMEOUT (R201). -/
def execSelfMasterTimeout (s : State) : Host.Outcome State Fault Refusal := ok s.selfMaster

/-- MASTER_LOSS_TIMEOUT (R202). -/
def execMasterLossTimeout (s : State) : Host.Outcome State Fault Refusal := if s.ttLive then ok s.enterHoldover else ok s

/-- MASTER_TAKES_OFFICE (R202). -/
def execMasterTakesOffice (s : State) : Host.Outcome State Fault Refusal := ok s.takeOffice

/-- UNLOCKED_PERIOD_TICK (R204). -/
def execUnlockedPeriodTick (s : State) : Host.Outcome State Fault Refusal :=
  if s.phase = .running ∧ s.locked = false ∧ s.tt.wasLocked = true then ok s.unlockedTick else ok s

/-- BOUND_COMPUTATION (R206). -/
def execBoundComputation (s : State) : Host.Outcome State Fault Refusal := if s.ttLive then ok s.computeBound else ok s

/-- TT_PERIOD_WRITE (R207, R241). -/
def execTtPeriodWrite (v : Word) (s : State) : Host.Outcome State Fault Refusal := if s.ttLive then ok (s.ttPeriodWrite v) else ok s

/-! ### Departures and the manifest -/

/-- DEPARTURE (R210). -/
def execDeparture (env : DepEnv) (s : State) : Host.Outcome State Fault Refusal := ok (s.depart env)

/-- ENTRY_RECEIVE (R215, R226, R227): the oldest entry that has been delivered. -/
def execEntryReceive (s : State) : Host.Outcome State Fault Refusal :=
  match s.takeFrame 0x04 with
  | some ((_, f), s) =>
    match f.body with
    | .entry m => if s.maniLive then ok (s.entryIn m) else ok s
    | _ => ok s
  | none => ok s

/-- MANIFEST_CLOSE (R225): at t_e + C, also where the node has lost lock since t_e. -/
def execManifestClose (s : State) : Host.Outcome State Fault Refusal :=
  if s.maniLive && s.mani.gathering then
    let s := if s.locked then s.advanceTo (s.depTime s.tt.epoch + 1000 * s.getF Fd.TT_CLOSE_C) else s
    ok s.closeManifest
  else ok s

/-- COMMIT_DEADLINE (R232): 2 µs before the next departure. -/
def execCommitDeadline (s : State) : Host.Outcome State Fault Refusal :=
  if s.ttLive && s.locked then ok (s.advanceTo s.deadline).commitDeadline else ok s

/-! ### Proposals of other nodes -/

/-- Takes the oldest delivered notice of a kind. -/
def State.takeNotice (s : State) (final : Bool) : Option ((Frame × NoticeMsg) × State) :=
  let pick := fun x : Option Port × Frame => match x.2.body with
    | .notice m => m.final == final
    | _ => false
  match takeFirst pick s.ov.inbox with
  | some ((_, f), r) =>
    match f.body with
    | .notice m => some ((f, m), { s with ov := { s.ov with inbox := r } })
    | _ => none
  | none => none

/-- FINAL_NOTICE_RECEIVE (R231, R232). -/
def execFinalNoticeReceive (s : State) : Host.Outcome State Fault Refusal :=
  match s.takeNotice true with
  | some ((f, m), s) => if s.maniLive then ok (s.noticeIn f.src f.oseq m) else ok s
  | none => ok s

/-- RETRACTION_RECEIVE (R231). -/
def execRetractionReceive (s : State) : Host.Outcome State Fault Refusal :=
  match s.takeNotice false with
  | some ((f, m), s) => if s.maniLive then ok (s.noticeIn f.src f.oseq m) else ok s
  | none => ok s

/-- PEEK_REQ_RECEIVE (R169). -/
def execPeekReqReceive (s : State) : Host.Outcome State Fault Refusal :=
  match s.takeFrame 0x10 with
  | some ((_, f), s) =>
    match f.body with
    | .peekReq m => if s.phase = .running then ok (s.peekReqIn f.src m) else ok s
    | _ => ok s
  | none => ok s

/-- The machine that waits for the reply to a PEEK. -/
def State.peekWaiter (s : State) (node : Nat) (m : PeekRepMsg) : Option (Mach × BitVec 5) :=
  Mach.all.findSome? fun k => match (s.mach k).wait with
    | .peek rd n c r => if n == node && c == m.chan && r == m.req then some (k, rd) else none
    | _ => none

/-- A PEEK completes (R168): the value, the status, and the dependency where the proposal is still live here. -/
def State.peekDone (s : State) (k : Mach) (rd : BitVec 5) (v status : Word) : State :=
  (((s.modMach k fun x => { x with wait := .none }).wg k rd v).wg k (pairHi rd) status).retire k

/-- PEEK_REP_RECEIVE (R168, R169): a dependency on a proposal for the departure to come is recorded; a notice that the
producer sent after the reply, and that came first, has ended it already. -/
def execPeekRepReceive (s : State) : Host.Outcome State Fault Refusal :=
  match s.takeFrame 0x11 with
  | some ((_, f), s) =>
    match f.body with
    | .peekRep m =>
      match s.peekWaiter f.src m with
      | some (k, rd) =>
        if s.maniLive then
          let code := m.state % 16
          let dep := m.dep && code == 1 && s.hasEpoch && m.epoch == s.tt.nextE % 65536
          let s := if dep && !s.noticedAfter f.src m.chan f.oseq then
              s.notePeek k { node := f.src, chan := m.chan, depth := m.depth, seq := f.oseq }
            else s
          ok (s.peekDone k rd (if code = 1 ∨ code = 2 ∨ code = 4 then m.value else 0) (peekStatus code dep m.epoch))
        else ok s
      | none => ok s
    | _ => ok s
  | none => ok s

/-! ### Registers of `MANI` -/

/-- PUB_WRITE (R212, R242): word `i` of `PUB[k]`. -/
def execPubWrite (k : Fin 64) (i : Fin 2) (v : Word) (s : State) : Host.Outcome State Fault Refusal :=
  if s.maniLive then ok (s.pubWrite k.val i.val v) else ok s

/-- SUB_WRITE (R223): word `i` of `SUB[j]`. -/
def execSubWrite (j : Fin 4096) (i : Fin 2) (v : Word) (s : State) : Host.Outcome State Fault Refusal :=
  if s.maniLive then ok (s.subWrite j.val i.val v) else ok s

/-- MANI_BANK_SIZE_WRITE (R242). -/
def execManiBankSizeWrite (v : Word) (s : State) : Host.Outcome State Fault Refusal :=
  if s.maniLive then ok (s.bankSizeWrite v) else ok s

/-- MANI_REVT_READ (R235, R242). -/
def execManiRevtRead (t : Triad) (s : State) : Host.Outcome State Fault Refusal := if s.maniLive then ok (s.revtRead t).2 else ok s

end Sys2Proof.Machine
end

