-- ==== Sys2Proof/Machine/TapolChan.lean ====
section
/-! DEFINITION. Tapol channel, tally, fault and snapshot instructions (R153 to R161) and timetable instructions (R162
to R170). One that acts on a block in reset waits until the block has left it (R82). -/

namespace Sys2Proof.Machine

/-! ### CHMODE (R154, R155) -/

/-- CHMODE (R154, R155). -/
def execChmode (m : Mach) (gd ga gb : BitVec 5) (s : State) : Host.Outcome State Fault Refusal :=
  s.issue m fun s => s.chanDo m (.chmode gd (s.chanOf m ga) (s.rg m gb).toNat)

/-! ### CHSET and CHGET (R157, R158, R301, R302) -/

/-- CHSET (R157): an item of a reserved range is illegal. -/
def execChset (m : Mach) (i : BitVec 8) (gd ga gb : BitVec 5) (s : State) : Host.Outcome State Fault Refusal :=
  s.issue m fun s =>
    if 0x30 ≤ i.toNat then s.illegal m 0 (encR 0x1E gd ga gb (0x100 + i.toNat))
    else s.chanDo m (.chset i.toNat gd (s.chanOf m ga) (s.rg m gb))

/-- CHSET_START (R301): CHSET of item 0x00. -/
def execChsetStart (m : Mach) (gd ga gb : BitVec 5) (s : State) : Host.Outcome State Fault Refusal :=
  s.issue m fun s => s.chanDo m (.chset 0 gd (s.chanOf m ga) (s.rg m gb))

/-- CHGET (R157, R158). -/
def execChget (m : Mach) (i : BitVec 8) (gd ga : BitVec 5) (s : State) : Host.Outcome State Fault Refusal :=
  s.issue m fun s =>
    if 0x30 ≤ i.toNat then s.illegal m 0 (encR 0x1E gd ga 0 (0x200 + i.toNat))
    else s.chanDo m (.chget i.toNat gd (s.chanOf m ga))

/-! ### TALLY, RAISE, ROLL, ROLL.S (R159 to R161) -/

/-- TALLY (R159). -/
def execTally (m : Mach) (n : Fin 16) (gd : BitVec 5) (s : State) : Host.Outcome State Fault Refusal :=
  s.issue m fun s =>
    if !(s.mayUse m).testBit (16 + n.val) then s.ownerTrap m 2 n.val
    else
      let (c, s) := s.tlCheckIn n.val
      s.still m fun s => s.setRetire m gd (Word.ofNat c)

/-- RAISE (R160): SB127 cannot be raised. -/
def execRaise (m : Mach) (gd ga : BitVec 5) (s : State) : Host.Outcome State Fault Refusal :=
  s.issueStation m (encR 0x1E gd ga 0 0x400) fun s =>
    let src := (s.rg m ga).toNat % 128
    if src = 127 then s.setRetire m gd 1
    else (s.raise src (.program m.triad)).still m fun s => s.setRetire m gd 0

/-- ROLL (R161). -/
def execRoll (m : Mach) (gd : BitVec 5) (s : State) : Host.Outcome State Fault Refusal :=
  s.issue m fun s =>
    let (s, took) := s.rollTrigger 2
    s.still m fun s => s.setRetire m gd (if took then 0 else 1)

/-- ROLL.S (R161, R545). -/
def execRollS (m : Mach) (gd ga : BitVec 5) (s : State) : Host.Outcome State Fault Refusal :=
  s.issue m fun s =>
    let w := encR 0x1E gd ga 0 0x501
    if !pairOk ga then s.illegal m 1 w
    else if !s.atStation m then s.privTrap m w
    else
      let (c, s) := s.rollStation (s.pair64 m ga)
      s.still m fun s => s.setRetire m gd (Word.ofNat c)

/-! ### WAITD (R163) -/

/-- The epoch that a wait is held against, with the bank to hold: for WAITD.DEP the one delivered last, for WAITD.MAN
the latest one whose manifest has closed (R163, R238). -/
def State.waitdEpoch (s : State) (man : Bool) : Option (Nat × Option Nat) :=
  if man then s.mani.closed.map fun p => (p.1, some p.2) else if s.tt.ran then some (s.tt.epoch, none) else none

/-- That epoch satisfies the wait. -/
def State.waitdMet (s : State) (man : Bool) (u : Word) : Bool :=
  (s.waitdEpoch man).any fun p => (Word.ofNat p.1 - u).toNat < 2 ^ 31

/-- WAITD returns: the epoch goes into gd, and WAITD.MAN takes hold of its bank (R224). -/
def State.waitdEnd (s : State) (m : Mach) (man : Bool) (gd : BitVec 5) : State :=
  let s := s.modMach m fun x => { x with wait := .none }
  match s.waitdEpoch man with
  | some (e, some b) => (s.takeHold m e b).setRetire m gd (Word.ofNat e)
  | some (e, none) => s.setRetire m gd (Word.ofNat e)
  | none => s

/-- WAITD: returns, or waits. -/
def State.waitd (s : State) (m : Mach) (man : Bool) (gd ga : BitVec 5) : State :=
  let u := s.rg m ga
  if s.waitdMet man u then s.waitdEnd m man gd else s.modMach m fun x => { x with wait := .waitd man gd u }

/-- WAITD.DEP (R163). -/
def execWaitdDep (m : Mach) (gd ga : BitVec 5) (s : State) : Host.Outcome State Fault Refusal :=
  s.issue m fun s => s.waitd m false gd ga

/-- WAITD.MAN (R163). -/
def execWaitdMan (m : Mach) (gd ga : BitVec 5) (s : State) : Host.Outcome State Fault Refusal :=
  s.issue m fun s => s.waitd m true gd ga

/-- WAITD_RELEASE (R163): the wait is satisfied. -/
def execWaitdRelease (m : Mach) (s : State) : Host.Outcome State Fault Refusal :=
  match (s.mach m).wait with
  | .waitd man gd u => if s.running m && s.waitdMet man u then ok (s.waitdEnd m man gd) else ok s
  | _ => ok s

/-! ### PROPOSE, RETRACT, COMMIT (R164 to R167) -/

/-- PROPOSE (R164). -/
def execPropose (m : Mach) (gd ga gb : BitVec 5) (s : State) : Host.Outcome State Fault Refusal :=
  s.issue m fun s => s.chanDo m (.propose gd (s.chanOf m ga) (s.rg m gb))

/-- RETRACT (R166). -/
def execRetract (m : Mach) (gd ga : BitVec 5) (s : State) : Host.Outcome State Fault Refusal :=
  s.issue m fun s => s.chanDo m (.retract gd (s.chanOf m ga))

/-- COMMIT (R162, R167). -/
def execCommit (m : Mach) (gd ga : BitVec 5) (s : State) : Host.Outcome State Fault Refusal :=
  s.issue m fun s => s.chanDo m (.commit gd ((s.rg m ga).toNat % 65536))

/-! ### PEEK (R168, R169) -/

/-- PEEK (R162, R168). -/
def execPeek (m : Mach) (gd ga : BitVec 5) (s : State) : Host.Outcome State Fault Refusal :=
  s.issue m fun s =>
    if !pairOk gd then s.illegal m 1 (encR 0x1F gd ga 0 0x400)
    else s.chanDo m (.peek gd ((s.rg m ga).toNat / 16 % 1024) ((s.rg m ga).toNat % 16))

end Sys2Proof.Machine
end

