-- ==== Sys2Proof/Machine/TapolLong.lean ====
section
/-! DEFINITION. Long resumable instructions (R124 to R127, R149 to R151): each command performs one element, and the
one that leaves the remaining count at 0 completes the instruction. -/

namespace Sys2Proof.Machine

/-- What a read or a write of an element gives: a value, or the code, detail and address of its trap. -/
inductive ElemRes where
  | ok (v : Nat)
  | trap (code detail : Nat) (addr : Word)
deriving DecidableEq, Repr

/-- Whether the `n` bytes from `a` up lie in one region. -/
def spanIn (p : Nat → Bool) (a n : Nat) : Bool := p a && p (a + n - 1)

/-- The DETAIL of the ACCESS trap of an element's operand (R99, R124): sources lie in SRAM or flash, what is written in
SRAM and, at TASK, in the store window. -/
def State.elemAccess (s : State) (m : Mach) (write : Bool) (a n : Nat) : Option Nat :=
  if !(spanIn inSram a n || (!write && spanIn inFlash a n)) then some 6
  else if write && !s.atStation m && !s.inTwin m a n then some 3
  else none

/-- A read of `n` bytes of SRAM or flash by an element (R110, R112, R124): UNINIT comes before POISON (R116). -/
def State.elemRead (s : State) (m : Mach) (a n : Nat) : ElemRes × State :=
  let w := Word.ofNat a
  if spanIn inSram a n then
    let un := s.anyMark isUnwritten a n
    if un && s.uninitTraps m then (.trap 5 0 w, (s.eccTouchAll a n).raise 21)
    else match s.sramLoad a n with
    | (.poison, s) => (.trap 6 1 w, s)
    | (.data v, s) => (.ok v, s)
  else
    match s.flashLoad a n with
    | (some v, s) => (.ok v, s)
    | (none, s) => (.trap 6 1 w, s)

/-- A write of an element's bytes to SRAM. -/
def State.elemWrite (s : State) (a : Nat) (bs : List Byte) : ElemRes × State :=
  match s.sramWrite a bs with
  | (true, s) => (.ok 0, s)
  | (false, s) => (.trap 6 2 (Word.ofNat a), s)

/-- The trap of an element (R126); a POISON trap sets SB18. -/
def State.elemTrap (s : State) (m : Mach) (code detail : Nat) (a : Word) : State :=
  s.still m fun s => if code = 6 then s.poisonTrap m detail a else s.trap m code detail a

/-- An element whose operands pass R99, those read before the one written (R116): otherwise the ACCESS trap. -/
def State.elemOn (s : State) (m : Mach) (reads : List Nat) (n : Nat) (write : Option Nat) (f : State → State) : State :=
  match reads.find? fun a => (s.elemAccess m false a n).isSome with
  | some a => s.accessTrap m 6 (Word.ofNat a)
  | none =>
    match write.bind fun a => (s.elemAccess m true a n).map fun d => (a, d) with
    | some (a, d) => s.accessTrap m d (Word.ofNat a)
    | none => f s

/-- The registers of an element advance: `n` is added to each of `up` and `k` taken from gb, in order. -/
def State.progress (s : State) (m : Mach) (up : List (BitVec 5)) (n : Nat) (gb : BitVec 5) (k : Nat) : State :=
  let s := State.each (fun r s => s.wg m r (s.rg m r + Word.ofNat n)) up s
  s.wg m gb (s.rg m gb - Word.ofNat k)

/-- An element has ended: with nothing left the instruction retires. -/
def State.elemEnd (s : State) (m : Mach) (gb : BitVec 5) : State :=
  if s.rg m gb = 0 then s.retire m else s.modMach m fun x => { x with longRun := true }

/-- The ALIGN trap of a long instruction: `TVAL` holds the one address that is misaligned; otherwise the spec does not
say which address it holds. -/
def State.longAlign (s : State) (m : Mach) (bad : List Word) : State :=
  match bad with
  | [a] => s.alignTrap m a
  | _ =>
    let (v, s) := s.takeFree
    s.alignTrap m (v.setWidth 32)

/-- The addresses of a list that are not multiples of 4. -/
def misaligned (l : List Word) : List Word := l.filter fun a => a.toNat % 4 != 0

/-- The size of the next element of BMOV and BFILL (R124). -/
def elemSize (l : List Word) : Nat := if l.all fun a => a.toNat % 8 == 0 then 8 else 4

/-- One element of BMOV. -/
def State.bmovElem (s : State) (m : Mach) (gd ga gb : BitVec 5) : State :=
  let d := s.rg m gd
  let a := s.rg m ga
  let n := elemSize [d, a, s.rg m gb]
  if s.healingAt a.toNat n || s.healingAt d.toNat n then s
  else s.elemOn m [a.toNat] n (some d.toNat) fun s =>
    match s.elemRead m a.toNat n with
    | (.trap c k w, s) => s.elemTrap m c k w
    | (.ok v, s) => s.still m fun s =>
      match s.elemWrite d.toNat (leBytes v n) with
      | (.trap c k w, s) => s.elemTrap m c k w
      | (.ok _, s) => s.still m fun s => (s.progress m [gd, ga] n gb n).elemEnd m gb

/-- BMOV (R149). -/
def execBmov (m : Mach) (gd ga gb : BitVec 5) (s : State) : Host.Outcome State Fault Refusal :=
  s.issue m fun s =>
    if gd = 0 ∨ ga = 0 ∨ gb = 0 then s.illegal m 1 (encR 0x1D gd ga gb 0)
    else
      let bad := misaligned [s.rg m gd, s.rg m ga]
      if !bad.isEmpty || (s.rg m gb).toNat % 4 != 0 then s.longAlign m bad
      else if s.rg m gb = 0 then s.retire m
      else s.bmovElem m gd ga gb

/-- One element of BFILL. -/
def State.bfillElem (s : State) (m : Mach) (gd ga gb : BitVec 5) : State :=
  let d := s.rg m gd
  let n := elemSize [d, s.rg m gb]
  let v := (s.rg m ga).toNat
  if s.healingAt d.toNat n then s
  else s.elemOn m [] n (some d.toNat) fun s =>
    match s.elemWrite d.toNat (leBytes (v + 2 ^ 32 * v) n) with
    | (.trap c k w, s) => s.elemTrap m c k w
    | (.ok _, s) => s.still m fun s => (s.progress m [gd] n gb n).elemEnd m gb

/-- BFILL (R149): the fill word stands in ga, which does not change. -/
def execBfill (m : Mach) (gd ga gb : BitVec 5) (s : State) : Host.Outcome State Fault Refusal :=
  s.issue m fun s =>
    if gd = 0 ∨ gb = 0 then s.illegal m 1 (encR 0x1D gd ga gb 1)
    else
      let bad := misaligned [s.rg m gd]
      if !bad.isEmpty || (s.rg m gb).toNat % 4 != 0 then s.longAlign m bad
      else if s.rg m gb = 0 then s.retire m
      else s.bfillElem m gd ga gb

/-- One element of BCRC: up to 8 bytes enter the running value. -/
def State.bcrcElem (s : State) (m : Mach) (p : Poly) (gd ga gb : BitVec 5) : State :=
  let a := s.rg m ga
  let n := min 8 (s.rg m gb).toNat
  if s.healingAt a.toNat n then s
  else s.elemOn m [a.toNat] n none fun s =>
    match s.elemRead m a.toNat n with
    | (.trap c k w, s) => s.elemTrap m c k w
    | (.ok v, s) => s.still m fun s =>
      let c := crcBytes p ((s.rg m gd).toNat % 2 ^ p.width) (leBytes v n)
      ((s.wg m gd (Word.ofNat c)).progress m [ga] n gb n).elemEnd m gb

/-- BCRC (R149, R151). -/
def execBcrc (m : Mach) (p : BitVec 2) (gd ga gb : BitVec 5) (s : State) : Host.Outcome State Fault Refusal :=
  s.issue m fun s =>
    if gd = 0 ∨ ga = 0 ∨ gb = 0 then s.illegal m 1 (encR 0x1D gd ga gb (4 + p.toNat))
    else if s.rg m gb = 0 then s.retire m
    else s.bcrcElem m (Poly.ofCode p.toNat) gd ga gb

/-- The sum over the taps that are left, from tap `k` on (R149). -/
def State.firvTaps (m : Mach) (coef ga : Nat) : Nat → Nat → Int → State → (Int ⊕ ElemRes) × State
  | 0, _, acc, s => (.inl acc, s)
  | n + 1, k, acc, s =>
    match s.elemRead m ((coef + 4 * k) % 2 ^ 32) 4 with
    | (.trap c d w, s) => (.inr (.trap c d w), s)
    | (.ok x, s) =>
      match s.elemRead m ((ga + 4 * k) % 2 ^ 32) 4 with
      | (.trap c d w, s) => (.inr (.trap c d w), s)
      | (.ok y, s) => State.firvTaps m coef ga n (k + 1) (sat (acc + (Word.ofNat x).toInt * (Word.ofNat y).toInt) 64) s

/-- The words that one element of FIRV reads, in the order of R149. -/
def firvReads (coef ga taps : Nat) : List Nat :=
  (List.range taps).flatMap fun k => [(coef + 4 * k) % 2 ^ 32, (ga + 4 * k) % 2 ^ 32]

/-- A read meets the words of SRAM among some. -/
def State.touchWords (s : State) (l : List Nat) : State := State.each (fun a s => if inSram a then s.eccTouchAll a 4 else s) l s

/-- The trap that one element of FIRV meets among the words of SRAM that it reads: the first unwritten one, where such a
read traps, comes before the first poisoned one (R116). -/
def State.firvFirst (s : State) (m : Mach) (l : List Nat) : Option (Nat × Word) :=
  let first := fun (p : Option Mark → Bool) => l.find? fun a => inSram a && s.anyMark p a 4
  match (if s.uninitTraps m then first isUnwritten else none), first isPoisoned with
  | some a, _ => some (5, Word.ofNat a)
  | none, some a => some (6, Word.ofNat a)
  | none, none => none

/-- One element of FIRV. -/
def State.firvElem (s : State) (m : Mach) (gd ga gb : BitVec 5) : State :=
  let d := s.rg m gd
  let a := (s.rg m ga).toNat
  let desc := (s.rg m (gd + 1)).toNat
  let coef := desc / 64 * 64
  let taps := desc % 64 + 1
  if s.healingAt coef (4 * taps) || s.healingAt a (4 * taps) || s.healingAt d.toNat 4 then s
  else s.elemOn m (firvReads coef a taps) 4 (some d.toNat) fun s => (s.touchWords (firvReads coef a taps)).still m fun s =>
    match s.firvFirst m (firvReads coef a taps) with
    | some (c, w) => if c = 5 then (s.raise 21).elemTrap m 5 0 w else s.elemTrap m 6 1 w
    | none =>
    match State.firvTaps m coef a taps 0 0 s with
    | (.inr (.trap c k w), s) => s.elemTrap m c k w
    | (.inr (.ok _), s) => s
    | (.inl acc, s) => s.still m fun s =>
      match s.elemWrite d.toNat (leBytes (Word.ofInt (sat (rnd acc 31) 32)).toNat 4) with
      | (.trap c k w, s) => s.elemTrap m c k w
      | (.ok _, s) => s.still m fun s => (s.progress m [gd, ga] 4 gb 1).elemEnd m gb

/-- FIRV (R149, R150). -/
def execFirv (m : Mach) (gd ga gb : BitVec 5) (s : State) : Host.Outcome State Fault Refusal :=
  s.issue m fun s =>
    if gd = 0 ∨ gd = 31 ∨ ga = 0 ∨ gb = 0 then s.illegal m 1 (encR 0x1D gd ga gb 8)
    else
      let bad := misaligned [s.rg m gd, s.rg m ga]
      if !bad.isEmpty then s.longAlign m bad
      else if s.rg m gb = 0 then s.retire m
      else s.firvElem m gd ga gb

end Sys2Proof.Machine
end

