-- ==== Sys2Proof/Machine/TapolMem.lean ====
section
/-! DEFINITION. Tapol loads, stores and atomics (R141 to R143), station loads and stores (R171). -/

namespace Sys2Proof.Machine

/-! ### Loads and stores (R141, R142) -/

/-- A load of `width` bytes into gd. -/
def State.load (s : State) (m : Mach) (gd ga : BitVec 5) (i : BitVec 17) (width : Nat) (signed : Bool) :
    Host.Outcome State Fault Refusal :=
  s.issue m fun s => s.loadStore m { addr := (s.effAddr m ga i).toNat, width := width, signed := signed, rd := gd }

/-- A store of the low `width` bytes of gd. -/
def State.store (s : State) (m : Mach) (gd ga : BitVec 5) (i : BitVec 17) (width : Nat) : Host.Outcome State Fault Refusal :=
  s.issue m fun s => s.loadStore m { write := true, addr := (s.effAddr m ga i).toNat, width := width, data := s.rg m gd }

/-- LDW (R141): gd := mem32[a]. -/
def execLdw (m : Mach) (gd ga : BitVec 5) (i : BitVec 17) (s : State) : Host.Outcome State Fault Refusal := s.load m gd ga i 4 false

/-- LDH (R141): gd := sext(mem16[a]). -/
def execLdh (m : Mach) (gd ga : BitVec 5) (i : BitVec 17) (s : State) : Host.Outcome State Fault Refusal := s.load m gd ga i 2 true

/-- LDHU (R141): gd := zext(mem16[a]). -/
def execLdhu (m : Mach) (gd ga : BitVec 5) (i : BitVec 17) (s : State) : Host.Outcome State Fault Refusal := s.load m gd ga i 2 false

/-- LDB (R141): gd := sext(mem8[a]). -/
def execLdb (m : Mach) (gd ga : BitVec 5) (i : BitVec 17) (s : State) : Host.Outcome State Fault Refusal := s.load m gd ga i 1 true

/-- LDBU (R141): gd := zext(mem8[a]). -/
def execLdbu (m : Mach) (gd ga : BitVec 5) (i : BitVec 17) (s : State) : Host.Outcome State Fault Refusal := s.load m gd ga i 1 false

/-- STW (R141): mem32[a] := gd. -/
def execStw (m : Mach) (gd ga : BitVec 5) (i : BitVec 17) (s : State) : Host.Outcome State Fault Refusal := s.store m gd ga i 4

/-- STH (R141): mem16[a] := gd[15:0]. -/
def execSth (m : Mach) (gd ga : BitVec 5) (i : BitVec 17) (s : State) : Host.Outcome State Fault Refusal := s.store m gd ga i 2

/-- STB (R141): mem8[a] := gd[7:0]. -/
def execStb (m : Mach) (gd ga : BitVec 5) (i : BitVec 17) (s : State) : Host.Outcome State Fault Refusal := s.store m gd ga i 1

/-! ### Atomics (R143) -/

/-- The read and the write of an atomic on an SRAM word: `f old` is written where `p old` holds. -/
def State.atomicDo (s : State) (m : Mach) (gd : BitVec 5) (a : Nat) (p : Word → Bool) (f : Word → Word) : State :=
  let w := Word.ofNat a
  let un := s.anyMark isUnwritten a 4
  match s.sramLoad a 4 with
  | (.poison, s) => s.poisonTrap m 3 w
  | (.data v, s) =>
    if un && s.uninitTraps m then s.uninitTrap m w
    else s.still m fun s =>
      let old := Word.ofNat v
      (if p old then s.sramStore a (leBytes (f old).toNat 4)
       else if un then s.sramStore a (leBytes v 4) else s).setRetire m gd old

/-- An atomic on the word at ga: ALIGN, then ACCESS, then the operation. One on a page that is being healed is not
yet performed. -/
def State.atomic (s : State) (m : Mach) (gd ga : BitVec 5) (p : Word → Bool) (f : Word → Word) : State :=
  let a := (s.rg m ga).toNat
  if a % 4 ≠ 0 then s.alignTrap m (s.rg m ga)
  else if !inSram a then s.accessTrap m 5 (s.rg m ga)
  else if !s.atStation m && !s.inTwin m a 4 then s.accessTrap m 3 (s.rg m ga)
  else if s.healingAt a 4 then s
  else s.atomicDo m gd a p f

/-- SWAP (R143). -/
def execSwap (m : Mach) (gd ga gb : BitVec 5) (s : State) : Host.Outcome State Fault Refusal :=
  s.issue m fun s => s.atomic m gd ga (fun _ => true) fun _ => s.rg m gb

/-- AADD (R143). -/
def execAadd (m : Mach) (gd ga gb : BitVec 5) (s : State) : Host.Outcome State Fault Refusal :=
  s.issue m fun s => s.atomic m gd ga (fun _ => true) fun old => old + s.rg m gb

/-- CAS (R143): with gd = g0 it compares against 0. -/
def execCas (m : Mach) (gd ga gb : BitVec 5) (s : State) : Host.Outcome State Fault Refusal :=
  s.issue m fun s => s.atomic m gd ga (fun old => old == s.rg m gd) fun _ => s.rg m gb

/-! ### Station loads and stores (R171) -/

/-- Width in bytes and sign of LDS by func[2:0]; none where the encoding is illegal. -/
def ldsForm (w : BitVec 3) : Option (Nat × Bool) :=
  match w with
  | 0 => some (1, false)
  | 1 => some (2, false)
  | 2 => some (4, false)
  | 4 => some (1, true)
  | 5 => some (2, true)
  | _ => none

/-- Width in bytes of STS by func[2:0]. -/
def stsForm (w : BitVec 3) : Option Nat :=
  match w with
  | 0 => some 1
  | 1 => some 2
  | 2 => some 4
  | _ => none

/-- The session that gb names. -/
def State.sidOf (s : State) (m : Mach) (gb : BitVec 5) : Nat := (s.rg m gb).toNat % 1024

/-- LDS (R171). -/
def execLds (m : Mach) (w : BitVec 3) (gd ga gb : BitVec 5) (s : State) : Host.Outcome State Fault Refusal :=
  s.issue m fun s =>
    let word := encR 0x1F gd ga gb (0x500 + w.toNat)
    match ldsForm w with
    | none => s.illegal m 0 word
    | some (width, signed) =>
      let a := s.stationAddr m ga
      if !pairOk ga then s.illegal m 1 word
      else if a % width ≠ 0 then s.alignTrap m (Word.ofNat a)
      else s.stationAccess m { addr := a, width := width, signed := signed, rd := gd } (s.sidOf m gb)

/-- STS (R171). -/
def execSts (m : Mach) (w : BitVec 3) (gd ga gb : BitVec 5) (s : State) : Host.Outcome State Fault Refusal :=
  s.issue m fun s =>
    let word := encR 0x1F gd ga gb (0x600 + w.toNat)
    match stsForm w with
    | none => s.illegal m 0 word
    | some width =>
      let a := s.stationAddr m ga
      if !pairOk ga then s.illegal m 1 word
      else if a % width ≠ 0 then s.alignTrap m (Word.ofNat a)
      else s.stationAccess m { write := true, addr := a, width := width, data := s.rg m gd } (s.sidOf m gb)

end Sys2Proof.Machine
end

