-- ==== Sys2Proof/Machine/TriadCmd.lean ====
section
/-! DEFINITION. The commands of the triads (R132, R178 to R189). -/

namespace Sys2Proof.Machine

/-- PLATFORM_MISMATCH (R179): SB5 is set; the delivery that was withheld is sampled again, after the NMI entry where the
reaction is NMI, which takes the next slot (R118). -/
def execPlatformMismatch (t : Triad) (s : State) : Host.Outcome State Fault Refusal :=
  if s.alive (t.mach 0) then ok (s.raise 5 (.triad t)) else ok s

/-- LINE_FILL_DELIVERY (R178): a fill reaches the L1s; a core that requested another line, or none, has
lost the vote with kind 0x3. -/
def execLineFillDelivery (t : Triad) (odd : Option (Fin 3)) (s : State) : Host.Outcome State Fault Refusal :=
  match odd with
  | none => ok s
  | some c =>
    if s.voting t && s.getF (Fd.TR_STAT_MODE t.idx) == 0 then ok (s.becomeOdd t c.val 3)
    else if s.voting t && (s.liveCores t).contains c.val then ok (s.startRecovery t 3 2)
    else ok s

/-- VOTE_ODD_CORE (R181): two live cores of three agree and one differs. -/
def execVoteOddCore (t : Triad) (c : Fin 3) (kind : Fin 8) (s : State) : Host.Outcome State Fault Refusal :=
  if s.voting t && s.getF (Fd.TR_STAT_MODE t.idx) == 0 then ok (s.becomeOdd t c.val kind.val) else ok s

/-- L1_ECC_ERROR (R182, R194): the core is declared odd, and SB9 is set. Where only two cores are live
the declaration is a mismatch of the pair (R189). -/
def execL1EccError (t : Triad) (c : Fin 3) (s : State) : Host.Outcome State Fault Refusal :=
  if s.split t then
    if s.alive (t.mach 0) && c.val < 2 then ok (s.raise 9 (.triad t)) else ok s
  else if s.voting t && (s.liveCores t).contains c.val then
    if s.getF (Fd.TR_STAT_MODE t.idx) = 0 then ok ((s.becomeOdd t c.val 6).raise 9 (.triad t))
    else ok ((s.startRecovery t 6 2).raise 9 (.triad t))
  else ok s

/-- RESYNC_COPY_COMPLETE (R184). -/
def execResyncCopyComplete (t : Triad) (s : State) : Host.Outcome State Fault Refusal :=
  match (s.tri t).phase with
  | .copying c => ok (s.modTri t fun x => { x with phase := .copied c })
  | _ => ok s

/-- RESYNC_PAUSE_RELEASE (R184, R186): `agree` is the outcome of the comparison in the pause. -/
def execResyncPauseRelease (t : Triad) (agree : Bool) (s : State) : Host.Outcome State Fault Refusal :=
  match (s.tri t).phase with
  | .copied c =>
    if agree then
      let s := ((s.setF (Fd.TR_STAT_MODE t.idx) 0).offF (Fd.TR_STAT_ODD t.idx)).setF (Fd.TR_STAT_LIVE t.idx) 7
      let s := (s.incF (Fd.TR_RESYNC_CNT_COUNT t.idx)).recordDuration t
      let s := s.modTri t fun x => { x with phase := .normal }
      ok (s.heldHalt t)
    else
      let ret := s.retires t c
      let s := s.oddRaises t c (s.getF (Fd.TR_EVT_KIND t.idx)) 6
      ok (if ret && s.alive (t.mach 0) then s.heldHalt t else s)
  | _ => ok s

/-- PAIR_RECOVERY_START (R181, R187): the live cores differ and no majority exists. -/
def execPairRecoveryStart (t : Triad) (kind : Fin 8) (s : State) : Host.Outcome State Fault Refusal :=
  if s.voting t then
    ok (s.startRecovery t kind.val (if s.getF (Fd.TR_STAT_MODE t.idx) = 0 then 3 else 2))
  else ok s

/-- PAIR_RECOVERY_RELEASE (R187): the cores are released, and the reaction of the source acts. -/
def execPairRecoveryRelease (t : Triad) (s : State) : Host.Outcome State Fault Refusal :=
  match (s.tri t).phase with
  | .recovery _ src =>
    let ret := s.getF (Fd.TR_STAT_RETIRED t.idx)
    let s := (s.setF (Fd.TR_STAT_MODE t.idx) (if ret = 0 then 0 else 2)).offF (Fd.TR_STAT_ODD t.idx)
    let s := (s.setF (Fd.TR_STAT_LIVE t.idx) (7 - ret)).recordDuration t
    let s := s.modTri t fun x => { x with phase := .normal }
    ok ((s.heldHalt t).react src (.triad t))
  | _ => ok s

/-- TRIAD_RESTART (R132): a restart is requested. -/
def execTriadRestart (t : Triad) (s : State) : Host.Outcome State Fault Refusal := ok (s.requestReset (.triad t))

/-- TRIAD_LEAVES_RESET (R132). -/
def execTriadLeavesReset (t : Triad) (s : State) : Host.Outcome State Fault Refusal :=
  if s.inReset (.triad t) then ok (s.leaveReset (.triad t)) else ok s

end Sys2Proof.Machine
end

