-- ==== Sys2Proof/Machine/Dispatch.lean ====
section
/-! DEFINITION. The meaning of every command, one arm for each. -/

namespace Sys2Proof.Machine

def exec (i : Instr) (s : State) : Host.Outcome State Fault Refusal :=
  match i with
  | .intakeValid ix => Sys2Proof.Machine.execIntakeValid ix s
  | .intakeInvalid ix => Sys2Proof.Machine.execIntakeInvalid ix s
  | .powerFailStart lost => Sys2Proof.Machine.execPowerFailStart lost s
  | .holdUpEnd => Sys2Proof.Machine.execHoldUpEnd s
  | .intakeReturnReset => Sys2Proof.Machine.execIntakeReturnReset s
  | .vioInLost f => Sys2Proof.Machine.execVioInLost f s
  | .vioInRestored => Sys2Proof.Machine.execVioInRestored s
  | .railFault => Sys2Proof.Machine.execRailFault s
  | .powerOn ix => Sys2Proof.Machine.execPowerOn ix s
  | .otpLoadComplete good f => Sys2Proof.Machine.execOtpLoadComplete good f s
  | .memoryInitialiserComplete => Sys2Proof.Machine.execMemoryInitialiserComplete s
  | .resetRelease x y z => Sys2Proof.Machine.execResetRelease x y z s
  | .bootComplete ix => Sys2Proof.Machine.execBootComplete ix s
  | .clockMonitorFault c => Sys2Proof.Machine.execClockMonitorFault c s
  | .nrstPulse l => Sys2Proof.Machine.execNrstPulse l s
  | .chipReset c => Sys2Proof.Machine.execChipReset c s
  | .nrstStuck x y z => Sys2Proof.Machine.execNrstStuck x y z s
  | .nrstRearm => Sys2Proof.Machine.execNrstRearm s
  | .blockResetRequest b => Sys2Proof.Machine.execBlockResetRequest b s
  | .blockResetDeferredStart b => Sys2Proof.Machine.execBlockResetDeferredStart b s
  | .blockLeavesReset b => Sys2Proof.Machine.execBlockLeavesReset b s
  | .triadRestart t => Sys2Proof.Machine.execTriadRestart t s
  | .triadLeavesReset t => Sys2Proof.Machine.execTriadLeavesReset t s
  | .sleepReady m => Sys2Proof.Machine.execSleepReady m s
  | .coresGated => Sys2Proof.Machine.execCoresGated s
  | .wakePinEdge => Sys2Proof.Machine.execWakePinEdge s
  | .aonTimerMatch => Sys2Proof.Machine.execAonTimerMatch s
  | .wakeSupplyUp => Sys2Proof.Machine.execWakeSupplyUp s
  | .wakeInterruptDelivery => Sys2Proof.Machine.execWakeInterruptDelivery s
  | .add m gd ga gb => Sys2Proof.Machine.execAdd m gd ga gb s
  | .sub m gd ga gb => Sys2Proof.Machine.execSub m gd ga gb s
  | .and m gd ga gb => Sys2Proof.Machine.execAnd m gd ga gb s
  | .or m gd ga gb => Sys2Proof.Machine.execOr m gd ga gb s
  | .xor m gd ga gb => Sys2Proof.Machine.execXor m gd ga gb s
  | .andn m gd ga gb => Sys2Proof.Machine.execAndn m gd ga gb s
  | .shl m gd ga gb => Sys2Proof.Machine.execShl m gd ga gb s
  | .shr m gd ga gb => Sys2Proof.Machine.execShr m gd ga gb s
  | .shra m gd ga gb => Sys2Proof.Machine.execShra m gd ga gb s
  | .rotr m gd ga gb => Sys2Proof.Machine.execRotr m gd ga gb s
  | .clt m gd ga gb => Sys2Proof.Machine.execClt m gd ga gb s
  | .cltu m gd ga gb => Sys2Proof.Machine.execCltu m gd ga gb s
  | .min m gd ga gb => Sys2Proof.Machine.execMin m gd ga gb s
  | .max m gd ga gb => Sys2Proof.Machine.execMax m gd ga gb s
  | .minu m gd ga gb => Sys2Proof.Machine.execMinu m gd ga gb s
  | .maxu m gd ga gb => Sys2Proof.Machine.execMaxu m gd ga gb s
  | .clz m gd ga => Sys2Proof.Machine.execClz m gd ga s
  | .popc m gd ga => Sys2Proof.Machine.execPopc m gd ga s
  | .mul m gd ga gb => Sys2Proof.Machine.execMul m gd ga gb s
  | .mulhiS m gd ga gb => Sys2Proof.Machine.execMulhiS m gd ga gb s
  | .mulhiU m gd ga gb => Sys2Proof.Machine.execMulhiU m gd ga gb s
  | .divs m gd ga gb => Sys2Proof.Machine.execDivs m gd ga gb s
  | .divu m gd ga gb => Sys2Proof.Machine.execDivu m gd ga gb s
  | .mods m gd ga gb => Sys2Proof.Machine.execMods m gd ga gb s
  | .modu m gd ga gb => Sys2Proof.Machine.execModu m gd ga gb s
  | .addi m gd ga ix => Sys2Proof.Machine.execAddi m gd ga ix s
  | .andi m gd ga ix => Sys2Proof.Machine.execAndi m gd ga ix s
  | .ori m gd ga ix => Sys2Proof.Machine.execOri m gd ga ix s
  | .xori m gd ga ix => Sys2Proof.Machine.execXori m gd ga ix s
  | .clti m gd ga ix => Sys2Proof.Machine.execClti m gd ga ix s
  | .cltiu m gd ga ix => Sys2Proof.Machine.execCltiu m gd ga ix s
  | .shli m gd ga k => Sys2Proof.Machine.execShli m gd ga k s
  | .shri m gd ga k => Sys2Proof.Machine.execShri m gd ga k s
  | .shrai m gd ga k => Sys2Proof.Machine.execShrai m gd ga k s
  | .rotri m gd ga k => Sys2Proof.Machine.execRotri m gd ga k s
  | .ldhi m gd ix => Sys2Proof.Machine.execLdhi m gd ix s
  | .addpc m gd ix => Sys2Proof.Machine.execAddpc m gd ix s
  | .qadd m gd ga gb => Sys2Proof.Machine.execQadd m gd ga gb s
  | .qsub m gd ga gb => Sys2Proof.Machine.execQsub m gd ga gb s
  | .qneg m gd ga => Sys2Proof.Machine.execQneg m gd ga s
  | .qabs m gd ga => Sys2Proof.Machine.execQabs m gd ga s
  | .qmul m gd ga gb => Sys2Proof.Machine.execQmul m gd ga gb s
  | .mac m gd ga gb => Sys2Proof.Machine.execMac m gd ga gb s
  | .msu m gd ga gb => Sys2Proof.Machine.execMsu m gd ga gb s
  | .macl m gd ga gb => Sys2Proof.Machine.execMacl m gd ga gb s
  | .sats m gd ga gb => Sys2Proof.Machine.execSats m gd ga gb s
  | .satu m gd ga gb => Sys2Proof.Machine.execSatu m gd ga gb s
  | .qshl m gd ga gb => Sys2Proof.Machine.execQshl m gd ga gb s
  | .qrshr m gd ga gb => Sys2Proof.Machine.execQrshr m gd ga gb s
  | .ldw m gd ga ix => Sys2Proof.Machine.execLdw m gd ga ix s
  | .ldh m gd ga ix => Sys2Proof.Machine.execLdh m gd ga ix s
  | .ldhu m gd ga ix => Sys2Proof.Machine.execLdhu m gd ga ix s
  | .ldb m gd ga ix => Sys2Proof.Machine.execLdb m gd ga ix s
  | .ldbu m gd ga ix => Sys2Proof.Machine.execLdbu m gd ga ix s
  | .stw m gd ga ix => Sys2Proof.Machine.execStw m gd ga ix s
  | .sth m gd ga ix => Sys2Proof.Machine.execSth m gd ga ix s
  | .stb m gd ga ix => Sys2Proof.Machine.execStb m gd ga ix s
  | .swap m gd ga gb => Sys2Proof.Machine.execSwap m gd ga gb s
  | .aadd m gd ga gb => Sys2Proof.Machine.execAadd m gd ga gb s
  | .cas m gd ga gb => Sys2Proof.Machine.execCas m gd ga gb s
  | .beq m gd ga ix => Sys2Proof.Machine.execBeq m gd ga ix s
  | .bne m gd ga ix => Sys2Proof.Machine.execBne m gd ga ix s
  | .blt m gd ga ix => Sys2Proof.Machine.execBlt m gd ga ix s
  | .bge m gd ga ix => Sys2Proof.Machine.execBge m gd ga ix s
  | .bltu m gd ga ix => Sys2Proof.Machine.execBltu m gd ga ix s
  | .bgeu m gd ga ix => Sys2Proof.Machine.execBgeu m gd ga ix s
  | .jal m gd ix => Sys2Proof.Machine.execJal m gd ix s
  | .jalr m gd ga ix => Sys2Proof.Machine.execJalr m gd ga ix s
  | .mfc m gd n => Sys2Proof.Machine.execMfc m gd n s
  | .mtc m n ga => Sys2Proof.Machine.execMtc m n ga s
  | .eret m => Sys2Proof.Machine.execEret m s
  | .nret m => Sys2Proof.Machine.execNret m s
  | .fenceAcq m => Sys2Proof.Machine.execFenceAcq m s
  | .fenceRel m => Sys2Proof.Machine.execFenceRel m s
  | .fenceAr m => Sys2Proof.Machine.execFenceAr m s
  | .syscall m k => Sys2Proof.Machine.execSyscall m k s
  | .breakTrap m => Sys2Proof.Machine.execBreakTrap m s
  | .waiti m => Sys2Proof.Machine.execWaiti m s
  | .waitiRelease m => Sys2Proof.Machine.execWaitiRelease m s
  | .bmov m gd ga gb => Sys2Proof.Machine.execBmov m gd ga gb s
  | .bfill m gd ga gb => Sys2Proof.Machine.execBfill m gd ga gb s
  | .bcrc m p gd ga gb => Sys2Proof.Machine.execBcrc m p gd ga gb s
  | .firv m gd ga gb => Sys2Proof.Machine.execFirv m gd ga gb s
  | .chmode m gd ga gb => Sys2Proof.Machine.execChmode m gd ga gb s
  | .chset m ix gd ga gb => Sys2Proof.Machine.execChset m ix gd ga gb s
  | .chsetStart m gd ga gb => Sys2Proof.Machine.execChsetStart m gd ga gb s
  | .chget m ix gd ga => Sys2Proof.Machine.execChget m ix gd ga s
  | .tally m n gd => Sys2Proof.Machine.execTally m n gd s
  | .raise m gd ga => Sys2Proof.Machine.execRaise m gd ga s
  | .roll m gd => Sys2Proof.Machine.execRoll m gd s
  | .rollS m gd ga => Sys2Proof.Machine.execRollS m gd ga s
  | .waitdDep m gd ga => Sys2Proof.Machine.execWaitdDep m gd ga s
  | .waitdMan m gd ga => Sys2Proof.Machine.execWaitdMan m gd ga s
  | .waitdRelease m => Sys2Proof.Machine.execWaitdRelease m s
  | .propose m gd ga gb => Sys2Proof.Machine.execPropose m gd ga gb s
  | .retract m gd ga => Sys2Proof.Machine.execRetract m gd ga s
  | .commit m gd ga => Sys2Proof.Machine.execCommit m gd ga s
  | .peek m gd ga => Sys2Proof.Machine.execPeek m gd ga s
  | .lds m w gd ga gb => Sys2Proof.Machine.execLds m w gd ga gb s
  | .sts m w gd ga gb => Sys2Proof.Machine.execSts m w gd ga gb s
  | .crcf m p gd ga gb => Sys2Proof.Machine.execCrcf m p gd ga gb s
  | .maskableInterruptEntry m => Sys2Proof.Machine.execMaskableInterruptEntry m s
  | .nmiEntry m => Sys2Proof.Machine.execNmiEntry m s
  | .platformMismatch t => Sys2Proof.Machine.execPlatformMismatch t s
  | .lineFillDelivery t odd => Sys2Proof.Machine.execLineFillDelivery t odd s
  | .voteOddCore t c kind => Sys2Proof.Machine.execVoteOddCore t c kind s
  | .l1EccError t c => Sys2Proof.Machine.execL1EccError t c s
  | .resyncCopyComplete t => Sys2Proof.Machine.execResyncCopyComplete t s
  | .resyncPauseRelease t agree => Sys2Proof.Machine.execResyncPauseRelease t agree s
  | .pairRecoveryStart t kind => Sys2Proof.Machine.execPairRecoveryStart t kind s
  | .pairRecoveryRelease t => Sys2Proof.Machine.execPairRecoveryRelease t s
  | .timeFrameSendTimer => Sys2Proof.Machine.execTimeFrameSendTimer s
  | .timeFrameReceive => Sys2Proof.Machine.execTimeFrameReceive s
  | .linkDelayTimer p delay => Sys2Proof.Machine.execLinkDelayTimer p delay s
  | .selfMasterTimeout => Sys2Proof.Machine.execSelfMasterTimeout s
  | .masterLossTimeout => Sys2Proof.Machine.execMasterLossTimeout s
  | .masterTakesOffice => Sys2Proof.Machine.execMasterTakesOffice s
  | .unlockedPeriodTick => Sys2Proof.Machine.execUnlockedPeriodTick s
  | .boundComputation => Sys2Proof.Machine.execBoundComputation s
  | .ttPeriodWrite v => Sys2Proof.Machine.execTtPeriodWrite v s
  | .conversionLeadStart n => Sys2Proof.Machine.execConversionLeadStart n s
  | .departure env => Sys2Proof.Machine.execDeparture env s
  | .entryReceive => Sys2Proof.Machine.execEntryReceive s
  | .manifestClose => Sys2Proof.Machine.execManifestClose s
  | .commitDeadline => Sys2Proof.Machine.execCommitDeadline s
  | .finalNoticeReceive => Sys2Proof.Machine.execFinalNoticeReceive s
  | .retractionReceive => Sys2Proof.Machine.execRetractionReceive s
  | .peekReqReceive => Sys2Proof.Machine.execPeekReqReceive s
  | .peekRepReceive => Sys2Proof.Machine.execPeekRepReceive s
  | .pubWrite k ix v => Sys2Proof.Machine.execPubWrite k ix v s
  | .subWrite j ix v => Sys2Proof.Machine.execSubWrite j ix v s
  | .maniBankSizeWrite v => Sys2Proof.Machine.execManiBankSizeWrite v s
  | .maniRevtRead t => Sys2Proof.Machine.execManiRevtRead t s
  | .configurationComplete n => Sys2Proof.Machine.execConfigurationComplete n s
  | .shutdownComplete n cause => Sys2Proof.Machine.execShutdownComplete n cause s
  | .channelDieFault n cause => Sys2Proof.Machine.execChannelDieFault n cause s
  | .isoFrameReceive n logicEnd sym => Sys2Proof.Machine.execIsoFrameReceive n logicEnd sym s
  | .isoLinkTimeout n => Sys2Proof.Machine.execIsoLinkTimeout n s
  | .periodicSelfCheck n pass => Sys2Proof.Machine.execPeriodicSelfCheck n pass s
  | .sequenceTrigEdge k rising => Sys2Proof.Machine.execSequenceTrigEdge k rising s
  | .slotComplete n r => Sys2Proof.Machine.execSlotComplete n r s
  | .fastComparatorEvent n x => Sys2Proof.Machine.execFastComparatorEvent n x s
  | .debouncedEdge n level => Sys2Proof.Machine.execDebouncedEdge n level s
  | .dieTempReading n r => Sys2Proof.Machine.execDieTempReading n r s
  | .dacGridPoint n => Sys2Proof.Machine.execDacGridPoint n s
  | .boostUpdate n meas dropout iLimit => Sys2Proof.Machine.execBoostUpdate n meas dropout iLimit s
  | .switchThermalShutdown n => Sys2Proof.Machine.execSwitchThermalShutdown n s
  | .switchAutoRestart n => Sys2Proof.Machine.execSwitchAutoRestart n s
  | .readbackComplete n value iLimit => Sys2Proof.Machine.execReadbackComplete n value iLimit s
  | .laneRun n => Sys2Proof.Machine.execLaneRun n s
  | .laneStop n => Sys2Proof.Machine.execLaneStop n s
  | .laneNop n => Sys2Proof.Machine.execLaneNop n s
  | .laneLdi n => Sys2Proof.Machine.execLaneLdi n s
  | .laneLdh n => Sys2Proof.Machine.execLaneLdh n s
  | .laneAddi n => Sys2Proof.Machine.execLaneAddi n s
  | .laneAdd n => Sys2Proof.Machine.execLaneAdd n s
  | .laneSub n => Sys2Proof.Machine.execLaneSub n s
  | .laneBr n => Sys2Proof.Machine.execLaneBr n s
  | .laneWait n => Sys2Proof.Machine.execLaneWait n s
  | .laneWaitRelease n => Sys2Proof.Machine.execLaneWaitRelease n s
  | .laneActOff n => Sys2Proof.Machine.execLaneActOff n s
  | .laneActOn n => Sys2Proof.Machine.execLaneActOn n s
  | .laneActSet n => Sys2Proof.Machine.execLaneActSet n s
  | .laneActRefuge n => Sys2Proof.Machine.execLaneActRefuge n s
  | .laneActConv n => Sys2Proof.Machine.execLaneActConv n s
  | .laneWhistle n => Sys2Proof.Machine.execLaneWhistle n s
  | .laneTime n => Sys2Proof.Machine.execLaneTime n s
  | .laneDelay n => Sys2Proof.Machine.execLaneDelay n s
  | .laneDelayExpiry n => Sys2Proof.Machine.execLaneDelayExpiry n s
  | .laneRead n => Sys2Proof.Machine.execLaneRead n s
  | .laneNote n => Sys2Proof.Machine.execLaneNote n s
  | .laneClr n => Sys2Proof.Machine.execLaneClr n s
  | .laneHalt n => Sys2Proof.Machine.execLaneHalt n s
  | .reflexActionArrival => Sys2Proof.Machine.execReflexActionArrival s
  | .laneCompareFault n => Sys2Proof.Machine.execLaneCompareFault n s
  | .whistleReceive p m => Sys2Proof.Machine.execWhistleReceive p m s
  | .diagActivation n b => Sys2Proof.Machine.execDiagActivation n b s
  | .diagDeactivation n b => Sys2Proof.Machine.execDiagDeactivation n b s
  | .signalDetect p => Sys2Proof.Machine.execSignalDetect p s
  | .trainExchangeComplete p o => Sys2Proof.Machine.execTrainExchangeComplete p o s
  | .linkDelayComplete p delay => Sys2Proof.Machine.execLinkDelayComplete p delay s
  | .trainFailTimeout p lock => Sys2Proof.Machine.execTrainFailTimeout p lock s
  | .trainRetry p => Sys2Proof.Machine.execTrainRetry p s
  | .burstReceive p b => Sys2Proof.Machine.execBurstReceive p b s
  | .ackReceive p lseq crc => Sys2Proof.Machine.execAckReceive p lseq crc s
  | .nackReceive p lseq crc => Sys2Proof.Machine.execNackReceive p lseq crc s
  | .markSend p => Sys2Proof.Machine.execMarkSend p s
  | .markReceive p count crc => Sys2Proof.Machine.execMarkReceive p count crc s
  | .replayTimeout p => Sys2Proof.Machine.execReplayTimeout p s
  | .silentCheckInterval p => Sys2Proof.Machine.execSilentCheckInterval p s
  | .linkLoss p c => Sys2Proof.Machine.execLinkLoss p c s
  | .pointsClose p => Sys2Proof.Machine.execPointsClose p s
  | .dampedEnd p => Sys2Proof.Machine.execDampedEnd p s
  | .ringOpenTimeout => Sys2Proof.Machine.execRingOpenTimeout s
  | .presenceTimer => Sys2Proof.Machine.execPresenceTimer s
  | .presenceReceive => Sys2Proof.Machine.execPresenceReceive s
  | .topologyReceive => Sys2Proof.Machine.execTopologyReceive s
  | .assignReceive => Sys2Proof.Machine.execAssignReceive s
  | .wakeFrameReceive => Sys2Proof.Machine.execWakeFrameReceive s
  | .refuseReceive => Sys2Proof.Machine.execRefuseReceive s
  | .ovTxWake node => Sys2Proof.Machine.execOvTxWake node s
  | .ovTxAssign node => Sys2Proof.Machine.execOvTxAssign node s
  | .ovRetrain p => Sys2Proof.Machine.execOvRetrain p s
  | .ovPortDisable p v => Sys2Proof.Machine.execOvPortDisable p v s
  | .sessReqReceive => Sys2Proof.Machine.execSessReqReceive s
  | .sessionServiceStart ns => Sys2Proof.Machine.execSessionServiceStart ns s
  | .sessRepReceive => Sys2Proof.Machine.execSessRepReceive s
  | .requestTimeout peek id => Sys2Proof.Machine.execRequestTimeout peek id s
  | .replayWindowRelease sid node => Sys2Proof.Machine.execReplayWindowRelease sid node s
  | .safetyShareInterval => Sys2Proof.Machine.execSafetyShareInterval s
  | .loadKey => Sys2Proof.Machine.execLoadKey s
  | .entryClear => Sys2Proof.Machine.execEntryClear s
  | .ssBootWrite v => Sys2Proof.Machine.execSsBootWrite v s
  | .shGo n => Sys2Proof.Machine.execShGo n s
  | .shResume n => Sys2Proof.Machine.execShResume n s
  | .shStop n => Sys2Proof.Machine.execShStop n s
  | .waybillFetchComplete n => Sys2Proof.Machine.execWaybillFetchComplete n s
  | .localPieceResponse n => Sys2Proof.Machine.execLocalPieceResponse n s
  | .localAccessTimeout n => Sys2Proof.Machine.execLocalAccessTimeout n s
  | .pieceRetryTimer n => Sys2Proof.Machine.execPieceRetryTimer n s
  | .crcUnitWaitTimeout n => Sys2Proof.Machine.execCrcUnitWaitTimeout n s
  | .waybillWritebackComplete n => Sys2Proof.Machine.execWaybillWritebackComplete n s
  | .shuntEngineMismatch n => Sys2Proof.Machine.execShuntEngineMismatch n s
  | .plAllocRead by_ => Sys2Proof.Machine.execPlAllocRead by_ s
  | .plFreeWrite by_ v => Sys2Proof.Machine.execPlFreeWrite by_ v s
  | .plGiveWrite by_ v => Sys2Proof.Machine.execPlGiveWrite by_ v s
  | .plReclaimWrite by_ v => Sys2Proof.Machine.execPlReclaimWrite by_ v s
  | .wagonMarkComplete => Sys2Proof.Machine.execWagonMarkComplete s
  | .plBaseWrite v => Sys2Proof.Machine.execPlBaseWrite v s
  | .poolSweepComplete => Sys2Proof.Machine.execPoolSweepComplete s
  | .cuClaim u => Sys2Proof.Machine.execCuClaim u s
  | .cuRelease u => Sys2Proof.Machine.execCuRelease u s
  | .cuStart u by_ => Sys2Proof.Machine.execCuStart u by_ s
  | .cuFold u by_ => Sys2Proof.Machine.execCuFold u by_ s
  | .cuData8Write u by_ v => Sys2Proof.Machine.execCuData8Write u by_ v s
  | .cuData16Write u by_ v => Sys2Proof.Machine.execCuData16Write u by_ v s
  | .cuData32Write u by_ v => Sys2Proof.Machine.execCuData32Write u by_ v s
  | .walkerVisit u => Sys2Proof.Machine.execWalkerVisit u s
  | .pageHealComplete => Sys2Proof.Machine.execPageHealComplete s
  | .patrolPeriodEnd => Sys2Proof.Machine.execPatrolPeriodEnd s
  | .ptLogRead => Sys2Proof.Machine.execPtLogRead s
  | .csWrite => Sys2Proof.Machine.execCsWrite s
  | .calCopyComplete => Sys2Proof.Machine.execCalCopyComplete s
  | .calEraseComplete blank => Sys2Proof.Machine.execCalEraseComplete blank s
  | .calProgramComplete => Sys2Proof.Machine.execCalProgramComplete s
  | .calVerifyComplete good => Sys2Proof.Machine.execCalVerifyComplete good s
  | .calCommitComplete => Sys2Proof.Machine.execCalCommitComplete s
  | .fpKeyWrite v => Sys2Proof.Machine.execFpKeyWrite v s
  | .fpErase => Sys2Proof.Machine.execFpErase s
  | .fpProgram => Sys2Proof.Machine.execFpProgram s
  | .fpEraseComplete blank => Sys2Proof.Machine.execFpEraseComplete blank s
  | .fpProgramComplete good => Sys2Proof.Machine.execFpProgramComplete good s
  | .sourceRaise src t => Sys2Proof.Machine.execSourceRaise src t s
  | .wireBreak src bothOpen t => Sys2Proof.Machine.execWireBreak src bothOpen t s
  | .wireRearm src => Sys2Proof.Machine.execWireRearm src s
  | .collectorMismatch => Sys2Proof.Machine.execCollectorMismatch s
  | .quietTimerExpiry => Sys2Proof.Machine.execQuietTimerExpiry s
  | .sbCfgWrite src v => Sys2Proof.Machine.execSbCfgWrite src v s
  | .sbLock => Sys2Proof.Machine.execSbLock s
  | .tallyWindowOpen => Sys2Proof.Machine.execTallyWindowOpen s
  | .tallyPeriodEnd => Sys2Proof.Machine.execTallyPeriodEnd s
  | .tallyCountStartTimeout => Sys2Proof.Machine.execTallyCountStartTimeout s
  | .eraseGuardExpiry => Sys2Proof.Machine.execEraseGuardExpiry s
  | .consecClearTimeout => Sys2Proof.Machine.execConsecClearTimeout s
  | .tallyCopyMismatch => Sys2Proof.Machine.execTallyCopyMismatch s
  | .tlKeyWrite v => Sys2Proof.Machine.execTlKeyWrite v s
  | .tlEnWrite v => Sys2Proof.Machine.execTlEnWrite v s
  | .tlCtrlEnWrite en => Sys2Proof.Machine.execTlCtrlEnWrite en s
  | .tlLock => Sys2Proof.Machine.execTlLock s
  | .tlDbgHoldWrite hold => Sys2Proof.Machine.execTlDbgHoldWrite hold s
  | .tlPeriodWrite v => Sys2Proof.Machine.execTlPeriodWrite v s
  | .tlEscWrite v => Sys2Proof.Machine.execTlEscWrite v s
  | .rfgRelWrite by_ v => Sys2Proof.Machine.execRfgRelWrite by_ v s
  | .spxCfgWrite v => Sys2Proof.Machine.execSpxCfgWrite v s
  | .spxGo din => Sys2Proof.Machine.execSpxGo din s
  | .spxAbort => Sys2Proof.Machine.execSpxAbort s
  | .spxTxFlush => Sys2Proof.Machine.execSpxTxFlush s
  | .spxRxFlush => Sys2Proof.Machine.execSpxRxFlush s
  | .masterFrameEnd => Sys2Proof.Machine.execMasterFrameEnd s
  | .spxTxWindowWrite v => Sys2Proof.Machine.execSpxTxWindowWrite v s
  | .spxRxWindowRead => Sys2Proof.Machine.execSpxRxWindowRead s
  | .spxModeFault => Sys2Proof.Machine.execSpxModeFault s
  | .slaveSelectFall => Sys2Proof.Machine.execSlaveSelectFall s
  | .slaveFrameApply f => Sys2Proof.Machine.execSlaveFrameApply f s
  | .mailboxRead => Sys2Proof.Machine.execMailboxRead s
  | .mailboxWrite v => Sys2Proof.Machine.execMailboxWrite v s
  | .spxNegReset => Sys2Proof.Machine.execSpxNegReset s
  | .rollcallPadEdge rising => Sys2Proof.Machine.execRollcallPadEdge rising s
  | .rcTrigger => Sys2Proof.Machine.execRcTrigger s
  | .rcRelease => Sys2Proof.Machine.execRcRelease s
  | .rcCancel => Sys2Proof.Machine.execRcCancel s
  | .rollcallFrameReceive => Sys2Proof.Machine.execRollcallFrameReceive s
  | .stationRollcallTime => Sys2Proof.Machine.execStationRollcallTime s
  | .tapReset => Sys2Proof.Machine.execTapReset s
  | .debugNop => Sys2Proof.Machine.execDebugNop s
  | .debugRead a => Sys2Proof.Machine.execDebugRead a s
  | .debugWrite a v => Sys2Proof.Machine.execDebugWrite a v s
  | .debugAttach t => Sys2Proof.Machine.execDebugAttach t s
  | .debugDetach t => Sys2Proof.Machine.execDebugDetach t s
  | .debugHalt t => Sys2Proof.Machine.execDebugHalt t s
  | .debugResume t => Sys2Proof.Machine.execDebugResume t s
  | .debugStep t => Sys2Proof.Machine.execDebugStep t s
  | .debugRegRead t x1 code => Sys2Proof.Machine.execDebugRegRead t x1 code s
  | .debugRegWrite t x1 code v => Sys2Proof.Machine.execDebugRegWrite t x1 code v s
  | .debugChipReset v => Sys2Proof.Machine.execDebugChipReset v s
  | .latchingLoRead r => Sys2Proof.Machine.execLatchingLoRead r s
  | .registerWrite by_ a v => Sys2Proof.Machine.execRegisterWrite by_ a v s
  | .clockMonitorClears c => Sys2Proof.Machine.execClockMonitorClears c s
  | .replayHoldBackTimeout p => Sys2Proof.Machine.execReplayHoldBackTimeout p s
  | .presenceReachTimeout node => Sys2Proof.Machine.execPresenceReachTimeout node s

end Sys2Proof.Machine
end

