-- ==== Sys2Proof/Machine/Step.lean ====
section
/-! DEFINITION. One step of the module: the command at the front of the queue runs on the state with the rest of the
queue; on an empty queue one nanosecond passes. -/

namespace Sys2Proof.Machine

/-- DESIGN CHOICE (notes/assumptions): with no command waiting, 1 ns passes, and with it what the spec ties to
the passage of time alone. -/
def step (s : State) : Host.Outcome State Fault Refusal :=
  match s.pending with
  | [] => .next (s.advance 1)
  | c :: r => exec c { s with pending := r }

/-- The state with the command that a word of the opcode table spells in front of its queue. -/
def State.withFetchWord (s : State) (nbits w : Nat) : State :=
  match decodeTableWord nbits w with
  | some c => { s with pending := c :: s.pending }
  | none => s

end Sys2Proof.Machine
end

