-- ==== Sys2Proof/Safety.lean ====
section
/-! DEFINITION. What statements are made of: the canonical form of all that is kept sparse; when nothing is left due; when a
machine issues its next instruction; what an instruction that writes one general register leaves; and when the raise
of a source does no more than set its sticky bit. -/

namespace Sys2Proof.Machine

/-! ### The canonical form -/

/-- The register file lists its addresses in rising order, once each. -/
def State.regsWf (s : State) : Bool := sortedNat s.regs

/-- SRAM and flash list their bytes in rising order of address, and none that reads as an unlisted byte does. -/
def State.memWf (s : State) : Bool := Memory.wf sramDefault s.sram && Memory.wf flashDefault s.flash

/-- The canonical form of all that is kept sparse. -/
def State.Canon (s : State) : Prop := s.regsWf = true ∧ s.memWf = true

/-! ### Between commands -/

/-- No consequence of a reset is left to be worked off. -/
abbrev State.Settled (s : State) : Prop := s.rst.due = []

/-- A machine waits for a block in reset or for a page that is being healed. -/
def Wait.stalls : Wait → Bool
  | .stall _ => true
  | .held _ => true
  | .vector _ _ _ => true
  | _ => false

/-- No machine waits for a block in reset or for a page that is being healed (R82, R462). -/
abbrev State.NoStall (s : State) : Prop := ∀ m ∈ Mach.all, (s.mach m).wait.stalls = false

/-- The raise of a source does no more than set its sticky bit: its reaction is NONE or STICKY, and it does not trigger the
roll call (R485, R486). -/
abbrev State.Quiet (s : State) (k : Nat) : Prop := s.getF (Fd.SB_CFG_REACTION k) < 2 ∧ s.isF (Fd.SB_CFG_ROLL k) = false

/-- The state with the sticky bit of a source set. -/
def State.sticky (s : State) (k : Nat) : State := s.setBitF (Fd.SB_STICKY_BITS (k / 32)) (k % 32)

/-- The `n` bytes of SRAM from `a` up can be read and written at once: they lie in SRAM, on no page that is being healed, in
words that hold no error and are not poisoned. -/
structure State.SramReady (s : State) (a n : Nat) : Prop where
  inside : a + n ≤ 0x0100_0000
  noHeal : s.healingAt a n = false
  noError : ∀ k < n, lookupNat ((a + k) / 8) s.sramErr = none
  noPoison : ∀ k < n, s.markOf ((a + k) / 8) ≠ some .poisoned

/-! ### The issue of an instruction -/

/-- The machine issues the instruction at its pc, whose fetch succeeds and leaves the state `u`. -/
structure State.Issues (s : State) (m : Mach) (u : State) : Prop where
  /-- it runs and waits for nothing -/
  can : s.canIssue m = true
  /-- no interrupt takes its slot -/
  noEntry : s.entryDue m = false
  /-- its fetch does not stall on a page that is being healed -/
  noHeal : s.healingAt (s.mach m).pc.toNat 4 = false
  /-- the fetch succeeds; a debug step ends with it -/
  fetched : (s.endStep m).fetch m = (true, u)
  /-- the fetch has caused no reset -/
  settled : u.Settled

/-- What an instruction of machine `m` leaves of the state `u` when it writes `v` to the general register `gd` (nothing, where
gd is g0), goes on at `pc`, retires, and changes nothing else. -/
structure RegResult (u t : State) (m : Mach) (gd : BitVec 5) (v pc : Word) : Prop where
  reg : t.rg m gd = if gd = 0 then 0 else v
  others : ∀ r, r ≠ gd → t.rg m r = u.rg m r
  pc : (t.mach m).pc = pc
  retired : (t.mach m).retire = (u.mach m).retire + 1
  control : ∀ k, t.rc' m k = u.rc' m k
  machines : ∀ k, k ≠ m → t.mach k = u.mach k
  registers : ∀ r, t.getR r = u.getR r
  memory : ∀ a, t.sramByte a = u.sramByte a ∧ t.flashByte a = u.flashByte a
  rest : { t with machs := u.machs } = u

/-- What an instruction or an entry of machine `m` leaves of the state `u` when, beside the pc, it writes only the control
registers `ks`, and retires `n` instructions. -/
structure SysResult (u t : State) (m : Mach) (ks : List (Fin 32)) (pc : Word) (n : Nat) : Prop where
  pc : (t.mach m).pc = pc
  retired : (t.mach m).retire = (u.mach m).retire + n
  general : ∀ r, t.rg m r = u.rg m r
  control : ∀ k, k ∉ ks → t.rc' m k = u.rc' m k
  machines : ∀ k, k ≠ m → t.mach k = u.mach k
  rest : { t with machs := u.machs } = u

/-- Word `i` of the vector table of machine `m` can be read from SRAM, and is `h` (R110, R119). -/
structure State.VectorReady (s : State) (m : Mach) (i : Nat) (h : Word) : Prop where
  ready : s.SramReady (s.vectorAddr m i) 4
  written : ∀ k < 4, s.markOf ((s.vectorAddr m i + k) / 8) = some .written
  word : h = .ofNat (s.sramRead (s.vectorAddr m i) 4)

/-- Machine `m` has entered the handler at `h` from the state `u`: the return address, the status and the cause are saved, the
level is STATION, IE is 0 and EXL is 1 (R119). -/
structure Entered (u t : State) (m : Mach) (h ret cause : Word) (ks : List (Fin 32)) (n : Nat) : Prop where
  epc : t.rc' m cEpc = ret &&& 0xFFFF_FFFC
  estatus : t.rc' m cEstatus = u.rc' m cStatus
  cause : t.rc' m cCause = cause
  status : t.rc' m cStatus = (u.rc' m cStatus ||| 5) &&& 0xFFFF_FFFD
  others : SysResult u t m ([cStatus, cEpc, cEstatus, cCause] ++ ks) (h &&& 0xFFFF_FFFC) n

/-- Machine `m` has entered the NMI handler at `h` from the state `u` (R119). -/
structure EnteredNmi (u t : State) (m : Mach) (h ret cause : Word) : Prop where
  nepc : t.rc' m cNepc = ret &&& 0xFFFF_FFFC
  nstatus : t.rc' m cNstatus = u.rc' m cStatus
  ncause : t.rc' m cNcause = cause
  status : t.rc' m cStatus = (u.rc' m cStatus ||| 9) &&& 0xFFFF_FFFD
  others : SysResult u t m [cStatus, cNepc, cNstatus, cNcause] (h &&& 0xFFFF_FFFC) 0

end Sys2Proof.Machine
end

