-- ==== Sys2Proof/Certificates/Slice0/Obligations.lean ====
section
/-! DEFINITION. The statements for the provers: what the commands do, and what every step keeps. -/

open Sys2Proof Sys2Proof.Machine

/-! ### The whole machine -/

/-- A step runs the command at the front of the queue on the state with the queue's rest; the model's choice (assumption 1): on an
empty queue one nanosecond passes. -/
def Obligations.StepRunsTheFrontCommand : Prop :=
  (∀ (s : State) (c : Instr) (r : List Instr), s.pending = c :: r → step s = exec c { s with pending := r }) ∧
  (∀ s : State, s.pending = [] → step s = .next (s.advance 1) ∧ (s.advance 1).now = s.now + 1)

/-- No command of this hardware ends in a fault or a refusal: each one answers a next state in every state. -/
def Obligations.EveryCommandAnswersNext : Prop :=
  ∀ (c : Instr) (s : State), ∃ t, exec c s = .next t

/-- R65, R68, R77, R561: right after the power-on reset is applied every device register holds its reset word, no SRAM word is
written, no channel is configured, no port linked, nothing waits; the model's choices (assumptions 12 and 27): the general
registers are 0, and a byte that nothing has written reads as 0x00 in SRAM and as 0xFF in flash. -/
def Obligations.ResetState : Prop :=
  State.reset.Canon ∧ State.reset.Settled ∧ State.reset.phase = .powerOn ∧ State.reset.pending = [] ∧
  (∀ r : Rg, State.reset.getR r = .ofNat r.rst) ∧ (∀ w, State.reset.markOf w = none) ∧
  (∀ n : Fin 16, State.reset.chSt n = 0 ∧ (State.reset.ch n).cfg = {} ∧ State.reset.laneRuns n = false) ∧
  (∀ p : Port, State.reset.linked p = false) ∧ State.reset.locked = false ∧
  (∀ (m : Mach) (g : BitVec 5), State.reset.rg m g = 0) ∧ (∀ a, State.reset.sramByte a = 0 ∧ State.reset.flashByte a = 0xFF)

/-- From every state in canonical form, whether or not a run reaches it, every step leads to one: the register file lists its
addresses in rising order and once each, and so do SRAM and flash, which list no byte that reads as an unlisted one does. -/
def Obligations.CanonKept : Prop :=
  ∀ s t : State, s.Canon → step s = .next t → t.Canon

/-! ### Tapol: arithmetic and logic (R137 to R140, R144) -/

/-- R137, R140, the two-operand forms: for every machine, all registers and all values, gd takes the result that the table gives,
computed here from the operands as integers; nothing else changes. -/
def Obligations.AluRegisterForms : Prop :=
  ∀ p ∈ ([(.add, fun a b => .ofInt (a.toInt + b.toInt)),
      (.sub, fun a b => .ofInt (a.toInt - b.toInt)),
      (.and, fun a b => a &&& b),
      (.or, fun a b => a ||| b),
      (.xor, fun a b => a ^^^ b),
      (.andn, fun a b => a &&& ~~~b),
      (.shl, fun a b => .ofNat (a.toNat * 2 ^ (b.toNat % 32))),
      (.shr, fun a b => .ofNat (a.toNat / 2 ^ (b.toNat % 32))),
      (.shra, fun a b => .ofInt (a.toInt / 2 ^ (b.toNat % 32))),
      (.rotr, fun a b => .ofNat (a.toNat / 2 ^ (b.toNat % 32) + a.toNat * 2 ^ (32 - b.toNat % 32))),
      (.clt, fun a b => if a.toInt < b.toInt then 1 else 0),
      (.cltu, fun a b => if a.toNat < b.toNat then 1 else 0),
      (.min, fun a b => .ofInt (min a.toInt b.toInt)),
      (.max, fun a b => .ofInt (max a.toInt b.toInt)),
      (.minu, fun a b => .ofNat (min a.toNat b.toNat)),
      (.maxu, fun a b => .ofNat (max a.toNat b.toNat)),
      (.mul, fun a b => .ofNat (a.toNat * b.toNat)),
      (.mulhiS, fun a b => .ofInt (a.toInt * b.toInt / 2 ^ 32)),
      (.mulhiU, fun a b => .ofNat (a.toNat * b.toNat / 2 ^ 32)),
      (.qadd, fun a b => .ofInt (max (-2 ^ 31) (min (a.toInt + b.toInt) (2 ^ 31 - 1)))),
      (.qsub, fun a b => .ofInt (max (-2 ^ 31) (min (a.toInt - b.toInt) (2 ^ 31 - 1)))),
      (.qmul, fun a b => .ofInt (min ((a.toInt * b.toInt + 2 ^ 30) / 2 ^ 31) (2 ^ 31 - 1))),
      (.sats, fun a b => .ofInt (max (-2 ^ (b.toNat % 32)) (min a.toInt (2 ^ (b.toNat % 32) - 1)))),
      (.satu, fun a b => .ofInt (max 0 (min a.toInt (2 ^ (b.toNat % 32 + 1) - 1)))),
      (.qshl, fun a b => .ofInt (max (-2 ^ 31) (min (a.toInt * 2 ^ (b.toNat % 32)) (2 ^ 31 - 1)))),
      (.qrshr, fun a b => if b.toNat % 32 = 0 then a
        else .ofInt ((a.toInt + 2 ^ (b.toNat % 32 - 1)) / 2 ^ (b.toNat % 32)))]
      : List ((Mach → BitVec 5 → BitVec 5 → BitVec 5 → Instr) × (Word → Word → Word))),
    ∀ (s u : State) (m : Mach) (gd ga gb : BitVec 5), s.Issues m u →
      ∃ t, exec (p.1 m gd ga gb) s = .next t ∧ RegResult u t m gd (p.2 (u.rg m ga) (u.rg m gb)) ((u.mach m).pc + 4)

/-- R138. Division never traps and never wraps: DIVS and DIVU give the quotient, truncated, and saturated towards the sign of the
true quotient where it does not fit, as every quotient by 0 is; MODS and MODU give the remainder, 0 by 0. 0x8000_0000 by
0xFFFF_FFFF gives 0x7FFF_FFFF and 0; for every other pair with a divisor other than 0 the dividend is the divisor times the
quotient plus the remainder. -/
def Obligations.Divisions : Prop :=
  ∀ (s u : State) (m : Mach) (gd ga gb : BitVec 5), s.Issues m u →
    let a := u.rg m ga
    let b := u.rg m gb
    ∃ q r q' r' : Word,
      (∀ p ∈ [(Instr.divs m gd ga gb, q), (.mods m gd ga gb, r), (.divu m gd ga gb, q'), (.modu m gd ga gb, r')],
        ∃ t, exec p.1 s = .next t ∧ RegResult u t m gd p.2 ((u.mach m).pc + 4)) ∧
      q = (if b = 0 then (if 0 < a.toInt then 0x7FFF_FFFF else if a.toInt < 0 then 0x8000_0000 else 0)
        else .ofInt (max (-2 ^ 31) (min (a.toInt.tdiv b.toInt) (2 ^ 31 - 1)))) ∧
      r = (if b = 0 then 0 else .ofInt (a.toInt - b.toInt * a.toInt.tdiv b.toInt)) ∧
      q' = (if b = 0 then (if a ≠ 0 then 0xFFFF_FFFF else 0) else .ofNat (a.toNat / b.toNat)) ∧
      r' = (if b = 0 then 0 else .ofInt (a.toNat - b.toNat * (a.toNat / b.toNat))) ∧
      (a = 0x8000_0000 → b = 0xFFFF_FFFF → q = 0x7FFF_FFFF ∧ r = 0) ∧
      (b ≠ 0 → ¬(a = 0x8000_0000 ∧ b = 0xFFFF_FFFF) → a.toInt = b.toInt * q.toInt + r.toInt) ∧
      (b ≠ 0 → a.toNat = b.toNat * q'.toNat + r'.toNat)

/-- R137, R139, R140, the one-operand and immediate forms, `i` being imm17 or, for shifts and rotates, the count in its low five
bits. R139: LDHI writes imm17 x 2^15, ADDPC adds it to the pc. R140: MAC and MSU accumulate into gd the product rounded by 31
bits, saturated; MACL accumulates the exact product into the pair of an even gd other than g0, saturated to 64 bits. -/
def Obligations.ImmediateFormsAndAccumulate : Prop :=
  (∀ p ∈ ([((fun m gd ga _ => .clz m gd ga), fun a _ => .ofNat (if a = 0 then 32 else 31 - Nat.log2 a.toNat)),
       ((fun m gd ga _ => .popc m gd ga), fun a _ => .ofNat ((List.range 32).filter fun k => a.toNat.testBit k).length),
       ((fun m gd ga _ => .qneg m gd ga), fun a _ => .ofInt (min (-a.toInt) (2 ^ 31 - 1))),
       ((fun m gd ga _ => .qabs m gd ga), fun a _ => .ofInt (min |a.toInt| (2 ^ 31 - 1))),
       (.addi, fun a i => .ofInt (a.toInt + i.toInt)),
       (.andi, fun a i => a &&& .ofNat i.toNat),
       (.ori, fun a i => a ||| .ofNat i.toNat),
       (.xori, fun a i => a ^^^ .ofNat i.toNat),
       (.clti, fun a i => if a.toInt < i.toInt then 1 else 0),
       (.cltiu, fun a i => if (a.toNat : Int) < i.toInt % 2 ^ 32 then 1 else 0),
       ((fun m gd ga i => .shli m gd ga (i.setWidth 5)), fun a i => .ofNat (a.toNat * 2 ^ (i.toNat % 32))),
       ((fun m gd ga i => .shri m gd ga (i.setWidth 5)), fun a i => .ofNat (a.toNat / 2 ^ (i.toNat % 32))),
       ((fun m gd ga i => .shrai m gd ga (i.setWidth 5)), fun a i => .ofInt (a.toInt / 2 ^ (i.toNat % 32))),
       ((fun m gd ga i => .rotri m gd ga (i.setWidth 5)),
         fun a i => .ofNat (a.toNat / 2 ^ (i.toNat % 32) + a.toNat * 2 ^ (32 - i.toNat % 32)))]
       : List ((Mach → BitVec 5 → BitVec 5 → BitVec 17 → Instr) × (Word → BitVec 17 → Word))),
     ∀ (s u : State) (m : Mach) (gd ga : BitVec 5) (i : BitVec 17), s.Issues m u →
       ∃ t, exec (p.1 m gd ga i) s = .next t ∧ RegResult u t m gd (p.2 (u.rg m ga) i) ((u.mach m).pc + 4)) ∧
  (∀ (s u : State) (m : Mach) (gd ga gb : BitVec 5) (i : BitVec 17), s.Issues m u →
     (∃ t, exec (.ldhi m gd i) s = .next t ∧ RegResult u t m gd (.ofNat (i.toNat * 2 ^ 15)) ((u.mach m).pc + 4)) ∧
     (∃ t, exec (.addpc m gd i) s = .next t ∧
       RegResult u t m gd (.ofNat ((u.mach m).pc.toNat + i.toNat * 2 ^ 15)) ((u.mach m).pc + 4)) ∧
     (∃ t, exec (.mac m gd ga gb) s = .next t ∧ RegResult u t m gd (.ofInt (max (-2 ^ 31) (min ((u.rg m gd).toInt
       + ((u.rg m ga).toInt * (u.rg m gb).toInt + 2 ^ 30) / 2 ^ 31) (2 ^ 31 - 1)))) ((u.mach m).pc + 4)) ∧
     (∃ t, exec (.msu m gd ga gb) s = .next t ∧ RegResult u t m gd (.ofInt (max (-2 ^ 31) (min ((u.rg m gd).toInt
       - ((u.rg m ga).toInt * (u.rg m gb).toInt + 2 ^ 30) / 2 ^ 31) (2 ^ 31 - 1)))) ((u.mach m).pc + 4)) ∧
     (gd ≠ 0 → gd.toNat % 2 = 0 → ∃ t, exec (.macl m gd ga gb) s = .next t ∧
       t.pair64 m gd = ((max (-2 ^ 63) (min ((BitVec.ofNat 64 (u.pair64 m gd)).toInt
         + (u.rg m ga).toInt * (u.rg m gb).toInt) (2 ^ 63 - 1))) % 2 ^ 64).toNat ∧
       (∀ r, r ≠ gd → r ≠ gd + 1 → t.rg m r = u.rg m r) ∧ (t.mach m).pc = (u.mach m).pc + 4 ∧
       (∀ k, t.rc' m k = u.rc' m k) ∧ { t with machs := u.machs } = u))

/-- R144: a branch goes on at the pc plus four times the signed immediate where its condition holds, and behind itself elsewhere; it
writes no register (that is what a write to g0 says). R144: JAL and JALR link the address behind them, but for gd = g0, and go
on at their target; JALR reads ga before it writes gd. A target of JALR that is no multiple of 4 traps FETCH (code 7) with
DETAIL 4 at the JALR itself, the target in TVAL, gd as before. A target in a region that cannot be executed traps FETCH with
DETAIL 1 when it is fetched. -/
def Obligations.BranchesAndJumps : Prop :=
  (∀ p ∈ ([(.beq, fun d a => decide (d = a)), (.bne, fun d a => decide (d ≠ a)),
       (.blt, fun d a => decide (d.toInt < a.toInt)), (.bge, fun d a => decide (a.toInt ≤ d.toInt)),
       (.bltu, fun d a => decide (d.toNat < a.toNat)), (.bgeu, fun d a => decide (a.toNat ≤ d.toNat))]
       : List ((Mach → BitVec 5 → BitVec 5 → BitVec 17 → Instr) × (Word → Word → Bool))),
     ∀ (s u : State) (m : Mach) (gd ga : BitVec 5) (i : BitVec 17), s.Issues m u →
       ∃ t, exec (p.1 m gd ga i) s = .next t ∧ RegResult u t m 0 0
         (if p.2 (u.rg m gd) (u.rg m ga) then .ofInt ((u.mach m).pc.toInt + i.toInt * 4) else (u.mach m).pc + 4)) ∧
  ((∀ (s u : State) (m : Mach) (gd ga : BitVec 5) (i : BitVec 17) (j : BitVec 22), s.Issues m u →
     let target : Word := .ofInt ((u.rg m ga).toInt + i.toInt)
     (∃ t, exec (.jal m gd j) s = .next t ∧
       RegResult u t m gd ((u.mach m).pc + 4) (.ofInt ((u.mach m).pc.toInt + j.toInt * 4))) ∧
     (target.toNat % 4 = 0 → ∃ t, exec (.jalr m gd ga i) s = .next t ∧ RegResult u t m gd ((u.mach m).pc + 4) target) ∧
     (target.toNat % 4 ≠ 0 → exec (.jalr m gd ga i) s = ok (u.trap m 7 4 target) ∧
       ∀ h, u.exl m = false → u.VectorReady m 0 h → ∃ t, exec (.jalr m gd ga i) s = .next t ∧ t.rc' m cTval = target ∧
         Entered u t m h (u.mach m).pc (.ofNat (7 + 4 * 2 ^ 16 + if (u.mach m).longRun = true then 2 ^ 30 else 0)) [cTval] 0)) ∧
   (∀ (t : State) (m : Mach) (h : Word), t.alive m = true → (t.mach m).nmiFirst = false → inSram (t.mach m).pc.toNat = false →
     inFlash (t.mach m).pc.toNat = false → t.exl m = false → t.VectorReady m 0 h →
     (t.fetch m).1 = false ∧ (t.fetch m).2.rc' m cTval = (t.mach m).pc ∧
       Entered t (t.fetch m).2 m h (t.mach m).pc (.ofNat (7 + 2 ^ 16 + if (t.mach m).longRun = true then 2 ^ 30 else 0)) [cTval] 0))

/-! ### Tapol: loads, stores, atomics, long instructions (R124, R141 to R143, R149) -/

/-- R141: the loads. From `w` bytes of SRAM at an aligned address, all of them written, none poisoned and none on a page that is
being healed, gd takes the little-endian value, sign-extended where the form says so; nothing else changes. -/
def Obligations.LoadsFromSram : Prop :=
  ∀ p ∈ ([(.ldw, 4, false), (.ldh, 2, true), (.ldhu, 2, false), (.ldb, 1, true), (.ldbu, 1, false)]
      : List ((Mach → BitVec 5 → BitVec 5 → BitVec 17 → Instr) × Nat × Bool)),
    ∀ (s u : State) (m : Mach) (gd ga : BitVec 5) (i : BitVec 17), s.Issues m u →
      let a := (Word.ofInt ((u.rg m ga).toInt + i.toInt)).toNat
      a % p.2.1 = 0 → u.SramReady a p.2.1 → (∀ k < p.2.1, u.markOf ((a + k) / 8) = some .written) →
      let n := u.sramRead a p.2.1
      ∃ t, exec (p.1 m gd ga i) s = .next t ∧
        RegResult u t m gd (.ofInt (if p.2.2 ∧ 2 ^ (8 * p.2.1 - 1) ≤ n then n - 2 ^ (8 * p.2.1) else n)) ((u.mach m).pc + 4)

/-- R141, R99: the stores. The low `w` bytes of gd go to SRAM at an aligned address, where the machine may store; every byte of
memory outside them, every register and every other machine stay, and the machine goes on. -/
def Obligations.StoresToSram : Prop :=
  ∀ p ∈ ([(.stw, 4), (.sth, 2), (.stb, 1)] : List ((Mach → BitVec 5 → BitVec 5 → BitVec 17 → Instr) × Nat)),
    ∀ (s u : State) (m : Mach) (gd ga : BitVec 5) (i : BitVec 17), s.Issues m u → u.Canon →
      let a := (u.effAddr m ga i).toNat
      a % p.2 = 0 → u.SramReady a p.2 → (u.atStation m = true ∨ u.inTwin m a p.2 = true) →
      ∃ t, exec (p.1 m gd ga i) s = .next t ∧
        (∀ k < p.2, t.sramByte (a + k) = .ofNat 8 ((u.rg m gd).toNat / 2 ^ (8 * k))) ∧
        (∀ b, b < a ∨ a + p.2 ≤ b → t.sramByte b = u.sramByte b) ∧ (∀ b, t.flashByte b = u.flashByte b) ∧
        (∀ k < p.2, t.markOf ((a + k) / 8) = some .written) ∧ (t.mach m).pc = (u.mach m).pc + 4 ∧
        (∀ r, t.rg m r = u.rg m r) ∧ (∀ k, t.rc' m k = u.rc' m k) ∧ (∀ k, k ≠ m → t.mach k = u.mach k) ∧ (∀ r, t.getR r = u.getR r)

/-- R143: the atomics on an aligned SRAM word that is written: gd takes the old word; SWAP stores gb, AADD the sum, CAS stores gb
only where the old word equals gd; every byte outside the word stays. -/
def Obligations.Atomics : Prop :=
  ∀ (s u : State) (m : Mach) (gd ga gb : BitVec 5), s.Issues m u → u.Canon →
    let a := (u.rg m ga).toNat
    let old : Word := .ofNat (u.sramRead a 4)
    a % 4 = 0 → u.SramReady a 4 → u.markOf (a / 8) = some .written → (u.atStation m = true ∨ u.inTwin m a 4 = true) →
    ∀ p ∈ [(Instr.swap m gd ga gb, u.rg m gb), (.aadd m gd ga gb, old + u.rg m gb),
      (.cas m gd ga gb, if old = u.rg m gd then u.rg m gb else old)],
      ∃ t, exec p.1 s = .next t ∧ t.sramRead a 4 = p.2.toNat ∧ (∀ b, b < a ∨ a + 4 ≤ b → t.sramByte b = u.sramByte b) ∧
        (∀ b, t.flashByte b = u.flashByte b) ∧ t.rg m gd = (if gd = 0 then 0 else old) ∧ (∀ r, r ≠ gd → t.rg m r = u.rg m r) ∧
        (t.mach m).pc = (u.mach m).pc + 4 ∧ (∀ k, t.rc' m k = u.rc' m k) ∧ (∀ r, t.getR r = u.getR r)

/-- R116, R114: a load or a store at an address that its width does not divide traps ALIGN (code 3) with the address in TVAL,
whatever region it lies in, and before any other check of the address. -/
def Obligations.MisalignedAccessTraps : Prop :=
  ∀ p ∈ ([(.ldw, 4), (.ldh, 2), (.ldhu, 2), (.stw, 4), (.sth, 2)] : List ((Mach → BitVec 5 → BitVec 5 → BitVec 17 → Instr) × Nat)),
    ∀ (s u : State) (m : Mach) (gd ga : BitVec 5) (i : BitVec 17), s.Issues m u →
      (u.effAddr m ga i).toNat % p.2 ≠ 0 → exec (p.1 m gd ga i) s = ok (u.trap m 3 0 (u.effAddr m ga i))

/-- R149, R124: one element of BMOV copies four bytes, or eight where both addresses and the remaining count are multiples of 8,
moves both addresses up and the count down by them, and retires when the count is 0; BFILL fills with the word in ga. R149,
R151, R172: an element of BCRC takes up to 8 bytes into the running value in gd; CRCF takes the 12 bytes of the address and the
sequence number into it; neither stores anything. R149, R150: an element of FIRV with one tap multiplies one sample by one
coefficient, rounds the product by 31 bits, saturates it, stores it at gd, and moves both addresses up by 4 and the count down
by 1. -/
def Obligations.LongInstructions : Prop :=
  (∀ (s u : State) (m : Mach) (gd ga gb : BitVec 5), s.Issues m u → u.Canon → gd ≠ 0 → ga ≠ 0 → gb ≠ 0 → gd ≠ ga → gd ≠ gb → ga ≠ gb →
     let d := (u.rg m gd).toNat
     let a := (u.rg m ga).toNat
     let c := (u.rg m gb).toNat
     c % 4 = 0 → c ≠ 0 → d % 4 = 0 → (u.atStation m = true ∨ u.inTwin m d 8 = true) → u.SramReady d 8 →
     (let n := if d % 8 = 0 ∧ c % 8 = 0 ∧ a % 8 = 0 then 8 else 4
      a % 4 = 0 → u.SramReady a 8 → (∀ k < 8, u.markOf ((a + k) / 8) = some .written) →
       ∃ t, exec (.bmov m gd ga gb) s = .next t ∧ t.sramRead d n = u.sramRead a n ∧
         (∀ b, b < d ∨ d + n ≤ b → t.sramByte b = u.sramByte b) ∧ t.rg m gd = .ofNat (d + n) ∧ t.rg m ga = .ofNat (a + n) ∧
         t.rg m gb = .ofNat (c - n) ∧ (t.mach m).pc = (if c = n then (u.mach m).pc + 4 else (u.mach m).pc)) ∧
     (let n := if d % 8 = 0 ∧ c % 8 = 0 then 8 else 4
       ∃ t, exec (.bfill m gd ga gb) s = .next t ∧ (∀ k < n, t.sramByte (d + k) = .ofNat 8 (a / 2 ^ (8 * (k % 4)))) ∧
         (∀ b, b < d ∨ d + n ≤ b → t.sramByte b = u.sramByte b) ∧ t.rg m gd = .ofNat (d + n) ∧ t.rg m ga = u.rg m ga ∧
         t.rg m gb = .ofNat (c - n) ∧ (t.mach m).pc = (if c = n then (u.mach m).pc + 4 else (u.mach m).pc))) ∧
  (∀ (s u : State) (m : Mach) (p : BitVec 2) (gd ga gb : BitVec 5), s.Issues m u →
     let q := Poly.ofCode p.toNat
     let v := (u.rg m gd).toNat % 2 ^ q.width
     let a := (u.rg m ga).toNat
     let c := (u.rg m gb).toNat
     let n := min 8 c
     (gd ≠ 0 → ga ≠ 0 → gb ≠ 0 → gd ≠ ga → gd ≠ gb → ga ≠ gb → c ≠ 0 → a + 8 ≤ 0x100_0000 → u.SramReady a n →
       (∀ k < n, u.markOf ((a + k) / 8) = some .written) →
       ∃ t, exec (.bcrc m p gd ga gb) s = .next t ∧ t.rg m gd = .ofNat (crcBytes q v (leBytes (u.sramRead a n) n)) ∧
         t.rg m ga = .ofNat (a + n) ∧ t.rg m gb = .ofNat (c - n) ∧ t.sram = u.sram ∧ (∀ k, t.rc' m k = u.rc' m k) ∧
         (t.mach m).pc = (if c = n then (u.mach m).pc + 4 else (u.mach m).pc)) ∧
     (ga ≠ 0 → ga.toNat % 2 = 0 → ∃ t, exec (.crcf m p gd ga gb) s = .next t ∧
       RegResult u t m gd (.ofNat (crcBytes q v ((leBytes (u.stationAddr m ga) 8).reverse ++ (leBytes (u.rg m gb).toNat 4).reverse))) ((u.mach m).pc + 4))) ∧
  (∀ (s u : State) (m : Mach) (gd ga gb : BitVec 5), s.Issues m u → u.Canon → gd ≠ 0 → gd ≠ 31 → ga ≠ 0 → gb ≠ 0 → gd ≠ ga → gd ≠ gb →
     ga ≠ gb →
     let d := (u.rg m gd).toNat
     let a := (u.rg m ga).toNat
     let k := (u.rg m (gd + 1)).toNat
     let x := (Word.ofNat (u.sramRead k 4)).toInt * (Word.ofNat (u.sramRead a 4)).toInt
     u.rg m gb ≠ 0 → d % 4 = 0 → a % 4 = 0 → k % 64 = 0 → u.SramReady d 4 → u.SramReady a 4 → u.SramReady k 4 →
     u.markOf (a / 8) = some .written → u.markOf (k / 8) = some .written → (u.atStation m = true ∨ u.inTwin m d 4 = true) →
     ∃ t, exec (.firv m gd ga gb) s = .next t ∧ (Word.ofNat (t.sramRead d 4)).toInt = min ((x + 2 ^ 30) / 2 ^ 31) (2 ^ 31 - 1) ∧
       (∀ b, b < d ∨ d + 4 ≤ b → t.sramByte b = u.sramByte b) ∧ t.rg m gd = .ofNat (d + 4) ∧ t.rg m ga = .ofNat (a + 4) ∧
       t.rg m gb = u.rg m gb - 1 ∧ (t.mach m).pc = (if u.rg m gb = 1 then (u.mach m).pc + 4 else (u.mach m).pc))

/-! ### Tapol: system instructions and entries (R95 to R97, R113 to R122, R145 to R148) -/

/-- R145, R146: MFC by STATION of a stored control register gives its word; CORE_ID gives the triad, the core and the split; a read
of the low half of CYCLE, RETIRE or STIME_CLK gives it and latches the high half; gd takes the value, and nothing else changes.
R96, R146: MTC by STATION writes the bits of the register that software may write and clears the status bits that it writes 1
to; every other bit stays. TASKID takes only a task that the machine serves, or none (31). -/
def Obligations.ControlRegisters : Prop :=
  (∀ (s u : State) (m : Mach) (gd n : BitVec 5), s.Issues m u → u.atStation m = true → n ≠ 31 →
     (n.toNat ∉ [8, 9, 16, 20, 21, 23, 25] → ∃ t, exec (.mfc m gd n) s = .next t ∧
       RegResult u t m gd (u.rc' m n.toFin) ((u.mach m).pc + 4)) ∧
     (∀ p ∈ [(8, u.ipend m), (9, u.ipend m / 2 ^ 32), (16, u.owned m),
         (20, m.triad.idx.val + 2 * m.core + if u.split m.triad = true then 8 else 0)],
       n.toNat = p.1 → ∃ t, exec (.mfc m gd n) s = .next t ∧ RegResult u t m gd (.ofNat p.2) ((u.mach m).pc + 4)) ∧
     (∀ p ∈ [(21, (u.mach m).cycle), (23, (u.mach m).retire), (25, u.tt.clk)],
       n.toNat = p.1 → ∃ t, exec (.mfc m gd n) s = .next t ∧ t.rg m gd = (if gd = 0 then 0 else .ofNat p.2) ∧
         t.rc' m (n.toFin + 1) = .ofNat (p.2 / 2 ^ 32) ∧ (t.mach m).pc = (u.mach m).pc + 4 ∧
         (∀ r, r ≠ gd → t.rg m r = u.rg m r) ∧ (∀ k, k ≠ n.toFin + 1 → t.rc' m k = u.rc' m k) ∧
         (∀ k, k ≠ m → t.mach k = u.mach k) ∧ { t with machs := u.machs } = u)) ∧
  (∀ p ∈ ([(0, 0x2, 0xC), (1, 0xFFFF_FFFC, 0), (2, 0xF, 0), (3, 0, 0), (4, 0, 0), (5, 0xFFFF_FE00, 0), (6, 0xFFFF_FFFF, 0),
       (7, 0xFFFF_FFFF, 0), (8, 0, 0), (9, 0, 0), (10, 0x3F, 0), (11, 0xFFFF_FFFC, 0), (12, 0xF, 0), (13, 0, 0), (14, 0x3, 0),
       (15, 0x1F, 0), (16, 0, 0), (17, 0xFFFF_FFC0, 0), (18, 0xFFFF_FFC0, 0), (19, 0x1F_FFFF, 0), (20, 0, 0), (21, 0, 0),
       (22, 0, 0), (23, 0, 0), (24, 0, 0), (25, 0, 0), (26, 0, 0), (27, 0xFFFF_FFFF, 0), (28, 0xFFFF_FFFF, 0),
       (29, 0xFFFF_FFFF, 0), (30, 0xFFFF_FFFF, 0)] : List (BitVec 5 × Word × Word)),
     ∀ (s u : State) (m : Mach) (ga : BitVec 5), s.Issues m u → u.atStation m = true →
       let v := u.rg m ga
       let old := u.rc' m p.1.toFin
       (p.1 = 15 → v.toNat % 32 = 31 ∨ u.serves m (v.toNat % 32) = true) →
       ∃ t, exec (.mtc m p.1 ga) s = .next t ∧
         t.rc' m p.1.toFin = (old &&& ~~~p.2.1 &&& ~~~(p.2.2 &&& v)) ||| (v &&& p.2.1) ∧
         SysResult u t m [p.1.toFin] ((u.mach m).pc + 4) 1)

/-- R122, R145: ERET goes on at EPC with the status of ESTATUS; NRET goes on at NEPC with the status of NSTATUS, NMI_ACTIVE being 0.
R147: WAITI retires at once where an NMI, a pending and enabled vector or the wake interrupt is there, and waits otherwise;
R103: the fences retire, every access of the model being performed when it is issued. -/
def Obligations.ReturnsWaitsAndFences : Prop :=
  (∀ (s u : State) (m : Mach), s.Issues m u → u.atStation m = true →
     (∃ t, exec (.eret m) s = .next t ∧ t.rc' m cStatus = u.rc' m cEstatus ∧ SysResult u t m [cStatus] (u.rc' m cEpc) 1) ∧
     (∃ t, exec (.nret m) s = .next t ∧ t.rc' m cStatus = u.rc' m cNstatus &&& ~~~8 ∧
       SysResult u t m [cStatus] (u.rc' m cNepc) 1)) ∧
  (∀ (s u : State) (m : Mach), s.Issues m u →
     (∀ i ∈ [Instr.fenceAcq m, .fenceRel m, .fenceAr m], ∃ t, exec i s = .next t ∧ SysResult u t m [] ((u.mach m).pc + 4) 1) ∧
     (u.atStation m = true → ((u.mach m).nmi.isSome = true ∨ (u.mach m).wake = true ∨ u.ienabled m ≠ 0) →
       ∃ t, exec (.waiti m) s = .next t ∧ SysResult u t m [] ((u.mach m).pc + 4) 1) ∧
     (u.atStation m = true → (u.mach m).nmi = none → (u.mach m).wake = false → u.ienabled m = 0 →
       ∃ t, exec (.waiti m) s = .next t ∧ (t.mach m).wait = .waiti ∧ SysResult u t m [] (u.mach m).pc 0))

/-- R95, R145: at TASK level, each of these takes the PRIV trap (code 2) with the instruction word in TVAL and the instruction's own
address as the return address. -/
def Obligations.PrivilegedInstructionsTrapAtTask : Prop :=
  ∀ (s u : State) (m : Mach) (h : Word) (n ga gd : BitVec 5), s.Issues m u → u.atStation m = false → u.exl m = false →
    u.VectorReady m 0 h → n ≠ 31 →
    ∀ p ∈ [(Instr.mtc m n ga, encR 0x1C n ga 0 0x100), (.eret m, encR 0x1C 0 0 0 0x200), (.nret m, encR 0x1C 0 0 0 0x300),
        (.waiti m, encR 0x1C 0 0 0 0x700), (.raise m gd ga, encR 0x1E gd ga 0 0x400)],
      ∃ t, exec p.1 s = .next t ∧ t.rc' m cTval = p.2 ∧
        Entered u t m h (u.mach m).pc (.ofNat (2 + if (u.mach m).longRun = true then 2 ^ 30 else 0)) [cTval] 0

/-- R114, R115: SYSCALL takes its trap (code 0x0A) with imm8 as the detail, its own address in TVAL and the address after it as the
return address; BREAK takes its trap (code 0x0B) the same way while no debugger is attached. R148, R190: with a debugger
attached BREAK retires and its triad halts. -/
def Obligations.CallsAndBreaks : Prop :=
  (∀ (s u : State) (m : Mach) (h : Word) (k : BitVec 8), s.Issues m u → u.exl m = false → u.VectorReady m 0 h →
     let long := if (u.mach m).longRun = true then 2 ^ 30 else 0
     (∃ t, exec (.syscall m k) s = .next t ∧ t.rc' m cTval = (u.mach m).pc ∧
       Entered u t m h ((u.mach m).pc + 4) (.ofNat (0x0A + k.toNat * 2 ^ 16 + long)) [cTval] 0) ∧
     (u.isF (Fd.TR_DBG_ATTACHED m.triad.idx) = false → ∃ t, exec (.breakTrap m) s = .next t ∧ t.rc' m cTval = (u.mach m).pc ∧
       Entered u t m h ((u.mach m).pc + 4) (.ofNat (0x0B + long)) [cTval] 0)) ∧
  (∀ (s u : State) (m : Mach), s.Issues m u → u.isF (Fd.TR_DBG_ATTACHED m.triad.idx) = true → (u.tri m.triad).phase = .normal →
     ∃ t, exec (.breakTrap m) s = .next t ∧ t.isF (Fd.TR_STAT_HALTED m.triad.idx) = true ∧ (t.mach m).pc = (u.mach m).pc + 4 ∧
       (t.mach m).retire = (u.mach m).retire + 1 ∧ (∀ r, t.rg m r = u.rg m r) ∧ (∀ k, t.rc' m k = u.rc' m k) ∧
       (∀ k, k ≠ m → t.mach k = u.mach k) ∧ (t.tri m.triad).haltPend = false ∧ t.sram = u.sram ∧
       (∀ r : Rg, r.addr ≠ (Rg.TR_STAT m.triad.idx).addr → t.getR r = u.getR r))

/-- R114, R115, R119, R121: a synchronous trap. Outside a handler it enters the handler at vector word 0; inside one (EXL) it takes
the NMI entry with cause 0x0C and its code as the detail; inside the NMI handler it halts the machine and sets SB4. -/
def Obligations.TrapsNest : Prop :=
  ∀ (u : State) (m : Mach) (ret tval h : Word) (code detail : Nat), u.alive m = true →
    (u.exl m = false → u.VectorReady m 0 h → (u.trapAt m ret code detail tval).rc' m cTval = tval ∧
      Entered u (u.trapAt m ret code detail tval) m h ret
        (.ofNat (code + detail * 2 ^ 16 + if (u.mach m).longRun = true then 2 ^ 30 else 0)) [cTval] 0) ∧
    (u.exl m = true → u.nmiActive m = false → u.VectorReady m 1 h →
      EnteredNmi u (u.trapAt m ret code detail tval) m h ret (.ofNat (0x0C + code * 2 ^ 16))) ∧
    (u.exl m = true → u.nmiActive m = true → u.Quiet 4 →
      let t := u.trapAt m ret code detail tval
      (t.mach m).halted = true ∧ t.bitF (Fd.SB_STICKY_BITS 0) 4 = true ∧ (t.mach m).pc = (u.mach m).pc ∧
        (∀ r, t.rg m r = u.rg m r) ∧ (∀ k, t.rc' m k = u.rc' m k))

/-- R117, R118, R119, R122, R147: at a retire slot of a running machine, an NMI that is held is taken where NMI_ACTIVE is 0; else,
with IE = 1 and EXL = 0, the lowest vector that is pending and enabled. A WAITI that waits retires first. -/
def Obligations.InterruptEntries : Prop :=
  ∀ (s : State) (m : Mach) (h : Word), s.running m = true → s.Settled →
    (∀ src, (s.mach m).wait = .none → (s.mach m).nmi = some src → s.nmiActive m = false → s.VectorReady m 1 h →
      ∃ t, exec (.nmiEntry m) s = .next t ∧ (t.mach m).nmi = none ∧
        EnteredNmi s t m h (s.mach m).pc (.ofNat (0x0D + src * 2 ^ 16))) ∧
    (∀ v, (s.mach m).nmi = none → (s.mach m).wake = false → (s.rc' m cStatus).getLsbD 1 = true → s.exl m = false →
      s.nmiActive m = false → v < 64 → (s.ienabled m).testBit v = true → (∀ w < v, (s.ienabled m).testBit w = false) →
      s.VectorReady m (64 + v) h →
      ((s.mach m).wait = .none → ∃ t, exec (.maskableInterruptEntry m) s = .next t ∧
        Entered s t m h (s.mach m).pc (.ofNat (v * 2 ^ 8 + 2 ^ 31 + if (s.mach m).longRun = true then 2 ^ 30 else 0)) [] 0) ∧
      ((s.mach m).wait = .waiti → ∃ t, exec (.waitiRelease m) s = .next t ∧ (t.mach m).wait = .none ∧
        Entered s t m h ((s.mach m).pc + 4) (.ofNat (v * 2 ^ 8 + 2 ^ 31)) [] 1))

/-! ### Tapol: channel, tally, fault, timetable and station instructions (R153 to R171) -/

/-- R154 to R157, R252: CHMODE of an owned channel takes a valid record from SRAM, and CHSET a valid item, into the request that
waits for the departure after next where the deadline has passed, else into the one for the next departure; the code that gd
takes says what the request replaces, where it waits, and the generation that it will have. R157, R158, R301, R302: CHSET of
item 0x00 starts at once the sequences of an ACTIVE analogue input whose trigger is the program; CHGET gives the item, and
INJ_RES removes the entry that it gives. -/
def Obligations.ChannelInstructions : Prop :=
  (∀ (s u : State) (m : Mach) (gd ga gb : BitVec 5) (i : BitVec 8), s.Issues m u →
     let n := u.chanOf m ga
     let a := (u.rg m gb).toNat
     let v := u.rg m gb
     let r := wordsOfBytes (leBytes (u.sramRead a 64) 64)
     let later := if u.isLater = true then 1 else 0
     let slot := fun (h : ChanH) => if u.isLater = true then h.later else h.next
     let c := u.cfgAt n u.isLater
     (u.mayUse m).testBit n.val = true → u.inReset (.ch n) = false → u.refuge = false →
     (a % 64 = 0 → u.SramReady a 64 → (∀ k < 64, u.markOf ((a + k) / 8) = some .written) → recOk n.val r = true →
       (u.chSt n = stFaulted → recMode r = mOff) →
       ∃ t, exec (.chmode m gd ga gb) s = .next t ∧ slot (t.ch n) = { slot (u.ch n) with record := some r } ∧
         (t.ch n).cfg = (u.ch n).cfg ∧ (∀ k, k ≠ n → t.ch k = u.ch k) ∧ t.sram = u.sram ∧ (t.mach m).pc = (u.mach m).pc + 4 ∧
         t.rg m gd = if gd = 0 then 0 else .ofNat ((if u.chSt n = stShutting then 1 else 0)
           + (if (slot (u.ch n)).record.isSome = true then 16 else 0) + 32 * later
           + 65536 * ((u.getF (Fd.CH_STATE_GEN n.val) + 1 + if u.isLater ∧ (u.ch n).next.isLive then 1 else 0) % 65536))) ∧
     (0 < i.toNat → i.toNat < 0x30 → itemSet c.mode c.variant i.toNat = true → (c.setItem i.toNat v).itemOk i.toNat = true →
       (i = 0x13 → v ≠ 0 → v.toNat ≤ 4 → isAnaOut (u.chMode n) = true ∧ u.chSt n = stActive) →
       ∃ t, exec (.chset m i gd ga gb) s = .next t ∧
         (slot (t.ch n)).items = (slot (u.ch n)).items.filter (fun p => p.1 != i.toNat)
           ++ [(i.toNat, if i = 0x1D then .ofNat (u.ch n).actSeq else v)] ∧
         (slot (t.ch n)).record = (slot (u.ch n)).record ∧ (t.ch n).cfg = (u.ch n).cfg ∧ (∀ k, k ≠ n → t.ch k = u.ch k) ∧
         t.sram = u.sram ∧ (t.mach m).pc = (u.mach m).pc + 4 ∧
         t.rg m gd = if gd = 0 then 0
           else .ofNat ((if (slot (u.ch n)).items.any (fun p => p.1 == i.toNat) = true then 16 else 0) + 32 * later))) ∧
  (∀ (s u : State) (m : Mach) (gd ga gb : BitVec 5) (i : BitVec 8), s.Issues m u →
     let n := u.chanOf m ga
     let h := u.ch n
     (u.mayUse m).testBit n.val = true → u.inReset (.ch n) = false →
     (∀ c ∈ [Instr.chset m 0 gd ga gb, .chsetStart m gd ga gb], u.refuge = false → isAnaIn h.cfg.mode = true → u.chSt n = stActive →
       (u.rg m gb = 1 → h.regTrig = 6 → h.regRun = true → h.regSlot = none → h.regNext = none → h.injSlot = none → h.injWait = none →
         ∃ t, exec c s = .next t ∧ RegResult (u.setCh n { h with regSlot := some 0, regStart := some u.tt.clk }) t m gd 0 ((u.mach m).pc + 4)) ∧
       (u.rg m gb = 2 → h.injTrig = 6 → h.injEn = true → h.regSlot = none → h.injSlot = none → h.injWait = none →
         ∃ t, exec c s = .next t ∧ RegResult (u.setCh n { h with injSlot := some 0, injDelay := 0, injStart := some u.tt.clk }) t m gd 0 ((u.mach m).pc + 4))) ∧
     (i.toNat < 0x30 → i ≠ 0x0E → ∃ t, exec (.chget m i gd ga) s = .next t ∧
       RegResult u t m gd (u.itemRead n i.toNat) ((u.mach m).pc + 4)) ∧
     (itemDefined h.cfg.mode h.cfg.variant 0x0E = true → ∃ t, exec (.chget m 0x0E gd ga) s = .next t ∧
       (t.ch n).injQ = h.injQ.tail ∧ t.rg m gd = (if gd = 0 then 0 else (h.injQ.head?.map (·.value)).getD 0) ∧
       (t.mach m).pc = (u.mach m).pc + 4 ∧ ∀ k, k ≠ n → t.ch k = u.ch k))

/-- R159 to R161, R486, R503, R540: TALLY checks in and says whether it counts, came early or found nothing to count; RAISE sets the
source and marks it as raised by software, and refuses SB127; ROLL latches a snapshot, or counts an overrun. R161, R545: ROLL.S
schedules a roll call of the whole station at the time in the pair ga, at least 500 µs ahead and while none is scheduled, under
the next ID of this node, and sends it to every node. -/
def Obligations.TallyRaiseAndRollCalls : Prop :=
  (∀ (s u : State) (m : Mach) (n : Fin 16) (gd ga : BitVec 5), s.Issues m u →
     let pc := (u.mach m).pc + 4
     ((u.mayUse m).testBit (16 + n.val) = true →
       (u.isF Fd.TL_CTRL_EN = false ∨ u.isF Fd.TL_STAT_STARTED = false ∨ u.tl.enabled.getLsbD n.val = false →
         ∃ t, exec (.tally m n gd) s = .next t ∧ RegResult u t m gd 2 pc) ∧
       (u.isF Fd.TL_CTRL_EN = true → u.isF Fd.TL_STAT_STARTED = true → u.tl.enabled.getLsbD n.val = true →
         (u.isF Fd.TL_STAT_OPEN = true →
           ∃ t, exec (.tally m n gd) s = .next t ∧ RegResult (u.setBitF Fd.TL_DONE_DONE n.val) t m gd 0 pc) ∧
         (u.isF Fd.TL_STAT_OPEN = false → u.Quiet 113 → ∃ t, exec (.tally m n gd) s = .next t ∧
           RegResult (((u.setBitF Fd.TL_DONE_EARLY n.val).incF Fd.TL_CNT_EARLY).sticky 113) t m gd 1 pc))) ∧
     (let k := (u.rg m ga).toNat % 128
      u.atStation m = true →
       (10 ≤ k → k ≠ 127 → u.Quiet k → ∃ t, exec (.raise m gd ga) s = .next t ∧
         RegResult ((u.sticky k).setBitF (Fd.SB_SW_BITS (k / 32)) (k % 32)) t m gd 0 pc) ∧
       (k = 127 → ∃ t, exec (.raise m gd ga) s = .next t ∧ RegResult u t m gd 1 pc)) ∧
     (u.isF Fd.RC_STAT_HELD = false → ∃ t, exec (.roll m gd) s = .next t ∧ t.isF Fd.RC_STAT_HELD = true ∧
       t.getF Fd.RC_STAT_SRC = 2 ∧ t.rc.snap.isSome = true ∧ t.rc.count = (u.rc.count + 1) % 2 ^ 16 ∧ t.rg m gd = 0 ∧
       (∀ r, r ≠ gd → t.rg m r = u.rg m r) ∧ (t.mach m).pc = pc) ∧
     (u.isF Fd.RC_STAT_HELD = true → u.Quiet 125 → (∀ x, u.rc.snap = some x → x.edge ≠ u.now ∨ x.src = 2) → ∃ t, exec (.roll m gd) s = .next t ∧
       RegResult ((u.incF Fd.RC_STAT_OVERRUN).sticky 125) t m gd 1 pc) ∧
     (u.isF Fd.RC_STAT_HELD = true → ∀ x, u.rc.snap = some x → x.edge = u.now → x.src = 1 ∨ x.src = 3 ∨ x.src = 4 → ∃ t,
       exec (.roll m gd) s = .next t ∧ RegResult u t m gd 0 pc)) ∧
  (∀ (s u : State) (m : Mach) (gd ga : BitVec 5), s.Issues m u → u.atStation m = true → ga ≠ 0 → ga.toNat % 2 = 0 →
     let at_ := u.pair64 m ga
     let pc := (u.mach m).pc + 4
     (at_ - u.tt.clk < 500000 → ∃ t, exec (.rollS m gd ga) s = .next t ∧ RegResult u t m gd 3 pc) ∧
     (500000 ≤ at_ - u.tt.clk → u.isF Fd.RC_STAT_SCHEDULED = true →
       ∃ t, exec (.rollS m gd ga) s = .next t ∧ RegResult u t m gd 4 pc) ∧
     (500000 ≤ at_ - u.tt.clk → u.isF Fd.RC_STAT_SCHEDULED = false →
       ∃ t, exec (.rollS m gd ga) s = .next t ∧ t.isF Fd.RC_STAT_SCHEDULED = true ∧
         t.getR Rg.RC_SCHED_LO = .ofNat at_ ∧ t.getR Rg.RC_SCHED_HI = .ofNat (at_ / 2 ^ 32) ∧
         t.getF Fd.RC_SCHED_ID_ID = (u.rc.lastId + 1) % 2 ^ 16 ∧ t.rg m gd = (if gd = 0 then 0 else 2) ∧
         (u.ovLive = true → u.numbered = true → t.ov.oseq = (u.ov.oseq + 1) % 65536) ∧ (t.mach m).pc = pc))

/-- R163, R224, R238: WAITD.DEP returns the epoch delivered last, and WAITD.MAN the latest one whose manifest has closed, taking
hold of its bank, once that epoch has reached the one asked for; otherwise the machine waits, and WAITD_RELEASE ends the wait
when the epoch has come. -/
def Obligations.WaitsForDepartures : Prop :=
  ∀ (s u : State) (m : Mach) (gd ga : BitVec 5),
    (s.Issues m u →
      let reached := fun e : Nat => (Word.ofNat e - u.rg m ga).toNat < 2 ^ 31
      let pc := (u.mach m).pc + 4
      let waits := fun man => u.modMach m fun x => { x with wait := .waitd man gd (u.rg m ga) }
      (u.tt.ran = true → reached u.tt.epoch → ∃ t, exec (.waitdDep m gd ga) s = .next t ∧
        RegResult (u.modMach m fun x => { x with wait := .none }) t m gd (.ofNat u.tt.epoch) pc) ∧
      (u.tt.ran = false ∨ ¬reached u.tt.epoch → exec (.waitdDep m gd ga) s = .next (waits false)) ∧
      (∀ e b, u.mani.closed = some (e, b) →
        (reached e → ∃ t, exec (.waitdMan m gd ga) s = .next t ∧
          RegResult ((u.modMach m fun x => { x with wait := .none }).setR (holdReg m) (.ofNat (b + 8 + e % 65536 * 65536)))
            t m gd (.ofNat e) pc) ∧
        (¬reached e → exec (.waitdMan m gd ga) s = .next (waits true))) ∧
      (u.mani.closed = none → exec (.waitdMan m gd ga) s = .next (waits true))) ∧
    (∀ v, s.running m = true → s.Settled →
      let free := s.modMach m fun x => { x with wait := .none }
      let pc := (s.mach m).pc + 4
      ((s.mach m).wait = .waitd false gd v → s.tt.ran = true → (Word.ofNat s.tt.epoch - v).toNat < 2 ^ 31 →
        ∃ t, exec (.waitdRelease m) s = .next t ∧ RegResult free t m gd (.ofNat s.tt.epoch) pc) ∧
      (∀ e b, (s.mach m).wait = .waitd true gd v → s.mani.closed = some (e, b) → (Word.ofNat e - v).toNat < 2 ^ 31 →
        ∃ t, exec (.waitdRelease m) s = .next t ∧
          RegResult (free.setR (holdReg m) (.ofNat (b + 8 + e % 65536 * 65536))) t m gd (.ofNat e) pc))

/-- R164 to R167, R229: in time for the next departure, PROPOSE of a value that the channel can take makes its proposal, with what
the machine has peeked as its producers; RETRACT withdraws a proposal without consumers; COMMIT of one channel makes a proposal
that depends on nothing FINAL, one that depends on others CONDITIONAL, and where there is none keeps the present output. R168,
R169, R238: PEEK at this node gives the value of a proposal that is peekable and its state, and records the dependency of a
machine on a proposal of another; from the deadline on one that is not FINAL is retracted; the status holds the epoch of the
next departure. -/
def Obligations.ProposalsAndPeeks : Prop :=
  (∀ (s u : State) (m : Mach) (gd ga gb : BitVec 5), s.Issues m u → u.refuge = false → u.late = false → u.inReset .mani = false →
     let pc := (u.mach m).pc + 4
     (let c := u.chanOf m ga
      let l := u.peekedBy m
      (u.mayUse m).testBit c.val = true →
       ((u.prop c).state = .none ∨ (u.prop c).state = .retracted → u.willDrive c = true →
         valueOk (u.cfgAt c false).mode (u.rg m gb) = true → depthOf l < 9 → ∃ t, exec (.propose m gd ga gb) s = .next t ∧
         RegResult (u.setProp c { state := .proposed, value := u.rg m gb, depth := depthOf l, deps := l, by_ := m })
           t m gd (if l = [] then 0 else 16) pc) ∧
       ((u.prop c).state = .proposed → (u.prop c).cons = [] → ∃ t, exec (.retract m gd ga) s = .next t ∧ t.prop c = {} ∧
         (∀ k, k ≠ c → t.prop k = u.prop k) ∧ t.rg m gd = 0 ∧ (∀ r, r ≠ gd → t.rg m r = u.rg m r) ∧ (t.mach m).pc = pc)) ∧
     (∀ c : Fin 16, (u.rg m ga).toNat % 65536 = 2 ^ c.val → (u.mayUse m).testBit c.val = true → (u.prop c).cons = [] →
       (u.prop c).state = .none ∨ (u.prop c).state = .proposed →
       ∃ t, exec (.commit m gd ga) s = .next t ∧ (∀ k, k ≠ c → t.prop k = u.prop k) ∧ t.startedBit m.triad = true ∧
         (t.prop c).state = (if (u.prop c).state = .proposed ∧ (u.prop c).deps ≠ [] then .conditional else .final) ∧
         (t.prop c).value = (if (u.prop c).state = .none then (u.ch c).target else (u.prop c).value) ∧
         t.rg m gd = (if gd = 0 then 0 else .ofNat (t.committedMask * 65536)) ∧ (∀ r, r ≠ gd → t.rg m r = u.rg m r) ∧
         (t.mach m).pc = pc)) ∧
  (∀ (s u : State) (m : Mach) (gd ga : BitVec 5), s.Issues m u → gd ≠ 0 → gd.toNat % 2 = 0 → u.inReset .mani = false →
     2 ≤ u.stationRev →
     let c := Fin.ofNat 16 (u.rg m ga).toNat
     let p := u.prop c
     let waits := p.state = .proposed ∨ p.state = .conditional
     (u.rg m ga).toNat / 16 % 1024 = u.nodeId →
     (u.bitF Fd.MANI_PEEKABLE_CH c.val = true → p.keep = false →
       ∃ t, exec (.peek m gd ga) s = .next t ∧ (t.mach m).pc = (u.mach m).pc + 4 ∧
         (∀ r, r ≠ gd → r ≠ gd + 1 → t.rg m r = u.rg m r) ∧ t.rg m gd = (if p.state = .none ∨ p.state = .retracted ∨ waits ∧ u.late = true then 0 else p.value) ∧
         (let code := match p.state with
            | .none => 0
            | .proposed => if u.late = true then 3 else 1
            | .conditional => if u.late = true then 3 else 1
            | .final => 2
            | .retracted => 3
            | .doubt => 4
          t.rg m (gd + 1) = .ofNat (code + (if waits ∧ u.late = false ∧ p.by_ ≠ m then 16 else 0) + u.tt.nextE % 65536 * 65536) ∧
          (waits → u.late = false → p.by_ ≠ m → u.nodeId ∈ (t.prop c).cons ∧
            ({ node := u.nodeId, chan := c.val, depth := p.depth } : Dep) ∈ t.peekedBy m))) ∧
     (u.bitF Fd.MANI_PEEKABLE_CH c.val = false → ∃ t, exec (.peek m gd ga) s = .next t ∧ t.rg m gd = 0 ∧
       t.rg m (gd + 1) = .ofNat (u.tt.nextE % 65536 * 65536) ∧ (t.mach m).pc = (u.mach m).pc + 4))

/-- R171, R403 to R405: LDS and STS under a session that admits them to another node send a request with the session's next counter,
and the machine waits for its reply. -/
def Obligations.StationAccesses : Prop :=
  ∀ (s u : State) (m : Mach) (gd ga gb : BitVec 5), s.Issues m u → ga ≠ 0 → ga.toNat % 2 = 0 → u.inReset .sess = false →
    let a := u.stationAddr m ga
    let sid := (u.rg m gb).toNat % 1024
    let e := u.sess sid
    let own := (Blk.triad m.triad).gen
    a / 2 ^ 42 ≠ u.nodeId → a / 2 ^ 42 ≠ 0x3FF →
    (∀ p ∈ ([(0, 1, false), (1, 2, false), (2, 4, false), (4, 1, true), (5, 2, true)] : List (BitVec 3 × Nat × Bool)),
      a % p.2.1 = 0 → u.clientCheck sid (a / 2 ^ 42) false = none →
      ∃ t, exec (.lds m p.1 gd ga gb) s = .next t ∧
        (t.mach m).wait = .station { addr := a, width := p.2.1, signed := p.2.2, rd := gd, sess := some sid } u.nextReq ∧
        t.sess sid = { e with tx := e.tx + 1, inflC := e.inflC + 1 } ∧
        t.ss.out = u.ss.out ++ [{ id := u.nextReq, who := .mach m, sid := sid, counter := e.tx, node := a / 2 ^ 42, write := false, own := false
                                  bcast := false, reqGen := u.getF (Fd.GEN_GEN own), reqBlk := own, oseq := u.ov.oseq }]) ∧
    (∀ p ∈ ([(0, 1), (1, 2), (2, 4)] : List (BitVec 3 × Nat)),
      a % p.2 = 0 → u.clientCheck sid (a / 2 ^ 42) true = none →
      ∃ t, exec (.sts m p.1 gd ga gb) s = .next t ∧
        (t.mach m).wait = .station { write := true, addr := a, width := p.2, data := u.rg m gd, sess := some sid } u.nextReq ∧
        t.sess sid = { e with tx := e.tx + 1, inflC := e.inflC + 1 } ∧
        t.ss.out = u.ss.out ++ [{ id := u.nextReq, who := .mach m, sid := sid, counter := e.tx, node := a / 2 ^ 42, write := true, own := false
                                  bcast := false, reqGen := u.getF (Fd.GEN_GEN own), reqBlk := own, oseq := u.ov.oseq }])

/-! ### The signal box (R483 to R494) and the tally watchdog (R500 to R511) -/

/-- R483, R484, R486, R489, R492, R493: what each command of the signal box does where the source's reaction is no more than STICKY:
a raise sets the sticky bit and re-arms the pair, a break marks the pair and raises SB127, a re-arm clears the mark, a mismatch
of the collector sets SELF, the quiet timer ends FAULT and counts one recovery, a write of SB_CFG that is valid puts its fields
there and changes no other register, and LOCK locks. R493: while LOCK is 1 a write of SB_CFG, of a reaction or of anything else
in it, changes only SB_STAT.LOCK_WR. -/
def Obligations.SignalBox : Prop :=
  (∀ (s : State) (src : Fin 128) (t : Triad) (v : Word), s.phase = .running → s.Settled →
     let k := src.val
     let wire := Fd.SB_WIRE_BITS (k / 32)
     (10 ≤ k → ¬(11 ≤ k ∧ k ≤ 15) → k ≠ 31 → k ≠ 127 → s.Quiet k →
       exec (.sourceRaise src t) s = .next ((s.clrBitF wire (k % 32)).sticky k)) ∧
     (k ≠ 127 → s.bitF wire (k % 32) = false → s.Quiet 127 →
       exec (.wireBreak src false t) s = .next ((s.setBitF wire (k % 32)).sticky 127)) ∧
     exec (.wireRearm src) s = .next (s.clrBitF wire (k % 32)) ∧
     exec .collectorMismatch s = .next (s.onF Fd.SB_STAT_SELF) ∧
     (s.isF Fd.SB_STAT_STATE = true → ∃ u, exec .quietTimerExpiry s = .next u ∧ u.isF Fd.SB_STAT_STATE = false ∧
       u.getF Fd.SB_RECOVER_COUNT = min (s.getF Fd.SB_RECOVER_COUNT + 1) (2 ^ 32 - 1) ∧ u.sb.quietEnd = 0 ∧
       ∀ r : Rg, r.addr ≠ Rg.SB_STAT.addr → r.addr ≠ Rg.SB_RECOVER.addr → u.getR r = s.getR r) ∧
     (s.isF Fd.SB_CTRL_LOCK = false → v.toNat % 8 < 6 → (v.toNat % 8 = 3 → hasTarget k = true) →
       ∃ u, exec (.sbCfgWrite src v) s = .next u ∧ u.getF (Fd.SB_CFG_REACTION k) = v.toNat % 8 ∧
         u.getF (Fd.SB_CFG_ROUTE_A k) = v.toNat / 16 % 2 ∧ u.getF (Fd.SB_CFG_ROUTE_B k) = v.toNat / 32 % 2 ∧
         u.getF (Fd.SB_CFG_ROLL k) = v.toNat / 64 % 2 ∧ ∀ r : Rg, r.addr ≠ (Rg.SB_CFG k).addr → u.getR r = s.getR r) ∧
     exec .sbLock s = .next (s.onF Fd.SB_CTRL_LOCK)) ∧
  (∀ (s : State) (src : Fin 128) (v : Word), s.phase = .running → s.Settled → s.isF Fd.SB_CTRL_LOCK = true →
     exec (.sbCfgWrite src v) s = .next (s.onF Fd.SB_STAT_LOCK_WR))

/-- R122, R485 to R489, R498: a raise of a block's source with reaction NMI or NMI_ERR brings the box into FAULT, or keeps it there
with a new quiet time; the first source is recorded, another one sets SECOND; every machine of each routed triad holds the NMI,
unless it holds one already; of raises at one time the highest-numbered source is the one that is reported and the one that LAST
holds. -/
def Obligations.StrongReactions : Prop :=
  ∀ (s : State) (src : Fin 128) (t : Triad), s.phase = .running → s.Settled →
    let k := src.val
    10 ≤ k → ¬(11 ≤ k ∧ k ≤ 15) → k ≠ 31 → k ≠ 127 → s.getF (Fd.SB_CFG_REACTION k) = 2 ∨ s.getF (Fd.SB_CFG_REACTION k) = 4 →
    s.isF (Fd.SB_CFG_ROLL k) = false →
    ∃ u, exec (.sourceRaise src t) s = .next u ∧ u.bitF (Fd.SB_STICKY_BITS (k / 32)) (k % 32) = true ∧
      u.isF Fd.SB_STAT_STATE = true ∧ u.getF Fd.SB_STAT_LAST = (if s.sb.lastAt = s.now then max (s.getF Fd.SB_STAT_LAST) k else k) ∧
      u.sb.quietEnd = s.now + max 1 (s.getF Fd.SB_QUIET_QUIET) * 1000000 ∧
      u.getF Fd.SB_FIRST_SOURCE = (if s.isF Fd.SB_STAT_STATE = true then s.getF Fd.SB_FIRST_SOURCE else k) ∧
      (s.isF Fd.SB_STAT_STATE = true → s.getF Fd.SB_FIRST_SOURCE ≠ k → u.isF Fd.SB_COVER_SECOND = true) ∧
      (∀ m : Mach, s.machExists m = true →
        (u.mach m).nmi = (if s.isF (if m.triad = .a then Fd.SB_CFG_ROUTE_A k else Fd.SB_CFG_ROUTE_B k) = true
            ∨ (s.isF (Fd.SB_CFG_ROUTE_A k) = false ∧ s.isF (Fd.SB_CFG_ROUTE_B k) = false)
          then some (match (s.mach m).nmi with
            | none => k
            | some j => if (s.mach m).nmiAt = s.now then max j k else j)
          else (s.mach m).nmi))

/-- R501, R502, R507, R508, R511: with the key open each protected write takes effect and uses the key up; setting enables of owned
tallies, LOCK and the key words need none. R501, R507: without the key, a write that clears an enable, clears EN, sets DBG_HOLD,
or changes the period or the ladder, changes none of them and sets PROT_WR. R500, R502, R503, R505, R506, R510, R511: the window
opens; a period without a miss ends in the next one and brings the level of a triad whose tallies have checked in back to 0;
counting starts after boot; the erase guard expires; the run of resets is forgotten; copies that disagree cause the chip reset
of step 2. -/
def Obligations.TallyWatchdog : Prop :=
  (∀ (s : State) (v : Word) (b : Bool), s.phase = .running → s.Settled →
     (s.keyOpen = true →
       (1 ≤ v.toNat % 2 ^ 16 → v.toNat % 2 ^ 16 ≤ 65000 → exec (.tlPeriodWrite v) s =
         .next ({ s with tl := { s.tl with keyStage := 0 } }.setF Fd.TL_PERIOD_PERIOD (v.toNat % 2 ^ 16))) ∧
       (v.toNat % 16 ≠ 0 → exec (.tlEscWrite v) s = .next ({ s with tl := { s.tl with keyStage := 0 } }.setF Fd.TL_ESC_N (v.toNat % 16))) ∧
       (∃ t, exec (.tlCtrlEnWrite b) s = .next t ∧ t.isF Fd.TL_CTRL_EN = b ∧ t.isF Fd.TL_CTRL_DBG_HOLD = s.isF Fd.TL_CTRL_DBG_HOLD ∧
         t.tl.keyStage = 0) ∧
       (∃ t, exec (.tlDbgHoldWrite b) s = .next t ∧ t.isF Fd.TL_CTRL_DBG_HOLD = b ∧ t.isF Fd.TL_CTRL_EN = s.isF Fd.TL_CTRL_EN ∧
         t.tl.keyStage = 0)) ∧
     (s.tl.keyStage ≠ 1 → s.isF Fd.TL_STAT_STARTED = true → s.getF Fd.TL_EN_EN &&& (0xFFFF ^^^ v.toNat % 2 ^ 16) = 0 →
       (v.toNat % 2 ^ 16 &&& (0xFFFF ^^^ s.getF Fd.TL_EN_EN)) &&& (0xFFFF ^^^ s.ownedTallies) = 0 →
       exec (.tlEnWrite v) s = .next ({ s with tl := { s.tl with keyStage := 0 } }.setF Fd.TL_EN_EN (v.toNat % 2 ^ 16))) ∧
     (s.tl.keyStage ≠ 1 → ∃ t, exec .tlLock s = .next t ∧ t.isF Fd.TL_CTRL_LOCK = true ∧ t.isF Fd.TL_CTRL_EN = s.isF Fd.TL_CTRL_EN ∧
       t.isF Fd.TL_CTRL_DBG_HOLD = s.isF Fd.TL_CTRL_DBG_HOLD) ∧
     (s.isF Fd.TL_CTRL_LOCK = false →
       (s.tl.keyStage ≠ 1 → v.toNat % 65536 = 0x7E3A → exec (.tlKeyWrite v) s = .next { s with tl := { s.tl with keyStage := 1 } }) ∧
       (s.tl.keyStage = 1 → v.toNat % 65536 = 0x81C5 →
         exec (.tlKeyWrite v) s = .next { s with tl := { s.tl with keyStage := 2, keyTime := s.now } }))) ∧
  (∀ (s : State) (v : Word), s.phase = .running → s.Settled → s.keyOpen = false → s.tl.keyStage ≠ 1 →
     let t := { s with tl := { s.tl with keyStage := 0 } }.onF Fd.TL_STAT_PROT_WR
     (s.isF Fd.TL_CTRL_EN = true → exec (.tlCtrlEnWrite false) s = .next t) ∧
     (s.isF Fd.TL_CTRL_DBG_HOLD = false → exec (.tlDbgHoldWrite true) s = .next t) ∧
     (s.getF Fd.TL_EN_EN &&& (0xFFFF ^^^ v.toNat % 2 ^ 16) ≠ 0 → exec (.tlEnWrite v) s = .next t) ∧
     (1 ≤ v.toNat % 2 ^ 16 → v.toNat % 2 ^ 16 ≤ 65000 → v.toNat % 2 ^ 16 ≠ s.getF Fd.TL_PERIOD_PERIOD →
       exec (.tlPeriodWrite v) s = .next t) ∧
     (v.toNat % 16 ≠ 0 → v.toNat % 16 ≠ s.getF Fd.TL_ESC_N → exec (.tlEscWrite v) s = .next t)) ∧
  (∀ (s : State), s.phase = .running → s.Settled →
     (s.isF Fd.TL_CTRL_EN = true → s.isF Fd.TL_STAT_STARTED = true → s.tl.stopped = false → s.isF Fd.TL_STAT_SUSPENDED = false →
       (s.isF Fd.TL_STAT_OPEN = false → ∃ t, exec .tallyWindowOpen s = .next t ∧ t.isF Fd.TL_STAT_OPEN = true ∧
         t.isF Fd.TL_IRQ_PEND_A = (s.isF Fd.TL_IRQ_PEND_A || s.isF Fd.TL_IRQ_EN_A) ∧
         t.isF Fd.TL_IRQ_PEND_B = (s.isF Fd.TL_IRQ_PEND_B || s.isF Fd.TL_IRQ_EN_B)) ∧
       (let en := s.tl.enabled.toNat
        en ≠ 0 → en &&& s.getF Fd.TL_DONE_DONE = en → en &&& s.getF Fd.TL_DONE_EARLY = 0 → s.pwr.failing = false →
         ∃ t, exec .tallyPeriodEnd s = .next t ∧ t.getR Rg.TL_DONE = 0 ∧ t.tl.phase = 0 ∧ t.tl.period = s.getF Fd.TL_PERIOD_PERIOD ∧
           t.getF Fd.TL_MISS_MISS = s.getF Fd.TL_MISS_MISS ∧ t.machs = s.machs ∧
           t.getF Fd.TL_STAT_LEVEL_A = (if en &&& s.talliesOf .a ≠ 0 then 0 else s.getF Fd.TL_STAT_LEVEL_A) ∧
           t.getF Fd.TL_STAT_LEVEL_B = (if en &&& s.talliesOf .b ≠ 0 then 0 else s.getF Fd.TL_STAT_LEVEL_B))) ∧
     (s.isF Fd.TL_STAT_STARTED = false → s.getF Fd.BOOT_STAT_RESULT = 1 → ∃ t, exec .tallyCountStartTimeout s = .next t ∧
       t.isF Fd.TL_STAT_STARTED = true ∧ t.getR Rg.TL_DONE = 0 ∧ t.tl.phase = 0 ∧ t.tl.period = s.getF Fd.TL_PERIOD_PERIOD) ∧
     (s.isF Fd.TL_STAT_SUSPENDED = true → s.Quiet 115 →
       exec .eraseGuardExpiry s = .next ({ s.offF Fd.TL_STAT_SUSPENDED with tl := { s.tl with guardOut := true } }.sticky 115)) ∧
     exec .consecClearTimeout s = .next (s.offF Fd.TL_CONSEC_COUNT) ∧
     (s.pwr.failing = false → s.Quiet 114 → ∃ t, exec .tallyCopyMismatch s = .next t ∧ t.phase = .chipReset ∧
       t.isF Fd.RST_CAUSE_TALLY = true ∧ t.getF Fd.TL_CONSEC_COUNT = min (s.getF Fd.TL_CONSEC_COUNT + 1) 15 ∧
       t.bitF (Fd.SB_STICKY_BITS 3) 18 = true))

/-! ### The CRC units (R451 to R454), the track walker (R456 to R464), the calibration store and flash (R466 to R477) -/

/-- R451 to R454: a unit that is FREE is claimed, one that PROGRAM holds is released; START loads the initial value; bytes written
to it and the fold enter the running value by its polynomial, and BYTES counts them; a FREE unit refuses. -/
def Obligations.CrcUnits : Prop :=
  ∀ (s : State) (n : Fin 4) (by_ : Agent) (v : Word), s.phase = .running → s.Settled → s.inReset .crcu = false →
    let owner := Fd.CU_STAT_OWNER n.val
    let value := Fd.CU_VALUE_VALUE n.val
    let q := Poly.ofCode (s.getF (Fd.CU_CFG_POLY n.val))
    let addr := s.getF (Fd.CU_FADDR_LO_ADDR n.val) + 2 ^ 32 * s.getF (Fd.CU_FADDR_HI_ADDR n.val)
    (s.getF owner = 0 → exec (.cuClaim n) s = .next (s.setF owner 1) ∧
      exec (.cuStart n by_) s = .next (s.onF (Fd.CU_STAT_REFUSED n.val)) ∧ exec (.cuFold n by_) s = .next (s.onF (Fd.CU_STAT_REFUSED n.val))) ∧
    (s.getF owner = 1 →
      (s.getF Fd.SH_BUSY_BUSY = 0 → exec (.cuRelease n) s = .next (s.setF owner 0)) ∧
      (∃ t, exec (.cuStart n by_) s = .next t ∧ t.getF value = s.getF (Fd.CU_INIT_INIT n.val) % 2 ^ q.width ∧
        t.getF (Fd.CU_STAT_BYTES n.val) = 0 ∧ t.getF owner = 1) ∧
      (∀ p ∈ [(Instr.cuData8Write n by_ v, leBytes v.toNat 1), (.cuData16Write n by_ v, leBytes v.toNat 2),
          (.cuData32Write n by_ v, leBytes v.toNat 4),
          (.cuFold n by_, (leBytes addr 8).reverse ++ (leBytes (s.getF (Fd.CU_FSEQ_SEQ n.val)) 4).reverse)],
        ∃ t, exec p.1 s = .next t ∧ t.getF value = crcBytes q (s.getF value) p.2 % 2 ^ 32 ∧
          t.getF (Fd.CU_STAT_BYTES n.val) = min (s.getF (Fd.CU_STAT_BYTES n.val) + p.2.length) 65535 ∧ t.getF owner = 1 ∧
          ∀ r : Rg, r.addr ≠ (Rg.CU_VALUE n.val).addr → r.addr ≠ (Rg.CU_STAT n.val).addr → t.getR r = s.getR r))

/-- R457, R460, R461: the walker visits the word at POS and goes on: a word without an error stays; a single-bit error is corrected,
counted and reported by SB16; a word with more is poisoned, logged, counted and reported by SB17 where no page can be reloaded.
R462: the oldest heal completes: its page holds what flash holds, no word of it has an error, and the heal is logged, counted
and reported by SB20. R463, R464: at the end of a period the walker takes its configuration up, a change starting the sweep
anew, and SB29 reports a walker that is off or slow; a read of the log removes its oldest entry and shows the next one. -/
def Obligations.TrackWalker : Prop :=
  (∀ (s : State) (e : Upset), s.phase = .running → s.Settled → s.inReset .patrol = false → s.isF Fd.PT_STAT_ACTIVE = true →
     let w := s.getF Fd.PT_STAT_POS
     let u := s.upset e
     let next := u.setF Fd.PT_STAT_POS (w + 1)
     (lookupNat w u.sramErr = none → exec (.walkerVisit e) s = .next next) ∧
     (lookupNat w u.sramErr = some .single → s.Quiet 16 →
       exec (.walkerVisit e) s = .next (({ next with sramErr := eraseNat w u.sramErr }.incF Fd.PT_CNT_CORRECTED).sticky 16)) ∧
     (lookupNat w u.sramErr = some .multi → s.healSrc (8 * w) = none → s.Quiet 17 → s.pt.log.length < 16 →
       ∃ t, exec (.walkerVisit e) s = .next t ∧ t.markOf w = some .poisoned ∧ t.sramErr = eraseNat w u.sramErr ∧
         t.pt.log = s.pt.log ++ [Word.ofNat (1 + w * 8)] ∧ t.bitF (Fd.SB_STICKY_BITS 0) 17 = true ∧ t.sram = s.sram ∧
         t.getF Fd.PT_CNT_POISONED = (min (s.getF Fd.PT_CNT_POISONED + 1) 255) ∧ t.getF Fd.PT_STAT_POS = (w + 1) % 2 ^ 21)) ∧
  (∀ (s : State) (page word src : Nat), s.phase = .running → s.Settled → s.Canon → s.pt.heals = [(page, word)] → page < 4096 →
     s.healSrc (page * 4096) = some src → inFlash src = true → src % 8 = 0 → (∀ i < 512, s.inFlux (src + 8 * i) = false) →
     sortedNat s.sramErr = true → (∀ i < 512, lookupNat (src / 8 + i) s.flashErr = none) → s.pt.log.length < 16 → s.Quiet 20 → s.rst.deferred = [] →
     s.dbg.stalled = none → s.NoStall →
     ∃ t, exec .pageHealComplete s = .next t ∧ t.pt.heals = [] ∧ t.isF Fd.PT_STAT_HEALING = false ∧
       (∀ k < 4096, t.sramByte (page * 4096 + k) = s.flashByte (src + k)) ∧
       (∀ a, a < page * 4096 ∨ page * 4096 + 4096 ≤ a → t.sramByte a = s.sramByte a) ∧
       (∀ i < 512, lookupNat (page * 512 + i) t.sramErr = none ∧ t.markOf (page * 512 + i) = some .written) ∧
       t.pt.log = s.pt.log ++ [Word.ofNat (3 + word % 2 ^ 21 * 8)] ∧ t.bitF (Fd.SB_STICKY_BITS 0) 20 = true) ∧
  (∀ (s : State), s.phase = .running → s.Settled → s.inReset .patrol = false →
     (s.Quiet 29 → ∃ t, exec .patrolPeriodEnd s = .next t ∧ t.getF Fd.PT_STAT_ACTIVE = s.getF Fd.PT_CFG_EN ∧
       t.pt.period = s.getF Fd.PT_CFG_PERIOD ∧ t.pt.log = s.pt.log ∧
       t.getF Fd.PT_SWEEPS_COUNT = (s.getF Fd.PT_SWEEPS_COUNT + s.getF Fd.PT_STAT_ACTIVE) % 2 ^ 32 ∧
       t.getF Fd.PT_STAT_POS = (if s.getF Fd.PT_CFG_EN = s.getF Fd.PT_STAT_ACTIVE ∧ s.getF Fd.PT_CFG_PERIOD = s.pt.period
         then s.getF Fd.PT_STAT_POS else 0) ∧
       (s.getF Fd.PT_CFG_EN = 0 ∨ s.getF Fd.PT_CFG_PERIOD = 3 → t.bitF (Fd.SB_STICKY_BITS 0) 29 = true)) ∧
     (∃ t, exec .ptLogRead s = .next t ∧ t.pt.log = s.pt.log.tail ∧ t.getR Rg.PT_LOG = s.pt.log.tail.headD 0 ∧
       t.getF Fd.PT_LOG_STAT_LEVEL = s.pt.log.tail.length % 32))

/-- R52, R470: a write of the calibration store, step by step: accepted with its target and generation; copied and checked; the bank
erased; the body, length, generation and check programmed; read back; and at last the commit word, with which the new entries
are in force; within the power-fail sequence no further erase or program operation starts. R475 to R477: with both key words a
flash programming command that meets its checks starts, its sector's content undefined until it ends; an erase ends with every
byte 0xFF, a program with the bytes of its source in place, and no other byte changes. -/
def Obligations.CalibrationStoreAndFlash : Prop :=
  (∀ (s : State), s.phase = .running → s.Settled → s.Canon → s.inReset .calst = false →
     let src := 16 * s.getF Fd.CS_SRC_ADDR
     let len := s.getF Fd.CS_LEN_LEN
     let b := s.cs.target
     let base := 0x13FE_0000 + 0x8000 * b
     let body := (List.range len).map fun i => s.sramByte (src + i)
     (s.isF Fd.CS_STAT_BUSY = false → s.isF Fd.FP_STAT_BUSY = false → src + len ≤ 0x0100_0000 → len % 16 = 0 → len ≤ 512 →
       s.getF Fd.CS_GEN_GEN ≠ 0xFFFF_FFFE → s.pwr.failing = false → s.cs.fpStage ≠ 1 →
       ∃ t, exec .csWrite s = .next t ∧ t.isF Fd.CS_STAT_BUSY = true ∧ t.getF Fd.CS_STAT_STEP = 1 ∧
         t.cs.target = (if s.isF Fd.CS_STAT_NONE = true then 0 else 1 - s.getF Fd.CS_STAT_SEL_BANK) ∧
         t.cs.gen = (if s.isF Fd.CS_STAT_NONE = true then 1 else s.getF Fd.CS_GEN_GEN + 1)) ∧
     (s.getF Fd.CS_STAT_STEP = 1 → s.pwr.failing = false → s.sramErr = [] → (∀ i < len, s.markOf ((src + i) / 8) = some .written) →
       (calEntries (len / 16) body).isSome = true → ∃ t, exec .calCopyComplete s = .next t ∧ t.getF Fd.CS_STAT_STEP = 2 ∧
         t.cs.body = body ∧ t.flashFlux.contains (sectorOf base) = true ∧ (s.tl.guardOut = false → t.isF Fd.TL_STAT_SUSPENDED = true)) ∧
     (b ≤ 1 → s.getF Fd.CS_STAT_STEP = 2 → s.pwr.failing = false → ∃ t, exec (.calEraseComplete true) s = .next t ∧ t.getF Fd.CS_STAT_STEP = 3 ∧
       t.isF Fd.TL_STAT_SUSPENDED = false ∧ (∀ k < 0x8000, t.flashByte (base + k) = 0xFF) ∧
       (∀ a, a < base ∨ base + 0x8000 ≤ a → inFlash a = true → t.flashByte a = s.flashByte a)) ∧
     (b ≤ 1 → s.getF Fd.CS_STAT_STEP = 3 → s.cs.body.length ≤ 512 → ∃ t, exec .calProgramComplete s = .next t ∧ t.getF Fd.CS_STAT_STEP = 4 ∧
       t.flashRead base 4 = s.cs.gen % 2 ^ 32 ∧ t.flashRead (base + 4) 4 = s.cs.body.length ∧
       (∀ i < s.cs.body.length, t.flashByte (base + 16 + i) = s.cs.body.getD i 0) ∧
       (∀ a, a < base ∨ base + 0x8000 ≤ a → t.flashByte a = s.flashByte a)) ∧
     (s.getF Fd.CS_STAT_STEP = 4 → s.pwr.failing = false → exec (.calVerifyComplete true) s = .next (s.setF Fd.CS_STAT_STEP 5)) ∧
     (s.pwr.failing = true → exec .calCopyComplete s = .next s ∧ ∀ x, exec (.calEraseComplete x) s = .next s) ∧
     (b ≤ 1 → s.getF Fd.CS_STAT_STEP = 5 → ∃ t, exec .calCommitComplete s = .next t ∧ t.isF Fd.CS_STAT_BUSY = false ∧
       t.getF Fd.CS_STAT_STEP = 0 ∧ t.isF Fd.CS_STAT_DONE = true ∧ t.getF Fd.CS_STAT_RESULT = 1 ∧ t.getF Fd.CS_STAT_SEL_BANK = b ∧
       t.flashRead (base + 12) 4 = 0xCA15C0DE ∧ t.cs.shadow = (calEntries (s.cs.body.length / 16) s.cs.body).getD [])) ∧
  (∀ (s : State) (v : Word), s.phase = .running → s.Settled → s.Canon → s.inReset .calst = false →
     let a := s.getF Fd.FP_ADDR_ADDR
     let n := s.getF Fd.FP_LEN_LEN
     let src := 8 * s.getF Fd.FP_SRC_ADDR
     (s.cs.fpStage ≠ 1 → v.toNat % 65536 = 0x5A17 → exec (.fpKeyWrite v) s = .next { s with cs := { s.cs with fpStage := 1 } }) ∧
     (s.cs.fpStage = 1 → v.toNat % 65536 = 0xC3E8 →
       exec (.fpKeyWrite v) s = .next { s with cs := { s.cs with fpStage := 2, fpTime := s.now } }) ∧
     (s.fpUnlocked = true → s.calBusy = false → s.pwr.failing = false → inFlash a = true → fpSector (sectorOf a) = true →
       (a % 0x8000 = 0 → ∃ t, exec .fpErase s = .next t ∧ t.isF Fd.FP_STAT_BUSY = true ∧ t.cs.fpOp = some (.erase (sectorOf a)) ∧
         t.cs.fpStage = 0 ∧ t.flashFlux.contains (sectorOf a) = true ∧ (s.tl.guardOut = false → t.isF Fd.TL_STAT_SUSPENDED = true)) ∧
       (a % 8 = 0 → n % 8 = 0 → 8 ≤ n → n ≤ 4096 → a % 0x8000 + n ≤ 0x8000 → src + n ≤ 0x0100_0000 → s.sramErr = [] →
         (∀ i < n, s.markOf ((src + i) / 8) = some .written) → s.fpErased a n = true → ∃ t, exec .fpProgram s = .next t ∧
         t.isF Fd.FP_STAT_BUSY = true ∧ t.cs.fpOp = some (.program a ((List.range n).map fun i => s.sramByte (src + i))) ∧
         t.cs.fpStage = 0 ∧ t.flashFlux.contains (sectorOf a) = true)) ∧
     (∀ k, s.cs.fpOp = some (.erase k) → ∃ t, exec (.fpEraseComplete true) s = .next t ∧ t.isF Fd.FP_STAT_BUSY = false ∧
       t.isF Fd.FP_STAT_DONE = true ∧ t.cs.fpOp = none ∧ t.flashFlux.contains k = false ∧
       (∀ i < 0x8000, t.flashByte (0x1000_0000 + 0x8000 * k + i) = 0xFF) ∧
       (∀ x, inFlash x = true → sectorOf x ≠ k → t.flashByte x = s.flashByte x)) ∧
     (∀ x bs, s.cs.fpOp = some (.program x bs) → ∃ t, exec (.fpProgramComplete true) s = .next t ∧ t.isF Fd.FP_STAT_BUSY = false ∧
       t.isF Fd.FP_STAT_DONE = true ∧ t.cs.fpOp = none ∧ (∀ i < bs.length, t.flashByte (x + i) = bs.getD i 0) ∧
       (∀ y, y < x ∨ x + bs.length ≤ y → t.flashByte y = s.flashByte y)))

/-! ### The triads (R132, R178 to R189) -/

/-- R181, R182, R184, R188: in TRIPLE mode a core that differs from the two others, at a vote or by the line that it fills, or whose
L1 has an uncorrectable error, is odd: the event is recorded with its kind and the pc, counted, and SB0 set; the core leaves the
live cores and its resynchronisation starts, or, at the retirement limit, it is retired and SB1 set. R179, R183 to R187: a
platform mismatch sets SB5; the copy to the odd core ends and, in the pause, three cores that agree are live again and the
resynchronisation is counted; cores that differ without a majority begin a pair recovery with its record and its source, and its
release brings back every core that is not retired. -/
def Obligations.OddCoresAndRecovery : Prop :=
  (∀ (s : State) (t : Triad) (c : Fin 3) (kind : Fin 8), s.Settled → s.voting t = true → s.getF (Fd.TR_STAT_MODE t.idx) = 0 →
     s.getF (Fd.TR_STAT_LIVE t.idx) = 7 → s.Quiet 0 → s.Quiet 1 → s.Quiet 9 →
     let ret := s.retires t c.val
     let odd := fun (u : State) (k : Nat) =>
       u.getF (Fd.TR_STAT_LIVE t.idx) = 7 - 2 ^ c.val ∧ u.getF (Fd.TR_STAT_MODE t.idx) = (if ret = true then 2 else 1) ∧
       u.getR (Rg.TR_EVT t.idx) = .ofNat (c.val + k * 16 + (if ret = true then 2 ^ 9 else 0) + 2 ^ 31) ∧
       u.getR (Rg.TR_EVT_PC t.idx) = (s.mach (t.mach 0)).pc ∧
       u.getF (coreCnt t c.val) = min (s.getF (coreCnt t c.val) + 1) 255 ∧
       (u.tri t).phase = (if ret = true then .normal else .copying c.val) ∧
       (ret = true → (u.getF (Fd.TR_STAT_RETIRED t.idx)).testBit c.val = true ∧ u.bitF (Fd.SB_STICKY_BITS 0) 1 = true) ∧
       (ret = false → u.getF (Fd.TR_STAT_ODD t.idx) = c.val) ∧ u.bitF (Fd.SB_STICKY_BITS 0) 0 = true ∧ u.machs = s.machs
     (∃ u, exec (.voteOddCore t c kind) s = .next u ∧ odd u kind.val) ∧
     (∃ u, exec (.lineFillDelivery t (some c)) s = .next u ∧ odd u 3) ∧
     (∃ u, exec (.l1EccError t c) s = .next u ∧ odd u 6 ∧ u.bitF (Fd.SB_STICKY_BITS 0) 9 = true) ∧
     exec (.lineFillDelivery t none) s = .next s) ∧
  (∀ (s : State) (t : Triad), s.Settled →
     (s.alive (t.mach 0) = true → s.Quiet 5 → ∃ u, exec (.platformMismatch t) s = .next u ∧ u.bitF (Fd.SB_STICKY_BITS 0) 5 = true ∧
       (u.tri t).raised.getLsbD 5 = true ∧ u.machs = s.machs) ∧
     (∀ c, (s.tri t).phase = .copying c →
       exec (.resyncCopyComplete t) s = .next (s.modTri t fun x => { x with phase := .copied c })) ∧
     (∀ c, (s.tri t).phase = .copied c → ∃ u, exec (.resyncPauseRelease t true) s = .next u ∧ (u.tri t).phase = .normal ∧
       u.getF (Fd.TR_STAT_MODE t.idx) = 0 ∧ u.getF (Fd.TR_STAT_LIVE t.idx) = 7 ∧ u.machs = s.machs ∧
       u.getF (Fd.TR_RESYNC_CNT_COUNT t.idx) = min (s.getF (Fd.TR_RESYNC_CNT_COUNT t.idx) + 1) (2 ^ 32 - 1)) ∧
     (∀ kind : Fin 8, s.voting t = true →
       let src := if s.getF (Fd.TR_STAT_MODE t.idx) = 0 then 3 else 2
       ∃ u, exec (.pairRecoveryStart t kind) s = .next u ∧ (u.tri t).phase = .recovery (s.leadCore t) src ∧
         u.getR (Rg.TR_EVT t.idx) = .ofNat (s.leadCore t + kind.val * 16 + 2 ^ 8 + 2 ^ 31) ∧
         u.bitF (Fd.SB_STICKY_BITS 0) src = true ∧ u.triadStopped t = true ∧ u.machs = s.machs) ∧
     (∀ c k, (s.tri t).phase = .recovery c k → s.Quiet k → ∃ u, exec (.pairRecoveryRelease t) s = .next u ∧
       (u.tri t).phase = .normal ∧ u.getF (Fd.TR_STAT_LIVE t.idx) = 7 - s.getF (Fd.TR_STAT_RETIRED t.idx) ∧
       u.getF (Fd.TR_STAT_MODE t.idx) = (if s.getF (Fd.TR_STAT_RETIRED t.idx) = 0 then 0 else 2) ∧ u.machs = s.machs))

/-- R79 to R83, R132: a restart of a triad that left its last reset at least 10 µs ago puts it into reset with a new generation, its
machines at their reset values; when it leaves reset each of its machines stands at the restart entry of the image. R79 to R81,
R91: a block that left its last reset at least 10 µs ago enters reset at a request, with a new generation and its bit at 1; one
that left it less than 10 µs ago is deferred, its bit at 1, and enters reset at the end of the spacing; it leaves reset with its
bit at 0. -/
def Obligations.RestartsAndBlockResets : Prop :=
  (∀ (s : State) (t : Triad), s.phase = .running → s.Settled →
     (s.rstBit (.triad t) = false → (∀ c, (s.prop c).state = .none) → (∀ x, lookupNat (Blk.triad t).gen s.rst.lastRel = some x → 10000 ≤ s.now - x) →
       s.rst.deferred = [] → ∃ u, exec (.triadRestart t) s = .next u ∧ u.inReset (.triad t) = true ∧
         u.genOf (.triad t) = (if s.genOf (.triad t) = 255 then 1 else s.genOf (.triad t) + 1) ∧
         u.mach (t.mach 0) = s.freshMach s.vbase 0 ∧ u.mach (t.mach 1) = s.freshMach s.vbase 0 ∧ u.sram = s.sram ∧
         (∀ m, m.triad ≠ t → u.mach m = s.mach m)) ∧
     (s.inReset (.triad t) = true → s.dbg.stalled = none → s.NoStall → ∃ u, exec (.triadLeavesReset t) s = .next u ∧ u.inReset (.triad t) = false ∧ u.sram = s.sram ∧
       (∀ m, m.triad ≠ t → u.mach m = s.mach m) ∧
       ∀ i, s.image = some i → u.mach (t.mach 0) = s.freshMach i.vbase ((if t = .a then i.restartA else i.restartB) &&& 0xFFFF_FFFC))) ∧
  (∀ (s : State) (b : Blk), s.phase = .running → s.Settled → b ∈ [.shunt, .spx, .mani, .pool] ∨ (∃ n, b = .ch n) ∨ (∃ n, b = .rfx n) →
     let next := if s.genOf b = 255 then 1 else s.genOf b + 1
     (s.rstBit b = false → s.rst.deferred = [] → (∀ x, lookupNat b.gen s.rst.lastRel = some x → 10000 ≤ s.now - x) →
       ∃ t, exec (.blockResetRequest b) s = .next t ∧ t.inReset b = true ∧ t.genOf b = next ∧ t.machs = s.machs ∧ t.sram = s.sram) ∧
     (∀ x, s.rstBit b = false → lookupNat b.gen s.rst.lastRel = some x → s.now - x < 10000 →
       ∃ t, exec (.blockResetRequest b) s = .next t ∧ t.rstBit b = true ∧ t.inReset b = false ∧ t.genOf b = s.genOf b ∧
         t.rst.deferred = s.rst.deferred ++ [b.gen]) ∧
     (s.rst.deferred = [b.gen] → s.rstBit b = true →
       ∃ t, exec (.blockResetDeferredStart b) s = .next t ∧ t.inReset b = true ∧ t.genOf b = next ∧ t.rst.deferred = []) ∧
     (s.inReset b = true → b ≠ .pool → s.dbg.stalled = none → s.NoStall →
       ∃ t, exec (.blockLeavesReset b) s = .next t ∧ t.rstBit b = false ∧ t.genOf b = s.genOf b ∧ t.machs = s.machs ∧
         lookupNat b.gen t.rst.lastRel = some s.now))

/-! ### Power, resets, boot, clocks, STABLED (R38 to R91) -/

/-- R38, R43, R51 to R54: intakes come and go, SB120 reporting the loss of one while another stays; the loss of the last one begins
the power-fail sequence with SB121; hold-up ends with the module off, or with the power-on reset where an intake has become
valid again; VIO_IN is lost with SB122 and comes back, an nRST that is low then acting from then on; a rail fault sets SB123.
R61, R484, R500: each clock monitor's fault shows in CLK_STAT and sets its source; the fallback flags of the signal box and the
watchdog follow their monitors. -/
def Obligations.PowerAndClocks : Prop :=
  (∀ (s : State) (i : Intake), s.phase ≠ .unpowered → s.Settled →
     let comes := if s.pwr.failing = true ∧ s.pwr.valid i = false then s.pwr.returned ++ [i] else s.pwr.returned
     let goes := s.pwr.returned.filter (· != i)
     exec (.intakeValid i) s = .next { s with pwr := { s.pwr.put i true with returned := comes } } ∧
     (s.pwr.valid i = true → (s.pwr.put i false).any = true → s.Quiet 120 →
       exec (.intakeInvalid i) s = .next ({ s with pwr := { s.pwr.put i false with returned := goes } }.sticky 120)) ∧
     (s.pwr.failing = false → (s.pwr.put i false).any = false → s.pwr.valid i = true → s.Quiet 121 → (∀ c, (s.prop c).state = .none) →
       ∀ l ∈ [none, some i], ∃ t, exec (.powerFailStart l) s = .next t ∧ t.pwr.failing = true ∧ t.bitF (Fd.SB_STICKY_BITS 3) 25 = true ∧
         (∀ n, (t.ch n).regSlot = none ∧ (t.ch n).injSlot = none) ∧ t.phase = s.phase ∧ t.sram = s.sram) ∧
     (s.pwr.failing = true → s.getF Fd.CS_STAT_STEP ≠ 5 →
       (s.pwr.returned = [] → ∃ t, exec .holdUpEnd s = .next t ∧ t.phase = .unpowered ∧ t.flash = s.flash ∧ t.otp = s.otp ∧ t.sram = []) ∧
       (s.pwr.returned ≠ [] → ∃ t, exec .intakeReturnReset s = .next t ∧ t.phase = .powerOn ∧ t.regs = [] ∧ t.flash = s.flash ∧
         t.otp = s.otp ∧ t.pwr.failing = false ∧ t.pwr.valid .east = s.pwr.east ∧ t.pwr.valid .west = s.pwr.west)) ∧
     (∀ f, s.phase = .running → s.pwr.vioOk = true → s.spxBusy = false → s.spx.slave = [] → s.Quiet 122 →
       exec (.vioInLost f) s = .next ({ s with pwr := { s.pwr with vioOk := false } }.sticky 122)) ∧
     (s.pwr.vioOk = true ∨ s.pwr.nrstLow = false → exec .vioInRestored s = .next { s with pwr := { s.pwr with vioOk := true } }) ∧
     (s.phase = .running → s.pwr.vioOk = false → s.pwr.nrstLow = true → s.pwr.released = true → s.pwr.failing = false →
       s.isF Fd.NRST_STAT_MASKED = false → ∃ t, exec .vioInRestored s = .next t ∧ t.phase = .chipReset ∧ t.isF Fd.RST_CAUSE_NRST = true ∧
         t.pwr.vioOk = true) ∧
     (s.Quiet 123 → exec .railFault s = .next (s.sticky 123))) ∧
  (∀ (s : State), s.phase ≠ .unpowered → s.Settled → (∀ k ∈ [116, 117, 118], s.Quiet k) →
     (∀ p ∈ [(MonClock.xin, Fd.CLK_STAT_XIN, 116), (.cclk, Fd.CLK_STAT_PLL_CORE, 117), (.rclk, Fd.CLK_STAT_PLL_SYS, 117),
         (.aonOsc, Fd.CLK_STAT_AON_OSC, 118)], exec (.clockMonitorFault p.1) s = .next ((s.onF p.2.1).sticky p.2.2)) ∧
     (∃ t, exec (.clockMonitorFault .sysclk) s = .next t ∧ t.isF Fd.CLK_STAT_PLL_SYS = true ∧ t.isF Fd.SB_STAT_CLK_FALLBACK = true ∧
       t.bitF (Fd.SB_STICKY_BITS 3) 21 = true) ∧
     (∃ t, exec (.clockMonitorFault .tallyOsc) s = .next t ∧ t.isF Fd.CLK_STAT_TALLY_OSC = true ∧ t.isF Fd.TL_STAT_CLK_FALLBACK = true ∧
       t.bitF (Fd.SB_STICKY_BITS 3) 22 = true) ∧
     (∃ t, exec (.clockMonitorClears .sysclk) s = .next t ∧ t.isF Fd.SB_STAT_CLK_FALLBACK = false ∧ t.machs = s.machs) ∧
     (∃ t, exec (.clockMonitorClears .tallyOsc) s = .next t ∧ t.isF Fd.TL_STAT_CLK_FALLBACK = false ∧ t.machs = s.machs))

/-- R65 to R73, R77, R128, R384: the start of the module, step by step: power comes up with every register at its reset value; the
OTP is loaded; memory is initialised with every word unwritten; the release takes the straps and the node identity; boot ends
with the result that the image deserves, and an image that is good starts every machine at its entry. -/
def Obligations.StartOfTheModule : Prop :=
  ∀ (s : State), s.Settled →
    (∀ i, s.phase = .unpowered → ∃ t, exec (.powerOn i) s = .next t ∧ t.phase = .powerOn ∧ t.pwr.valid i = true ∧ t.regs = [] ∧
      t.sramMark = [] ∧ t.flash = s.flash ∧ t.otp = s.otp) ∧
    (∀ f, s.phase = .powerOn ∨ s.phase = .chipReset → s.pwr.otpLoaded = false → s.pwr.otpBad = false →
      exec (.otpLoadComplete true f) s = .next { s with otp := f, pwr := { s.pwr with otpLoaded := true } } ∧
      exec (.otpLoadComplete false f) s = .next { s with pwr := { s.pwr with otpBad := true } }) ∧
    (s.phase = .powerOn ∨ s.phase = .chipReset → s.pwr.memInit = false → s.flashErr = [] →
      ∃ t, exec .memoryInitialiserComplete s = .next t ∧ t.pwr.memInit = true ∧ t.sramMark = [] ∧ t.sram = [] ∧ t.sramErr = [] ∧
        t.flash = s.flash) ∧
    (∀ x y z, s.phase = .powerOn ∨ s.phase = .chipReset → s.pwr.memInit = true → s.pwr.otpLoaded = true → s.pwr.vioOk = true →
      s.pwr.failing = false → s.pwr.nrstLow = false → s.pwr.byTally = false → s.pwr.bySigbox = false → s.flashErr = [] → s.flashFlux = [] →
      (∀ k ∈ [7, 8, 39], s.Quiet k) → s.dbg.stalled = none →
      ∃ t, exec (.resetRelease x y z) s = .next t ∧ t.phase = .running ∧ t.straps = strapVote x y z ∧
        t.split .a = ((strapVote x y z).splitA && !s.otp.safeOnly) ∧ t.split .b = ((strapVote x y z).splitB && !s.otp.safeOnly) ∧
        (t.split .a = true → t.bitF (Fd.SB_STICKY_BITS 0) 7 = true) ∧
        (∀ w, idRecord (leBytes (s.flashRead 0x13FF_F000 64) 64) = some w → t.getF Fd.OV_NODE_ID = w % 1024 ∧ t.numbered = true) ∧
        (idRecord (leBytes (s.flashRead 0x13FF_F000 64) 64) = none →
          t.getF Fd.OV_NODE_ID = 0x3FF ∧ t.numbered = false ∧ t.bitF (Fd.SB_STICKY_BITS 1) 7 = true)) ∧
    (∀ i : BootImage, s.phase = .running → s.getF Fd.BOOT_STAT_RESULT = 0 → s.straps.boot = 0 → s.flashErr = [] → s.flashFlux = [] →
      let r := if i.present = false then 2 else if i.format ≠ 1 ∧ i.format ≠ 2 then 5
        else if i.signatureOk = false ∨ s.isF Fd.SPX_SSTAT_BOOT_OVF = true then 3
        else if i.layoutOk = false ∨ tableOk i.tasks = false ∨ 8 < i.heal.length then 4
        else if ∃ k ∈ i.tasks, k.safe = true ∧ s.split (Task.triadOf k) = true then 6 else 1
      ∃ t, exec (.bootComplete i) s = .next t ∧ t.getF Fd.BOOT_STAT_RESULT = r ∧ t.getF Fd.BOOT_STAT_SOURCE = 0 ∧
        (r = 1 → t.image = some i ∧ ∀ m, s.machExists m = true →
          t.mach m =
          { s.freshMach i.vbase ((if m.triad = .a then i.entryA else i.entryB) &&& 0xFFFF_FFFC) with cycle := (s.mach m).cycle }))

/-- R74 to R77, R83, R548: nRST low for at least 1 µs, the signal box, the watchdog and the debugger cause a chip reset: every
machine and the whole of SRAM are lost, flash is kept, and the cause is shown; a pulse of at most 100 ns does nothing. R76: a
pin that stays low is masked and the module released with SB124; the masked pin is armed again by its high level. -/
def Obligations.ChipResetsAndTheStuckPin : Prop :=
  (∀ (s : State), s.phase = .running → s.Settled → s.pwr.failing = false → s.getF Fd.CS_STAT_STEP ≠ 5 →
     let reset := fun (t : State) => t.phase = .chipReset ∧ t.sram = [] ∧ t.sramMark = [] ∧ t.image = none ∧ t.flash = s.flash ∧
       t.machs = Vector.replicate 4 {} ∧ t.pwr.memInit = false ∧ t.pwr.otpLoaded = false
     (∀ p ∈ [(ChipCause.nrst, Fd.RST_CAUSE_NRST), (.sigbox, Fd.RST_CAUSE_SIGBOX), (.debug, Fd.RST_CAUSE_DEBUG)],
       ∃ t, exec (.chipReset p.1) s = .next t ∧ reset t ∧ t.isF p.2 = true) ∧
     (s.Quiet 114 → ∃ t, exec (.chipReset .tally) s = .next t ∧ reset t ∧ t.isF Fd.RST_CAUSE_TALLY = true) ∧
     (s.otp.dbgLock = false → s.dbg.stalled = none → ∃ t, exec (.debugChipReset 0x5E7C_0A11) s = .next t ∧ reset t ∧
       t.isF Fd.RST_CAUSE_DEBUG = true ∧ t.dbg.status = 0) ∧
     (s.nrstActs = true → s.pwr.nrstLow = false →
       (∀ ns, 1000 ≤ ns → ∃ t, exec (.nrstPulse (.pulse ns)) s = .next t ∧ reset t ∧ t.isF Fd.RST_CAUSE_NRST = true) ∧
       (∃ t, exec (.nrstPulse .held) s = .next t ∧ reset t ∧ t.isF Fd.RST_CAUSE_NRST = true ∧ t.pwr.nrstLow = true)) ∧
     (∀ ns, ns ≤ 100 → s.pwr.nrstLow = false → exec (.nrstPulse (.pulse ns)) s = .next s)) ∧
  (∀ (s : State) (x y z : Straps), s.Settled →
     (s.phase = .powerOn ∨ s.phase = .chipReset → s.pwr.memInit = true → s.pwr.otpLoaded = true → s.pwr.vioOk = true →
       s.pwr.failing = false → s.pwr.nrstLow = true → s.isF Fd.NRST_STAT_MASKED = false → s.pwr.byTally = false → s.pwr.bySigbox = false →
       s.flashErr = [] → s.flashFlux = [] → (∀ k ∈ [7, 8, 39, 124], s.Quiet k) → s.dbg.stalled = none →
       ∃ t, exec (.nrstStuck x y z) s = .next t ∧ t.phase = .running ∧ t.isF Fd.NRST_STAT_MASKED = true ∧
         t.isF Fd.RST_CAUSE_NRST_STUCK = true ∧ t.getF Fd.NRST_STAT_STUCK_CNT = min (s.getF Fd.NRST_STAT_STUCK_CNT + 1) 255 ∧
         t.bitF (Fd.SB_STICKY_BITS 3) 28 = true) ∧
     (s.isF Fd.NRST_STAT_MASKED = true → exec .nrstRearm s =
       .next { s.offF Fd.NRST_STAT_MASKED with pwr := { s.pwr with nrstLow := false } }))

/-- R84 to R90: a machine at STATION makes its triad ready; the cores are gated with the conversions and the watchdog still; the pin
and the always-on timer wake the module where they are enabled; the supply comes up, and the wake interrupt reaches every
machine. -/
def Obligations.SleepAndWake : Prop :=
  ∀ (s : State), s.phase = .running → s.Settled →
    (∀ m, s.running m = true → s.atStation m = true → s.split m.triad = false → ∃ t, exec (.sleepReady m) s = .next t ∧
      t.isF (if m.triad = .a then Fd.SLEEP_CTRL_RDY_A else Fd.SLEEP_CTRL_RDY_B) = true ∧ t.machs = s.machs) ∧
    (s.sleepState = 1 → ∃ t, exec .coresGated s = .next t ∧ t.sleepState = 2 ∧ t.tl.stopped = true ∧ t.machs = s.machs ∧
      ∀ n, (t.ch n).regSlot = none ∧ (t.ch n).injSlot = none) ∧
    (s.sleepState = 2 →
      (s.pwr.vioOk = true → s.getF Fd.BOOT_STAT_RESULT = 1 → ∃ t, exec .wakePinEdge s = .next t ∧ t.isF Fd.WAKE_CAUSE_PIN = true ∧
        t.sleepState = (if (s.getF Fd.SLEEP_CTRL_WAKE_EN).testBit 0 = true then 3 else 2)) ∧
      (∃ t, exec .aonTimerMatch s = .next t ∧ t.isF Fd.WAKE_CAUSE_TIMER = true ∧
        t.sleepState = (if (s.getF Fd.SLEEP_CTRL_WAKE_EN).testBit 2 = true then 3 else 2))) ∧
    (s.sleepState = 3 →
      (s.slp.supplyUp = false → ∃ t, exec .wakeSupplyUp s = .next t ∧ t.slp.supplyUp = true ∧ t.machs = s.machs) ∧
      (s.slp.supplyUp = true → (∀ m, s.exl m = false ∧ ∃ h, s.VectorReady m (64 + (s.rc' m cIvcfg).toNat % 64) h) →
        ∃ t, exec .wakeInterruptDelivery s = .next t ∧ t.sleepState = 0 ∧ t.slp.supplyUp = false ∧
          t.isF Fd.SLEEP_CTRL_RDY_A = false ∧ t.isF Fd.SLEEP_CTRL_RDY_B = false ∧ t.tl.stopped = false ∧
          (∀ m, s.alive m = true → s.machExists m = true → (s.mach m).nmi = none → (s.mach m).halted = false → (s.mach m).wait = .waiti →
            s.getF Fd.BOOT_STAT_RESULT = 1 → s.isF (Fd.TR_STAT_HALTED m.triad.idx) = false → s.triadStopped m.triad = false →
            (t.mach m).retire = (s.mach m).retire + 1 ∧ t.rc' m cCause = .ofNat ((s.rc' m cIvcfg).toNat % 64 * 2 ^ 8 + 2 ^ 31) ∧
            t.rc' m cEpc = ((s.mach m).pc + 4) &&& 0xFFFF_FFFC)))

/-! ### The SPX port (R518 to R536) -/

/-- R518, R522 to R525, R528: configuration while no frame runs; a frame that passes its checks takes its words from the TX FIFO and
stalls where it runs empty, its target selected before its first bit; a check that fails ends it with its RESULT; ABORT, the end
of a frame and a mode fault end it with theirs, and its count; the windows and the flushes act on the FIFOs. R529 to R535: the
select is served where the slave is enabled; a write frame of one register puts the word into a user register with its event, or
into the mailbox of the program; the program's own reads and writes of the mailboxes, and NEG_RESET. -/
def Obligations.SpxPort : Prop :=
  (∀ (s : State) (v : Word) (din : List Word), s.phase = .running → s.Settled → s.inReset .spx = false →
     let st := s.getF Fd.SPX_MSTAT_STATE
     let n := s.getF Fd.SPX_MLEN_LEN
     (st = 0 → v.toNat % 4 ≠ 3 → ∃ t, exec (.spxCfgWrite v) s = .next t ∧ t.getF Fd.SPX_CFG_ROLE = v.toNat % 4 ∧
       t.getF Fd.SPX_CFG_SLAVE_EN = v.toNat / 4 % 2 ∧ t.getF Fd.SPX_CFG_INIT_TOKEN = v.toNat / 8 % 2 ∧
       t.getF Fd.SPX_MSTAT_TOKEN = (if v.toNat % 4 = 0 then 0 else if v.toNat % 4 = 1 then 1 else v.toNat / 8 % 2)) ∧
     (s.spxCheck = none → s.spx.tx.length ≤ 64 → fieldOf (s.getR Rg.SPX_MFRAME) 22 2 = 0 → (s.getR Rg.SPX_MFRAME).getLsbD 24 = false →
       ∃ t, exec (.spxGo din) s = .next t ∧ t.spx.frame = s.getR Rg.SPX_MFRAME ∧ t.spx.len = n ∧ t.spx.rx = s.spx.rx ∧
         t.spx.pads.take 2 = [.select (s.getF Fd.SPX_MCTRL_TGT), .enable] ∧
         t.spx.tx = s.spx.tx.drop ((n + 3) / 4) ∧ t.spx.left = n - 4 * s.spx.tx.length ∧
         t.getF Fd.SPX_MSTAT_STATE = (if n ≤ 4 * s.spx.tx.length then 1 else 2)) ∧
     (∀ r, s.spxCheck = some r → r ≠ 3 →
       exec (.spxGo din) s = .next ((s.setF Fd.SPX_MSTAT_RESULT r).onF Fd.SPX_EVT_M_DONE)) ∧
     (st = 2 → ∃ t, exec .spxAbort s = .next t ∧ t.getF Fd.SPX_MSTAT_STATE = 0 ∧ t.getF Fd.SPX_MSTAT_RESULT = 2 ∧
       t.getF Fd.SPX_MSTAT_DONE_BYTES = (s.spx.len - s.spx.left) % 2 ^ 17 ∧ t.spx.tx = [] ∧ t.spx.rx = [] ∧ t.isF Fd.SPX_EVT_M_DONE = true ∧
       t.spx.pads.getLast? = some .disable) ∧
     (st = 0 → exec .spxTxFlush s = .next { s with spx := { s.spx with tx := [] } } ∧
       exec .spxRxFlush s = .next { s with spx := { s.spx with rx := [] } }) ∧
     (st = 1 → ∃ t, exec .masterFrameEnd s = .next t ∧ t.getF Fd.SPX_MSTAT_STATE = 0 ∧ t.getF Fd.SPX_MSTAT_RESULT = 1 ∧
       t.getF Fd.SPX_MSTAT_DONE_BYTES = s.spx.len % 2 ^ 17 ∧ t.isF Fd.SPX_EVT_M_DONE = true ∧ t.spx.rx = s.spx.rx ∧ t.spx.pads.getLast? = some .disable ∧
       t.isF Fd.SPX_MSTAT_TOKEN = (if s.spx.rel = true ∧ s.getF Fd.SPX_CFG_ROLE = 2 then false else s.isF Fd.SPX_MSTAT_TOKEN)) ∧
     (st ≠ 2 → (s.spx.tx.length < 64 → exec (.spxTxWindowWrite v) s = .next { s with spx := { s.spx with tx := s.spx.tx ++ [v] } }) ∧
       exec .spxRxWindowRead s = .next { s with spx := { s.spx with rx := s.spx.rx.tail } }) ∧
     (st ≠ 0 → s.pwr.vioOk = true → s.Quiet 108 → ∃ t, exec .spxModeFault s = .next t ∧ t.getF Fd.SPX_MSTAT_STATE = 0 ∧ t.getF Fd.SPX_MSTAT_RESULT = 3 ∧
       t.isF Fd.SPX_EVT_M_FAULT = true ∧ t.bitF (Fd.SB_STICKY_BITS 3) 12 = true ∧ t.spx.tx = [] ∧ t.spx.rx = [] ∧ t.spx.pads.getLast? = some .off ∧
       (s.getF Fd.SPX_CFG_ROLE = 2 → t.isF Fd.SPX_MSTAT_TOKEN = false))) ∧
  (∀ (s : State) (v : Word), s.phase = .running → s.Settled → s.inReset .spx = false →
     (s.getF Fd.SPX_MSTAT_STATE = 0 → s.pwr.vioOk = true → s.spx.slave = [] → s.isF Fd.SPX_CFG_SLAVE_EN = true → ∃ t, exec .slaveSelectFall s = .next t ∧
       t.spx.slave = [{ served := true, neg := s.getR Rg.SPX_SNEG, early := false }] ∧ t.regs = s.regs) ∧
     (∀ (neg : Word) (k : Fin 32), s.spx.slave = [{ served := true, neg := neg, early := false }] →
       (∃ t, exec (.slaveFrameApply { bits := 40, read := false, addr := ⟨0x20 + k.val, by omega⟩, data := [v] }) s = .next t ∧
         t.getR (Rg.SPX_UREG k.val) = v ∧ t.bitF Fd.SPX_UEVT_WR k.val = true ∧ t.spx.slave = [] ∧ t.isF Fd.SPX_EVT_S_FRAME = true) ∧
       (s.isF Fd.SPX_SSTAT_BOOT = false → s.spx.mbIn.length < 64 →
         ∃ t, exec (.slaveFrameApply { bits := 40, read := false, addr := 0x40, data := [v] }) s = .next t ∧
           t.spx.mbIn = s.spx.mbIn ++ [v] ∧ t.spx.slave = [] ∧ t.isF Fd.SPX_EVT_S_FRAME = true)) ∧
     exec .mailboxRead s = .next { s with spx := { s.spx with mbIn := s.spx.mbIn.tail } } ∧
     (s.spx.mbOut.length < 64 → exec (.mailboxWrite v) s = .next { s with spx := { s.spx with mbOut := s.spx.mbOut ++ [v] } }) ∧
     exec .spxNegReset s = .next (s.setR Rg.SPX_SNEG 0x8001))

/-! ### The pool (R439 to R444) and the shunters (R417 to R438) -/

/-- R439 to R444: outside a sweep an allocation by a machine takes the first wagon of the free list under its identity; its holder
frees a wagon, gives it on under a valid tag, and reclaims every wagon of a tag; a freed wagon returns to the free list once it
has been marked unwritten; the base moves while every wagon is free, with a sweep, and the sweep ends. -/
def Obligations.WagonPool : Prop :=
  ∀ (s : State) (m : Mach) (i : Nat) (v : Word), s.phase = .running → s.Settled → s.inReset .pool = false →
    sortedNat s.pool.tags = true → i < 4096 →
    let id := if fieldOf (s.rc' m cTaskid) 0 5 = 31 then 3 * 1024 + m.idx.val else 1024 + fieldOf (s.rc' m cTaskid) 0 5
    let base := s.getF Fd.PL_CFG_BASE * 2 ^ 20
    (s.isF Fd.PL_STAT_SWEEP = false → s.plFirst = some i → ∃ t, exec (.plAllocRead (.core m)) s = .next t ∧ t.plTag i = id ∧
      (∀ k, k ≠ i → t.plTag k = s.plTag k) ∧ t.regs = s.regs ∧
      (if s.pool.fresh < 4096 then t.pool.fresh = i + 1 ∧ t.pool.freed = s.pool.freed else s.pool.freed = i :: t.pool.freed)) ∧
    (s.plTag i = id → v.toNat = base + 256 * i → ∃ t, exec (.plFreeWrite (.core m) v) s = .next t ∧ t.plTag i = 0 ∧
      (∀ k, k ≠ i → t.plTag k = s.plTag k) ∧ t.pool.marking = s.pool.marking ++ [i] ∧ t.sram = s.sram) ∧
    (∀ tag, v.toNat = i + tag * 2 ^ 16 → tag < 4096 → s.plTag i = id → tagValid tag = true →
      (tagKind tag = 2 → s.plSessHeld < s.getF Fd.PL_CFG_SESS_LIM) →
      ∃ t, exec (.plGiveWrite (.core m) v) s = .next t ∧ t.plTag i = tag ∧ (∀ k, k ≠ i → t.plTag k = s.plTag k) ∧ t.sram = s.sram) ∧
    (∀ tag, v.toNat = tag → 0 < tag → tag < 4096 → ∃ t, exec (.plReclaimWrite (.core m) v) s = .next t ∧
      (∀ k, t.plTag k = if s.plTag k = tag then 0 else s.plTag k) ∧ t.sram = s.sram ∧
      t.getR (plRes m) = .ofNat ((s.pool.tags.filter fun p => p.2 == tag).length * 2 ^ 16)) ∧
    (∀ r, s.pool.marking = i :: r → s.Canon → ∃ t, exec .wagonMarkComplete s = .next t ∧ t.pool.marking = r ∧
      t.pool.freed = s.pool.freed ++ [i] ∧ (∀ k < 256, t.markOf ((base + 256 * i + k) / 8) = none ∧ t.sramByte (base + 256 * i + k) = 0) ∧
      (∀ a, a < base + 256 * i ∨ base + 256 * i + 256 ≤ a → t.sramByte a = s.sramByte a ∧ t.markOf (a / 8) = s.markOf (a / 8))) ∧
    (v.toNat % 16 ≠ s.getF Fd.PL_CFG_BASE → s.pool.tags = [] → s.pool.marking = [] → s.isF Fd.PL_STAT_SWEEP = false →
      ∃ t, exec (.plBaseWrite v) s = .next t ∧ t.getF Fd.PL_CFG_BASE = v.toNat % 16 ∧ t.isF Fd.PL_STAT_SWEEP = true ∧
        t.getF Fd.PL_CFG_SESS_LIM = v.toNat / 2 ^ 16 % 2 ^ 13 ∧ t.pool = {}) ∧
    (s.isF Fd.PL_STAT_SWEEP = true → ∃ t, exec .poolSweepComplete s = .next t ∧ t.isF Fd.PL_STAT_SWEEP = false ∧ t.pool = s.pool ∧
      ∀ k, s.pool.fresh ≤ k → k < 4096 → ∀ j < 32, t.markOf (base / 8 + 32 * k + j) = none)

/-- R424 to R427, R431, R435 to R438: GO and RESUME of a shunter at rest start at the waybill of HEAD or of RESUME in SRAM; STOP
takes effect at once during a fetch, else at the boundary; a fetch finds a waybill that is not owned, or one of local sides
whose data moves from then on; the local fabric serves no shunter while one of a higher PRIO waits for it; the unit that never
comes free, an access that is not answered and engines that differ end it as R435 says. R422, R428, R429, R434: between local
sides in SRAM a piece is read into the stream, or written from the swapped stream to its destination and nowhere else; the
write-back of a waybill without a check value puts its status and its status word into SRAM, counts the waybill and its bytes,
and rests. -/
def Obligations.Shunters : Prop :=
  (∀ (s : State) (n : Fin 16), s.phase = .running → s.Settled → s.inReset .shunt = false →
     let st := s.getF (Fd.SH_STAT_STATE n.val)
     let h := s.shu n
     let cur := s.shCur n
     (st = 0 ∨ st = 3 → ∀ p ∈ [(Instr.shGo n, (s.getR (Rg.SH_HEAD_LO n.val), s.getR (Rg.SH_HEAD_HI n.val))),
         (.shResume n, (s.getR (Rg.SH_RESUME_LO n.val), s.getR (Rg.SH_RESUME_HI n.val)))],
       p.2.2 = 0x8000_0000 → p.2.1.toNat % 64 = 0 → p.2.1.toNat < 0x0100_0000 → ∃ t, exec p.1 s = .next t ∧
         t.getF (Fd.SH_STAT_STATE n.val) = 1 ∧ t.bitF Fd.SH_BUSY_BUSY n.val = true ∧ t.shCur n = p.2 ∧ (t.shu n).stage = .fetch ∧
         (t.shu n).first = p.2 ∧ (t.shu n).hops = 1 ∧ ∀ k, k ≠ n → t.shu k = s.shu k) ∧
     (st = 1 → ∃ t, exec (.shStop n) s = .next t ∧
       if h.stage = .fetch then t.getF (Fd.SH_STAT_STATE n.val) = 0 ∧ t.getF (Fd.SH_STAT_END n.val) = 3 ∧
         (t.getR (Rg.SH_RESUME_LO n.val), t.getR (Rg.SH_RESUME_HI n.val)) = cur
       else t.getF (Fd.SH_STAT_STATE n.val) = 2 ∧ t.shu n = h) ∧
     ((∃ k, s.shWaits k = true ∧ s.getF (Fd.SH_CFG_PRIO n.val) < s.getF (Fd.SH_CFG_PRIO k.val)) → exec (.localPieceResponse n) s = .next s ∧
       (isLocal cur.2 = true → exec (.waybillFetchComplete n) s = .next s ∧ exec (.waybillWritebackComplete n) s = .next s)) ∧
     ((∀ k, k ≠ n → s.shActive k = false) → st = 1 →
       (h.stage = .fetch → cur.2 = 0x8000_0000 → h.unit = none → h.pieces = [] → s.SramReady cur.1.toNat 64 →
         (∀ k < 64, s.markOf ((cur.1.toNat + k) / 8) = some .written) →
         let words := wordsOfBytes (leBytes (s.sramRead cur.1.toNat 64) 64)
         let got := { h with words := words, got := none }
         (got.ctrl 31 = false → ∃ t, exec (.waybillFetchComplete n) s = .next t ∧ t.getF (Fd.SH_STAT_STATE n.val) = 0 ∧
           t.getF (Fd.SH_STAT_END n.val) = 2 ∧ t.bitF Fd.SH_BUSY_BUSY n.val = false) ∧
         (got.ctrl 31 = true → got.badWaybill = none → got.crcEn = false → got.loc false = true → got.loc true = true →
           ∃ t, exec (.waybillFetchComplete n) s = .next t ∧ t.shu n = { got with stage := .move } ∧ t.getF (Fd.SH_STAT_STATE n.val) = 1)) ∧
       (h.stage = .fetch → cur.2 = 0x8000_0000 → s.Quiet 96 → ∃ t, exec (.localAccessTimeout n) s = .next t ∧
         t.getF (Fd.SH_STAT_STATE n.val) = 3 ∧ t.getF (Fd.SH_STAT_END n.val) = 4 ∧ t.getF (Fd.SH_STAT_CODE n.val) = 5 ∧
         t.bitF (Fd.SB_STICKY_BITS 3) 0 = true) ∧
       (h.stage = .unit → h.fail = none → h.unit = none → cur.2 = 0x8000_0000 → h.pieces = [] →
         ∃ t, exec (.crcUnitWaitTimeout n) s = .next t ∧ (t.shu n).stage = .back ∧ (t.shu n).back = 1 ∧
           (t.shu n).fail = some { code := 4, detail := 7, side := 0, at_ := none }) ∧
       (∀ p r, h.stage = .fetch → h.pieces = [p] → p.off = 0 → p.write = false → p.req = none → p.again = some r → h.fail = none →
         s.bitF Fd.SH_BUSY_BUSY n.val = true →
         (2000000 ≤ s.now - p.first → ∃ t, exec (.pieceRetryTimer n) s = .next t ∧ (t.shu n).pieces = [] ∧
           (t.shu n).got = some (8, r, [])) ∧
         (s.now - p.first < 2000000 → s.inReset .sess = false → pairAddr cur.1 cur.2 / 2 ^ 42 ≠ s.nodeId →
           pairAddr cur.1 cur.2 / 2 ^ 42 ≠ 0x3FF → s.clientCheck h.sid (pairAddr cur.1 cur.2 / 2 ^ 42) false = none →
           ∃ t, exec (.pieceRetryTimer n) s = .next t ∧ (t.shu n).pieces = [{ p with req := some s.nextReq, again := none }])) ∧
       (s.Quiet 103 → ∃ t, exec (.shuntEngineMismatch n) s = .next t ∧ t.getF (Fd.SH_STAT_STATE n.val) = 3 ∧
         t.getF (Fd.SH_STAT_END n.val) = 7 ∧ t.bitF (Fd.SB_STICKY_BITS 3) 7 = true ∧ t.bitF Fd.SH_EVT_ERR n.val = true))) ∧
  (∀ (s : State) (n : Fin 16), s.phase = .running → s.Settled → s.Canon → s.shActive n = true → (∀ k, k ≠ n → s.shActive k = false) →
     let h := s.shu n
     let cur := s.shCur n
     (h.stage = .move → h.fail = none → h.unit = none → h.pieces = [] → h.parts = [] → h.loc false = true → h.loc true = true →
       h.stream.length = h.nextRd → h.wr < h.total →
       (let a := h.addr false h.nextRd
        let len := h.pieceLen false h.nextRd
        let w := h.widened h.nextRd len
        h.canWrite = false → h.nextRd < h.total → inSram a = true → s.shRefuses false a len = none → s.SramReady w.1 w.2 →
         (∀ k < w.2, s.markOf ((w.1 + k) / 8) = some .written) → ∃ t, exec (.localPieceResponse n) s = .next t ∧
         (t.shu n).stream = h.stream ++ (List.range len).map (fun k => s.sramByte (a + k)) ∧ (t.shu n).nextRd = h.nextRd + len ∧
         t.sram = s.sram ∧ ∀ k, k ≠ n → t.shu k = s.shu k) ∧
       (let a := h.addr true h.wr
        let len := h.pieceLen true h.wr
        h.canWrite = true → inSram a = true → s.shRefuses true a len = none → s.SramReady a len → 0 < len →
         h.wr + len < h.total → ∃ t, exec (.localPieceResponse n) s = .next t ∧ (t.shu n).wr = h.wr + len ∧
         (∀ k < len, t.sramByte (a + k) = h.stream.getD (swapIdx h.swap (h.wr + k)) 0) ∧
         (∀ b, b < a ∨ a + len ≤ b → t.sramByte b = s.sramByte b))) ∧
     (h.stage = .back → h.fail = none → h.unit = none → h.back = 1 → cur.2 = 0x8000_0000 → cur.1.toNat % 64 = 0 →
       s.SramReady cur.1.toNat 64 → h.ctrl 10 = false → s.getF (Fd.SH_STAT_STATE n.val) = 1 →
       ∃ t, exec (.waybillWritebackComplete n) s = .next t ∧ t.sramRead cur.1.toNat 4 = (h.word 0).toNat ∧
         t.sramRead (cur.1.toNat + 4) 4 = (h.word 1).toNat ∧
         (∀ b, b < cur.1.toNat ∨ cur.1.toNat + 8 ≤ b → t.sramByte b = s.sramByte b) ∧
         t.getF (Fd.SH_STAT_STATE n.val) = 0 ∧ t.getF (Fd.SH_STAT_END n.val) = 1 ∧
         t.getF (Fd.SH_CNT_WAYBILLS n.val) = (s.getF (Fd.SH_CNT_WAYBILLS n.val) + 1) % 2 ^ 16 ∧
         t.getF (Fd.SH_BYTES_BYTES n.val) = (s.getF (Fd.SH_BYTES_BYTES n.val) + h.total) % 2 ^ 32))

/-! ### Orvia (R366 to R397) -/

/-- R380, R389, R390, R392, R397: a port listens, trains to the highest revision that both ends offer, measures the delay and is
LINKED, its points open again; where no revision is common, the peer is the module itself, or lock or exchange does not come, it
is FAILED, sets SB37 and retries; damping ends; DISABLE and RETRAIN; a change of its state sends TOPOLOGY and PRESENCE. -/
def Obligations.LinkTraining : Prop :=
  ∀ (s : State) (p : Port), s.ovLive = true → s.Settled → (∀ k ∈ [37, 40, 48, 49, 52], s.Quiet k) →
    let st := Fd.OV_PSTAT_STATE p.idx
    let told := (s.ov.oseq + if s.numbered = true then 2 else 1) % 65536
    let goes := fun (i : Instr) (x : Nat) => ∃ t, exec i s = .next t ∧ t.getF st = x ∧ t.port p = s.port p ∧ t.ov.oseq = told ∧ t.machs = s.machs
    let points := match p with
      | .east => Fd.OV_TOPO_POINTS_E
      | .west => Fd.OV_TOPO_POINTS_W
    let failed := fun (cause : Nat) (t : State) => t.getF st = 3 ∧ t.getF (Fd.OV_PSTAT_FAIL p.idx) = cause ∧
      (t.port p).exchanged = false ∧ t.bitF (Fd.SB_STICKY_BITS 1) 5 = true ∧ t.ov.oseq = told ∧ t.machs = s.machs ∧
      (s.linked p.other = false → t.port p.other = s.port p.other)
    (s.getF st = 0 → s.isF (Fd.OV_PCTRL_DISABLE p.idx) = false → goes (.signalDetect p) 1) ∧
    (∀ o : PeerOffer, s.getF st = 1 → (s.port p).exchanged = false → (s.port p).toClose = false →
      ((o.rev20 || o.rev11 || o.rev10) = true → o.serial ≠ s.serial → ∃ t, exec (.trainExchangeComplete p o) s = .next t ∧
        t.getF (Fd.OV_PSTAT_REV p.idx) = (if o.rev20 = true then 2 else if o.rev11 = true then 1 else 0) ∧
        t.port p = { lossTimes := (s.port p).lossTimes, exchanged := true } ∧ t.port p.other = s.port p.other ∧
        t.getF (Fd.OV_PEER_SN_LO_SN p.idx) = o.serial.toNat % 2 ^ 32 ∧ t.getF (Fd.OV_PEER_SN_HI_SN p.idx) = o.serial.toNat / 2 ^ 32 ∧
        t.getF (Fd.OV_PSTAT_PEER_ID p.idx) = ((o.node.map (·.val)).getD 0x3FF) ∧
        t.isF (Fd.OV_PSTAT_PEER_NUMBERED p.idx) = o.node.isSome ∧ t.getF (Fd.OV_PSTAT_PEER_PORT p.idx) = o.port.idx ∧ t.getF st = 1) ∧
      ((o.rev20 || o.rev11 || o.rev10) = false → ∃ t, exec (.trainExchangeComplete p o) s = .next t ∧ failed 3 t) ∧
      ((o.rev20 || o.rev11 || o.rev10) = true → o.serial = s.serial →
        ∃ t, exec (.trainExchangeComplete p o) s = .next t ∧ failed 4 t)) ∧
    (∀ d : Fin 65536, s.getF st = 1 → (s.port p).exchanged = true → ∃ t, exec (.linkDelayComplete p d) s = .next t ∧
      t.getF st = 2 ∧ t.getF (Fd.OV_DELAY_DELAY p.idx) = d.val ∧ (t.port p).exchanged = false ∧ t.isF points = false ∧
      t.isF (match p with
        | .east => Fd.OV_EVT_E_UP
        | .west => Fd.OV_EVT_W_UP) = true ∧
      t.ov.oseq = told ∧ t.machs = s.machs) ∧
    (∀ lock, s.getF st = 1 → (s.port p).exchanged = false →
      ∃ t, exec (.trainFailTimeout p lock) s = .next t ∧ failed (if lock = true then 2 else 1) t) ∧
    (s.getF st = 3 → goes (.trainRetry p) 0) ∧
    (s.getF st = 4 → goes (.dampedEnd p) 0) ∧
    ((∀ k ∈ [32, 33, 35], s.Quiet k) → s.isF (Fd.OV_PCTRL_DISABLE p.idx) = false →
      (∃ t, exec (.ovPortDisable p true) s = .next t ∧ t.getF st = 5 ∧ t.isF (Fd.OV_PCTRL_DISABLE p.idx) = true ∧
        (s.linked p = true → t.getF (Fd.OV_PSTAT_LOSS p.idx) = 6)) ∧
      (s.linked p = true → ∃ t, exec (.ovRetrain p) s = .next t ∧ (t.getF st = 0 ∨ t.getF st = 4) ∧ t.getF (Fd.OV_PSTAT_LOSS p.idx) = 6 ∧
        t.isF (Fd.OV_PCTRL_DISABLE p.idx) = false) ∧
      (s.getF st = 3 → ∃ t, exec (.ovRetrain p) s = .next t ∧ t.getF st = 0)) ∧
    (s.getF st = 5 → s.isF (Fd.OV_PCTRL_DISABLE p.idx) = true → ∃ t, exec (.ovPortDisable p false) s = .next t ∧ t.getF st = 0 ∧
      t.isF (Fd.OV_PCTRL_DISABLE p.idx) = false)

/-- R366, R367, R371, R372, R374, R375, R387, R388: the receiver takes frames in the order of LSEQ, whole, and acknowledges them; a
copy is acknowledged again, a gap and a burst that fails bring a NACK; the sender drops what is acknowledged, and replays what a
NACK or the timeout asks for. R375, R382, R390, R391, R393: a LINKED port is lost by its causes, by the eighth replay without
progress and by the second silent check interval: its STATE is DOWN, or DAMPED at the third loss within 1 s, the cause is shown,
the loss counted, and SB32 or SB33 set. In a ring it keeps its frames until the points close, which moves every one of them that
the other port's revision carries to that port and sets SB34; where more than two ports of the ring are down it keeps none. -/
def Obligations.FramesAndLossesOfALink : Prop :=
  (∀ (s : State) (p : Port), s.ovLive = true → s.Settled → s.linked p = true →
     let x := s.port p
     (∀ b : Burst, b.elastic = false →
       (burstAccepted b = true → b.pair = false ∧ x.burst0 = none ∨ b.pair = true ∧ b.second = true ∧ x.burst0 = some b.lseq →
         (b.lseq = x.rxNext → b.frame.broadcast = false → s.numbered = true → b.frame.node = s.nodeId →
           b.frame.body ≠ .link → (∀ k, b.frame.body ≠ .other k) →
           ∃ t, exec (.burstReceive p b) s = .next t ∧ (t.port p).rxNext = (x.rxNext + 1) % 65536 ∧ (t.port p).ackOut = some (ackWord b.lseq) ∧
             (t.port p).nackOut = none ∧ (t.port p).burst0 = none ∧ (t.port p).unacked = x.unacked ∧ t.port p.other = s.port p.other ∧
             (if s.seenFrame b.frame = true then t.ov.inbox = s.ov.inbox ∧ t.getF Fd.OV_CNT_DUP_COUNT = min (s.getF Fd.OV_CNT_DUP_COUNT + 1) (2 ^ 32 - 1)
              else t.ov.inbox = s.ov.inbox ++ [(some p, b.frame)])) ∧
         (b.lseq < 65536 → x.rxNext < 65536 → 0 < (x.rxNext + 65536 - b.lseq) % 65536 → (x.rxNext + 65536 - b.lseq) % 65536 ≤ 32768 →
           ∃ t, exec (.burstReceive p b) s = .next t ∧ (t.port p).rxNext = x.rxNext ∧ (t.port p).ackOut = some (ackWord b.lseq) ∧ t.ov.inbox = s.ov.inbox) ∧
         (32768 < (x.rxNext + 65536 - b.lseq) % 65536 → ∃ t, exec (.burstReceive p b) s = .next t ∧ (t.port p).rxNext = x.rxNext ∧
           (t.port p).nackOut = some (nackWord ((x.rxNext + 65535) % 65536)) ∧ t.ov.inbox = s.ov.inbox)) ∧
       (burstAccepted b = true → b.pair = true → b.second = false → x.burst0 = none →
         ∃ t, exec (.burstReceive p b) s = .next t ∧ t.port p = { x with burst0 := some b.lseq } ∧ t.ov.inbox = s.ov.inbox) ∧
       (burstAccepted b = false → x.burst0 = none → s.Quiet 36 → ∃ t, exec (.burstReceive p b) s = .next t ∧
         t.getF (Fd.OV_ERR_CRC p.idx) = min (s.getF (Fd.OV_ERR_CRC p.idx) + 1) 65535 ∧ (t.port p).rxNext = x.rxNext ∧
         (t.port p).nackOut = some (nackWord ((x.rxNext + 65535) % 65536)) ∧ t.ov.inbox = s.ov.inbox)) ∧
     (∀ (k : Fin 65536) (c : Byte),
       (c = controlCrc k.val →
         (∀ f pre post, x.unacked = pre ++ (k.val, f) :: post → (∀ y ∈ pre, y.1 ≠ k.val) → x.held = [] →
           (∃ t, exec (.ackReceive p k c) s = .next t ∧ t.port p = { x with unacked := post, replays := 0, holdTold := false }) ∧
           (post ≠ [] → x.replays < 7 → ∃ t, exec (.nackReceive p k c) s = .next t ∧ t.port p = { x with replays := x.replays + 1 } ∧
             t.getF (Fd.OV_REPLAY_NACKS p.idx) = min (s.getF (Fd.OV_REPLAY_NACKS p.idx) + 1) 65535 ∧
             t.getF (Fd.OV_REPLAY_REPLAYS p.idx) = min (s.getF (Fd.OV_REPLAY_REPLAYS p.idx) + post.length) 65535)) ∧
         exec (.markReceive p k c) s = .next (s.setPort p { x with marked := true })) ∧
       (c ≠ controlCrc k.val → ∀ i ∈ [Instr.ackReceive p k c, .nackReceive p k c, .markReceive p k c],
         exec i s = .next (s.incF (Fd.OV_ERR_CODE p.idx)))) ∧
     exec (.markSend p) s = .next (s.setPort p { x with markCount := (x.markCount + 1) % 65536, markOut := some (markWord ((x.markCount + 1) % 65536)) }) ∧
     (x.unacked ≠ [] → x.replays < 7 → ∃ t, exec (.replayTimeout p) s = .next t ∧ t.port p = { x with replays := x.replays + 1 } ∧
       t.getF (Fd.OV_REPLAY_REPLAYS p.idx) = min (s.getF (Fd.OV_REPLAY_REPLAYS p.idx) + x.unacked.length) 65535) ∧
     ((∃ q ∈ x.held, x.full q.2 = true) → x.holdTold = false → s.Quiet 42 →
       exec (.replayHoldBackTimeout p) s = .next ((s.setPort p { x with holdTold := true }).sticky 42)) ∧
     (∀ d : Fin 65536, ∃ t, exec (.linkDelayTimer p d) s = .next t ∧ t.getF (Fd.OV_DELAY_DELAY p.idx) = d.val ∧
       t.ov.oseq = (s.ov.oseq + 1) % 65536 ∧ (x.held = [] → x.unacked = [] →
         (t.port p).unacked = [(x.txSeq, { dest := nodeBase 0x3FF, src := s.nodeId, oseq := s.ov.oseq, body := .link })]))) ∧
  (∀ (s : State) (p : Port), s.ovLive = true → s.Settled → (∀ k ∈ [32, 33, 34, 35, 37, 40, 43, 48, 49, 52], s.Quiet k) →
     let x := s.port p
     let recent := (x.lossTimes.filter fun y => s.now - y ≤ 1000000000).length
     let lost := fun (cause : Nat) (t : State) =>
       t.getF (Fd.OV_PSTAT_STATE p.idx) = (if 2 ≤ recent then 4 else 0) ∧ t.getF (Fd.OV_PSTAT_LOSS p.idx) = cause ∧
       t.getF (Fd.OV_LOSS_LOSSES p.idx) = min (s.getF (Fd.OV_LOSS_LOSSES p.idx) + 1) 255 ∧
       t.isF (match p with
         | .east => Fd.OV_EVT_E_DOWN
         | .west => Fd.OV_EVT_W_DOWN) = true ∧
       t.bitF (Fd.SB_STICKY_BITS 1) (if p = .east then 0 else 1) = true ∧ t.machs = s.machs ∧
       (s.linked p.other = false → (t.port p).unacked = [] ∧ (t.port p).held = [] ∧ (t.port p).toClose = false) ∧
       (s.linked p.other = true → 2 ≤ s.downPorts → (t.port p).unacked = [] ∧ (t.port p).held = [] ∧ (t.port p).toClose = false) ∧
       (s.linked p.other = true → s.downPorts ≤ 1 →
         (t.port p).unacked = x.unacked ∧ (t.port p).held = x.held ∧ (t.port p).toClose = true)
     (s.linked p = true →
       (∀ c, ∃ t, exec (.linkLoss p c) s = .next t ∧ lost c.num t) ∧
       (x.unacked ≠ [] → 7 ≤ x.replays → ∃ t, exec (.replayTimeout p) s = .next t ∧ lost 3 t) ∧
       (x.marked = true → exec (.silentCheckInterval p) s = .next (s.setPort p { x with marked := false, silent := 0 })) ∧
       (x.marked = false → x.silent = 0 → exec (.silentCheckInterval p) s = .next (s.setPort p { x with marked := false, silent := 1 })) ∧
       (x.marked = false → 1 ≤ x.silent → ∃ t, exec (.silentCheckInterval p) s = .next t ∧ lost 4 t)) ∧
     (x.toClose = true → s.linked p = false → ∃ t, exec (.pointsClose p) s = .next t ∧ (t.port p).unacked = [] ∧ (t.port p).held = [] ∧
       (t.port p).toClose = false ∧ t.bitF (Fd.SB_STICKY_BITS 1) 2 = true ∧ t.isF Fd.OV_EVT_POINTS = true ∧
       t.isF (match p with
         | .east => Fd.OV_TOPO_POINTS_E
         | .west => Fd.OV_TOPO_POINTS_W) = true ∧
       ∀ f ∈ x.unacked.map (·.2) ++ x.held.map (·.2), f.body.rev ≤ s.getF (Fd.OV_PSTAT_REV p.other.idx) → f ∈ (t.port p.other).unacked.map (·.2) ++ (t.port p.other).held.map (·.2)) ∧
     (s.isF Fd.OV_CFG_RING_EXPECTED = true → s.getF Fd.OV_TOPO_MODE = 1 → s.ov.ringTold = false →
       exec .ringOpenTimeout s = .next ({ s with ov := { s.ov with ringTold := true } }.sticky 43)))

/-- R89, R382, R385, R386, R388, R389, R393, R394: PRESENCE goes out with what the node is, and tells of the others and of the path
to them; the lower serial number keeps a contested ID; a node from which no PRESENCE comes is no longer reachable; TOPOLOGY,
ASSIGN, WAKE and REFUSE arrive; WAKE and ASSIGN are sent with their RESULT. -/
def Obligations.NodesOfTheStation : Prop :=
  ∀ (s : State) (p : Port) (f : Frame) (r : List (Option Port × Frame)), s.ovLive = true → s.Settled →
    (∀ k ∈ [35, 38, 40, 48, 49, 51, 52], s.Quiet k) →
    let came := s.ov.inbox = (some p, f) :: r
    (∃ t, exec .presenceTimer s = .next t ∧ t.ov.oseq = (s.ov.oseq + 1) % 65536 ∧ t.ov.nodes = s.ov.nodes ∧
      (s.linked p = true → (s.port p).held = [] → (s.port p).unacked = [] → (t.port p).unacked = [((s.port p).txSeq,
        { dest := nodeBase 0x3FF, src := s.nodeId, oseq := s.ov.oseq, body := s.presence })])) ∧
    (∀ m, came → f.body = .presence m →
      (¬(s.numbered = true ∧ m.node = s.nodeId ∧ m.serial ≠ s.serial) → ∃ t, exec .presenceReceive s = .next t ∧ t.ov.inbox = r ∧
        lookupNat (presKey m) t.ov.nodes = some { port := m.path, serial := m.serial, rev := m.rev, eastSt := m.eastSt, westSt := m.westSt
                                                  delay := max m.eastDelay m.westDelay, volume := m.volume }) ∧
      (s.numbered = true → m.node = s.nodeId → m.serial.toNat < s.serial.toNat → ∃ t, exec .presenceReceive s = .next t ∧
        t.ov.inbox = r ∧ t.nodeId = 0x3FF ∧ t.numbered = false ∧ t.isF Fd.OV_NODE_DUP = true ∧ t.isF Fd.OV_EVT_DUP = true ∧
        t.bitF (Fd.SB_STICKY_BITS 1) 6 = true ∧ t.isF Fd.TT_STAT_LOCKED = false) ∧
      (s.numbered = true → m.node = s.nodeId → s.serial.toNat < m.serial.toNat → ∃ t, exec .presenceReceive s = .next t ∧
        t.ov.inbox = r ∧ t.nodeId = s.nodeId ∧ t.numbered = true ∧ t.isF Fd.OV_EVT_DUP = true)) ∧
    (∀ n, sortedNat s.ov.nodes = true → (lookupNat n s.ov.nodes).isSome = true →
      ∃ t, exec (.presenceReachTimeout n) s = .next t ∧ t.ov.nodes = eraseNat n s.ov.nodes ∧ lookupNat n t.ov.nodes = none) ∧
    (∀ n q st i beyond, came → f.body = .topology n q st beyond → lookupNat n s.ov.nodes = some i →
      let was := match q with
        | .east => i.eastSt
        | .west => i.westSt
      let j := match q with
        | .east => { i with eastSt := st }
        | .west => { i with westSt := st }
      let told := { s with ov := { s.ov with inbox := r, nodes := insertNat n j s.ov.nodes } }
      ∃ t, exec .topologyReceive s = .next t ∧ t.ov.inbox = r ∧ lookupNat n t.ov.nodes = some (
        if (was = 2) = (st = 2) ∨ beyond.contains n = false then j
        else if was = 2 ∧ s.getF Fd.OV_TOPO_MODE = 1 ∧ 3 ≤ told.downPorts then { j with cut := true }
        else { j with port := j.port.other })) ∧
    (∀ sn id, came → f.body = .assign sn id →
      (s.numbered = false ∧ s.isF Fd.OV_CFG_ASSIGN_EN = true ∧ sn = s.serial ∧ id < 1023 → ∃ t, exec .assignReceive s = .next t ∧
        t.ov.inbox = r ∧ t.nodeId = id ∧ t.numbered = true ∧ t.getF Fd.OV_NODE_SRC = 2) ∧
      (¬(s.numbered = false ∧ s.isF Fd.OV_CFG_ASSIGN_EN = true ∧ sn = s.serial ∧ id < 1023) →
        exec .assignReceive s = .next { s with ov := { s.ov with inbox := r } })) ∧
    (came → f.body = .wake → s.numbered = true → ∃ t, exec .wakeFrameReceive s = .next t ∧ t.ov.inbox = r ∧ t.isF Fd.WAKE_CAUSE_FRAME = true ∧
      (s.sleepState = slStabled → s.bitF Fd.SLEEP_CTRL_WAKE_EN 1 = true → t.sleepState = slWaking)) ∧
    (∀ o (n : Fin 16), came → f.body = .refuse o (some n.val) →
      exec .refuseReceive s = .next ({ s with ov := { s.ov with inbox := r } }.incF (Fd.RFX_WCNT_REFUSED_VERSION n.val))) ∧
    (∀ (node : Fin 1024), ∀ c ∈ [(Instr.ovTxWake node, 1), (.ovTxAssign node, 2)], ∃ t, exec c.1 s = .next t ∧
      t.getF Fd.OV_TX_CMD_NODE = node.val ∧ t.getF Fd.OV_TX_CMD_KIND = c.2 ∧ t.isF Fd.OV_EVT_TX_DONE = true ∧
      t.getF Fd.OV_TX_CMD_RESULT = (if s.stationRev < 1 then 2 else if s.linkedPorts = [] ∨ s.numbered = false then 3 else 1) ∧
      t.ov.oseq = (if s.stationRev < 1 ∨ s.linkedPorts = [] ∨ s.numbered = false then s.ov.oseq else (s.ov.oseq + 1) % 65536))

/-! ### Sessions (R398 to R416) -/

/-- R403, R404, R406: a request that comes in under a session that admits it, with its tag right and a counter not seen before,
joins the queue of its class; a wrong tag sets SB44 and a counter seen before SB45, and neither is answered. R403: a counter is
taken where it was not seen and is less than 64 below the highest; under an entry with PEER ANY a requester without a window has
one where fewer than eight others are live. -/
def Obligations.RequestsAndCounters : Prop :=
  (∀ (s : State) (p : Option Port) (f : Frame) (m : SessReqMsg) (r : List (Option Port × Frame)), s.phase = .running → s.Settled →
     s.ov.inbox = (p, f) :: r → f.body = .sessReq m → s.inReset .sess = false → s.isF Fd.SS_CTRL_OPEN = true → s.isF Fd.SS_CTRL_BOOT = false → s.numbered = true →
     let e := s.sess m.sid
     let rest : State := { s with ov := { s.ov with inbox := r } }
     e.valid = true → e.server = true → e.admits f.src = true →
     (tagOf e.key f.dest f.src (reqPayload m) ≠ m.tag → s.Quiet 44 →
       exec .sessReqReceive s = .next ((rest.incF Fd.SS_CNT_AUTH_TAG).sticky 44)) ∧
     (tagOf e.key f.dest f.src (reqPayload m) = m.tag →
       ((rxWin e f.src).seen.contains m.counter = true ∨ m.counter + 64 ≤ (rxWin e f.src).high → s.Quiet 45 →
         exec .sessReqReceive s = .next ((rest.incF Fd.SS_CNT_AUTH_REPLAY).sticky 45)) ∧
       (∀ e', takeCounter e f.src m.counter s.now = some e' → e.cmd = none → f.cls = e.cls → (s.getF Fd.SS_ADM_CLASS_EN).testBit (f.cls - 1) = true →
         e.inflS < e.quota → (s.queue f.cls).length < 64 →
         ∃ t, exec .sessReqReceive s = .next t ∧ t.ov.inbox = r ∧ t.sess m.sid = { e' with inflS := e.inflS + 1 } ∧
           t.queue f.cls = s.queue f.cls ++ [{ src := f.src, addr := f.dest, msg := m, qdepth := (s.queue f.cls).length
                                               bcast := f.node == 0x3FF, own := none }]))) ∧
  (∀ (e : SessEntry) (node c now : Nat),
     let w := rxWin e node
     ((takeCounter e node c now).isSome = true ↔
       w.high < c + 64 ∧ c ∉ w.seen ∧
       (e.any = false ∨ (∃ y ∈ e.wins, y.node = node) ∨ ((e.wins.filter fun y => y.node != node).filter fun y => now - y.last < 2000000).length < 8)) ∧
     ∀ e', takeCounter e node c now = some e' → takeCounter e' node c now = none ∧ (rxWin e' node).high = max w.high c ∧ c ∈ (rxWin e' node).seen)

/-- R403, R406 to R408: within the share of SAFETY the oldest SAFETY request is served; one that passes every check reads SRAM, or
writes it, and is answered to its origin, tagged under the session, with OK, or OK_DELAYED where it had waited. R100, R403,
R407, R410: a reply whose tag is right ends the access of the machine that waits for it: OK gives a load its data, and `SS_LAST`
the code; a wrong tag sets SB44. Where no reply comes, the access ends in a STATION_REPLY trap with TIMEOUT and SB47, and a PEEK
with its code 9. -/
def Obligations.ServiceAndReplies : Prop :=
  (∀ (s : State) (q : SrvReq) (r : List SrvReq) (p : Port) (ns : Nat), s.phase = .running → s.Settled → s.Canon → s.inReset .orvia = false →
     s.queue 1 = q :: r → s.ss.safetyUsed < s.getF Fd.SS_ADM_SAFETY_SHARE * 1000 → (s.port p).safetyUsed < s.getF Fd.SS_ADM_SAFETY_SHARE * 1000 → s.serviceCheck q = none → q.own = none → q.bcast = false →
     let o := q.addr % 2 ^ 42
     let n := q.msg.len
     let e := s.srvEntry q.msg.sid
     let answered := fun (data : List Byte) (t : State) =>
       let m : SessRepMsg :=
         { sid := q.msg.sid, reply := if q.qdepth = 0 then 0 else 1, tgen := s.targetGen o, reqGen := q.msg.reqGen, reqBlk := q.msg.reqBlk
           len := data.length, qdepth := q.qdepth, counter := q.msg.counter, tag := 0, data := data }
       (t.port p).unacked = [((s.port p).txSeq,
         { dest := nodeBase q.src, src := s.nodeId, oseq := s.ov.oseq, cls := 1
           body := .sessRep { m with tag := tagOf e.key (nodeBase q.src) s.nodeId (repPayload m) } })] ∧
       t.queue 1 = r ∧ t.ss.safetyUsed = s.ss.safetyUsed + ns ∧ (t.sess q.msg.sid).inflS = (s.sess q.msg.sid).inflS - 1 ∧ t.machs = s.machs
     (s.sess q.msg.sid).valid = true → (s.sess q.msg.sid).cmd = none → s.numbered = true → q.src ≠ s.nodeId → s.reachable q.src = true →
     q.src ≠ 0x3FF → s.outPort q.src = some p → (s.port p).held = [] → (s.port p).unacked = [] → inSram o = true → s.SramReady o n → s.Quiet 21 →
     (q.msg.op = 1 → ∃ t, exec (.sessionServiceStart ns) s = .next t ∧ answered (leBytes (s.sramRead o n) n) t ∧ t.sram = s.sram) ∧
     (q.msg.op = 2 → q.msg.data.length = n → ∃ t, exec (.sessionServiceStart ns) s = .next t ∧ answered [] t ∧
       ∀ b, t.sramByte b = if o ≤ b ∧ b < o + n then q.msg.data.getD (b - o) 0 else s.sramByte b)) ∧
  (∀ (s : State) (p : Option Port) (f : Frame) (m : SessRepMsg) (r : List (Option Port × Frame)) (q : OutReq) (k : Mach) (a : CoreAccess) (h : Word),
     s.phase = .running → s.Settled → s.inReset .sess = false → s.ss.out = [q] → q.who = .mach k → (s.mach k).wait = .station a q.id →
     q.bcast = false → (s.sess q.sid).valid = true → (s.sess q.sid).cmd = none →
     let e := s.sess m.sid
     let pc := (s.mach k).pc
     (s.ov.inbox = (p, f) :: r → f.body = .sessRep m → m.tag ≠ 0 →
       (tagOf e.key f.dest f.src (repPayload m) ≠ m.tag → s.Quiet 44 →
         exec .sessRepReceive s = .next (({ s with ov := { s.ov with inbox := r } }.incF Fd.SS_CNT_AUTH_TAG).sticky 44)) ∧
       (tagOf e.key f.dest f.src (repPayload m) = m.tag → m.reqBlk < 48 → m.reqGen = s.getF (Fd.GEN_GEN m.reqBlk) → q.own = false →
         m.sid = q.sid → m.counter = q.counter → f.src = q.node → (m.reply = 0 ∨ m.reply = 1) →
         ∃ t, exec .sessRepReceive s = .next t ∧ t.ss.out = [] ∧ (t.mach k).wait = .none ∧ (t.mach k).pc = pc + 4 ∧
           (t.mach k).retire = (s.mach k).retire + 1 ∧ t.getR (lastReg k) = .ofNat (m.reply + m.tgen * 2 ^ 8 + m.qdepth * 2 ^ 16) ∧
           (∀ j, j ≠ k → t.mach j = s.mach j) ∧ t.sram = s.sram ∧
           ∀ g, t.rg k g = if a.write = false ∧ g = a.rd ∧ g ≠ 0 then loadValue a.width a.signed (leNat m.data) else s.rg k g)) ∧
     (s.alive k = true → s.exl k = false → s.VectorReady k 0 h → (s.mach k).longRun = false → s.Quiet 47 →
       ∃ t, exec (.requestTimeout false q.id) s = .next t ∧ t.ss.out = [] ∧ (t.mach k).wait = .none ∧ t.getR (lastReg k) = 0x19 ∧
         t.bitF (Fd.SB_STICKY_BITS 1) 15 = true ∧ t.rc' k cEpc = pc &&& 0xFFFF_FFFC ∧ t.rc' k cCause = .ofNat (9 + 0x19 * 2 ^ 16) ∧
         (t.mach k).pc = h &&& 0xFFFF_FFFC) ∧
     (∀ rd node chan id, (s.mach .a0).wait = .peek rd node chan id → rd ≠ 0 → rd.toNat % 2 = 0 →
       ∃ t, exec (.requestTimeout true id) s = .next t ∧ (t.mach .a0).wait = .none ∧ t.rg .a0 rd = 0 ∧
         t.rg .a0 (rd + 1) = .ofNat (9 + s.tt.nextE % 65536 * 65536) ∧ (t.mach .a0).pc = (s.mach .a0).pc + 4))

/-- R403, R408, R413, R414, R416: a window of a session for any peer is given up; the interval of the SAFETY share begins anew, at
the server and at the ports; LOAD_KEY moves the staged key into a selected entry that has nothing in flight and starts its
counters anew, CLEAR zeroes the entry; a write of `SS_BOOT` ends the boot load once. -/
def Obligations.SessionEntries : Prop :=
  ∀ (s : State), s.phase = .running → s.Settled →
    (∀ sid node : Fin 1024, (s.sess sid.val).peer.getLsbD 10 = true → (∃ w ∈ (s.sess sid.val).wins, w.node = node.val) →
      ∃ t, exec (.replayWindowRelease sid node) s = .next t ∧
        (t.sess sid.val).wins = (s.sess sid.val).wins.filter (fun w => w.node != node.val) ∧ (t.sess sid.val).key = (s.sess sid.val).key) ∧
    (∃ t, exec .safetyShareInterval s = .next t ∧ t.ss = { s.ss with safetyUsed := 0 } ∧ t.machs = s.machs ∧
      ∀ p, s.linked p = true → (s.port p).held = [] → t.port p = { s.port p with safetyUsed := 0, holdTold := false }) ∧
    (s.inReset .sess = false →
      (let sid := s.getF Fd.SS_SEL_ID
       sortedNat s.ss.entries = true → (s.sess sid).inflC = 0 → (s.sess sid).inflS = 0 →
        (∃ t, exec .loadKey s = .next t ∧ t.sess sid = { s.sess sid with
            key := Vector.ofFn fun i : Fin 8 => s.getR (Rg.SS_KEY i.val), tx := 1, rxHigh := 0, wins := [], cmd := none } ∧
          (∀ i, i < 8 → t.getR (Rg.SS_KEY i) = 0) ∧ ∀ k, k ≠ sid → t.sess k = s.sess k) ∧
        (∃ t, exec .entryClear s = .next t ∧ t.sess sid = {} ∧ ∀ k, k ≠ sid → t.sess k = s.sess k)) ∧
      (∀ v, s.isF Fd.SS_CTRL_BOOT = true → s.ss.bootLoaded = false → ∃ t, exec (.ssBootWrite v) s = .next t ∧
        t.getF Fd.SS_BOOT_SIZE = v.toNat % 2 ^ 25 ∧ t.ss.bootLoaded = true))

/-! ### The channels: states, measurement, actuation, diagnostics (R246 to R362) -/

/-- R62, R245, R246, R251, R256, R290: the end of CONFIGURING is noted with its time, and a factory trim record whose check fails is
a fault; SHUTTING ends in OFF with the record cleared, or in FAULTED where the restart check fails; a fault of the die, its
clock, its isolator link or its periodic check puts the channel into FAULTED with the cause, counts it and sets the source of
the channel; the other channels stay. A frame of 32 bits and their CRC-8 passes the link; another one is counted, and repeated
up to three times. -/
def Obligations.ChannelStates : Prop :=
  ∀ (s : State) (n : Fin 16) (c : Fin 8), s.chLive n = true → s.Settled → s.Quiet (80 + n.val) →
    let h := s.ch n
    let us := min 65535 ((s.now - h.since) / 1000)
    let bad := (h.badTimes.filter fun t => s.now - t ≤ 1000000).length
    let repeats := fun (e : Bool) (x : ChanH) => if e = true then x.isoToLogic else x.isoToDie
    let faulted := fun (k : Nat) (t : State) => t.chSt n = 6 ∧ t.getF (Fd.CH_STATE_FCAUSE n.val) = k ∧ t.getF (Fd.CH_FAULT_CAUSE n.val) = k ∧
      t.getF (Fd.CH_FAULT_COUNT n.val) = min (s.getF (Fd.CH_FAULT_COUNT n.val) + 1) 255 ∧ t.isF (Fd.CH_EVT_FAULTED n.val) = true ∧
      t.bitF (Fd.SB_STICKY_BITS ((80 + n.val) / 32)) ((80 + n.val) % 32) = true ∧ (t.ch n).regSlot = none ∧ (t.ch n).injSlot = none ∧
      (t.ch n).pend = none ∧ (∀ k, k ≠ n → t.ch k = s.ch k) ∧ t.machs = s.machs
    (s.chSt n = 1 → h.done = none → (s.otp.trim.get n).good = false → ∃ t, exec (.configurationComplete n) s = .next t ∧ faulted 6 t) ∧
    (s.chSt n = 1 → h.done = none → (s.otp.trim.get n).good = true → ∃ t, exec (.configurationComplete n) s = .next t ∧ (t.ch n).done = some s.now ∧
      t.getF (Fd.CH_TIMES_CFG_US n.val) = us ∧ t.chSt n = 1 ∧ ∀ k, k ≠ n → t.ch k = s.ch k) ∧
    (s.chSt n = 4 →
      (∃ t, exec (.shutdownComplete n none) s = .next t ∧ t.chSt n = 0 ∧ t.getF (Fd.CH_STATE_MODE n.val) = 0 ∧ (t.ch n).cfg = {} ∧
        (t.ch n).pend = h.pend ∧ t.getF (Fd.CH_TIMES_SHUT_US n.val) = us ∧ t.isF (Fd.CH_EVT_OFF_REACHED n.val) = true ∧
        (∀ w, w < 16 → t.getR (Rg.CH_REC n.val w) = 0) ∧ ∀ k, k ≠ n → t.ch k = s.ch k) ∧
      (1 ≤ c.val → c.val ≠ 6 → ∃ t, exec (.shutdownComplete n (some c)) s = .next t ∧ faulted c.val t ∧ t.getF (Fd.CH_TIMES_SHUT_US n.val) = us)) ∧
    (s.canFault n c.val = true → ∃ t, exec (.channelDieFault n c) s = .next t ∧ faulted c.val t) ∧
    (s.chSt n ≠ 6 →
      (∃ t, exec (.isoLinkTimeout n) s = .next t ∧ faulted 1 t ∧ t.getF (Fd.CH_LINK_LOSSES n.val) = min (s.getF (Fd.CH_LINK_LOSSES n.val) + 1) 255) ∧
      (∃ t, exec (.clockMonitorFault (.chOsc n)) s = .next t ∧ faulted 4 t ∧ t.bitF Fd.CLK_STAT_CHOSC n.val = true) ∧
      (∀ sym, isoGood sym = false → 7 ≤ bad → ∃ t, exec (.isoFrameReceive n true sym) s = .next t ∧ faulted 2 t ∧
        t.getF (Fd.CH_LINK_LOSSES n.val) = min (s.getF (Fd.CH_LINK_LOSSES n.val) + 1) 255) ∧
      (s.chSt n ≠ 0 → ∃ t, exec (.periodicSelfCheck n false) s = .next t ∧ faulted 5 t)) ∧
    (∀ e sym, isoGood sym = false → e = false ∨ bad < 7 → ∃ t, exec (.isoFrameReceive n e sym) s = .next t ∧ t.chSt n = s.chSt n ∧
      (∀ b, sym = .frame b → repeats e (t.ch n) = if repeats e h < 3 then repeats e h + 1 else 0) ∧
      t.getF (Fd.CH_LINK_BAD_FRAMES n.val) = min (s.getF (Fd.CH_LINK_BAD_FRAMES n.val) + 1) 65535 ∧ t.isF (Fd.CH_EVT_LINK_ERR n.val) = true ∧
      t.isF (Fd.CH_STATE_LINK_ERR n.val) = true) ∧
    (∀ e (data : Word), exec (.isoFrameReceive n e (.frame (isoFrame data))) s =
      .next (s.setCh n (if e = true then { h with isoToLogic := 0 } else { h with isoToDie := 0 }))) ∧ exec (.periodicSelfCheck n true) s = .next s

/-- R279 to R283, R286, R296, R297, R299, R300, R302: an edge at a TRIG line, and t_e less the lead, start the sequences that select
them, and a trigger that finds its sequence running is counted; a regular slot gives a value clipped to the range, an auxiliary
result or the next slot, and an injected slot an entry of its queue; limits, the fast comparator and selected edges set the
pending bits of the RUNNING lanes whose selector names them. -/
def Obligations.MeasuringChannels : Prop :=
  ∀ (s : State) (n : Fin 16), s.measures n = true → s.Settled →
    let h := s.ch n
    let idle := h.regSlot = none ∧ h.regNext = none ∧ h.injSlot = none ∧ h.injWait = none
    let pends := fun (kind : Nat) (t : State) => ∀ (l : Fin 16) (i : Nat), i < 8 → s.laneRuns l = true →
      s.getF (Fd.RFX_SEL_KIND l.val i) = kind → s.getF (Fd.RFX_SEL_CH l.val i) = n.val → t.bitF (Fd.RFX_PEND_PEND l.val) i = true
    (∀ (k : Fin 4) rising, s.pwr.vioOk = true → s.getF Fd.BOOT_STAT_RESULT = 1 → ∃ t, exec (.sequenceTrigEdge k rising) s = .next t ∧ t.regs = s.regs ∧
      (∀ j, s.measures j = false → t.ch j = s.ch j) ∧
      (isAnaIn h.cfg.mode = true → h.regRun = true → h.regTrig = 2 + k.val → h.injTrig ≠ 2 + k.val → idle →
        t.ch n = if edgeSel (fieldOf (h.cfg.item 1) 4 2) rising = true then { h with regSlot := some 0, regStart := some s.tt.clk } else h)) ∧
    (isAnaIn h.cfg.mode = true → s.isF Fd.TT_STAT_LOCKED = true → 1 ≤ s.lead n → h.regTrig = 1 → h.regRun = true → h.injTrig ≠ 1 →
      (idle → exec (.conversionLeadStart n) s = .next (s.setCh n { h with regSlot := some 0, regStart := some s.tt.clk })) ∧
      (h.regSlot.isSome = true → exec (.conversionLeadStart n) s = .next (s.setCh n { h with regOvr := min (h.regOvr + 1) 255, depSkip := true }))) ∧
    (∀ (r : Reading) (lo hi : Int), (h.cfg.mode = mVI ∧ lo = -11000000 ∧ hi = 11000000 ∨ h.cfg.mode = mCI ∧ lo = -1000000 ∧ hi = 25000000) →
      h.regSlot = some 0 → h.injSlot = none → h.injWait = none → h.cfg.regLen = 1 →
      (slotMux h.cfg.regSeq 0 = 0 → h.aux.zero = none → h.aux.ref = none → ∃ t, exec (.slotComplete n r) s = .next t ∧
        (let v := max lo (min hi r.path)
         (t.ch n).proc = { value := Word.ofInt v, time := s.tt.clk, clipped := decide (r.path < lo ∨ hi < r.path), aux := 0 } :: h.proc ∧
         (t.ch n).edges = min (h.edges + 1) 255 ∧ (t.ch n).regSlot = (if h.regTrig = 0 ∧ h.regRun = true then some 0 else none) ∧
         (h.cfg.item 6 ≠ highZ → (h.cfg.item 6).toInt < v → pends 3 t) ∧ (h.cfg.item 7 ≠ highZ → v < (h.cfg.item 7).toInt → pends 4 t) ∧
         ∀ k, k ≠ n → t.ch k = s.ch k)) ∧
      (slotMux h.cfg.regSeq 0 = 3 → ∃ t, exec (.slotComplete n r) s = .next t ∧ (t.ch n).aux = { h.aux with zero := some r.path } ∧
        (t.ch n).proc = h.proc ∧ t.regs = s.regs)) ∧
    (∀ (r : Reading) k, h.injSlot = some k → slotMux h.cfg.injSeq k ≠ 0 → h.injQ.length < 4 → ∃ t, exec (.slotComplete n r) s = .next t ∧
      (t.ch n).injQ = h.injQ ++ [{ slot := k, mux := slotMux h.cfg.injSeq k, delay := h.injDelay, value := Word.ofInt r.raw }] ∧
      (t.ch n).injSlot = (if k + 1 < h.cfg.injLen then some (k + 1) else none) ∧
      (t.ch n).regSlot = (if k + 1 < h.cfg.injLen then h.regSlot else h.regNext)) ∧
    (h.cfg.mode = mVI ∨ h.cfg.mode = mCI →
      ∀ x : Int,
      let w := h.cfg.item 5
      let lo : Int := if h.cfg.mode = mVI then -11000000 else -1000000
      let hi : Int := if h.cfg.mode = mVI then 11000000 else 25000000
      let level : Int := fieldOf w 0 10
      let hyst : Int := fieldOf w 10 4
      let past := if w.getLsbD 14 = true then 1023 * (x - lo) < level * (hi - lo) else level * (hi - lo) < 1023 * (x - lo)
      let back := if w.getLsbD 14 = true then (level + hyst) * (hi - lo) ≤ 1023 * (x - lo) else 1023 * (x - lo) ≤ (level - hyst) * (hi - lo)
      (h.fastArmed = true → past → ∃ t, exec (.fastComparatorEvent n x) s = .next t ∧ t.ch n = { h with fastIn := x, fastArmed := false } ∧
        (w.getLsbD 15 = true → pends 1 t)) ∧
      (h.fastArmed = false → back → exec (.fastComparatorEvent n x) s = .next (s.setCh n { h with fastIn := x, fastArmed := true })) ∧
      (¬(h.fastArmed = true ∧ past) → ¬(h.fastArmed = false ∧ back) →
        exec (.fastComparatorEvent n x) s = .next (s.setCh n { h with fastIn := x }))) ∧
    (∀ level, h.cfg.mode = mDI ∨ h.cfg.mode = mCounter →
      let c := h.cfg.item 8
      (h.level = level → exec (.debouncedEdge n level) s = .next (s.setCh n h)) ∧
      (h.level ≠ level → edgeSel (fieldOf c 16 2) (level != c.getLsbD 18) = true → ∃ t, exec (.debouncedEdge n level) s = .next t ∧
        (t.ch n).level = level ∧ (t.ch n).edges = min (h.edges + 1) 255 ∧ (t.ch n).lastEdge = some (s.tt.clk - 1000 * fieldOf c 0 16) ∧
        (t.ch n).count = (if h.cfg.mode = mCounter then h.count + 1 else h.count) ∧ pends 2 t ∧ ∀ k, k ≠ n → t.ch k = s.ch k))

/-- R271, R311, R314, R315, R317, R323, R325, R349, R355: the die reports its supply and temperature, an analogue output folds back
from 140 °C and recovers, a switch shuts down and restarts; the ramp moves by its step and lands on the target; the boost
follows the terminal, as measured or as expected, and the headroom between 6 V and 28 V, falling by at most 1 V at a time;
readback is kept, and finds a short. -/
def Obligations.DrivingChannels : Prop :=
  ∀ (s : State) (n : Fin 16), s.chLive n = true → s.chOn n = true → s.Settled → s.Quiet (64 + n.val) →
    let h := s.ch n
    let ana := isAnaOut h.cfg.mode = true
    (∀ r : DieReport, ∃ t, exec (.dieTempReading n r) s = .next t ∧ t.getF (Fd.CH_SUPPLY_P_V n.val) = r.pv.val ∧
      t.isF (Fd.CH_SUPPLY_P_OK n.val) = decide (360 ≤ r.pv.val) ∧ t.isF (Fd.CH_SUPPLY_RAIL_OK n.val) = r.railOk ∧
      t.getF (Fd.CH_SUPPLY_DIE_TEMP n.val) = min 255 (r.temp + 64).toNat ∧
      (ana → 140 ≤ r.temp → (t.ch n).fold = h.fold - 10 ∧ (t.ch n).thermal = true) ∧
      (ana → r.temp ≤ 130 → h.fold < 100 → (t.ch n).fold = min 100 (h.fold + 10)) ∧
      (h.conducts = true → 140 ≤ r.temp → (t.ch n).swOff = true ∧ (t.ch n).swTherm = true) ∧ ∀ k, k ≠ n → t.ch k = s.ch k) ∧
    (h.conducts = true → ∃ t, exec (.switchThermalShutdown n) s = .next t ∧ (t.ch n).swOff = true ∧ (t.ch n).swTherm = true ∧
      ((t.ch n).swLatched = true ↔ h.swLatched = true ∨ (h.cfg.item 0x12).getLsbD 6 = true ∨
        7 ≤ (h.swTimes.filter fun t => s.now - t ≤ 1000000000).length)) ∧
    (h.cfg.mode = mHS → h.swOff = true → h.swLatched = false →
      exec (.switchAutoRestart n) s = .next (s.setCh n { h with swOff := false })) ∧
    (ana → h.target ≠ highZ → h.trimCmd = 0 →
      let step : Int := (h.cfg.item 0x11).toNat
      exec (.dacGridPoint n) s = .next (if h.pos = h.target.toInt then s.setCh n h else s.setCh n { h with
        pos := if h.pos < h.target.toInt then min h.target.toInt (h.pos + step) else max h.target.toInt (h.pos - step) })) ∧
    (ana → h.aim ≠ none → ∀ meas drop lim, drop = false ∨ h.vboost = 28000 →
      let v := max (min (max (max meas h.expected + h.heff) 6000) 28000) (h.vboost - 1000)
      ∃ t, exec (.boostUpdate n meas drop lim) s = .next t ∧ (t.ch n).vboost = v ∧
        (t.ch n).heff = h.heff ∧ (t.ch n).iLimit = (h.iLimit || lim) ∧ (t.ch n).boostMax = (h.boostMax || v == 28000) ∧
        t.regs = s.regs ∧ ∀ k, k ≠ n → t.ch k = s.ch k) ∧
    (∀ (v : Int) lim, s.measures n = true → isOutput h.cfg.mode = true →
      (h.rbCur = false → ∃ t, exec (.readbackComplete n v lim) s = .next t ∧ (t.ch n).rbV = (v, s.tt.clk) :: h.rbV ∧ (t.ch n).rbCur = true ∧
        (t.ch n).iLimit = (h.iLimit || lim) ∧ t.regs = s.regs) ∧
      (h.rbCur = true → h.cfg.mode = mHS → ∃ t, exec (.readbackComplete n v lim) s = .next t ∧ (t.ch n).rbI = (v, s.tt.clk) :: h.rbI ∧
        (t.ch n).rbCur = false ∧ t.regs = s.regs) ∧
      (∀ x y r, h.rbCur = true → h.cfg.mode = mVO → h.rbV = (x, y) :: r → 12200000 < x.natAbs → s.diagRuns n dShortLp = true →
        ∃ t, exec (.readbackComplete n v lim) s = .next t ∧ (t.ch n).diagNow.testBit dShortLp = true))

/-- R351. When a diagnostic becomes active its bit is set in DIAG_NOW, DIAG_TIME records the station time, SB(64 + n) is set, and
DIAG is 1 in the state word for as long as any diagnostic is active; VALUE stays, the state of the channel stays but for the
automatic entry of an ACTIVE output into REFUGE, and the channel does not become FAULTED. -/
def Obligations.DiagnosticBecomesActive : Prop :=
  ∀ (s : State) (n : Fin 16), s.chLive n = true → s.Settled → s.Quiet (64 + n.val) →
    let h := s.ch n
    (∀ b : Fin 11, s.diagRuns n b.val = true → h.diagNow.testBit b.val = false → ∃ t, exec (.diagActivation n b) s = .next t ∧
      (t.ch n).diagNow = h.diagNow ||| 2 ^ b.val ∧
      (s.depDue = false → (t.ch n).occurred = h.occurred ||| 2 ^ b.val ∧ (t.ch n).diagTime = s.tt.clk) ∧
      (s.depDue = true → (t.ch n).diagLate = some s.tt.clk) ∧
      t.isF (Fd.CH_STATE_DIAG n.val) = true ∧ t.bitF (Fd.SB_STICKY_BITS ((64 + n.val) / 32)) ((64 + n.val) % 32) = true ∧
      (t.ch n).value = h.value ∧ (∀ k, k ≠ n → t.ch k = s.ch k) ∧
      (let automatic := s.chSt n = 3 ∧ isOutput h.cfg.mode = true ∧ h.diagAuto.testBit b.val = true
       (¬automatic → t.chSt n = s.chSt n ∧ (t.ch n).target = h.target) ∧
       (automatic → t.chSt n = 5 ∧ (t.ch n).target = h.cfg.refugeValue h.target ∧ (t.ch n).rcAuto = true ∧ (t.ch n).rcCause = 2 ^ b.val))) ∧
    (∀ b : Fin 11, h.diagNow.testBit b.val = true → ∃ t, exec (.diagDeactivation n b) s = .next t ∧ (t.ch n).diagNow = h.diagNow - 2 ^ b.val ∧
      t.isF (Fd.CH_STATE_DIAG n.val) = decide (h.diagNow ≠ 2 ^ b.val) ∧ (t.ch n).value = h.value ∧ t.chSt n = s.chSt n ∧
      ∀ k, k ≠ n → t.ch k = s.ch k)

/-! ### The timetable and the manifest (R198 to R242) -/

/-- R199 to R207: the master sends station time; a node steps to the first time frame, locks at the eighth in a row within ±40 ns,
and then slews; another schedule, or a lower master whose time lies more than 10 µs off, is a merge by a step, which sets SB50
and SB63. A numbered node that hears none becomes master; a lost master means holdover with SB48, and the lowest node takes
office and sends the time. R205 to R208: the bound is 2 µs above the larger of the hops times the hop time and the volume over
300 MB/s, rounded up, and a period below it sets SB49; the master announces C of the same span, capped at T − 2 µs; a request
outside 20 µs to 1 s is refused, one below the bound is refused at the master, and another one is pending until the first
multiple of 1,024 at least 64 departures on, the next departure being the first of them. -/
def Obligations.TimePeriodAndBound : Prop :=
  (∀ (s : State) (p : Port) (f : Frame) (m : TimeMsg) (r : List (Option Port × Frame)), s.ttLive = true → s.Settled →
     (∀ k ∈ [40, 48, 49, 50, 52, 60, 63], s.Quiet k) →
     let cur := s.getF Fd.TT_MASTER_MASTER_ID
     let rx := m.time + s.getF (Fd.OV_DELAY_DELAY p.idx) / 10
     let off : Int := rx - s.tt.clk
     let same := m.period = s.period ∧ m.anchorE = s.tt.anchorE ∧ m.anchorT = s.tt.anchorT
     (s.isF Fd.TT_STAT_MASTER = true → s.numbered = true → s.inReset .orvia = false → ∃ t, exec .timeFrameSendTimer s = .next t ∧
       t.ov.oseq = (s.ov.oseq + 1) % 65536 ∧ t.tt = s.tt ∧ t.machs = s.machs) ∧
     (s.ov.inbox = (some p, f) :: r → f.body = .time m → s.numbered = true → m.master ≠ s.nodeId → m.master < 1023 →
       (s.locked = false → ¬(s.tt.heard = true ∧ cur < m.master ∧ s.reachable cur = true) → ∃ t, exec .timeFrameReceive s = .next t ∧ t.ov.inbox = r ∧ t.tt.clk = rx ∧
         t.tt.heard = true ∧ t.getF Fd.TT_MASTER_MASTER_ID = m.master ∧ t.getF Fd.TT_PERIOD_ACT_PERIOD = m.period % 2 ^ 20 ∧
         t.tt.anchorE = m.anchorE ∧ t.tt.anchorT = m.anchorT ∧
         t.locked = decide (s.tt.heard = true ∧ m.master = cur ∧ off.natAbs ≤ 40 ∧ 7 ≤ s.tt.okFrames)) ∧
       (s.locked = true → m.master = cur → (same ∨ s.isF Fd.TT_STAT_HOLDOVER = false) → ∃ t, exec .timeFrameReceive s = .next t ∧ t.ov.inbox = r ∧
         t.tt.clk = s.tt.clk ∧ t.tt.slew = off ∧ t.isF Fd.TT_STAT_HOLDOVER = false ∧ t.tt.nextE = s.tt.nextE ∧ t.tt.anchorE = s.tt.anchorE ∧
         t.tt.anchorT = s.tt.anchorT ∧ t.period = s.period ∧ t.getR Rg.TT_OFFSET = Word.ofInt off) ∧
       (s.locked = true → s.isF Fd.TT_STAT_HOLDOVER = false → m.master < cur → (10000 < off.natAbs ∨ m.period ≠ s.period ∧ s.tt.pend = none) →
         ∃ t, exec .timeFrameReceive s = .next t ∧ t.tt.clk = rx ∧ t.getF Fd.TT_MASTER_MASTER_ID = m.master ∧
           t.isF Fd.TT_STAT_MASTER = false ∧ t.getF Fd.TT_PERIOD_ACT_PERIOD = m.period % 2 ^ 20 ∧ t.tt.started = false ∧ t.rfx.log = [] ∧
           t.getF Fd.TT_CNT_STEPS = min (s.getF Fd.TT_CNT_STEPS + 1) 255 ∧ (∀ c, (t.prop c).state = .none) ∧
           t.bitF (Fd.SB_STICKY_BITS 1) 18 = true ∧ t.bitF (Fd.SB_STICKY_BITS 1) 31 = true) ∧
       (s.locked = true → s.isF Fd.TT_STAT_HOLDOVER = false → cur < m.master →
         exec .timeFrameReceive s = .next { s with ov := { s.ov with inbox := r } })) ∧
     (s.numbered = true → s.locked = false → s.tt.heard = false → ∃ t, exec .selfMasterTimeout s = .next t ∧ t.locked = true ∧
       t.isF Fd.TT_STAT_MASTER = true ∧ t.tt.clk = 0 ∧ t.getF Fd.TT_MASTER_MASTER_ID = s.nodeId ∧ t.tt.anchorE = 0 ∧ t.tt.anchorT = 0 ∧
       t.getF Fd.TT_PERIOD_ACT_PERIOD = s.getF Fd.TT_PERIOD_PERIOD) ∧
     (s.locked = true → s.isF Fd.TT_STAT_MASTER = false → s.isF Fd.TT_STAT_HOLDOVER = false →
       ∃ t, exec .masterLossTimeout s = .next t ∧ t.isF Fd.TT_STAT_HOLDOVER = true ∧ t.tt = { s.tt with slew := 0 } ∧
         t.bitF (Fd.SB_STICKY_BITS 1) 16 = true ∧ t.locked = true) ∧
     (s.locked = true → s.isF Fd.TT_STAT_MASTER = false → s.lowestId = true → (s.isF Fd.TT_STAT_HOLDOVER = true ∨ s.nodeId < cur) →
       ∃ t, exec .masterTakesOffice s = .next t ∧ t.isF Fd.TT_STAT_MASTER = true ∧ t.isF Fd.TT_STAT_HOLDOVER = false ∧
         t.getF Fd.TT_MASTER_MASTER_ID = s.nodeId ∧ t.tt.clk = s.tt.clk ∧ t.tt.slew = 0 ∧
         (s.inReset .orvia = false → t.ov.oseq = (s.ov.oseq + 1) % 65536))) ∧
  (∀ (s : State) (v : Word), s.ttLive = true → s.Settled → s.Quiet 49 → s.Quiet 52 →
     let p := v.toNat % 2 ^ 20
     let span := (max (3 * s.hops * s.hopTime) (100 * s.volume) + 29999) / 30000
     (s.locked = true → ∃ t, exec .boundComputation s = .next t ∧ t.getF Fd.TT_BOUND_BOUND = (2 + span) % 2 ^ 20 ∧
       t.isF Fd.TT_STAT_BOUND_VIOL = decide (s.period < 2 + span) ∧
       (s.period < 2 + span → t.bitF (Fd.SB_STICKY_BITS 1) 17 = true) ∧
       (s.isF Fd.TT_STAT_MASTER = true → t.getF Fd.TT_CLOSE_C = min span (s.period - 2) % 2 ^ 20 ∧
         t.isF Fd.TT_CLOSE_CAPPED = decide (s.period - 2 < span))) ∧
     (p < 20 ∨ 1000000 < p → exec (.ttPeriodWrite v) s = .next (s.onF Fd.TT_STAT_CHG_REFUSED)) ∧
     (20 ≤ p → p ≤ 1000000 → ∃ t, exec (.ttPeriodWrite v) s = .next t ∧ t.getF Fd.TT_PERIOD_PERIOD = p ∧
       t.getF Fd.TT_PERIOD_ACT_PERIOD = s.getF Fd.TT_PERIOD_ACT_PERIOD ∧
       (s.locked = false ∨ s.isF Fd.TT_STAT_MASTER = false → t.tt = s.tt) ∧
       (s.locked = true → s.isF Fd.TT_STAT_MASTER = true → s.tt.pend = none → p ≠ s.period →
         (p < 2 + span → t.tt = s.tt ∧ t.isF Fd.TT_STAT_CHG_REFUSED = true) ∧
         (2 + span ≤ p → ∃ e, t.tt = { s.tt with pend := some (p, e) } ∧ e % 1024 = 0 ∧ s.tt.nextE + 63 ≤ e ∧ e < s.tt.nextE + 63 + 1024 ∧
           t.isF Fd.TT_STAT_CHG_PENDING = true))))

/-- R154 to R157, R207, R210, R211, R229, R232, R251: a departure begins its epoch at its time; a period change that is due takes
effect; a commit that has become final is the target of its ACTIVE output; ARMED becomes ACTIVE, a configuration that has been
complete for 2 µs ARMED, a record of an OFF channel begins its configuration; an analogue input latches its newest result; in
STABLED a channel stays in its state, its target stays, and its requests wait. -/
def Obligations.Departures : Prop :=
  ∀ (s : State) (env : DepEnv), s.ttLive = true → s.Settled → s.locked = true → s.mani.resolved = true → s.mani.gathering = false →
    (∀ k, k < 128 → s.Quiet k) → (∀ c, vget s.mani.missed c = false) → s.tt.clk ≤ s.nextDep → s.tt.slew = 0 → s.rfx.atDep = [] →
    ∃ t, exec (.departure env) s = .next t ∧ t.tt.epoch = s.tt.nextE ∧ t.tt.nextE = s.tt.nextE + 1 ∧ t.tt.clk = s.nextDep ∧ t.tt.ran = true ∧
      t.tt.started = true ∧ t.mani.resolved = false ∧ (∀ c, (t.prop c).state = .none) ∧
      (s.isF Fd.TT_IRQ_EN_A = true → t.isF Fd.TT_IRQ_PEND_A = true) ∧ (s.isF Fd.TT_IRQ_EN_B = true → t.isF Fd.TT_IRQ_PEND_B = true) ∧
      (∀ q, s.tt.pend = some (q, s.tt.nextE) → t.getF Fd.TT_PERIOD_ACT_PERIOD = q % 2 ^ 20 ∧ t.tt.anchorE = s.tt.nextE ∧
        t.tt.anchorT = s.nextDep ∧ t.tt.pend = none) ∧
      ∀ n : Fin 16, s.chLive n = true → s.pwr.failing = false → (s.ch n).next.items = [] → (s.ch n).held.items = [] →
        env.strobeMiss.getLsbD n.val = false → env.skewDp.getLsbD n.val = false → env.skewDie.getLsbD n.val = false →
        (s.asleep = true → t.chSt n = s.chSt n ∧ (t.ch n).target = (s.ch n).target ∧ (t.ch n).next = (s.ch n).next) ∧
        (s.asleep = false → (s.ch n).next.record = none →
          (∀ w, s.chSt n = 3 → isOutput (s.ch n).cfg.mode = true → vget s.mani.apply n = some w → (s.ch n).hold = false → (s.ch n).trimCmd = 0 →
            (t.ch n).target = (s.ch n).cfg.clamp w ∧ t.chSt n = 3) ∧
          (∀ x, s.chSt n = 3 → isAnaIn (s.ch n).cfg.mode = true → (s.ch n).proc.find? (fun y => y.time < s.nextDep) = some x →
            (t.ch n).value = x.value ∧ (t.ch n).age = ageOf s.nextDep x.time) ∧
          (s.chSt n = 2 → (s.ch n).diagNow = 0 → t.chSt n = 3) ∧
          (∀ d, s.chSt n = 1 → s.refuge = false → (s.ch n).done = some d → 2000 ≤ s.now - d → t.chSt n = 2 ∧
            t.isF (Fd.CH_EVT_ARMED n.val) = true)) ∧
        (∀ x, s.asleep = false → s.chSt n = 0 → (s.ch n).next.record = some x → recMode x ≠ 0 → t.chSt n = 1 ∧
          t.getF (Fd.CH_STATE_MODE n.val) = recMode x % 16 ∧ (t.ch n).next = (s.ch n).later)

/-- R204, R232, R235 to R237: at the commit deadline a FINAL commit is resolved to its value, a CONDITIONAL one and a proposal that
was not committed are retracted, and an ACTIVE output of a triad that has committed misses, with SB57, where it has no FINAL
one; while the node has lost its lock, each announced period counts as a miss, but not in STABLED. -/
def Obligations.CommitsResolve : Prop :=
  ∀ (s : State), s.phase = .running → s.Settled → (∀ k ∈ [40, 57, 58, 60], s.Quiet k) →
    (s.ttLive = true → s.locked = true → s.mani.resolved = false → ∃ t, exec .commitDeadline s = .next t ∧ t.mani.resolved = true ∧
      (∀ c, vget t.mani.missed c = s.misses c) ∧ (∀ c, s.misses c = true → t.bitF (Fd.SB_STICKY_BITS 1) 25 = true) ∧
      ∀ c, ((s.prop c).state = .final → (s.prop c).keep = false → vget t.mani.apply c = some (s.prop c).value) ∧
        ((s.prop c).state ≠ .final → vget t.mani.apply c = none) ∧
        ((s.prop c).state = .conditional ∨ (s.prop c).state = .proposed →
          t.prop c = { s.prop c with state := .retracted, deps := [], cons := [] })) ∧
    (s.locked = false → s.asleep = true → exec .unlockedPeriodTick s = .next s) ∧
    (s.locked = false → s.asleep = false → s.tt.wasLocked = true → s.missLim > min (s.getF Fd.MANI_MISS_MISS_A + 1) 255 → s.missLim > min (s.getF Fd.MANI_MISS_MISS_B + 1) 255 →
      ∃ t, exec .unlockedPeriodTick s = .next t ∧ (∀ c, t.ch c = s.ch c) ∧
        t.getF Fd.MANI_MISS_MISS_A = (if s.wouldMiss .a = true then min (s.getF Fd.MANI_MISS_MISS_A + 1) 255 else s.getF Fd.MANI_MISS_MISS_A) ∧
        t.getF Fd.MANI_MISS_MISS_B = (if s.wouldMiss .b = true then min (s.getF Fd.MANI_MISS_MISS_B + 1) 255 else s.getF Fd.MANI_MISS_MISS_B))

/-- R214, R215, R225, R226: an entry for a subscription whose check is wrong sets SB54, one of another epoch SB55, and a good one
goes into its slot, header and all, and closes the manifest where it was the last, while one that is too long sets SB56; at the
close a slot whose entry has not come takes the newest one with the STALE flag, is counted, and sets SB53. R212, R223, R235,
R242: a word of an entry or of a subscription that is admitted is taken; one that is not sets CFG_BAD and SB62, as does a bank
size above 64 pages; a read of the retraction events removes the oldest. -/
def Obligations.ManifestEntriesAndRegisters : Prop :=
  (∀ (s : State) (p : Option Port) (f : Frame) (m : EntryMsg) (r : List (Option Port × Frame)) (q : SubRow),
     s.maniLive = true → s.Settled → s.Canon → (∀ k ∈ [40, 53, 54, 55, 56], s.Quiet k) → s.mani.subs = [q] →
     let rest : State := { s with ov := { s.ov with inbox := r } }
     let a := m.addrFlags.toNat % 2 ^ 52
     let slot := s.mani.base + s.mani.bank * s.mani.size + q.offset
     (s.ov.inbox = (p, f) :: r → f.body = .entry m → a = entryAddr q.node q.entry →
       (m.check ≠ entryCheck a m.addrFlags m.epoch m.payload →
         exec .entryReceive s = .next ((rest.incF Fd.MANI_CNT_DISC_BAD_CHECK).sticky 54)) ∧
       (m.check = entryCheck a m.addrFlags m.epoch m.payload →
         (s.mani.gathering = false ∨ m.epoch.toNat ≠ s.tt.epoch % 2 ^ 32 →
           exec .entryReceive s = .next ((rest.incF Fd.MANI_CNT_DISC_LATE).sticky 55)) ∧
         (s.mani.gathering = true → m.epoch.toNat = s.tt.epoch % 2 ^ 32 → q.maxlen < entryLen m → q.idx ∉ s.mani.arrived →
           exec .entryReceive s = .next (rest.sticky 56)) ∧
         (s.mani.gathering = true → m.epoch.toNat = s.tt.epoch % 2 ^ 32 → entryLen m ≤ q.maxlen → s.SramReady slot (slotBytes m).length →
           ∃ t, exec .entryReceive s = .next t ∧ t.ov.inbox = r ∧ lookupNat q.idx t.mani.newest = some m ∧ t.mani.gathering = false ∧
             t.mani.closed = some (s.tt.epoch, s.mani.bank) ∧ t.isF Fd.MANI_STAT_CLOSED = true ∧
             ∀ b, t.sramByte b = if slot ≤ b ∧ b < slot + (slotBytes m).length then (slotBytes m).getD (b - slot) 0 else s.sramByte b))) ∧
     (s.mani.gathering = true → entryLen m ≤ q.maxlen → lookupNat q.idx s.mani.newest = some m → a = entryAddr q.node q.entry → q.idx ∉ s.mani.arrived →
       s.SramReady slot (slotBytes m).length →
       let stale := { m with addrFlags := m.addrFlags ||| staleBit }
       ∃ t, exec .manifestClose s = .next t ∧ t.mani.gathering = false ∧ t.mani.closed = some (s.tt.epoch, s.mani.bank) ∧
         t.getF Fd.MANI_CNT_STALE_COUNT = min (s.getF Fd.MANI_CNT_STALE_COUNT + 1) (2 ^ 32 - 1) ∧ t.bitF (Fd.SB_STICKY_BITS 1) 21 = true ∧
         ∀ b, t.sramByte b = if slot ≤ b ∧ b < slot + (slotBytes m).length then (slotBytes stale).getD (b - slot) 0 else s.sramByte b)) ∧
  (∀ (s : State) (v : Word), s.maniLive = true → s.Settled → s.Quiet 62 →
     let refused := (s.onF Fd.MANI_STAT_CFG_BAD).sticky 62
     (∀ k : Fin 64, let w := v &&& 0xFFFF_FF03
       (s.pubOk k.val w (s.getR (Rg.PUB4 k.val)) = true → ∃ t, exec (.pubWrite k 0 v) s = .next t ∧ t.getR (Rg.PUB0 k.val) = w ∧
         ∀ j, j < 64 → j ≠ k.val → t.getR (Rg.PUB0 j) = s.getR (Rg.PUB0 j)) ∧
       (s.pubOk k.val w (s.getR (Rg.PUB4 k.val)) = false → exec (.pubWrite k 0 v) s = .next refused) ∧
       (s.pubOk k.val (s.pub0 k.val) v = true → ∃ t, exec (.pubWrite k 1 v) s = .next t ∧ t.getR (Rg.PUB4 k.val) = v) ∧
       (s.pubOk k.val (s.pub0 k.val) v = false → exec (.pubWrite k 1 v) s = .next refused)) ∧
     (∀ j : Fin 4096, let w := v &&& 0xBFFF_FFFF
       (s.subOk w (s.getR (Rg.SUB4 j.val)) = true → exec (.subWrite j 0 v) s = .next (s.setR (Rg.SUB0 j.val) w)) ∧
       (s.subOk w (s.getR (Rg.SUB4 j.val)) = false → exec (.subWrite j 0 v) s = .next refused) ∧
       (s.subOk (s.getR (Rg.SUB0 j.val)) (v &&& 0xFF) = true → exec (.subWrite j 1 v) s = .next (s.setR (Rg.SUB4 j.val) (v &&& 0xFF)))) ∧
     (let n := v.toNat / 4096 % 128
      (n ≤ 64 → exec (.maniBankSizeWrite v) s = .next (s.setF Fd.MANI_BANK_SIZE_SIZE n)) ∧
      (64 < n → exec (.maniBankSizeWrite v) s = .next refused)) ∧
     (∀ x l, s.mani.revtA = x :: l → exec (.maniRevtRead .a) s = .next ({ s with mani := { s.mani with revtA := l } }.setR Rg.MANI_REVT_A (l.headD 0))) ∧
     (∀ x l, s.mani.revtB = x :: l → exec (.maniRevtRead .b) s = .next ({ s with mani := { s.mani with revtB := l } }.setR Rg.MANI_REVT_B (l.headD 0))))

/-- R168, R169, R231, R235: a final notice frees the proposals that depend on its producer, and a CONDITIONAL one that depends on no
other is FINAL; a retraction retracts them and queues the event for their triad; a PEEK from another node is answered as of the
deadline and recorded, and a reply ends the PEEK of the machine that waits for it and records its dependency. -/
def Obligations.NoticesAndPeeks : Prop :=
  ∀ (s : State) (p : Option Port) (f : Frame) (r : List (Option Port × Frame)), s.maniLive = true → s.Settled → s.Quiet 60 →
    s.ov.inbox = (p, f) :: r →
    (∀ m : NoticeMsg, f.body = .notice m → s.hasEpoch = true → m.epoch = s.tt.nextE → (∀ c, s.depends f.src m.chan (some f.oseq) c = true → (s.prop c).cons = []) →
      (m.final = true → s.late = false → ∃ t, exec .finalNoticeReceive s = .next t ∧ t.ov.inbox = r ∧ ∀ c,
        t.prop c = if s.depends f.src m.chan (some f.oseq) c = true then
            (let d := (s.prop c).deps.filter fun y => !y.hit f.src m.chan (some f.oseq)
             if (s.prop c).state = .conditional ∧ d = [] then { s.prop c with state := .final, deps := [], cons := [] } else { s.prop c with deps := d })
          else s.prop c) ∧
      (m.final = false → ∃ t, exec .retractionReceive s = .next t ∧ t.ov.inbox = r ∧
        (∀ c, t.prop c = if s.depends f.src m.chan (some f.oseq) c = true then { s.prop c with state := .retracted, deps := [], cons := [] } else s.prop c) ∧
        ∀ c, s.chTriad c = some .a → (∀ d, s.depends f.src m.chan (some f.oseq) d = true ↔ d = c) → s.mani.revtA = [] →
          t.mani.revtA = [.ofNat (c.val + 16 + min (s.prop c).depth 15 * 2 ^ 8 + m.origNode % 1024 * 2 ^ 12 + m.origChan % 16 * 2 ^ 22
            + s.tt.epoch % 64 * 2 ^ 26)])) ∧
    (∀ (m : PeekReqMsg) (o : Port), f.body = .peekReq m → s.inReset .orvia = false → s.numbered = true → f.src ≠ s.nodeId → s.reachable f.src = true →
      s.outPort f.src = some o → 2 ≤ s.getF (Fd.OV_PSTAT_REV o.idx) → (s.port o).held = [] → (s.port o).unacked = [] →
      let c := Fin.ofNat 16 m.chan
      let open_ := if s.late = true then 3 else 1
      let code := match (s.prop c).state with
        | .none => 0
        | .proposed => open_
        | .conditional => open_
        | .final => 2
        | .retracted => 3
        | .doubt => 4
      let rep : PeekRepMsg :=
        { chan := m.chan, req := m.req, state := code, value := if code = 0 ∨ code = 3 then 0 else (s.prop c).value
          depth := (s.prop c).depth, dep := code == 1, epoch := s.tt.nextE % 65536 }
      s.bitF Fd.MANI_PEEKABLE_CH c.val = true → (s.prop c).keep = false → ∃ t, exec .peekReqReceive s = .next t ∧ t.ov.inbox = r ∧
        (t.port o).unacked = [((s.port o).txSeq, { dest := nodeBase f.src, src := s.nodeId, oseq := s.ov.oseq, body := .peekRep rep })] ∧
        (code = 1 → f.src ∈ (t.prop c).cons) ∧ (code ≠ 1 → t.prop c = s.prop c)) ∧
    (∀ (m : PeekRepMsg) (k : Mach) (rd : BitVec 5), f.body = .peekRep m → (s.mach k).wait = .peek rd f.src m.chan m.req →
      (∀ j, j ≠ k → (s.mach j).wait = .none) → rd ≠ 0 → rd.toNat % 2 = 0 →
      let code := m.state % 16
      let dep := m.dep && code == 1 && s.hasEpoch && m.epoch == s.tt.nextE % 65536
      ∃ t, exec .peekRepReceive s = .next t ∧ t.ov.inbox = r ∧
        (t.mach k).wait = .none ∧ t.rg k rd = (if code = 1 ∨ code = 2 ∨ code = 4 then m.value else 0) ∧
        t.rg k (rd + 1) = .ofNat (code + (if dep = true then 16 else 0) + m.epoch % 65536 * 65536) ∧
        (dep = true → (∀ x ∈ s.mani.notices, x.1 ≠ f.src ∨ x.2.1 ≠ m.chan) →
          { node := f.src, chan := m.chan, depth := m.depth, seq := f.oseq } ∈ t.peekedBy k) ∧ (dep = false → t.mani.peeked = s.mani.peeked) ∧
        (t.mach k).pc = (s.mach k).pc + 4 ∧ (∀ g, g ≠ rd → g ≠ rd + 1 → t.rg k g = s.rg k g) ∧ (∀ j, j ≠ k → t.mach j = s.mach j))

/-! ### Reflex lanes and whistles (R329 to R344, R377 to R379) -/

/-- R329, R334: each step of a RUNNING lane that waits for nothing runs the legal instruction at its PC: the arithmetic forms write
vd and go on to the next word, from word 63 to word 0, and BR goes to its target where its condition holds. R331, R332, R334,
R335, R344: RUN starts a lane that passes its checks at word 0 with nothing pending, or shows the check that fails; STOP stops
it; WAIT takes the lowest pending selector of its mask or waits for one, DELAY waits its count of cycles, NOTE shows its code,
ACT sends its action, HALT stops; copies that differ fault the lane with SB10. -/
def Obligations.LaneSteps : Prop :=
  (∀ (s : State) (n : Fin 16), s.rfxLive n = true → s.Settled → s.laneRuns n = true → (s.lane n).wait = .none →
     let pc := s.getF (Fd.RFX_STAT_PC n.val)
     let w := s.getR (Rg.RFX_PROG n.val pc)
     let op := w.toNat / 2 ^ 27
     let v := fun (lo : Nat) => s.getR (Rg.RFX_V n.val (w.toNat / 2 ^ lo % 8))
     let h := s.ch (Fin.ofNat 16 w.toNat)
     let go := fun (t : State) => t.setF (Fd.RFX_STAT_PC n.val) ((pc + 1) % 64)
     laneLegal w = true →
     (∀ p ∈ [(Instr.laneLdi n, 0x01, (w.extractLsb' 0 21).signExtend 32), (.laneLdh n, 0x02, (v 24 &&& 0xFFFF) ||| (w <<< 16)),
         (.laneAddi n, 0x03, v 21 + (w.extractLsb' 0 18).signExtend 32), (.laneAdd n, 0x04, v 21 + v 18), (.laneSub n, 0x05, v 21 - v 18),
         (.laneTime n, 0x0A, Word.ofNat s.tt.clk),
         (.laneRead n, 0x0C, match w.toNat / 16 % 8 with
           | 0 => h.value
           | 1 => if s.fastOn (Fin.ofNat 16 w.toNat) = true ∧ h.fastPast = true then 1 else 0
           | 2 => if h.level = true then 1 else 0
           | _ => h.count)],
       op = p.2.1 → exec p.1 s = .next (go (s.setR (Rg.RFX_V n.val (w.toNat / 2 ^ 24 % 8)) p.2.2))) ∧
     (op = 0x00 → exec (.laneNop n) s = .next (go s)) ∧
     (op = 0x06 → exec (.laneBr n) s = .next (
       if (match w.toNat / 2 ^ 24 % 8 with
         | 0 => decide (v 21 = v 18)
         | 1 => decide (v 21 ≠ v 18)
         | 2 => decide ((v 21).toInt < (v 18).toInt)
         | 3 => decide ((v 18).toInt ≤ (v 21).toInt)
         | 4 => decide ((v 21).toNat < (v 18).toNat)
         | 5 => decide ((v 18).toNat ≤ (v 21).toNat)
         | _ => true) = true then s.setF (Fd.RFX_STAT_PC n.val) (w.toNat % 64) else go s)) ∧
     (op = 0x0E → exec (.laneClr n) s = .next (go (s.setR (Rg.RFX_PEND n.val) (s.getR (Rg.RFX_PEND n.val) &&& ~~~(w &&& 0xFF)))))) ∧
  (∀ (s : State) (n : Fin 16), s.rfxLive n = true → s.Settled →
     let st := Fd.RFX_STAT_STATE n.val
     let pc := s.getF (Fd.RFX_STAT_PC n.val)
     let w := s.getR (Rg.RFX_PROG n.val pc)
     let op := w.toNat / 2 ^ 27
     let vd := w.toNat / 2 ^ 24 % 8
     let go := fun (t : State) => t.setF (Fd.RFX_STAT_PC n.val) ((pc + 1) % 64)
     let first := fun (mask i : Nat) => mask.testBit i = true ∧ s.bitF (Fd.RFX_PEND_PEND n.val) i = true ∧
       ∀ j < i, mask.testBit j = true → s.bitF (Fd.RFX_PEND_PEND n.val) j = false
     let took := fun (r i : Nat) (t : State) => t.getR (Rg.RFX_V n.val r) = .ofNat i ∧ t.bitF (Fd.RFX_PEND_PEND n.val) i = false ∧
       (∀ j, j ≠ i → t.bitF (Fd.RFX_PEND_PEND n.val) j = s.bitF (Fd.RFX_PEND_PEND n.val) j) ∧ (t.lane n).wait = .none ∧
       t.getF (Fd.RFX_STAT_PC n.val) = (pc + 1) % 64
     (s.getF st = 0 →
       (s.laneRefuse n = 0 → ∃ t, exec (.laneRun n) s = .next t ∧ t.getF st = 1 ∧ t.getF (Fd.RFX_STAT_PC n.val) = 0 ∧
         t.getR (Rg.RFX_PEND n.val) = 0 ∧ t.lane n = {} ∧ (∀ i, i < 8 → t.getR (Rg.RFX_V n.val i) = s.getR (Rg.RFX_V n.val i))) ∧
       (s.laneRefuse n ≠ 0 → exec (.laneRun n) s = .next (s.setF (Fd.RFX_STAT_REFUSE n.val) (s.laneRefuse n)))) ∧
     (∃ t, exec (.laneStop n) s = .next t ∧ t.getF st = 0 ∧ t.getF (Fd.RFX_STAT_FAULT n.val) = 0 ∧ t.lane n = {} ∧
       t.getR (Rg.RFX_PEND n.val) = s.getR (Rg.RFX_PEND n.val)) ∧
     (s.laneRuns n = true → s.Quiet 10 → ∃ t, exec (.laneCompareFault n) s = .next t ∧ t.getF st = 2 ∧ t.getF (Fd.RFX_STAT_FAULT n.val) = 1 ∧
       t.bitF (Fd.SB_STICKY_BITS 0) 10 = true ∧ t.lane n = {}) ∧
     (s.laneRuns n = true → (s.lane n).wait = .none → laneLegal w = true →
       (op = 0x07 →
         (∀ i, i < 8 → first (w.toNat % 256) i → ∃ t, exec (.laneWait n) s = .next t ∧ took vd i t) ∧
         ((∀ i, i < 8 → w.toNat.testBit i = true → s.bitF (Fd.RFX_PEND_PEND n.val) i = false) →
           exec (.laneWait n) s = .next (s.setLane n { wait := .event vd (w.toNat % 256) }))) ∧
       (∀ c ∈ [(Instr.laneActOff n, 0), (.laneActOn n, 1), (.laneActSet n, 2), (.laneActRefuge n, 3), (.laneActConv n, 4)],
         op = 0x08 → vd = c.2 → exec c.1 s = .next (go { s with rfx := { s.rfx with flight := s.rfx.flight ++ [
           { chan := Fin.ofNat 16 w.toNat, kind := c.2, value := s.getR (Rg.RFX_V n.val (w.toNat / 2 ^ 21 % 8)), latch := w.getLsbD 8
             lane := n, from_ := none, issued := s.now }] } })) ∧
       (op = 0x0B → exec (.laneDelay n) s = .next (s.setLane n { wait := .delay (s.now + 4 * (w.toNat % 2 ^ 21)) })) ∧
       (op = 0x0D → ∃ t, exec (.laneNote n) s = .next t ∧ t.getF (Fd.RFX_NOTE_CODE n.val) = w.toNat % 256 ∧
         t.isF (Fd.RFX_NOTE_PEND n.val) = true ∧ t.getF (Fd.RFX_STAT_PC n.val) = (pc + 1) % 64) ∧
       (op = 0x0F → exec (.laneHalt n) s = .next (s.offF st))) ∧
     (s.laneRuns n = true →
       (∀ r mask i, (s.lane n).wait = .event r mask → i < 8 → first mask i → ∃ t, exec (.laneWaitRelease n) s = .next t ∧ took r i t) ∧
       ∀ e, (s.lane n).wait = .delay e →
         (e ≤ s.now → exec (.laneDelayExpiry n) s = .next (go (s.setLane n {}))) ∧
         (s.now < e → s.Quiet 40 → ∃ t, exec (.laneDelayExpiry n) s = .next t ∧ t.now = e ∧ (t.lane n).wait = .none ∧
           t.getF (Fd.RFX_STAT_PC n.val) = (pc + 1) % 64 ∧ t.ov.whistleOut = s.ov.whistleOut.filter fun x => e < x.1)))

/-- R335 to R337: an action that reaches the die of an ACTIVE high-side switch sets it, holds it, and is counted and logged; of two
of one cycle the one that sets the de-energised level goes first, whatever the order, and the other is dropped; one that reaches
a channel that is not ACTIVE is dropped, but for the de-energised level in REFUGE; one that comes with the strobe of a departure
that is due waits for it. R339, R341, R342, R377, R378: a WHISTLE step queues a whistle with the station time and the next
sequence number for every LINKED port, and none in STABLED; one that is due leaves, and is counted at a port of revision 2.0; a
whistle that arrives is dropped as a duplicate, or with SB41 where its check fails, or is counted, forwarded while hops remain,
and sets the pending bit of the selectors that its receive entries name. -/
def Obligations.ActionsAndWhistles : Prop :=
  (∀ (s : State) (a : ActMsg), s.phase = .running → s.Settled → s.chLive a.chan = true →
     let h := s.ch a.chan
     let dropped := fun (t : State) (l : Fin 16) => t.getF (Fd.RFX_CNT_DROPPED l.val) = min (s.getF (Fd.RFX_CNT_DROPPED l.val) + 1) 65535
     h.cfg.mode = mHS → s.rfx.atDep = [] →
     (∀ r (v : Word), s.rfx.flight = a :: r → (∀ b ∈ r, b.chan ≠ a.chan ∨ b.issued ≠ a.issued) → s.depDue = false → s.chSt a.chan = 3 →
       (a.kind = 0 ∧ v = 0 ∨ a.kind = 1 ∧ v = 1 ∨ a.kind = 2 ∧ v = (if a.value.getLsbD 0 = true then 1 else 0)) →
       ∃ t, exec .reflexActionArrival s = .next t ∧ t.rfx.flight = r ∧ (t.ch a.chan).target = v ∧ (t.ch a.chan).hold = true ∧
         (t.ch a.chan).holdLatch = (a.latch || h.holdLatch) ∧
         t.getF (Fd.RFX_CNT_ACTIONS a.lane.val) = min (s.getF (Fd.RFX_CNT_ACTIONS a.lane.val) + 1) 65535 ∧
         t.rfx.log = s.rfx.log ++ [{ time := s.tt.clk, chan := a.chan.val, origin := if a.from_.isSome = true then 0x80 else a.lane.val
                                     node := a.from_.getD s.nodeId, value := v }] ∧ ∀ k, k ≠ a.chan → t.ch k = s.ch k) ∧
     (∀ r, s.rfx.flight = a :: r → (∀ b ∈ r, b.chan ≠ a.chan ∨ b.issued ≠ a.issued) → s.depDue = false → (s.chSt a.chan < 3 ∨ s.chSt a.chan = 5 ∧ a.kind = 1) →
       a.kind ≤ 2 → ∃ t, exec .reflexActionArrival s = .next t ∧ t.rfx.flight = r ∧ (t.ch a.chan).target = h.target ∧ dropped t a.lane ∧
         (t.ch a.chan).drops = min (h.drops + 1) (2 ^ 32 - 1)) ∧
     (∀ b : ActMsg, (s.rfx.flight = [a, b] ∨ s.rfx.flight = [b, a]) → b.chan = a.chan → b.issued = a.issued → a.kind = 0 → b.kind = 1 →
       s.depDue = false → s.chSt a.chan = 3 → ∃ t, exec .reflexActionArrival s = .next t ∧ t.rfx.flight = [] ∧ (t.ch a.chan).target = 0 ∧ dropped t b.lane) ∧
     (∀ r, s.rfx.flight = a :: r → (∀ b ∈ r, b.chan ≠ a.chan ∨ b.issued ≠ a.issued) → s.depDue = true → a.kind ≠ 4 →
       exec .reflexActionArrival s = .next { s with rfx := { s.rfx with flight := r, atDep := [a] } })) ∧
  (∀ (s : State) (n : Fin 16) (p : Port) (m : WhistleMsg), s.phase = .running → s.Settled → s.Quiet 40 → s.Quiet 41 →
     (let pc := s.getF (Fd.RFX_STAT_PC n.val)
      let w := s.getR (Rg.RFX_PROG n.val pc)
      let out : WhistleMsg := { seq := s.ov.whistleSeq, hops := w.toNat / 2 ^ 16 % 16, origin := s.nodeId, lane := n.val, code := w.toNat % 2 ^ 16
                                time := s.tt.clk % 2 ^ 32, check := 0 }
      s.inReset (.rfx n) = false → s.laneRuns n = true → (s.lane n).wait = .none → laneLegal w = true → w.toNat / 2 ^ 27 = 0x09 →
       (s.asleep = true → exec (.laneWhistle n) s = .next (s.setF (Fd.RFX_STAT_PC n.val) ((pc + 1) % 64))) ∧
       (s.asleep = false → 2 ≤ s.stationRev → s.linkedPorts ≠ [] → s.numbered = true → s.inReset .orvia = false →
         s.ov.whistleOut.length < 8 → ∃ t, exec (.laneWhistle n) s = .next t ∧
           t.ov.whistleOut.map (·.2) = s.ov.whistleOut.map (·.2) ++ [({ out with check := whistleCheck out }, s.linkedPorts)] ∧
           (∀ x ∈ t.ov.whistleOut, x ∉ s.ov.whistleOut → s.now + 40 ≤ x.1) ∧
           t.ov.whistleSeq = (s.ov.whistleSeq + 1) % 256 ∧ t.getF (Fd.RFX_STAT_PC n.val) = (pc + 1) % 64 ∧
           t.getF (Fd.RFX_WCNT_SENT n.val) = min (s.getF (Fd.RFX_WCNT_SENT n.val) + 1) 255)) ∧
     (∀ d e q, s.inReset (.rfx n) = false → s.laneRuns n = true → (s.lane n).wait = .delay e → s.now < e → s.ov.whistleOut = [(d, m, [q])] → d ≤ e →
       s.linked q = true → 2 ≤ s.getF (Fd.OV_PSTAT_REV q.idx) → ∃ t, exec (.laneDelayExpiry n) s = .next t ∧ t.ov.whistleOut = [] ∧
         t.getF (Fd.OV_WHISTLE_TX q.idx) = min (s.getF (Fd.OV_WHISTLE_TX q.idx) + 1) 255) ∧
     (s.ovLive = true → s.linked p = true →
       let twice := (∃ x ∈ s.ov.whistleIn, x.1 = m.origin ∧ x.2.1 = m.seq ∧ s.now - x.2.2 ≤ 8000) ∨ s.numbered = true ∧ m.origin = s.nodeId
       (twice → exec (.whistleReceive p m) s = .next (s.incF (Fd.OV_WHISTLE_DUP p.idx))) ∧
       (¬twice → s.linked p.other = false → m.check ≠ whistleCheck m →
         exec (.whistleReceive p m) s = .next ((s.incF (Fd.OV_WHISTLE_BAD p.idx)).sticky 41)) ∧
       (¬twice → m.check = whistleCheck m →
         ∃ t, exec (.whistleReceive p m) s = .next t ∧ t.getF (Fd.OV_WHISTLE_RX p.idx) = min (s.getF (Fd.OV_WHISTLE_RX p.idx) + 1) 255 ∧
           (m.origin, m.seq, s.now) ∈ t.ov.whistleIn ∧
           (s.linked p.other = true → 1 < m.hops → t.ov.whistleOut.map (·.2) = s.ov.whistleOut.map (·.2) ++ [({ m with hops := m.hops - 1 }, [p.other])]) ∧
           (∀ (l : Fin 16) (j : Nat), j < 4 → s.laneRuns l = true → s.isF (Fd.RFX_WRX0_EN l.val j) = true →
             s.getF (Fd.RFX_WRX0_CODE l.val j) = m.code → s.isF (Fd.RFX_WRX0_ANY_ORIGIN l.val j) = true → s.isF (Fd.RFX_WRX0_TYPE l.val j) = true →
             s.getF (Fd.RFX_SEL_KIND l.val (s.getF (Fd.RFX_WRX4_SEL l.val j))) = 6 →
             t.bitF (Fd.RFX_PEND_PEND l.val) (s.getF (Fd.RFX_WRX4_SEL l.val j)) = true))))

/-- R340. A WHISTLE that cannot be sent does not stall the lane, which goes on at its next word; nothing is sent; and it is counted
in RFX_WCNT for a cause that holds: a station revision below 2.0, no port trained (none is while ORVIA is in reset) or the node
unnumbered, the whistle queue full. In STABLED none is originated (R395). -/
def Obligations.WhistleThatCannotBeSent : Prop :=
  ∀ (s : State) (n : Fin 16), s.rfxLive n = true → s.Settled → s.laneRuns n = true → (s.lane n).wait = .none → s.asleep = false →
    let pc := s.getF (Fd.RFX_STAT_PC n.val)
    let w := s.getR (Rg.RFX_PROG n.val pc)
    let causes := [(decide (s.stationRev < 2), Fd.RFX_WCNT_REFUSED_VERSION n.val),
      (s.linkedPorts.isEmpty || !s.numbered || s.inReset .orvia, Fd.RFX_WCNT_NO_LINK n.val),
      (decide (8 ≤ s.ov.whistleOut.length), Fd.RFX_WCNT_QUEUE_FULL n.val)]
    laneLegal w = true → w.toNat / 2 ^ 27 = 0x09 → (∃ c ∈ causes, c.1 = true) →
    ∃ c ∈ causes, c.1 = true ∧ exec (.laneWhistle n) s = .next ((s.incF c.2).setF (Fd.RFX_STAT_PC n.val) ((pc + 1) % 64))

/-! ### Debug, roll call, registers (R190 to R192, R514, R540 to R549, R556 to R562) -/

/-- R38, R190 to R192, R547 to R549: while the pads of the port read inactive no command comes through, and with the debug lock fuse
set a command selects BYPASS; else, with no access that waits, the transport reads and writes aligned words of SRAM, attaches
and detaches, halts an attached triad and steps a halted one, and reads and writes its registers, a write going into the replay
log of an unsplit triad; an unaligned or an unmapped address, and a command out of its state, are answered so. -/
def Obligations.DebugPort : Prop :=
  ∀ (s : State) (t : Triad), s.phase = .running → s.Settled → s.Canon → s.dbg.stalled = none →
    let answer := fun (st d : Nat) (w : Word) (u : State) => u.dbg = { ir := 0x10, status := st, detail := d, data := w, stalled := none }
    let att := Fd.TR_DBG_ATTACHED t.idx
    let hlt := Fd.TR_STAT_HALTED t.idx
    (∃ u, exec .tapReset s = .next u ∧ u.dbg.ir = 2 ∧ ∀ x, u.isF (Fd.TR_DBG_ATTACHED x.idx) = false ∧ u.isF (Fd.TR_STAT_HALTED x.idx) = false ∧ (u.tri x).log = [] ∧
      (u.tri x).haltPend = false) ∧
    (∀ a v : Word, ∀ c ∈ [Instr.debugNop, .debugRead a, .debugWrite a v, .debugAttach t, .debugDetach t, .debugHalt t, .debugResume t, .debugStep t],
      (s.padsOff = true → exec c s = .next s) ∧
      (s.padsOff = false → s.otp.dbgLock = true → exec c s = .next { s with dbg := { s.dbg with ir := 0x10 } })) ∧
    (s.padsOff = false → s.otp.dbgLock = false →
    exec .debugNop s = .next { s with dbg := { s.dbg with ir := 0x10 } } ∧
    (∀ a v : Word, a.toNat % 4 = 0 → s.SramReady a.toNat 4 →
      (s.Quiet 21 → ∃ u, exec (.debugRead a) s = .next u ∧ answer 0 0 (.ofNat (s.sramRead a.toNat 4)) u ∧ u.sram = s.sram) ∧
      (∃ u, exec (.debugWrite a v) s = .next u ∧ answer 0 0 0 u ∧ u.sramRead a.toNat 4 = v.toNat ∧
        ∀ b, b < a.toNat ∨ a.toNat + 4 ≤ b → u.sramByte b = s.sramByte b)) ∧
    (∀ a v : Word, ∀ c ∈ [Instr.debugRead a, .debugWrite a v],
      (a.toNat % 4 ≠ 0 → exec c s = .next { s with dbg := { ir := 0x10, status := 3, detail := 0x300 } }) ∧
      (a.toNat % 4 = 0 → mapped a.toNat 4 = false → exec c s = .next { s with dbg := { ir := 0x10, status := 3, detail := 0x401 } })) ∧
    (∃ u, exec (.debugAttach t) s = .next u ∧ answer 0 0 0 u ∧ u.isF att = true ∧ u.machs = s.machs) ∧
    (∃ u, exec (.debugDetach t) s = .next u ∧ answer 0 0 0 u ∧ u.isF att = false ∧ u.isF hlt = false ∧ (u.tri t).log = []) ∧
    (∃ u, exec (.debugResume t) s = .next u ∧ answer 0 0 0 u ∧ u.isF hlt = false ∧ (u.tri t).log = [] ∧ (u.tri t).haltPend = false) ∧
    (s.isF att = true → ∃ u, exec (.debugHalt t) s = .next u ∧ answer 0 0 0 u ∧ u.machs = s.machs ∧
      ((s.tri t).phase = .normal → u.isF hlt = true) ∧ ((s.tri t).phase ≠ .normal → (u.tri t).haltPend = true)) ∧
    (s.isF att = false → ∀ c ∈ [Instr.debugHalt t, .debugStep t], exec c s = .next { s with dbg := { ir := 0x10, status := 2 } }) ∧
    (s.isF att = true → s.isF hlt = true →
      (∃ u, exec (.debugStep t) s = .next u ∧ answer 0 0 0 u ∧ (u.tri t).log = [] ∧ u.isF hlt = true ∧
        (u.mach (t.mach 0)).step = true ∧ (s.split t = true → (u.mach (t.mach 1)).step = true)) ∧
      (∀ (x : Bool) (code : BitVec 8) (v : Word),
        let m := t.mach (if s.split t = true ∧ x = true then 1 else 0)
        (∀ g : BitVec 5, code.toNat = g.toNat → ∃ u, exec (.debugRegRead t x code) s = .next u ∧ answer 0 0 (s.rg m g) u ∧ u.machs = s.machs) ∧
        (code = 64 → ∃ u, exec (.debugRegRead t x code) s = .next u ∧ answer 0 0 (s.mach m).pc u ∧ u.machs = s.machs) ∧
        ((s.split t = true ∨ (s.tri t).log.length < 256) →
          (∀ g : BitVec 5, code.toNat = g.toNat → ∃ u, exec (.debugRegWrite t x code v) s = .next u ∧ answer 0 0 0 u ∧
            u.rg m g = (if g = 0 then 0 else v) ∧ (∀ r, r ≠ g → u.rg m r = s.rg m r) ∧ (u.mach m).pc = (s.mach m).pc ∧
            (u.tri t).log = (if s.split t = true then (s.tri t).log else (s.tri t).log ++ [(code.toNat, v)])) ∧
          (code = 64 → ∃ u, exec (.debugRegWrite t x code v) s = .next u ∧ answer 0 0 0 u ∧ (u.mach m).pc = v &&& 0xFFFF_FFFC ∧
            ∀ r, u.rg m r = s.rg m r)) ∧
        (s.split t = false → 256 ≤ (s.tri t).log.length → code.toNat < 32 → ∃ u, exec (.debugRegWrite t x code v) s = .next u ∧
          answer 4 0 0 u ∧ u.isF (Fd.TR_DBG_LOG_FULL t.idx) = true ∧ u.machs = s.machs))))

/-- R540 to R545, R551: a trigger latches a snapshot with its source and the next roll-call count, or, while one is held, is counted
as an overrun with SB125, unless that one was latched at the same edge by another source: then the two are one latch, named
after the first of them; RELEASE and CANCEL; a ROLLCALL frame schedules the station roll call where none is scheduled and its
time is to come, and at that time a locked node latches under its ID. -/
def Obligations.RollCalls : Prop :=
  ∀ (s : State), s.phase = .running → s.Settled → s.Quiet 40 → s.Quiet 125 →
    (∀ e, s.padsRead = true → s.isF Fd.RC_CTRL_PAD_EN = true → s.isF Fd.RC_CTRL_PAD_EDGE = !e →
      (s.isF Fd.RC_STAT_HELD = false → ∃ t, exec (.rollcallPadEdge e) s = .next t ∧
        t.isF Fd.RC_STAT_HELD = true ∧ t.getF Fd.RC_STAT_SRC = 1 ∧ t.rc.count = (s.rc.count + 1) % 2 ^ 16 ∧ t.rc.snap.isSome = true) ∧
      (s.isF Fd.RC_STAT_HELD = true → (∀ x, s.rc.snap = some x → x.edge ≠ s.now ∨ x.src = 1) →
        exec (.rollcallPadEdge e) s = .next ((s.incF Fd.RC_STAT_OVERRUN).sticky 125)) ∧
      (s.isF Fd.RC_STAT_HELD = true → ∀ x, s.rc.snap = some x → x.edge = s.now →
        (x.src = 3 ∨ x.src = 4 → exec (.rollcallPadEdge e) s = .next s) ∧
        (x.src = 2 ∨ x.src = 5 → ∃ t, exec (.rollcallPadEdge e) s = .next t ∧ t.isF Fd.RC_STAT_HELD = true ∧ t.getF Fd.RC_STAT_SRC = 1 ∧
          t.rc = { s.rc with snap := some { x with src := 1, sbSrc := 0 } } ∧ t.getF Fd.RC_STAT_OVERRUN = s.getF Fd.RC_STAT_OVERRUN))) ∧
    (s.isF Fd.RC_STAT_HELD = false → ∃ t, exec .rcTrigger s = .next t ∧ t.isF Fd.RC_STAT_HELD = true ∧ t.getF Fd.RC_STAT_SRC = 5 ∧
      t.rc.count = (s.rc.count + 1) % 2 ^ 16 ∧ t.rc.snap.map (·.time) = some s.tt.clk ∧ t.machs = s.machs) ∧
    (s.isF Fd.RC_STAT_HELD = true → (∀ x, s.rc.snap = some x → x.edge ≠ s.now ∨ x.src = 5) →
      exec .rcTrigger s = .next ((s.incF Fd.RC_STAT_OVERRUN).sticky 125)) ∧
    (s.isF Fd.RC_STAT_HELD = true → ∀ x, s.rc.snap = some x → x.edge = s.now → 1 ≤ x.src → x.src ≤ 4 → exec .rcTrigger s = .next s) ∧
    exec .rcRelease s = .next (s.offF Fd.RC_STAT_HELD) ∧ exec .rcCancel s = .next (s.offF Fd.RC_STAT_SCHEDULED) ∧
    (∀ p (f : Frame) r at_ id, s.ov.inbox = (p, f) :: r → f.body = .rollcall at_ id →
      let rest : State := { s with ov := { s.ov with inbox := r } }
      (s.isF Fd.RC_CTRL_STATION_EN = false ∨ s.numbered = false → exec .rollcallFrameReceive s = .next rest) ∧
      (s.isF Fd.RC_CTRL_STATION_EN = true → s.numbered = true →
        (s.isF Fd.RC_STAT_SCHEDULED = true → exec .rollcallFrameReceive s = .next (rest.onF Fd.RC_STAT_SCHED_DROP)) ∧
        (s.isF Fd.RC_STAT_SCHEDULED = false → at_ ≤ s.tt.clk → exec .rollcallFrameReceive s = .next (rest.onF Fd.RC_STAT_MISSED)) ∧
        (s.isF Fd.RC_STAT_SCHEDULED = false → s.tt.clk < at_ → ∃ t, exec .rollcallFrameReceive s = .next t ∧ t.ov.inbox = r ∧
          t.isF Fd.RC_STAT_SCHEDULED = true ∧ t.getR Rg.RC_SCHED_LO = .ofNat at_ ∧ t.getR Rg.RC_SCHED_HI = .ofNat (at_ / 2 ^ 32) ∧
          t.getF Fd.RC_SCHED_ID_ID = id % 2 ^ 16 ∧ t.getF Fd.RC_SCHED_ID_ORIGIN = f.src % 2 ^ 10))) ∧
    (s.isF Fd.RC_STAT_SCHEDULED = true → s.tt.clk ≤ s.rollTime → s.tt.slew = 0 → ∃ t,
      exec .stationRollcallTime s = .next t ∧ t.isF Fd.RC_STAT_SCHEDULED = false ∧ t.tt.clk = s.rollTime ∧
      (s.isF Fd.TT_STAT_LOCKED = true → s.isF Fd.RC_STAT_HELD = false → t.isF Fd.RC_STAT_HELD = true ∧ t.getF Fd.RC_STAT_SRC = 4 ∧
        t.rc.snap.map (fun x => (x.time, x.rollId)) = some (s.rollTime, s.getF Fd.RC_SCHED_ID_ID)) ∧
      (s.isF Fd.TT_STAT_LOCKED = true → s.isF Fd.RC_STAT_HELD = true → (∀ x, s.rc.snap = some x → x.edge < s.now ∨ x.src = 4) →
        t.bitF (Fd.SB_STICKY_BITS 3) 29 = true ∧ t.rc.snap = s.rc.snap) ∧
      (s.isF Fd.TT_STAT_LOCKED = false → t.isF Fd.RC_STAT_MISSED = true ∧ t.rc.snap = s.rc.snap))

/-- R10, R514, R556, R559, R562: a read of a latching register latches the upper half of the same instant; a write puts its bits
into the RW fields, clears the W1C fields where it is 1, and does nothing where there is no register; `RFG_REL` releases the
module from refuge for a SAFETY session of another node that gives the challenge, and shows how it answered any other. -/
def Obligations.RegisterAccesses : Prop :=
  ∀ (s : State) (v : Word) (by_ : Agent), s.phase = .running → s.Settled →
    (s.inReset .ttbl = false →
      exec (.latchingLoRead .ttTime) s = .next (s.setR Rg.TT_TIME_HI (.ofNat (s.tt.clk / 2 ^ 32))) ∧
      exec (.latchingLoRead .ttEpoch) s = .next (s.setR Rg.TT_EPOCH_HI (.ofNat (s.tt.epoch / 2 ^ 32))) ∧
      (∃ t, exec (.registerWrite by_ 0x4007_0038 v) s = .next t ∧ t.getF Fd.TT_IRQ_VEC = v.toNat % 64 ∧ t.isF Fd.TT_IRQ_EN_A = v.getLsbD 6 ∧
        t.isF Fd.TT_IRQ_EN_B = v.getLsbD 7 ∧ t.isF Fd.TT_IRQ_PEND_A = (s.isF Fd.TT_IRQ_PEND_A && !v.getLsbD 8) ∧
        t.isF Fd.TT_IRQ_PEND_B = (s.isF Fd.TT_IRQ_PEND_B && !v.getLsbD 9) ∧ ∀ r : Rg, r.addr ≠ 0x4007_0038 → t.getR r = s.getR r) ∧
      exec (.registerWrite by_ 0x4007_0040 v) s = .next s) ∧
    exec (.latchingLoRead .sbFirst) s = .next (s.setR Rg.SB_FIRST_TIME_HI (.ofNat (s.sb.firstTime / 2 ^ 32))) ∧
    (∀ m, exec (.rfgRelWrite (.core m) v) s = .next (s.onF Fd.RFG_LAST_CORE)) ∧
    (∀ sid cls node, node < 1024 →
      (s.refuge = true → cls = 1 → node ≠ s.nodeId → v = s.getR Rg.RFG_CHAL → ∃ t, exec (.rfgRelWrite (.session sid cls node) v) s = .next t ∧
        t.refuge = false ∧ t.getF Fd.RFG_LAST_RESULT = 1 ∧ t.getF Fd.RFG_LAST_NODE = node ∧ t.isF Fd.RFG_LAST_CORE = false ∧
        t.getF Fd.TL_CONSEC_COUNT = 0 ∧ t.getF Fd.MANI_MISS_MISS_A = 0 ∧ t.getF Fd.MANI_MISS_MISS_B = 0 ∧ ∀ n, t.ch n = s.ch n) ∧
      (s.refuge = true → (cls ≠ 1 ∨ node = s.nodeId ∨ v ≠ s.getR Rg.RFG_CHAL) → ∃ t, exec (.rfgRelWrite (.session sid cls node) v) s = .next t ∧
        t.refuge = true ∧ t.getF Fd.RFG_LAST_RESULT = 2 ∧ t.getF Fd.RFG_LAST_NODE = node) ∧
      (s.refuge = false → ∃ t, exec (.rfgRelWrite (.session sid cls node) v) s = .next t ∧ t.refuge = false ∧ t.getF Fd.RFG_LAST_RESULT = 3))
end

