-- ==== Sys2Proof/Laws/State.lean ====
section
/-! SUPPORT. What each named update of the state leaves as it is: one lemma for each field of the state. -/

namespace Sys2Proof.Machine

variable (s : State)

/-! ### setR -/

@[simp] theorem setR_now (r : Rg) (w : Word) : (s.setR r w).now = s.now := rfl
@[simp] theorem setR_phase (r : Rg) (w : Word) : (s.setR r w).phase = s.phase := rfl
@[simp] theorem setR_pwr (r : Rg) (w : Word) : (s.setR r w).pwr = s.pwr := rfl
@[simp] theorem setR_otp (r : Rg) (w : Word) : (s.setR r w).otp = s.otp := rfl
@[simp] theorem setR_straps (r : Rg) (w : Word) : (s.setR r w).straps = s.straps := rfl
@[simp] theorem setR_image (r : Rg) (w : Word) : (s.setR r w).image = s.image := rfl
@[simp] theorem setR_rst (r : Rg) (w : Word) : (s.setR r w).rst = s.rst := rfl
@[simp] theorem setR_slp (r : Rg) (w : Word) : (s.setR r w).slp = s.slp := rfl
@[simp] theorem setR_machs (r : Rg) (w : Word) : (s.setR r w).machs = s.machs := rfl
@[simp] theorem setR_triads (r : Rg) (w : Word) : (s.setR r w).triads = s.triads := rfl
@[simp] theorem setR_sram (r : Rg) (w : Word) : (s.setR r w).sram = s.sram := rfl
@[simp] theorem setR_sramMark (r : Rg) (w : Word) : (s.setR r w).sramMark = s.sramMark := rfl
@[simp] theorem setR_sramErr (r : Rg) (w : Word) : (s.setR r w).sramErr = s.sramErr := rfl
@[simp] theorem setR_flash (r : Rg) (w : Word) : (s.setR r w).flash = s.flash := rfl
@[simp] theorem setR_flashErr (r : Rg) (w : Word) : (s.setR r w).flashErr = s.flashErr := rfl
@[simp] theorem setR_flashFlux (r : Rg) (w : Word) : (s.setR r w).flashFlux = s.flashFlux := rfl
@[simp] theorem setR_sb (r : Rg) (w : Word) : (s.setR r w).sb = s.sb := rfl
@[simp] theorem setR_tl (r : Rg) (w : Word) : (s.setR r w).tl = s.tl := rfl
@[simp] theorem setR_tt (r : Rg) (w : Word) : (s.setR r w).tt = s.tt := rfl
@[simp] theorem setR_mani (r : Rg) (w : Word) : (s.setR r w).mani = s.mani := rfl
@[simp] theorem setR_chs (r : Rg) (w : Word) : (s.setR r w).chs = s.chs := rfl
@[simp] theorem setR_lanes (r : Rg) (w : Word) : (s.setR r w).lanes = s.lanes := rfl
@[simp] theorem setR_rfx (r : Rg) (w : Word) : (s.setR r w).rfx = s.rfx := rfl
@[simp] theorem setR_ov (r : Rg) (w : Word) : (s.setR r w).ov = s.ov := rfl
@[simp] theorem setR_ss (r : Rg) (w : Word) : (s.setR r w).ss = s.ss := rfl
@[simp] theorem setR_sh (r : Rg) (w : Word) : (s.setR r w).sh = s.sh := rfl
@[simp] theorem setR_shTurn (r : Rg) (w : Word) : (s.setR r w).shTurn = s.shTurn := rfl
@[simp] theorem setR_pool (r : Rg) (w : Word) : (s.setR r w).pool = s.pool := rfl
@[simp] theorem setR_pt (r : Rg) (w : Word) : (s.setR r w).pt = s.pt := rfl
@[simp] theorem setR_cs (r : Rg) (w : Word) : (s.setR r w).cs = s.cs := rfl
@[simp] theorem setR_spx (r : Rg) (w : Word) : (s.setR r w).spx = s.spx := rfl
@[simp] theorem setR_rc (r : Rg) (w : Word) : (s.setR r w).rc = s.rc := rfl
@[simp] theorem setR_dbg (r : Rg) (w : Word) : (s.setR r w).dbg = s.dbg := rfl
@[simp] theorem setR_nextReq (r : Rg) (w : Word) : (s.setR r w).nextReq = s.nextReq := rfl
@[simp] theorem setR_freeIdx (r : Rg) (w : Word) : (s.setR r w).freeIdx = s.freeIdx := rfl
@[simp] theorem setR_pending (r : Rg) (w : Word) : (s.setR r w).pending = s.pending := rfl

/-! ### setF -/

@[simp] theorem setF_now (f : Fd) (v : Nat) : (s.setF f v).now = s.now := rfl
@[simp] theorem setF_phase (f : Fd) (v : Nat) : (s.setF f v).phase = s.phase := rfl
@[simp] theorem setF_pwr (f : Fd) (v : Nat) : (s.setF f v).pwr = s.pwr := rfl
@[simp] theorem setF_otp (f : Fd) (v : Nat) : (s.setF f v).otp = s.otp := rfl
@[simp] theorem setF_straps (f : Fd) (v : Nat) : (s.setF f v).straps = s.straps := rfl
@[simp] theorem setF_image (f : Fd) (v : Nat) : (s.setF f v).image = s.image := rfl
@[simp] theorem setF_rst (f : Fd) (v : Nat) : (s.setF f v).rst = s.rst := rfl
@[simp] theorem setF_slp (f : Fd) (v : Nat) : (s.setF f v).slp = s.slp := rfl
@[simp] theorem setF_machs (f : Fd) (v : Nat) : (s.setF f v).machs = s.machs := rfl
@[simp] theorem setF_triads (f : Fd) (v : Nat) : (s.setF f v).triads = s.triads := rfl
@[simp] theorem setF_sram (f : Fd) (v : Nat) : (s.setF f v).sram = s.sram := rfl
@[simp] theorem setF_sramMark (f : Fd) (v : Nat) : (s.setF f v).sramMark = s.sramMark := rfl
@[simp] theorem setF_sramErr (f : Fd) (v : Nat) : (s.setF f v).sramErr = s.sramErr := rfl
@[simp] theorem setF_flash (f : Fd) (v : Nat) : (s.setF f v).flash = s.flash := rfl
@[simp] theorem setF_flashErr (f : Fd) (v : Nat) : (s.setF f v).flashErr = s.flashErr := rfl
@[simp] theorem setF_flashFlux (f : Fd) (v : Nat) : (s.setF f v).flashFlux = s.flashFlux := rfl
@[simp] theorem setF_sb (f : Fd) (v : Nat) : (s.setF f v).sb = s.sb := rfl
@[simp] theorem setF_tl (f : Fd) (v : Nat) : (s.setF f v).tl = s.tl := rfl
@[simp] theorem setF_tt (f : Fd) (v : Nat) : (s.setF f v).tt = s.tt := rfl
@[simp] theorem setF_mani (f : Fd) (v : Nat) : (s.setF f v).mani = s.mani := rfl
@[simp] theorem setF_chs (f : Fd) (v : Nat) : (s.setF f v).chs = s.chs := rfl
@[simp] theorem setF_lanes (f : Fd) (v : Nat) : (s.setF f v).lanes = s.lanes := rfl
@[simp] theorem setF_rfx (f : Fd) (v : Nat) : (s.setF f v).rfx = s.rfx := rfl
@[simp] theorem setF_ov (f : Fd) (v : Nat) : (s.setF f v).ov = s.ov := rfl
@[simp] theorem setF_ss (f : Fd) (v : Nat) : (s.setF f v).ss = s.ss := rfl
@[simp] theorem setF_sh (f : Fd) (v : Nat) : (s.setF f v).sh = s.sh := rfl
@[simp] theorem setF_shTurn (f : Fd) (v : Nat) : (s.setF f v).shTurn = s.shTurn := rfl
@[simp] theorem setF_pool (f : Fd) (v : Nat) : (s.setF f v).pool = s.pool := rfl
@[simp] theorem setF_pt (f : Fd) (v : Nat) : (s.setF f v).pt = s.pt := rfl
@[simp] theorem setF_cs (f : Fd) (v : Nat) : (s.setF f v).cs = s.cs := rfl
@[simp] theorem setF_spx (f : Fd) (v : Nat) : (s.setF f v).spx = s.spx := rfl
@[simp] theorem setF_rc (f : Fd) (v : Nat) : (s.setF f v).rc = s.rc := rfl
@[simp] theorem setF_dbg (f : Fd) (v : Nat) : (s.setF f v).dbg = s.dbg := rfl
@[simp] theorem setF_nextReq (f : Fd) (v : Nat) : (s.setF f v).nextReq = s.nextReq := rfl
@[simp] theorem setF_freeIdx (f : Fd) (v : Nat) : (s.setF f v).freeIdx = s.freeIdx := rfl
@[simp] theorem setF_pending (f : Fd) (v : Nat) : (s.setF f v).pending = s.pending := rfl

/-! ### onF -/

@[simp] theorem onF_now (f : Fd) : (s.onF f).now = s.now := rfl
@[simp] theorem onF_phase (f : Fd) : (s.onF f).phase = s.phase := rfl
@[simp] theorem onF_pwr (f : Fd) : (s.onF f).pwr = s.pwr := rfl
@[simp] theorem onF_otp (f : Fd) : (s.onF f).otp = s.otp := rfl
@[simp] theorem onF_straps (f : Fd) : (s.onF f).straps = s.straps := rfl
@[simp] theorem onF_image (f : Fd) : (s.onF f).image = s.image := rfl
@[simp] theorem onF_rst (f : Fd) : (s.onF f).rst = s.rst := rfl
@[simp] theorem onF_slp (f : Fd) : (s.onF f).slp = s.slp := rfl
@[simp] theorem onF_machs (f : Fd) : (s.onF f).machs = s.machs := rfl
@[simp] theorem onF_triads (f : Fd) : (s.onF f).triads = s.triads := rfl
@[simp] theorem onF_sram (f : Fd) : (s.onF f).sram = s.sram := rfl
@[simp] theorem onF_sramMark (f : Fd) : (s.onF f).sramMark = s.sramMark := rfl
@[simp] theorem onF_sramErr (f : Fd) : (s.onF f).sramErr = s.sramErr := rfl
@[simp] theorem onF_flash (f : Fd) : (s.onF f).flash = s.flash := rfl
@[simp] theorem onF_flashErr (f : Fd) : (s.onF f).flashErr = s.flashErr := rfl
@[simp] theorem onF_flashFlux (f : Fd) : (s.onF f).flashFlux = s.flashFlux := rfl
@[simp] theorem onF_sb (f : Fd) : (s.onF f).sb = s.sb := rfl
@[simp] theorem onF_tl (f : Fd) : (s.onF f).tl = s.tl := rfl
@[simp] theorem onF_tt (f : Fd) : (s.onF f).tt = s.tt := rfl
@[simp] theorem onF_mani (f : Fd) : (s.onF f).mani = s.mani := rfl
@[simp] theorem onF_chs (f : Fd) : (s.onF f).chs = s.chs := rfl
@[simp] theorem onF_lanes (f : Fd) : (s.onF f).lanes = s.lanes := rfl
@[simp] theorem onF_rfx (f : Fd) : (s.onF f).rfx = s.rfx := rfl
@[simp] theorem onF_ov (f : Fd) : (s.onF f).ov = s.ov := rfl
@[simp] theorem onF_ss (f : Fd) : (s.onF f).ss = s.ss := rfl
@[simp] theorem onF_sh (f : Fd) : (s.onF f).sh = s.sh := rfl
@[simp] theorem onF_shTurn (f : Fd) : (s.onF f).shTurn = s.shTurn := rfl
@[simp] theorem onF_pool (f : Fd) : (s.onF f).pool = s.pool := rfl
@[simp] theorem onF_pt (f : Fd) : (s.onF f).pt = s.pt := rfl
@[simp] theorem onF_cs (f : Fd) : (s.onF f).cs = s.cs := rfl
@[simp] theorem onF_spx (f : Fd) : (s.onF f).spx = s.spx := rfl
@[simp] theorem onF_rc (f : Fd) : (s.onF f).rc = s.rc := rfl
@[simp] theorem onF_dbg (f : Fd) : (s.onF f).dbg = s.dbg := rfl
@[simp] theorem onF_nextReq (f : Fd) : (s.onF f).nextReq = s.nextReq := rfl
@[simp] theorem onF_freeIdx (f : Fd) : (s.onF f).freeIdx = s.freeIdx := rfl
@[simp] theorem onF_pending (f : Fd) : (s.onF f).pending = s.pending := rfl

/-! ### offF -/

@[simp] theorem offF_now (f : Fd) : (s.offF f).now = s.now := rfl
@[simp] theorem offF_phase (f : Fd) : (s.offF f).phase = s.phase := rfl
@[simp] theorem offF_pwr (f : Fd) : (s.offF f).pwr = s.pwr := rfl
@[simp] theorem offF_otp (f : Fd) : (s.offF f).otp = s.otp := rfl
@[simp] theorem offF_straps (f : Fd) : (s.offF f).straps = s.straps := rfl
@[simp] theorem offF_image (f : Fd) : (s.offF f).image = s.image := rfl
@[simp] theorem offF_rst (f : Fd) : (s.offF f).rst = s.rst := rfl
@[simp] theorem offF_slp (f : Fd) : (s.offF f).slp = s.slp := rfl
@[simp] theorem offF_machs (f : Fd) : (s.offF f).machs = s.machs := rfl
@[simp] theorem offF_triads (f : Fd) : (s.offF f).triads = s.triads := rfl
@[simp] theorem offF_sram (f : Fd) : (s.offF f).sram = s.sram := rfl
@[simp] theorem offF_sramMark (f : Fd) : (s.offF f).sramMark = s.sramMark := rfl
@[simp] theorem offF_sramErr (f : Fd) : (s.offF f).sramErr = s.sramErr := rfl
@[simp] theorem offF_flash (f : Fd) : (s.offF f).flash = s.flash := rfl
@[simp] theorem offF_flashErr (f : Fd) : (s.offF f).flashErr = s.flashErr := rfl
@[simp] theorem offF_flashFlux (f : Fd) : (s.offF f).flashFlux = s.flashFlux := rfl
@[simp] theorem offF_sb (f : Fd) : (s.offF f).sb = s.sb := rfl
@[simp] theorem offF_tl (f : Fd) : (s.offF f).tl = s.tl := rfl
@[simp] theorem offF_tt (f : Fd) : (s.offF f).tt = s.tt := rfl
@[simp] theorem offF_mani (f : Fd) : (s.offF f).mani = s.mani := rfl
@[simp] theorem offF_chs (f : Fd) : (s.offF f).chs = s.chs := rfl
@[simp] theorem offF_lanes (f : Fd) : (s.offF f).lanes = s.lanes := rfl
@[simp] theorem offF_rfx (f : Fd) : (s.offF f).rfx = s.rfx := rfl
@[simp] theorem offF_ov (f : Fd) : (s.offF f).ov = s.ov := rfl
@[simp] theorem offF_ss (f : Fd) : (s.offF f).ss = s.ss := rfl
@[simp] theorem offF_sh (f : Fd) : (s.offF f).sh = s.sh := rfl
@[simp] theorem offF_shTurn (f : Fd) : (s.offF f).shTurn = s.shTurn := rfl
@[simp] theorem offF_pool (f : Fd) : (s.offF f).pool = s.pool := rfl
@[simp] theorem offF_pt (f : Fd) : (s.offF f).pt = s.pt := rfl
@[simp] theorem offF_cs (f : Fd) : (s.offF f).cs = s.cs := rfl
@[simp] theorem offF_spx (f : Fd) : (s.offF f).spx = s.spx := rfl
@[simp] theorem offF_rc (f : Fd) : (s.offF f).rc = s.rc := rfl
@[simp] theorem offF_dbg (f : Fd) : (s.offF f).dbg = s.dbg := rfl
@[simp] theorem offF_nextReq (f : Fd) : (s.offF f).nextReq = s.nextReq := rfl
@[simp] theorem offF_freeIdx (f : Fd) : (s.offF f).freeIdx = s.freeIdx := rfl
@[simp] theorem offF_pending (f : Fd) : (s.offF f).pending = s.pending := rfl

/-! ### incF -/

@[simp] theorem incF_now (f : Fd) : (s.incF f).now = s.now := rfl
@[simp] theorem incF_phase (f : Fd) : (s.incF f).phase = s.phase := rfl
@[simp] theorem incF_pwr (f : Fd) : (s.incF f).pwr = s.pwr := rfl
@[simp] theorem incF_otp (f : Fd) : (s.incF f).otp = s.otp := rfl
@[simp] theorem incF_straps (f : Fd) : (s.incF f).straps = s.straps := rfl
@[simp] theorem incF_image (f : Fd) : (s.incF f).image = s.image := rfl
@[simp] theorem incF_rst (f : Fd) : (s.incF f).rst = s.rst := rfl
@[simp] theorem incF_slp (f : Fd) : (s.incF f).slp = s.slp := rfl
@[simp] theorem incF_machs (f : Fd) : (s.incF f).machs = s.machs := rfl
@[simp] theorem incF_triads (f : Fd) : (s.incF f).triads = s.triads := rfl
@[simp] theorem incF_sram (f : Fd) : (s.incF f).sram = s.sram := rfl
@[simp] theorem incF_sramMark (f : Fd) : (s.incF f).sramMark = s.sramMark := rfl
@[simp] theorem incF_sramErr (f : Fd) : (s.incF f).sramErr = s.sramErr := rfl
@[simp] theorem incF_flash (f : Fd) : (s.incF f).flash = s.flash := rfl
@[simp] theorem incF_flashErr (f : Fd) : (s.incF f).flashErr = s.flashErr := rfl
@[simp] theorem incF_flashFlux (f : Fd) : (s.incF f).flashFlux = s.flashFlux := rfl
@[simp] theorem incF_sb (f : Fd) : (s.incF f).sb = s.sb := rfl
@[simp] theorem incF_tl (f : Fd) : (s.incF f).tl = s.tl := rfl
@[simp] theorem incF_tt (f : Fd) : (s.incF f).tt = s.tt := rfl
@[simp] theorem incF_mani (f : Fd) : (s.incF f).mani = s.mani := rfl
@[simp] theorem incF_chs (f : Fd) : (s.incF f).chs = s.chs := rfl
@[simp] theorem incF_lanes (f : Fd) : (s.incF f).lanes = s.lanes := rfl
@[simp] theorem incF_rfx (f : Fd) : (s.incF f).rfx = s.rfx := rfl
@[simp] theorem incF_ov (f : Fd) : (s.incF f).ov = s.ov := rfl
@[simp] theorem incF_ss (f : Fd) : (s.incF f).ss = s.ss := rfl
@[simp] theorem incF_sh (f : Fd) : (s.incF f).sh = s.sh := rfl
@[simp] theorem incF_shTurn (f : Fd) : (s.incF f).shTurn = s.shTurn := rfl
@[simp] theorem incF_pool (f : Fd) : (s.incF f).pool = s.pool := rfl
@[simp] theorem incF_pt (f : Fd) : (s.incF f).pt = s.pt := rfl
@[simp] theorem incF_cs (f : Fd) : (s.incF f).cs = s.cs := rfl
@[simp] theorem incF_spx (f : Fd) : (s.incF f).spx = s.spx := rfl
@[simp] theorem incF_rc (f : Fd) : (s.incF f).rc = s.rc := rfl
@[simp] theorem incF_dbg (f : Fd) : (s.incF f).dbg = s.dbg := rfl
@[simp] theorem incF_nextReq (f : Fd) : (s.incF f).nextReq = s.nextReq := rfl
@[simp] theorem incF_freeIdx (f : Fd) : (s.incF f).freeIdx = s.freeIdx := rfl
@[simp] theorem incF_pending (f : Fd) : (s.incF f).pending = s.pending := rfl

/-! ### setBitF -/

@[simp] theorem setBitF_now (f : Fd) (i : Nat) : (s.setBitF f i).now = s.now := rfl
@[simp] theorem setBitF_phase (f : Fd) (i : Nat) : (s.setBitF f i).phase = s.phase := rfl
@[simp] theorem setBitF_pwr (f : Fd) (i : Nat) : (s.setBitF f i).pwr = s.pwr := rfl
@[simp] theorem setBitF_otp (f : Fd) (i : Nat) : (s.setBitF f i).otp = s.otp := rfl
@[simp] theorem setBitF_straps (f : Fd) (i : Nat) : (s.setBitF f i).straps = s.straps := rfl
@[simp] theorem setBitF_image (f : Fd) (i : Nat) : (s.setBitF f i).image = s.image := rfl
@[simp] theorem setBitF_rst (f : Fd) (i : Nat) : (s.setBitF f i).rst = s.rst := rfl
@[simp] theorem setBitF_slp (f : Fd) (i : Nat) : (s.setBitF f i).slp = s.slp := rfl
@[simp] theorem setBitF_machs (f : Fd) (i : Nat) : (s.setBitF f i).machs = s.machs := rfl
@[simp] theorem setBitF_triads (f : Fd) (i : Nat) : (s.setBitF f i).triads = s.triads := rfl
@[simp] theorem setBitF_sram (f : Fd) (i : Nat) : (s.setBitF f i).sram = s.sram := rfl
@[simp] theorem setBitF_sramMark (f : Fd) (i : Nat) : (s.setBitF f i).sramMark = s.sramMark := rfl
@[simp] theorem setBitF_sramErr (f : Fd) (i : Nat) : (s.setBitF f i).sramErr = s.sramErr := rfl
@[simp] theorem setBitF_flash (f : Fd) (i : Nat) : (s.setBitF f i).flash = s.flash := rfl
@[simp] theorem setBitF_flashErr (f : Fd) (i : Nat) : (s.setBitF f i).flashErr = s.flashErr := rfl
@[simp] theorem setBitF_flashFlux (f : Fd) (i : Nat) : (s.setBitF f i).flashFlux = s.flashFlux := rfl
@[simp] theorem setBitF_sb (f : Fd) (i : Nat) : (s.setBitF f i).sb = s.sb := rfl
@[simp] theorem setBitF_tl (f : Fd) (i : Nat) : (s.setBitF f i).tl = s.tl := rfl
@[simp] theorem setBitF_tt (f : Fd) (i : Nat) : (s.setBitF f i).tt = s.tt := rfl
@[simp] theorem setBitF_mani (f : Fd) (i : Nat) : (s.setBitF f i).mani = s.mani := rfl
@[simp] theorem setBitF_chs (f : Fd) (i : Nat) : (s.setBitF f i).chs = s.chs := rfl
@[simp] theorem setBitF_lanes (f : Fd) (i : Nat) : (s.setBitF f i).lanes = s.lanes := rfl
@[simp] theorem setBitF_rfx (f : Fd) (i : Nat) : (s.setBitF f i).rfx = s.rfx := rfl
@[simp] theorem setBitF_ov (f : Fd) (i : Nat) : (s.setBitF f i).ov = s.ov := rfl
@[simp] theorem setBitF_ss (f : Fd) (i : Nat) : (s.setBitF f i).ss = s.ss := rfl
@[simp] theorem setBitF_sh (f : Fd) (i : Nat) : (s.setBitF f i).sh = s.sh := rfl
@[simp] theorem setBitF_shTurn (f : Fd) (i : Nat) : (s.setBitF f i).shTurn = s.shTurn := rfl
@[simp] theorem setBitF_pool (f : Fd) (i : Nat) : (s.setBitF f i).pool = s.pool := rfl
@[simp] theorem setBitF_pt (f : Fd) (i : Nat) : (s.setBitF f i).pt = s.pt := rfl
@[simp] theorem setBitF_cs (f : Fd) (i : Nat) : (s.setBitF f i).cs = s.cs := rfl
@[simp] theorem setBitF_spx (f : Fd) (i : Nat) : (s.setBitF f i).spx = s.spx := rfl
@[simp] theorem setBitF_rc (f : Fd) (i : Nat) : (s.setBitF f i).rc = s.rc := rfl
@[simp] theorem setBitF_dbg (f : Fd) (i : Nat) : (s.setBitF f i).dbg = s.dbg := rfl
@[simp] theorem setBitF_nextReq (f : Fd) (i : Nat) : (s.setBitF f i).nextReq = s.nextReq := rfl
@[simp] theorem setBitF_freeIdx (f : Fd) (i : Nat) : (s.setBitF f i).freeIdx = s.freeIdx := rfl
@[simp] theorem setBitF_pending (f : Fd) (i : Nat) : (s.setBitF f i).pending = s.pending := rfl

/-! ### setMach -/

@[simp] theorem setMach_regs (m : Mach) (x : MachState) : (s.setMach m x).regs = s.regs := rfl
@[simp] theorem setMach_now (m : Mach) (x : MachState) : (s.setMach m x).now = s.now := rfl
@[simp] theorem setMach_phase (m : Mach) (x : MachState) : (s.setMach m x).phase = s.phase := rfl
@[simp] theorem setMach_pwr (m : Mach) (x : MachState) : (s.setMach m x).pwr = s.pwr := rfl
@[simp] theorem setMach_otp (m : Mach) (x : MachState) : (s.setMach m x).otp = s.otp := rfl
@[simp] theorem setMach_straps (m : Mach) (x : MachState) : (s.setMach m x).straps = s.straps := rfl
@[simp] theorem setMach_image (m : Mach) (x : MachState) : (s.setMach m x).image = s.image := rfl
@[simp] theorem setMach_rst (m : Mach) (x : MachState) : (s.setMach m x).rst = s.rst := rfl
@[simp] theorem setMach_slp (m : Mach) (x : MachState) : (s.setMach m x).slp = s.slp := rfl
@[simp] theorem setMach_triads (m : Mach) (x : MachState) : (s.setMach m x).triads = s.triads := rfl
@[simp] theorem setMach_sram (m : Mach) (x : MachState) : (s.setMach m x).sram = s.sram := rfl
@[simp] theorem setMach_sramMark (m : Mach) (x : MachState) : (s.setMach m x).sramMark = s.sramMark := rfl
@[simp] theorem setMach_sramErr (m : Mach) (x : MachState) : (s.setMach m x).sramErr = s.sramErr := rfl
@[simp] theorem setMach_flash (m : Mach) (x : MachState) : (s.setMach m x).flash = s.flash := rfl
@[simp] theorem setMach_flashErr (m : Mach) (x : MachState) : (s.setMach m x).flashErr = s.flashErr := rfl
@[simp] theorem setMach_flashFlux (m : Mach) (x : MachState) : (s.setMach m x).flashFlux = s.flashFlux := rfl
@[simp] theorem setMach_sb (m : Mach) (x : MachState) : (s.setMach m x).sb = s.sb := rfl
@[simp] theorem setMach_tl (m : Mach) (x : MachState) : (s.setMach m x).tl = s.tl := rfl
@[simp] theorem setMach_tt (m : Mach) (x : MachState) : (s.setMach m x).tt = s.tt := rfl
@[simp] theorem setMach_mani (m : Mach) (x : MachState) : (s.setMach m x).mani = s.mani := rfl
@[simp] theorem setMach_chs (m : Mach) (x : MachState) : (s.setMach m x).chs = s.chs := rfl
@[simp] theorem setMach_lanes (m : Mach) (x : MachState) : (s.setMach m x).lanes = s.lanes := rfl
@[simp] theorem setMach_rfx (m : Mach) (x : MachState) : (s.setMach m x).rfx = s.rfx := rfl
@[simp] theorem setMach_ov (m : Mach) (x : MachState) : (s.setMach m x).ov = s.ov := rfl
@[simp] theorem setMach_ss (m : Mach) (x : MachState) : (s.setMach m x).ss = s.ss := rfl
@[simp] theorem setMach_sh (m : Mach) (x : MachState) : (s.setMach m x).sh = s.sh := rfl
@[simp] theorem setMach_shTurn (m : Mach) (x : MachState) : (s.setMach m x).shTurn = s.shTurn := rfl
@[simp] theorem setMach_pool (m : Mach) (x : MachState) : (s.setMach m x).pool = s.pool := rfl
@[simp] theorem setMach_pt (m : Mach) (x : MachState) : (s.setMach m x).pt = s.pt := rfl
@[simp] theorem setMach_cs (m : Mach) (x : MachState) : (s.setMach m x).cs = s.cs := rfl
@[simp] theorem setMach_spx (m : Mach) (x : MachState) : (s.setMach m x).spx = s.spx := rfl
@[simp] theorem setMach_rc (m : Mach) (x : MachState) : (s.setMach m x).rc = s.rc := rfl
@[simp] theorem setMach_dbg (m : Mach) (x : MachState) : (s.setMach m x).dbg = s.dbg := rfl
@[simp] theorem setMach_nextReq (m : Mach) (x : MachState) : (s.setMach m x).nextReq = s.nextReq := rfl
@[simp] theorem setMach_freeIdx (m : Mach) (x : MachState) : (s.setMach m x).freeIdx = s.freeIdx := rfl
@[simp] theorem setMach_pending (m : Mach) (x : MachState) : (s.setMach m x).pending = s.pending := rfl

/-! ### modMach -/

@[simp] theorem modMach_regs (m : Mach) (f : MachState → MachState) : (s.modMach m f).regs = s.regs := rfl
@[simp] theorem modMach_now (m : Mach) (f : MachState → MachState) : (s.modMach m f).now = s.now := rfl
@[simp] theorem modMach_phase (m : Mach) (f : MachState → MachState) : (s.modMach m f).phase = s.phase := rfl
@[simp] theorem modMach_pwr (m : Mach) (f : MachState → MachState) : (s.modMach m f).pwr = s.pwr := rfl
@[simp] theorem modMach_otp (m : Mach) (f : MachState → MachState) : (s.modMach m f).otp = s.otp := rfl
@[simp] theorem modMach_straps (m : Mach) (f : MachState → MachState) : (s.modMach m f).straps = s.straps := rfl
@[simp] theorem modMach_image (m : Mach) (f : MachState → MachState) : (s.modMach m f).image = s.image := rfl
@[simp] theorem modMach_rst (m : Mach) (f : MachState → MachState) : (s.modMach m f).rst = s.rst := rfl
@[simp] theorem modMach_slp (m : Mach) (f : MachState → MachState) : (s.modMach m f).slp = s.slp := rfl
@[simp] theorem modMach_triads (m : Mach) (f : MachState → MachState) : (s.modMach m f).triads = s.triads := rfl
@[simp] theorem modMach_sram (m : Mach) (f : MachState → MachState) : (s.modMach m f).sram = s.sram := rfl
@[simp] theorem modMach_sramMark (m : Mach) (f : MachState → MachState) : (s.modMach m f).sramMark = s.sramMark := rfl
@[simp] theorem modMach_sramErr (m : Mach) (f : MachState → MachState) : (s.modMach m f).sramErr = s.sramErr := rfl
@[simp] theorem modMach_flash (m : Mach) (f : MachState → MachState) : (s.modMach m f).flash = s.flash := rfl
@[simp] theorem modMach_flashErr (m : Mach) (f : MachState → MachState) : (s.modMach m f).flashErr = s.flashErr := rfl
@[simp] theorem modMach_flashFlux (m : Mach) (f : MachState → MachState) : (s.modMach m f).flashFlux = s.flashFlux := rfl
@[simp] theorem modMach_sb (m : Mach) (f : MachState → MachState) : (s.modMach m f).sb = s.sb := rfl
@[simp] theorem modMach_tl (m : Mach) (f : MachState → MachState) : (s.modMach m f).tl = s.tl := rfl
@[simp] theorem modMach_tt (m : Mach) (f : MachState → MachState) : (s.modMach m f).tt = s.tt := rfl
@[simp] theorem modMach_mani (m : Mach) (f : MachState → MachState) : (s.modMach m f).mani = s.mani := rfl
@[simp] theorem modMach_chs (m : Mach) (f : MachState → MachState) : (s.modMach m f).chs = s.chs := rfl
@[simp] theorem modMach_lanes (m : Mach) (f : MachState → MachState) : (s.modMach m f).lanes = s.lanes := rfl
@[simp] theorem modMach_rfx (m : Mach) (f : MachState → MachState) : (s.modMach m f).rfx = s.rfx := rfl
@[simp] theorem modMach_ov (m : Mach) (f : MachState → MachState) : (s.modMach m f).ov = s.ov := rfl
@[simp] theorem modMach_ss (m : Mach) (f : MachState → MachState) : (s.modMach m f).ss = s.ss := rfl
@[simp] theorem modMach_sh (m : Mach) (f : MachState → MachState) : (s.modMach m f).sh = s.sh := rfl
@[simp] theorem modMach_shTurn (m : Mach) (f : MachState → MachState) : (s.modMach m f).shTurn = s.shTurn := rfl
@[simp] theorem modMach_pool (m : Mach) (f : MachState → MachState) : (s.modMach m f).pool = s.pool := rfl
@[simp] theorem modMach_pt (m : Mach) (f : MachState → MachState) : (s.modMach m f).pt = s.pt := rfl
@[simp] theorem modMach_cs (m : Mach) (f : MachState → MachState) : (s.modMach m f).cs = s.cs := rfl
@[simp] theorem modMach_spx (m : Mach) (f : MachState → MachState) : (s.modMach m f).spx = s.spx := rfl
@[simp] theorem modMach_rc (m : Mach) (f : MachState → MachState) : (s.modMach m f).rc = s.rc := rfl
@[simp] theorem modMach_dbg (m : Mach) (f : MachState → MachState) : (s.modMach m f).dbg = s.dbg := rfl
@[simp] theorem modMach_nextReq (m : Mach) (f : MachState → MachState) : (s.modMach m f).nextReq = s.nextReq := rfl
@[simp] theorem modMach_freeIdx (m : Mach) (f : MachState → MachState) : (s.modMach m f).freeIdx = s.freeIdx := rfl
@[simp] theorem modMach_pending (m : Mach) (f : MachState → MachState) : (s.modMach m f).pending = s.pending := rfl

/-! ### wc -/

@[simp] theorem wc_regs (m : Mach) (k : Fin 32) (w : Word) : (s.wc m k w).regs = s.regs := rfl
@[simp] theorem wc_now (m : Mach) (k : Fin 32) (w : Word) : (s.wc m k w).now = s.now := rfl
@[simp] theorem wc_phase (m : Mach) (k : Fin 32) (w : Word) : (s.wc m k w).phase = s.phase := rfl
@[simp] theorem wc_pwr (m : Mach) (k : Fin 32) (w : Word) : (s.wc m k w).pwr = s.pwr := rfl
@[simp] theorem wc_otp (m : Mach) (k : Fin 32) (w : Word) : (s.wc m k w).otp = s.otp := rfl
@[simp] theorem wc_straps (m : Mach) (k : Fin 32) (w : Word) : (s.wc m k w).straps = s.straps := rfl
@[simp] theorem wc_image (m : Mach) (k : Fin 32) (w : Word) : (s.wc m k w).image = s.image := rfl
@[simp] theorem wc_rst (m : Mach) (k : Fin 32) (w : Word) : (s.wc m k w).rst = s.rst := rfl
@[simp] theorem wc_slp (m : Mach) (k : Fin 32) (w : Word) : (s.wc m k w).slp = s.slp := rfl
@[simp] theorem wc_triads (m : Mach) (k : Fin 32) (w : Word) : (s.wc m k w).triads = s.triads := rfl
@[simp] theorem wc_sram (m : Mach) (k : Fin 32) (w : Word) : (s.wc m k w).sram = s.sram := rfl
@[simp] theorem wc_sramMark (m : Mach) (k : Fin 32) (w : Word) : (s.wc m k w).sramMark = s.sramMark := rfl
@[simp] theorem wc_sramErr (m : Mach) (k : Fin 32) (w : Word) : (s.wc m k w).sramErr = s.sramErr := rfl
@[simp] theorem wc_flash (m : Mach) (k : Fin 32) (w : Word) : (s.wc m k w).flash = s.flash := rfl
@[simp] theorem wc_flashErr (m : Mach) (k : Fin 32) (w : Word) : (s.wc m k w).flashErr = s.flashErr := rfl
@[simp] theorem wc_flashFlux (m : Mach) (k : Fin 32) (w : Word) : (s.wc m k w).flashFlux = s.flashFlux := rfl
@[simp] theorem wc_sb (m : Mach) (k : Fin 32) (w : Word) : (s.wc m k w).sb = s.sb := rfl
@[simp] theorem wc_tl (m : Mach) (k : Fin 32) (w : Word) : (s.wc m k w).tl = s.tl := rfl
@[simp] theorem wc_tt (m : Mach) (k : Fin 32) (w : Word) : (s.wc m k w).tt = s.tt := rfl
@[simp] theorem wc_mani (m : Mach) (k : Fin 32) (w : Word) : (s.wc m k w).mani = s.mani := rfl
@[simp] theorem wc_chs (m : Mach) (k : Fin 32) (w : Word) : (s.wc m k w).chs = s.chs := rfl
@[simp] theorem wc_lanes (m : Mach) (k : Fin 32) (w : Word) : (s.wc m k w).lanes = s.lanes := rfl
@[simp] theorem wc_rfx (m : Mach) (k : Fin 32) (w : Word) : (s.wc m k w).rfx = s.rfx := rfl
@[simp] theorem wc_ov (m : Mach) (k : Fin 32) (w : Word) : (s.wc m k w).ov = s.ov := rfl
@[simp] theorem wc_ss (m : Mach) (k : Fin 32) (w : Word) : (s.wc m k w).ss = s.ss := rfl
@[simp] theorem wc_sh (m : Mach) (k : Fin 32) (w : Word) : (s.wc m k w).sh = s.sh := rfl
@[simp] theorem wc_shTurn (m : Mach) (k : Fin 32) (w : Word) : (s.wc m k w).shTurn = s.shTurn := rfl
@[simp] theorem wc_pool (m : Mach) (k : Fin 32) (w : Word) : (s.wc m k w).pool = s.pool := rfl
@[simp] theorem wc_pt (m : Mach) (k : Fin 32) (w : Word) : (s.wc m k w).pt = s.pt := rfl
@[simp] theorem wc_cs (m : Mach) (k : Fin 32) (w : Word) : (s.wc m k w).cs = s.cs := rfl
@[simp] theorem wc_spx (m : Mach) (k : Fin 32) (w : Word) : (s.wc m k w).spx = s.spx := rfl
@[simp] theorem wc_rc (m : Mach) (k : Fin 32) (w : Word) : (s.wc m k w).rc = s.rc := rfl
@[simp] theorem wc_dbg (m : Mach) (k : Fin 32) (w : Word) : (s.wc m k w).dbg = s.dbg := rfl
@[simp] theorem wc_nextReq (m : Mach) (k : Fin 32) (w : Word) : (s.wc m k w).nextReq = s.nextReq := rfl
@[simp] theorem wc_freeIdx (m : Mach) (k : Fin 32) (w : Word) : (s.wc m k w).freeIdx = s.freeIdx := rfl
@[simp] theorem wc_pending (m : Mach) (k : Fin 32) (w : Word) : (s.wc m k w).pending = s.pending := rfl

/-! ### wg -/

@[simp] theorem wg_regs (m : Mach) (r : BitVec 5) (w : Word) : (s.wg m r w).regs = s.regs := by unfold State.wg; split <;> rfl
@[simp] theorem wg_now (m : Mach) (r : BitVec 5) (w : Word) : (s.wg m r w).now = s.now := by unfold State.wg; split <;> rfl
@[simp] theorem wg_phase (m : Mach) (r : BitVec 5) (w : Word) : (s.wg m r w).phase = s.phase := by unfold State.wg; split <;> rfl
@[simp] theorem wg_pwr (m : Mach) (r : BitVec 5) (w : Word) : (s.wg m r w).pwr = s.pwr := by unfold State.wg; split <;> rfl
@[simp] theorem wg_otp (m : Mach) (r : BitVec 5) (w : Word) : (s.wg m r w).otp = s.otp := by unfold State.wg; split <;> rfl
@[simp] theorem wg_straps (m : Mach) (r : BitVec 5) (w : Word) : (s.wg m r w).straps = s.straps := by unfold State.wg; split <;> rfl
@[simp] theorem wg_image (m : Mach) (r : BitVec 5) (w : Word) : (s.wg m r w).image = s.image := by unfold State.wg; split <;> rfl
@[simp] theorem wg_rst (m : Mach) (r : BitVec 5) (w : Word) : (s.wg m r w).rst = s.rst := by unfold State.wg; split <;> rfl
@[simp] theorem wg_slp (m : Mach) (r : BitVec 5) (w : Word) : (s.wg m r w).slp = s.slp := by unfold State.wg; split <;> rfl
@[simp] theorem wg_triads (m : Mach) (r : BitVec 5) (w : Word) : (s.wg m r w).triads = s.triads := by unfold State.wg; split <;> rfl
@[simp] theorem wg_sram (m : Mach) (r : BitVec 5) (w : Word) : (s.wg m r w).sram = s.sram := by unfold State.wg; split <;> rfl
@[simp] theorem wg_sramMark (m : Mach) (r : BitVec 5) (w : Word) : (s.wg m r w).sramMark = s.sramMark := by unfold State.wg; split <;> rfl
@[simp] theorem wg_sramErr (m : Mach) (r : BitVec 5) (w : Word) : (s.wg m r w).sramErr = s.sramErr := by unfold State.wg; split <;> rfl
@[simp] theorem wg_flash (m : Mach) (r : BitVec 5) (w : Word) : (s.wg m r w).flash = s.flash := by unfold State.wg; split <;> rfl
@[simp] theorem wg_flashErr (m : Mach) (r : BitVec 5) (w : Word) : (s.wg m r w).flashErr = s.flashErr := by unfold State.wg; split <;> rfl
@[simp] theorem wg_flashFlux (m : Mach) (r : BitVec 5) (w : Word) : (s.wg m r w).flashFlux = s.flashFlux := by unfold State.wg; split <;> rfl
@[simp] theorem wg_sb (m : Mach) (r : BitVec 5) (w : Word) : (s.wg m r w).sb = s.sb := by unfold State.wg; split <;> rfl
@[simp] theorem wg_tl (m : Mach) (r : BitVec 5) (w : Word) : (s.wg m r w).tl = s.tl := by unfold State.wg; split <;> rfl
@[simp] theorem wg_tt (m : Mach) (r : BitVec 5) (w : Word) : (s.wg m r w).tt = s.tt := by unfold State.wg; split <;> rfl
@[simp] theorem wg_mani (m : Mach) (r : BitVec 5) (w : Word) : (s.wg m r w).mani = s.mani := by unfold State.wg; split <;> rfl
@[simp] theorem wg_chs (m : Mach) (r : BitVec 5) (w : Word) : (s.wg m r w).chs = s.chs := by unfold State.wg; split <;> rfl
@[simp] theorem wg_lanes (m : Mach) (r : BitVec 5) (w : Word) : (s.wg m r w).lanes = s.lanes := by unfold State.wg; split <;> rfl
@[simp] theorem wg_rfx (m : Mach) (r : BitVec 5) (w : Word) : (s.wg m r w).rfx = s.rfx := by unfold State.wg; split <;> rfl
@[simp] theorem wg_ov (m : Mach) (r : BitVec 5) (w : Word) : (s.wg m r w).ov = s.ov := by unfold State.wg; split <;> rfl
@[simp] theorem wg_ss (m : Mach) (r : BitVec 5) (w : Word) : (s.wg m r w).ss = s.ss := by unfold State.wg; split <;> rfl
@[simp] theorem wg_sh (m : Mach) (r : BitVec 5) (w : Word) : (s.wg m r w).sh = s.sh := by unfold State.wg; split <;> rfl
@[simp] theorem wg_shTurn (m : Mach) (r : BitVec 5) (w : Word) : (s.wg m r w).shTurn = s.shTurn := by unfold State.wg; split <;> rfl
@[simp] theorem wg_pool (m : Mach) (r : BitVec 5) (w : Word) : (s.wg m r w).pool = s.pool := by unfold State.wg; split <;> rfl
@[simp] theorem wg_pt (m : Mach) (r : BitVec 5) (w : Word) : (s.wg m r w).pt = s.pt := by unfold State.wg; split <;> rfl
@[simp] theorem wg_cs (m : Mach) (r : BitVec 5) (w : Word) : (s.wg m r w).cs = s.cs := by unfold State.wg; split <;> rfl
@[simp] theorem wg_spx (m : Mach) (r : BitVec 5) (w : Word) : (s.wg m r w).spx = s.spx := by unfold State.wg; split <;> rfl
@[simp] theorem wg_rc (m : Mach) (r : BitVec 5) (w : Word) : (s.wg m r w).rc = s.rc := by unfold State.wg; split <;> rfl
@[simp] theorem wg_dbg (m : Mach) (r : BitVec 5) (w : Word) : (s.wg m r w).dbg = s.dbg := by unfold State.wg; split <;> rfl
@[simp] theorem wg_nextReq (m : Mach) (r : BitVec 5) (w : Word) : (s.wg m r w).nextReq = s.nextReq := by unfold State.wg; split <;> rfl
@[simp] theorem wg_freeIdx (m : Mach) (r : BitVec 5) (w : Word) : (s.wg m r w).freeIdx = s.freeIdx := by unfold State.wg; split <;> rfl
@[simp] theorem wg_pending (m : Mach) (r : BitVec 5) (w : Word) : (s.wg m r w).pending = s.pending := by unfold State.wg; split <;> rfl

/-! ### modTri -/

@[simp] theorem modTri_regs (t : Triad) (f : TriadH → TriadH) : (s.modTri t f).regs = s.regs := rfl
@[simp] theorem modTri_now (t : Triad) (f : TriadH → TriadH) : (s.modTri t f).now = s.now := rfl
@[simp] theorem modTri_phase (t : Triad) (f : TriadH → TriadH) : (s.modTri t f).phase = s.phase := rfl
@[simp] theorem modTri_pwr (t : Triad) (f : TriadH → TriadH) : (s.modTri t f).pwr = s.pwr := rfl
@[simp] theorem modTri_otp (t : Triad) (f : TriadH → TriadH) : (s.modTri t f).otp = s.otp := rfl
@[simp] theorem modTri_straps (t : Triad) (f : TriadH → TriadH) : (s.modTri t f).straps = s.straps := rfl
@[simp] theorem modTri_image (t : Triad) (f : TriadH → TriadH) : (s.modTri t f).image = s.image := rfl
@[simp] theorem modTri_rst (t : Triad) (f : TriadH → TriadH) : (s.modTri t f).rst = s.rst := rfl
@[simp] theorem modTri_slp (t : Triad) (f : TriadH → TriadH) : (s.modTri t f).slp = s.slp := rfl
@[simp] theorem modTri_machs (t : Triad) (f : TriadH → TriadH) : (s.modTri t f).machs = s.machs := rfl
@[simp] theorem modTri_sram (t : Triad) (f : TriadH → TriadH) : (s.modTri t f).sram = s.sram := rfl
@[simp] theorem modTri_sramMark (t : Triad) (f : TriadH → TriadH) : (s.modTri t f).sramMark = s.sramMark := rfl
@[simp] theorem modTri_sramErr (t : Triad) (f : TriadH → TriadH) : (s.modTri t f).sramErr = s.sramErr := rfl
@[simp] theorem modTri_flash (t : Triad) (f : TriadH → TriadH) : (s.modTri t f).flash = s.flash := rfl
@[simp] theorem modTri_flashErr (t : Triad) (f : TriadH → TriadH) : (s.modTri t f).flashErr = s.flashErr := rfl
@[simp] theorem modTri_flashFlux (t : Triad) (f : TriadH → TriadH) : (s.modTri t f).flashFlux = s.flashFlux := rfl
@[simp] theorem modTri_sb (t : Triad) (f : TriadH → TriadH) : (s.modTri t f).sb = s.sb := rfl
@[simp] theorem modTri_tl (t : Triad) (f : TriadH → TriadH) : (s.modTri t f).tl = s.tl := rfl
@[simp] theorem modTri_tt (t : Triad) (f : TriadH → TriadH) : (s.modTri t f).tt = s.tt := rfl
@[simp] theorem modTri_mani (t : Triad) (f : TriadH → TriadH) : (s.modTri t f).mani = s.mani := rfl
@[simp] theorem modTri_chs (t : Triad) (f : TriadH → TriadH) : (s.modTri t f).chs = s.chs := rfl
@[simp] theorem modTri_lanes (t : Triad) (f : TriadH → TriadH) : (s.modTri t f).lanes = s.lanes := rfl
@[simp] theorem modTri_rfx (t : Triad) (f : TriadH → TriadH) : (s.modTri t f).rfx = s.rfx := rfl
@[simp] theorem modTri_ov (t : Triad) (f : TriadH → TriadH) : (s.modTri t f).ov = s.ov := rfl
@[simp] theorem modTri_ss (t : Triad) (f : TriadH → TriadH) : (s.modTri t f).ss = s.ss := rfl
@[simp] theorem modTri_sh (t : Triad) (f : TriadH → TriadH) : (s.modTri t f).sh = s.sh := rfl
@[simp] theorem modTri_shTurn (t : Triad) (f : TriadH → TriadH) : (s.modTri t f).shTurn = s.shTurn := rfl
@[simp] theorem modTri_pool (t : Triad) (f : TriadH → TriadH) : (s.modTri t f).pool = s.pool := rfl
@[simp] theorem modTri_pt (t : Triad) (f : TriadH → TriadH) : (s.modTri t f).pt = s.pt := rfl
@[simp] theorem modTri_cs (t : Triad) (f : TriadH → TriadH) : (s.modTri t f).cs = s.cs := rfl
@[simp] theorem modTri_spx (t : Triad) (f : TriadH → TriadH) : (s.modTri t f).spx = s.spx := rfl
@[simp] theorem modTri_rc (t : Triad) (f : TriadH → TriadH) : (s.modTri t f).rc = s.rc := rfl
@[simp] theorem modTri_dbg (t : Triad) (f : TriadH → TriadH) : (s.modTri t f).dbg = s.dbg := rfl
@[simp] theorem modTri_nextReq (t : Triad) (f : TriadH → TriadH) : (s.modTri t f).nextReq = s.nextReq := rfl
@[simp] theorem modTri_freeIdx (t : Triad) (f : TriadH → TriadH) : (s.modTri t f).freeIdx = s.freeIdx := rfl
@[simp] theorem modTri_pending (t : Triad) (f : TriadH → TriadH) : (s.modTri t f).pending = s.pending := rfl

/-! ### setCh -/

@[simp] theorem setCh_regs (n : Fin 16) (x : ChanH) : (s.setCh n x).regs = s.regs := rfl
@[simp] theorem setCh_now (n : Fin 16) (x : ChanH) : (s.setCh n x).now = s.now := rfl
@[simp] theorem setCh_phase (n : Fin 16) (x : ChanH) : (s.setCh n x).phase = s.phase := rfl
@[simp] theorem setCh_pwr (n : Fin 16) (x : ChanH) : (s.setCh n x).pwr = s.pwr := rfl
@[simp] theorem setCh_otp (n : Fin 16) (x : ChanH) : (s.setCh n x).otp = s.otp := rfl
@[simp] theorem setCh_straps (n : Fin 16) (x : ChanH) : (s.setCh n x).straps = s.straps := rfl
@[simp] theorem setCh_image (n : Fin 16) (x : ChanH) : (s.setCh n x).image = s.image := rfl
@[simp] theorem setCh_rst (n : Fin 16) (x : ChanH) : (s.setCh n x).rst = s.rst := rfl
@[simp] theorem setCh_slp (n : Fin 16) (x : ChanH) : (s.setCh n x).slp = s.slp := rfl
@[simp] theorem setCh_machs (n : Fin 16) (x : ChanH) : (s.setCh n x).machs = s.machs := rfl
@[simp] theorem setCh_triads (n : Fin 16) (x : ChanH) : (s.setCh n x).triads = s.triads := rfl
@[simp] theorem setCh_sram (n : Fin 16) (x : ChanH) : (s.setCh n x).sram = s.sram := rfl
@[simp] theorem setCh_sramMark (n : Fin 16) (x : ChanH) : (s.setCh n x).sramMark = s.sramMark := rfl
@[simp] theorem setCh_sramErr (n : Fin 16) (x : ChanH) : (s.setCh n x).sramErr = s.sramErr := rfl
@[simp] theorem setCh_flash (n : Fin 16) (x : ChanH) : (s.setCh n x).flash = s.flash := rfl
@[simp] theorem setCh_flashErr (n : Fin 16) (x : ChanH) : (s.setCh n x).flashErr = s.flashErr := rfl
@[simp] theorem setCh_flashFlux (n : Fin 16) (x : ChanH) : (s.setCh n x).flashFlux = s.flashFlux := rfl
@[simp] theorem setCh_sb (n : Fin 16) (x : ChanH) : (s.setCh n x).sb = s.sb := rfl
@[simp] theorem setCh_tl (n : Fin 16) (x : ChanH) : (s.setCh n x).tl = s.tl := rfl
@[simp] theorem setCh_tt (n : Fin 16) (x : ChanH) : (s.setCh n x).tt = s.tt := rfl
@[simp] theorem setCh_mani (n : Fin 16) (x : ChanH) : (s.setCh n x).mani = s.mani := rfl
@[simp] theorem setCh_lanes (n : Fin 16) (x : ChanH) : (s.setCh n x).lanes = s.lanes := rfl
@[simp] theorem setCh_rfx (n : Fin 16) (x : ChanH) : (s.setCh n x).rfx = s.rfx := rfl
@[simp] theorem setCh_ov (n : Fin 16) (x : ChanH) : (s.setCh n x).ov = s.ov := rfl
@[simp] theorem setCh_ss (n : Fin 16) (x : ChanH) : (s.setCh n x).ss = s.ss := rfl
@[simp] theorem setCh_sh (n : Fin 16) (x : ChanH) : (s.setCh n x).sh = s.sh := rfl
@[simp] theorem setCh_shTurn (n : Fin 16) (x : ChanH) : (s.setCh n x).shTurn = s.shTurn := rfl
@[simp] theorem setCh_pool (n : Fin 16) (x : ChanH) : (s.setCh n x).pool = s.pool := rfl
@[simp] theorem setCh_pt (n : Fin 16) (x : ChanH) : (s.setCh n x).pt = s.pt := rfl
@[simp] theorem setCh_cs (n : Fin 16) (x : ChanH) : (s.setCh n x).cs = s.cs := rfl
@[simp] theorem setCh_spx (n : Fin 16) (x : ChanH) : (s.setCh n x).spx = s.spx := rfl
@[simp] theorem setCh_rc (n : Fin 16) (x : ChanH) : (s.setCh n x).rc = s.rc := rfl
@[simp] theorem setCh_dbg (n : Fin 16) (x : ChanH) : (s.setCh n x).dbg = s.dbg := rfl
@[simp] theorem setCh_nextReq (n : Fin 16) (x : ChanH) : (s.setCh n x).nextReq = s.nextReq := rfl
@[simp] theorem setCh_freeIdx (n : Fin 16) (x : ChanH) : (s.setCh n x).freeIdx = s.freeIdx := rfl
@[simp] theorem setCh_pending (n : Fin 16) (x : ChanH) : (s.setCh n x).pending = s.pending := rfl

/-! ### modCh -/

@[simp] theorem modCh_regs (n : Fin 16) (f : ChanH → ChanH) : (s.modCh n f).regs = s.regs := rfl
@[simp] theorem modCh_now (n : Fin 16) (f : ChanH → ChanH) : (s.modCh n f).now = s.now := rfl
@[simp] theorem modCh_phase (n : Fin 16) (f : ChanH → ChanH) : (s.modCh n f).phase = s.phase := rfl
@[simp] theorem modCh_pwr (n : Fin 16) (f : ChanH → ChanH) : (s.modCh n f).pwr = s.pwr := rfl
@[simp] theorem modCh_otp (n : Fin 16) (f : ChanH → ChanH) : (s.modCh n f).otp = s.otp := rfl
@[simp] theorem modCh_straps (n : Fin 16) (f : ChanH → ChanH) : (s.modCh n f).straps = s.straps := rfl
@[simp] theorem modCh_image (n : Fin 16) (f : ChanH → ChanH) : (s.modCh n f).image = s.image := rfl
@[simp] theorem modCh_rst (n : Fin 16) (f : ChanH → ChanH) : (s.modCh n f).rst = s.rst := rfl
@[simp] theorem modCh_slp (n : Fin 16) (f : ChanH → ChanH) : (s.modCh n f).slp = s.slp := rfl
@[simp] theorem modCh_machs (n : Fin 16) (f : ChanH → ChanH) : (s.modCh n f).machs = s.machs := rfl
@[simp] theorem modCh_triads (n : Fin 16) (f : ChanH → ChanH) : (s.modCh n f).triads = s.triads := rfl
@[simp] theorem modCh_sram (n : Fin 16) (f : ChanH → ChanH) : (s.modCh n f).sram = s.sram := rfl
@[simp] theorem modCh_sramMark (n : Fin 16) (f : ChanH → ChanH) : (s.modCh n f).sramMark = s.sramMark := rfl
@[simp] theorem modCh_sramErr (n : Fin 16) (f : ChanH → ChanH) : (s.modCh n f).sramErr = s.sramErr := rfl
@[simp] theorem modCh_flash (n : Fin 16) (f : ChanH → ChanH) : (s.modCh n f).flash = s.flash := rfl
@[simp] theorem modCh_flashErr (n : Fin 16) (f : ChanH → ChanH) : (s.modCh n f).flashErr = s.flashErr := rfl
@[simp] theorem modCh_flashFlux (n : Fin 16) (f : ChanH → ChanH) : (s.modCh n f).flashFlux = s.flashFlux := rfl
@[simp] theorem modCh_sb (n : Fin 16) (f : ChanH → ChanH) : (s.modCh n f).sb = s.sb := rfl
@[simp] theorem modCh_tl (n : Fin 16) (f : ChanH → ChanH) : (s.modCh n f).tl = s.tl := rfl
@[simp] theorem modCh_tt (n : Fin 16) (f : ChanH → ChanH) : (s.modCh n f).tt = s.tt := rfl
@[simp] theorem modCh_mani (n : Fin 16) (f : ChanH → ChanH) : (s.modCh n f).mani = s.mani := rfl
@[simp] theorem modCh_lanes (n : Fin 16) (f : ChanH → ChanH) : (s.modCh n f).lanes = s.lanes := rfl
@[simp] theorem modCh_rfx (n : Fin 16) (f : ChanH → ChanH) : (s.modCh n f).rfx = s.rfx := rfl
@[simp] theorem modCh_ov (n : Fin 16) (f : ChanH → ChanH) : (s.modCh n f).ov = s.ov := rfl
@[simp] theorem modCh_ss (n : Fin 16) (f : ChanH → ChanH) : (s.modCh n f).ss = s.ss := rfl
@[simp] theorem modCh_sh (n : Fin 16) (f : ChanH → ChanH) : (s.modCh n f).sh = s.sh := rfl
@[simp] theorem modCh_shTurn (n : Fin 16) (f : ChanH → ChanH) : (s.modCh n f).shTurn = s.shTurn := rfl
@[simp] theorem modCh_pool (n : Fin 16) (f : ChanH → ChanH) : (s.modCh n f).pool = s.pool := rfl
@[simp] theorem modCh_pt (n : Fin 16) (f : ChanH → ChanH) : (s.modCh n f).pt = s.pt := rfl
@[simp] theorem modCh_cs (n : Fin 16) (f : ChanH → ChanH) : (s.modCh n f).cs = s.cs := rfl
@[simp] theorem modCh_spx (n : Fin 16) (f : ChanH → ChanH) : (s.modCh n f).spx = s.spx := rfl
@[simp] theorem modCh_rc (n : Fin 16) (f : ChanH → ChanH) : (s.modCh n f).rc = s.rc := rfl
@[simp] theorem modCh_dbg (n : Fin 16) (f : ChanH → ChanH) : (s.modCh n f).dbg = s.dbg := rfl
@[simp] theorem modCh_nextReq (n : Fin 16) (f : ChanH → ChanH) : (s.modCh n f).nextReq = s.nextReq := rfl
@[simp] theorem modCh_freeIdx (n : Fin 16) (f : ChanH → ChanH) : (s.modCh n f).freeIdx = s.freeIdx := rfl
@[simp] theorem modCh_pending (n : Fin 16) (f : ChanH → ChanH) : (s.modCh n f).pending = s.pending := rfl

/-! ### setLane -/

@[simp] theorem setLane_regs (n : Fin 16) (x : LaneH) : (s.setLane n x).regs = s.regs := rfl
@[simp] theorem setLane_now (n : Fin 16) (x : LaneH) : (s.setLane n x).now = s.now := rfl
@[simp] theorem setLane_phase (n : Fin 16) (x : LaneH) : (s.setLane n x).phase = s.phase := rfl
@[simp] theorem setLane_pwr (n : Fin 16) (x : LaneH) : (s.setLane n x).pwr = s.pwr := rfl
@[simp] theorem setLane_otp (n : Fin 16) (x : LaneH) : (s.setLane n x).otp = s.otp := rfl
@[simp] theorem setLane_straps (n : Fin 16) (x : LaneH) : (s.setLane n x).straps = s.straps := rfl
@[simp] theorem setLane_image (n : Fin 16) (x : LaneH) : (s.setLane n x).image = s.image := rfl
@[simp] theorem setLane_rst (n : Fin 16) (x : LaneH) : (s.setLane n x).rst = s.rst := rfl
@[simp] theorem setLane_slp (n : Fin 16) (x : LaneH) : (s.setLane n x).slp = s.slp := rfl
@[simp] theorem setLane_machs (n : Fin 16) (x : LaneH) : (s.setLane n x).machs = s.machs := rfl
@[simp] theorem setLane_triads (n : Fin 16) (x : LaneH) : (s.setLane n x).triads = s.triads := rfl
@[simp] theorem setLane_sram (n : Fin 16) (x : LaneH) : (s.setLane n x).sram = s.sram := rfl
@[simp] theorem setLane_sramMark (n : Fin 16) (x : LaneH) : (s.setLane n x).sramMark = s.sramMark := rfl
@[simp] theorem setLane_sramErr (n : Fin 16) (x : LaneH) : (s.setLane n x).sramErr = s.sramErr := rfl
@[simp] theorem setLane_flash (n : Fin 16) (x : LaneH) : (s.setLane n x).flash = s.flash := rfl
@[simp] theorem setLane_flashErr (n : Fin 16) (x : LaneH) : (s.setLane n x).flashErr = s.flashErr := rfl
@[simp] theorem setLane_flashFlux (n : Fin 16) (x : LaneH) : (s.setLane n x).flashFlux = s.flashFlux := rfl
@[simp] theorem setLane_sb (n : Fin 16) (x : LaneH) : (s.setLane n x).sb = s.sb := rfl
@[simp] theorem setLane_tl (n : Fin 16) (x : LaneH) : (s.setLane n x).tl = s.tl := rfl
@[simp] theorem setLane_tt (n : Fin 16) (x : LaneH) : (s.setLane n x).tt = s.tt := rfl
@[simp] theorem setLane_mani (n : Fin 16) (x : LaneH) : (s.setLane n x).mani = s.mani := rfl
@[simp] theorem setLane_chs (n : Fin 16) (x : LaneH) : (s.setLane n x).chs = s.chs := rfl
@[simp] theorem setLane_rfx (n : Fin 16) (x : LaneH) : (s.setLane n x).rfx = s.rfx := rfl
@[simp] theorem setLane_ov (n : Fin 16) (x : LaneH) : (s.setLane n x).ov = s.ov := rfl
@[simp] theorem setLane_ss (n : Fin 16) (x : LaneH) : (s.setLane n x).ss = s.ss := rfl
@[simp] theorem setLane_sh (n : Fin 16) (x : LaneH) : (s.setLane n x).sh = s.sh := rfl
@[simp] theorem setLane_shTurn (n : Fin 16) (x : LaneH) : (s.setLane n x).shTurn = s.shTurn := rfl
@[simp] theorem setLane_pool (n : Fin 16) (x : LaneH) : (s.setLane n x).pool = s.pool := rfl
@[simp] theorem setLane_pt (n : Fin 16) (x : LaneH) : (s.setLane n x).pt = s.pt := rfl
@[simp] theorem setLane_cs (n : Fin 16) (x : LaneH) : (s.setLane n x).cs = s.cs := rfl
@[simp] theorem setLane_spx (n : Fin 16) (x : LaneH) : (s.setLane n x).spx = s.spx := rfl
@[simp] theorem setLane_rc (n : Fin 16) (x : LaneH) : (s.setLane n x).rc = s.rc := rfl
@[simp] theorem setLane_dbg (n : Fin 16) (x : LaneH) : (s.setLane n x).dbg = s.dbg := rfl
@[simp] theorem setLane_nextReq (n : Fin 16) (x : LaneH) : (s.setLane n x).nextReq = s.nextReq := rfl
@[simp] theorem setLane_freeIdx (n : Fin 16) (x : LaneH) : (s.setLane n x).freeIdx = s.freeIdx := rfl
@[simp] theorem setLane_pending (n : Fin 16) (x : LaneH) : (s.setLane n x).pending = s.pending := rfl

/-! ### modShu -/

@[simp] theorem modShu_regs (n : Fin 16) (f : ShuntH → ShuntH) : (s.modShu n f).regs = s.regs := rfl
@[simp] theorem modShu_now (n : Fin 16) (f : ShuntH → ShuntH) : (s.modShu n f).now = s.now := rfl
@[simp] theorem modShu_phase (n : Fin 16) (f : ShuntH → ShuntH) : (s.modShu n f).phase = s.phase := rfl
@[simp] theorem modShu_pwr (n : Fin 16) (f : ShuntH → ShuntH) : (s.modShu n f).pwr = s.pwr := rfl
@[simp] theorem modShu_otp (n : Fin 16) (f : ShuntH → ShuntH) : (s.modShu n f).otp = s.otp := rfl
@[simp] theorem modShu_straps (n : Fin 16) (f : ShuntH → ShuntH) : (s.modShu n f).straps = s.straps := rfl
@[simp] theorem modShu_image (n : Fin 16) (f : ShuntH → ShuntH) : (s.modShu n f).image = s.image := rfl
@[simp] theorem modShu_rst (n : Fin 16) (f : ShuntH → ShuntH) : (s.modShu n f).rst = s.rst := rfl
@[simp] theorem modShu_slp (n : Fin 16) (f : ShuntH → ShuntH) : (s.modShu n f).slp = s.slp := rfl
@[simp] theorem modShu_machs (n : Fin 16) (f : ShuntH → ShuntH) : (s.modShu n f).machs = s.machs := rfl
@[simp] theorem modShu_triads (n : Fin 16) (f : ShuntH → ShuntH) : (s.modShu n f).triads = s.triads := rfl
@[simp] theorem modShu_sram (n : Fin 16) (f : ShuntH → ShuntH) : (s.modShu n f).sram = s.sram := rfl
@[simp] theorem modShu_sramMark (n : Fin 16) (f : ShuntH → ShuntH) : (s.modShu n f).sramMark = s.sramMark := rfl
@[simp] theorem modShu_sramErr (n : Fin 16) (f : ShuntH → ShuntH) : (s.modShu n f).sramErr = s.sramErr := rfl
@[simp] theorem modShu_flash (n : Fin 16) (f : ShuntH → ShuntH) : (s.modShu n f).flash = s.flash := rfl
@[simp] theorem modShu_flashErr (n : Fin 16) (f : ShuntH → ShuntH) : (s.modShu n f).flashErr = s.flashErr := rfl
@[simp] theorem modShu_flashFlux (n : Fin 16) (f : ShuntH → ShuntH) : (s.modShu n f).flashFlux = s.flashFlux := rfl
@[simp] theorem modShu_sb (n : Fin 16) (f : ShuntH → ShuntH) : (s.modShu n f).sb = s.sb := rfl
@[simp] theorem modShu_tl (n : Fin 16) (f : ShuntH → ShuntH) : (s.modShu n f).tl = s.tl := rfl
@[simp] theorem modShu_tt (n : Fin 16) (f : ShuntH → ShuntH) : (s.modShu n f).tt = s.tt := rfl
@[simp] theorem modShu_mani (n : Fin 16) (f : ShuntH → ShuntH) : (s.modShu n f).mani = s.mani := rfl
@[simp] theorem modShu_chs (n : Fin 16) (f : ShuntH → ShuntH) : (s.modShu n f).chs = s.chs := rfl
@[simp] theorem modShu_lanes (n : Fin 16) (f : ShuntH → ShuntH) : (s.modShu n f).lanes = s.lanes := rfl
@[simp] theorem modShu_rfx (n : Fin 16) (f : ShuntH → ShuntH) : (s.modShu n f).rfx = s.rfx := rfl
@[simp] theorem modShu_ov (n : Fin 16) (f : ShuntH → ShuntH) : (s.modShu n f).ov = s.ov := rfl
@[simp] theorem modShu_ss (n : Fin 16) (f : ShuntH → ShuntH) : (s.modShu n f).ss = s.ss := rfl
@[simp] theorem modShu_shTurn (n : Fin 16) (f : ShuntH → ShuntH) : (s.modShu n f).shTurn = s.shTurn := rfl
@[simp] theorem modShu_pool (n : Fin 16) (f : ShuntH → ShuntH) : (s.modShu n f).pool = s.pool := rfl
@[simp] theorem modShu_pt (n : Fin 16) (f : ShuntH → ShuntH) : (s.modShu n f).pt = s.pt := rfl
@[simp] theorem modShu_cs (n : Fin 16) (f : ShuntH → ShuntH) : (s.modShu n f).cs = s.cs := rfl
@[simp] theorem modShu_spx (n : Fin 16) (f : ShuntH → ShuntH) : (s.modShu n f).spx = s.spx := rfl
@[simp] theorem modShu_rc (n : Fin 16) (f : ShuntH → ShuntH) : (s.modShu n f).rc = s.rc := rfl
@[simp] theorem modShu_dbg (n : Fin 16) (f : ShuntH → ShuntH) : (s.modShu n f).dbg = s.dbg := rfl
@[simp] theorem modShu_nextReq (n : Fin 16) (f : ShuntH → ShuntH) : (s.modShu n f).nextReq = s.nextReq := rfl
@[simp] theorem modShu_freeIdx (n : Fin 16) (f : ShuntH → ShuntH) : (s.modShu n f).freeIdx = s.freeIdx := rfl
@[simp] theorem modShu_pending (n : Fin 16) (f : ShuntH → ShuntH) : (s.modShu n f).pending = s.pending := rfl

/-! ### setMark -/

@[simp] theorem setMark_regs (w : Nat) (k : Mark) : (s.setMark w k).regs = s.regs := rfl
@[simp] theorem setMark_now (w : Nat) (k : Mark) : (s.setMark w k).now = s.now := rfl
@[simp] theorem setMark_phase (w : Nat) (k : Mark) : (s.setMark w k).phase = s.phase := rfl
@[simp] theorem setMark_pwr (w : Nat) (k : Mark) : (s.setMark w k).pwr = s.pwr := rfl
@[simp] theorem setMark_otp (w : Nat) (k : Mark) : (s.setMark w k).otp = s.otp := rfl
@[simp] theorem setMark_straps (w : Nat) (k : Mark) : (s.setMark w k).straps = s.straps := rfl
@[simp] theorem setMark_image (w : Nat) (k : Mark) : (s.setMark w k).image = s.image := rfl
@[simp] theorem setMark_rst (w : Nat) (k : Mark) : (s.setMark w k).rst = s.rst := rfl
@[simp] theorem setMark_slp (w : Nat) (k : Mark) : (s.setMark w k).slp = s.slp := rfl
@[simp] theorem setMark_machs (w : Nat) (k : Mark) : (s.setMark w k).machs = s.machs := rfl
@[simp] theorem setMark_triads (w : Nat) (k : Mark) : (s.setMark w k).triads = s.triads := rfl
@[simp] theorem setMark_sram (w : Nat) (k : Mark) : (s.setMark w k).sram = s.sram := rfl
@[simp] theorem setMark_sramErr (w : Nat) (k : Mark) : (s.setMark w k).sramErr = s.sramErr := rfl
@[simp] theorem setMark_flash (w : Nat) (k : Mark) : (s.setMark w k).flash = s.flash := rfl
@[simp] theorem setMark_flashErr (w : Nat) (k : Mark) : (s.setMark w k).flashErr = s.flashErr := rfl
@[simp] theorem setMark_flashFlux (w : Nat) (k : Mark) : (s.setMark w k).flashFlux = s.flashFlux := rfl
@[simp] theorem setMark_sb (w : Nat) (k : Mark) : (s.setMark w k).sb = s.sb := rfl
@[simp] theorem setMark_tl (w : Nat) (k : Mark) : (s.setMark w k).tl = s.tl := rfl
@[simp] theorem setMark_tt (w : Nat) (k : Mark) : (s.setMark w k).tt = s.tt := rfl
@[simp] theorem setMark_mani (w : Nat) (k : Mark) : (s.setMark w k).mani = s.mani := rfl
@[simp] theorem setMark_chs (w : Nat) (k : Mark) : (s.setMark w k).chs = s.chs := rfl
@[simp] theorem setMark_lanes (w : Nat) (k : Mark) : (s.setMark w k).lanes = s.lanes := rfl
@[simp] theorem setMark_rfx (w : Nat) (k : Mark) : (s.setMark w k).rfx = s.rfx := rfl
@[simp] theorem setMark_ov (w : Nat) (k : Mark) : (s.setMark w k).ov = s.ov := rfl
@[simp] theorem setMark_ss (w : Nat) (k : Mark) : (s.setMark w k).ss = s.ss := rfl
@[simp] theorem setMark_sh (w : Nat) (k : Mark) : (s.setMark w k).sh = s.sh := rfl
@[simp] theorem setMark_shTurn (w : Nat) (k : Mark) : (s.setMark w k).shTurn = s.shTurn := rfl
@[simp] theorem setMark_pool (w : Nat) (k : Mark) : (s.setMark w k).pool = s.pool := rfl
@[simp] theorem setMark_pt (w : Nat) (k : Mark) : (s.setMark w k).pt = s.pt := rfl
@[simp] theorem setMark_cs (w : Nat) (k : Mark) : (s.setMark w k).cs = s.cs := rfl
@[simp] theorem setMark_spx (w : Nat) (k : Mark) : (s.setMark w k).spx = s.spx := rfl
@[simp] theorem setMark_rc (w : Nat) (k : Mark) : (s.setMark w k).rc = s.rc := rfl
@[simp] theorem setMark_dbg (w : Nat) (k : Mark) : (s.setMark w k).dbg = s.dbg := rfl
@[simp] theorem setMark_nextReq (w : Nat) (k : Mark) : (s.setMark w k).nextReq = s.nextReq := rfl
@[simp] theorem setMark_freeIdx (w : Nat) (k : Mark) : (s.setMark w k).freeIdx = s.freeIdx := rfl
@[simp] theorem setMark_pending (w : Nat) (k : Mark) : (s.setMark w k).pending = s.pending := rfl

/-! ### sramStore -/

@[simp] theorem sramStore_regs (a : Nat) (bs : List Byte) : (s.sramStore a bs).regs = s.regs := rfl
@[simp] theorem sramStore_now (a : Nat) (bs : List Byte) : (s.sramStore a bs).now = s.now := rfl
@[simp] theorem sramStore_phase (a : Nat) (bs : List Byte) : (s.sramStore a bs).phase = s.phase := rfl
@[simp] theorem sramStore_pwr (a : Nat) (bs : List Byte) : (s.sramStore a bs).pwr = s.pwr := rfl
@[simp] theorem sramStore_otp (a : Nat) (bs : List Byte) : (s.sramStore a bs).otp = s.otp := rfl
@[simp] theorem sramStore_straps (a : Nat) (bs : List Byte) : (s.sramStore a bs).straps = s.straps := rfl
@[simp] theorem sramStore_image (a : Nat) (bs : List Byte) : (s.sramStore a bs).image = s.image := rfl
@[simp] theorem sramStore_rst (a : Nat) (bs : List Byte) : (s.sramStore a bs).rst = s.rst := rfl
@[simp] theorem sramStore_slp (a : Nat) (bs : List Byte) : (s.sramStore a bs).slp = s.slp := rfl
@[simp] theorem sramStore_machs (a : Nat) (bs : List Byte) : (s.sramStore a bs).machs = s.machs := rfl
@[simp] theorem sramStore_triads (a : Nat) (bs : List Byte) : (s.sramStore a bs).triads = s.triads := rfl
@[simp] theorem sramStore_sramErr (a : Nat) (bs : List Byte) : (s.sramStore a bs).sramErr = s.sramErr := rfl
@[simp] theorem sramStore_flash (a : Nat) (bs : List Byte) : (s.sramStore a bs).flash = s.flash := rfl
@[simp] theorem sramStore_flashErr (a : Nat) (bs : List Byte) : (s.sramStore a bs).flashErr = s.flashErr := rfl
@[simp] theorem sramStore_flashFlux (a : Nat) (bs : List Byte) : (s.sramStore a bs).flashFlux = s.flashFlux := rfl
@[simp] theorem sramStore_sb (a : Nat) (bs : List Byte) : (s.sramStore a bs).sb = s.sb := rfl
@[simp] theorem sramStore_tl (a : Nat) (bs : List Byte) : (s.sramStore a bs).tl = s.tl := rfl
@[simp] theorem sramStore_tt (a : Nat) (bs : List Byte) : (s.sramStore a bs).tt = s.tt := rfl
@[simp] theorem sramStore_mani (a : Nat) (bs : List Byte) : (s.sramStore a bs).mani = s.mani := rfl
@[simp] theorem sramStore_chs (a : Nat) (bs : List Byte) : (s.sramStore a bs).chs = s.chs := rfl
@[simp] theorem sramStore_lanes (a : Nat) (bs : List Byte) : (s.sramStore a bs).lanes = s.lanes := rfl
@[simp] theorem sramStore_rfx (a : Nat) (bs : List Byte) : (s.sramStore a bs).rfx = s.rfx := rfl
@[simp] theorem sramStore_ov (a : Nat) (bs : List Byte) : (s.sramStore a bs).ov = s.ov := rfl
@[simp] theorem sramStore_ss (a : Nat) (bs : List Byte) : (s.sramStore a bs).ss = s.ss := rfl
@[simp] theorem sramStore_sh (a : Nat) (bs : List Byte) : (s.sramStore a bs).sh = s.sh := rfl
@[simp] theorem sramStore_shTurn (a : Nat) (bs : List Byte) : (s.sramStore a bs).shTurn = s.shTurn := rfl
@[simp] theorem sramStore_pool (a : Nat) (bs : List Byte) : (s.sramStore a bs).pool = s.pool := rfl
@[simp] theorem sramStore_pt (a : Nat) (bs : List Byte) : (s.sramStore a bs).pt = s.pt := rfl
@[simp] theorem sramStore_cs (a : Nat) (bs : List Byte) : (s.sramStore a bs).cs = s.cs := rfl
@[simp] theorem sramStore_spx (a : Nat) (bs : List Byte) : (s.sramStore a bs).spx = s.spx := rfl
@[simp] theorem sramStore_rc (a : Nat) (bs : List Byte) : (s.sramStore a bs).rc = s.rc := rfl
@[simp] theorem sramStore_dbg (a : Nat) (bs : List Byte) : (s.sramStore a bs).dbg = s.dbg := rfl
@[simp] theorem sramStore_nextReq (a : Nat) (bs : List Byte) : (s.sramStore a bs).nextReq = s.nextReq := rfl
@[simp] theorem sramStore_freeIdx (a : Nat) (bs : List Byte) : (s.sramStore a bs).freeIdx = s.freeIdx := rfl
@[simp] theorem sramStore_pending (a : Nat) (bs : List Byte) : (s.sramStore a bs).pending = s.pending := rfl

end Sys2Proof.Machine
end

