-- ==== Sys2Proof/Laws/Word.lean ====
section
/-! SUPPORT. Lists of pairs held in order of their keys, parts of a group of like parts, and fields of a word. -/

namespace Sys2Proof

variable {α : Type}

/-! ### Lists of pairs -/

@[simp] theorem lookupNat_insertNat_same (k : Nat) (x : α) (l : List (Nat × α)) : lookupNat k (insertNat k x l) = some x := by
  induction l with
  | nil => simp [insertNat, lookupNat]
  | cons p r ih =>
    obtain ⟨j, y⟩ := p
    simp only [insertNat]
    split
    · simp [lookupNat]
    · split
      · simp [lookupNat]
      · rename_i h1 h2
        have : ¬ j = k := fun h => h2 h.symm
        simp [lookupNat, this, ih]

theorem lookupNat_insertNat_ne {k j : Nat} (h : j ≠ k) (x : α) (l : List (Nat × α)) :
    lookupNat j (insertNat k x l) = lookupNat j l := by
  induction l with
  | nil => simp [insertNat, lookupNat, Ne.symm h]
  | cons p r ih =>
    obtain ⟨i, y⟩ := p
    simp only [insertNat]
    split
    · simp [lookupNat, Ne.symm h]
    · split
      · rename_i h1 h2
        subst h2
        simp [lookupNat, Ne.symm h]
      · simp [lookupNat, ih]

/-- A list rises strictly from above a bound. -/
theorem sortedNat_cons (j : Nat) (y : α) (r : List (Nat × α)) :
    sortedNat ((j, y) :: r) = (r.all (fun p => decide (j < p.1)) && sortedNat r) := by
  induction r generalizing j y with
  | nil => simp [sortedNat]
  | cons p r ih =>
    obtain ⟨k, z⟩ := p
    rw [sortedNat, ih k z]
    by_cases h : j < k
    · simp only [h, decide_true, Bool.true_and, List.all_cons]
      have : ∀ (l : List (Nat × α)), l.all (fun p => decide (k < p.1)) = true → l.all (fun p => decide (j < p.1)) = true := by
        intro l hl
        simp only [List.all_eq_true, decide_eq_true_eq] at *
        exact fun x hx => lt_trans h (hl x hx)
      cases hk : r.all (fun p => decide (k < p.1)) with
      | true => simp [this r hk]
      | false => simp
    · simp [h]

theorem insertNat_all {k : Nat} {x : α} {q : Nat × α → Bool} (l : List (Nat × α)) (hx : q (k, x) = true) (hl : l.all q = true) :
    (insertNat k x l).all q = true := by
  induction l with
  | nil => simp [insertNat, hx]
  | cons p r ih =>
    obtain ⟨j, y⟩ := p
    simp only [List.all_cons, Bool.and_eq_true] at hl
    simp only [insertNat]
    split
    · simp [hx, hl.1, hl.2]
    · split
      · simp [hx, hl.2]
      · simp [hl.1, ih hl.2]

theorem sortedNat_insertNat (k : Nat) (x : α) (l : List (Nat × α)) (h : sortedNat l = true) : sortedNat (insertNat k x l) = true := by
  induction l with
  | nil => simp [insertNat, sortedNat]
  | cons p r ih =>
    obtain ⟨j, y⟩ := p
    have h' := h
    rw [sortedNat_cons, Bool.and_eq_true] at h'
    simp only [insertNat]
    split
    · rename_i hkj
      rw [sortedNat_cons, Bool.and_eq_true]
      refine ⟨?_, h⟩
      have := h'.1
      simp only [List.all_eq_true, decide_eq_true_eq, List.mem_cons] at *
      rintro p (rfl | hp)
      · exact hkj
      · exact lt_trans hkj (this p hp)
    · split
      · rename_i h1 h2
        subst h2
        rw [sortedNat_cons, Bool.and_eq_true]
        exact h'
      · rename_i h1 h2
        rw [sortedNat_cons, Bool.and_eq_true]
        refine ⟨insertNat_all r ?_ h'.1, ih h'.2⟩
        simp only [decide_eq_true_eq]
        omega

theorem eraseNat_all {k : Nat} {q : Nat × α → Bool} (l : List (Nat × α)) (hl : l.all q = true) : (eraseNat k l).all q = true := by
  induction l with
  | nil => simp [eraseNat]
  | cons p r ih =>
    obtain ⟨j, y⟩ := p
    simp only [List.all_cons, Bool.and_eq_true] at hl
    simp only [eraseNat]
    split
    · exact hl.2
    · simp [hl.1, ih hl.2]

theorem sortedNat_eraseNat (k : Nat) (l : List (Nat × α)) (h : sortedNat l = true) : sortedNat (eraseNat k l) = true := by
  induction l with
  | nil => simp [eraseNat, sortedNat]
  | cons p r ih =>
    obtain ⟨j, y⟩ := p
    have h' := h
    rw [sortedNat_cons, Bool.and_eq_true] at h'
    simp only [eraseNat]
    split
    · exact h'.2
    · rw [sortedNat_cons, Bool.and_eq_true]
      exact ⟨eraseNat_all r h'.1, ih h'.2⟩

theorem lookupNat_none_of_below {k : Nat} (l : List (Nat × α)) (h : l.all (fun p => decide (k < p.1)) = true) : lookupNat k l = none := by
  induction l with
  | nil => rfl
  | cons p r ih =>
    obtain ⟨j, y⟩ := p
    simp only [List.all_cons, Bool.and_eq_true, decide_eq_true_eq] at h
    have : ¬ j = k := by omega
    simp [lookupNat, this, ih h.2]

theorem lookupNat_eraseNat_same (k : Nat) (l : List (Nat × α)) (h : sortedNat l = true) : lookupNat k (eraseNat k l) = none := by
  induction l with
  | nil => rfl
  | cons p r ih =>
    obtain ⟨j, y⟩ := p
    rw [sortedNat_cons, Bool.and_eq_true] at h
    simp only [eraseNat]
    split
    · rename_i hj
      subst hj
      exact lookupNat_none_of_below r h.1
    · rename_i hj
      simp [lookupNat, hj, ih h.2]

theorem lookupNat_eraseNat_ne {k j : Nat} (hne : j ≠ k) (l : List (Nat × α)) : lookupNat j (eraseNat k l) = lookupNat j l := by
  induction l with
  | nil => rfl
  | cons p r ih =>
    obtain ⟨i, y⟩ := p
    simp only [eraseNat]
    split
    · rename_i hi
      subst hi
      simp [lookupNat, Ne.symm hne]
    · simp [lookupNat, ih]

/-! ### Parts of a group -/

variable {n : Nat}

@[simp] theorem vget_vset_same (v : Vector α n) (i : Fin n) (x : α) : vget (vset v i x) i = x := by
  simp [vget, vset]

theorem vget_vset_ne {i j : Fin n} (h : j ≠ i) (v : Vector α n) (x : α) : vget (vset v i x) j = vget v j := by
  have : ¬ i.1 = j.1 := fun e => h (Fin.ext e.symm)
  simp [vget, vset, this]

theorem vset_vset (v : Vector α n) (i : Fin n) (x y : α) : vset (vset v i x) i y = vset v i y := by
  simp [vset]

@[simp] theorem vset_vget (v : Vector α n) (i : Fin n) : vset v i (vget v i) = v := by
  simp [vset, vget]

end Sys2Proof

namespace Sys2Proof.Machine

/-! ### Fields of a word (R10, R13) -/

theorem fieldOf_testBit (w : Word) (lo wd i : Nat) : (fieldOf w lo wd).testBit i = (decide (i < wd) && w.getLsbD (lo + i)) := by
  simp [fieldOf, Nat.testBit_mod_two_pow, Nat.testBit_shiftRight, BitVec.getLsbD]

theorem fieldPut_getLsbD (w : Word) (lo wd v i : Nat) :
    (fieldPut w lo wd v).getLsbD i
      = (decide (i < 32) && if lo ≤ i ∧ i < lo + wd then v.testBit (i - lo) else w.getLsbD i) := by
  simp only [fieldPut, fieldMask, BitVec.getLsbD_or, BitVec.getLsbD_and, BitVec.getLsbD_not, BitVec.getLsbD_ofNat,
    Nat.testBit_shiftLeft, Nat.testBit_mod_two_pow, Nat.testBit_two_pow_sub_one]
  by_cases h32 : i < 32
  · by_cases h1 : lo ≤ i
    · by_cases h2 : i < lo + wd
      · have h3 : i - lo < wd := by omega
        simp [h32, h1, h2, h3]
      · have h3 : ¬ i - lo < wd := by omega
        simp [h32, h1, h2, h3]
    · simp [h32, h1]
  · simp [h32, BitVec.getLsbD_of_ge w i (by omega)]

/-- The field that has been written. -/
theorem fieldOf_fieldPut_same {lo wd : Nat} (h : lo + wd ≤ 32) (w : Word) (v : Nat) : fieldOf (fieldPut w lo wd v) lo wd = v % 2 ^ wd := by
  apply Nat.eq_of_testBit_eq
  intro i
  rw [fieldOf_testBit, fieldPut_getLsbD, Nat.testBit_mod_two_pow]
  by_cases hi : i < wd
  · have h1 : lo + i < 32 := by omega
    simp [hi, h1]
  · simp [hi]

/-- Another field of the same word. -/
theorem fieldOf_fieldPut_ne {lo wd lo' wd' : Nat} (h : lo + wd ≤ lo' ∨ lo' + wd' ≤ lo) (w : Word) (v : Nat) :
    fieldOf (fieldPut w lo wd v) lo' wd' = fieldOf w lo' wd' := by
  apply Nat.eq_of_testBit_eq
  intro i
  rw [fieldOf_testBit, fieldOf_testBit, fieldPut_getLsbD]
  by_cases hi : i < wd'
  · have h1 : ¬ (lo ≤ lo' + i ∧ lo' + i < lo + wd) := by omega
    rw [if_neg h1]
    by_cases h2 : lo' + i < 32
    · simp [h2]
    · simp [h2, BitVec.getLsbD_of_ge w (lo' + i) (by omega)]
  · simp [hi]

theorem fieldOf_lt (w : Word) (lo wd : Nat) : fieldOf w lo wd < 2 ^ wd := Nat.mod_lt _ (Nat.two_pow_pos wd)

end Sys2Proof.Machine
end

