-- ==== Sys2Proof/Laws/Memory.lean ====
section
/-! SUPPORT. Reads of memory after a write, and that every memory operation keeps the canonical form. -/

namespace Sys2Proof.Machine

variable {d : Byte}

theorem cellGet_cellPut_same (l : List Host.Cell) (h : sortedNat l = true) (a : Nat) (b : Byte) :
    cellGet d (cellPut d l a b) a = b := by
  unfold cellGet cellPut
  split
  · rename_i hb
    simp [lookupNat_eraseNat_same a l h, hb]
  · simp

theorem cellGet_cellPut_ne {a c : Nat} (h : c ≠ a) (l : List Host.Cell) (b : Byte) :
    cellGet d (cellPut d l a b) c = cellGet d l c := by
  unfold cellGet cellPut
  split
  · rw [lookupNat_eraseNat_ne h]
  · rw [lookupNat_insertNat_ne h]

theorem wf_cellPut (l : List Host.Cell) (h : Memory.wf d l = true) (a : Nat) (b : Byte) : Memory.wf d (cellPut d l a b) = true := by
  unfold Memory.wf at *
  rw [Bool.and_eq_true] at *
  unfold cellPut
  split
  · exact ⟨sortedNat_eraseNat a l h.1, eraseNat_all l h.2⟩
  · rename_i hb
    exact ⟨sortedNat_insertNat a b l h.1, insertNat_all l (by simpa using hb) h.2⟩

theorem wf_cellsPut (bs : List Byte) (l : List Host.Cell) (h : Memory.wf d l = true) (a : Nat) :
    Memory.wf d (cellsPut d l a bs) = true := by
  induction bs generalizing l a with
  | nil => exact h
  | cons b r ih => exact ih _ (wf_cellPut l h a b) (a + 1)

/-- A byte outside those written. -/
theorem cellGet_cellsPut_out {c : Nat} (bs : List Byte) (l : List Host.Cell) (a : Nat) (h : c < a ∨ a + bs.length ≤ c) :
    cellGet d (cellsPut d l a bs) c = cellGet d l c := by
  induction bs generalizing l a with
  | nil => rfl
  | cons b r ih =>
    simp only [List.length_cons] at h
    rw [cellsPut, ih _ (a + 1) (by omega), cellGet_cellPut_ne (by omega)]

/-- A byte that has been written. -/
theorem cellGet_cellsPut_in (bs : List Byte) (l : List Host.Cell) (hl : Memory.wf d l = true) (a i : Nat) (hi : i < bs.length) :
    cellGet d (cellsPut d l a bs) (a + i) = bs[i] := by
  induction bs generalizing l a i with
  | nil => simp at hi
  | cons b r ih =>
    cases i with
    | zero =>
      rw [cellsPut, cellGet_cellsPut_out r _ (a + 1) (by omega)]
      simp only [Nat.add_zero, List.getElem_cons_zero]
      have := hl
      unfold Memory.wf at this
      rw [Bool.and_eq_true] at this
      exact cellGet_cellPut_same l this.1 a b
    | succ k =>
      have hk : k < r.length := by simpa using hi
      have := ih (cellPut d l a b) (wf_cellPut l hl a b) (a + 1) k hk
      rw [cellsPut, show a + (k + 1) = a + 1 + k by omega, this]
      simp

theorem leBytes_length (v n : Nat) : (leBytes v n).length = n := by
  induction n generalizing v with
  | zero => rfl
  | succ n ih => simp [leBytes, ih]

/-- A byte of SRAM outside those stored. -/
theorem sramByte_sramStore_out (s : State) (a : Nat) (bs : List Byte) (c : Nat) (h : c < a ∨ a + bs.length ≤ c) :
    (s.sramStore a bs).sramByte c = s.sramByte c :=
  cellGet_cellsPut_out bs s.sram a h

/-- A byte of SRAM that is stored. -/
theorem sramByte_sramStore_in (s : State) (hs : Memory.wf sramDefault s.sram = true) (a : Nat) (bs : List Byte) (i : Nat)
    (hi : i < bs.length) : (s.sramStore a bs).sramByte (a + i) = bs[i] :=
  cellGet_cellsPut_in bs s.sram hs a i hi

theorem wf_sramStore (s : State) (hs : Memory.wf sramDefault s.sram = true) (a : Nat) (bs : List Byte) :
    Memory.wf sramDefault (s.sramStore a bs).sram = true :=
  wf_cellsPut bs s.sram hs a

end Sys2Proof.Machine
end

