-- ==== Sys2Proof/Laws/Machines.lean ====
section
/-! SUPPORT. Reads of a machine's registers after a write, and of channels, lanes, triads and shunters. -/

namespace Sys2Proof.Machine

variable (s : State)

theorem machIdx_inj {k m : Mach} (h : k ≠ m) : k.idx ≠ m.idx := by
  cases k <;> cases m <;> first | exact absurd rfl h | decide

@[simp] theorem mach_setMach_same (m : Mach) (x : MachState) : (s.setMach m x).mach m = x := by
  simp [State.mach, State.setMach]

theorem mach_setMach_ne {k m : Mach} (h : k ≠ m) (x : MachState) : (s.setMach m x).mach k = s.mach k := by
  simp [State.mach, State.setMach, vget_vset_ne (machIdx_inj h)]

@[simp] theorem mach_modMach_same (m : Mach) (f : MachState → MachState) : (s.modMach m f).mach m = f (s.mach m) := by
  simp [State.modMach]

theorem mach_modMach_ne {k m : Mach} (h : k ≠ m) (f : MachState → MachState) : (s.modMach m f).mach k = s.mach k := by
  simp [State.modMach, mach_setMach_ne s h]

theorem mach_of_machs {s t : State} (h : t.machs = s.machs) (m : Mach) : t.mach m = s.mach m := by
  simp [State.mach, h]

/-- The machine after a write of a general register. -/
theorem mach_wg (m : Mach) (r : BitVec 5) (w : Word) :
    (s.wg m r w).mach m = if r = 0 then s.mach m else { s.mach m with g := vset (s.mach m).g r.toFin w } := by
  unfold State.wg
  split <;> simp

theorem mach_wg_ne {k m : Mach} (h : k ≠ m) (r : BitVec 5) (w : Word) : (s.wg m r w).mach k = s.mach k := by
  unfold State.wg
  split
  · rfl
  · exact mach_modMach_ne s h _

@[simp] theorem rg_zero (m : Mach) : s.rg m 0 = 0 := by simp [State.rg]

theorem rg_wg_same (m : Mach) (r : BitVec 5) (w : Word) : (s.wg m r w).rg m r = if r = 0 then 0 else w := by
  unfold State.rg
  rw [mach_wg]
  by_cases h : r = 0
  · rw [if_pos h, if_pos h]
  · rw [if_neg h, if_neg h, if_neg h]
    exact vget_vset_same _ _ _

theorem rg_wg_ne (m : Mach) {r q : BitVec 5} (h : q ≠ r) (w : Word) : (s.wg m r w).rg m q = s.rg m q := by
  have : q.toFin ≠ r.toFin := fun e => h (BitVec.eq_of_toFin_eq e)
  unfold State.rg
  rw [mach_wg]
  by_cases hq : q = 0
  · rw [if_pos hq, if_pos hq]
  · rw [if_neg hq, if_neg hq]
    split
    · rfl
    · exact vget_vset_ne this _ _

@[simp] theorem rc_wg (m : Mach) (r : BitVec 5) (w : Word) (k : Fin 32) : (s.wg m r w).rc' m k = s.rc' m k := by
  unfold State.rc'
  rw [mach_wg]
  split <;> rfl

theorem rc_wc_same (m : Mach) (k : Fin 32) (w : Word) : (s.wc m k w).rc' m k = w := by
  simp [State.rc', State.wc]

theorem rc_wc_ne (m : Mach) {k j : Fin 32} (h : j ≠ k) (w : Word) : (s.wc m k w).rc' m j = s.rc' m j := by
  simp [State.rc', State.wc, vget_vset_ne h]

/-! ### Other parts -/

@[simp] theorem ch_setCh_same (n : Fin 16) (x : ChanH) : (s.setCh n x).ch n = x := by simp [State.ch, State.setCh]
theorem ch_setCh_ne {k n : Fin 16} (h : k ≠ n) (x : ChanH) : (s.setCh n x).ch k = s.ch k := by
  simp [State.ch, State.setCh, vget_vset_ne h]
@[simp] theorem ch_modCh_same (n : Fin 16) (f : ChanH → ChanH) : (s.modCh n f).ch n = f (s.ch n) := by simp [State.modCh]
theorem ch_modCh_ne {k n : Fin 16} (h : k ≠ n) (f : ChanH → ChanH) : (s.modCh n f).ch k = s.ch k := by
  simp [State.modCh, ch_setCh_ne s h]

@[simp] theorem lane_setLane_same (n : Fin 16) (x : LaneH) : (s.setLane n x).lane n = x := by simp [State.lane, State.setLane]
theorem lane_setLane_ne {k n : Fin 16} (h : k ≠ n) (x : LaneH) : (s.setLane n x).lane k = s.lane k := by
  simp [State.lane, State.setLane, vget_vset_ne h]

@[simp] theorem shu_modShu_same (n : Fin 16) (f : ShuntH → ShuntH) : (s.modShu n f).shu n = f (s.shu n) := by
  simp [State.modShu, State.shu, State.setShu]
theorem shu_modShu_ne {k n : Fin 16} (h : k ≠ n) (f : ShuntH → ShuntH) : (s.modShu n f).shu k = s.shu k := by
  simp [State.modShu, State.shu, State.setShu, vget_vset_ne h]

theorem triIdx_inj {t u : Triad} (h : t ≠ u) : t.idx ≠ u.idx := by
  cases t <;> cases u <;> first | exact absurd rfl h | decide

@[simp] theorem tri_modTri_same (t : Triad) (f : TriadH → TriadH) : (s.modTri t f).tri t = f (s.tri t) := by
  simp [State.modTri, State.tri, State.setTri]
theorem tri_modTri_ne {t u : Triad} (h : t ≠ u) (f : TriadH → TriadH) : (s.modTri u f).tri t = s.tri t := by
  simp [State.modTri, State.tri, State.setTri, vget_vset_ne (triIdx_inj h)]

end Sys2Proof.Machine
end

