-- ==== Sys2Proof/Laws/Regs.lean ====
section
/-! SUPPORT. Reads of device registers and of their fields after a write. -/

namespace Sys2Proof.Machine

variable (s : State)

/-! ### Registers -/

@[simp] theorem getR_setR_same (r : Rg) (w : Word) : (s.setR r w).getR r = w := by
  simp [State.getR, State.setR]

theorem getR_setR_addr {r q : Rg} (h : q.addr = r.addr) (w : Word) : (s.setR r w).getR q = w := by
  simp [State.getR, State.setR, h]

theorem getR_setR_ne {r q : Rg} (h : q.addr ≠ r.addr) (w : Word) : (s.setR r w).getR q = s.getR q := by
  simp [State.getR, State.setR, lookupNat_insertNat_ne h]

theorem getR_setF_ne {f : Fd} {q : Rg} (h : q.addr ≠ f.reg.addr) (v : Nat) : (s.setF f v).getR q = s.getR q :=
  getR_setR_ne s h _

theorem getR_of_regs {s t : State} (h : t.regs = s.regs) (r : Rg) : t.getR r = s.getR r := by
  simp [State.getR, h]

theorem getF_of_regs {s t : State} (h : t.regs = s.regs) (f : Fd) : t.getF f = s.getF f := by
  simp [State.getF, getR_of_regs h]

/-! ### Fields -/

theorem getF_setR (f : Fd) (w : Word) : (s.setR f.reg w).getF f = fieldOf w f.lo f.width := by
  simp [State.getF]

theorem getF_setR_ne {r : Rg} {f : Fd} (h : f.reg.addr ≠ r.addr) (w : Word) : (s.setR r w).getF f = s.getF f := by
  simp [State.getF, getR_setR_ne s h]

theorem getF_setF_same (f : Fd) (h : f.lo + f.width ≤ 32) (v : Nat) : (s.setF f v).getF f = v % 2 ^ f.width := by
  simp [State.getF, State.setF, fieldOf_fieldPut_same h]

/-- Another register. -/
theorem getF_setF_reg {f g : Fd} (h : g.reg.addr ≠ f.reg.addr) (v : Nat) : (s.setF f v).getF g = s.getF g := by
  simp [State.getF, State.setF, getR_setR_ne s h]

/-- Another field of the same register. -/
theorem getF_setF_field {f g : Fd} (hr : g.reg = f.reg) (h : f.lo + f.width ≤ g.lo ∨ g.lo + g.width ≤ f.lo) (v : Nat) :
    (s.setF f v).getF g = s.getF g := by
  simp [State.getF, State.setF, hr, fieldOf_fieldPut_ne h]

theorem getF_lt (f : Fd) : s.getF f < 2 ^ f.width := fieldOf_lt _ _ _

theorem isF_onF_same (f : Fd) (h : f.lo + f.width ≤ 32) (hw : 0 < f.width) : (s.onF f).isF f = true := by
  have : 1 < 2 ^ f.width := Nat.one_lt_two_pow (by omega)
  simp [State.isF, State.onF, getF_setF_same s f h, Nat.mod_eq_of_lt this]

theorem isF_offF_same (f : Fd) (h : f.lo + f.width ≤ 32) : (s.offF f).isF f = false := by
  simp [State.isF, State.offF, getF_setF_same s f h]

/-- A count that has not reached its limit. -/
theorem getF_incF_same (f : Fd) (h : f.lo + f.width ≤ 32) : (s.incF f).getF f = min (2 ^ f.width - 1) (s.getF f + 1) := by
  have hp : 0 < 2 ^ f.width := Nat.two_pow_pos _
  have hl := getF_lt s f
  simp only [State.incF, State.addF, getF_setF_same s f h, satAdd]
  split
  · rw [Nat.mod_eq_of_lt (by omega)]; omega
  · rw [Nat.mod_eq_of_lt (by omega)]; omega

theorem getR_onF_ne {f : Fd} {q : Rg} (h : q.addr ≠ f.reg.addr) : (s.onF f).getR q = s.getR q := getR_setF_ne s h _
theorem getR_offF_ne {f : Fd} {q : Rg} (h : q.addr ≠ f.reg.addr) : (s.offF f).getR q = s.getR q := getR_setF_ne s h _
theorem getR_incF_ne {f : Fd} {q : Rg} (h : q.addr ≠ f.reg.addr) : (s.incF f).getR q = s.getR q := getR_setF_ne s h _
theorem getR_setBitF_ne {f : Fd} {q : Rg} (h : q.addr ≠ f.reg.addr) (i : Nat) : (s.setBitF f i).getR q = s.getR q :=
  getR_setF_ne s h _

/-- A bit that has been set in a field. -/
theorem bitF_setBitF_same (f : Fd) (h : f.lo + f.width ≤ 32) (i : Nat) (hi : i < f.width) : (s.setBitF f i).bitF f i = true := by
  have h1 : Nat.testBit (1 <<< i) i = true := by simp [Nat.testBit_shiftLeft]
  simp [State.bitF, State.setBitF, getF_setF_same s f h, Nat.testBit_mod_two_pow, hi, h1]

end Sys2Proof.Machine
end

