-- ==== Sys2Proof/Laws/Settle.lean ====
section
/-! SUPPORT. The end of a command, and the issue of an instruction of a machine. -/

namespace Sys2Proof.Machine

variable (s : State)

/-- With nothing due, a command ends as it stands. -/
@[simp] theorem settle_of_due {s : State} (h : s.rst.due = []) : s.settle = s := by
  simp [State.settle, State.settleN, h]

theorem ok_of_due {s : State} (h : s.rst.due = []) : ok s = .next s := by
  simp [ok, settle_of_due h]

theorem ok_eq_next : ok s = .next s.settle := rfl

/-- Everything that an issue can answer: the machine does not issue or its page heals, an interrupt takes its slot, the
fetch traps, or the instruction acts. -/
theorem issue_cases (m : Mach) (f : State → State) :
    s.issue m f = ok s ∨ s.issue m f = ok ((s.endStep m).slotEntry m) ∨ (((s.endStep m).fetch m).1 = false ∧ s.issue m f = ok ((s.endStep m).fetch m).2)
      ∨ (((s.endStep m).fetch m).1 = true ∧ s.issue m f = ok (f ((s.endStep m).fetch m).2)) := by
  unfold State.issue
  split
  · exact .inl rfl
  · split
    · exact .inr (.inl rfl)
    · split
      · exact .inl rfl
      · split
        · rename_i heq
          right; right; right; simp [heq]
        · rename_i heq
          right; right; left; simp [heq]

/-- An instruction that issues, whose slot no interrupt takes and whose fetch succeeds, acts on the state that its fetch leaves. -/
theorem issue_of_fetch {m : Mach} (hi : s.canIssue m = true) (he : s.entryDue m = false) (hh : s.healingAt (s.mach m).pc.toNat 4 = false)
    {u : State} (hf : (s.endStep m).fetch m = (true, u)) (f : State → State) : s.issue m f = ok (f u) := by
  simp [State.issue, hi, he, hh, hf]

theorem endStep_of_no_step {m : Mach} (h : (s.mach m).step = false) : s.endStep m = s := by
  simp [State.endStep, h]

end Sys2Proof.Machine
end

