-- ==== Sys2Proof/Laws/Canon.lean ====
section
/-! SUPPORT. The canonical form of the register file and of the memories under the updates that the meanings are made
of. The lemmas of the files CanonState, CanonBlocks and CanonCommands say the same of each operation. -/

namespace Sys2Proof.Machine

/-- The canonical form, of the three parts of the state that it speaks of. -/
def CanonC (r : List (Nat × Word)) (a b : List Host.Cell) : Prop :=
  sortedNat r = true ∧ (Memory.wf sramDefault a && Memory.wf flashDefault b) = true

theorem canon_iff (s : State) : s.Canon = CanonC s.regs s.sram s.flash := rfl

/-- An outcome whose state, if it has one, is in canonical form. -/
def CanonO : Host.Outcome State Fault Refusal → Prop
  | .next t => t.Canon
  | _ => True

variable {s : State}

theorem canon_of_parts {t : State} (h : s.Canon) (hr : t.regs = s.regs) (ha : t.sram = s.sram) (hb : t.flash = s.flash) : t.Canon := by
  rw [canon_iff] at *
  rw [hr, ha, hb]
  exact h

theorem canon_regs (h : s.Canon) {r : List (Nat × Word)} (hr : sortedNat r = true) : State.Canon { s with regs := r } := ⟨hr, h.2⟩

theorem canon_setR (h : s.Canon) (r : Rg) (w : Word) : (s.setR r w).Canon := ⟨sortedNat_insertNat _ _ _ h.1, h.2⟩
theorem canon_setF (h : s.Canon) (f : Fd) (v : Nat) : (s.setF f v).Canon := canon_setR h _ _
theorem canon_onF (h : s.Canon) (f : Fd) : (s.onF f).Canon := canon_setF h _ _
theorem canon_offF (h : s.Canon) (f : Fd) : (s.offF f).Canon := canon_setF h _ _

theorem canon_sramStore (h : s.Canon) (a : Nat) (bs : List Byte) : (s.sramStore a bs).Canon := by
  have h2 := h.2
  unfold State.memWf at h2
  rw [Bool.and_eq_true] at h2
  refine ⟨h.1, ?_⟩
  unfold State.memWf
  rw [Bool.and_eq_true]
  exact ⟨wf_cellsPut bs s.sram h2.1 a, h2.2⟩

theorem canon_flashPut (h : s.Canon) (a : Nat) (bs : List Byte) : State.Canon { s with flash := cellsPut flashDefault s.flash a bs } := by
  have h2 := h.2
  unfold State.memWf at h2
  rw [Bool.and_eq_true] at h2
  refine ⟨h.1, ?_⟩
  unfold State.memWf
  rw [Bool.and_eq_true]
  exact ⟨h2.1, wf_cellsPut bs s.flash h2.2 a⟩

theorem canon_each {α : Type} {f : α → State → State} (hf : ∀ x s, State.Canon s → State.Canon (f x s)) (l : List α) (h : s.Canon) :
    (State.each f l s).Canon := by
  induction l generalizing s with
  | nil => exact h
  | cons x r ih => exact ih (hf x s h)

theorem canon_foldl {α : Type} {f : State → α → State} (hf : ∀ s x, State.Canon s → State.Canon (f s x)) (l : List α) (h : s.Canon) :
    (l.foldl f s).Canon := by
  induction l generalizing s with
  | nil => exact h
  | cons x r ih => exact ih (hf s x h)

/-! ### How the lemmas of the operations are put together -/

theorem canonO_nextI {s : State} (h : s.Canon) : CanonO (.next s) := h
theorem canonO_okI {s : State} (h : s.settle.Canon) : CanonO (ok s) := h
theorem canon_of_pair {α : Type} {p : α × State} {a : α} {t : State} (h : p = (a, t)) (hc : p.2.Canon) : t.Canon := by
  subst h
  exact hc
theorem canon_upd {s : State} {xnow xphase xpwr xotp xstraps ximage xrst xslp xmachs xtriads xsramMark xsramErr xflashErr xflashFlux xsb xtl xtt xmani xchs xlanes xrfx xov xss xsh xshTurn xpool xpt xcs xspx xrc xdbg xnextReq xfreeIdx xpending} (h : s.Canon) :
    State.Canon (State.mk s.regs xnow xphase xpwr xotp xstraps ximage xrst xslp xmachs xtriads s.sram xsramMark xsramErr s.flash xflashErr xflashFlux xsb xtl xtt xmani xchs xlanes xrfx xov xss xsh xshTurn xpool xpt xcs xspx xrc xdbg xnextReq xfreeIdx xpending) := h
theorem canon_of_triple {α β : Type} {p : α × β × State} {a : α} {b : β} {t : State} (h : p = (a, b, t)) (hc : p.2.2.Canon) : t.Canon := by
  subst h
  exact hc

theorem sortedNat_filter {α : Type} (f : Nat × α → Bool) (l : List (Nat × α)) (h : sortedNat l = true) : sortedNat (l.filter f) = true := by
  induction l with
  | nil => rfl
  | cons a r ih =>
    obtain ⟨j, y⟩ := a
    rw [sortedNat_cons, Bool.and_eq_true] at h
    rw [List.filter_cons]
    split
    · rw [sortedNat_cons, Bool.and_eq_true]
      refine ⟨?_, ih h.2⟩
      have h1 := h.1
      simp only [List.all_eq_true, decide_eq_true_eq] at h1 ⊢
      intro p hp
      exact h1 p (List.mem_of_mem_filter hp)
    · exact ih h.2

theorem wf_filter (d : Byte) (f : Nat × Byte → Bool) (l : List Host.Cell) (h : Memory.wf d l = true) : Memory.wf d (l.filter f) = true := by
  unfold Memory.wf at *
  rw [Bool.and_eq_true] at *
  refine ⟨sortedNat_filter f l h.1, ?_⟩
  have h2 := h.2
  simp only [List.all_eq_true] at h2 ⊢
  intro p hp
  exact h2 p (List.mem_of_mem_filter hp)

theorem canon_filters {s t : State} (h : s.Canon) (f g : Nat × Byte → Bool) (hr : t.regs = s.regs) (ha : t.sram = s.sram.filter f)
    (hb : t.flash = s.flash.filter g) : t.Canon := by
  have h2 := h.2
  unfold State.memWf at h2
  rw [Bool.and_eq_true] at h2
  refine ⟨?_, ?_⟩
  · unfold State.regsWf
    rw [hr]
    exact h.1
  · unfold State.memWf
    rw [ha, hb, Bool.and_eq_true]
    exact ⟨wf_filter _ _ _ h2.1, wf_filter _ _ _ h2.2⟩

theorem canon_ite {c : Prop} [Decidable c] {s t : State} (hs : c → s.Canon) (ht : ¬ c → t.Canon) : (if c then s else t).Canon := by
  split
  · exact hs ‹_›
  · exact ht ‹_›

theorem filter_all {α : Type} (l : List α) : l.filter (fun _ => true) = l := by simp

end Sys2Proof.Machine
end

