-- ==== Sys2Proof/Laws/CanonState.lean ====
section
/-! SUPPORT. The canonical form of the register file and of the memories is kept by every operation of: the registers, resets, the signal box, the tally watchdog, Orvia, traps. One
lemma for each operation, `canon_<name>`: a state in canonical form is taken to one. -/

set_option linter.unusedTactic false
set_option linter.unreachableTactic false

namespace Sys2Proof.Machine

/-! ### Ops -/

theorem canon_addF (s : State) (f : Fd) (k : Nat) (hC : s.Canon) : (State.addF s f k).Canon := by
  unfold State.addF
  with_reducible (repeat' first | assumption | apply canon_setF)

theorem canon_incF (s : State) (f : Fd) (hC : s.Canon) : (State.incF s f).Canon := by
  unfold State.incF
  with_reducible (repeat' first | assumption | apply canon_addF)

theorem canon_setBitF (s : State) (f : Fd) (i : Nat) (hC : s.Canon) : (State.setBitF s f i).Canon := by
  unfold State.setBitF
  with_reducible (repeat' first | assumption | apply canon_setF)

theorem canon_clrBitF (s : State) (f : Fd) (i : Nat) (hC : s.Canon) : (State.clrBitF s f i).Canon := by
  unfold State.clrBitF
  with_reducible (repeat' first | assumption | apply canon_setF | split)

theorem canon_setMach (s : State) (m : Mach) (x : MachState) (hC : s.Canon) : (State.setMach s m x).Canon := by
  unfold State.setMach
  with_reducible (repeat' first | assumption | (fail_if_no_progress (apply canon_upd)))

theorem canon_modMach (s : State) (m : Mach) (f : MachState → MachState) (hC : s.Canon) : (State.modMach s m f).Canon := by
  unfold State.modMach
  with_reducible (repeat' first | assumption | apply canon_setMach)

theorem canon_setTri (s : State) (t : Triad) (x : TriadH) (hC : s.Canon) : (State.setTri s t x).Canon := by
  unfold State.setTri
  with_reducible (repeat' first | assumption | (fail_if_no_progress (apply canon_upd)))

theorem canon_modTri (s : State) (t : Triad) (f : TriadH → TriadH) (hC : s.Canon) : (State.modTri s t f).Canon := by
  unfold State.modTri
  with_reducible (repeat' first | assumption | apply canon_setTri)

theorem canon_setCh (s : State) (n : Fin 16) (x : ChanH) (hC : s.Canon) : (State.setCh s n x).Canon := by
  unfold State.setCh
  with_reducible (repeat' first | assumption | (fail_if_no_progress (apply canon_upd)))

theorem canon_modCh (s : State) (n : Fin 16) (f : ChanH → ChanH) (hC : s.Canon) : (State.modCh s n f).Canon := by
  unfold State.modCh
  with_reducible (repeat' first | assumption | apply canon_setCh)

theorem canon_setLane (s : State) (n : Fin 16) (x : LaneH) (hC : s.Canon) : (State.setLane s n x).Canon := by
  unfold State.setLane
  with_reducible (repeat' first | assumption | (fail_if_no_progress (apply canon_upd)))

theorem canon_modLane (s : State) (n : Fin 16) (f : LaneH → LaneH) (hC : s.Canon) : (State.modLane s n f).Canon := by
  unfold State.modLane
  with_reducible (repeat' first | assumption | apply canon_setLane)

theorem canon_setShu (s : State) (n : Fin 16) (x : ShuntH) (hC : s.Canon) : (State.setShu s n x).Canon := by
  unfold State.setShu
  with_reducible (repeat' first | assumption | (fail_if_no_progress (apply canon_upd)))

theorem canon_modShu (s : State) (n : Fin 16) (f : ShuntH → ShuntH) (hC : s.Canon) : (State.modShu s n f).Canon := by
  unfold State.modShu
  with_reducible (repeat' first | assumption | apply canon_setShu)

theorem canon_takeFree (s : State) (hC : s.Canon) : (State.takeFree s).2.Canon := by
  unfold State.takeFree
  with_reducible (repeat' first | assumption | (fail_if_no_progress (apply canon_upd)))

theorem canon_wg (s : State) (m : Mach) (r : BitVec 5) (w : Word) (hC : s.Canon) : (State.wg s m r w).Canon := by
  unfold State.wg
  with_reducible (repeat' first | assumption | intro _ | apply canon_modMach | split | (fail_if_no_progress (apply canon_upd)))

theorem canon_wc (s : State) (m : Mach) (k : Fin 32) (w : Word) (hC : s.Canon) : (State.wc s m k w).Canon := by
  unfold State.wc
  with_reducible (repeat' first | assumption | intro _ | apply canon_modMach | (fail_if_no_progress (apply canon_upd)))

theorem canon_setPc (s : State) (m : Mach) (a : Word) (hC : s.Canon) : (State.setPc s m a).Canon := by
  unfold State.setPc
  with_reducible (repeat' first | assumption | intro _ | apply canon_modMach | (fail_if_no_progress (apply canon_upd)))

theorem canon_setMark (s : State) (w : Nat) (k : Mark) (hC : s.Canon) : (State.setMark s w k).Canon := by
  unfold State.setMark
  with_reducible (repeat' first | assumption | (fail_if_no_progress (apply canon_upd)))

theorem canon_setRstBit (s : State) (b : Blk) (hC : s.Canon) : (State.setRstBit s b).Canon := by
  unfold State.setRstBit
  with_reducible (repeat' first | assumption | apply canon_setBitF | split | (refine canon_of_pair (by assumption) ?_))

theorem canon_clrRstBit (s : State) (b : Blk) (hC : s.Canon) : (State.clrRstBit s b).Canon := by
  unfold State.clrRstBit
  with_reducible (repeat' first | assumption | apply canon_clrBitF | split | (refine canon_of_pair (by assumption) ?_))

theorem canon_bumpGen (s : State) (k : Nat) (hC : s.Canon) : (State.bumpGen s k).Canon := by
  unfold State.bumpGen
  with_reducible (repeat' first | assumption | apply canon_setF)

/-! ### Abandon -/

theorem canon_addFlux (s : State) (k : Nat) (hC : s.Canon) : (State.addFlux s k).Canon := by
  unfold State.addFlux
  with_reducible (repeat' first | assumption | split | (fail_if_no_progress (apply canon_upd)))

theorem canon_dropFlux (s : State) (k : Nat) (hC : s.Canon) : (State.dropFlux s k).Canon := by
  unfold State.dropFlux
  with_reducible (repeat' first | assumption | (fail_if_no_progress (apply canon_upd)))

theorem canon_flashProgram (s : State) (a : Nat) (bs : List Byte) (h : s.Canon) : (State.flashProgram s a bs).Canon := canon_flashPut h a bs

theorem canon_calCommitWord (s : State) (hC : s.Canon) : (State.calCommitWord s).Canon := by
  unfold State.calCommitWord
  with_reducible (repeat' first | assumption | apply canon_flashProgram)

theorem canon_calSwitch (s : State) (hC : s.Canon) : (State.calSwitch s).Canon := by
  unfold State.calSwitch
  with_reducible (repeat' first | assumption | ((fail_if_no_progress extract_lets +onlyGivenNames x); (try (refine (fun hx : State.Canon x => ?_ : State.Canon x → _) ?_; (on_goal 1 => clear_value x); (on_goal 2 => unfold x)))) | apply canon_setF | apply canon_onF | apply canon_offF | split | (fail_if_no_progress (apply canon_upd)))

theorem canon_calInterrupt (s : State) (hC : s.Canon) : (State.calInterrupt s).Canon := by
  unfold State.calInterrupt
  with_reducible (repeat' first | assumption | ((fail_if_no_progress extract_lets +onlyGivenNames x); (try (refine (fun hx : State.Canon x => ?_ : State.Canon x → _) ?_; (on_goal 1 => clear_value x); (on_goal 2 => unfold x)))) | apply canon_takeFree | apply canon_calCommitWord | split | (refine canon_of_pair (by assumption) ?_))

theorem canon_calAbort (s : State) (hC : s.Canon) : (State.calAbort s).Canon := by
  unfold State.calAbort
  with_reducible (repeat' first | assumption | ((fail_if_no_progress extract_lets +onlyGivenNames x); (try (refine (fun hx : State.Canon x => ?_ : State.Canon x → _) ?_; (on_goal 1 => clear_value x); (on_goal 2 => unfold x)))) | apply canon_calCommitWord | apply canon_calSwitch | apply canon_offF | apply canon_incF | split | (refine canon_of_pair (by assumption) ?_))

theorem canon_setSess (s : State) (sid : Nat) (e : SessEntry) (hC : s.Canon) : (State.setSess s sid e).Canon := by
  unfold State.setSess
  with_reducible (repeat' first | assumption | split | (fail_if_no_progress (apply canon_upd)))

theorem canon_modSess (s : State) (sid : Nat) (f : SessEntry → SessEntry) (hC : s.Canon) : (State.modSess s sid f).Canon := by
  unfold State.modSess
  with_reducible (repeat' first | assumption | apply canon_setSess)

theorem canon_entryDo (s : State) (sid : Nat) (clear : Bool) (hC : s.Canon) : (State.entryDo s sid clear).Canon := by
  unfold State.entryDo
  with_reducible (repeat' first | assumption | intro _ | ((fail_if_no_progress extract_lets +onlyGivenNames x); (try (refine (fun hx : State.Canon x => ?_ : State.Canon x → _) ?_; (on_goal 1 => clear_value x); (on_goal 2 => unfold x)))) | apply canon_setSess | apply canon_each | apply canon_setR | apply canon_modSess | split | (fail_if_no_progress (apply canon_upd)))

theorem canon_entryCmdCheck (s : State) (sid : Nat) (hC : s.Canon) : (State.entryCmdCheck s sid).Canon := by
  unfold State.entryCmdCheck
  with_reducible (repeat' first | assumption | ((fail_if_no_progress extract_lets +onlyGivenNames x); (try (refine (fun hx : State.Canon x => ?_ : State.Canon x → _) ?_; (on_goal 1 => clear_value x); (on_goal 2 => unfold x)))) | apply canon_entryDo | split | (refine canon_of_pair (by assumption) ?_))

theorem canon_entryCmd (s : State) (clear : Bool) (hC : s.Canon) : (State.entryCmd s clear).Canon := by
  unfold State.entryCmd
  with_reducible (repeat' first | assumption | intro _ | ((fail_if_no_progress extract_lets +onlyGivenNames x); (try (refine (fun hx : State.Canon x => ?_ : State.Canon x → _) ?_; (on_goal 1 => clear_value x); (on_goal 2 => unfold x)))) | apply canon_modSess | apply canon_entryCmdCheck | (fail_if_no_progress (apply canon_upd)))

theorem canon_endReq (s : State) (r : OutReq) (hC : s.Canon) : (State.endReq s r).Canon := by
  unfold State.endReq
  with_reducible (repeat' first | assumption | intro _ | ((fail_if_no_progress extract_lets +onlyGivenNames x); (try (refine (fun hx : State.Canon x => ?_ : State.Canon x → _) ?_; (on_goal 1 => clear_value x); (on_goal 2 => unfold x)))) | apply canon_modSess | apply canon_entryCmdCheck | (fail_if_no_progress (apply canon_upd)))

theorem canon_dropOut (s : State) (p : OutReq → Bool) (hC : s.Canon) : (State.dropOut s p).Canon := by
  unfold State.dropOut
  with_reducible (repeat' first | assumption | intro _ | apply canon_each | apply canon_endReq)

/-! ### Reset -/

theorem sortedNat_map_snd {f : Nat × Word → Nat × Word} (hf : ∀ p, (f p).1 = p.1) (l : List (Nat × Word)) (h : sortedNat l = true) :
    sortedNat (l.map f) = true := by
  induction l with
  | nil => rfl
  | cons a r ih =>
    obtain ⟨j, y⟩ := a
    rw [sortedNat_cons, Bool.and_eq_true] at h
    rw [List.map_cons, show f (j, y) = (j, (f (j, y)).2) from Prod.ext (hf (j, y)) rfl, sortedNat_cons, Bool.and_eq_true]
    refine ⟨?_, ih h.2⟩
    simp only [List.all_eq_true, List.mem_map, decide_eq_true_eq] at h ⊢
    rintro _ ⟨p, hp, rfl⟩
    rw [hf]
    exact h.1 p hp

theorem canon_resetRegs (s : State) (b : Blk) (h : s.Canon) : (State.resetRegs s b).Canon := by
  refine ⟨sortedNat_map_snd (fun p => ?_) _ h.1, h.2⟩
  split <;> rfl

theorem canon_freeUnits (s : State) (hC : s.Canon) : (State.freeUnits s).Canon := by
  unfold State.freeUnits
  with_reducible (repeat' first | assumption | intro _ | apply canon_each | apply canon_setF | split)

theorem canon_resetHidden (s : State) (a0 : Blk) (hC : s.Canon) : (State.resetHidden s a0).Canon := by
  unfold State.resetHidden
  with_reducible (repeat' first | assumption | ((fail_if_no_progress extract_lets +onlyGivenNames x); (try (refine (fun hx : State.Canon x => ?_ : State.Canon x → _) ?_; (on_goal 1 => clear_value x); (on_goal 2 => unfold x)))) | apply canon_freeUnits | apply canon_dropOut | apply canon_setCh | apply canon_setLane | split | (fail_if_no_progress (apply canon_upd)))

theorem canon_resetAbort (s : State) (a0 : Blk) (hC : s.Canon) : (State.resetAbort s a0).Canon := by
  unfold State.resetAbort
  repeat' first | with_reducible assumption | with_reducible apply canon_calAbort | split | (with_reducible refine canon_of_pair (by assumption) ?_) | (with_reducible refine canon_of_triple (by assumption) ?_) | (fail_if_no_progress (with_reducible apply canon_upd)) | (fail_if_no_progress beta_reduce) | (fail_if_no_progress dsimp only) | (fail_if_no_progress dsimp +zetaDelta only)

theorem canon_addDue (s : State) (l : List Due) (hC : s.Canon) : (State.addDue s l).Canon := by
  unfold State.addDue
  with_reducible (repeat' first | assumption | (fail_if_no_progress (apply canon_upd)))

theorem canon_enterBlock (s : State) (b : Blk) (hC : s.Canon) : (State.enterBlock s b).Canon := by
  unfold State.enterBlock
  with_reducible (repeat' first | assumption | ((fail_if_no_progress extract_lets +onlyGivenNames x); (try (refine (fun hx : State.Canon x => ?_ : State.Canon x → _) ?_; (on_goal 1 => clear_value x); (on_goal 2 => unfold x)))) | apply canon_addDue | apply canon_resetAbort | apply canon_setRstBit | apply canon_bumpGen | apply canon_resetHidden | apply canon_resetRegs)

theorem canon_releaseHold (s : State) (m : Mach) (hC : s.Canon) : (State.releaseHold s m).Canon := by
  unfold State.releaseHold
  with_reducible (repeat' first | assumption | apply canon_setR | split | (refine canon_of_pair (by assumption) ?_))

theorem canon_enterTriad (s : State) (t : Triad) (hC : s.Canon) : (State.enterTriad s t).Canon := by
  unfold State.enterTriad
  with_reducible (repeat' first | assumption | intro _ | ((fail_if_no_progress extract_lets +onlyGivenNames x); (try (refine (fun hx : State.Canon x => ?_ : State.Canon x → _) ?_; (on_goal 1 => clear_value x); (on_goal 2 => unfold x)))) | apply canon_dropOut | apply canon_addDue | apply canon_setRstBit | apply canon_bumpGen | apply canon_resetRegs | apply canon_setR | apply canon_modTri | apply canon_releaseHold | apply canon_setMach | split | (fail_if_no_progress (apply canon_upd)))

theorem canon_startReset (s : State) (a0 : Blk) (hC : s.Canon) : (State.startReset s a0).Canon := by
  unfold State.startReset
  repeat' first | with_reducible assumption | with_reducible apply canon_enterTriad | with_reducible apply canon_enterBlock | split | (with_reducible refine canon_of_pair (by assumption) ?_) | (with_reducible refine canon_of_triple (by assumption) ?_) | (fail_if_no_progress (with_reducible apply canon_upd)) | (fail_if_no_progress beta_reduce) | (fail_if_no_progress dsimp only) | (fail_if_no_progress dsimp +zetaDelta only)

theorem canon_deferReset (s : State) (b : Blk) (hC : s.Canon) : (State.deferReset s b).Canon := by
  unfold State.deferReset
  with_reducible (repeat' first | assumption | apply canon_setRstBit | (fail_if_no_progress (apply canon_upd)))

theorem canon_requestReset (s : State) (b : Blk) (hC : s.Canon) : (State.requestReset s b).Canon := by
  unfold State.requestReset
  with_reducible (repeat' first | assumption | apply canon_deferReset | apply canon_startReset | split | (refine canon_of_pair (by assumption) ?_))

theorem canon_bumpAll (s : State) (hC : s.Canon) : (State.bumpAll s).Canon := by
  unfold State.bumpAll
  with_reducible (repeat' first | assumption | intro _ | ((fail_if_no_progress extract_lets +onlyGivenNames x); (try (refine (fun hx : State.Canon x => ?_ : State.Canon x → _) ?_; (on_goal 1 => clear_value x); (on_goal 2 => unfold x)))) | apply canon_each | apply canon_bumpGen | split)

theorem canon_showFallback (s : State) (hC : s.Canon) : (State.showFallback s).Canon := by
  unfold State.showFallback
  with_reducible (repeat' first | assumption | apply canon_setF)

theorem canon_portLost (i : Nat) (s : State) (hC : s.Canon) : (State.portLost i s).Canon := by
  unfold State.portLost
  with_reducible (repeat' first | assumption | apply canon_incF | apply canon_setBitF | split)

theorem canon_mapRegs {x : State} (hx : x.Canon) (k : Nat → Word) {t : State} (hr : t.regs = x.regs.map (resetOne k))
    (ha : t.sram = []) (hb : t.flash = x.flash) : t.Canon := by
  have h2 := hx.2
  unfold State.memWf at h2
  rw [Bool.and_eq_true] at h2
  refine ⟨?_, ?_⟩
  · unfold State.regsWf
    rw [hr]
    exact sortedNat_map_snd (f := resetOne k) (fun _ => rfl) _ hx.1
  · unfold State.memWf
    rw [ha, hb, Bool.and_eq_true]
    exact ⟨rfl, h2.2⟩

theorem canon_chipReset (s : State) (h : s.Canon) : (State.chipReset s).Canon := by
  unfold State.chipReset
  split
  · exact h
  · extract_lets b x y z
    have hx : x.Canon := by
      unfold x
      refine canon_each (fun _ _ hs => canon_portLost _ _ hs) _ ?_
      exact canon_bumpAll _ (canon_calInterrupt _ h)
    have hy : y.Canon := by
      unfold y
      split
      · exact hx
      · exact canon_offF hx _
    have hz : z.Canon := by
      unfold z
      split
      · exact canon_onF (canon_offF hy _) _
      · exact hy
    clear_value z
    exact canon_showFallback _ (canon_mapRegs hz (keepMaskChip b) rfl rfl rfl)

theorem canon_powerOnReset (s : State) (h : s.Canon) : (State.powerOnReset s).Canon := by
  have h2 := h.2
  unfold State.memWf at h2
  rw [Bool.and_eq_true] at h2
  refine ⟨rfl, ?_⟩
  unfold State.memWf
  rw [Bool.and_eq_true]
  exact ⟨rfl, h2.2⟩

/-! ### Crcu -/

theorem canon_cuRefuse (s : State) (u : Fin 4) (hC : s.Canon) : (State.cuRefuse s u).Canon := by
  unfold State.cuRefuse
  with_reducible (repeat' first | assumption | apply canon_onF)

theorem canon_cuLoad (s : State) (u : Fin 4) (hC : s.Canon) : (State.cuLoad s u).Canon := by
  unfold State.cuLoad
  with_reducible (repeat' first | assumption | apply canon_setF | apply canon_offF)

theorem canon_cuEnter (s : State) (u : Fin 4) (bs : List Byte) (hC : s.Canon) : (State.cuEnter s u bs).Canon := by
  unfold State.cuEnter
  with_reducible (repeat' first | assumption | apply canon_setF | apply canon_addF)

theorem canon_cuClaim (s : State) (u : Fin 4) (hC : s.Canon) : (State.cuClaim s u).Canon := by
  unfold State.cuClaim
  with_reducible (repeat' first | assumption | apply canon_setF | apply canon_cuRefuse | split | (refine canon_of_pair (by assumption) ?_))

theorem canon_cuRelease (s : State) (u : Fin 4) (hC : s.Canon) : (State.cuRelease s u).Canon := by
  unfold State.cuRelease
  with_reducible (repeat' first | assumption | apply canon_offF | apply canon_cuRefuse | split | (refine canon_of_pair (by assumption) ?_))

theorem canon_cuStart (s : State) (u : Fin 4) (by_ : Agent) (hC : s.Canon) : (State.cuStart s u by_).Canon := by
  unfold State.cuStart
  with_reducible (repeat' first | assumption | apply canon_cuRefuse | apply canon_cuLoad | split)

theorem canon_cuFold (s : State) (u : Fin 4) (by_ : Agent) (hC : s.Canon) : (State.cuFold s u by_).Canon := by
  unfold State.cuFold
  with_reducible (repeat' first | assumption | ((fail_if_no_progress extract_lets +onlyGivenNames x); (try (refine (fun hx : State.Canon x => ?_ : State.Canon x → _) ?_; (on_goal 1 => clear_value x); (on_goal 2 => unfold x)))) | apply canon_cuRefuse | apply canon_cuEnter | split)

theorem canon_cuData (s : State) (u : Fin 4) (n : Nat) (v : Word) (by_ : Agent) (hC : s.Canon) : (State.cuData s u n v by_).Canon := by
  unfold State.cuData
  with_reducible (repeat' first | assumption | apply canon_cuRefuse | apply canon_cuEnter | split)

theorem canon_cuCtrl (s : State) (u : Fin 4) (v : Word) (by_ : Agent) (hC : s.Canon) : (State.cuCtrl s u v by_).Canon := by
  unfold State.cuCtrl
  with_reducible (repeat' first | assumption | ((fail_if_no_progress extract_lets +onlyGivenNames x); (try (refine (fun hx : State.Canon x => ?_ : State.Canon x → _) ?_; (on_goal 1 => clear_value x); (on_goal 2 => unfold x)))) | apply canon_cuRefuse | apply canon_cuClaim | apply canon_cuRelease | apply canon_cuStart | apply canon_cuFold | split)

/-! ### Read -/

theorem canon_rollLatch (s : State) (src : Nat) (sb : Nat) (id : Nat) (hC : s.Canon) : (State.rollLatch s src sb id).Canon := by
  unfold State.rollLatch
  with_reducible (repeat' first | assumption | ((fail_if_no_progress extract_lets +onlyGivenNames x); (try (refine (fun hx : State.Canon x => ?_ : State.Canon x → _) ?_; (on_goal 1 => clear_value x); (on_goal 2 => unfold x)))) | apply canon_onF | apply canon_setF | (fail_if_no_progress (apply canon_upd)))

theorem canon_rollJoin (s : State) (p : RollSnap) (src : Nat) (sb : Nat) (id : Nat) (hC : s.Canon) : (State.rollJoin s p src sb id).Canon := by
  unfold State.rollJoin
  with_reducible (repeat' first | assumption | ((fail_if_no_progress extract_lets +onlyGivenNames x); (try (refine (fun hx : State.Canon x => ?_ : State.Canon x → _) ?_; (on_goal 1 => clear_value x); (on_goal 2 => unfold x)))) | apply canon_setF | split | (fail_if_no_progress (apply canon_upd)))

theorem canon_rollLocal (s : State) (src : Nat) (sb : Nat) (hC : s.Canon) : (State.rollLocal s src sb).Canon := by
  unfold State.rollLocal
  with_reducible (repeat' first | assumption | ((fail_if_no_progress extract_lets +onlyGivenNames x); (try (refine (fun hx : State.Canon x => ?_ : State.Canon x → _) ?_; (on_goal 1 => clear_value x); (on_goal 2 => unfold x)))) | apply canon_rollLatch | (fail_if_no_progress (apply canon_upd)))

/-! ### SigBox -/

theorem canon_nmiTo (s : State) (src : Nat) (m : Mach) (hC : s.Canon) : (State.nmiTo s src m).Canon := by
  unfold State.nmiTo
  with_reducible (repeat' first | assumption | intro _ | apply canon_modMach | split | (refine canon_of_pair (by assumption) ?_) | (fail_if_no_progress (apply canon_upd)))

theorem canon_nmiToTriad (s : State) (src : Nat) (t : Triad) (hC : s.Canon) : (State.nmiToTriad s src t).Canon := by
  unfold State.nmiToTriad
  with_reducible (repeat' first | assumption | intro _ | apply canon_each | apply canon_nmiTo)

theorem canon_setSticky (s : State) (src : Nat) (by_ : RaisedBy) (hC : s.Canon) : (State.setSticky s src by_).Canon := by
  unfold State.setSticky
  with_reducible (repeat' first | assumption | intro _ | ((fail_if_no_progress extract_lets +onlyGivenNames x); (try (refine (fun hx : State.Canon x => ?_ : State.Canon x → _) ?_; (on_goal 1 => clear_value x); (on_goal 2 => unfold x)))) | apply canon_setBitF | apply canon_modTri | split | (refine canon_of_pair (by assumption) ?_) | (fail_if_no_progress (apply canon_upd)))

theorem canon_strongRaise (s : State) (src : Nat) (by_ : RaisedBy) (errPins : Bool) (hC : s.Canon) : (State.strongRaise s src by_ errPins).Canon := by
  unfold State.strongRaise
  with_reducible (repeat' first | assumption | ((fail_if_no_progress extract_lets +onlyGivenNames x); (try (refine (fun hx : State.Canon x => ?_ : State.Canon x → _) ?_; (on_goal 1 => clear_value x); (on_goal 2 => unfold x)))) | apply canon_onF | apply canon_incF | apply canon_setF | split | (fail_if_no_progress (apply canon_upd)))

theorem canon_reactCore (s : State) (src : Nat) (by_ : RaisedBy) (hC : s.Canon) : (State.reactCore s src by_).Canon := by
  unfold State.reactCore
  with_reducible (repeat' first | assumption | intro _ | ((fail_if_no_progress extract_lets +onlyGivenNames x); (try (refine (fun hx : State.Canon x => ?_ : State.Canon x → _) ?_; (on_goal 1 => clear_value x); (on_goal 2 => unfold x)))) | apply canon_strongRaise | apply canon_each | apply canon_nmiToTriad | apply canon_requestReset | split)

theorem canon_raiseCore (s : State) (src : Nat) (by_ : RaisedBy) (hC : s.Canon) : (State.raiseCore s src by_).Canon := by
  unfold State.raiseCore
  with_reducible (repeat' first | assumption | apply canon_setSticky | apply canon_reactCore)

theorem canon_rollBySource (s : State) (src : Nat) (hC : s.Canon) : (State.rollBySource s src).Canon := by
  unfold State.rollBySource
  with_reducible (repeat' first | assumption | apply canon_rollJoin | apply canon_incF | apply canon_raiseCore | apply canon_rollLocal | split | (refine canon_of_pair (by assumption) ?_))

theorem canon_react (s : State) (src : Nat) (by_ : RaisedBy) (hC : s.Canon) : (State.react s src by_).Canon := by
  unfold State.react
  extract_lets live s1 s2 s3
  have h1 : s1.Canon := canon_reactCore _ _ _ hC
  have h2 : s2.Canon := canon_ite (fun _ => canon_rollBySource _ _ h1) (fun _ => h1)
  have h3 : s3.Canon := canon_onF (canon_incF _ _ h2) _
  clear_value s3
  refine canon_ite (fun _ => canon_ite (fun _ => h2) (fun _ => canon_chipReset _ (canon_upd h3))) (fun _ => h2)

theorem canon_raise (s : State) (src : Nat) (by_ : RaisedBy) (hC : s.Canon) : (State.raise s src by_).Canon := by
  unfold State.raise
  with_reducible (repeat' first | assumption | apply canon_setSticky | apply canon_react)

theorem canon_rollTrigger (s : State) (src : Nat) (hC : s.Canon) : (State.rollTrigger s src).1.Canon := by
  unfold State.rollTrigger
  with_reducible (repeat' first | assumption | apply canon_rollJoin | apply canon_incF | apply canon_raise | apply canon_rollLocal | split | (refine canon_of_pair (by assumption) ?_))

theorem canon_sbCfgWrite (s : State) (src : Nat) (v : Word) (hC : s.Canon) : (State.sbCfgWrite s src v).Canon := by
  unfold State.sbCfgWrite
  with_reducible (repeat' first | assumption | ((fail_if_no_progress extract_lets +onlyGivenNames x); (try (refine (fun hx : State.Canon x => ?_ : State.Canon x → _) ?_; (on_goal 1 => clear_value x); (on_goal 2 => unfold x)))) | apply canon_onF | apply canon_setF | split)

theorem canon_sbLock (s : State) (hC : s.Canon) : (State.sbLock s).Canon := by
  unfold State.sbLock
  with_reducible (repeat' first | assumption | apply canon_onF)

theorem canon_sbLockedWrite (s : State) (r : Rg) (mask : Word) (v : Word) (hC : s.Canon) : (State.sbLockedWrite s r mask v).Canon := by
  unfold State.sbLockedWrite
  with_reducible (repeat' first | assumption | apply canon_onF | apply canon_setR | split)

theorem canon_splitStands (s : State) (t : Triad) (hC : s.Canon) : (State.splitStands s t).Canon := by
  unfold State.splitStands
  with_reducible (repeat' first | assumption | apply canon_setSticky | split)

theorem canon_stickyClear (s : State) (i : Nat) (v : Word) (hC : s.Canon) : (State.stickyClear s i v).Canon := by
  unfold State.stickyClear
  with_reducible (repeat' first | assumption | intro _ | ((fail_if_no_progress extract_lets +onlyGivenNames x); (try (refine (fun hx : State.Canon x => ?_ : State.Canon x → _) ?_; (on_goal 1 => clear_value x); (on_goal 2 => unfold x)))) | apply canon_setR | apply canon_modTri | apply canon_splitStands | split | (fail_if_no_progress (apply canon_upd)))

/-! ### Tally -/

theorem canon_tlOpen (s : State) (hC : s.Canon) : (State.tlOpen s).Canon := by
  unfold State.tlOpen
  with_reducible (repeat' first | assumption | ((fail_if_no_progress extract_lets +onlyGivenNames x); (try (refine (fun hx : State.Canon x => ?_ : State.Canon x → _) ?_; (on_goal 1 => clear_value x); (on_goal 2 => unfold x)))) | apply canon_onF | split)

theorem canon_tlStartPeriod (s : State) (hC : s.Canon) : (State.tlStartPeriod s).Canon := by
  unfold State.tlStartPeriod
  extract_lets th s1 s2 s3
  have h1 : s1.Canon := canon_upd hC
  have h2 : s2.Canon := canon_offF (canon_setR h1 _ _) _
  have h3 : s3.Canon := canon_ite (fun _ => canon_onF h2 _) (fun _ => h2)
  exact canon_ite (fun _ => canon_tlOpen _ h3) (fun _ => h3)

theorem canon_tlStart (s : State) (hC : s.Canon) : (State.tlStart s).Canon := by
  unfold State.tlStart
  repeat' first | with_reducible assumption | with_reducible apply canon_onF | with_reducible apply canon_tlStartPeriod | split | (with_reducible refine canon_of_pair (by assumption) ?_) | (with_reducible refine canon_of_triple (by assumption) ?_) | (fail_if_no_progress (with_reducible apply canon_upd)) | (fail_if_no_progress beta_reduce) | (fail_if_no_progress dsimp only) | (fail_if_no_progress dsimp +zetaDelta only)

theorem canon_tlEraseStart (s : State) (hC : s.Canon) : (State.tlEraseStart s).Canon := by
  unfold State.tlEraseStart
  with_reducible (repeat' first | assumption | apply canon_onF | split)

theorem canon_tlEraseEnd (s : State) (hC : s.Canon) : (State.tlEraseEnd s).Canon := by
  unfold State.tlEraseEnd
  with_reducible (repeat' first | assumption | apply canon_offF)

theorem canon_tlCheckIn (s : State) (n : Nat) (hC : s.Canon) : (State.tlCheckIn s n).2.Canon := by
  unfold State.tlCheckIn
  with_reducible (repeat' first | assumption | apply canon_setBitF | apply canon_incF | apply canon_raise | split)

theorem canon_tlKeyWrite (s : State) (v : Nat) (hC : s.Canon) : (State.tlKeyWrite s v).Canon := by
  unfold State.tlKeyWrite
  with_reducible (repeat' first | assumption | apply canon_onF | split | (fail_if_no_progress (apply canon_upd)))

theorem canon_tlDisturb (s : State) (hC : s.Canon) : (State.tlDisturb s).Canon := by
  unfold State.tlDisturb
  with_reducible (repeat' first | assumption | apply canon_onF | split | (fail_if_no_progress (apply canon_upd)))

theorem canon_tlUseKey (s : State) (hC : s.Canon) : (State.tlUseKey s).2.Canon := by
  unfold State.tlUseKey
  with_reducible (repeat' first | assumption | ((fail_if_no_progress extract_lets +onlyGivenNames x); (try (refine (fun hx : State.Canon x => ?_ : State.Canon x → _) ?_; (on_goal 1 => clear_value x); (on_goal 2 => unfold x)))) | apply canon_tlDisturb | (fail_if_no_progress (apply canon_upd)))

theorem canon_tlCtrlWrite (s : State) (v : Word) (hC : s.Canon) : (State.tlCtrlWrite s v).Canon := by
  unfold State.tlCtrlWrite
  repeat' first | with_reducible assumption | ((fail_if_no_progress extract_lets +onlyGivenNames x); first | (refine (fun hx : State.Canon x => ?_ : State.Canon x → _) ?_; (on_goal 1 => clear_value x); (on_goal 2 => unfold x)) | (refine (fun hx : State.Canon x.2 => ?_ : State.Canon x.2 → _) ?_; (on_goal 1 => clear_value x); (on_goal 2 => unfold x)) | skip) | with_reducible apply canon_tlUseKey | with_reducible apply canon_onF | with_reducible apply canon_setF | with_reducible apply canon_tlStartPeriod | split | (with_reducible refine canon_of_pair (by assumption) ?_) | (with_reducible refine canon_of_triple (by assumption) ?_) | (fail_if_no_progress (with_reducible apply canon_upd)) | (fail_if_no_progress beta_reduce) | (fail_if_no_progress dsimp only) | (fail_if_no_progress dsimp +zetaDelta only)

theorem canon_tlEnWrite (s : State) (v : Word) (hC : s.Canon) : (State.tlEnWrite s v).Canon := by
  unfold State.tlEnWrite
  with_reducible (repeat' first | assumption | ((fail_if_no_progress extract_lets +onlyGivenNames x); (try (refine (fun hx : State.Canon x => ?_ : State.Canon x → _) ?_; (on_goal 1 => clear_value x); (on_goal 2 => unfold x)))) | apply canon_tlUseKey | apply canon_onF | apply canon_setF | apply canon_tlStart | split | (refine canon_of_pair (by assumption) ?_))

theorem canon_tlPeriodWrite (s : State) (v : Word) (hC : s.Canon) : (State.tlPeriodWrite s v).Canon := by
  unfold State.tlPeriodWrite
  with_reducible (repeat' first | assumption | ((fail_if_no_progress extract_lets +onlyGivenNames x); (try (refine (fun hx : State.Canon x => ?_ : State.Canon x → _) ?_; (on_goal 1 => clear_value x); (on_goal 2 => unfold x)))) | apply canon_tlUseKey | apply canon_onF | apply canon_setF | split | (refine canon_of_pair (by assumption) ?_))

theorem canon_tlEscWrite (s : State) (v : Word) (hC : s.Canon) : (State.tlEscWrite s v).Canon := by
  unfold State.tlEscWrite
  with_reducible (repeat' first | assumption | ((fail_if_no_progress extract_lets +onlyGivenNames x); (try (refine (fun hx : State.Canon x => ?_ : State.Canon x → _) ?_; (on_goal 1 => clear_value x); (on_goal 2 => unfold x)))) | apply canon_tlUseKey | apply canon_onF | apply canon_setF | split | (refine canon_of_pair (by assumption) ?_))

theorem canon_setTlLevel (s : State) (t : Triad) (v : Nat) (hC : s.Canon) : (State.setTlLevel s t v).Canon := by
  unfold State.setTlLevel
  with_reducible (repeat' first | assumption | apply canon_setF | split | (refine canon_of_pair (by assumption) ?_))

theorem canon_tlStep2 (s : State) (hC : s.Canon) : (State.tlStep2 s).Canon := by
  unfold State.tlStep2
  extract_lets s1 ph s2
  have h1 : s1.Canon := canon_onF (canon_incF _ _ (canon_incF _ _ hC)) _
  have h2 : s2.Canon := canon_upd h1
  exact canon_chipReset _ (canon_raise _ _ _ h2)

theorem canon_tlStep1 (s : State) (t : Triad) (hC : s.Canon) : (State.tlStep1 s t).Canon := by
  unfold State.tlStep1
  with_reducible (repeat' first | assumption | ((fail_if_no_progress extract_lets +onlyGivenNames x); (try (refine (fun hx : State.Canon x => ?_ : State.Canon x → _) ?_; (on_goal 1 => clear_value x); (on_goal 2 => unfold x)))) | apply canon_setTlLevel | apply canon_incF | apply canon_raise | apply canon_requestReset | split)

theorem canon_tlLadder (s : State) (missed : Nat) (done : Nat) (none_ : Bool) (t : Triad) (hC : s.Canon) : (State.tlLadder s missed done none_ t).Canon := by
  unfold State.tlLadder
  with_reducible (repeat' first | assumption | ((fail_if_no_progress extract_lets +onlyGivenNames x); (try (refine (fun hx : State.Canon x => ?_ : State.Canon x → _) ?_; (on_goal 1 => clear_value x); (on_goal 2 => unfold x)))) | apply canon_tlStep1 | apply canon_setTlLevel | split)

theorem canon_tlPeriodEnd (s : State) (hC : s.Canon) : (State.tlPeriodEnd s).Canon := by
  unfold State.tlPeriodEnd
  extract_lets en done early missed none_ accepted refuge wants2 step2 s1 s2 ph s3 s4 s5
  have h1 : s1.Canon := canon_setF hC _ _
  have h2 : s2.Canon := canon_ite (fun _ => canon_onF h1 _) (fun _ => h1)
  have h3 : s3.Canon := canon_upd h2
  have h4 : s4.Canon := canon_ite (fun _ => canon_raise _ _ _ (canon_incF _ _ h3)) (fun _ => h3)
  have h5 : s5.Canon := canon_ite (fun _ => h4) (fun _ => canon_tlLadder _ _ _ _ _ (canon_tlLadder _ _ _ _ _ h4))
  refine canon_ite (fun _ => canon_tlStep2 _ h4) fun _ => canon_ite (fun _ => h4) fun _ => ?_
  exact canon_ite (fun _ => canon_tlStartPeriod _ h5) (fun _ => h5)

theorem canon_refugeRegs (s : State) (cause : Nat) (hC : s.Canon) : (State.refugeRegs s cause).Canon := by
  unfold State.refugeRegs
  with_reducible (repeat' first | assumption | ((fail_if_no_progress extract_lets +onlyGivenNames x); (try (refine (fun hx : State.Canon x => ?_ : State.Canon x → _) ?_; (on_goal 1 => clear_value x); (on_goal 2 => unfold x)))) | apply canon_takeFree | apply canon_onF | apply canon_setF | apply canon_setR | apply canon_incF | split | (refine canon_of_pair (by assumption) ?_))

theorem canon_refugeRelease (s : State) (hC : s.Canon) : (State.refugeRelease s).Canon := by
  unfold State.refugeRelease
  with_reducible (repeat' first | assumption | ((fail_if_no_progress extract_lets +onlyGivenNames x); (try (refine (fun hx : State.Canon x => ?_ : State.Canon x → _) ?_; (on_goal 1 => clear_value x); (on_goal 2 => unfold x)))) | apply canon_offF)

theorem canon_rfgRelWrite (s : State) (by_ : Agent) (v : Word) (hC : s.Canon) : (State.rfgRelWrite s by_ v).2.Canon := by
  unfold State.rfgRelWrite
  with_reducible (repeat' first | assumption | ((fail_if_no_progress extract_lets +onlyGivenNames x); (try (refine (fun hx : State.Canon x => ?_ : State.Canon x → _) ?_; (on_goal 1 => clear_value x); (on_goal 2 => unfold x)))) | apply canon_onF | apply canon_offF | apply canon_setF | apply canon_refugeRelease | split | (refine canon_of_pair (by assumption) ?_))

/-! ### Net -/

theorem canon_setPort (s : State) (p : Port) (x : PortH) (hC : s.Canon) : (State.setPort s p x).Canon := by
  unfold State.setPort
  with_reducible (repeat' first | assumption | split | (refine canon_of_pair (by assumption) ?_) | (fail_if_no_progress (apply canon_upd)))

theorem canon_modPort (s : State) (p : Port) (f : PortH → PortH) (hC : s.Canon) : (State.modPort s p f).Canon := by
  unfold State.modPort
  with_reducible (repeat' first | assumption | apply canon_setPort)

theorem canon_showRbuf (s : State) (p : Port) (hC : s.Canon) : (State.showRbuf s p).Canon := by
  unfold State.showRbuf
  with_reducible (repeat' first | assumption | apply canon_setF)

theorem canon_transmit (s : State) (p : Port) (f : Frame) (hC : s.Canon) : (State.transmit s p f).Canon := by
  unfold State.transmit
  with_reducible (repeat' first | assumption | intro _ | apply canon_modPort | apply canon_showRbuf | (fail_if_no_progress (apply canon_upd)))

theorem canon_drainHeld (p : Port) (a0 : Nat) (s : State) (hC : s.Canon) : (State.drainHeld p a0 s).Canon := by
  induction a0 generalizing p s with
  | zero => unfold State.drainHeld; with_reducible (repeat' first | assumption | intro _ | apply canon_modPort | apply canon_transmit | split | (refine canon_of_pair (by assumption) ?_) | (fail_if_no_progress (apply canon_upd)))
  | succ n ih => unfold State.drainHeld; with_reducible (repeat' first | apply ih | assumption | intro _ | apply canon_modPort | apply canon_transmit | split | (refine canon_of_pair (by assumption) ?_) | (fail_if_no_progress (apply canon_upd)))

theorem canon_drain (s : State) (p : Port) (hC : s.Canon) : (State.drain s p).Canon := by
  unfold State.drain
  with_reducible (repeat' first | assumption | apply canon_drainHeld)

theorem canon_queueAt (s : State) (p : Port) (key : Nat) (f : Frame) (hC : s.Canon) : (State.queueAt s p key f).Canon := by
  unfold State.queueAt
  with_reducible (repeat' first | assumption | intro _ | apply canon_modPort | apply canon_drain | (fail_if_no_progress (apply canon_upd)))

theorem canon_queueOn (s : State) (p : Port) (f : Frame) (hC : s.Canon) : (State.queueOn s p f).Canon := by
  unfold State.queueOn
  with_reducible (repeat' first | assumption | apply canon_queueAt)

theorem canon_countDrop (s : State) (p : Port) (hC : s.Canon) : (State.countDrop s p).Canon := by
  unfold State.countDrop
  with_reducible (repeat' first | assumption | apply canon_incF | apply canon_onF | apply canon_raise)

theorem canon_toSelf (s : State) (f : Frame) (hC : s.Canon) : (State.toSelf s f).Canon := by
  unfold State.toSelf
  with_reducible (repeat' first | assumption | (fail_if_no_progress (apply canon_upd)))

theorem canon_sendRefuse (s : State) (dst : Nat) (oseq : Nat) (lane : Option Nat) (hC : s.Canon) : (State.sendRefuse s dst oseq lane).Canon := by
  unfold State.sendRefuse
  with_reducible (repeat' first | assumption | ((fail_if_no_progress extract_lets +onlyGivenNames x); (try (refine (fun hx : State.Canon x => ?_ : State.Canon x → _) ?_; (on_goal 1 => clear_value x); (on_goal 2 => unfold x)))) | apply canon_toSelf | apply canon_queueOn | split | (refine canon_of_pair (by assumption) ?_) | (fail_if_no_progress (apply canon_upd)))

theorem canon_sendAt (s : State) (key : Nat) (f : Frame) (p : Port) (hC : s.Canon) : (State.sendAt s key f p).Canon := by
  unfold State.sendAt
  with_reducible (repeat' first | assumption | ((fail_if_no_progress extract_lets +onlyGivenNames x); (try (refine (fun hx : State.Canon x => ?_ : State.Canon x → _) ?_; (on_goal 1 => clear_value x); (on_goal 2 => unfold x)))) | apply canon_countDrop | apply canon_sendRefuse | apply canon_queueAt | split)

theorem canon_sendOn (s : State) (f : Frame) (p : Port) (hC : s.Canon) : (State.sendOn s f p).Canon := by
  unfold State.sendOn
  with_reducible (repeat' first | assumption | apply canon_sendAt)

theorem canon_route (s : State) (f : Frame) (hC : s.Canon) : (State.route s f).Canon := by
  unfold State.route
  with_reducible (repeat' first | assumption | intro _ | apply canon_each | apply canon_sendOn | apply canon_toSelf | split | (refine canon_of_pair (by assumption) ?_))

theorem canon_originate (s : State) (dest : Nat) (cls : Nat) (b : Body) (hC : s.Canon) : (State.originate s dest cls b).Canon := by
  unfold State.originate
  with_reducible (repeat' first | assumption | ((fail_if_no_progress extract_lets +onlyGivenNames x); (try (refine (fun hx : State.Canon x => ?_ : State.Canon x → _) ?_; (on_goal 1 => clear_value x); (on_goal 2 => unfold x)))) | apply canon_route | split | (refine canon_of_pair (by assumption) ?_) | (fail_if_no_progress (apply canon_upd)))

theorem canon_topoUpdate (s : State) (hC : s.Canon) : (State.topoUpdate s).Canon := by
  unfold State.topoUpdate
  with_reducible (repeat' first | assumption | ((fail_if_no_progress extract_lets +onlyGivenNames x); (try (refine (fun hx : State.Canon x => ?_ : State.Canon x → _) ?_; (on_goal 1 => clear_value x); (on_goal 2 => unfold x)))) | apply canon_setF | apply canon_onF | apply canon_offF | split | (fail_if_no_progress (apply canon_upd)))

theorem canon_sendPresence (s : State) (hC : s.Canon) : (State.sendPresence s).Canon := by
  unfold State.sendPresence
  with_reducible (repeat' first | assumption | apply canon_originate)

theorem canon_cutOff (s : State) (p : Nat × NodeInfo → Bool) (hC : s.Canon) : (State.cutOff s p).Canon := by
  unfold State.cutOff
  with_reducible (repeat' first | assumption | intro _ | split | (fail_if_no_progress (apply canon_upd)))

theorem canon_checkMismatch (s : State) (hC : s.Canon) : (State.checkMismatch s).Canon := by
  unfold State.checkMismatch
  with_reducible (repeat' first | assumption | apply canon_offF | apply canon_onF | apply canon_raise | split)

theorem canon_setClose (s : State) (hC : s.Canon) : (State.setClose s).Canon := by
  unfold State.setClose
  with_reducible (repeat' first | assumption | ((fail_if_no_progress extract_lets +onlyGivenNames x); (try (refine (fun hx : State.Canon x => ?_ : State.Canon x → _) ?_; (on_goal 1 => clear_value x); (on_goal 2 => unfold x)))) | apply canon_setF | apply canon_onF | apply canon_offF | split)

theorem canon_judgePeriod (s : State) (hC : s.Canon) : (State.judgePeriod s).Canon := by
  unfold State.judgePeriod
  with_reducible (repeat' first | assumption | ((fail_if_no_progress extract_lets +onlyGivenNames x); (try (refine (fun hx : State.Canon x => ?_ : State.Canon x → _) ?_; (on_goal 1 => clear_value x); (on_goal 2 => unfold x)))) | apply canon_onF | apply canon_setF | split | (fail_if_no_progress (apply canon_upd)))

theorem canon_computeBound (s : State) (hC : s.Canon) : (State.computeBound s).Canon := by
  unfold State.computeBound
  with_reducible (repeat' first | assumption | ((fail_if_no_progress extract_lets +onlyGivenNames x); (try (refine (fun hx : State.Canon x => ?_ : State.Canon x → _) ?_; (on_goal 1 => clear_value x); (on_goal 2 => unfold x)))) | apply canon_setF | apply canon_setClose | apply canon_judgePeriod | apply canon_checkMismatch | apply canon_onF | apply canon_raise | apply canon_offF | split | (refine canon_of_pair (by assumption) ?_))

theorem canon_enterHoldover (s : State) (hC : s.Canon) : (State.enterHoldover s).Canon := by
  unfold State.enterHoldover
  with_reducible (repeat' first | assumption | apply canon_onF | apply canon_offF | apply canon_raise | split | (fail_if_no_progress (apply canon_upd)))

theorem canon_loseLock (s : State) (hC : s.Canon) : (State.loseLock s).Canon := by
  unfold State.loseLock
  with_reducible (repeat' first | assumption | ((fail_if_no_progress extract_lets +onlyGivenNames x); (try (refine (fun hx : State.Canon x => ?_ : State.Canon x → _) ?_; (on_goal 1 => clear_value x); (on_goal 2 => unfold x)))) | apply canon_offF | apply canon_setF | apply canon_incF | apply canon_raise | split | (fail_if_no_progress (apply canon_upd)))

theorem canon_topologyChanged (s : State) (hC : s.Canon) : (State.topologyChanged s).Canon := by
  unfold State.topologyChanged
  with_reducible (repeat' first | assumption | intro _ | ((fail_if_no_progress extract_lets +onlyGivenNames x); (try (refine (fun hx : State.Canon x => ?_ : State.Canon x → _) ?_; (on_goal 1 => clear_value x); (on_goal 2 => unfold x)))) | apply canon_topoUpdate | apply canon_computeBound | apply canon_enterHoldover | split)

theorem canon_portChanged (s : State) (p : Port) (hC : s.Canon) : (State.portChanged s p).Canon := by
  unfold State.portChanged
  with_reducible (repeat' first | assumption | ((fail_if_no_progress extract_lets +onlyGivenNames x); (try (refine (fun hx : State.Canon x => ?_ : State.Canon x → _) ?_; (on_goal 1 => clear_value x); (on_goal 2 => unfold x)))) | apply canon_topologyChanged | apply canon_originate | apply canon_sendPresence)

theorem canon_putPort (s : State) (p : Port) (st : Nat) (hC : s.Canon) : (State.putPort s p st).Canon := by
  unfold State.putPort
  with_reducible (repeat' first | assumption | apply canon_setF | apply canon_portChanged | split)

theorem canon_sendTime (s : State) (hC : s.Canon) : (State.sendTime s).Canon := by
  unfold State.sendTime
  with_reducible (repeat' first | assumption | apply canon_originate | split | (fail_if_no_progress (apply canon_upd)))

/-! ### Props -/

theorem canon_setProp (s : State) (c : Fin 16) (p : Proposal) (hC : s.Canon) : (State.setProp s c p).Canon := by
  unfold State.setProp
  with_reducible (repeat' first | assumption | (fail_if_no_progress (apply canon_upd)))

theorem canon_setRevt (s : State) (t : Triad) (l : List Word) (hC : s.Canon) : (State.setRevt s t l).Canon := by
  unfold State.setRevt
  with_reducible (repeat' first | assumption | apply canon_setR | split | (refine canon_of_pair (by assumption) ?_) | (fail_if_no_progress (apply canon_upd)))

theorem canon_revt (s : State) (c : Fin 16) (reason : Nat) (depth : Nat) (node : Nat) (chan : Nat) (hC : s.Canon) : (State.revt s c reason depth node chan).Canon := by
  unfold State.revt
  with_reducible (repeat' first | assumption | ((fail_if_no_progress extract_lets +onlyGivenNames x); (try (refine (fun hx : State.Canon x => ?_ : State.Canon x → _) ?_; (on_goal 1 => clear_value x); (on_goal 2 => unfold x)))) | apply canon_setRevt | apply canon_onF | apply canon_raise | split | (refine canon_of_pair (by assumption) ?_))

theorem canon_revtRead (s : State) (t : Triad) (hC : s.Canon) : (State.revtRead s t).2.Canon := by
  unfold State.revtRead
  with_reducible (repeat' first | assumption | apply canon_setRevt)

theorem canon_dropPeeked (s : State) (node : Nat) (chan : Nat) (q : Option Nat) (hC : s.Canon) : (State.dropPeeked s node chan q).Canon := by
  unfold State.dropPeeked
  with_reducible (repeat' first | assumption | intro _ | (fail_if_no_progress (apply canon_upd)))

theorem canon_sendNotice (s : State) (dst : Nat) (m : NoticeMsg) (hC : s.Canon) : (State.sendNotice s dst m).Canon := by
  unfold State.sendNotice
  with_reducible (repeat' first | assumption | apply canon_originate)

theorem canon_retractDeps (a0 : Nat) (a1 : Nat) (a2 : Nat) (a3 : Option Nat) (a4 : Nat) (a5 : Nat) (s : State) (hC : s.Canon) : (State.retractDeps a0 a1 a2 a3 a4 a5 s).Canon := by
  induction a0 generalizing a1 a2 a3 a4 a5 s with
  | zero => unfold State.retractDeps; with_reducible (repeat' first | assumption | intro _ | ((fail_if_no_progress extract_lets +onlyGivenNames x); (try (refine (fun hx : State.Canon x => ?_ : State.Canon x → _) ?_; (on_goal 1 => clear_value x); (on_goal 2 => unfold x)))) | apply canon_each | apply canon_setProp | apply canon_revt | apply canon_sendNotice | apply canon_dropPeeked | split | (fail_if_no_progress (apply canon_upd)))
  | succ n ih => unfold State.retractDeps; with_reducible (repeat' first | apply ih | assumption | intro _ | ((fail_if_no_progress extract_lets +onlyGivenNames x); (try (refine (fun hx : State.Canon x => ?_ : State.Canon x → _) ?_; (on_goal 1 => clear_value x); (on_goal 2 => unfold x)))) | apply canon_each | apply canon_setProp | apply canon_revt | apply canon_sendNotice | apply canon_dropPeeked | split | (fail_if_no_progress (apply canon_upd)))

theorem canon_tellRetract (s : State) (c : Fin 16) (cons : List Nat) (hC : s.Canon) : (State.tellRetract s c cons).Canon := by
  unfold State.tellRetract
  with_reducible (repeat' first | assumption | intro _ | apply canon_each | apply canon_retractDeps | apply canon_sendNotice | apply canon_dropPeeked | split | (fail_if_no_progress (apply canon_upd)))

theorem canon_finalDeps (a0 : Nat) (a1 : Nat) (a2 : Nat) (a3 : Option Nat) (s : State) (hC : s.Canon) : (State.finalDeps a0 a1 a2 a3 s).Canon := by
  induction a0 generalizing a1 a2 a3 s with
  | zero => unfold State.finalDeps; with_reducible (repeat' first | assumption | intro _ | ((fail_if_no_progress extract_lets +onlyGivenNames x); (try (refine (fun hx : State.Canon x => ?_ : State.Canon x → _) ?_; (on_goal 1 => clear_value x); (on_goal 2 => unfold x)))) | apply canon_each | apply canon_setProp | apply canon_sendNotice | apply canon_dropPeeked | split | (fail_if_no_progress (apply canon_upd)))
  | succ n ih => unfold State.finalDeps; with_reducible (repeat' first | apply ih | assumption | intro _ | ((fail_if_no_progress extract_lets +onlyGivenNames x); (try (refine (fun hx : State.Canon x => ?_ : State.Canon x → _) ?_; (on_goal 1 => clear_value x); (on_goal 2 => unfold x)))) | apply canon_each | apply canon_setProp | apply canon_sendNotice | apply canon_dropPeeked | split | (fail_if_no_progress (apply canon_upd)))

theorem canon_finalize (s : State) (c : Fin 16) (hC : s.Canon) : (State.finalize s c).Canon := by
  unfold State.finalize
  with_reducible (repeat' first | assumption | intro _ | ((fail_if_no_progress extract_lets +onlyGivenNames x); (try (refine (fun hx : State.Canon x => ?_ : State.Canon x → _) ?_; (on_goal 1 => clear_value x); (on_goal 2 => unfold x)))) | apply canon_setProp | apply canon_dropPeeked | apply canon_each | apply canon_finalDeps | apply canon_sendNotice | split | (fail_if_no_progress (apply canon_upd)))

theorem canon_withdraw (c : Fin 16) (s : State) (hC : s.Canon) : (State.withdraw c s).Canon := by
  unfold State.withdraw
  with_reducible (repeat' first | assumption | ((fail_if_no_progress extract_lets +onlyGivenNames x); (try (refine (fun hx : State.Canon x => ?_ : State.Canon x → _) ?_; (on_goal 1 => clear_value x); (on_goal 2 => unfold x)))) | apply canon_setProp | apply canon_tellRetract | split | (fail_if_no_progress (apply canon_upd)))

theorem canon_withdrawAll (s : State) (hC : s.Canon) : (State.withdrawAll s).Canon := by
  unfold State.withdrawAll
  with_reducible (repeat' first | assumption | apply canon_each | apply canon_withdraw)

theorem canon_withdrawTriad (s : State) (t : Triad) (hC : s.Canon) : (State.withdrawTriad s t).Canon := by
  unfold State.withdrawTriad
  with_reducible (repeat' first | assumption | intro _ | apply canon_each | apply canon_withdraw)

theorem canon_newProposals (s : State) (hC : s.Canon) : (State.newProposals s).Canon := by
  unfold State.newProposals
  with_reducible (repeat' first | assumption | (fail_if_no_progress (apply canon_upd)))

/-! ### Orvia -/

theorem canon_takeFrame {s : State} {type : Nat} {q : Option Port × Frame} {t : State} (hp : s.takeFrame type = some (q, t)) (hC : s.Canon) : t.Canon := by
  unfold State.takeFrame at hp
  rw [Option.map_eq_some_iff] at hp
  obtain ⟨q, _, h⟩ := hp
  rw [← (Prod.mk.inj h).2]
  exact canon_upd hC

theorem canon_badWord (s : State) (p : Port) (hC : s.Canon) : (State.badWord s p).Canon := by
  unfold State.badWord
  with_reducible (repeat' first | assumption | apply canon_incF)

theorem canon_segment (s : State) (hC : s.Canon) : (State.segment s).Canon := by
  unfold State.segment
  with_reducible (repeat' first | assumption | apply canon_onF | apply canon_raise)

theorem canon_linkLoss (s : State) (p : Port) (c : LossCause) (hC : s.Canon) : (State.linkLoss s p c).Canon := by
  unfold State.linkLoss
  with_reducible (repeat' first | assumption | intro _ | ((fail_if_no_progress extract_lets +onlyGivenNames x); (try (refine (fun hx : State.Canon x => ?_ : State.Canon x → _) ?_; (on_goal 1 => clear_value x); (on_goal 2 => unfold x)))) | apply canon_setF | apply canon_incF | apply canon_onF | apply canon_modPort | apply canon_showRbuf | apply canon_raise | apply canon_segment | apply canon_cutOff | apply canon_enterHoldover | apply canon_portChanged | split | (refine canon_of_pair (by assumption) ?_) | (fail_if_no_progress (apply canon_upd)))

theorem canon_closePoints (s : State) (p : Port) (hC : s.Canon) : (State.closePoints s p).Canon := by
  unfold State.closePoints
  with_reducible (repeat' first | assumption | intro _ | ((fail_if_no_progress extract_lets +onlyGivenNames x); (try (refine (fun hx : State.Canon x => ?_ : State.Canon x → _) ?_; (on_goal 1 => clear_value x); (on_goal 2 => unfold x)))) | apply canon_modPort | apply canon_showRbuf | apply canon_each | apply canon_sendAt | apply canon_onF | apply canon_raise | apply canon_originate | split | (refine canon_of_pair (by assumption) ?_) | (fail_if_no_progress (apply canon_upd)))

theorem canon_replay (s : State) (p : Port) (frames : Nat) (hC : s.Canon) : (State.replay s p frames).Canon := by
  unfold State.replay
  with_reducible (repeat' first | assumption | intro _ | ((fail_if_no_progress extract_lets +onlyGivenNames x); (try (refine (fun hx : State.Canon x => ?_ : State.Canon x → _) ?_; (on_goal 1 => clear_value x); (on_goal 2 => unfold x)))) | apply canon_addF | apply canon_modPort | apply canon_linkLoss | split | (fail_if_no_progress (apply canon_upd)))

theorem canon_ack (s : State) (p : Port) (k : Nat) (hC : s.Canon) : (State.ack s p k).Canon := by
  unfold State.ack
  with_reducible (repeat' first | assumption | intro _ | ((fail_if_no_progress extract_lets +onlyGivenNames x); (try (refine (fun hx : State.Canon x => ?_ : State.Canon x → _) ?_; (on_goal 1 => clear_value x); (on_goal 2 => unfold x)))) | apply canon_modPort | apply canon_showRbuf | apply canon_drain | split | (fail_if_no_progress (apply canon_upd)))

theorem canon_nack (s : State) (p : Port) (k : Nat) (hC : s.Canon) : (State.nack s p k).Canon := by
  unfold State.nack
  with_reducible (repeat' first | assumption | ((fail_if_no_progress extract_lets +onlyGivenNames x); (try (refine (fun hx : State.Canon x => ?_ : State.Canon x → _) ?_; (on_goal 1 => clear_value x); (on_goal 2 => unfold x)))) | apply canon_incF | apply canon_replay | split)

theorem canon_sendNack (s : State) (p : Port) (hC : s.Canon) : (State.sendNack s p).Canon := by
  unfold State.sendNack
  with_reducible (repeat' first | assumption | intro _ | apply canon_modPort | (fail_if_no_progress (apply canon_upd)))

theorem canon_badBurst (s : State) (p : Port) (hC : s.Canon) : (State.badBurst s p).Canon := by
  unfold State.badBurst
  with_reducible (repeat' first | assumption | intro _ | ((fail_if_no_progress extract_lets +onlyGivenNames x); (try (refine (fun hx : State.Canon x => ?_ : State.Canon x → _) ?_; (on_goal 1 => clear_value x); (on_goal 2 => unfold x)))) | apply canon_incF | apply canon_modPort | apply canon_sendNack | apply canon_raise | split | (fail_if_no_progress (apply canon_upd)))

theorem canon_orphan (s : State) (p : Port) (hC : s.Canon) : (State.orphan s p).Canon := by
  unfold State.orphan
  with_reducible (repeat' first | assumption | intro _ | apply canon_incF | apply canon_modPort | apply canon_sendNack | (fail_if_no_progress (apply canon_upd)))

theorem canon_noteFrame (s : State) (f : Frame) (hC : s.Canon) : (State.noteFrame s f).Canon := by
  unfold State.noteFrame
  with_reducible (repeat' first | assumption | intro _ | (fail_if_no_progress (apply canon_upd)))

theorem canon_receiveFrame (s : State) (p : Port) (f : Frame) (hC : s.Canon) : (State.receiveFrame s p f).Canon := by
  unfold State.receiveFrame
  with_reducible (repeat' first | assumption | ((fail_if_no_progress extract_lets +onlyGivenNames x); (try (refine (fun hx : State.Canon x => ?_ : State.Canon x → _) ?_; (on_goal 1 => clear_value x); (on_goal 2 => unfold x)))) | apply canon_incF | apply canon_noteFrame | apply canon_sendOn | split | (refine canon_of_pair (by assumption) ?_) | (fail_if_no_progress (apply canon_upd)))

theorem canon_receiveSeq (s : State) (p : Port) (k : Nat) (f : Frame) (hC : s.Canon) : (State.receiveSeq s p k f).Canon := by
  unfold State.receiveSeq
  with_reducible (repeat' first | assumption | intro _ | ((fail_if_no_progress extract_lets +onlyGivenNames x); (try (refine (fun hx : State.Canon x => ?_ : State.Canon x → _) ?_; (on_goal 1 => clear_value x); (on_goal 2 => unfold x)))) | apply canon_modPort | apply canon_receiveFrame | apply canon_sendNack | split | (fail_if_no_progress (apply canon_upd)))

theorem canon_receiveBurst (s : State) (p : Port) (b : Burst) (hC : s.Canon) : (State.receiveBurst s p b).Canon := by
  unfold State.receiveBurst
  with_reducible (repeat' first | assumption | intro _ | ((fail_if_no_progress extract_lets +onlyGivenNames x); (try (refine (fun hx : State.Canon x => ?_ : State.Canon x → _) ?_; (on_goal 1 => clear_value x); (on_goal 2 => unfold x)))) | apply canon_addF | apply canon_incF | apply canon_modPort | apply canon_sendNack | apply canon_badBurst | apply canon_orphan | apply canon_receiveSeq | split | (fail_if_no_progress (apply canon_upd)))

theorem canon_trainFail (s : State) (p : Port) (cause : Nat) (hC : s.Canon) : (State.trainFail s p cause).Canon := by
  unfold State.trainFail
  with_reducible (repeat' first | assumption | intro _ | apply canon_setF | apply canon_modPort | apply canon_putPort | apply canon_raise | (fail_if_no_progress (apply canon_upd)))

theorem canon_trained (s : State) (p : Port) (o : PeerOffer) (hC : s.Canon) : (State.trained s p o).Canon := by
  unfold State.trained
  with_reducible (repeat' first | assumption | intro _ | ((fail_if_no_progress extract_lets +onlyGivenNames x); (try (refine (fun hx : State.Canon x => ?_ : State.Canon x → _) ?_; (on_goal 1 => clear_value x); (on_goal 2 => unfold x)))) | apply canon_trainFail | apply canon_closePoints | apply canon_setF | apply canon_modPort | apply canon_showRbuf | split | (refine canon_of_pair (by assumption) ?_) | (fail_if_no_progress (apply canon_upd)))

theorem canon_linkUp (s : State) (p : Port) (delay : Nat) (hC : s.Canon) : (State.linkUp s p delay).Canon := by
  unfold State.linkUp
  with_reducible (repeat' first | assumption | intro _ | ((fail_if_no_progress extract_lets +onlyGivenNames x); (try (refine (fun hx : State.Canon x => ?_ : State.Canon x → _) ?_; (on_goal 1 => clear_value x); (on_goal 2 => unfold x)))) | apply canon_setF | apply canon_modPort | apply canon_onF | apply canon_offF | apply canon_portChanged | split | (refine canon_of_pair (by assumption) ?_) | (fail_if_no_progress (apply canon_upd)))

theorem canon_portDown (s : State) (p : Port) (hC : s.Canon) : (State.portDown s p).Canon := by
  unfold State.portDown
  with_reducible (repeat' first | assumption | intro _ | ((fail_if_no_progress extract_lets +onlyGivenNames x); (try (refine (fun hx : State.Canon x => ?_ : State.Canon x → _) ?_; (on_goal 1 => clear_value x); (on_goal 2 => unfold x)))) | apply canon_linkLoss | apply canon_modPort | apply canon_putPort | split | (fail_if_no_progress (apply canon_upd)))

theorem canon_portDisable (s : State) (p : Port) (v : Bool) (hC : s.Canon) : (State.portDisable s p v).Canon := by
  unfold State.portDisable
  with_reducible (repeat' first | assumption | ((fail_if_no_progress extract_lets +onlyGivenNames x); (try (refine (fun hx : State.Canon x => ?_ : State.Canon x → _) ?_; (on_goal 1 => clear_value x); (on_goal 2 => unfold x)))) | apply canon_setF | apply canon_portDown | apply canon_putPort | split)

theorem canon_loseNumber (s : State) (hC : s.Canon) : (State.loseNumber s).Canon := by
  unfold State.loseNumber
  with_reducible (repeat' first | assumption | ((fail_if_no_progress extract_lets +onlyGivenNames x); (try (refine (fun hx : State.Canon x => ?_ : State.Canon x → _) ?_; (on_goal 1 => clear_value x); (on_goal 2 => unfold x)))) | apply canon_setF | apply canon_offF | apply canon_onF | apply canon_raise | apply canon_loseLock)

theorem canon_presenceIn (s : State) (m : PresMsg) (hC : s.Canon) : (State.presenceIn s m).Canon := by
  unfold State.presenceIn
  with_reducible (repeat' first | assumption | ((fail_if_no_progress extract_lets +onlyGivenNames x); (try (refine (fun hx : State.Canon x => ?_ : State.Canon x → _) ?_; (on_goal 1 => clear_value x); (on_goal 2 => unfold x)))) | apply canon_onF | apply canon_loseNumber | apply canon_topologyChanged | split | (fail_if_no_progress (apply canon_upd)))

theorem canon_turnPaths (s : State) (l : List Nat) (hC : s.Canon) : (State.turnPaths s l).Canon := by
  unfold State.turnPaths
  with_reducible (repeat' first | assumption | intro _ | ((fail_if_no_progress extract_lets +onlyGivenNames x); (try (refine (fun hx : State.Canon x => ?_ : State.Canon x → _) ?_; (on_goal 1 => clear_value x); (on_goal 2 => unfold x)))) | split | (fail_if_no_progress (apply canon_upd)))

theorem canon_topologyIn (s : State) (node : Nat) (port : Port) (st : Nat) (beyond : List Nat) (hC : s.Canon) : (State.topologyIn s node port st beyond).Canon := by
  unfold State.topologyIn
  with_reducible (repeat' first | assumption | intro _ | ((fail_if_no_progress extract_lets +onlyGivenNames x); (try (refine (fun hx : State.Canon x => ?_ : State.Canon x → _) ?_; (on_goal 1 => clear_value x); (on_goal 2 => unfold x)))) | apply canon_segment | apply canon_cutOff | apply canon_turnPaths | apply canon_topologyChanged | split | (refine canon_of_pair (by assumption) ?_) | (fail_if_no_progress (apply canon_upd)))

theorem canon_unreach (s : State) (n : Nat) (hC : s.Canon) : (State.unreach s n).Canon := by
  unfold State.unreach
  with_reducible (repeat' first | assumption | apply canon_topologyChanged | split | (fail_if_no_progress (apply canon_upd)))

theorem canon_assignIn (s : State) (serial : DWord) (id : Nat) (hC : s.Canon) : (State.assignIn s serial id).Canon := by
  unfold State.assignIn
  with_reducible (repeat' first | assumption | apply canon_setF | apply canon_onF | split)

theorem canon_ovTx (s : State) (kind : Nat) (node : Nat) (hC : s.Canon) : (State.ovTx s kind node).Canon := by
  unfold State.ovTx
  with_reducible (repeat' first | assumption | ((fail_if_no_progress extract_lets +onlyGivenNames x); (try (refine (fun hx : State.Canon x => ?_ : State.Canon x → _) ?_; (on_goal 1 => clear_value x); (on_goal 2 => unfold x)))) | apply canon_originate | apply canon_setF | apply canon_onF | split)

/-! ### Patrol -/

theorem canon_ptShow (s : State) (l : List Word) (hC : s.Canon) : (State.ptShow s l).Canon := by
  unfold State.ptShow
  with_reducible (repeat' first | assumption | ((fail_if_no_progress extract_lets +onlyGivenNames x); (try (refine (fun hx : State.Canon x => ?_ : State.Canon x → _) ?_; (on_goal 1 => clear_value x); (on_goal 2 => unfold x)))) | apply canon_setR | apply canon_setF | (fail_if_no_progress (apply canon_upd)))

theorem canon_ptLog (s : State) (kind : Nat) (word : Nat) (hC : s.Canon) : (State.ptLog s kind word).Canon := by
  unfold State.ptLog
  with_reducible (repeat' first | assumption | apply canon_ptShow | apply canon_onF | apply canon_raise | split)

theorem canon_ptLogRead (s : State) (hC : s.Canon) : (State.ptLogRead s).2.Canon := by
  unfold State.ptLogRead
  with_reducible (repeat' first | assumption | apply canon_ptShow)

theorem canon_flashWord (s : State) (w : Nat) (hC : s.Canon) : (State.flashWord s w).2.Canon := by
  unfold State.flashWord
  with_reducible (repeat' first | assumption | apply canon_incF | apply canon_raise | split | (refine canon_of_pair (by assumption) ?_))

theorem canon_flashWords (a0 : List Nat) (s : State) (hC : s.Canon) : (State.flashWords a0 s).2.Canon := by
  induction a0 generalizing s with
  | nil => unfold State.flashWords; with_reducible (repeat' first | assumption | ((fail_if_no_progress extract_lets +onlyGivenNames x); (try (refine (fun hx : State.Canon x => ?_ : State.Canon x → _) ?_; (on_goal 1 => clear_value x); (on_goal 2 => unfold x)))) | apply canon_flashWord | split | (refine canon_of_pair (by assumption) ?_))
  | cons x r ih => unfold State.flashWords; with_reducible (repeat' first | apply ih | assumption | ((fail_if_no_progress extract_lets +onlyGivenNames x); (try (refine (fun hx : State.Canon x => ?_ : State.Canon x → _) ?_; (on_goal 1 => clear_value x); (on_goal 2 => unfold x)))) | apply canon_flashWord | split | (refine canon_of_pair (by assumption) ?_))

theorem canon_flashLoad (s : State) (a : Nat) (n : Nat) (hC : s.Canon) : (State.flashLoad s a n).2.Canon := by
  unfold State.flashLoad
  with_reducible (repeat' first | assumption | ((fail_if_no_progress extract_lets +onlyGivenNames x); (try (refine (fun hx : State.Canon x => ?_ : State.Canon x → _) ?_; (on_goal 1 => clear_value x); (on_goal 2 => unfold x)))) | apply canon_takeFree | apply canon_incF | apply canon_raise | apply canon_flashWords | split | (refine canon_of_pair (by assumption) ?_))

theorem canon_healWord (page src : Nat) (acc : Bool × State) (i : Nat) (hC : acc.2.Canon) : (State.healWord page src acc i).2.Canon := by
  obtain ⟨b, s⟩ := acc
  have h1 : ((s.flashLoad (src + 8 * i) 8).2).Canon := canon_flashLoad _ _ _ hC
  unfold State.healWord
  dsimp only
  generalize s.flashLoad (src + 8 * i) 8 = p at h1
  obtain ⟨v, t⟩ := p
  cases v with
  | none => exact canon_setMark _ _ _ (canon_upd (s := t) h1)
  | some x => exact canon_sramStore (canon_upd (s := t) h1) _ _

theorem canon_healFold (page src : Nat) (l : List Nat) (acc : Bool × State) (hC : acc.2.Canon) :
    (l.foldl (State.healWord page src) acc).2.Canon := by
  induction l generalizing acc with
  | nil => exact hC
  | cons i r ih => exact ih _ (canon_healWord _ _ _ _ hC)

theorem canon_healPage (s : State) (page word : Nat) (hC : s.Canon) : (State.healPage s page word).Canon := by
  unfold State.healPage
  split
  · exact hC
  · rename_i src _
    have h1 := canon_healFold page src (List.range 512) (false, s) hC
    generalize List.foldl (State.healWord page src) (false, s) (List.range 512) = p at h1
    obtain ⟨b, t⟩ := p
    dsimp only
    split
    · exact canon_raise _ _ _ (canon_incF _ _ (canon_ptLog _ _ _ h1))
    · exact canon_raise _ _ _ (canon_incF _ _ (canon_ptLog _ _ _ h1))

theorem canon_eccCorrected (s : State) (w : Nat) (hC : s.Canon) : (State.eccCorrected s w).Canon := by
  unfold State.eccCorrected
  with_reducible (repeat' first | assumption | apply canon_incF | apply canon_raise | (fail_if_no_progress (apply canon_upd)))

theorem canon_eccTouch (w : Nat) (s : State) (hC : s.Canon) : (State.eccTouch w s).Canon := by
  unfold State.eccTouch
  with_reducible (repeat' first | assumption | ((fail_if_no_progress extract_lets +onlyGivenNames x); (try (refine (fun hx : State.Canon x => ?_ : State.Canon x → _) ?_; (on_goal 1 => clear_value x); (on_goal 2 => unfold x)))) | apply canon_eccCorrected | apply canon_setMark | apply canon_ptLog | apply canon_incF | apply canon_raise | apply canon_healPage | split | (refine canon_of_pair (by assumption) ?_) | (fail_if_no_progress (apply canon_upd)))

theorem canon_eccTouchAll (s : State) (a : Nat) (n : Nat) (hC : s.Canon) : (State.eccTouchAll s a n).Canon := by
  unfold State.eccTouchAll
  with_reducible (repeat' first | assumption | apply canon_each | apply canon_eccTouch)

theorem canon_sramLoad (s : State) (a : Nat) (n : Nat) (hC : s.Canon) : (State.sramLoad s a n).2.Canon := by
  unfold State.sramLoad
  with_reducible (repeat' first | assumption | ((fail_if_no_progress extract_lets +onlyGivenNames x); (try (refine (fun hx : State.Canon x => ?_ : State.Canon x → _) ?_; (on_goal 1 => clear_value x); (on_goal 2 => unfold x)))) | apply canon_eccTouchAll | apply canon_raise | split)

theorem canon_sramWrite (s : State) (a : Nat) (bs : List Byte) (hC : s.Canon) : (State.sramWrite s a bs).2.Canon := by
  unfold State.sramWrite
  with_reducible (repeat' first | assumption | intro _ | ((fail_if_no_progress extract_lets +onlyGivenNames x); (try (refine (fun hx : State.Canon x => ?_ : State.Canon x → _) ?_; (on_goal 1 => clear_value x); (on_goal 2 => unfold x)))) | apply canon_each | apply canon_eccTouch | apply canon_sramStore | split | (fail_if_no_progress (apply canon_upd)))

theorem canon_upset (s : State) (a0 : Upset) (hC : s.Canon) : (State.upset s a0).Canon := by
  unfold State.upset
  repeat' first | with_reducible assumption | ((fail_if_no_progress extract_lets +onlyGivenNames x); first | (refine (fun hx : State.Canon x => ?_ : State.Canon x → _) ?_; (on_goal 1 => clear_value x); (on_goal 2 => unfold x)) | (refine (fun hx : State.Canon x.2 => ?_ : State.Canon x.2 → _) ?_; (on_goal 1 => clear_value x); (on_goal 2 => unfold x)) | skip) | split | (with_reducible refine canon_of_pair (by assumption) ?_) | (with_reducible refine canon_of_triple (by assumption) ?_) | (fail_if_no_progress (with_reducible apply canon_upd)) | (fail_if_no_progress beta_reduce) | (fail_if_no_progress dsimp only) | (fail_if_no_progress dsimp +zetaDelta only)

theorem canon_walk (s : State) (w : Nat) (hC : s.Canon) : (State.walk s w).Canon := by
  unfold State.walk
  with_reducible (repeat' first | assumption | ((fail_if_no_progress extract_lets +onlyGivenNames x); (try (refine (fun hx : State.Canon x => ?_ : State.Canon x → _) ?_; (on_goal 1 => clear_value x); (on_goal 2 => unfold x)))) | apply canon_eccCorrected | apply canon_setMark | apply canon_onF | apply canon_ptLog | apply canon_incF | apply canon_raise | split | (refine canon_of_pair (by assumption) ?_) | (fail_if_no_progress (apply canon_upd)))

/-! ### Operands -/

theorem canon_setPair64 (s : State) (m : Mach) (r : BitVec 5) (v : BitVec 64) (hC : s.Canon) : (State.setPair64 s m r v).Canon := by
  unfold State.setPair64
  with_reducible (repeat' first | assumption | apply canon_wg)

/-! ### Trap -/

theorem canon_vectorRead (s : State) (m : Mach) (a : Nat) (hC : s.Canon) : (State.vectorRead s m a).2.Canon := by
  unfold State.vectorRead
  with_reducible (repeat' first | assumption | apply canon_sramLoad | apply canon_raise | apply canon_flashLoad | split | (refine canon_of_pair (by assumption) ?_))

theorem canon_haltMach (s : State) (m : Mach) (hC : s.Canon) : (State.haltMach s m).Canon := by
  unfold State.haltMach
  with_reducible (repeat' first | assumption | intro _ | apply canon_modMach | apply canon_raise | (fail_if_no_progress (apply canon_upd)))

theorem canon_toHandler (s : State) (m : Mach) (h : Word) (hC : s.Canon) : (State.toHandler s m h).Canon := by
  unfold State.toHandler
  with_reducible (repeat' first | assumption | intro _ | apply canon_modMach | (fail_if_no_progress (apply canon_upd)))

theorem canon_nmiFetch (s : State) (m : Mach) (ret : Word) (hC : s.Canon) : (State.nmiFetch s m ret).Canon := by
  unfold State.nmiFetch
  with_reducible (repeat' first | assumption | intro _ | ((fail_if_no_progress extract_lets +onlyGivenNames x); (try (refine (fun hx : State.Canon x => ?_ : State.Canon x → _) ?_; (on_goal 1 => clear_value x); (on_goal 2 => unfold x)))) | apply canon_modMach | apply canon_vectorRead | apply canon_toHandler | apply canon_haltMach | split | (refine canon_of_pair (by assumption) ?_) | (fail_if_no_progress (apply canon_upd)))

theorem canon_nmiEntry (s : State) (m : Mach) (ret : Word) (code : Nat) (detail : Nat) (hC : s.Canon) : (State.nmiEntry s m ret code detail).Canon := by
  unfold State.nmiEntry
  with_reducible (repeat' first | assumption | ((fail_if_no_progress extract_lets +onlyGivenNames x); (try (refine (fun hx : State.Canon x => ?_ : State.Canon x → _) ?_; (on_goal 1 => clear_value x); (on_goal 2 => unfold x)))) | apply canon_wc | apply canon_nmiFetch)

theorem canon_entryFetch (s : State) (m : Mach) (ret : Word) (i : Nat) (hC : s.Canon) : (State.entryFetch s m ret i).Canon := by
  unfold State.entryFetch
  with_reducible (repeat' first | assumption | intro _ | ((fail_if_no_progress extract_lets +onlyGivenNames x); (try (refine (fun hx : State.Canon x => ?_ : State.Canon x → _) ?_; (on_goal 1 => clear_value x); (on_goal 2 => unfold x)))) | apply canon_modMach | apply canon_vectorRead | apply canon_toHandler | apply canon_haltMach | apply canon_nmiEntry | split | (refine canon_of_pair (by assumption) ?_) | (fail_if_no_progress (apply canon_upd)))

theorem canon_entry (s : State) (m : Mach) (ret : Word) (cause : Word) (i : Nat) (hC : s.Canon) : (State.entry s m ret cause i).Canon := by
  unfold State.entry
  with_reducible (repeat' first | assumption | ((fail_if_no_progress extract_lets +onlyGivenNames x); (try (refine (fun hx : State.Canon x => ?_ : State.Canon x → _) ?_; (on_goal 1 => clear_value x); (on_goal 2 => unfold x)))) | apply canon_wc | apply canon_entryFetch)

theorem canon_trapAt (s : State) (m : Mach) (ret : Word) (code : Nat) (detail : Nat) (tval : Word) (hC : s.Canon) : (State.trapAt s m ret code detail tval).Canon := by
  unfold State.trapAt
  with_reducible (repeat' first | assumption | apply canon_haltMach | apply canon_nmiEntry | apply canon_wc | apply canon_entry | split)

theorem canon_trap (s : State) (m : Mach) (code : Nat) (detail : Nat) (tval : Word) (hC : s.Canon) : (State.trap s m code detail tval).Canon := by
  unfold State.trap
  with_reducible (repeat' first | assumption | apply canon_trapAt)

theorem canon_illegal (s : State) (m : Mach) (detail : Nat) (w : Word) (hC : s.Canon) : (State.illegal s m detail w).Canon := by
  unfold State.illegal
  with_reducible (repeat' first | assumption | apply canon_trap)

theorem canon_privTrap (s : State) (m : Mach) (w : Word) (hC : s.Canon) : (State.privTrap s m w).Canon := by
  unfold State.privTrap
  with_reducible (repeat' first | assumption | apply canon_trap)

theorem canon_alignTrap (s : State) (m : Mach) (a : Word) (hC : s.Canon) : (State.alignTrap s m a).Canon := by
  unfold State.alignTrap
  with_reducible (repeat' first | assumption | apply canon_trap)

theorem canon_accessTrap (s : State) (m : Mach) (detail : Nat) (a : Word) (hC : s.Canon) : (State.accessTrap s m detail a).Canon := by
  unfold State.accessTrap
  with_reducible (repeat' first | assumption | apply canon_trap)

theorem canon_uninitTrap (s : State) (m : Mach) (a : Word) (hC : s.Canon) : (State.uninitTrap s m a).Canon := by
  unfold State.uninitTrap
  with_reducible (repeat' first | assumption | apply canon_trap)

theorem canon_poisonTrap (s : State) (m : Mach) (detail : Nat) (a : Word) (hC : s.Canon) : (State.poisonTrap s m detail a).Canon := by
  unfold State.poisonTrap
  with_reducible (repeat' first | assumption | apply canon_raise | apply canon_trap)

theorem canon_ownerTrap (s : State) (m : Mach) (detail : Nat) (v : Nat) (hC : s.Canon) : (State.ownerTrap s m detail v).Canon := by
  unfold State.ownerTrap
  with_reducible (repeat' first | assumption | apply canon_trap)

theorem canon_replyTrap (s : State) (m : Mach) (code : Nat) (a : Nat) (hC : s.Canon) : (State.replyTrap s m code a).Canon := by
  unfold State.replyTrap
  with_reducible (repeat' first | assumption | apply canon_trap)

theorem canon_retireTo (s : State) (m : Mach) (a : Word) (hC : s.Canon) : (State.retireTo s m a).Canon := by
  unfold State.retireTo
  with_reducible (repeat' first | assumption | intro _ | apply canon_modMach | apply canon_retire | (fail_if_no_progress (apply canon_upd)))

theorem canon_retire (s : State) (m : Mach) (hC : s.Canon) : (State.retire s m).Canon := by
  unfold State.retire
  with_reducible (repeat' first | assumption | apply canon_retireTo)

theorem canon_eret (s : State) (m : Mach) (hC : s.Canon) : (State.eret s m).Canon := by
  unfold State.eret
  with_reducible (repeat' first | assumption | apply canon_wc | apply canon_retireTo)

theorem canon_nret (s : State) (m : Mach) (hC : s.Canon) : (State.nret s m).Canon := by
  unfold State.nret
  with_reducible (repeat' first | assumption | apply canon_wc | apply canon_retireTo)

theorem canon_fetchTrap (s : State) (m : Mach) (detail : Nat) (a : Word) (hC : s.Canon) : (State.fetchTrap s m detail a).Canon := by
  unfold State.fetchTrap
  with_reducible (repeat' first | assumption | apply canon_haltMach | apply canon_trap | split)

theorem canon_fetchWord (s : State) (m : Mach) (w : Word) (hC : s.Canon) : (State.fetchWord s m w).2.Canon := by
  unfold State.fetchWord
  with_reducible (repeat' first | assumption | apply canon_illegal | split)

theorem canon_fetch (s : State) (m : Mach) (hC : s.Canon) : (State.fetch s m).2.Canon := by
  unfold State.fetch
  with_reducible (repeat' first | assumption | ((fail_if_no_progress extract_lets +onlyGivenNames x); (try (refine (fun hx : State.Canon x => ?_ : State.Canon x → _) ?_; (on_goal 1 => clear_value x); (on_goal 2 => unfold x)))) | apply canon_eccTouch | apply canon_fetchTrap | apply canon_raise | apply canon_fetchWord | apply canon_flashLoad | split | (refine canon_of_pair (by assumption) ?_))

theorem canon_setRetire (s : State) (m : Mach) (gd : BitVec 5) (v : Word) (hC : s.Canon) : (State.setRetire s m gd v).Canon := by
  unfold State.setRetire
  with_reducible (repeat' first | assumption | apply canon_wg | apply canon_retire)

end Sys2Proof.Machine
end

