-- ==== Sys2Proof/Laws/CanonBlocks.lean ====
section
/-! SUPPORT. The canonical form of the register file and of the memories is kept by every operation of: sessions, shunters, the pool, SPX, the calibration store, channels, lanes, the timetable. One
lemma for each operation, `canon_<name>`: a state in canonical form is taken to one. -/

set_option linter.unusedTactic false
set_option linter.unreachableTactic false

namespace Sys2Proof.Machine

/-! ### Session -/

theorem canon_sendKeyed (s : State) (key : Vector Word 8) (dst : Nat) (cls : Nat) (q : SessReqMsg) (reply : Nat) (tgen : Nat) (qdepth : Nat) (data : List Byte) (tagged : Bool) (hC : s.Canon) : (State.sendKeyed s key dst cls q reply tgen qdepth data tagged).Canon := by
  unfold State.sendKeyed
  with_reducible (repeat' first | assumption | ((fail_if_no_progress extract_lets +onlyGivenNames x); (try (refine (fun hx : State.Canon x => ?_ : State.Canon x → _) ?_; (on_goal 1 => clear_value x); (on_goal 2 => unfold x)))) | apply canon_originate | split | (fail_if_no_progress (apply canon_upd)))

theorem canon_sendReply (s : State) (dst : Nat) (cls : Nat) (q : SessReqMsg) (reply : Nat) (tgen : Nat) (qdepth : Nat) (data : List Byte) (tagged : Bool) (hC : s.Canon) : (State.sendReply s dst cls q reply tgen qdepth data tagged).Canon := by
  unfold State.sendReply
  with_reducible (repeat' first | assumption | apply canon_sendKeyed)

theorem canon_srvRefuse (s : State) (r : SrvReq) (cls : Nat) (reply : Nat) (tgen : Nat) (tagged : Bool) (hC : s.Canon) : (State.srvRefuse s r cls reply tgen tagged).2.Canon := by
  unfold State.srvRefuse
  with_reducible (repeat' first | assumption | ((fail_if_no_progress extract_lets +onlyGivenNames x); (try (refine (fun hx : State.Canon x => ?_ : State.Canon x → _) ?_; (on_goal 1 => clear_value x); (on_goal 2 => unfold x)))) | apply canon_incF | apply canon_sendReply | split | (refine canon_of_pair (by assumption) ?_))

theorem canon_setQueue (s : State) (c : Nat) (l : List SrvReq) (hC : s.Canon) : (State.setQueue s c l).Canon := by
  unfold State.setQueue
  with_reducible (repeat' first | assumption | ((fail_if_no_progress extract_lets +onlyGivenNames x); (try (refine (fun hx : State.Canon x => ?_ : State.Canon x → _) ?_; (on_goal 1 => clear_value x); (on_goal 2 => unfold x)))) | apply canon_setF | split | (refine canon_of_pair (by assumption) ?_) | (fail_if_no_progress (apply canon_upd)))

theorem canon_srvQueue (s : State) (r : SrvReq) (cls : Nat) (e : SessEntry) (hC : s.Canon) : (State.srvQueue s r cls e).2.Canon := by
  unfold State.srvQueue
  with_reducible (repeat' first | assumption | intro _ | ((fail_if_no_progress extract_lets +onlyGivenNames x); (try (refine (fun hx : State.Canon x => ?_ : State.Canon x → _) ?_; (on_goal 1 => clear_value x); (on_goal 2 => unfold x)))) | apply canon_srvRefuse | apply canon_raise | apply canon_setQueue | apply canon_modSess | split | (refine canon_of_pair (by assumption) ?_) | (fail_if_no_progress (apply canon_upd)))

theorem canon_srvArrive (s : State) (r : SrvReq) (cls : Nat) (dest : Nat) (hC : s.Canon) : (State.srvArrive s r cls dest).2.Canon := by
  unfold State.srvArrive
  with_reducible (repeat' first | assumption | ((fail_if_no_progress extract_lets +onlyGivenNames x); (try (refine (fun hx : State.Canon x => ?_ : State.Canon x → _) ?_; (on_goal 1 => clear_value x); (on_goal 2 => unfold x)))) | apply canon_srvRefuse | apply canon_incF | apply canon_raise | apply canon_srvQueue | apply canon_setSess | split | (refine canon_of_pair (by assumption) ?_))

theorem canon_clientEnd (s : State) (reply : Nat) (hC : s.Canon) : (State.clientEnd s reply).Canon := by
  unfold State.clientEnd
  with_reducible (repeat' first | assumption | ((fail_if_no_progress extract_lets +onlyGivenNames x); (try (refine (fun hx : State.Canon x => ?_ : State.Canon x → _) ?_; (on_goal 1 => clear_value x); (on_goal 2 => unfold x)))) | apply canon_incF | apply canon_raise | split)

theorem canon_request (s : State) (q : NewReq) (hC : s.Canon) : (State.request s q).2.2.Canon := by
  unfold State.request
  with_reducible (repeat' first | assumption | ((fail_if_no_progress extract_lets +onlyGivenNames x); (try (refine (fun hx : State.Canon x => ?_ : State.Canon x → _) ?_; (on_goal 1 => clear_value x); (on_goal 2 => unfold x)))) | apply canon_clientEnd | apply canon_setSess | apply canon_originate | apply canon_srvArrive | apply canon_endReq | split | (refine canon_of_pair (by assumption) ?_) | (fail_if_no_progress (apply canon_upd)))

theorem canon_accessEnd (s : State) (m : Mach) (a : CoreAccess) (reply : Nat) (tgen : Nat) (qdepth : Nat) (data : List Byte) (hC : s.Canon) : (State.accessEnd s m a reply tgen qdepth data).Canon := by
  unfold State.accessEnd
  with_reducible (repeat' first | assumption | intro _ | ((fail_if_no_progress extract_lets +onlyGivenNames x); (try (refine (fun hx : State.Canon x => ?_ : State.Canon x → _) ?_; (on_goal 1 => clear_value x); (on_goal 2 => unfold x)))) | apply canon_setR | apply canon_modMach | apply canon_retire | apply canon_setRetire | apply canon_replyTrap | split | (fail_if_no_progress (apply canon_upd)))

theorem canon_stationAccess (s : State) (m : Mach) (a : CoreAccess) (sid : Nat) (hC : s.Canon) : (State.stationAccess s m a sid).Canon := by
  unfold State.stationAccess
  with_reducible (repeat' first | assumption | intro _ | ((fail_if_no_progress extract_lets +onlyGivenNames x); (try (refine (fun hx : State.Canon x => ?_ : State.Canon x → _) ?_; (on_goal 1 => clear_value x); (on_goal 2 => unfold x)))) | apply canon_modMach | apply canon_request | apply canon_accessEnd | split | (refine canon_of_pair (by assumption) ?_) | (refine canon_of_triple (by assumption) ?_) | (fail_if_no_progress (apply canon_upd)) | (fail_if_no_progress beta_reduce) | (fail_if_no_progress dsimp only) | (fail_if_no_progress dsimp +zetaDelta only))

/-! ### ShuntCtl -/

theorem canon_shFeed (s : State) (n : Fin 16) (point : Bool) (bs : List Byte) (hC : s.Canon) : (State.shFeed s n point bs).Canon := by
  unfold State.shFeed
  with_reducible (repeat' first | assumption | apply canon_cuEnter | split | (refine canon_of_pair (by assumption) ?_))

theorem canon_shUnitFree (s : State) (n : Fin 16) (hC : s.Canon) : (State.shUnitFree s n).Canon := by
  unfold State.shUnitFree
  with_reducible (repeat' first | assumption | intro _ | apply canon_setF | apply canon_modShu | split | (refine canon_of_pair (by assumption) ?_) | (fail_if_no_progress (apply canon_upd)))

theorem canon_shClaim (s : State) (n : Fin 16) (hC : s.Canon) : (State.shClaim s n).Canon := by
  unfold State.shClaim
  with_reducible (repeat' first | assumption | intro _ | ((fail_if_no_progress extract_lets +onlyGivenNames x); (try (refine (fun hx : State.Canon x => ?_ : State.Canon x → _) ?_; (on_goal 1 => clear_value x); (on_goal 2 => unfold x)))) | apply canon_setF | apply canon_cuLoad | apply canon_cuEnter | apply canon_modShu | split | (fail_if_no_progress (apply canon_upd)))

theorem canon_shRest (s : State) (n : Fin 16) (st : Nat) (end_ : Nat) (at_ : Word × Word) (hC : s.Canon) : (State.shRest s n st end_ at_).Canon := by
  unfold State.shRest
  with_reducible (repeat' first | assumption | intro _ | ((fail_if_no_progress extract_lets +onlyGivenNames x); (try (refine (fun hx : State.Canon x => ?_ : State.Canon x → _) ?_; (on_goal 1 => clear_value x); (on_goal 2 => unfold x)))) | apply canon_shUnitFree | apply canon_setF | apply canon_clrBitF | apply canon_setR | apply canon_offF | apply canon_modShu | apply canon_setBitF | split | (fail_if_no_progress (apply canon_upd)))

theorem canon_shError (s : State) (n : Fin 16) (f : ShFail) (lost : Bool) (hC : s.Canon) : (State.shError s n f lost).Canon := by
  unfold State.shError
  with_reducible (repeat' first | assumption | ((fail_if_no_progress extract_lets +onlyGivenNames x); (try (refine (fun hx : State.Canon x => ?_ : State.Canon x → _) ?_; (on_goal 1 => clear_value x); (on_goal 2 => unfold x)))) | apply canon_setF | apply canon_setR | apply canon_shRest | apply canon_raise | split | (refine canon_of_pair (by assumption) ?_))

theorem canon_shFail (s : State) (n : Fin 16) (code : Nat) (detail : Nat) (side : Nat) (at_ : Option (Word × Word)) (hC : s.Canon) : (State.shFail s n code detail side at_).Canon := by
  unfold State.shFail
  with_reducible (repeat' first | assumption | intro _ | apply canon_modShu | (fail_if_no_progress (apply canon_upd)))

theorem canon_modPiece (s : State) (n : Fin 16) (off : Nat) (write : Bool) (f : Piece → Piece) (hC : s.Canon) : (State.modPiece s n off write f).Canon := by
  unfold State.modPiece
  with_reducible (repeat' first | assumption | intro _ | apply canon_modShu | split | (fail_if_no_progress (apply canon_upd)))

theorem canon_dropPiece (s : State) (n : Fin 16) (off : Nat) (write : Bool) (hC : s.Canon) : (State.dropPiece s n off write).Canon := by
  unfold State.dropPiece
  with_reducible (repeat' first | assumption | intro _ | apply canon_modShu | (fail_if_no_progress (apply canon_upd)))

theorem canon_shRead (s : State) (n : Fin 16) (off : Nat) (bs : List Byte) (hC : s.Canon) : (State.shRead s n off bs).Canon := by
  unfold State.shRead
  with_reducible (repeat' first | assumption | intro _ | ((fail_if_no_progress extract_lets +onlyGivenNames x); (try (refine (fun hx : State.Canon x => ?_ : State.Canon x → _) ?_; (on_goal 1 => clear_value x); (on_goal 2 => unfold x)))) | apply canon_shFeed | apply canon_modShu | split | (refine canon_of_pair (by assumption) ?_) | (fail_if_no_progress (apply canon_upd)))

theorem canon_toBack (s : State) (n : Fin 16) (hC : s.Canon) : (State.toBack s n).Canon := by
  unfold State.toBack
  with_reducible (repeat' first | assumption | intro _ | ((fail_if_no_progress extract_lets +onlyGivenNames x); (try (refine (fun hx : State.Canon x => ?_ : State.Canon x → _) ?_; (on_goal 1 => clear_value x); (on_goal 2 => unfold x)))) | apply canon_shFail | apply canon_modShu | split | (refine canon_of_pair (by assumption) ?_) | (fail_if_no_progress (apply canon_upd)))

theorem canon_shCheckEnd (s : State) (n : Fin 16) (hC : s.Canon) : (State.shCheckEnd s n).Canon := by
  unfold State.shCheckEnd
  with_reducible (repeat' first | assumption | intro _ | ((fail_if_no_progress extract_lets +onlyGivenNames x); (try (refine (fun hx : State.Canon x => ?_ : State.Canon x → _) ?_; (on_goal 1 => clear_value x); (on_goal 2 => unfold x)))) | apply canon_modShu | apply canon_toBack | split | (fail_if_no_progress (apply canon_upd)))

theorem canon_pieceDone (s : State) (n : Fin 16) (p : Piece) (data : List Byte) (hC : s.Canon) : (State.pieceDone s n p data).Canon := by
  unfold State.pieceDone
  with_reducible (repeat' first | assumption | intro _ | ((fail_if_no_progress extract_lets +onlyGivenNames x); (try (refine (fun hx : State.Canon x => ?_ : State.Canon x → _) ?_; (on_goal 1 => clear_value x); (on_goal 2 => unfold x)))) | apply canon_dropPiece | apply canon_shCheckEnd | apply canon_shRead | apply canon_modShu | split | (refine canon_of_pair (by assumption) ?_) | (fail_if_no_progress (apply canon_upd)))

theorem canon_pieceFail (s : State) (n : Fin 16) (p : Piece) (code : Nat) (detail : Nat) (hC : s.Canon) : (State.pieceFail s n p code detail).Canon := by
  unfold State.pieceFail
  with_reducible (repeat' first | assumption | intro _ | ((fail_if_no_progress extract_lets +onlyGivenNames x); (try (refine (fun hx : State.Canon x => ?_ : State.Canon x → _) ?_; (on_goal 1 => clear_value x); (on_goal 2 => unfold x)))) | apply canon_dropPiece | apply canon_shFail | apply canon_shCheckEnd | apply canon_modShu | split | (refine canon_of_pair (by assumption) ?_) | (fail_if_no_progress (apply canon_upd)))

theorem canon_pieceReply (s : State) (n : Fin 16) (p : Piece) (reply : Nat) (data : List Byte) (hC : s.Canon) : (State.pieceReply s n p reply data).Canon := by
  unfold State.pieceReply
  with_reducible (repeat' first | assumption | intro _ | apply canon_pieceDone | apply canon_modPiece | apply canon_pieceFail | split | (fail_if_no_progress (apply canon_upd)))

theorem canon_sendPiece (s : State) (n : Fin 16) (p : Piece) (hC : s.Canon) : (State.sendPiece s n p).Canon := by
  unfold State.sendPiece
  with_reducible (repeat' first | assumption | intro _ | ((fail_if_no_progress extract_lets +onlyGivenNames x); (try (refine (fun hx : State.Canon x => ?_ : State.Canon x → _) ?_; (on_goal 1 => clear_value x); (on_goal 2 => unfold x)))) | apply canon_request | apply canon_modPiece | apply canon_pieceReply | split | (refine canon_of_pair (by assumption) ?_) | (refine canon_of_triple (by assumption) ?_) | (fail_if_no_progress (apply canon_upd)) | (fail_if_no_progress beta_reduce) | (fail_if_no_progress dsimp only) | (fail_if_no_progress dsimp +zetaDelta only))

theorem canon_newPiece (s : State) (n : Fin 16) (write : Bool) (hC : s.Canon) : (State.newPiece s n write).Canon := by
  unfold State.newPiece
  with_reducible (repeat' first | assumption | intro _ | ((fail_if_no_progress extract_lets +onlyGivenNames x); (try (refine (fun hx : State.Canon x => ?_ : State.Canon x → _) ?_; (on_goal 1 => clear_value x); (on_goal 2 => unfold x)))) | apply canon_shFeed | apply canon_modShu | split | (fail_if_no_progress (apply canon_upd)))

theorem canon_linePieces (n : Fin 16) (a0 : Nat) (s : State) (hC : s.Canon) : (State.linePieces n a0 s).Canon := by
  induction a0 generalizing n s with
  | zero => unfold State.linePieces; with_reducible (repeat' first | assumption | ((fail_if_no_progress extract_lets +onlyGivenNames x); (try (refine (fun hx : State.Canon x => ?_ : State.Canon x → _) ?_; (on_goal 1 => clear_value x); (on_goal 2 => unfold x)))) | apply canon_newPiece | split)
  | succ n ih => unfold State.linePieces; with_reducible (repeat' first | apply ih | assumption | ((fail_if_no_progress extract_lets +onlyGivenNames x); (try (refine (fun hx : State.Canon x => ?_ : State.Canon x → _) ?_; (on_goal 1 => clear_value x); (on_goal 2 => unfold x)))) | apply canon_newPiece | split)

theorem canon_sendLine (s : State) (n : Fin 16) (hC : s.Canon) : (State.sendLine s n).Canon := by
  unfold State.sendLine
  with_reducible (repeat' first | assumption | intro _ | apply canon_each | apply canon_sendPiece | split)

theorem canon_pumpN (n : Fin 16) (a0 : Nat) (s : State) (hC : s.Canon) : (State.pumpN n a0 s).Canon := by
  induction a0 generalizing n s with
  | zero => unfold State.pumpN; with_reducible (repeat' first | assumption | ((fail_if_no_progress extract_lets +onlyGivenNames x); (try (refine (fun hx : State.Canon x => ?_ : State.Canon x → _) ?_; (on_goal 1 => clear_value x); (on_goal 2 => unfold x)))) | apply canon_shClaim | apply canon_linePieces | apply canon_sendLine | split)
  | succ n ih => unfold State.pumpN; with_reducible (repeat' first | apply ih | assumption | ((fail_if_no_progress extract_lets +onlyGivenNames x); (try (refine (fun hx : State.Canon x => ?_ : State.Canon x → _) ?_; (on_goal 1 => clear_value x); (on_goal 2 => unfold x)))) | apply canon_shClaim | apply canon_linePieces | apply canon_sendLine | split)

theorem canon_shPump (s : State) (n : Fin 16) (hC : s.Canon) : (State.shPump s n).Canon := by
  unfold State.shPump
  with_reducible (repeat' first | assumption | apply canon_pumpN)

theorem canon_shPumpAll (s : State) (hC : s.Canon) : (State.shPumpAll s).Canon := by
  unfold State.shPumpAll
  with_reducible (repeat' first | assumption | intro _ | apply canon_each | apply canon_shPump | split)

theorem canon_shReply (s : State) (n : Fin 16) (id : Nat) (reply : Nat) (data : List Byte) (hC : s.Canon) : (State.shReply s n id reply data).Canon := by
  unfold State.shReply
  with_reducible (repeat' first | assumption | intro _ | apply canon_pieceReply | apply canon_shPumpAll | split | (refine canon_of_pair (by assumption) ?_))

theorem canon_shFetch (s : State) (n : Fin 16) (at_ : Word × Word) (sid : Nat) (expGen : Nat) (hC : s.Canon) : (State.shFetch s n at_ sid expGen).Canon := by
  unfold State.shFetch
  with_reducible (repeat' first | assumption | intro _ | ((fail_if_no_progress extract_lets +onlyGivenNames x); (try (refine (fun hx : State.Canon x => ?_ : State.Canon x → _) ?_; (on_goal 1 => clear_value x); (on_goal 2 => unfold x)))) | apply canon_setR | apply canon_modShu | apply canon_fetch | apply canon_setF | apply canon_shPump | split | (fail_if_no_progress (apply canon_upd)))

theorem canon_shStray (s : State) (n : Fin 16) (end_ : Nat) (at_ : Word × Word) (hC : s.Canon) : (State.shStray s n end_ at_).Canon := by
  unfold State.shStray
  with_reducible (repeat' first | assumption | apply canon_shRest | apply canon_raise)

theorem canon_shStart (s : State) (n : Fin 16) (at_ : Word × Word) (hC : s.Canon) : (State.shStart s n at_).Canon := by
  unfold State.shStart
  with_reducible (repeat' first | assumption | intro _ | ((fail_if_no_progress extract_lets +onlyGivenNames x); (try (refine (fun hx : State.Canon x => ?_ : State.Canon x → _) ?_; (on_goal 1 => clear_value x); (on_goal 2 => unfold x)))) | apply canon_setR | apply canon_setBitF | apply canon_modShu | apply canon_shFetch | apply canon_shStray | split | (fail_if_no_progress (apply canon_upd)))

theorem canon_shNext (s : State) (n : Fin 16) (hC : s.Canon) : (State.shNext s n).Canon := by
  unfold State.shNext
  with_reducible (repeat' first | assumption | intro _ | ((fail_if_no_progress extract_lets +onlyGivenNames x); (try (refine (fun hx : State.Canon x => ?_ : State.Canon x → _) ?_; (on_goal 1 => clear_value x); (on_goal 2 => unfold x)))) | apply canon_shStray | apply canon_modShu | apply canon_shFetch | split | (fail_if_no_progress (apply canon_upd)))

theorem canon_fetchFail (s : State) (n : Fin 16) (code : Nat) (detail : Nat) (hC : s.Canon) : (State.fetchFail s n code detail).Canon := by
  unfold State.fetchFail
  with_reducible (repeat' first | assumption | apply canon_shError | (fail_if_no_progress (apply canon_upd)))

theorem canon_shFetched (s : State) (n : Fin 16) (words : List Word) (hC : s.Canon) : (State.shFetched s n words).Canon := by
  unfold State.shFetched
  with_reducible (repeat' first | assumption | intro _ | ((fail_if_no_progress extract_lets +onlyGivenNames x); (try (refine (fun hx : State.Canon x => ?_ : State.Canon x → _) ?_; (on_goal 1 => clear_value x); (on_goal 2 => unfold x)))) | apply canon_modShu | apply canon_shRest | apply canon_shFail | apply canon_toBack | apply canon_shPump | split | (refine canon_of_pair (by assumption) ?_) | (fail_if_no_progress (apply canon_upd)))

theorem canon_shComplete (s : State) (n : Fin 16) (wb : Option (Nat × Nat)) (hC : s.Canon) : (State.shComplete s n wb).Canon := by
  unfold State.shComplete
  with_reducible (repeat' first | assumption | ((fail_if_no_progress extract_lets +onlyGivenNames x); (try (refine (fun hx : State.Canon x => ?_ : State.Canon x → _) ?_; (on_goal 1 => clear_value x); (on_goal 2 => unfold x)))) | apply canon_shUnitFree | apply canon_shError | apply canon_shPumpAll | apply canon_setBitF | apply canon_setF | apply canon_shRest | apply canon_shNext | split | (refine canon_of_pair (by assumption) ?_) | (fail_if_no_progress (apply canon_upd)))

theorem canon_shIgnored (s : State) (n : Fin 16) (hC : s.Canon) : (State.shIgnored s n).Canon := by
  unfold State.shIgnored
  with_reducible (repeat' first | assumption | apply canon_onF)

theorem canon_shGo (s : State) (n : Fin 16) (resume : Bool) (hC : s.Canon) : (State.shGo s n resume).Canon := by
  unfold State.shGo
  with_reducible (repeat' first | assumption | apply canon_shIgnored | apply canon_shStart | split)

theorem canon_shStop (s : State) (n : Fin 16) (hC : s.Canon) : (State.shStop s n).Canon := by
  unfold State.shStop
  with_reducible (repeat' first | assumption | apply canon_fetch | apply canon_shRest | apply canon_setF | apply canon_onF | split)

theorem canon_shCtrl (s : State) (n : Fin 16) (v : Word) (hC : s.Canon) : (State.shCtrl s n v).Canon := by
  unfold State.shCtrl
  with_reducible (repeat' first | assumption | ((fail_if_no_progress extract_lets +onlyGivenNames x); (try (refine (fun hx : State.Canon x => ?_ : State.Canon x → _) ?_; (on_goal 1 => clear_value x); (on_goal 2 => unfold x)))) | apply canon_shIgnored | apply canon_shStop | apply canon_shGo | split)

theorem canon_abortPieces (s : State) (hC : s.Canon) : (State.abortPieces s).Canon := by
  unfold State.abortPieces
  with_reducible (repeat' first | assumption | intro _ | ((fail_if_no_progress extract_lets +onlyGivenNames x); (try (refine (fun hx : State.Canon x => ?_ : State.Canon x → _) ?_; (on_goal 1 => clear_value x); (on_goal 2 => unfold x)))) | apply canon_each | apply canon_pieceFail | apply canon_shPump | split)

theorem canon_loseUnits (s : State) (hC : s.Canon) : (State.loseUnits s).Canon := by
  unfold State.loseUnits
  with_reducible (repeat' first | assumption | intro _ | ((fail_if_no_progress extract_lets +onlyGivenNames x); (try (refine (fun hx : State.Canon x => ?_ : State.Canon x → _) ?_; (on_goal 1 => clear_value x); (on_goal 2 => unfold x)))) | apply canon_each | apply canon_modShu | apply canon_shFail | apply canon_shCheckEnd | apply canon_shPump | split | (fail_if_no_progress (apply canon_upd)))

/-! ### Pool -/

theorem canon_unmark (s : State) (lo n : Nat) (hC : s.Canon) : (State.unmark s lo n).Canon :=
  canon_filters hC _ (fun _ => true) rfl rfl (filter_all _).symm

theorem canon_markWagon (s : State) (i : Nat) (hC : s.Canon) : (State.markWagon s i).Canon := by
  unfold State.markWagon
  with_reducible (repeat' first | assumption | apply canon_unmark)

theorem canon_plTake (s : State) (i : Nat) (tag : Nat) (hC : s.Canon) : (State.plTake s i tag).Canon := by
  unfold State.plTake
  with_reducible (repeat' first | assumption | ((fail_if_no_progress extract_lets +onlyGivenNames x); (try (refine (fun hx : State.Canon x => ?_ : State.Canon x → _) ?_; (on_goal 1 => clear_value x); (on_goal 2 => unfold x)))) | split | (fail_if_no_progress (apply canon_upd)))

theorem canon_plAlloc (s : State) (by_ : Agent) (hC : s.Canon) : (State.plAlloc s by_).2.Canon := by
  unfold State.plAlloc
  with_reducible (repeat' first | assumption | ((fail_if_no_progress extract_lets +onlyGivenNames x); (try (refine (fun hx : State.Canon x => ?_ : State.Canon x → _) ?_; (on_goal 1 => clear_value x); (on_goal 2 => unfold x)))) | apply canon_incF | apply canon_raise | apply canon_takeFree | apply canon_markWagon | apply canon_plTake | split | (refine canon_of_pair (by assumption) ?_))

theorem canon_plResult (s : State) (by_ : Agent) (code : Nat) (hC : s.Canon) : (State.plResult s by_ code).2.Canon := by
  unfold State.plResult
  with_reducible (repeat' first | assumption | apply canon_setR | split | (refine canon_of_pair (by assumption) ?_))

theorem canon_plRefuse (s : State) (by_ : Agent) (code : Nat) (cnt : Fd) (src : Option Nat) (hC : s.Canon) : (State.plRefuse s by_ code cnt src).2.Canon := by
  unfold State.plRefuse
  with_reducible (repeat' first | assumption | ((fail_if_no_progress extract_lets +onlyGivenNames x); (try (refine (fun hx : State.Canon x => ?_ : State.Canon x → _) ?_; (on_goal 1 => clear_value x); (on_goal 2 => unfold x)))) | apply canon_incF | apply canon_plResult | apply canon_raise | split | (refine canon_of_pair (by assumption) ?_))

theorem canon_plRelease (i : Nat) (s : State) (hC : s.Canon) : (State.plRelease i s).Canon := by
  unfold State.plRelease
  with_reducible (repeat' first | assumption | (fail_if_no_progress (apply canon_upd)))

theorem canon_plFree (s : State) (by_ : Agent) (a : Nat) (hC : s.Canon) : (State.plFree s by_ a).2.Canon := by
  unfold State.plFree
  with_reducible (repeat' first | assumption | ((fail_if_no_progress extract_lets +onlyGivenNames x); (try (refine (fun hx : State.Canon x => ?_ : State.Canon x → _) ?_; (on_goal 1 => clear_value x); (on_goal 2 => unfold x)))) | apply canon_plRefuse | apply canon_plRelease | apply canon_plResult | split)

theorem canon_plGive (s : State) (by_ : Agent) (i : Nat) (tag : Nat) (hC : s.Canon) : (State.plGive s by_ i tag).2.Canon := by
  unfold State.plGive
  with_reducible (repeat' first | assumption | apply canon_plRefuse | apply canon_plResult | split | (fail_if_no_progress (apply canon_upd)))

theorem canon_plReclaim (s : State) (by_ : Agent) (tag : Nat) (hC : s.Canon) : (State.plReclaim s by_ tag).2.Canon := by
  unfold State.plReclaim
  with_reducible (repeat' first | assumption | intro _ | ((fail_if_no_progress extract_lets +onlyGivenNames x); (try (refine (fun hx : State.Canon x => ?_ : State.Canon x → _) ?_; (on_goal 1 => clear_value x); (on_goal 2 => unfold x)))) | apply canon_each | apply canon_plRelease | apply canon_setR | split | (refine canon_of_pair (by assumption) ?_))

theorem canon_plMarked (s : State) (hC : s.Canon) : (State.plMarked s).Canon := by
  unfold State.plMarked
  with_reducible (repeat' first | assumption | ((fail_if_no_progress extract_lets +onlyGivenNames x); (try (refine (fun hx : State.Canon x => ?_ : State.Canon x → _) ?_; (on_goal 1 => clear_value x); (on_goal 2 => unfold x)))) | apply canon_markWagon | split | (refine canon_of_pair (by assumption) ?_) | (fail_if_no_progress (apply canon_upd)))

theorem canon_plSweep (s : State) (hC : s.Canon) : (State.plSweep s).Canon := by
  unfold State.plSweep
  with_reducible (repeat' first | assumption | apply canon_onF | (fail_if_no_progress (apply canon_upd)))

theorem canon_plCfgWrite (s : State) (v : Word) (hC : s.Canon) : (State.plCfgWrite s v).Canon := by
  unfold State.plCfgWrite
  with_reducible (repeat' first | assumption | ((fail_if_no_progress extract_lets +onlyGivenNames x); (try (refine (fun hx : State.Canon x => ?_ : State.Canon x → _) ?_; (on_goal 1 => clear_value x); (on_goal 2 => unfold x)))) | apply canon_setF | apply canon_plSweep | apply canon_onF | split)

theorem canon_plSwept (s : State) (hC : s.Canon) : (State.plSwept s).Canon := by
  unfold State.plSwept
  with_reducible (repeat' first | assumption | apply canon_unmark | apply canon_offF)

/-! ### Spx -/

theorem canon_modSpx (s : State) (f : SpxH → SpxH) (hC : s.Canon) : (State.modSpx s f).Canon := by
  unfold State.modSpx
  with_reducible (repeat' first | assumption | (fail_if_no_progress (apply canon_upd)))

theorem canon_spxSetRole (s : State) (role : Nat) (hC : s.Canon) : (State.spxSetRole s role).Canon := by
  unfold State.spxSetRole
  with_reducible (repeat' first | assumption | apply canon_setF | split | (refine canon_of_pair (by assumption) ?_))

theorem canon_spxCfgWrite (s : State) (v : Word) (hC : s.Canon) : (State.spxCfgWrite s v).Canon := by
  unfold State.spxCfgWrite
  with_reducible (repeat' first | assumption | ((fail_if_no_progress extract_lets +onlyGivenNames x); (try (refine (fun hx : State.Canon x => ?_ : State.Canon x → _) ?_; (on_goal 1 => clear_value x); (on_goal 2 => unfold x)))) | apply canon_onF | apply canon_setF | apply canon_spxSetRole | split)

theorem canon_spxClkWrite (s : State) (v : Word) (hC : s.Canon) : (State.spxClkWrite s v).Canon := by
  unfold State.spxClkWrite
  with_reducible (repeat' first | assumption | ((fail_if_no_progress extract_lets +onlyGivenNames x); (try (refine (fun hx : State.Canon x => ?_ : State.Canon x → _) ?_; (on_goal 1 => clear_value x); (on_goal 2 => unfold x)))) | apply canon_setR | apply canon_onF | split)

theorem canon_spxIn (s : State) (hC : s.Canon) : (State.spxIn s).2.Canon := by
  unfold State.spxIn
  with_reducible (repeat' first | assumption | intro _ | ((fail_if_no_progress extract_lets +onlyGivenNames x); (try (refine (fun hx : State.Canon x => ?_ : State.Canon x → _) ?_; (on_goal 1 => clear_value x); (on_goal 2 => unfold x)))) | apply canon_modSpx | apply canon_takeFree | split | (refine canon_of_pair (by assumption) ?_) | (fail_if_no_progress (apply canon_upd)))

theorem canon_spxWord (a0 : Nat) (a1 : Nat) (s : State) (hC : s.Canon) : (State.spxWord a0 a1 s).2.Canon := by
  induction a0 generalizing a1 s with
  | zero => unfold State.spxWord; with_reducible (repeat' first | assumption | intro _ | ((fail_if_no_progress extract_lets +onlyGivenNames x); (try (refine (fun hx : State.Canon x => ?_ : State.Canon x → _) ?_; (on_goal 1 => clear_value x); (on_goal 2 => unfold x)))) | apply canon_spxIn | apply canon_modSpx | split | (refine canon_of_pair (by assumption) ?_) | (fail_if_no_progress (apply canon_upd)))
  | succ n ih => unfold State.spxWord; with_reducible (repeat' first | apply ih | assumption | intro _ | ((fail_if_no_progress extract_lets +onlyGivenNames x); (try (refine (fun hx : State.Canon x => ?_ : State.Canon x → _) ?_; (on_goal 1 => clear_value x); (on_goal 2 => unfold x)))) | apply canon_spxIn | apply canon_modSpx | split | (refine canon_of_pair (by assumption) ?_) | (fail_if_no_progress (apply canon_upd)))

theorem canon_spxMove (a0 : Nat) (s : State) (hC : s.Canon) : (State.spxMove a0 s).Canon := by
  induction a0 generalizing s with
  | zero => unfold State.spxMove; with_reducible (repeat' first | assumption | intro _ | ((fail_if_no_progress extract_lets +onlyGivenNames x); (try (refine (fun hx : State.Canon x => ?_ : State.Canon x → _) ?_; (on_goal 1 => clear_value x); (on_goal 2 => unfold x)))) | apply canon_setF | apply canon_spxWord | apply canon_modSpx | split | (refine canon_of_pair (by assumption) ?_) | (fail_if_no_progress (apply canon_upd)))
  | succ n ih => unfold State.spxMove; with_reducible (repeat' first | apply ih | assumption | intro _ | ((fail_if_no_progress extract_lets +onlyGivenNames x); (try (refine (fun hx : State.Canon x => ?_ : State.Canon x → _) ?_; (on_goal 1 => clear_value x); (on_goal 2 => unfold x)))) | apply canon_setF | apply canon_spxWord | apply canon_modSpx | split | (refine canon_of_pair (by assumption) ?_) | (fail_if_no_progress (apply canon_upd)))

theorem canon_spxRun (s : State) (hC : s.Canon) : (State.spxRun s).Canon := by
  unfold State.spxRun
  with_reducible (repeat' first | assumption | apply canon_spxMove)

theorem canon_spxDone (s : State) (hC : s.Canon) : (State.spxDone s).2.Canon := by
  unfold State.spxDone
  with_reducible (repeat' first | assumption | ((fail_if_no_progress extract_lets +onlyGivenNames x); (try (refine (fun hx : State.Canon x => ?_ : State.Canon x → _) ?_; (on_goal 1 => clear_value x); (on_goal 2 => unfold x)))) | apply canon_takeFree | split | (refine canon_of_pair (by assumption) ?_))

theorem canon_spxEnd (s : State) (result : Nat) (done : Nat) (last : SpxPad) (hC : s.Canon) : (State.spxEnd s result done last).Canon := by
  unfold State.spxEnd
  with_reducible (repeat' first | assumption | intro _ | ((fail_if_no_progress extract_lets +onlyGivenNames x); (try (refine (fun hx : State.Canon x => ?_ : State.Canon x → _) ?_; (on_goal 1 => clear_value x); (on_goal 2 => unfold x)))) | apply canon_setF | apply canon_modSpx | apply canon_onF | (fail_if_no_progress (apply canon_upd)))

theorem canon_spxFlush (s : State) (hC : s.Canon) : (State.spxFlush s).Canon := by
  unfold State.spxFlush
  with_reducible (repeat' first | assumption | intro _ | apply canon_modSpx | (fail_if_no_progress (apply canon_upd)))

theorem canon_spxGo (s : State) (din : List Word) (hC : s.Canon) : (State.spxGo s din).Canon := by
  unfold State.spxGo
  with_reducible (repeat' first | assumption | intro _ | ((fail_if_no_progress extract_lets +onlyGivenNames x); (try (refine (fun hx : State.Canon x => ?_ : State.Canon x → _) ?_; (on_goal 1 => clear_value x); (on_goal 2 => unfold x)))) | apply canon_setF | apply canon_onF | apply canon_raise | apply canon_modSpx | apply canon_spxRun | split | (refine canon_of_pair (by assumption) ?_) | (fail_if_no_progress (apply canon_upd)))

theorem canon_spxCut (s : State) (last : SpxPad) (hC : s.Canon) : (State.spxCut s last).Canon := by
  unfold State.spxCut
  with_reducible (repeat' first | assumption | ((fail_if_no_progress extract_lets +onlyGivenNames x); (try (refine (fun hx : State.Canon x => ?_ : State.Canon x → _) ?_; (on_goal 1 => clear_value x); (on_goal 2 => unfold x)))) | apply canon_spxDone | apply canon_spxFlush | apply canon_spxEnd | split | (refine canon_of_pair (by assumption) ?_))

theorem canon_spxAbort (s : State) (hC : s.Canon) : (State.spxAbort s).Canon := by
  unfold State.spxAbort
  with_reducible (repeat' first | assumption | apply canon_spxCut)

theorem canon_spxFrameEnd (s : State) (hC : s.Canon) : (State.spxFrameEnd s).Canon := by
  unfold State.spxFrameEnd
  with_reducible (repeat' first | assumption | ((fail_if_no_progress extract_lets +onlyGivenNames x); (try (refine (fun hx : State.Canon x => ?_ : State.Canon x → _) ?_; (on_goal 1 => clear_value x); (on_goal 2 => unfold x)))) | apply canon_spxEnd | apply canon_offF | split)

theorem canon_spxModeFault (s : State) (hC : s.Canon) : (State.spxModeFault s).Canon := by
  unfold State.spxModeFault
  with_reducible (repeat' first | assumption | intro _ | ((fail_if_no_progress extract_lets +onlyGivenNames x); (try (refine (fun hx : State.Canon x => ?_ : State.Canon x → _) ?_; (on_goal 1 => clear_value x); (on_goal 2 => unfold x)))) | apply canon_spxDone | apply canon_spxFlush | apply canon_spxEnd | apply canon_incF | apply canon_onF | apply canon_offF | apply canon_modSpx | apply canon_raise | split | (refine canon_of_pair (by assumption) ?_) | (fail_if_no_progress (apply canon_upd)))

theorem canon_spxTxFlush (s : State) (hC : s.Canon) : (State.spxTxFlush s).Canon := by
  unfold State.spxTxFlush
  with_reducible (repeat' first | assumption | intro _ | apply canon_modSpx | split | (fail_if_no_progress (apply canon_upd)))

theorem canon_spxRxFlush (s : State) (hC : s.Canon) : (State.spxRxFlush s).Canon := by
  unfold State.spxRxFlush
  with_reducible (repeat' first | assumption | intro _ | apply canon_modSpx | split | (fail_if_no_progress (apply canon_upd)))

theorem canon_spxCtrlWrite (s : State) (v : Word) (hC : s.Canon) : (State.spxCtrlWrite s v).Canon := by
  unfold State.spxCtrlWrite
  with_reducible (repeat' first | assumption | ((fail_if_no_progress extract_lets +onlyGivenNames x); (try (refine (fun hx : State.Canon x => ?_ : State.Canon x → _) ?_; (on_goal 1 => clear_value x); (on_goal 2 => unfold x)))) | apply canon_setF | apply canon_spxTxFlush | apply canon_spxRxFlush | apply canon_spxGo | apply canon_spxAbort | split)

theorem canon_spxResume (s : State) (hC : s.Canon) : (State.spxResume s).Canon := by
  unfold State.spxResume
  with_reducible (repeat' first | assumption | apply canon_spxRun | split)

theorem canon_spxTxWrite (s : State) (v : Word) (hC : s.Canon) : (State.spxTxWrite s v).Canon := by
  unfold State.spxTxWrite
  with_reducible (repeat' first | assumption | intro _ | apply canon_modSpx | apply canon_spxResume | split | (fail_if_no_progress (apply canon_upd)))

theorem canon_spxRxRead (s : State) (hC : s.Canon) : (State.spxRxRead s).2.Canon := by
  unfold State.spxRxRead
  with_reducible (repeat' first | assumption | intro _ | apply canon_modSpx | apply canon_spxResume | (fail_if_no_progress (apply canon_upd)))

theorem canon_mailRead (s : State) (hC : s.Canon) : (State.mailRead s).2.Canon := by
  unfold State.mailRead
  with_reducible (repeat' first | assumption | intro _ | apply canon_modSpx | (fail_if_no_progress (apply canon_upd)))

theorem canon_mailWrite (s : State) (v : Word) (hC : s.Canon) : (State.mailWrite s v).Canon := by
  unfold State.mailWrite
  with_reducible (repeat' first | assumption | intro _ | apply canon_modSpx | split | (fail_if_no_progress (apply canon_upd)))

theorem canon_slaveIgnored (s : State) (hC : s.Canon) : (State.slaveIgnored s).Canon := by
  unfold State.slaveIgnored
  with_reducible (repeat' first | assumption | apply canon_onF)

theorem canon_bootStore (s : State) (v : Word) (hC : s.Canon) : (State.bootStore s v).Canon := by
  unfold State.bootStore
  with_reducible (repeat' first | assumption | intro _ | apply canon_sramWrite | apply canon_modSpx | apply canon_onF | split | (fail_if_no_progress (apply canon_upd)))

theorem canon_slaveWrite (s : State) (a : Nat) (v : Word) (hC : s.Canon) : (State.slaveWrite s a v).2.Canon := by
  unfold State.slaveWrite
  with_reducible (repeat' first | assumption | intro _ | apply canon_setR | apply canon_onF | apply canon_modSpx | apply canon_slaveIgnored | apply canon_setBitF | apply canon_bootStore | split | (fail_if_no_progress (apply canon_upd)))

theorem canon_slaveWrites (a0 : List Word) (a1 : Nat) (a2 : Bool) (s : State) (hC : s.Canon) : (State.slaveWrites a0 a1 a2 s).2.Canon := by
  induction a0 generalizing a1 a2 s with
  | nil => unfold State.slaveWrites; with_reducible (repeat' first | assumption | ((fail_if_no_progress extract_lets +onlyGivenNames x); (try (refine (fun hx : State.Canon x => ?_ : State.Canon x → _) ?_; (on_goal 1 => clear_value x); (on_goal 2 => unfold x)))) | apply canon_slaveWrite | split | (refine canon_of_pair (by assumption) ?_))
  | cons x r ih => unfold State.slaveWrites; with_reducible (repeat' first | apply ih | assumption | ((fail_if_no_progress extract_lets +onlyGivenNames x); (try (refine (fun hx : State.Canon x => ?_ : State.Canon x → _) ?_; (on_goal 1 => clear_value x); (on_goal 2 => unfold x)))) | apply canon_slaveWrite | split | (refine canon_of_pair (by assumption) ?_))

theorem canon_slaveDriven (s : State) (neg : Word) (r : SlaveRun) (hC : s.Canon) : (State.slaveDriven s neg r).Canon := by
  unfold State.slaveDriven
  with_reducible (repeat' first | assumption | intro _ | ((fail_if_no_progress extract_lets +onlyGivenNames x); (try (refine (fun hx : State.Canon x => ?_ : State.Canon x → _) ?_; (on_goal 1 => clear_value x); (on_goal 2 => unfold x)))) | apply canon_modSpx | apply canon_onF | split | (fail_if_no_progress (apply canon_upd)))

theorem canon_slaveApply (s : State) (e : SlaveSel) (f : SlaveFrame) (hC : s.Canon) : (State.slaveApply s e f).Canon := by
  unfold State.slaveApply
  extract_lets run s1 under s2
  clear_value run
  have h1 : s1.Canon := by
    unfold s1
    split
    · exact canon_slaveDriven _ _ _ hC
    · exact canon_modSpx _ _ hC
  have h2 : s2.Canon := canon_onF (canon_incF _ _ h1) _
  clear_value under s2
  clear_value s1
  split
  rename_i src t heq
  have ht : t.Canon := by
    refine canon_of_pair heq ?_
    clear heq
    cases s1.slaveReject e f with
    | some c => exact canon_onF (canon_incF _ _ (canon_setF (canon_onF h1 _) _ _)) _
    | none =>
      cases run with
      | some r => exact canon_modSpx _ _ h2
      | none => exact canon_slaveWrites _ _ _ _ h2
  extract_lets s3
  have h3 : s3.Canon := by
    unfold s3
    split
    · exact canon_raise _ _ _ ht
    · exact ht
  split
  · exact canon_raise _ _ _ h3
  · exact h3

theorem canon_slaveFall (s : State) (hC : s.Canon) : (State.slaveFall s).Canon := by
  unfold State.slaveFall
  with_reducible (repeat' first | assumption | intro _ | ((fail_if_no_progress extract_lets +onlyGivenNames x); (try (refine (fun hx : State.Canon x => ?_ : State.Canon x → _) ?_; (on_goal 1 => clear_value x); (on_goal 2 => unfold x)))) | apply canon_modSpx | (fail_if_no_progress (apply canon_upd)))

theorem canon_slaveRise (s : State) (f : SlaveFrame) (hC : s.Canon) : (State.slaveRise s f).Canon := by
  unfold State.slaveRise
  with_reducible (repeat' first | assumption | intro _ | ((fail_if_no_progress extract_lets +onlyGivenNames x); (try (refine (fun hx : State.Canon x => ?_ : State.Canon x → _) ?_; (on_goal 1 => clear_value x); (on_goal 2 => unfold x)))) | apply canon_modSpx | apply canon_slaveApply | split | (refine canon_of_pair (by assumption) ?_) | (fail_if_no_progress (apply canon_upd)))

theorem canon_negReset (s : State) (hC : s.Canon) : (State.negReset s).Canon := by
  unfold State.negReset
  with_reducible (repeat' first | assumption | apply canon_setR)

theorem canon_spxVioLost (s : State) (f : SlaveFrame) (hC : s.Canon) : (State.spxVioLost s f).Canon := by
  unfold State.spxVioLost
  with_reducible (repeat' first | assumption | ((fail_if_no_progress extract_lets +onlyGivenNames x); (try (refine (fun hx : State.Canon x => ?_ : State.Canon x → _) ?_; (on_goal 1 => clear_value x); (on_goal 2 => unfold x)))) | apply canon_spxCut | apply canon_slaveRise | split)

/-! ### Sleep -/

theorem canon_clearReady (s : State) (hC : s.Canon) : (State.clearReady s).Canon := by
  unfold State.clearReady
  with_reducible (repeat' first | assumption | ((fail_if_no_progress extract_lets +onlyGivenNames x); (try (refine (fun hx : State.Canon x => ?_ : State.Canon x → _) ?_; (on_goal 1 => clear_value x); (on_goal 2 => unfold x)))) | apply canon_offF | (fail_if_no_progress (apply canon_upd)))

theorem canon_setReady (s : State) (t : Triad) (hC : s.Canon) : (State.setReady s t).Canon := by
  unfold State.setReady
  with_reducible (repeat' first | assumption | apply canon_onF | split | (refine canon_of_pair (by assumption) ?_))

theorem canon_readyBy (s : State) (t : Triad) (m : Option Mach) (hC : s.Canon) : (State.readyBy s t m).Canon := by
  unfold State.readyBy
  with_reducible (repeat' first | assumption | ((fail_if_no_progress extract_lets +onlyGivenNames x); (try (refine (fun hx : State.Canon x => ?_ : State.Canon x → _) ?_; (on_goal 1 => clear_value x); (on_goal 2 => unfold x)))) | apply canon_setReady | split | (refine canon_of_pair (by assumption) ?_) | (fail_if_no_progress (apply canon_upd)))

theorem canon_wakeEvent (s : State) (k : Nat) (hC : s.Canon) : (State.wakeEvent s k).Canon := by
  unfold State.wakeEvent
  with_reducible (repeat' first | assumption | ((fail_if_no_progress extract_lets +onlyGivenNames x); (try (refine (fun hx : State.Canon x => ?_ : State.Canon x → _) ?_; (on_goal 1 => clear_value x); (on_goal 2 => unfold x)))) | apply canon_onF | apply canon_setF | apply canon_clearReady | split)

theorem canon_wakeChan (s : State) (n : Fin 16) (hC : s.Canon) : (State.wakeChan s n).Canon := by
  unfold State.wakeChan
  with_reducible (repeat' first | assumption | ((fail_if_no_progress extract_lets +onlyGivenNames x); (try (refine (fun hx : State.Canon x => ?_ : State.Canon x → _) ?_; (on_goal 1 => clear_value x); (on_goal 2 => unfold x)))) | apply canon_setF | apply canon_wakeEvent | split)

theorem canon_sleepCheck (s : State) (hC : s.Canon) : (State.sleepCheck s).Canon := by
  unfold State.sleepCheck
  with_reducible (repeat' first | assumption | ((fail_if_no_progress extract_lets +onlyGivenNames x); (try (refine (fun hx : State.Canon x => ?_ : State.Canon x → _) ?_; (on_goal 1 => clear_value x); (on_goal 2 => unfold x)))) | apply canon_setF | apply canon_clearReady | split)

/-! ### Calst -/

theorem canon_eraseSector (s : State) (k : Nat) (hC : s.Canon) : (State.eraseSector s k).Canon :=
  canon_filters (canon_dropFlux s k hC) (fun _ => true) _ rfl (filter_all _).symm rfl

theorem canon_calRead (s : State) (b : Nat) (hC : s.Canon) : (State.calRead s b).Canon := by
  unfold State.calRead
  with_reducible (repeat' first | assumption | intro _ | apply canon_flashWords)

theorem canon_calSelect (s : State) (hC : s.Canon) : (State.calSelect s).Canon := by
  unfold State.calSelect
  extract_lets s1 v0 v1 put s2 s3 src
  have h1 : s1.Canon := canon_calRead _ _ (canon_calRead _ _ hC)
  have h2 : s2.Canon := canon_setF (canon_setF h1 _ _) _ _
  have hp : ∀ (x : State) b g e, x.Canon → (put x b g e).Canon := by
    intro x b g e hx
    unfold put
    dsimp only
    apply canon_upd
    exact canon_offF (canon_setF (canon_setF hx _ _) _ _) _
  have h3 : s3.Canon := canon_onF (canon_offF (canon_offF h2 _) _) _
  clear_value src s3 s2 put
  clear_value v0 v1
  clear h1
  clear_value s1
  rcases v0 with _ | ⟨g0, e0⟩ <;> rcases v1 with _ | ⟨g1, e1⟩ <;> dsimp only
  · apply canon_raise
    apply canon_upd
    exact h3
  · exact canon_ite (fun _ => hp _ _ _ _ h2) (fun _ => canon_raise _ _ _ (hp _ _ _ _ h2))
  · exact canon_ite (fun _ => hp _ _ _ _ h2) (fun _ => canon_raise _ _ _ (hp _ _ _ _ h2))
  · exact canon_ite (fun _ => hp _ _ _ _ h2) (fun _ => hp _ _ _ _ h2)

theorem canon_calFail (s : State) (r : Nat) (hC : s.Canon) : (State.calFail s r).Canon := by
  unfold State.calFail
  with_reducible (repeat' first | assumption | apply canon_setF | apply canon_onF | apply canon_incF | apply canon_raise)

theorem canon_calStop (s : State) (hC : s.Canon) : (State.calStop s).Canon := by
  unfold State.calStop
  with_reducible (repeat' first | assumption | apply canon_offF)

theorem canon_calWrite (s : State) (hC : s.Canon) : (State.calWrite s).Canon := by
  unfold State.calWrite
  with_reducible (repeat' first | assumption | ((fail_if_no_progress extract_lets +onlyGivenNames x); (try (refine (fun hx : State.Canon x => ?_ : State.Canon x → _) ?_; (on_goal 1 => clear_value x); (on_goal 2 => unfold x)))) | apply canon_calFail | apply canon_onF | apply canon_setF | split | (fail_if_no_progress (apply canon_upd)))

theorem canon_calCopied (s : State) (hC : s.Canon) : (State.calCopied s).Canon := by
  unfold State.calCopied
  with_reducible (repeat' first | assumption | intro _ | ((fail_if_no_progress extract_lets +onlyGivenNames x); (try (refine (fun hx : State.Canon x => ?_ : State.Canon x → _) ?_; (on_goal 1 => clear_value x); (on_goal 2 => unfold x)))) | apply canon_eccTouchAll | apply canon_calStop | apply canon_calFail | apply canon_setF | apply canon_addFlux | apply canon_tlEraseStart | split | (refine canon_of_pair (by assumption) ?_) | (fail_if_no_progress (apply canon_upd)))

theorem canon_calErased (s : State) (blank : Bool) (hC : s.Canon) : (State.calErased s blank).Canon := by
  unfold State.calErased
  with_reducible (repeat' first | assumption | ((fail_if_no_progress extract_lets +onlyGivenNames x); (try (refine (fun hx : State.Canon x => ?_ : State.Canon x → _) ?_; (on_goal 1 => clear_value x); (on_goal 2 => unfold x)))) | apply canon_tlEraseEnd | apply canon_eraseSector | apply canon_addFlux | apply canon_setF | apply canon_calStop | apply canon_calFail | split)

theorem canon_calProgrammed (s : State) (hC : s.Canon) : (State.calProgrammed s).Canon := by
  unfold State.calProgrammed
  with_reducible (repeat' first | assumption | ((fail_if_no_progress extract_lets +onlyGivenNames x); (try (refine (fun hx : State.Canon x => ?_ : State.Canon x → _) ?_; (on_goal 1 => clear_value x); (on_goal 2 => unfold x)))) | apply canon_dropFlux | apply canon_flashProgram | apply canon_setF)

theorem canon_calCommitted (s : State) (hC : s.Canon) : (State.calCommitted s).Canon := by
  unfold State.calCommitted
  with_reducible (repeat' first | assumption | ((fail_if_no_progress extract_lets +onlyGivenNames x); (try (refine (fun hx : State.Canon x => ?_ : State.Canon x → _) ?_; (on_goal 1 => clear_value x); (on_goal 2 => unfold x)))) | apply canon_calCommitWord | apply canon_calSwitch | apply canon_calStop | apply canon_setF | apply canon_onF | apply canon_incF)

theorem canon_fpDisturb (s : State) (hC : s.Canon) : (State.fpDisturb s).Canon := by
  unfold State.fpDisturb
  with_reducible (repeat' first | assumption | apply canon_onF | split | (fail_if_no_progress (apply canon_upd)))

theorem canon_fpKey (s : State) (v : Nat) (hC : s.Canon) : (State.fpKey s v).Canon := by
  unfold State.fpKey
  with_reducible (repeat' first | assumption | ((fail_if_no_progress extract_lets +onlyGivenNames x); (try (refine (fun hx : State.Canon x => ?_ : State.Canon x → _) ?_; (on_goal 1 => clear_value x); (on_goal 2 => unfold x)))) | apply canon_onF | split | (fail_if_no_progress (apply canon_upd)))

theorem canon_fpFail (s : State) (r : Nat) (hC : s.Canon) : (State.fpFail s r).Canon := by
  unfold State.fpFail
  with_reducible (repeat' first | assumption | apply canon_setF | apply canon_onF | apply canon_incF | apply canon_raise)

theorem canon_fpGo (s : State) (cmd : Nat) (hC : s.Canon) : (State.fpGo s cmd).Canon := by
  unfold State.fpGo
  with_reducible (repeat' first | assumption | intro _ | ((fail_if_no_progress extract_lets +onlyGivenNames x); (try (refine (fun hx : State.Canon x => ?_ : State.Canon x → _) ?_; (on_goal 1 => clear_value x); (on_goal 2 => unfold x)))) | apply canon_setF | apply canon_fpDisturb | apply canon_eccTouchAll | apply canon_onF | apply canon_addFlux | apply canon_tlEraseStart | apply canon_fpFail | split | (refine canon_of_pair (by assumption) ?_) | (fail_if_no_progress (apply canon_upd)))

theorem canon_fpDone (s : State) (hC : s.Canon) : (State.fpDone s).Canon := by
  unfold State.fpDone
  with_reducible (repeat' first | assumption | apply canon_offF | apply canon_setF | apply canon_onF)

/-! ### Reflex -/

theorem canon_pendSel (s : State) (n : Fin 16) (i : Nat) (hC : s.Canon) : (State.pendSel s n i).Canon := by
  unfold State.pendSel
  with_reducible (repeat' first | assumption | apply canon_incF | apply canon_setBitF | split)

theorem canon_laneEvent (kind : Nat) (c : Fin 16) (s : State) (hC : s.Canon) : (State.laneEvent kind c s).Canon := by
  unfold State.laneEvent
  with_reducible (repeat' first | assumption | intro _ | apply canon_each | apply canon_pendSel)

/-! ### Channel -/

theorem canon_dieReport (s : State) (n : Fin 16) (hC : s.Canon) : (State.dieReport s n).Canon := by
  unfold State.dieReport
  with_reducible (repeat' first | assumption | apply canon_setR)

theorem canon_setChSt (s : State) (n : Fin 16) (st : Nat) (hC : s.Canon) : (State.setChSt s n st).Canon := by
  unfold State.setChSt
  with_reducible (repeat' first | assumption | apply canon_setF | apply canon_onF | apply canon_dieReport | split)

theorem canon_showDiag (s : State) (n : Fin 16) (hC : s.Canon) : (State.showDiag s n).Canon := by
  unfold State.showDiag
  with_reducible (repeat' first | assumption | apply canon_setF | apply canon_dieReport)

theorem canon_showQueue (s : State) (n : Fin 16) (hC : s.Canon) : (State.showQueue s n).Canon := by
  unfold State.showQueue
  with_reducible (repeat' first | assumption | ((fail_if_no_progress extract_lets +onlyGivenNames x); (try (refine (fun hx : State.Canon x => ?_ : State.Canon x → _) ?_; (on_goal 1 => clear_value x); (on_goal 2 => unfold x)))) | apply canon_setR | split)

theorem canon_discardEvt (s : State) (n : Fin 16) (hC : s.Canon) : (State.discardEvt s n).Canon := by
  unfold State.discardEvt
  with_reducible (repeat' first | assumption | apply canon_onF)

theorem canon_discard (s : State) (n : Fin 16) (hC : s.Canon) : (State.discard s n).Canon := by
  unfold State.discard
  with_reducible (repeat' first | assumption | apply canon_onF | apply canon_discardEvt)

theorem canon_toOff (s : State) (n : Fin 16) (hC : s.Canon) : (State.toOff s n).Canon := by
  unfold State.toOff
  with_reducible (repeat' first | assumption | intro _ | ((fail_if_no_progress extract_lets +onlyGivenNames x); (try (refine (fun hx : State.Canon x => ?_ : State.Canon x → _) ?_; (on_goal 1 => clear_value x); (on_goal 2 => unfold x)))) | apply canon_setCh | apply canon_each | apply canon_setR | apply canon_setF | apply canon_offF | apply canon_showDiag | apply canon_setChSt | (fail_if_no_progress (apply canon_upd)))

theorem canon_startConfig (s : State) (n : Fin 16) (q : ChSlot) (hC : s.Canon) : (State.startConfig s n q).Canon := by
  unfold State.startConfig
  with_reducible (repeat' first | assumption | intro _ | ((fail_if_no_progress extract_lets +onlyGivenNames x); (try (refine (fun hx : State.Canon x => ?_ : State.Canon x → _) ?_; (on_goal 1 => clear_value x); (on_goal 2 => unfold x)))) | apply canon_foldl | apply canon_setCh | apply canon_each | apply canon_setR | apply canon_setF | apply canon_offF | apply canon_setChSt | split | (fail_if_no_progress (apply canon_upd)))

theorem canon_chRefuge (s : State) (n : Fin 16) (mod_ : Bool) (auto : Bool) (cause : Nat) (hC : s.Canon) : (State.chRefuge s n mod_ auto cause).Canon := by
  unfold State.chRefuge
  with_reducible (repeat' first | assumption | intro _ | ((fail_if_no_progress extract_lets +onlyGivenNames x); (try (refine (fun hx : State.Canon x => ?_ : State.Canon x → _) ?_; (on_goal 1 => clear_value x); (on_goal 2 => unfold x)))) | apply canon_modCh | apply canon_setF | apply canon_setChSt | split | (fail_if_no_progress (apply canon_upd)))

theorem canon_armCh (s : State) (n : Fin 16) (hC : s.Canon) : (State.armCh s n).Canon := by
  unfold State.armCh
  with_reducible (repeat' first | assumption | intro _ | ((fail_if_no_progress extract_lets +onlyGivenNames x); (try (refine (fun hx : State.Canon x => ?_ : State.Canon x → _) ?_; (on_goal 1 => clear_value x); (on_goal 2 => unfold x)))) | apply canon_modCh | apply canon_chRefuge | apply canon_setChSt | apply canon_onF | split)

theorem canon_startShut (s : State) (n : Fin 16) (q : Option ChSlot) (hC : s.Canon) : (State.startShut s n q).Canon := by
  unfold State.startShut
  with_reducible (repeat' first | assumption | intro _ | ((fail_if_no_progress extract_lets +onlyGivenNames x); (try (refine (fun hx : State.Canon x => ?_ : State.Canon x → _) ?_; (on_goal 1 => clear_value x); (on_goal 2 => unfold x)))) | apply canon_modCh | apply canon_offF | apply canon_setF | apply canon_showDiag | apply canon_setChSt | (fail_if_no_progress (apply canon_upd)))

theorem canon_faultCore (s : State) (n : Fin 16) (cause : Nat) (hC : s.Canon) : (State.faultCore s n cause).Canon := by
  unfold State.faultCore
  with_reducible (repeat' first | assumption | intro _ | ((fail_if_no_progress extract_lets +onlyGivenNames x); (try (refine (fun hx : State.Canon x => ?_ : State.Canon x → _) ?_; (on_goal 1 => clear_value x); (on_goal 2 => unfold x)))) | apply canon_modCh | apply canon_offF | apply canon_setF | apply canon_showDiag | apply canon_incF | apply canon_onF | apply canon_setChSt | (fail_if_no_progress (apply canon_upd)))

theorem canon_chFault (s : State) (n : Fin 16) (cause : Nat) (hC : s.Canon) : (State.chFault s n cause).Canon := by
  unfold State.chFault
  with_reducible (repeat' first | assumption | apply canon_faultCore | apply canon_raise | split)

theorem canon_refugeCh (n : Fin 16) (s : State) (hC : s.Canon) : (State.refugeCh n s).Canon := by
  unfold State.refugeCh
  with_reducible (repeat' first | assumption | intro _ | ((fail_if_no_progress extract_lets +onlyGivenNames x); (try (refine (fun hx : State.Canon x => ?_ : State.Canon x → _) ?_; (on_goal 1 => clear_value x); (on_goal 2 => unfold x)))) | apply canon_discardEvt | apply canon_setCh | apply canon_showQueue | apply canon_chRefuge | apply canon_onF | apply canon_dieReport | apply canon_modCh | apply canon_offF | split | (fail_if_no_progress (apply canon_upd)))

theorem canon_enterRefuge (s : State) (cause : Nat) (hC : s.Canon) : (State.enterRefuge s cause).Canon := by
  unfold State.enterRefuge
  with_reducible (repeat' first | assumption | apply canon_each | apply canon_refugeCh | apply canon_refugeRegs | apply canon_withdrawAll | split)

theorem canon_chMode_ (s : State) (n : Fin 16) (r : List Word) (hC : s.Canon) : (State.chMode_ s n r).2.Canon := by
  unfold State.chMode_
  with_reducible (repeat' first | assumption | ((fail_if_no_progress extract_lets +onlyGivenNames x); (try (refine (fun hx : State.Canon x => ?_ : State.Canon x → _) ?_; (on_goal 1 => clear_value x); (on_goal 2 => unfold x)))) | apply canon_setCh | apply canon_showQueue | split | (fail_if_no_progress (apply canon_upd)))

theorem canon_chSet (s : State) (n : Fin 16) (i : Nat) (v : Word) (hC : s.Canon) : (State.chSet s n i v).2.Canon := by
  unfold State.chSet
  with_reducible (repeat' first | assumption | intro _ | ((fail_if_no_progress extract_lets +onlyGivenNames x); (try (refine (fun hx : State.Canon x => ?_ : State.Canon x → _) ?_; (on_goal 1 => clear_value x); (on_goal 2 => unfold x)))) | apply canon_setCh | apply canon_showQueue | split | (fail_if_no_progress (apply canon_upd)))

theorem canon_mgmtRefuse (s : State) (n : Fin 16) (hC : s.Canon) : (State.mgmtRefuse s n).Canon := by
  unfold State.mgmtRefuse
  with_reducible (repeat' first | assumption | apply canon_incF | apply canon_onF)

/-! ### Diag -/

theorem canon_diagSetAll (s : State) (n : Fin 16) (m : Nat) (hC : s.Canon) : (State.diagSetAll s n m).Canon := by
  unfold State.diagSetAll
  with_reducible (repeat' first | assumption | intro _ | ((fail_if_no_progress extract_lets +onlyGivenNames x); (try (refine (fun hx : State.Canon x => ?_ : State.Canon x → _) ?_; (on_goal 1 => clear_value x); (on_goal 2 => unfold x)))) | apply canon_foldl | apply canon_modCh | apply canon_showDiag | apply canon_chRefuge | apply canon_raise | split)

theorem canon_diagSet (s : State) (n : Fin 16) (b : Nat) (hC : s.Canon) : (State.diagSet s n b).Canon := by
  unfold State.diagSet
  with_reducible (repeat' first | assumption | apply canon_diagSetAll)

theorem canon_diagClear (s : State) (n : Fin 16) (b : Nat) (hC : s.Canon) : (State.diagClear s n b).Canon := by
  unfold State.diagClear
  with_reducible (repeat' first | assumption | intro _ | apply canon_modCh | apply canon_showDiag | split | (fail_if_no_progress (apply canon_upd)))

theorem canon_above (s : State) (x : Int) (lo : Int) (hi : Int) (hC : s.Canon) : (State.above s x lo hi).2.Canon := by
  unfold State.above
  with_reducible (repeat' first | assumption | ((fail_if_no_progress extract_lets +onlyGivenNames x); (try (refine (fun hx : State.Canon x => ?_ : State.Canon x → _) ?_; (on_goal 1 => clear_value x); (on_goal 2 => unfold x)))) | apply canon_takeFree | split | (refine canon_of_pair (by assumption) ?_))

theorem canon_rbJudge (s : State) (n : Fin 16) (m : Nat) (found : Nat) (hC : s.Canon) : (State.rbJudge s n m found).Canon := by
  unfold State.rbJudge
  with_reducible (repeat' first | assumption | intro _ | ((fail_if_no_progress extract_lets +onlyGivenNames x); (try (refine (fun hx : State.Canon x => ?_ : State.Canon x → _) ?_; (on_goal 1 => clear_value x); (on_goal 2 => unfold x)))) | apply canon_each | apply canon_modCh | apply canon_diagClear | apply canon_diagSetAll | split | (refine canon_of_pair (by assumption) ?_) | (fail_if_no_progress (apply canon_upd)))

theorem canon_rbEvaluate (s : State) (n : Fin 16) (volt : Int) (cur : Int) (hC : s.Canon) : (State.rbEvaluate s n volt cur).Canon := by
  unfold State.rbEvaluate
  with_reducible (repeat' first | assumption | ((fail_if_no_progress extract_lets +onlyGivenNames x); (try (refine (fun hx : State.Canon x => ?_ : State.Canon x → _) ?_; (on_goal 1 => clear_value x); (on_goal 2 => unfold x)))) | apply canon_above | apply canon_rbJudge | split | (refine canon_of_pair (by assumption) ?_))

/-! ### Measure -/

theorem canon_chStart (s : State) (n : Fin 16) (v : Word) (hC : s.Canon) : (State.chStart s n v).2.Canon := by
  unfold State.chStart
  with_reducible (repeat' first | assumption | ((fail_if_no_progress extract_lets +onlyGivenNames x); (try (refine (fun hx : State.Canon x => ?_ : State.Canon x → _) ?_; (on_goal 1 => clear_value x); (on_goal 2 => unfold x)))) | apply canon_setCh | split)

theorem canon_quotient (s : State) (num : Int) (den : Int) (hC : s.Canon) : (State.quotient s num den).2.Canon := by
  unfold State.quotient
  with_reducible (repeat' first | assumption | ((fail_if_no_progress extract_lets +onlyGivenNames x); (try (refine (fun hx : State.Canon x => ?_ : State.Canon x → _) ?_; (on_goal 1 => clear_value x); (on_goal 2 => unfold x)))) | apply canon_takeFree | split | (refine canon_of_pair (by assumption) ?_))

theorem canon_corrected (s : State) (a : AuxRes) (x : Int) (hC : s.Canon) : (State.corrected s a x).2.Canon := by
  unfold State.corrected
  with_reducible (repeat' first | assumption | apply canon_quotient | split | (refine canon_of_pair (by assumption) ?_))

theorem canon_platinum (s : State) (r0 : Int) (x : Int) (hC : s.Canon) : (State.platinum s r0 x).2.2.Canon := by
  unfold State.platinum
  with_reducible (repeat' first | assumption | ((fail_if_no_progress extract_lets +onlyGivenNames x); (try (refine (fun hx : State.Canon x => ?_ : State.Canon x → _) ?_; (on_goal 1 => clear_value x); (on_goal 2 => unfold x)))) | apply canon_takeFree | split | (refine canon_of_pair (by assumption) ?_))

theorem canon_process (s : State) (h : ChanH) (x : Int) (hC : s.Canon) : (State.process s h x).2.2.Canon := by
  unfold State.process
  with_reducible (repeat' first | assumption | ((fail_if_no_progress extract_lets +onlyGivenNames x); (try (refine (fun hx : State.Canon x => ?_ : State.Canon x → _) ?_; (on_goal 1 => clear_value x); (on_goal 2 => unfold x)))) | apply canon_corrected | apply canon_platinum | split | (refine canon_of_pair (by assumption) ?_))

theorem canon_threshold (kind : Nat) (n : Fin 16) (s : State) (hC : s.Canon) : (State.threshold kind n s).Canon := by
  unfold State.threshold
  with_reducible (repeat' first | assumption | apply canon_laneEvent | apply canon_wakeChan)

theorem canon_primary (s : State) (n : Fin 16) (slot : Option Nat) (x : Int) (hC : s.Canon) : (State.primary s n slot x).2.Canon := by
  unfold State.primary
  with_reducible (repeat' first | assumption | intro _ | ((fail_if_no_progress extract_lets +onlyGivenNames x); (try (refine (fun hx : State.Canon x => ?_ : State.Canon x → _) ?_; (on_goal 1 => clear_value x); (on_goal 2 => unfold x)))) | apply canon_process | apply canon_modCh | apply canon_threshold | split | (refine canon_of_pair (by assumption) ?_) | (refine canon_of_triple (by assumption) ?_) | (fail_if_no_progress (apply canon_upd)) | (fail_if_no_progress beta_reduce) | (fail_if_no_progress dsimp only) | (fail_if_no_progress dsimp +zetaDelta only))

theorem canon_slotComplete (s : State) (n : Fin 16) (r : Reading) (hC : s.Canon) : (State.slotComplete s n r).Canon := by
  unfold State.slotComplete
  with_reducible (repeat' first | assumption | intro _ | ((fail_if_no_progress extract_lets +onlyGivenNames x); (try (refine (fun hx : State.Canon x => ?_ : State.Canon x → _) ?_; (on_goal 1 => clear_value x); (on_goal 2 => unfold x)))) | apply canon_primary | apply canon_modCh | split | (refine canon_of_pair (by assumption) ?_) | (fail_if_no_progress (apply canon_upd)))

theorem canon_fastJudge (s : State) (n : Fin 16) (hC : s.Canon) : (State.fastJudge s n).Canon := by
  unfold State.fastJudge
  with_reducible (repeat' first | assumption | ((fail_if_no_progress extract_lets +onlyGivenNames x); (try (refine (fun hx : State.Canon x => ?_ : State.Canon x → _) ?_; (on_goal 1 => clear_value x); (on_goal 2 => unfold x)))) | apply canon_setCh | apply canon_threshold | split | (fail_if_no_progress (apply canon_upd)))

theorem canon_fastStart (s : State) (n : Fin 16) (hC : s.Canon) : (State.fastStart s n).Canon := by
  unfold State.fastStart
  with_reducible (repeat' first | assumption | intro _ | apply canon_modCh | apply canon_fastJudge | split | (fail_if_no_progress (apply canon_upd)))

theorem canon_debounced (s : State) (n : Fin 16) (level : Bool) (hC : s.Canon) : (State.debounced s n level).Canon := by
  unfold State.debounced
  with_reducible (repeat' first | assumption | intro _ | ((fail_if_no_progress extract_lets +onlyGivenNames x); (try (refine (fun hx : State.Canon x => ?_ : State.Canon x → _) ?_; (on_goal 1 => clear_value x); (on_goal 2 => unfold x)))) | apply canon_setCh | apply canon_modCh | apply canon_threshold | split | (fail_if_no_progress (apply canon_upd)))

/-! ### Actuate -/

theorem canon_actDrop (s : State) (a : ActMsg) (hC : s.Canon) : (State.actDrop s a).Canon := by
  unfold State.actDrop
  with_reducible (repeat' first | assumption | intro _ | apply canon_incF | apply canon_modCh | (fail_if_no_progress (apply canon_upd)))

theorem canon_actArrive (s : State) (a : ActMsg) (hC : s.Canon) : (State.actArrive s a).Canon := by
  unfold State.actArrive
  with_reducible (repeat' first | assumption | intro _ | ((fail_if_no_progress extract_lets +onlyGivenNames x); (try (refine (fun hx : State.Canon x => ?_ : State.Canon x → _) ?_; (on_goal 1 => clear_value x); (on_goal 2 => unfold x)))) | apply canon_modCh | apply canon_actDrop | apply canon_incF | split | (refine canon_of_pair (by assumption) ?_) | (fail_if_no_progress (apply canon_upd)))

theorem canon_actReach (s : State) (a : ActMsg) (hC : s.Canon) : (State.actReach s a).Canon := by
  unfold State.actReach
  with_reducible (repeat' first | assumption | apply canon_actArrive | split | (fail_if_no_progress (apply canon_upd)))

theorem canon_actsAtDep (s : State) (hC : s.Canon) : (State.actsAtDep s).Canon := by
  unfold State.actsAtDep
  with_reducible (repeat' first | assumption | intro _ | apply canon_each | apply canon_actArrive | (fail_if_no_progress (apply canon_upd)))

theorem canon_flightArrive (s : State) (hC : s.Canon) : (State.flightArrive s).Canon := by
  unfold State.flightArrive
  with_reducible (repeat' first | assumption | intro _ | ((fail_if_no_progress extract_lets +onlyGivenNames x); (try (refine (fun hx : State.Canon x => ?_ : State.Canon x → _) ?_; (on_goal 1 => clear_value x); (on_goal 2 => unfold x)))) | apply canon_actsAtDep | apply canon_actArrive | apply canon_each | apply canon_actDrop | apply canon_actReach | split | (refine canon_of_pair (by assumption) ?_) | (fail_if_no_progress (apply canon_upd)))

theorem canon_switchTrip (s : State) (n : Fin 16) (hC : s.Canon) : (State.switchTrip s n).Canon := by
  unfold State.switchTrip
  with_reducible (repeat' first | assumption | intro _ | apply canon_modCh | apply canon_diagSet)

theorem canon_trimCommand (s : State) (n : Fin 16) (cmd : Nat) (hC : s.Canon) : (State.trimCommand s n cmd).Canon := by
  unfold State.trimCommand
  with_reducible (repeat' first | assumption | intro _ | apply canon_modCh | split | (refine canon_of_pair (by assumption) ?_) | (fail_if_no_progress (apply canon_upd)))

/-! ### Lane -/

theorem canon_laneRun (s : State) (n : Fin 16) (hC : s.Canon) : (State.laneRun s n).Canon := by
  unfold State.laneRun
  with_reducible (repeat' first | assumption | ((fail_if_no_progress extract_lets +onlyGivenNames x); (try (refine (fun hx : State.Canon x => ?_ : State.Canon x → _) ?_; (on_goal 1 => clear_value x); (on_goal 2 => unfold x)))) | apply canon_setF | apply canon_offF | apply canon_setR | apply canon_setLane | split | (fail_if_no_progress (apply canon_upd)))

theorem canon_laneStop (s : State) (n : Fin 16) (hC : s.Canon) : (State.laneStop s n).Canon := by
  unfold State.laneStop
  with_reducible (repeat' first | assumption | apply canon_offF | apply canon_setLane | (fail_if_no_progress (apply canon_upd)))

theorem canon_rfxCtrl (s : State) (n : Fin 16) (v : Word) (hC : s.Canon) : (State.rfxCtrl s n v).Canon := by
  unfold State.rfxCtrl
  with_reducible (repeat' first | assumption | apply canon_laneStop | apply canon_laneRun | split)

theorem canon_wv (s : State) (n : Fin 16) (i : Nat) (w : Word) (hC : s.Canon) : (State.wv s n i w).Canon := by
  unfold State.wv
  with_reducible (repeat' first | assumption | apply canon_setR)

theorem canon_laneNext (s : State) (n : Fin 16) (hC : s.Canon) : (State.laneNext s n).Canon := by
  unfold State.laneNext
  with_reducible (repeat' first | assumption | apply canon_setF)

theorem canon_waitDone (s : State) (n : Fin 16) (vd : Nat) (i : Nat) (hC : s.Canon) : (State.waitDone s n vd i).Canon := by
  unfold State.waitDone
  with_reducible (repeat' first | assumption | ((fail_if_no_progress extract_lets +onlyGivenNames x); (try (refine (fun hx : State.Canon x => ?_ : State.Canon x → _) ?_; (on_goal 1 => clear_value x); (on_goal 2 => unfold x)))) | apply canon_wv | apply canon_clrBitF | apply canon_setLane | apply canon_laneNext | (fail_if_no_progress (apply canon_upd)))

theorem canon_laneAct (s : State) (n : Fin 16) (w : Word) (hC : s.Canon) : (State.laneAct s n w).Canon := by
  unfold State.laneAct
  with_reducible (repeat' first | assumption | ((fail_if_no_progress extract_lets +onlyGivenNames x); (try (refine (fun hx : State.Canon x => ?_ : State.Canon x → _) ?_; (on_goal 1 => clear_value x); (on_goal 2 => unfold x)))) | (fail_if_no_progress (apply canon_upd)))

theorem canon_whistleEnqueue (s : State) (m : WhistleMsg) (ports : List Port) (hC : s.Canon) : (State.whistleEnqueue s m ports).Canon := by
  unfold State.whistleEnqueue
  with_reducible (repeat' first | assumption | intro _ | ((fail_if_no_progress extract_lets +onlyGivenNames x); (try (refine (fun hx : State.Canon x => ?_ : State.Canon x → _) ?_; (on_goal 1 => clear_value x); (on_goal 2 => unfold x)))) | apply canon_foldl | (fail_if_no_progress (apply canon_upd)))

theorem canon_whistleOn (s : State) (m : WhistleMsg) (p : Port) (hC : s.Canon) : (State.whistleOn s m p).Canon := by
  unfold State.whistleOn
  with_reducible (repeat' first | assumption | apply canon_countDrop | apply canon_sendRefuse | apply canon_incF | split)

theorem canon_whistleFlush (s : State) (hC : s.Canon) : (State.whistleFlush s).Canon := by
  unfold State.whistleFlush
  with_reducible (repeat' first | assumption | intro _ | ((fail_if_no_progress extract_lets +onlyGivenNames x); (try (refine (fun hx : State.Canon x => ?_ : State.Canon x → _) ?_; (on_goal 1 => clear_value x); (on_goal 2 => unfold x)))) | apply canon_each | apply canon_whistleOn | (fail_if_no_progress (apply canon_upd)))

theorem canon_laneWhistle (s : State) (n : Fin 16) (w : Word) (hC : s.Canon) : (State.laneWhistle s n w).Canon := by
  unfold State.laneWhistle
  with_reducible (repeat' first | assumption | ((fail_if_no_progress extract_lets +onlyGivenNames x); (try (refine (fun hx : State.Canon x => ?_ : State.Canon x → _) ?_; (on_goal 1 => clear_value x); (on_goal 2 => unfold x)))) | apply canon_incF | apply canon_whistleEnqueue | split | (fail_if_no_progress (apply canon_upd)))

theorem canon_wrxAct (m : WhistleMsg) (n : Fin 16) (j : Nat) (s : State) (hC : s.Canon) : (State.wrxAct m n j s).Canon := by
  unfold State.wrxAct
  with_reducible (repeat' first | assumption | ((fail_if_no_progress extract_lets +onlyGivenNames x); (try (refine (fun hx : State.Canon x => ?_ : State.Canon x → _) ?_; (on_goal 1 => clear_value x); (on_goal 2 => unfold x)))) | apply canon_pendSel | split | (fail_if_no_progress (apply canon_upd)))

theorem canon_whistleMatch (s : State) (m : WhistleMsg) (hC : s.Canon) : (State.whistleMatch s m).Canon := by
  unfold State.whistleMatch
  with_reducible (repeat' first | assumption | intro _ | apply canon_each | apply canon_wrxAct)

theorem canon_whistleForward (s : State) (p : Port) (m : WhistleMsg) (hC : s.Canon) : (State.whistleForward s p m).Canon := by
  unfold State.whistleForward
  with_reducible (repeat' first | assumption | ((fail_if_no_progress extract_lets +onlyGivenNames x); (try (refine (fun hx : State.Canon x => ?_ : State.Canon x → _) ?_; (on_goal 1 => clear_value x); (on_goal 2 => unfold x)))) | apply canon_whistleEnqueue | split | (fail_if_no_progress (apply canon_upd)))

theorem canon_whistleIn (s : State) (p : Port) (m : WhistleMsg) (hC : s.Canon) : (State.whistleIn s p m).Canon := by
  unfold State.whistleIn
  with_reducible (repeat' first | assumption | intro _ | ((fail_if_no_progress extract_lets +onlyGivenNames x); (try (refine (fun hx : State.Canon x => ?_ : State.Canon x → _) ?_; (on_goal 1 => clear_value x); (on_goal 2 => unfold x)))) | apply canon_incF | apply canon_whistleForward | apply canon_raise | apply canon_whistleMatch | split | (fail_if_no_progress (apply canon_upd)))

/-! ### Timetable -/

theorem canon_lock (s : State) (hC : s.Canon) : (State.lock s).Canon := by
  unfold State.lock
  with_reducible (repeat' first | assumption | ((fail_if_no_progress extract_lets +onlyGivenNames x); (try (refine (fun hx : State.Canon x => ?_ : State.Canon x → _) ?_; (on_goal 1 => clear_value x); (on_goal 2 => unfold x)))) | apply canon_onF | apply canon_newProposals | apply canon_computeBound | (fail_if_no_progress (apply canon_upd)))

theorem canon_takePend (s : State) (p : Option (Nat × Nat)) (hC : s.Canon) : (State.takePend s p).Canon := by
  unfold State.takePend
  with_reducible (repeat' first | assumption | ((fail_if_no_progress extract_lets +onlyGivenNames x); (try (refine (fun hx : State.Canon x => ?_ : State.Canon x → _) ?_; (on_goal 1 => clear_value x); (on_goal 2 => unfold x)))) | apply canon_onF | apply canon_setF | apply canon_offF | split | (refine canon_of_pair (by assumption) ?_) | (fail_if_no_progress (apply canon_upd)))

theorem canon_takeClose (s : State) (c : Nat) (hC : s.Canon) : (State.takeClose s c).Canon := by
  unfold State.takeClose
  with_reducible (repeat' first | assumption | apply canon_setF)

theorem canon_takeRevNext (s : State) (m : TimeMsg) (hC : s.Canon) : (State.takeRevNext s m).Canon := by
  unfold State.takeRevNext
  with_reducible (repeat' first | assumption | (fail_if_no_progress (apply canon_upd)))

theorem canon_takeSchedule (s : State) (m : TimeMsg) (hC : s.Canon) : (State.takeSchedule s m).Canon := by
  unfold State.takeSchedule
  with_reducible (repeat' first | assumption | apply canon_setF | (fail_if_no_progress (apply canon_upd)))

theorem canon_takeAnnounced (s : State) (m : TimeMsg) (hC : s.Canon) : (State.takeAnnounced s m).Canon := by
  unfold State.takeAnnounced
  with_reducible (repeat' first | assumption | apply canon_takePend | apply canon_takeClose | apply canon_takeRevNext | apply canon_checkMismatch | split | (refine canon_of_pair (by assumption) ?_))

theorem canon_newMaster (s : State) (id : Nat) (hC : s.Canon) : (State.newMaster s id).Canon := by
  unfold State.newMaster
  with_reducible (repeat' first | assumption | ((fail_if_no_progress extract_lets +onlyGivenNames x); (try (refine (fun hx : State.Canon x => ?_ : State.Canon x → _) ?_; (on_goal 1 => clear_value x); (on_goal 2 => unfold x)))) | apply canon_setF | apply canon_offF | apply canon_incF | split)

theorem canon_slewTo (s : State) (off : Int) (hC : s.Canon) : (State.slewTo s off).Canon := by
  unfold State.slewTo
  with_reducible (repeat' first | assumption | (fail_if_no_progress (apply canon_upd)))

theorem canon_mergeStep (s : State) (rx : Nat) (m : TimeMsg) (hC : s.Canon) : (State.mergeStep s rx m).Canon := by
  unfold State.mergeStep
  with_reducible (repeat' first | assumption | ((fail_if_no_progress extract_lets +onlyGivenNames x); (try (refine (fun hx : State.Canon x => ?_ : State.Canon x → _) ?_; (on_goal 1 => clear_value x); (on_goal 2 => unfold x)))) | apply canon_withdrawAll | apply canon_newMaster | apply canon_takeSchedule | apply canon_offF | apply canon_incF | apply canon_newProposals | apply canon_takePend | apply canon_takeClose | apply canon_takeRevNext | apply canon_checkMismatch | apply canon_raise | (refine canon_of_pair (by assumption) ?_) | (fail_if_no_progress (apply canon_upd)))

theorem canon_mergeSlew (s : State) (off : Int) (m : TimeMsg) (hC : s.Canon) : (State.mergeSlew s off m).Canon := by
  unfold State.mergeSlew
  with_reducible (repeat' first | assumption | ((fail_if_no_progress extract_lets +onlyGivenNames x); (try (refine (fun hx : State.Canon x => ?_ : State.Canon x → _) ?_; (on_goal 1 => clear_value x); (on_goal 2 => unfold x)))) | apply canon_newMaster | apply canon_slewTo | apply canon_incF | apply canon_setF | apply canon_offF | apply canon_takeAnnounced | apply canon_raise)

theorem canon_timeUnlocked (s : State) (rx : Nat) (off : Int) (m : TimeMsg) (hC : s.Canon) : (State.timeUnlocked s rx off m).Canon := by
  unfold State.timeUnlocked
  with_reducible (repeat' first | assumption | ((fail_if_no_progress extract_lets +onlyGivenNames x); (try (refine (fun hx : State.Canon x => ?_ : State.Canon x → _) ?_; (on_goal 1 => clear_value x); (on_goal 2 => unfold x)))) | apply canon_newMaster | apply canon_takeSchedule | apply canon_takeRevNext | apply canon_takePend | apply canon_takeClose | apply canon_lock | apply canon_checkMismatch | split | (refine canon_of_pair (by assumption) ?_) | (fail_if_no_progress (apply canon_upd)))

theorem canon_timeLocked (s : State) (rx : Nat) (off : Int) (m : TimeMsg) (hC : s.Canon) : (State.timeLocked s rx off m).Canon := by
  unfold State.timeLocked
  with_reducible (repeat' first | assumption | ((fail_if_no_progress extract_lets +onlyGivenNames x); (try (refine (fun hx : State.Canon x => ?_ : State.Canon x → _) ?_; (on_goal 1 => clear_value x); (on_goal 2 => unfold x)))) | apply canon_newMaster | apply canon_offF | apply canon_slewTo | apply canon_takeAnnounced | apply canon_mergeStep | apply canon_mergeSlew | split)

theorem canon_timeIn (s : State) (delay : Nat) (m : TimeMsg) (hC : s.Canon) : (State.timeIn s delay m).Canon := by
  unfold State.timeIn
  with_reducible (repeat' first | assumption | ((fail_if_no_progress extract_lets +onlyGivenNames x); (try (refine (fun hx : State.Canon x => ?_ : State.Canon x → _) ?_; (on_goal 1 => clear_value x); (on_goal 2 => unfold x)))) | apply canon_setR | apply canon_timeLocked | apply canon_timeUnlocked | split)

theorem canon_selfMaster (s : State) (hC : s.Canon) : (State.selfMaster s).Canon := by
  unfold State.selfMaster
  with_reducible (repeat' first | assumption | ((fail_if_no_progress extract_lets +onlyGivenNames x); (try (refine (fun hx : State.Canon x => ?_ : State.Canon x → _) ?_; (on_goal 1 => clear_value x); (on_goal 2 => unfold x)))) | apply canon_setF | apply canon_newMaster | apply canon_onF | apply canon_lock | apply canon_checkMismatch | split | (refine canon_of_pair (by assumption) ?_) | (fail_if_no_progress (apply canon_upd)))

theorem canon_takeOffice (s : State) (hC : s.Canon) : (State.takeOffice s).Canon := by
  unfold State.takeOffice
  with_reducible (repeat' first | assumption | ((fail_if_no_progress extract_lets +onlyGivenNames x); (try (refine (fun hx : State.Canon x => ?_ : State.Canon x → _) ?_; (on_goal 1 => clear_value x); (on_goal 2 => unfold x)))) | apply canon_newMaster | apply canon_onF | apply canon_offF | apply canon_slewTo | apply canon_computeBound | apply canon_sendTime | split)

theorem canon_ttPeriodWrite (s : State) (v : Word) (hC : s.Canon) : (State.ttPeriodWrite s v).Canon := by
  unfold State.ttPeriodWrite
  with_reducible (repeat' first | assumption | ((fail_if_no_progress extract_lets +onlyGivenNames x); (try (refine (fun hx : State.Canon x => ?_ : State.Canon x → _) ?_; (on_goal 1 => clear_value x); (on_goal 2 => unfold x)))) | apply canon_onF | apply canon_setF | apply canon_judgePeriod | apply canon_checkMismatch | split | (refine canon_of_pair (by assumption) ?_))

theorem canon_periodChange (s : State) (e : Nat) (te : Nat) (hC : s.Canon) : (State.periodChange s e te).Canon := by
  unfold State.periodChange
  with_reducible (repeat' first | assumption | ((fail_if_no_progress extract_lets +onlyGivenNames x); (try (refine (fun hx : State.Canon x => ?_ : State.Canon x → _) ?_; (on_goal 1 => clear_value x); (on_goal 2 => unfold x)))) | apply canon_setF | apply canon_takePend | split | (refine canon_of_pair (by assumption) ?_) | (fail_if_no_progress (apply canon_upd)))

theorem canon_revChange (s : State) (hC : s.Canon) : (State.revChange s).Canon := by
  unfold State.revChange
  with_reducible (repeat' first | assumption | ((fail_if_no_progress extract_lets +onlyGivenNames x); (try (refine (fun hx : State.Canon x => ?_ : State.Canon x → _) ?_; (on_goal 1 => clear_value x); (on_goal 2 => unfold x)))) | apply canon_setF | split)

theorem canon_depIrq (s : State) (hC : s.Canon) : (State.depIrq s).Canon := by
  unfold State.depIrq
  with_reducible (repeat' first | assumption | ((fail_if_no_progress extract_lets +onlyGivenNames x); (try (refine (fun hx : State.Canon x => ?_ : State.Canon x → _) ?_; (on_goal 1 => clear_value x); (on_goal 2 => unfold x)))) | apply canon_onF | split)

/-! ### Manifest -/

theorem canon_showVolume (s : State) (hC : s.Canon) : (State.showVolume s).Canon := by
  unfold State.showVolume
  with_reducible (repeat' first | assumption | intro _ | ((fail_if_no_progress extract_lets +onlyGivenNames x); (try (refine (fun hx : State.Canon x => ?_ : State.Canon x → _) ?_; (on_goal 1 => clear_value x); (on_goal 2 => unfold x)))) | apply canon_setF | apply canon_foldl)

theorem canon_cfgRefused (s : State) (hC : s.Canon) : (State.cfgRefused s).Canon := by
  unfold State.cfgRefused
  with_reducible (repeat' first | assumption | apply canon_onF | apply canon_raise)

theorem canon_pubWrite (s : State) (k : Nat) (i : Nat) (v : Word) (hC : s.Canon) : (State.pubWrite s k i v).Canon := by
  unfold State.pubWrite
  with_reducible (repeat' first | assumption | ((fail_if_no_progress extract_lets +onlyGivenNames x); (try (refine (fun hx : State.Canon x => ?_ : State.Canon x → _) ?_; (on_goal 1 => clear_value x); (on_goal 2 => unfold x)))) | apply canon_setR | apply canon_showVolume | apply canon_cfgRefused | split)

theorem canon_subWrite (s : State) (j : Nat) (i : Nat) (v : Word) (hC : s.Canon) : (State.subWrite s j i v).Canon := by
  unfold State.subWrite
  with_reducible (repeat' first | assumption | ((fail_if_no_progress extract_lets +onlyGivenNames x); (try (refine (fun hx : State.Canon x => ?_ : State.Canon x → _) ?_; (on_goal 1 => clear_value x); (on_goal 2 => unfold x)))) | apply canon_setR | apply canon_cfgRefused | split)

theorem canon_bankSizeWrite (s : State) (v : Word) (hC : s.Canon) : (State.bankSizeWrite s v).Canon := by
  unfold State.bankSizeWrite
  with_reducible (repeat' first | assumption | ((fail_if_no_progress extract_lets +onlyGivenNames x); (try (refine (fun hx : State.Canon x => ?_ : State.Canon x → _) ?_; (on_goal 1 => clear_value x); (on_goal 2 => unfold x)))) | apply canon_cfgRefused | apply canon_setF | split)

theorem canon_takeHold (s : State) (m : Mach) (e : Nat) (b : Nat) (hC : s.Canon) : (State.takeHold s m e b).Canon := by
  unfold State.takeHold
  with_reducible (repeat' first | assumption | apply canon_setR)

theorem canon_startEpoch (s : State) (hC : s.Canon) : (State.startEpoch s).Canon := by
  unfold State.startEpoch
  with_reducible (repeat' first | assumption | ((fail_if_no_progress extract_lets +onlyGivenNames x); (try (refine (fun hx : State.Canon x => ?_ : State.Canon x → _) ?_; (on_goal 1 => clear_value x); (on_goal 2 => unfold x)))) | apply canon_onF | apply canon_offF | split | (fail_if_no_progress (apply canon_upd)))

theorem canon_writeSlot (s : State) (r : SubRow) (m : EntryMsg) (hC : s.Canon) : (State.writeSlot s r m).Canon := by
  unfold State.writeSlot
  with_reducible (repeat' first | assumption | ((fail_if_no_progress extract_lets +onlyGivenNames x); (try (refine (fun hx : State.Canon x => ?_ : State.Canon x → _) ?_; (on_goal 1 => clear_value x); (on_goal 2 => unfold x)))) | apply canon_sramWrite | split)

theorem canon_emptySlot (s : State) (r : SubRow) (hC : s.Canon) : (State.emptySlot s r).Canon := by
  unfold State.emptySlot
  with_reducible (repeat' first | assumption | ((fail_if_no_progress extract_lets +onlyGivenNames x); (try (refine (fun hx : State.Canon x => ?_ : State.Canon x → _) ?_; (on_goal 1 => clear_value x); (on_goal 2 => unfold x)))) | apply canon_takeFree | apply canon_writeSlot | apply canon_entry | split | (refine canon_of_pair (by assumption) ?_) | (fail_if_no_progress (apply canon_upd)))

theorem canon_staleSlot (r : SubRow) (s : State) (hC : s.Canon) : (State.staleSlot r s).Canon := by
  unfold State.staleSlot
  with_reducible (repeat' first | assumption | apply canon_entry | apply canon_writeSlot | apply canon_emptySlot | split | (refine canon_of_pair (by assumption) ?_) | (fail_if_no_progress (apply canon_upd)))

theorem canon_freeByteAt (a : Nat) (s : State) (hC : s.Canon) : (State.freeByteAt a s).Canon := by
  unfold State.freeByteAt
  with_reducible (repeat' first | assumption | ((fail_if_no_progress extract_lets +onlyGivenNames x); (try (refine (fun hx : State.Canon x => ?_ : State.Canon x → _) ?_; (on_goal 1 => clear_value x); (on_goal 2 => unfold x)))) | apply canon_takeFree | apply canon_sramWrite | split | (refine canon_of_pair (by assumption) ?_))

theorem canon_freeOverlap (p : Nat × Nat) (s : State) (hC : s.Canon) : (State.freeOverlap p s).Canon := by
  unfold State.freeOverlap
  with_reducible (repeat' first | assumption | intro _ | apply canon_each | apply canon_freeByteAt)

theorem canon_closeManifest (s : State) (hC : s.Canon) : (State.closeManifest s).Canon := by
  unfold State.closeManifest
  with_reducible (repeat' first | assumption | intro _ | ((fail_if_no_progress extract_lets +onlyGivenNames x); (try (refine (fun hx : State.Canon x => ?_ : State.Canon x → _) ?_; (on_goal 1 => clear_value x); (on_goal 2 => unfold x)))) | apply canon_each | apply canon_staleSlot | apply canon_freeOverlap | apply canon_onF | apply canon_addF | apply canon_raise | split | (fail_if_no_progress (apply canon_upd)))

theorem canon_closeIfFull (s : State) (hC : s.Canon) : (State.closeIfFull s).Canon := by
  unfold State.closeIfFull
  with_reducible (repeat' first | assumption | intro _ | apply canon_closeManifest | split)

theorem canon_takeEntry (m : EntryMsg) (r : SubRow) (s : State) (hC : s.Canon) : (State.takeEntry m r s).Canon := by
  unfold State.takeEntry
  with_reducible (repeat' first | assumption | ((fail_if_no_progress extract_lets +onlyGivenNames x); (try (refine (fun hx : State.Canon x => ?_ : State.Canon x → _) ?_; (on_goal 1 => clear_value x); (on_goal 2 => unfold x)))) | apply canon_writeSlot | split | (fail_if_no_progress (apply canon_upd)))

theorem canon_entryIn (s : State) (m : EntryMsg) (hC : s.Canon) : (State.entryIn s m).Canon := by
  unfold State.entryIn
  with_reducible (repeat' first | assumption | intro _ | ((fail_if_no_progress extract_lets +onlyGivenNames x); (try (refine (fun hx : State.Canon x => ?_ : State.Canon x → _) ?_; (on_goal 1 => clear_value x); (on_goal 2 => unfold x)))) | apply canon_entry | apply canon_incF | apply canon_raise | apply canon_each | apply canon_takeEntry | apply canon_closeIfFull | split)

theorem canon_sramArea (s : State) (a : Nat) (len : Nat) (hC : s.Canon) : (State.sramArea s a len).2.Canon := by
  unfold State.sramArea
  with_reducible (repeat' first | assumption | intro _ | ((fail_if_no_progress extract_lets +onlyGivenNames x); (try (refine (fun hx : State.Canon x => ?_ : State.Canon x → _) ?_; (on_goal 1 => clear_value x); (on_goal 2 => unfold x)))) | apply canon_eccTouchAll | apply canon_onF | split)

theorem canon_pubContent (s : State) (log : List ReflexRec) (r : PubRow) (hC : s.Canon) : (State.pubContent s log r).2.Canon := by
  unfold State.pubContent
  with_reducible (repeat' first | assumption | intro _ | ((fail_if_no_progress extract_lets +onlyGivenNames x); (try (refine (fun hx : State.Canon x => ?_ : State.Canon x → _) ?_; (on_goal 1 => clear_value x); (on_goal 2 => unfold x)))) | apply canon_sramArea | split | (refine canon_of_pair (by assumption) ?_))

theorem canon_sendEntry (k : Nat) (flags : Nat) (payload : List Word) (s : State) (hC : s.Canon) : (State.sendEntry k flags payload s).Canon := by
  unfold State.sendEntry
  with_reducible (repeat' first | assumption | ((fail_if_no_progress extract_lets +onlyGivenNames x); (try (refine (fun hx : State.Canon x => ?_ : State.Canon x → _) ?_; (on_goal 1 => clear_value x); (on_goal 2 => unfold x)))) | apply canon_originate | apply canon_entry | apply canon_entryIn)

theorem canon_contents (s : State) (log : List ReflexRec) (a0 : List PubRow) (hC : s.Canon) : (State.contents s log a0).2.Canon := by
  induction a0 generalizing s log with
  | nil => unfold State.contents; with_reducible (repeat' first | assumption | ((fail_if_no_progress extract_lets +onlyGivenNames x); (try (refine (fun hx : State.Canon x => ?_ : State.Canon x → _) ?_; (on_goal 1 => clear_value x); (on_goal 2 => unfold x)))) | apply canon_pubContent | split | (refine canon_of_pair (by assumption) ?_))
  | cons x r ih => unfold State.contents; with_reducible (repeat' first | apply ih | assumption | ((fail_if_no_progress extract_lets +onlyGivenNames x); (try (refine (fun hx : State.Canon x => ?_ : State.Canon x → _) ?_; (on_goal 1 => clear_value x); (on_goal 2 => unfold x)))) | apply canon_pubContent | split | (refine canon_of_pair (by assumption) ?_))

theorem canon_publish (s : State) (tp : Nat) (te : Nat) (hC : s.Canon) : (State.publish s tp te).Canon := by
  unfold State.publish
  with_reducible (repeat' first | assumption | intro _ | ((fail_if_no_progress extract_lets +onlyGivenNames x); (try (refine (fun hx : State.Canon x => ?_ : State.Canon x → _) ?_; (on_goal 1 => clear_value x); (on_goal 2 => unfold x)))) | apply canon_each | apply canon_sendEntry | apply canon_contents | apply canon_raise | split | (refine canon_of_pair (by assumption) ?_) | (fail_if_no_progress (apply canon_upd)))

end Sys2Proof.Machine
end

