-- ==== Sys2Proof/Laws/CanonCommands.lean ====
section
/-! SUPPORT. The canonical form of the register file and of the memories is kept by every operation of: the commands. One
lemma for each operation, `canon_<name>`: a state in canonical form is taken to one. -/

set_option linter.unusedTactic false
set_option linter.unreachableTactic false

namespace Sys2Proof.Machine

/-! ### Settle -/

theorem canon_workOff (s : State) (a0 : Due) (hC : s.Canon) : (State.workOff s a0).Canon := by
  unfold State.workOff
  with_reducible (repeat' first | assumption | apply canon_withdraw | apply canon_withdrawTriad | apply canon_onF | apply canon_incF | apply canon_raise | apply canon_enterHoldover | apply canon_accessEnd | apply canon_abortPieces | apply canon_loseUnits | apply canon_sendKeyed | split | (refine canon_of_pair (by assumption) ?_))

theorem canon_settleN (a0 : Nat) (s : State) (hC : s.Canon) : (State.settleN a0 s).Canon := by
  induction a0 generalizing s with
  | zero => unfold State.settleN; with_reducible (repeat' first | assumption | apply canon_workOff | split | (refine canon_of_pair (by assumption) ?_) | (fail_if_no_progress (apply canon_upd)))
  | succ n ih => unfold State.settleN; with_reducible (repeat' first | apply ih | assumption | apply canon_workOff | split | (refine canon_of_pair (by assumption) ?_) | (fail_if_no_progress (apply canon_upd)))

theorem canon_settle (s : State) (hC : s.Canon) : (State.settle s).Canon := by
  unfold State.settle
  with_reducible (repeat' first | assumption | apply canon_settleN)

theorem canon_ok (s : State) (hC : s.Canon) : CanonO (ok s) := by
  unfold ok
  with_reducible (repeat' first | assumption | apply canon_settle | apply canonO_nextI)

theorem canon_endStep (s : State) (m : Mach) (hC : s.Canon) : (State.endStep s m).Canon := by
  unfold State.endStep
  with_reducible (repeat' first | assumption | intro _ | apply canon_modMach | split | (fail_if_no_progress (apply canon_upd)))

/-! ### OrviaCmd -/

theorem canon_execSignalDetect (p : Port) (s : State) (hC : s.Canon) : CanonO (execSignalDetect p s) := by
  unfold execSignalDetect
  with_reducible (repeat' first | assumption | apply canon_ok | apply canon_putPort | split)

theorem canon_execTrainExchangeComplete (p : Port) (o : PeerOffer) (s : State) (hC : s.Canon) : CanonO (execTrainExchangeComplete p o s) := by
  unfold execTrainExchangeComplete
  with_reducible (repeat' first | assumption | apply canon_ok | apply canon_trained | split)

theorem canon_execLinkDelayComplete (p : Port) (delay : Fin 65536) (s : State) (hC : s.Canon) : CanonO (execLinkDelayComplete p delay s) := by
  unfold execLinkDelayComplete
  with_reducible (repeat' first | assumption | apply canon_ok | apply canon_linkUp | split)

theorem canon_execTrainFailTimeout (p : Port) (lock : Bool) (s : State) (hC : s.Canon) : CanonO (execTrainFailTimeout p lock s) := by
  unfold execTrainFailTimeout
  with_reducible (repeat' first | assumption | apply canon_ok | apply canon_trainFail | apply canon_lock | split)

theorem canon_execTrainRetry (p : Port) (s : State) (hC : s.Canon) : CanonO (execTrainRetry p s) := by
  unfold execTrainRetry
  with_reducible (repeat' first | assumption | apply canon_ok | apply canon_putPort | split)

theorem canon_execDampedEnd (p : Port) (s : State) (hC : s.Canon) : CanonO (execDampedEnd p s) := by
  unfold execDampedEnd
  with_reducible (repeat' first | assumption | apply canon_ok | apply canon_putPort | split)

theorem canon_execBurstReceive (p : Port) (b : Burst) (s : State) (hC : s.Canon) : CanonO (execBurstReceive p b s) := by
  unfold execBurstReceive
  with_reducible (repeat' first | assumption | apply canon_ok | apply canon_receiveBurst | split)

theorem canon_execAckReceive (p : Port) (lseq : Fin 65536) (crc : Byte) (s : State) (hC : s.Canon) : CanonO (execAckReceive p lseq crc s) := by
  unfold execAckReceive
  with_reducible (repeat' first | assumption | apply canon_ok | apply canon_ack | apply canon_badWord | split)

theorem canon_execNackReceive (p : Port) (lseq : Fin 65536) (crc : Byte) (s : State) (hC : s.Canon) : CanonO (execNackReceive p lseq crc s) := by
  unfold execNackReceive
  with_reducible (repeat' first | assumption | apply canon_ok | apply canon_nack | apply canon_badWord | split)

theorem canon_execMarkSend (p : Port) (s : State) (hC : s.Canon) : CanonO (execMarkSend p s) := by
  unfold execMarkSend
  with_reducible (repeat' first | assumption | intro _ | ((fail_if_no_progress extract_lets +onlyGivenNames x); (try (refine (fun hx : State.Canon x => ?_ : State.Canon x → _) ?_; (on_goal 1 => clear_value x); (on_goal 2 => unfold x)))) | apply canon_ok | apply canon_modPort | split | (fail_if_no_progress (apply canon_upd)))

theorem canon_execMarkReceive (p : Port) (count : Fin 65536) (crc : Byte) (s : State) (hC : s.Canon) : CanonO (execMarkReceive p count crc s) := by
  unfold execMarkReceive
  with_reducible (repeat' first | assumption | intro _ | apply canon_ok | apply canon_modPort | apply canon_badWord | split | (fail_if_no_progress (apply canon_upd)))

theorem canon_execReplayTimeout (p : Port) (s : State) (hC : s.Canon) : CanonO (execReplayTimeout p s) := by
  unfold execReplayTimeout
  with_reducible (repeat' first | assumption | apply canon_ok | apply canon_replay | split)

theorem canon_execReplayHoldBackTimeout (p : Port) (s : State) (hC : s.Canon) : CanonO (execReplayHoldBackTimeout p s) := by
  unfold execReplayHoldBackTimeout
  with_reducible (repeat' first | assumption | intro _ | apply canon_ok | apply canon_modPort | apply canon_raise | split | (fail_if_no_progress (apply canon_upd)))

theorem canon_execSilentCheckInterval (p : Port) (s : State) (hC : s.Canon) : CanonO (execSilentCheckInterval p s) := by
  unfold execSilentCheckInterval
  with_reducible (repeat' first | assumption | intro _ | ((fail_if_no_progress extract_lets +onlyGivenNames x); (try (refine (fun hx : State.Canon x => ?_ : State.Canon x → _) ?_; (on_goal 1 => clear_value x); (on_goal 2 => unfold x)))) | apply canon_modPort | apply canon_ok | apply canon_linkLoss | split | (fail_if_no_progress (apply canon_upd)))

theorem canon_execLinkLoss (p : Port) (c : LossCause) (s : State) (hC : s.Canon) : CanonO (execLinkLoss p c s) := by
  unfold execLinkLoss
  with_reducible (repeat' first | assumption | apply canon_ok | apply canon_linkLoss | split)

theorem canon_execPointsClose (p : Port) (s : State) (hC : s.Canon) : CanonO (execPointsClose p s) := by
  unfold execPointsClose
  with_reducible (repeat' first | assumption | apply canon_ok | apply canon_closePoints | split)

theorem canon_execRingOpenTimeout (s : State) (hC : s.Canon) : CanonO (execRingOpenTimeout s) := by
  unfold execRingOpenTimeout
  with_reducible (repeat' first | assumption | apply canon_ok | apply canon_raise | split | (fail_if_no_progress (apply canon_upd)))

theorem canon_execPresenceTimer (s : State) (hC : s.Canon) : CanonO (execPresenceTimer s) := by
  unfold execPresenceTimer
  with_reducible (repeat' first | assumption | apply canon_ok | apply canon_sendPresence | split)

theorem canon_execPresenceReceive (s : State) (hC : s.Canon) : CanonO (execPresenceReceive s) := by
  unfold execPresenceReceive
  with_reducible (repeat' first | assumption | apply canon_ok | apply canon_presenceIn | refine canon_takeFrame (by assumption) ?_ | split | (refine canon_of_pair (by assumption) ?_))

theorem canon_execPresenceReachTimeout (node : Nat) (s : State) (hC : s.Canon) : CanonO (execPresenceReachTimeout node s) := by
  unfold execPresenceReachTimeout
  with_reducible (repeat' first | assumption | apply canon_ok | apply canon_unreach | split)

theorem canon_execTopologyReceive (s : State) (hC : s.Canon) : CanonO (execTopologyReceive s) := by
  unfold execTopologyReceive
  with_reducible (repeat' first | assumption | apply canon_ok | apply canon_topologyIn | refine canon_takeFrame (by assumption) ?_ | split | (refine canon_of_pair (by assumption) ?_))

theorem canon_execAssignReceive (s : State) (hC : s.Canon) : CanonO (execAssignReceive s) := by
  unfold execAssignReceive
  with_reducible (repeat' first | assumption | apply canon_ok | apply canon_assignIn | refine canon_takeFrame (by assumption) ?_ | split | (refine canon_of_pair (by assumption) ?_))

theorem canon_ovTxWrite (s : State) (v : Word) (hC : s.Canon) : (State.ovTxWrite s v).Canon := by
  unfold State.ovTxWrite
  with_reducible (repeat' first | assumption | ((fail_if_no_progress extract_lets +onlyGivenNames x); (try (refine (fun hx : State.Canon x => ?_ : State.Canon x → _) ?_; (on_goal 1 => clear_value x); (on_goal 2 => unfold x)))) | apply canon_setF | apply canon_ovTx | split)

theorem canon_execOvTxWake (node : Fin 1024) (s : State) (hC : s.Canon) : CanonO (execOvTxWake node s) := by
  unfold execOvTxWake
  with_reducible (repeat' first | assumption | apply canon_ok | apply canon_ovTxWrite | split)

theorem canon_execOvTxAssign (node : Fin 1024) (s : State) (hC : s.Canon) : CanonO (execOvTxAssign node s) := by
  unfold execOvTxAssign
  with_reducible (repeat' first | assumption | apply canon_ok | apply canon_ovTxWrite | split)

theorem canon_pctrlWrite (s : State) (p : Port) (v : Word) (hC : s.Canon) : (State.pctrlWrite s p v).Canon := by
  unfold State.pctrlWrite
  with_reducible (repeat' first | assumption | ((fail_if_no_progress extract_lets +onlyGivenNames x); (try (refine (fun hx : State.Canon x => ?_ : State.Canon x → _) ?_; (on_goal 1 => clear_value x); (on_goal 2 => unfold x)))) | apply canon_portDisable | apply canon_portDown | split)

theorem canon_execOvRetrain (p : Port) (s : State) (hC : s.Canon) : CanonO (execOvRetrain p s) := by
  unfold execOvRetrain
  with_reducible (repeat' first | assumption | apply canon_ok | apply canon_pctrlWrite | split)

theorem canon_execOvPortDisable (p : Port) (v : Bool) (s : State) (hC : s.Canon) : CanonO (execOvPortDisable p v s) := by
  unfold execOvPortDisable
  with_reducible (repeat' first | assumption | apply canon_ok | apply canon_pctrlWrite | split)

theorem canon_execLinkDelayTimer (p : Port) (delay : Fin 65536) (s : State) (hC : s.Canon) : CanonO (execLinkDelayTimer p delay s) := by
  unfold execLinkDelayTimer
  with_reducible (repeat' first | assumption | ((fail_if_no_progress extract_lets +onlyGivenNames x); (try (refine (fun hx : State.Canon x => ?_ : State.Canon x → _) ?_; (on_goal 1 => clear_value x); (on_goal 2 => unfold x)))) | apply canon_ok | apply canon_queueOn | apply canon_setF | split | (fail_if_no_progress (apply canon_upd)))

/-! ### Bus -/

theorem canon_loRead (s : State) (a : Nat) (hC : s.Canon) : (State.loRead s a).2.Canon := by
  unfold State.loRead
  with_reducible (repeat' first | assumption | apply canon_setR | split | (refine canon_of_pair (by assumption) ?_))

theorem canon_readActs (s : State) (by_ : Agent) (a : Nat) (hC : s.Canon) : (State.readActs s by_ a).2.Canon := by
  unfold State.readActs
  with_reducible (repeat' first | assumption | apply canon_plAlloc | apply canon_revtRead | apply canon_ptLogRead | apply canon_spxRxRead | apply canon_mailRead | apply canon_loRead | split)

theorem canon_devRead (s : State) (by_ : Agent) (a : Nat) (n : Nat) (hC : s.Canon) : (State.devRead s by_ a n).2.Canon := by
  unfold State.devRead
  with_reducible (repeat' first | assumption | ((fail_if_no_progress extract_lets +onlyGivenNames x); (try (refine (fun hx : State.Canon x => ?_ : State.Canon x → _) ?_; (on_goal 1 => clear_value x); (on_goal 2 => unfold x)))) | apply canon_readActs | split)

theorem canon_plainWrite (s : State) (a : Nat) (v mask : Word) (hC : s.Canon) : (State.plainWrite s a v mask).Canon := by
  unfold State.plainWrite
  split
  · exact canon_regs hC (sortedNat_insertNat _ _ _ hC.1)
  · exact hC

theorem canon_requestBits (s : State) (l : List Blk) (v : Word) (hC : s.Canon) : (State.requestBits s l v).Canon := by
  unfold State.requestBits
  with_reducible (repeat' first | assumption | intro _ | apply canon_each | apply canon_requestReset | split)

theorem canon_rcCtrl (s : State) (w : Word) (v : Word) (hC : s.Canon) : (State.rcCtrl s w v).Canon := by
  unfold State.rcCtrl
  with_reducible (repeat' first | assumption | ((fail_if_no_progress extract_lets +onlyGivenNames x); (try (refine (fun hx : State.Canon x => ?_ : State.Canon x → _) ?_; (on_goal 1 => clear_value x); (on_goal 2 => unfold x)))) | apply canon_setF | apply canon_offF | apply canon_rollTrigger | split)

theorem canon_sysWrite (s : State) (by_ : Agent) (a : Nat) (v : Word) (mask : Word) (hC : s.Canon) : (State.sysWrite s by_ a v mask).2.Canon := by
  unfold State.sysWrite
  with_reducible (repeat' first | assumption | ((fail_if_no_progress extract_lets +onlyGivenNames x); (try (refine (fun hx : State.Canon x => ?_ : State.Canon x → _) ?_; (on_goal 1 => clear_value x); (on_goal 2 => unfold x)))) | apply canon_requestBits | apply canon_plainWrite | apply canon_readyBy | apply canon_rfgRelWrite | apply canon_rcCtrl | split | (refine canon_of_pair (by assumption) ?_))

theorem canon_sigboxWrite (s : State) (a : Nat) (v : Word) (mask : Word) (hC : s.Canon) : (State.sigboxWrite s a v mask).Canon := by
  unfold State.sigboxWrite
  with_reducible (repeat' first | assumption | ((fail_if_no_progress extract_lets +onlyGivenNames x); (try (refine (fun hx : State.Canon x => ?_ : State.Canon x → _) ?_; (on_goal 1 => clear_value x); (on_goal 2 => unfold x)))) | apply canon_sbLock | apply canon_sbLockedWrite | apply canon_stickyClear | apply canon_sbCfgWrite | apply canon_plainWrite | split)

theorem canon_tallyWrite (s : State) (by_ : Agent) (a : Nat) (v : Word) (mask : Word) (hC : s.Canon) : (State.tallyWrite s by_ a v mask).2.Canon := by
  unfold State.tallyWrite
  with_reducible (repeat' first | assumption | ((fail_if_no_progress extract_lets +onlyGivenNames x); (try (refine (fun hx : State.Canon x => ?_ : State.Canon x → _) ?_; (on_goal 1 => clear_value x); (on_goal 2 => unfold x)))) | apply canon_tlCtrlWrite | apply canon_tlKeyWrite | apply canon_tlPeriodWrite | apply canon_tlEnWrite | apply canon_tlEscWrite | apply canon_tlDisturb | apply canon_plainWrite | split | (refine canon_of_pair (by assumption) ?_))

theorem canon_shuntWrite (s : State) (a : Nat) (v : Word) (mask : Word) (hC : s.Canon) : (State.shuntWrite s a v mask).Canon := by
  unfold State.shuntWrite
  with_reducible (repeat' first | assumption | ((fail_if_no_progress extract_lets +onlyGivenNames x); (try (refine (fun hx : State.Canon x => ?_ : State.Canon x → _) ?_; (on_goal 1 => clear_value x); (on_goal 2 => unfold x)))) | apply canon_shCtrl | apply canon_plainWrite | split)

theorem canon_crcuWrite (s : State) (by_ : Agent) (a : Nat) (v : Word) (mask : Word) (hC : s.Canon) : (State.crcuWrite s by_ a v mask).Canon := by
  unfold State.crcuWrite
  with_reducible (repeat' first | assumption | ((fail_if_no_progress extract_lets +onlyGivenNames x); (try (refine (fun hx : State.Canon x => ?_ : State.Canon x → _) ?_; (on_goal 1 => clear_value x); (on_goal 2 => unfold x)))) | apply canon_cuRefuse | apply canon_cuCtrl | apply canon_shPumpAll | apply canon_cuData | apply canon_plainWrite | split | (refine canon_of_pair (by assumption) ?_))

theorem canon_spxWrite (s : State) (a : Nat) (v : Word) (mask : Word) (hC : s.Canon) : (State.spxWrite s a v mask).Canon := by
  unfold State.spxWrite
  with_reducible (repeat' first | assumption | ((fail_if_no_progress extract_lets +onlyGivenNames x); (try (refine (fun hx : State.Canon x => ?_ : State.Canon x → _) ?_; (on_goal 1 => clear_value x); (on_goal 2 => unfold x)))) | apply canon_spxTxWrite | apply canon_mailWrite | apply canon_spxCfgWrite | apply canon_spxClkWrite | apply canon_spxCtrlWrite | apply canon_plainWrite | apply canon_negReset | split)

theorem canon_orviaWrite (s : State) (a : Nat) (v : Word) (mask : Word) (hC : s.Canon) : (State.orviaWrite s a v mask).Canon := by
  unfold State.orviaWrite
  with_reducible (repeat' first | assumption | ((fail_if_no_progress extract_lets +onlyGivenNames x); (try (refine (fun hx : State.Canon x => ?_ : State.Canon x → _) ?_; (on_goal 1 => clear_value x); (on_goal 2 => unfold x)))) | apply canon_ovTxWrite | apply canon_pctrlWrite | apply canon_plainWrite | split | (refine canon_of_pair (by assumption) ?_))

theorem canon_maniWrite (s : State) (a : Nat) (v : Word) (mask : Word) (hC : s.Canon) : (State.maniWrite s a v mask).Canon := by
  unfold State.maniWrite
  with_reducible (repeat' first | assumption | ((fail_if_no_progress extract_lets +onlyGivenNames x); (try (refine (fun hx : State.Canon x => ?_ : State.Canon x → _) ?_; (on_goal 1 => clear_value x); (on_goal 2 => unfold x)))) | apply canon_plainWrite | apply canon_setF | apply canon_bankSizeWrite | apply canon_pubWrite | apply canon_subWrite | split)

theorem canon_ssBootWrite (s : State) (v : Word) (hC : s.Canon) : (State.ssBootWrite s v).Canon := by
  unfold State.ssBootWrite
  with_reducible (repeat' first | assumption | apply canon_setF | split | (fail_if_no_progress (apply canon_upd)))

theorem canon_sessWrite (s : State) (a : Nat) (v : Word) (mask : Word) (hC : s.Canon) : (State.sessWrite s a v mask).Canon := by
  unfold State.sessWrite
  with_reducible (repeat' first | assumption | intro _ | ((fail_if_no_progress extract_lets +onlyGivenNames x); (try (refine (fun hx : State.Canon x => ?_ : State.Canon x → _) ?_; (on_goal 1 => clear_value x); (on_goal 2 => unfold x)))) | apply canon_setR | apply canon_ssBootWrite | apply canon_modSess | apply canon_entryCmd | apply canon_plainWrite | split | (fail_if_no_progress (apply canon_upd)))

theorem canon_poolWrite (s : State) (by_ : Agent) (a : Nat) (v : Word) (mask : Word) (hC : s.Canon) : (State.poolWrite s by_ a v mask).2.Canon := by
  unfold State.poolWrite
  with_reducible (repeat' first | assumption | ((fail_if_no_progress extract_lets +onlyGivenNames x); (try (refine (fun hx : State.Canon x => ?_ : State.Canon x → _) ?_; (on_goal 1 => clear_value x); (on_goal 2 => unfold x)))) | apply canon_plCfgWrite | apply canon_plFree | apply canon_plGive | apply canon_plReclaim | apply canon_plainWrite | split | (refine canon_of_pair (by assumption) ?_))

theorem canon_calstWrite (s : State) (a : Nat) (v : Word) (mask : Word) (hC : s.Canon) : (State.calstWrite s a v mask).Canon := by
  unfold State.calstWrite
  with_reducible (repeat' first | assumption | ((fail_if_no_progress extract_lets +onlyGivenNames x); (try (refine (fun hx : State.Canon x => ?_ : State.Canon x → _) ?_; (on_goal 1 => clear_value x); (on_goal 2 => unfold x)))) | apply canon_fpKey | apply canon_fpGo | apply canon_fpDisturb | apply canon_plainWrite | apply canon_calWrite | split | (refine canon_of_pair (by assumption) ?_))

theorem canon_chWrite (s : State) (n : Fin 16) (a : Nat) (v : Word) (mask : Word) (hC : s.Canon) : (State.chWrite s n a v mask).Canon := by
  unfold State.chWrite
  with_reducible (repeat' first | assumption | ((fail_if_no_progress extract_lets +onlyGivenNames x); (try (refine (fun hx : State.Canon x => ?_ : State.Canon x → _) ?_; (on_goal 1 => clear_value x); (on_goal 2 => unfold x)))) | apply canon_mgmtRefuse | apply canon_plainWrite | split)

theorem canon_rfxWrite (s : State) (n : Fin 16) (by_ : Agent) (a : Nat) (v : Word) (mask : Word) (hC : s.Canon) : (State.rfxWrite s n by_ a v mask).Canon := by
  unfold State.rfxWrite
  with_reducible (repeat' first | assumption | ((fail_if_no_progress extract_lets +onlyGivenNames x); (try (refine (fun hx : State.Canon x => ?_ : State.Canon x → _) ?_; (on_goal 1 => clear_value x); (on_goal 2 => unfold x)))) | apply canon_onF | apply canon_rfxCtrl | apply canon_plainWrite | split | (refine canon_of_pair (by assumption) ?_))

theorem canon_devWrite (s : State) (by_ : Agent) (a : Nat) (v : Word) (mask : Word) (hC : s.Canon) : (State.devWrite s by_ a v mask).2.Canon := by
  unfold State.devWrite
  with_reducible (repeat' first | assumption | ((fail_if_no_progress extract_lets +onlyGivenNames x); (try (refine (fun hx : State.Canon x => ?_ : State.Canon x → _) ?_; (on_goal 1 => clear_value x); (on_goal 2 => unfold x)))) | apply canon_sysWrite | apply canon_sigboxWrite | apply canon_tallyWrite | apply canon_shuntWrite | apply canon_crcuWrite | apply canon_spxWrite | apply canon_orviaWrite | apply canon_ttPeriodWrite | apply canon_plainWrite | apply canon_maniWrite | apply canon_sessWrite | apply canon_poolWrite | apply canon_calstWrite | apply canon_chWrite | apply canon_rfxWrite | split | (refine canon_of_pair (by assumption) ?_))

/-! ### Fabric -/

theorem canon_fabRead (s : State) (by_ : Agent) (a : Nat) (n : Nat) (hC : s.Canon) : (State.fabRead s by_ a n).2.Canon := by
  unfold State.fabRead
  with_reducible (repeat' first | assumption | ((fail_if_no_progress extract_lets +onlyGivenNames x); (try (refine (fun hx : State.Canon x => ?_ : State.Canon x → _) ?_; (on_goal 1 => clear_value x); (on_goal 2 => unfold x)))) | apply canon_sramLoad | apply canon_flashLoad | apply canon_devRead | split | (refine canon_of_pair (by assumption) ?_))

theorem canon_fabWrite (s : State) (by_ : Agent) (a : Nat) (bs : List Byte) (hC : s.Canon) : (State.fabWrite s by_ a bs).2.Canon := by
  unfold State.fabWrite
  with_reducible (repeat' first | assumption | apply canon_sramWrite | apply canon_devWrite | split | (refine canon_of_pair (by assumption) ?_))

/-! ### Access -/

theorem canon_still (s : State) (m : Mach) (f : State → State) (hC : s.Canon) (hf : ∀ (x0 : State), x0.Canon → (f x0).Canon) : (State.still s m f).Canon := by
  unfold State.still
  with_reducible (repeat' first | assumption | intro _ | apply hf | split)

theorem canon_stallOn (s : State) (m : Mach) (a : CoreAccess) (hC : s.Canon) : (State.stallOn s m a).Canon := by
  unfold State.stallOn
  with_reducible (repeat' first | assumption | intro _ | apply canon_modMach | (fail_if_no_progress (apply canon_upd)))

theorem canon_loaded (s : State) (m : Mach) (a : CoreAccess) (v : Nat) (hC : s.Canon) : (State.loaded s m a v).Canon := by
  unfold State.loaded
  with_reducible (repeat' first | assumption | intro _ | apply canon_still | apply canon_setRetire)

theorem canon_memLoad (s : State) (m : Mach) (a : CoreAccess) (hC : s.Canon) : (State.memLoad s m a).Canon := by
  unfold State.memLoad
  with_reducible (repeat' first | assumption | ((fail_if_no_progress extract_lets +onlyGivenNames x); (try (refine (fun hx : State.Canon x => ?_ : State.Canon x → _) ?_; (on_goal 1 => clear_value x); (on_goal 2 => unfold x)))) | apply canon_sramLoad | apply canon_poisonTrap | apply canon_uninitTrap | apply canon_loaded | apply canon_flashLoad | split | (refine canon_of_pair (by assumption) ?_))

theorem canon_memStore (s : State) (m : Mach) (a : CoreAccess) (hC : s.Canon) : (State.memStore s m a).Canon := by
  unfold State.memStore
  with_reducible (repeat' first | assumption | intro _ | apply canon_sramWrite | apply canon_still | apply canon_retire | apply canon_poisonTrap | split | (refine canon_of_pair (by assumption) ?_))

theorem canon_devAccess (s : State) (m : Mach) (a : CoreAccess) (hC : s.Canon) : (State.devAccess s m a).Canon := by
  unfold State.devAccess
  with_reducible (repeat' first | assumption | intro _ | ((fail_if_no_progress extract_lets +onlyGivenNames x); (try (refine (fun hx : State.Canon x => ?_ : State.Canon x → _) ?_; (on_goal 1 => clear_value x); (on_goal 2 => unfold x)))) | apply canon_devWrite | apply canon_still | apply canon_retire | apply canon_devRead | apply canon_loaded | split | (refine canon_of_pair (by assumption) ?_))

theorem canon_windowAccess (s : State) (m : Mach) (a : CoreAccess) (hC : s.Canon) : (State.windowAccess s m a).Canon := by
  unfold State.windowAccess
  with_reducible (repeat' first | assumption | intro _ | ((fail_if_no_progress extract_lets +onlyGivenNames x); (try (refine (fun hx : State.Canon x => ?_ : State.Canon x → _) ?_; (on_goal 1 => clear_value x); (on_goal 2 => unfold x)))) | apply canon_stallOn | apply canon_stationAccess | apply canon_clientEnd | apply canon_still | apply canon_accessEnd | split | (fail_if_no_progress (apply canon_upd)))

theorem canon_coreAccess (s : State) (m : Mach) (a : CoreAccess) (hC : s.Canon) : (State.coreAccess s m a).Canon := by
  unfold State.coreAccess
  with_reducible (repeat' first | assumption | apply canon_windowAccess | apply canon_stallOn | apply canon_devAccess | apply canon_memStore | apply canon_memLoad | split)

theorem canon_loadStore (s : State) (m : Mach) (a : CoreAccess) (hC : s.Canon) : (State.loadStore s m a).Canon := by
  unfold State.loadStore
  with_reducible (repeat' first | assumption | apply canon_alignTrap | apply canon_accessTrap | apply canon_coreAccess | split | (refine canon_of_pair (by assumption) ?_))

/-! ### CalstCmd -/

theorem canon_execCsWrite (s : State) (hC : s.Canon) : CanonO (execCsWrite s) := by
  unfold execCsWrite
  with_reducible (repeat' first | assumption | apply canon_ok | apply canon_fpDisturb | apply canon_calWrite | split)

theorem canon_execCalCopyComplete (s : State) (hC : s.Canon) : CanonO (execCalCopyComplete s) := by
  unfold execCalCopyComplete
  with_reducible (repeat' first | assumption | apply canon_ok | apply canon_calCopied | split)

theorem canon_execCalEraseComplete (blank : Bool) (s : State) (hC : s.Canon) : CanonO (execCalEraseComplete blank s) := by
  unfold execCalEraseComplete
  with_reducible (repeat' first | assumption | apply canon_ok | apply canon_calErased | split)

theorem canon_execCalProgramComplete (s : State) (hC : s.Canon) : CanonO (execCalProgramComplete s) := by
  unfold execCalProgramComplete
  with_reducible (repeat' first | assumption | apply canon_ok | apply canon_calProgrammed | split)

theorem canon_execCalVerifyComplete (good : Bool) (s : State) (hC : s.Canon) : CanonO (execCalVerifyComplete good s) := by
  unfold execCalVerifyComplete
  with_reducible (repeat' first | assumption | apply canon_ok | apply canon_calStop | apply canon_calFail | apply canon_setF | split)

theorem canon_execCalCommitComplete (s : State) (hC : s.Canon) : CanonO (execCalCommitComplete s) := by
  unfold execCalCommitComplete
  with_reducible (repeat' first | assumption | apply canon_ok | apply canon_calCommitted | split)

theorem canon_execFpKeyWrite (v : Word) (s : State) (hC : s.Canon) : CanonO (execFpKeyWrite v s) := by
  unfold execFpKeyWrite
  with_reducible (repeat' first | assumption | apply canon_ok | apply canon_fpKey | split)

theorem canon_execFpErase (s : State) (hC : s.Canon) : CanonO (execFpErase s) := by
  unfold execFpErase
  with_reducible (repeat' first | assumption | apply canon_ok | apply canon_fpGo | split)

theorem canon_execFpProgram (s : State) (hC : s.Canon) : CanonO (execFpProgram s) := by
  unfold execFpProgram
  with_reducible (repeat' first | assumption | apply canon_ok | apply canon_fpGo | split)

theorem canon_execFpEraseComplete (blank : Bool) (s : State) (hC : s.Canon) : CanonO (execFpEraseComplete blank s) := by
  unfold execFpEraseComplete
  with_reducible (repeat' first | assumption | ((fail_if_no_progress extract_lets +onlyGivenNames x); (try (refine (fun hx : State.Canon x => ?_ : State.Canon x → _) ?_; (on_goal 1 => clear_value x); (on_goal 2 => unfold x)))) | apply canon_tlEraseEnd | apply canon_ok | apply canon_eraseSector | apply canon_fpDone | apply canon_incF | apply canon_offF | apply canon_fpFail | split | (refine canon_of_pair (by assumption) ?_) | (fail_if_no_progress (apply canon_upd)))

theorem canon_execFpProgramComplete (good : Bool) (s : State) (hC : s.Canon) : CanonO (execFpProgramComplete good s) := by
  unfold execFpProgramComplete
  with_reducible (repeat' first | assumption | ((fail_if_no_progress extract_lets +onlyGivenNames x); (try (refine (fun hx : State.Canon x => ?_ : State.Canon x → _) ?_; (on_goal 1 => clear_value x); (on_goal 2 => unfold x)))) | apply canon_ok | apply canon_dropFlux | apply canon_flashProgram | apply canon_fpDone | apply canon_offF | apply canon_fpFail | split | (refine canon_of_pair (by assumption) ?_) | (fail_if_no_progress (apply canon_upd)))

/-! ### ChanDep -/

theorem canon_regItem (n : Fin 16) (p : Nat × Word) (s : State) (hC : s.Canon) : (State.regItem n p s).Canon := by
  obtain ⟨i, v⟩ := p
  unfold State.regItem
  have h1 := canon_modCh s n (fun h => { h with cfg := h.cfg.setItem i v }) hC
  refine canon_ite (fun _ => hC) fun _ => ?_
  refine canon_ite (fun _ => canon_trimCommand _ _ _ hC) fun _ => ?_
  refine canon_ite (fun _ => canon_modCh _ _ _ hC) fun _ => ?_
  refine canon_ite (fun _ => canon_ite (fun _ => canon_modCh _ _ _ h1) (fun _ => h1)) fun _ => ?_
  refine canon_ite (fun _ => canon_ite (fun _ => canon_fastStart _ _ h1) (fun _ => h1)) fun _ => ?_
  refine canon_ite (fun _ => canon_modCh _ _ _ h1) fun _ => ?_
  refine canon_ite (fun _ => canon_modCh _ _ _ h1) fun _ => ?_
  exact canon_ite (fun _ => canon_showDiag _ _ (canon_modCh _ _ _ h1)) (fun _ => h1)

theorem canon_regItems (s : State) (n : Fin 16) (l : List (Nat × Word)) (miss : Bool) (hC : s.Canon) : (State.regItems s n l miss).2.2.Canon := by
  unfold State.regItems
  with_reducible (repeat' first | assumption | intro _ | ((fail_if_no_progress extract_lets +onlyGivenNames x); (try (refine (fun hx : State.Canon x => ?_ : State.Canon x → _) ?_; (on_goal 1 => clear_value x); (on_goal 2 => unfold x)))) | apply canon_setCh | apply canon_each | apply canon_regItem | split | (fail_if_no_progress (apply canon_upd)))

theorem canon_register (s : State) (n : Fin 16) (q : ChSlot) (miss : Bool) (hC : s.Canon) : (State.register s n q miss).2.2.Canon := by
  unfold State.register
  with_reducible (repeat' first | assumption | intro _ | ((fail_if_no_progress extract_lets +onlyGivenNames x); (try (refine (fun hx : State.Canon x => ?_ : State.Canon x → _) ?_; (on_goal 1 => clear_value x); (on_goal 2 => unfold x)))) | apply canon_modCh | apply canon_offF | apply canon_startShut | apply canon_startConfig | apply canon_onF | apply canon_foldl | apply canon_regItems | split | (refine canon_of_pair (by assumption) ?_) | (fail_if_no_progress (apply canon_upd)))

theorem canon_refugeCommand (s : State) (n : Fin 16) (v : Word) (hC : s.Canon) : (State.refugeCommand s n v).2.Canon := by
  unfold State.refugeCommand
  with_reducible (repeat' first | assumption | intro _ | ((fail_if_no_progress extract_lets +onlyGivenNames x); (try (refine (fun hx : State.Canon x => ?_ : State.Canon x → _) ?_; (on_goal 1 => clear_value x); (on_goal 2 => unfold x)))) | apply canon_modCh | apply canon_chRefuge | apply canon_offF | apply canon_setChSt | split | (fail_if_no_progress (apply canon_upd)))

theorem canon_refugeItems (s : State) (n : Fin 16) (items : List (Nat × Word)) (held : List (Nat × Word)) (stands : Bool) (miss : Bool) (hC : s.Canon) : (State.refugeItems s n items held stands miss).2.Canon := by
  unfold State.refugeItems
  with_reducible (repeat' first | assumption | intro _ | apply canon_refugeCommand | apply canon_modCh | split | (refine canon_of_pair (by assumption) ?_) | (fail_if_no_progress (apply canon_upd)))

theorem canon_chMoves (s : State) (n : Fin 16) (was : Nat) (hC : s.Canon) : (State.chMoves s n was).Canon := by
  unfold State.chMoves
  with_reducible (repeat' first | assumption | intro _ | ((fail_if_no_progress extract_lets +onlyGivenNames x); (try (refine (fun hx : State.Canon x => ?_ : State.Canon x → _) ?_; (on_goal 1 => clear_value x); (on_goal 2 => unfold x)))) | apply canon_setChSt | apply canon_chRefuge | apply canon_armCh | apply canon_fastStart | apply canon_modCh | apply canon_startConfig | split | (refine canon_of_pair (by assumption) ?_) | (fail_if_no_progress (apply canon_upd)))

theorem canon_applyCh (s : State) (n : Fin 16) (apply : Option Word) (missed : Bool) (hC : s.Canon) : (State.applyCh s n apply missed).Canon := by
  unfold State.applyCh
  with_reducible (repeat' first | assumption | intro _ | ((fail_if_no_progress extract_lets +onlyGivenNames x); (try (refine (fun hx : State.Canon x => ?_ : State.Canon x → _) ?_; (on_goal 1 => clear_value x); (on_goal 2 => unfold x)))) | apply canon_modCh | split | (refine canon_of_pair (by assumption) ?_) | (fail_if_no_progress (apply canon_upd)))

theorem canon_chRequests (s : State) (n : Fin 16) (miss : Bool) (hC : s.Canon) : (State.chRequests s n miss).2.2.Canon := by
  unfold State.chRequests
  with_reducible (repeat' first | assumption | ((fail_if_no_progress extract_lets +onlyGivenNames x); (try (refine (fun hx : State.Canon x => ?_ : State.Canon x → _) ?_; (on_goal 1 => clear_value x); (on_goal 2 => unfold x)))) | apply canon_setCh | apply canon_register | apply canon_chMoves | apply canon_refugeItems | apply canon_setF | apply canon_offF | split | (refine canon_of_pair (by assumption) ?_) | (refine canon_of_triple (by assumption) ?_) | (fail_if_no_progress (apply canon_upd)) | (fail_if_no_progress beta_reduce) | (fail_if_no_progress dsimp only) | (fail_if_no_progress dsimp +zetaDelta only))

theorem canon_chCopies (s : State) (n : Fin 16) (skewDp : Bool) (skewDie : Bool) (hC : s.Canon) : (State.chCopies s n skewDp skewDie).Canon := by
  unfold State.chCopies
  with_reducible (repeat' first | assumption | intro _ | ((fail_if_no_progress extract_lets +onlyGivenNames x); (try (refine (fun hx : State.Canon x => ?_ : State.Canon x → _) ?_; (on_goal 1 => clear_value x); (on_goal 2 => unfold x)))) | apply canon_setR | apply canon_onF | apply canon_modCh | apply canon_faultCore | split | (fail_if_no_progress (apply canon_upd)))

theorem canon_departCh (tp : Nat) (te : Nat) (miss : Bool) (skewDp : Bool) (skewDie : Bool) (apply : Option Word) (missed : Bool) (n : Fin 16) (s : State) (hC : s.Canon) : (State.departCh tp te miss skewDp skewDie apply missed n s).Canon := by
  unfold State.departCh
  with_reducible (repeat' first | assumption | intro _ | ((fail_if_no_progress extract_lets +onlyGivenNames x); (try (refine (fun hx : State.Canon x => ?_ : State.Canon x → _) ?_; (on_goal 1 => clear_value x); (on_goal 2 => unfold x)))) | apply canon_modCh | apply canon_chRequests | apply canon_discard | apply canon_applyCh | apply canon_onF | apply canon_incF | apply canon_showQueue | apply canon_chCopies | apply canon_offF | apply canon_dieReport | split | (refine canon_of_pair (by assumption) ?_) | (refine canon_of_triple (by assumption) ?_) | (fail_if_no_progress (apply canon_upd)) | (fail_if_no_progress beta_reduce) | (fail_if_no_progress dsimp only) | (fail_if_no_progress dsimp +zetaDelta only))

/-! ### Issue -/

theorem canon_waitiEnd (s : State) (m : Mach) (hC : s.Canon) : (State.waitiEnd s m).Canon := by
  unfold State.waitiEnd
  with_reducible (repeat' first | assumption | intro _ | apply canon_modMach | apply canon_retire | split | (fail_if_no_progress (apply canon_upd)))

theorem canon_takeNmi (s : State) (m : Mach) (hC : s.Canon) : (State.takeNmi s m).Canon := by
  unfold State.takeNmi
  with_reducible (repeat' first | assumption | intro _ | ((fail_if_no_progress extract_lets +onlyGivenNames x); (try (refine (fun hx : State.Canon x => ?_ : State.Canon x → _) ?_; (on_goal 1 => clear_value x); (on_goal 2 => unfold x)))) | apply canon_waitiEnd | apply canon_modMach | apply canon_nmiEntry | split | (refine canon_of_pair (by assumption) ?_) | (fail_if_no_progress (apply canon_upd)))

theorem canon_takeWake (s : State) (m : Mach) (hC : s.Canon) : (State.takeWake s m).Canon := by
  unfold State.takeWake
  with_reducible (repeat' first | assumption | intro _ | ((fail_if_no_progress extract_lets +onlyGivenNames x); (try (refine (fun hx : State.Canon x => ?_ : State.Canon x → _) ?_; (on_goal 1 => clear_value x); (on_goal 2 => unfold x)))) | apply canon_waitiEnd | apply canon_modMach | apply canon_haltMach | apply canon_nmiEntry | apply canon_entry | split | (fail_if_no_progress (apply canon_upd)))

theorem canon_takeIrq (s : State) (m : Mach) (hC : s.Canon) : (State.takeIrq s m).Canon := by
  unfold State.takeIrq
  with_reducible (repeat' first | assumption | ((fail_if_no_progress extract_lets +onlyGivenNames x); (try (refine (fun hx : State.Canon x => ?_ : State.Canon x → _) ?_; (on_goal 1 => clear_value x); (on_goal 2 => unfold x)))) | apply canon_waitiEnd | apply canon_entry | split | (refine canon_of_pair (by assumption) ?_))

theorem canon_slotEntry (s : State) (m : Mach) (hC : s.Canon) : (State.slotEntry s m).Canon := by
  unfold State.slotEntry
  with_reducible (repeat' first | assumption | apply canon_takeNmi | apply canon_takeWake | apply canon_takeIrq | split)

theorem canon_issue (s : State) (m : Mach) (f : State → State) (hC : s.Canon) (hf : ∀ (x0 : State), x0.Canon → (f x0).Canon) : CanonO (State.issue s m f) := by
  unfold State.issue
  with_reducible (repeat' first | assumption | intro _ | apply canon_ok | apply canon_endStep | apply canon_slotEntry | apply canon_fetch | apply hf | split | (refine canon_of_pair (by assumption) ?_))

theorem canon_issueStation (s : State) (m : Mach) (w : Word) (f : State → State) (hC : s.Canon) (hf : ∀ (x0 : State), x0.Canon → (f x0).Canon) : CanonO (State.issueStation s m w f) := by
  unfold State.issueStation
  with_reducible (repeat' first | assumption | intro _ | apply canon_issue | apply canon_privTrap | apply hf | split)

/-! ### TapolAlu -/

theorem canon_aluR (s : State) (m : Mach) (gd : BitVec 5) (ga : BitVec 5) (gb : BitVec 5) (f : Word → Word → Word) (hC : s.Canon) : CanonO (State.aluR s m gd ga gb f) := by
  unfold State.aluR
  with_reducible (repeat' first | assumption | intro _ | apply canon_issue | apply canon_setRetire)

theorem canon_aluU (s : State) (m : Mach) (gd : BitVec 5) (ga : BitVec 5) (f : Word → Word) (hC : s.Canon) : CanonO (State.aluU s m gd ga f) := by
  unfold State.aluU
  with_reducible (repeat' first | assumption | intro _ | apply canon_issue | apply canon_setRetire)

theorem canon_aluD (s : State) (m : Mach) (gd : BitVec 5) (ga : BitVec 5) (gb : BitVec 5) (f : Word → Word → Word → Word) (hC : s.Canon) : CanonO (State.aluD s m gd ga gb f) := by
  unfold State.aluD
  with_reducible (repeat' first | assumption | intro _ | apply canon_issue | apply canon_setRetire)

theorem canon_branch (s : State) (m : Mach) (gd : BitVec 5) (ga : BitVec 5) (i : BitVec 17) (p : Word → Word → Bool) (hC : s.Canon) : CanonO (State.branch s m gd ga i p) := by
  unfold State.branch
  with_reducible (repeat' first | assumption | intro _ | ((fail_if_no_progress extract_lets +onlyGivenNames x); (try (refine (fun hx : State.Canon x => ?_ : State.Canon x → _) ?_; (on_goal 1 => clear_value x); (on_goal 2 => unfold x)))) | apply canon_issue | apply canon_retireTo | split)

theorem canon_execAdd (m : Mach) (gd : BitVec 5) (ga : BitVec 5) (gb : BitVec 5) (s : State) (hC : s.Canon) : CanonO (execAdd m gd ga gb s) := by
  unfold execAdd
  with_reducible (repeat' first | assumption | intro _ | apply canon_aluR)

theorem canon_execSub (m : Mach) (gd : BitVec 5) (ga : BitVec 5) (gb : BitVec 5) (s : State) (hC : s.Canon) : CanonO (execSub m gd ga gb s) := by
  unfold execSub
  with_reducible (repeat' first | assumption | intro _ | apply canon_aluR)

theorem canon_execAnd (m : Mach) (gd : BitVec 5) (ga : BitVec 5) (gb : BitVec 5) (s : State) (hC : s.Canon) : CanonO (execAnd m gd ga gb s) := by
  unfold execAnd
  with_reducible (repeat' first | assumption | intro _ | apply canon_aluR)

theorem canon_execOr (m : Mach) (gd : BitVec 5) (ga : BitVec 5) (gb : BitVec 5) (s : State) (hC : s.Canon) : CanonO (execOr m gd ga gb s) := by
  unfold execOr
  with_reducible (repeat' first | assumption | intro _ | apply canon_aluR)

theorem canon_execXor (m : Mach) (gd : BitVec 5) (ga : BitVec 5) (gb : BitVec 5) (s : State) (hC : s.Canon) : CanonO (execXor m gd ga gb s) := by
  unfold execXor
  with_reducible (repeat' first | assumption | intro _ | apply canon_aluR)

theorem canon_execAndn (m : Mach) (gd : BitVec 5) (ga : BitVec 5) (gb : BitVec 5) (s : State) (hC : s.Canon) : CanonO (execAndn m gd ga gb s) := by
  unfold execAndn
  with_reducible (repeat' first | assumption | intro _ | apply canon_aluR)

theorem canon_execShl (m : Mach) (gd : BitVec 5) (ga : BitVec 5) (gb : BitVec 5) (s : State) (hC : s.Canon) : CanonO (execShl m gd ga gb s) := by
  unfold execShl
  with_reducible (repeat' first | assumption | intro _ | apply canon_aluR)

theorem canon_execShr (m : Mach) (gd : BitVec 5) (ga : BitVec 5) (gb : BitVec 5) (s : State) (hC : s.Canon) : CanonO (execShr m gd ga gb s) := by
  unfold execShr
  with_reducible (repeat' first | assumption | intro _ | apply canon_aluR)

theorem canon_execShra (m : Mach) (gd : BitVec 5) (ga : BitVec 5) (gb : BitVec 5) (s : State) (hC : s.Canon) : CanonO (execShra m gd ga gb s) := by
  unfold execShra
  with_reducible (repeat' first | assumption | intro _ | apply canon_aluR)

theorem canon_execRotr (m : Mach) (gd : BitVec 5) (ga : BitVec 5) (gb : BitVec 5) (s : State) (hC : s.Canon) : CanonO (execRotr m gd ga gb s) := by
  unfold execRotr
  with_reducible (repeat' first | assumption | intro _ | apply canon_aluR)

theorem canon_execClt (m : Mach) (gd : BitVec 5) (ga : BitVec 5) (gb : BitVec 5) (s : State) (hC : s.Canon) : CanonO (execClt m gd ga gb s) := by
  unfold execClt
  with_reducible (repeat' first | assumption | intro _ | apply canon_aluR)

theorem canon_execCltu (m : Mach) (gd : BitVec 5) (ga : BitVec 5) (gb : BitVec 5) (s : State) (hC : s.Canon) : CanonO (execCltu m gd ga gb s) := by
  unfold execCltu
  with_reducible (repeat' first | assumption | intro _ | apply canon_aluR)

theorem canon_execMin (m : Mach) (gd : BitVec 5) (ga : BitVec 5) (gb : BitVec 5) (s : State) (hC : s.Canon) : CanonO (execMin m gd ga gb s) := by
  unfold execMin
  with_reducible (repeat' first | assumption | intro _ | apply canon_aluR | split)

theorem canon_execMax (m : Mach) (gd : BitVec 5) (ga : BitVec 5) (gb : BitVec 5) (s : State) (hC : s.Canon) : CanonO (execMax m gd ga gb s) := by
  unfold execMax
  with_reducible (repeat' first | assumption | intro _ | apply canon_aluR | split)

theorem canon_execMinu (m : Mach) (gd : BitVec 5) (ga : BitVec 5) (gb : BitVec 5) (s : State) (hC : s.Canon) : CanonO (execMinu m gd ga gb s) := by
  unfold execMinu
  with_reducible (repeat' first | assumption | intro _ | apply canon_aluR | split)

theorem canon_execMaxu (m : Mach) (gd : BitVec 5) (ga : BitVec 5) (gb : BitVec 5) (s : State) (hC : s.Canon) : CanonO (execMaxu m gd ga gb s) := by
  unfold execMaxu
  with_reducible (repeat' first | assumption | intro _ | apply canon_aluR | split)

theorem canon_execClz (m : Mach) (gd : BitVec 5) (ga : BitVec 5) (s : State) (hC : s.Canon) : CanonO (execClz m gd ga s) := by
  unfold execClz
  with_reducible (repeat' first | assumption | intro _ | apply canon_aluU)

theorem canon_execPopc (m : Mach) (gd : BitVec 5) (ga : BitVec 5) (s : State) (hC : s.Canon) : CanonO (execPopc m gd ga s) := by
  unfold execPopc
  with_reducible (repeat' first | assumption | intro _ | apply canon_aluU)

theorem canon_execMul (m : Mach) (gd : BitVec 5) (ga : BitVec 5) (gb : BitVec 5) (s : State) (hC : s.Canon) : CanonO (execMul m gd ga gb s) := by
  unfold execMul
  with_reducible (repeat' first | assumption | intro _ | apply canon_aluR)

theorem canon_execMulhiS (m : Mach) (gd : BitVec 5) (ga : BitVec 5) (gb : BitVec 5) (s : State) (hC : s.Canon) : CanonO (execMulhiS m gd ga gb s) := by
  unfold execMulhiS
  with_reducible (repeat' first | assumption | intro _ | apply canon_aluR)

theorem canon_execMulhiU (m : Mach) (gd : BitVec 5) (ga : BitVec 5) (gb : BitVec 5) (s : State) (hC : s.Canon) : CanonO (execMulhiU m gd ga gb s) := by
  unfold execMulhiU
  with_reducible (repeat' first | assumption | intro _ | apply canon_aluR)

theorem canon_execDivs (m : Mach) (gd : BitVec 5) (ga : BitVec 5) (gb : BitVec 5) (s : State) (hC : s.Canon) : CanonO (execDivs m gd ga gb s) := by
  unfold execDivs
  with_reducible (repeat' first | assumption | intro _ | apply canon_aluR)

theorem canon_execDivu (m : Mach) (gd : BitVec 5) (ga : BitVec 5) (gb : BitVec 5) (s : State) (hC : s.Canon) : CanonO (execDivu m gd ga gb s) := by
  unfold execDivu
  with_reducible (repeat' first | assumption | intro _ | apply canon_aluR)

theorem canon_execMods (m : Mach) (gd : BitVec 5) (ga : BitVec 5) (gb : BitVec 5) (s : State) (hC : s.Canon) : CanonO (execMods m gd ga gb s) := by
  unfold execMods
  with_reducible (repeat' first | assumption | intro _ | apply canon_aluR)

theorem canon_execModu (m : Mach) (gd : BitVec 5) (ga : BitVec 5) (gb : BitVec 5) (s : State) (hC : s.Canon) : CanonO (execModu m gd ga gb s) := by
  unfold execModu
  with_reducible (repeat' first | assumption | intro _ | apply canon_aluR)

theorem canon_execAddi (m : Mach) (gd : BitVec 5) (ga : BitVec 5) (i : BitVec 17) (s : State) (hC : s.Canon) : CanonO (execAddi m gd ga i s) := by
  unfold execAddi
  with_reducible (repeat' first | assumption | intro _ | apply canon_aluU)

theorem canon_execAndi (m : Mach) (gd : BitVec 5) (ga : BitVec 5) (i : BitVec 17) (s : State) (hC : s.Canon) : CanonO (execAndi m gd ga i s) := by
  unfold execAndi
  with_reducible (repeat' first | assumption | intro _ | apply canon_aluU)

theorem canon_execOri (m : Mach) (gd : BitVec 5) (ga : BitVec 5) (i : BitVec 17) (s : State) (hC : s.Canon) : CanonO (execOri m gd ga i s) := by
  unfold execOri
  with_reducible (repeat' first | assumption | intro _ | apply canon_aluU)

theorem canon_execXori (m : Mach) (gd : BitVec 5) (ga : BitVec 5) (i : BitVec 17) (s : State) (hC : s.Canon) : CanonO (execXori m gd ga i s) := by
  unfold execXori
  with_reducible (repeat' first | assumption | intro _ | apply canon_aluU)

theorem canon_execClti (m : Mach) (gd : BitVec 5) (ga : BitVec 5) (i : BitVec 17) (s : State) (hC : s.Canon) : CanonO (execClti m gd ga i s) := by
  unfold execClti
  with_reducible (repeat' first | assumption | intro _ | apply canon_aluU)

theorem canon_execCltiu (m : Mach) (gd : BitVec 5) (ga : BitVec 5) (i : BitVec 17) (s : State) (hC : s.Canon) : CanonO (execCltiu m gd ga i s) := by
  unfold execCltiu
  with_reducible (repeat' first | assumption | intro _ | apply canon_aluU)

theorem canon_execShli (m : Mach) (gd : BitVec 5) (ga : BitVec 5) (k : BitVec 5) (s : State) (hC : s.Canon) : CanonO (execShli m gd ga k s) := by
  unfold execShli
  with_reducible (repeat' first | assumption | intro _ | apply canon_aluU)

theorem canon_execShri (m : Mach) (gd : BitVec 5) (ga : BitVec 5) (k : BitVec 5) (s : State) (hC : s.Canon) : CanonO (execShri m gd ga k s) := by
  unfold execShri
  with_reducible (repeat' first | assumption | intro _ | apply canon_aluU)

theorem canon_execShrai (m : Mach) (gd : BitVec 5) (ga : BitVec 5) (k : BitVec 5) (s : State) (hC : s.Canon) : CanonO (execShrai m gd ga k s) := by
  unfold execShrai
  with_reducible (repeat' first | assumption | intro _ | apply canon_aluU)

theorem canon_execRotri (m : Mach) (gd : BitVec 5) (ga : BitVec 5) (k : BitVec 5) (s : State) (hC : s.Canon) : CanonO (execRotri m gd ga k s) := by
  unfold execRotri
  with_reducible (repeat' first | assumption | intro _ | apply canon_aluU)

theorem canon_execLdhi (m : Mach) (gd : BitVec 5) (i : BitVec 17) (s : State) (hC : s.Canon) : CanonO (execLdhi m gd i s) := by
  unfold execLdhi
  with_reducible (repeat' first | assumption | intro _ | apply canon_issue | apply canon_setRetire)

theorem canon_execAddpc (m : Mach) (gd : BitVec 5) (i : BitVec 17) (s : State) (hC : s.Canon) : CanonO (execAddpc m gd i s) := by
  unfold execAddpc
  with_reducible (repeat' first | assumption | intro _ | apply canon_issue | apply canon_setRetire)

theorem canon_execQadd (m : Mach) (gd : BitVec 5) (ga : BitVec 5) (gb : BitVec 5) (s : State) (hC : s.Canon) : CanonO (execQadd m gd ga gb s) := by
  unfold execQadd
  with_reducible (repeat' first | assumption | intro _ | apply canon_aluR)

theorem canon_execQsub (m : Mach) (gd : BitVec 5) (ga : BitVec 5) (gb : BitVec 5) (s : State) (hC : s.Canon) : CanonO (execQsub m gd ga gb s) := by
  unfold execQsub
  with_reducible (repeat' first | assumption | intro _ | apply canon_aluR)

theorem canon_execQneg (m : Mach) (gd : BitVec 5) (ga : BitVec 5) (s : State) (hC : s.Canon) : CanonO (execQneg m gd ga s) := by
  unfold execQneg
  with_reducible (repeat' first | assumption | intro _ | apply canon_aluU)

theorem canon_execQabs (m : Mach) (gd : BitVec 5) (ga : BitVec 5) (s : State) (hC : s.Canon) : CanonO (execQabs m gd ga s) := by
  unfold execQabs
  with_reducible (repeat' first | assumption | intro _ | apply canon_aluU)

theorem canon_execQmul (m : Mach) (gd : BitVec 5) (ga : BitVec 5) (gb : BitVec 5) (s : State) (hC : s.Canon) : CanonO (execQmul m gd ga gb s) := by
  unfold execQmul
  with_reducible (repeat' first | assumption | intro _ | apply canon_aluR)

theorem canon_execSats (m : Mach) (gd : BitVec 5) (ga : BitVec 5) (gb : BitVec 5) (s : State) (hC : s.Canon) : CanonO (execSats m gd ga gb s) := by
  unfold execSats
  with_reducible (repeat' first | assumption | intro _ | apply canon_aluR)

theorem canon_execSatu (m : Mach) (gd : BitVec 5) (ga : BitVec 5) (gb : BitVec 5) (s : State) (hC : s.Canon) : CanonO (execSatu m gd ga gb s) := by
  unfold execSatu
  with_reducible (repeat' first | assumption | intro _ | apply canon_aluR)

theorem canon_execQshl (m : Mach) (gd : BitVec 5) (ga : BitVec 5) (gb : BitVec 5) (s : State) (hC : s.Canon) : CanonO (execQshl m gd ga gb s) := by
  unfold execQshl
  with_reducible (repeat' first | assumption | intro _ | apply canon_aluR)

theorem canon_execQrshr (m : Mach) (gd : BitVec 5) (ga : BitVec 5) (gb : BitVec 5) (s : State) (hC : s.Canon) : CanonO (execQrshr m gd ga gb s) := by
  unfold execQrshr
  with_reducible (repeat' first | assumption | intro _ | apply canon_aluR)

theorem canon_execMac (m : Mach) (gd : BitVec 5) (ga : BitVec 5) (gb : BitVec 5) (s : State) (hC : s.Canon) : CanonO (execMac m gd ga gb s) := by
  unfold execMac
  with_reducible (repeat' first | assumption | intro _ | apply canon_aluD)

theorem canon_execMsu (m : Mach) (gd : BitVec 5) (ga : BitVec 5) (gb : BitVec 5) (s : State) (hC : s.Canon) : CanonO (execMsu m gd ga gb s) := by
  unfold execMsu
  with_reducible (repeat' first | assumption | intro _ | apply canon_aluD)

theorem canon_execMacl (m : Mach) (gd : BitVec 5) (ga : BitVec 5) (gb : BitVec 5) (s : State) (hC : s.Canon) : CanonO (execMacl m gd ga gb s) := by
  unfold execMacl
  with_reducible (repeat' first | assumption | intro _ | ((fail_if_no_progress extract_lets +onlyGivenNames x); (try (refine (fun hx : State.Canon x => ?_ : State.Canon x → _) ?_; (on_goal 1 => clear_value x); (on_goal 2 => unfold x)))) | apply canon_issue | apply canon_setPair64 | apply canon_retire | apply canon_illegal | split)

theorem canon_execBeq (m : Mach) (gd : BitVec 5) (ga : BitVec 5) (i : BitVec 17) (s : State) (hC : s.Canon) : CanonO (execBeq m gd ga i s) := by
  unfold execBeq
  with_reducible (repeat' first | assumption | intro _ | apply canon_branch)

theorem canon_execBne (m : Mach) (gd : BitVec 5) (ga : BitVec 5) (i : BitVec 17) (s : State) (hC : s.Canon) : CanonO (execBne m gd ga i s) := by
  unfold execBne
  with_reducible (repeat' first | assumption | intro _ | apply canon_branch)

theorem canon_execBlt (m : Mach) (gd : BitVec 5) (ga : BitVec 5) (i : BitVec 17) (s : State) (hC : s.Canon) : CanonO (execBlt m gd ga i s) := by
  unfold execBlt
  with_reducible (repeat' first | assumption | intro _ | apply canon_branch)

theorem canon_execBge (m : Mach) (gd : BitVec 5) (ga : BitVec 5) (i : BitVec 17) (s : State) (hC : s.Canon) : CanonO (execBge m gd ga i s) := by
  unfold execBge
  with_reducible (repeat' first | assumption | intro _ | apply canon_branch)

theorem canon_execBltu (m : Mach) (gd : BitVec 5) (ga : BitVec 5) (i : BitVec 17) (s : State) (hC : s.Canon) : CanonO (execBltu m gd ga i s) := by
  unfold execBltu
  with_reducible (repeat' first | assumption | intro _ | apply canon_branch)

theorem canon_execBgeu (m : Mach) (gd : BitVec 5) (ga : BitVec 5) (i : BitVec 17) (s : State) (hC : s.Canon) : CanonO (execBgeu m gd ga i s) := by
  unfold execBgeu
  with_reducible (repeat' first | assumption | intro _ | apply canon_branch)

theorem canon_execJal (m : Mach) (gd : BitVec 5) (i : BitVec 22) (s : State) (hC : s.Canon) : CanonO (execJal m gd i s) := by
  unfold execJal
  with_reducible (repeat' first | assumption | intro _ | ((fail_if_no_progress extract_lets +onlyGivenNames x); (try (refine (fun hx : State.Canon x => ?_ : State.Canon x → _) ?_; (on_goal 1 => clear_value x); (on_goal 2 => unfold x)))) | apply canon_issue | apply canon_wg | apply canon_retireTo)

theorem canon_execJalr (m : Mach) (gd : BitVec 5) (ga : BitVec 5) (i : BitVec 17) (s : State) (hC : s.Canon) : CanonO (execJalr m gd ga i s) := by
  unfold execJalr
  with_reducible (repeat' first | assumption | intro _ | ((fail_if_no_progress extract_lets +onlyGivenNames x); (try (refine (fun hx : State.Canon x => ?_ : State.Canon x → _) ?_; (on_goal 1 => clear_value x); (on_goal 2 => unfold x)))) | apply canon_issue | apply canon_wg | apply canon_retireTo | apply canon_trap | split)

/-! ### Triad -/

theorem canon_recordEvent (s : State) (t : Triad) (core : Nat) (kind : Nat) (pair : Bool) (retired : Bool) (hC : s.Canon) : (State.recordEvent s t core kind pair retired).Canon := by
  unfold State.recordEvent
  with_reducible (repeat' first | assumption | intro _ | ((fail_if_no_progress extract_lets +onlyGivenNames x); (try (refine (fun hx : State.Canon x => ?_ : State.Canon x → _) ?_; (on_goal 1 => clear_value x); (on_goal 2 => unfold x)))) | apply canon_setR | apply canon_modTri | (fail_if_no_progress (apply canon_upd)))

theorem canon_oddEvent (s : State) (t : Triad) (core : Nat) (kind : Nat) (hC : s.Canon) : (State.oddEvent s t core kind).Canon := by
  unfold State.oddEvent
  with_reducible (repeat' first | assumption | intro _ | ((fail_if_no_progress extract_lets +onlyGivenNames x); (try (refine (fun hx : State.Canon x => ?_ : State.Canon x → _) ?_; (on_goal 1 => clear_value x); (on_goal 2 => unfold x)))) | apply canon_recordEvent | apply canon_incF | apply canon_modTri | apply canon_setF | apply canon_setBitF | apply canon_offF | split | (fail_if_no_progress (apply canon_upd)))

theorem canon_oddRaises (s : State) (t : Triad) (core : Nat) (kind : Nat) (src : Nat) (hC : s.Canon) : (State.oddRaises s t core kind src).Canon := by
  unfold State.oddRaises
  with_reducible (repeat' first | assumption | ((fail_if_no_progress extract_lets +onlyGivenNames x); (try (refine (fun hx : State.Canon x => ?_ : State.Canon x → _) ?_; (on_goal 1 => clear_value x); (on_goal 2 => unfold x)))) | apply canon_oddEvent | apply canon_raise | split)

theorem canon_becomeOdd (s : State) (t : Triad) (core : Nat) (kind : Nat) (hC : s.Canon) : (State.becomeOdd s t core kind).Canon := by
  unfold State.becomeOdd
  with_reducible (repeat' first | assumption | apply canon_oddRaises)

theorem canon_startRecovery (s : State) (t : Triad) (kind : Nat) (src : Nat) (hC : s.Canon) : (State.startRecovery s t kind src).Canon := by
  unfold State.startRecovery
  with_reducible (repeat' first | assumption | intro _ | ((fail_if_no_progress extract_lets +onlyGivenNames x); (try (refine (fun hx : State.Canon x => ?_ : State.Canon x → _) ?_; (on_goal 1 => clear_value x); (on_goal 2 => unfold x)))) | apply canon_recordEvent | apply canon_modTri | apply canon_setSticky | (fail_if_no_progress (apply canon_upd)))

theorem canon_debugHalt (s : State) (t : Triad) (hC : s.Canon) : (State.debugHalt s t).Canon := by
  unfold State.debugHalt
  with_reducible (repeat' first | assumption | intro _ | apply canon_onF | apply canon_modTri | (fail_if_no_progress (apply canon_upd)))

theorem canon_heldHalt (s : State) (t : Triad) (hC : s.Canon) : (State.heldHalt s t).Canon := by
  unfold State.heldHalt
  with_reducible (repeat' first | assumption | apply canon_debugHalt | split)

theorem canon_recordDuration (s : State) (t : Triad) (hC : s.Canon) : (State.recordDuration s t).Canon := by
  unfold State.recordDuration
  with_reducible (repeat' first | assumption | apply canon_setF)

theorem canon_triadRelease (s : State) (t : Triad) (hC : s.Canon) : (State.triadRelease s t).Canon := by
  unfold State.triadRelease
  with_reducible (repeat' first | assumption | intro _ | ((fail_if_no_progress extract_lets +onlyGivenNames x); (try (refine (fun hx : State.Canon x => ?_ : State.Canon x → _) ?_; (on_goal 1 => clear_value x); (on_goal 2 => unfold x)))) | apply canon_clrRstBit | apply canon_each | apply canon_setMach | split | (refine canon_of_pair (by assumption) ?_) | (fail_if_no_progress (apply canon_upd)))

/-! ### TapolSys -/

theorem canon_ctrlLatch (s : State) (m : Mach) (k : Fin 32) (hC : s.Canon) : (State.ctrlLatch s m k).Canon := by
  unfold State.ctrlLatch
  with_reducible (repeat' first | assumption | apply canon_wc | apply canon_retire | split | (refine canon_of_pair (by assumption) ?_))

theorem canon_execMfc (m : Mach) (gd : BitVec 5) (n : BitVec 5) (s : State) (hC : s.Canon) : CanonO (execMfc m gd n s) := by
  unfold execMfc
  with_reducible (repeat' first | assumption | intro _ | ((fail_if_no_progress extract_lets +onlyGivenNames x); (try (refine (fun hx : State.Canon x => ?_ : State.Canon x → _) ?_; (on_goal 1 => clear_value x); (on_goal 2 => unfold x)))) | apply canon_issue | apply canon_illegal | apply canon_privTrap | apply canon_ctrlLatch | apply canon_setRetire | split)

theorem canon_execMtc (m : Mach) (n : BitVec 5) (ga : BitVec 5) (s : State) (hC : s.Canon) : CanonO (execMtc m n ga s) := by
  unfold execMtc
  with_reducible (repeat' first | assumption | intro _ | ((fail_if_no_progress extract_lets +onlyGivenNames x); (try (refine (fun hx : State.Canon x => ?_ : State.Canon x → _) ?_; (on_goal 1 => clear_value x); (on_goal 2 => unfold x)))) | apply canon_issue | apply canon_illegal | apply canon_privTrap | apply canon_ownerTrap | apply canon_wc | apply canon_retire | split)

theorem canon_execEret (m : Mach) (s : State) (hC : s.Canon) : CanonO (execEret m s) := by
  unfold execEret
  with_reducible (repeat' first | assumption | intro _ | apply canon_issueStation | apply canon_eret)

theorem canon_execNret (m : Mach) (s : State) (hC : s.Canon) : CanonO (execNret m s) := by
  unfold execNret
  with_reducible (repeat' first | assumption | intro _ | apply canon_issueStation | apply canon_nret)

theorem canon_execFenceAcq (m : Mach) (s : State) (hC : s.Canon) : CanonO (execFenceAcq m s) := by
  unfold execFenceAcq
  with_reducible (repeat' first | assumption | intro _ | apply canon_issue | apply canon_retire)

theorem canon_execFenceRel (m : Mach) (s : State) (hC : s.Canon) : CanonO (execFenceRel m s) := by
  unfold execFenceRel
  with_reducible (repeat' first | assumption | intro _ | apply canon_issue | apply canon_retire)

theorem canon_execFenceAr (m : Mach) (s : State) (hC : s.Canon) : CanonO (execFenceAr m s) := by
  unfold execFenceAr
  with_reducible (repeat' first | assumption | intro _ | apply canon_issue | apply canon_retire)

theorem canon_execSyscall (m : Mach) (k : BitVec 8) (s : State) (hC : s.Canon) : CanonO (execSyscall m k s) := by
  unfold execSyscall
  with_reducible (repeat' first | assumption | intro _ | ((fail_if_no_progress extract_lets +onlyGivenNames x); (try (refine (fun hx : State.Canon x => ?_ : State.Canon x → _) ?_; (on_goal 1 => clear_value x); (on_goal 2 => unfold x)))) | apply canon_issue | apply canon_trapAt)

theorem canon_haltRequest (s : State) (t : Triad) (hC : s.Canon) : (State.haltRequest s t).Canon := by
  unfold State.haltRequest
  with_reducible (repeat' first | assumption | intro _ | apply canon_debugHalt | apply canon_modTri | split | (refine canon_of_pair (by assumption) ?_) | (fail_if_no_progress (apply canon_upd)))

theorem canon_execBreakTrap (m : Mach) (s : State) (hC : s.Canon) : CanonO (execBreakTrap m s) := by
  unfold execBreakTrap
  with_reducible (repeat' first | assumption | intro _ | ((fail_if_no_progress extract_lets +onlyGivenNames x); (try (refine (fun hx : State.Canon x => ?_ : State.Canon x → _) ?_; (on_goal 1 => clear_value x); (on_goal 2 => unfold x)))) | apply canon_issue | apply canon_retire | apply canon_haltRequest | apply canon_trapAt | split)

theorem canon_execWaiti (m : Mach) (s : State) (hC : s.Canon) : CanonO (execWaiti m s) := by
  unfold execWaiti
  with_reducible (repeat' first | assumption | intro _ | apply canon_issueStation | apply canon_retire | apply canon_modMach | split | (fail_if_no_progress (apply canon_upd)))

theorem canon_execWaitiRelease (m : Mach) (s : State) (hC : s.Canon) : CanonO (execWaitiRelease m s) := by
  unfold execWaitiRelease
  with_reducible (repeat' first | assumption | apply canon_ok | apply canon_takeNmi | apply canon_takeWake | apply canon_takeIrq | apply canon_waitiEnd | split)

theorem canon_execMaskableInterruptEntry (m : Mach) (s : State) (hC : s.Canon) : CanonO (execMaskableInterruptEntry m s) := by
  unfold execMaskableInterruptEntry
  with_reducible (repeat' first | assumption | apply canon_ok | apply canon_takeWake | apply canon_takeIrq | split)

theorem canon_execNmiEntry (m : Mach) (s : State) (hC : s.Canon) : CanonO (execNmiEntry m s) := by
  unfold execNmiEntry
  with_reducible (repeat' first | assumption | apply canon_ok | apply canon_takeNmi | split)

theorem canon_execCrcf (m : Mach) (p : BitVec 2) (gd : BitVec 5) (ga : BitVec 5) (gb : BitVec 5) (s : State) (hC : s.Canon) : CanonO (execCrcf m p gd ga gb s) := by
  unfold execCrcf
  with_reducible (repeat' first | assumption | intro _ | ((fail_if_no_progress extract_lets +onlyGivenNames x); (try (refine (fun hx : State.Canon x => ?_ : State.Canon x → _) ?_; (on_goal 1 => clear_value x); (on_goal 2 => unfold x)))) | apply canon_issue | apply canon_illegal | apply canon_setRetire | split)

/-! ### Intents -/

theorem canon_propose (s : State) (m : Mach) (c : Fin 16) (v : Word) (hC : s.Canon) : (State.propose s m c v).2.Canon := by
  unfold State.propose
  with_reducible (repeat' first | assumption | ((fail_if_no_progress extract_lets +onlyGivenNames x); (try (refine (fun hx : State.Canon x => ?_ : State.Canon x → _) ?_; (on_goal 1 => clear_value x); (on_goal 2 => unfold x)))) | apply canon_setProp | apply canon_tellRetract | apply canon_revt | apply canon_raise | split | (fail_if_no_progress (apply canon_upd)))

theorem canon_retract (s : State) (c : Fin 16) (hC : s.Canon) : (State.retract s c).2.Canon := by
  unfold State.retract
  with_reducible (repeat' first | assumption | ((fail_if_no_progress extract_lets +onlyGivenNames x); (try (refine (fun hx : State.Canon x => ?_ : State.Canon x → _) ?_; (on_goal 1 => clear_value x); (on_goal 2 => unfold x)))) | apply canon_setProp | apply canon_tellRetract | split | (fail_if_no_progress (apply canon_upd)))

theorem canon_commitOne (m : Mach) (c : Fin 16) (s : State) (hC : s.Canon) : (State.commitOne m c s).Canon := by
  unfold State.commitOne
  with_reducible (repeat' first | assumption | ((fail_if_no_progress extract_lets +onlyGivenNames x); (try (refine (fun hx : State.Canon x => ?_ : State.Canon x → _) ?_; (on_goal 1 => clear_value x); (on_goal 2 => unfold x)))) | apply canon_setProp | apply canon_finalize | split | (refine canon_of_pair (by assumption) ?_) | (fail_if_no_progress (apply canon_upd)))

theorem canon_markStarted (s : State) (t : Triad) (hC : s.Canon) : (State.markStarted s t).Canon := by
  unfold State.markStarted
  with_reducible (repeat' first | assumption | apply canon_onF | split | (refine canon_of_pair (by assumption) ?_))

theorem canon_commit (s : State) (m : Mach) (mask : Nat) (hC : s.Canon) : (State.commit s m mask).2.Canon := by
  unfold State.commit
  with_reducible (repeat' first | assumption | intro _ | ((fail_if_no_progress extract_lets +onlyGivenNames x); (try (refine (fun hx : State.Canon x => ?_ : State.Canon x → _) ?_; (on_goal 1 => clear_value x); (on_goal 2 => unfold x)))) | apply canon_markStarted | apply canon_each | apply canon_commitOne | split)

theorem canon_peekAt (s : State) (c : Fin 16) (node : Nat) (by_ : Option Mach) (hC : s.Canon) : (State.peekAt s c node by_).2.Canon := by
  unfold State.peekAt
  with_reducible (repeat' first | assumption | ((fail_if_no_progress extract_lets +onlyGivenNames x); (try (refine (fun hx : State.Canon x => ?_ : State.Canon x → _) ?_; (on_goal 1 => clear_value x); (on_goal 2 => unfold x)))) | apply canon_setProp | split | (fail_if_no_progress (apply canon_upd)))

theorem canon_notePeek (s : State) (m : Mach) (d : Dep) (hC : s.Canon) : (State.notePeek s m d).Canon := by
  unfold State.notePeek
  with_reducible (repeat' first | assumption | intro _ | ((fail_if_no_progress extract_lets +onlyGivenNames x); (try (refine (fun hx : State.Canon x => ?_ : State.Canon x → _) ?_; (on_goal 1 => clear_value x); (on_goal 2 => unfold x)))) | (fail_if_no_progress (apply canon_upd)))

theorem canon_peekReqIn (s : State) (src : Nat) (m : PeekReqMsg) (hC : s.Canon) : (State.peekReqIn s src m).Canon := by
  unfold State.peekReqIn
  with_reducible (repeat' first | assumption | ((fail_if_no_progress extract_lets +onlyGivenNames x); (try (refine (fun hx : State.Canon x => ?_ : State.Canon x → _) ?_; (on_goal 1 => clear_value x); (on_goal 2 => unfold x)))) | apply canon_peekAt | apply canon_originate | split | (refine canon_of_pair (by assumption) ?_) | (fail_if_no_progress (apply canon_upd)))

theorem canon_noticeIn (s : State) (src : Nat) (oseq : Nat) (m : NoticeMsg) (hC : s.Canon) : (State.noticeIn s src oseq m).Canon := by
  unfold State.noticeIn
  with_reducible (repeat' first | assumption | ((fail_if_no_progress extract_lets +onlyGivenNames x); (try (refine (fun hx : State.Canon x => ?_ : State.Canon x → _) ?_; (on_goal 1 => clear_value x); (on_goal 2 => unfold x)))) | apply canon_finalDeps | apply canon_retractDeps | split | (fail_if_no_progress (apply canon_upd)))

theorem canon_resolveCh (s : State) (c : Fin 16) (hC : s.Canon) : (State.resolveCh s c).Canon := by
  unfold State.resolveCh
  with_reducible (repeat' first | assumption | ((fail_if_no_progress extract_lets +onlyGivenNames x); (try (refine (fun hx : State.Canon x => ?_ : State.Canon x → _) ?_; (on_goal 1 => clear_value x); (on_goal 2 => unfold x)))) | apply canon_setProp | apply canon_revt | split | (refine canon_of_pair (by assumption) ?_) | (fail_if_no_progress (apply canon_upd)))

theorem canon_commitDeadline (s : State) (hC : s.Canon) : (State.commitDeadline s).Canon := by
  unfold State.commitDeadline
  with_reducible (repeat' first | assumption | intro _ | ((fail_if_no_progress extract_lets +onlyGivenNames x); (try (refine (fun hx : State.Canon x => ?_ : State.Canon x → _) ?_; (on_goal 1 => clear_value x); (on_goal 2 => unfold x)))) | apply canon_foldl | apply canon_resolveCh | apply canon_raise | split | (fail_if_no_progress (apply canon_upd)))

theorem canon_countMiss (s : State) (t : Triad) (missed : Bool) (hC : s.Canon) : (State.countMiss s t missed).Canon := by
  unfold State.countMiss
  with_reducible (repeat' first | assumption | apply canon_incF | apply canon_offF | split)

theorem canon_missRefuge (s : State) (hC : s.Canon) : (State.missRefuge s).Canon := by
  unfold State.missRefuge
  with_reducible (repeat' first | assumption | apply canon_enterRefuge | apply canon_raise | split)

theorem canon_unlockedTick (s : State) (hC : s.Canon) : (State.unlockedTick s).Canon := by
  unfold State.unlockedTick
  with_reducible (repeat' first | assumption | ((fail_if_no_progress extract_lets +onlyGivenNames x); (try (refine (fun hx : State.Canon x => ?_ : State.Canon x → _) ?_; (on_goal 1 => clear_value x); (on_goal 2 => unfold x)))) | apply canon_countMiss | apply canon_missRefuge | split)

/-! ### ChannelCmd -/

theorem canon_execConfigurationComplete (n : Fin 16) (s : State) (hC : s.Canon) : CanonO (execConfigurationComplete n s) := by
  unfold execConfigurationComplete
  with_reducible (repeat' first | assumption | intro _ | ((fail_if_no_progress extract_lets +onlyGivenNames x); (try (refine (fun hx : State.Canon x => ?_ : State.Canon x → _) ?_; (on_goal 1 => clear_value x); (on_goal 2 => unfold x)))) | apply canon_ok | apply canon_chFault | apply canon_setF | apply canon_modCh | split | (fail_if_no_progress (apply canon_upd)))

theorem canon_execShutdownComplete (n : Fin 16) (cause : Option (Fin 8)) (s : State) (hC : s.Canon) : CanonO (execShutdownComplete n cause s) := by
  unfold execShutdownComplete
  with_reducible (repeat' first | assumption | ((fail_if_no_progress extract_lets +onlyGivenNames x); (try (refine (fun hx : State.Canon x => ?_ : State.Canon x → _) ?_; (on_goal 1 => clear_value x); (on_goal 2 => unfold x)))) | apply canon_setF | apply canon_ok | apply canon_toOff | apply canon_onF | apply canon_chFault | split | (refine canon_of_pair (by assumption) ?_))

theorem canon_execChannelDieFault (n : Fin 16) (cause : Fin 8) (s : State) (hC : s.Canon) : CanonO (execChannelDieFault n cause s) := by
  unfold execChannelDieFault
  with_reducible (repeat' first | assumption | apply canon_ok | apply canon_chFault)

theorem canon_chanRelease (s : State) (n : Fin 16) (hC : s.Canon) : (State.chanRelease s n).Canon := by
  unfold State.chanRelease
  with_reducible (repeat' first | assumption | intro _ | ((fail_if_no_progress extract_lets +onlyGivenNames x); (try (refine (fun hx : State.Canon x => ?_ : State.Canon x → _) ?_; (on_goal 1 => clear_value x); (on_goal 2 => unfold x)))) | apply canon_modCh | apply canon_setF | apply canon_setChSt | split | (refine canon_of_pair (by assumption) ?_) | (fail_if_no_progress (apply canon_upd)))

theorem canon_execIsoFrameReceive (n : Fin 16) (logicEnd : Bool) (sym : IsoSymbol) (s : State) (hC : s.Canon) : CanonO (execIsoFrameReceive n logicEnd sym s) := by
  unfold execIsoFrameReceive
  with_reducible (repeat' first | assumption | intro _ | ((fail_if_no_progress extract_lets +onlyGivenNames x); (try (refine (fun hx : State.Canon x => ?_ : State.Canon x → _) ?_; (on_goal 1 => clear_value x); (on_goal 2 => unfold x)))) | apply canon_ok | apply canon_modCh | apply canon_incF | apply canon_onF | apply canon_dieReport | apply canon_chFault | split | (fail_if_no_progress (apply canon_upd)))

theorem canon_execIsoLinkTimeout (n : Fin 16) (s : State) (hC : s.Canon) : CanonO (execIsoLinkTimeout n s) := by
  unfold execIsoLinkTimeout
  with_reducible (repeat' first | assumption | apply canon_ok | apply canon_incF | apply canon_chFault | split)

theorem canon_execPeriodicSelfCheck (n : Fin 16) (pass : Bool) (s : State) (hC : s.Canon) : CanonO (execPeriodicSelfCheck n pass s) := by
  unfold execPeriodicSelfCheck
  with_reducible (repeat' first | assumption | apply canon_ok | apply canon_chFault | split)

theorem canon_execSequenceTrigEdge (k : Fin 4) (rising : Bool) (s : State) (hC : s.Canon) : CanonO (execSequenceTrigEdge k rising s) := by
  unfold execSequenceTrigEdge
  with_reducible (repeat' first | assumption | intro _ | apply canon_ok | apply canon_each | apply canon_modCh | split)

theorem canon_execConversionLeadStart (n : Fin 16) (s : State) (hC : s.Canon) : CanonO (execConversionLeadStart n s) := by
  unfold execConversionLeadStart
  with_reducible (repeat' first | assumption | intro _ | apply canon_ok | apply canon_modCh | split)

theorem canon_execSlotComplete (n : Fin 16) (r : Reading) (s : State) (hC : s.Canon) : CanonO (execSlotComplete n r s) := by
  unfold execSlotComplete
  with_reducible (repeat' first | assumption | apply canon_ok | apply canon_slotComplete | split)

theorem canon_execFastComparatorEvent (n : Fin 16) (x : Int) (s : State) (hC : s.Canon) : CanonO (execFastComparatorEvent n x s) := by
  unfold execFastComparatorEvent
  with_reducible (repeat' first | assumption | intro _ | ((fail_if_no_progress extract_lets +onlyGivenNames x); (try (refine (fun hx : State.Canon x => ?_ : State.Canon x → _) ?_; (on_goal 1 => clear_value x); (on_goal 2 => unfold x)))) | apply canon_modCh | apply canon_ok | apply canon_fastJudge | split | (fail_if_no_progress (apply canon_upd)))

theorem canon_execDebouncedEdge (n : Fin 16) (level : Bool) (s : State) (hC : s.Canon) : CanonO (execDebouncedEdge n level s) := by
  unfold execDebouncedEdge
  with_reducible (repeat' first | assumption | intro _ | apply canon_ok | apply canon_debounced | apply canon_modCh | split | (fail_if_no_progress (apply canon_upd)))

theorem canon_execDieTempReading (n : Fin 16) (r : DieReport) (s : State) (hC : s.Canon) : CanonO (execDieTempReading n r s) := by
  unfold execDieTempReading
  with_reducible (repeat' first | assumption | intro _ | ((fail_if_no_progress extract_lets +onlyGivenNames x); (try (refine (fun hx : State.Canon x => ?_ : State.Canon x → _) ?_; (on_goal 1 => clear_value x); (on_goal 2 => unfold x)))) | apply canon_setF | apply canon_modCh | apply canon_ok | apply canon_diagSet | apply canon_switchTrip | split | (fail_if_no_progress (apply canon_upd)))

theorem canon_execDacGridPoint (n : Fin 16) (s : State) (hC : s.Canon) : CanonO (execDacGridPoint n s) := by
  unfold execDacGridPoint
  with_reducible (repeat' first | assumption | intro _ | ((fail_if_no_progress extract_lets +onlyGivenNames x); (try (refine (fun hx : State.Canon x => ?_ : State.Canon x → _) ?_; (on_goal 1 => clear_value x); (on_goal 2 => unfold x)))) | apply canon_takeFree | apply canon_ok | apply canon_modCh | split | (refine canon_of_pair (by assumption) ?_))

theorem canon_execBoostUpdate (n : Fin 16) (meas : Nat) (dropout : Bool) (iLimit : Bool) (s : State) (hC : s.Canon) : CanonO (execBoostUpdate n meas dropout iLimit s) := by
  unfold execBoostUpdate
  with_reducible (repeat' first | assumption | intro _ | apply canon_ok | apply canon_modCh | split)

theorem canon_execSwitchThermalShutdown (n : Fin 16) (s : State) (hC : s.Canon) : CanonO (execSwitchThermalShutdown n s) := by
  unfold execSwitchThermalShutdown
  with_reducible (repeat' first | assumption | apply canon_ok | apply canon_switchTrip | split)

theorem canon_execSwitchAutoRestart (n : Fin 16) (s : State) (hC : s.Canon) : CanonO (execSwitchAutoRestart n s) := by
  unfold execSwitchAutoRestart
  with_reducible (repeat' first | assumption | intro _ | ((fail_if_no_progress extract_lets +onlyGivenNames x); (try (refine (fun hx : State.Canon x => ?_ : State.Canon x → _) ?_; (on_goal 1 => clear_value x); (on_goal 2 => unfold x)))) | apply canon_ok | apply canon_modCh | split | (fail_if_no_progress (apply canon_upd)))

theorem canon_execReadbackComplete (n : Fin 16) (value : Int) (iLimit : Bool) (s : State) (hC : s.Canon) : CanonO (execReadbackComplete n value iLimit s) := by
  unfold execReadbackComplete
  with_reducible (repeat' first | assumption | intro _ | ((fail_if_no_progress extract_lets +onlyGivenNames x); (try (refine (fun hx : State.Canon x => ?_ : State.Canon x → _) ?_; (on_goal 1 => clear_value x); (on_goal 2 => unfold x)))) | apply canon_modCh | apply canon_ok | apply canon_rbEvaluate | split | (fail_if_no_progress (apply canon_upd)))

theorem canon_execDiagActivation (n : Fin 16) (b : Fin 11) (s : State) (hC : s.Canon) : CanonO (execDiagActivation n b s) := by
  unfold execDiagActivation
  with_reducible (repeat' first | assumption | apply canon_ok | apply canon_diagSet)

theorem canon_execDiagDeactivation (n : Fin 16) (b : Fin 11) (s : State) (hC : s.Canon) : CanonO (execDiagDeactivation n b s) := by
  unfold execDiagDeactivation
  with_reducible (repeat' first | assumption | apply canon_ok | apply canon_diagClear | split)

/-! ### ChanOps -/

theorem canon_holdOp (s : State) (m : Mach) (op : HeldOp) (hC : s.Canon) : (State.holdOp s m op).Canon := by
  unfold State.holdOp
  with_reducible (repeat' first | assumption | intro _ | apply canon_modMach | (fail_if_no_progress (apply canon_upd)))

theorem canon_flashRecord (a : Nat) (a0 : Nat) (s : State) (hC : s.Canon) : (State.flashRecord a a0 s).2.Canon := by
  induction a0 generalizing a s with
  | zero => unfold State.flashRecord; with_reducible (repeat' first | assumption | apply canon_flashLoad | split | (refine canon_of_pair (by assumption) ?_))
  | succ n ih => unfold State.flashRecord; with_reducible (repeat' first | apply ih | assumption | apply canon_flashLoad | split | (refine canon_of_pair (by assumption) ?_))

theorem canon_recordRead (s : State) (m : Mach) (a : Nat) (hC : s.Canon) : (State.recordRead s m a).2.Canon := by
  unfold State.recordRead
  split
  · extract_lets s1 un po data s2
    have h1 : s1.Canon := canon_eccTouchAll _ _ _ hC
    have h2 : s2.Canon := canon_ite (fun _ => canon_raise _ _ _ h1) (fun _ => h1)
    clear_value s2
    clear_value un po data
    cases un <;> cases po <;> dsimp only <;> (try split) <;> exact h2
  · have h1 := canon_flashRecord a 8 s hC
    split
    · exact canon_of_pair (by assumption) h1
    · exact canon_of_pair (by assumption) h1

theorem canon_chmodeAt (s : State) (m : Mach) (gd : BitVec 5) (n : Fin 16) (a : Nat) (hC : s.Canon) : (State.chmodeAt s m gd n a).Canon := by
  unfold State.chmodeAt
  with_reducible (repeat' first | assumption | intro _ | ((fail_if_no_progress extract_lets +onlyGivenNames x); (try (refine (fun hx : State.Canon x => ?_ : State.Canon x → _) ?_; (on_goal 1 => clear_value x); (on_goal 2 => unfold x)))) | apply canon_alignTrap | apply canon_accessTrap | apply canon_holdOp | apply canon_recordRead | apply canon_still | apply canon_chMode_ | apply canon_setRetire | apply canon_poisonTrap | apply canon_uninitTrap | split | (refine canon_of_pair (by assumption) ?_))

theorem canon_chsetAt (s : State) (m : Mach) (gd : BitVec 5) (n : Fin 16) (i : Nat) (v : Word) (hC : s.Canon) : (State.chsetAt s m gd n i v).Canon := by
  unfold State.chsetAt
  with_reducible (repeat' first | assumption | ((fail_if_no_progress extract_lets +onlyGivenNames x); (try (refine (fun hx : State.Canon x => ?_ : State.Canon x → _) ?_; (on_goal 1 => clear_value x); (on_goal 2 => unfold x)))) | apply canon_chStart | apply canon_chSet | apply canon_setRetire | split | (refine canon_of_pair (by assumption) ?_))

theorem canon_chgetAt (s : State) (m : Mach) (gd : BitVec 5) (n : Fin 16) (i : Nat) (hC : s.Canon) : (State.chgetAt s m gd n i).Canon := by
  unfold State.chgetAt
  with_reducible (repeat' first | assumption | ((fail_if_no_progress extract_lets +onlyGivenNames x); (try (refine (fun hx : State.Canon x => ?_ : State.Canon x → _) ?_; (on_goal 1 => clear_value x); (on_goal 2 => unfold x)))) | apply canon_modCh | apply canon_setRetire | split)

theorem canon_peekEnd (s : State) (m : Mach) (gd : BitVec 5) (v : Word) (status : Word) (hC : s.Canon) : (State.peekEnd s m gd v status).Canon := by
  unfold State.peekEnd
  with_reducible (repeat' first | assumption | apply canon_wg | apply canon_retire)

theorem canon_peek (s : State) (m : Mach) (gd : BitVec 5) (node : Nat) (chan : Nat) (hC : s.Canon) : (State.peek s m gd node chan).Canon := by
  unfold State.peek
  with_reducible (repeat' first | assumption | intro _ | ((fail_if_no_progress extract_lets +onlyGivenNames x); (try (refine (fun hx : State.Canon x => ?_ : State.Canon x → _) ?_; (on_goal 1 => clear_value x); (on_goal 2 => unfold x)))) | apply canon_peekEnd | apply canon_peekAt | apply canon_notePeek | apply canon_originate | apply canon_still | apply canon_modMach | split | (refine canon_of_pair (by assumption) ?_) | (fail_if_no_progress (apply canon_upd)))

theorem canon_onOwned (s : State) (m : Mach) (n : Fin 16) (b : Blk) (op : HeldOp) (f : State → State) (hC : s.Canon) (hf : ∀ (x0 : State), x0.Canon → (f x0).Canon) : (State.onOwned s m n b op f).Canon := by
  unfold State.onOwned
  with_reducible (repeat' first | assumption | intro _ | apply canon_ownerTrap | apply canon_holdOp | apply hf | split)

theorem canon_commitOp (s : State) (m : Mach) (gd : BitVec 5) (mask : Nat) (hC : s.Canon) : (State.commitOp s m gd mask).Canon := by
  unfold State.commitOp
  with_reducible (repeat' first | assumption | intro _ | ((fail_if_no_progress extract_lets +onlyGivenNames x); (try (refine (fun hx : State.Canon x => ?_ : State.Canon x → _) ?_; (on_goal 1 => clear_value x); (on_goal 2 => unfold x)))) | apply canon_ownerTrap | apply canon_holdOp | apply canon_commit | apply canon_still | apply canon_setRetire | split | (refine canon_of_pair (by assumption) ?_))

theorem canon_chanDo (s : State) (m : Mach) (op : HeldOp) (hC : s.Canon) : (State.chanDo s m op).Canon := by
  unfold State.chanDo
  with_reducible (repeat' first | assumption | intro _ | ((fail_if_no_progress extract_lets +onlyGivenNames x); (try (refine (fun hx : State.Canon x => ?_ : State.Canon x → _) ?_; (on_goal 1 => clear_value x); (on_goal 2 => unfold x)))) | apply canon_onOwned | apply canon_chmodeAt | apply canon_chsetAt | apply canon_chgetAt | apply canon_propose | apply canon_still | apply canon_setRetire | apply canon_retract | apply canon_commit | apply canon_commitOp | apply canon_peek | apply canon_holdOp | split | (refine canon_of_pair (by assumption) ?_))

theorem canon_unstall (s : State) (m : Mach) (hC : s.Canon) : (State.unstall s m).Canon := by
  unfold State.unstall
  extract_lets w t
  have ht : t.Canon := canon_modMach _ _ _ hC
  clear_value t w
  split
  · split
    · exact canon_stationAccess _ _ _ _ ht
    · exact canon_coreAccess _ _ _ ht
  · exact canon_chanDo _ _ _ ht
  · exact canon_ite (fun _ => canon_nmiFetch _ _ _ ht) (fun _ => canon_entryFetch _ _ _ _ ht)
  · exact hC

theorem canon_unstallAll (s : State) (hC : s.Canon) : (State.unstallAll s).Canon := by
  unfold State.unstallAll
  with_reducible (repeat' first | assumption | intro _ | apply canon_each | apply canon_unstall | split)

/-! ### Clock -/

theorem canon_advanceTime (s : State) (n : Nat) (hC : s.Canon) : (State.advanceTime s n).Canon := by
  unfold State.advanceTime
  with_reducible (repeat' first | assumption | ((fail_if_no_progress extract_lets +onlyGivenNames x); (try (refine (fun hx : State.Canon x => ?_ : State.Canon x → _) ?_; (on_goal 1 => clear_value x); (on_goal 2 => unfold x)))) | apply canon_offF | split | (fail_if_no_progress (apply canon_upd)))

theorem canon_advance (s : State) (n : Nat) (hC : s.Canon) : (State.advance s n).Canon := by
  unfold State.advance
  with_reducible (repeat' first | assumption | intro _ | ((fail_if_no_progress extract_lets +onlyGivenNames x); (try (refine (fun hx : State.Canon x => ?_ : State.Canon x → _) ?_; (on_goal 1 => clear_value x); (on_goal 2 => unfold x)))) | apply canon_setF | apply canon_each | apply canon_modMach | apply canon_advanceTime | apply canon_whistleFlush | split | (fail_if_no_progress (apply canon_upd)))

theorem canon_advanceTo (s : State) (t : Nat) (hC : s.Canon) : (State.advanceTo s t).Canon := by
  unfold State.advanceTo
  with_reducible (repeat' first | assumption | apply canon_advance | split)

/-! ### CrcuCmd -/

theorem canon_execCuClaim (u : Fin 4) (s : State) (hC : s.Canon) : CanonO (execCuClaim u s) := by
  unfold execCuClaim
  with_reducible (repeat' first | assumption | apply canon_ok | apply canon_cuClaim | split)

theorem canon_execCuRelease (u : Fin 4) (s : State) (hC : s.Canon) : CanonO (execCuRelease u s) := by
  unfold execCuRelease
  with_reducible (repeat' first | assumption | apply canon_ok | apply canon_cuRelease | apply canon_shPumpAll | split)

theorem canon_execCuStart (u : Fin 4) (by_ : Agent) (s : State) (hC : s.Canon) : CanonO (execCuStart u by_ s) := by
  unfold execCuStart
  with_reducible (repeat' first | assumption | apply canon_ok | apply canon_cuStart | split)

theorem canon_execCuFold (u : Fin 4) (by_ : Agent) (s : State) (hC : s.Canon) : CanonO (execCuFold u by_ s) := by
  unfold execCuFold
  with_reducible (repeat' first | assumption | apply canon_ok | apply canon_cuFold | split)

theorem canon_execCuData8Write (u : Fin 4) (by_ : Agent) (v : Word) (s : State) (hC : s.Canon) : CanonO (execCuData8Write u by_ v s) := by
  unfold execCuData8Write
  with_reducible (repeat' first | assumption | apply canon_ok | apply canon_cuData | split)

theorem canon_execCuData16Write (u : Fin 4) (by_ : Agent) (v : Word) (s : State) (hC : s.Canon) : CanonO (execCuData16Write u by_ v s) := by
  unfold execCuData16Write
  with_reducible (repeat' first | assumption | apply canon_ok | apply canon_cuData | split)

theorem canon_execCuData32Write (u : Fin 4) (by_ : Agent) (v : Word) (s : State) (hC : s.Canon) : CanonO (execCuData32Write u by_ v s) := by
  unfold execCuData32Write
  with_reducible (repeat' first | assumption | apply canon_ok | apply canon_cuData | split)

/-! ### Debug -/

theorem canon_dbgResult (s : State) (status : Nat) (detail : Nat) (data : Word) (hC : s.Canon) : (State.dbgResult s status detail data).Canon := by
  unfold State.dbgResult
  with_reducible (repeat' first | assumption | (fail_if_no_progress (apply canon_upd)))

theorem canon_dbgCmd (s : State) (f : State → State) (hC : s.Canon) (hf : ∀ (x0 : State), x0.Canon → (f x0).Canon) : (State.dbgCmd s f).Canon := by
  unfold State.dbgCmd
  with_reducible (repeat' first | assumption | intro _ | ((fail_if_no_progress extract_lets +onlyGivenNames x); (try (refine (fun hx : State.Canon x => ?_ : State.Canon x → _) ?_; (on_goal 1 => clear_value x); (on_goal 2 => unfold x)))) | apply hf | split | (fail_if_no_progress (apply canon_upd)))

theorem canon_dbgRead (s : State) (a : Nat) (hC : s.Canon) : (State.dbgRead s a).Canon := by
  unfold State.dbgRead
  with_reducible (repeat' first | assumption | apply canon_fabRead | apply canon_dbgResult | apply canon_raise | split | (refine canon_of_pair (by assumption) ?_))

theorem canon_dbgWrite (s : State) (a : Nat) (v : Word) (hC : s.Canon) : (State.dbgWrite s a v).Canon := by
  unfold State.dbgWrite
  with_reducible (repeat' first | assumption | apply canon_fabWrite | apply canon_dbgResult | apply canon_raise | split | (refine canon_of_pair (by assumption) ?_))

theorem canon_dbgPerform (s : State) (write : Bool) (a : Nat) (v : Word) (hC : s.Canon) : (State.dbgPerform s write a v).Canon := by
  unfold State.dbgPerform
  with_reducible (repeat' first | assumption | apply canon_dbgWrite | apply canon_dbgRead | split)

theorem canon_dbgAccess (s : State) (write : Bool) (a : Nat) (v : Word) (hC : s.Canon) : (State.dbgAccess s write a v).Canon := by
  unfold State.dbgAccess
  with_reducible (repeat' first | assumption | apply canon_dbgResult | apply canon_dbgPerform | split | (fail_if_no_progress (apply canon_upd)))

theorem canon_dbgRetry (s : State) (hC : s.Canon) : (State.dbgRetry s).Canon := by
  unfold State.dbgRetry
  with_reducible (repeat' first | assumption | apply canon_dbgPerform | split | (refine canon_of_pair (by assumption) ?_))

theorem canon_drainLog (s : State) (t : Triad) (hC : s.Canon) : (State.drainLog s t).Canon := by
  unfold State.drainLog
  with_reducible (repeat' first | assumption | intro _ | apply canon_modTri | apply canon_offF | (fail_if_no_progress (apply canon_upd)))

theorem canon_dbgResume (s : State) (t : Triad) (hC : s.Canon) : (State.dbgResume s t).Canon := by
  unfold State.dbgResume
  with_reducible (repeat' first | assumption | intro _ | ((fail_if_no_progress extract_lets +onlyGivenNames x); (try (refine (fun hx : State.Canon x => ?_ : State.Canon x → _) ?_; (on_goal 1 => clear_value x); (on_goal 2 => unfold x)))) | apply canon_drainLog | apply canon_offF | apply canon_each | apply canon_modMach | apply canon_modTri | (fail_if_no_progress (apply canon_upd)))

theorem canon_detach (s : State) (t : Triad) (hC : s.Canon) : (State.detach s t).Canon := by
  unfold State.detach
  with_reducible (repeat' first | assumption | apply canon_dbgResume | apply canon_offF)

theorem canon_logStep (s : State) (t : Triad) (hC : s.Canon) : (State.logStep s t).Canon := by
  unfold State.logStep
  with_reducible (repeat' first | assumption | intro _ | apply canon_modTri | split | (fail_if_no_progress (apply canon_upd)))

theorem canon_dbgStep (s : State) (t : Triad) (hC : s.Canon) : (State.dbgStep s t).Canon := by
  unfold State.dbgStep
  with_reducible (repeat' first | assumption | intro _ | apply canon_each | apply canon_modMach | apply canon_logStep | apply canon_drainLog | (fail_if_no_progress (apply canon_upd)))

theorem canon_dbgRegWrite (s : State) (m : Mach) (code : Nat) (v : Word) (hC : s.Canon) : (State.dbgRegWrite s m code v).Canon := by
  unfold State.dbgRegWrite
  with_reducible (repeat' first | assumption | ((fail_if_no_progress extract_lets +onlyGivenNames x); (try (refine (fun hx : State.Canon x => ?_ : State.Canon x → _) ?_; (on_goal 1 => clear_value x); (on_goal 2 => unfold x)))) | apply canon_wg | apply canon_wc | apply canon_setPc | split)

theorem canon_dbgRegLog (s : State) (t : Triad) (x1 : Bool) (code : Nat) (v : Word) (hC : s.Canon) : (State.dbgRegLog s t x1 code v).Canon := by
  unfold State.dbgRegLog
  with_reducible (repeat' first | assumption | intro _ | ((fail_if_no_progress extract_lets +onlyGivenNames x); (try (refine (fun hx : State.Canon x => ?_ : State.Canon x → _) ?_; (on_goal 1 => clear_value x); (on_goal 2 => unfold x)))) | apply canon_dbgRegWrite | apply canon_dbgResult | apply canon_onF | apply canon_modTri | apply canon_setF | split | (fail_if_no_progress (apply canon_upd)))

theorem canon_execTapReset (s : State) (hC : s.Canon) : CanonO (execTapReset s) := by
  unfold execTapReset
  with_reducible (repeat' first | assumption | apply canon_ok | apply canon_detach | split | (fail_if_no_progress (apply canon_upd)))

theorem canon_execDebugNop (s : State) (hC : s.Canon) : CanonO (execDebugNop s) :=
  canon_ok _ (canon_dbgCmd _ _ hC fun _ h => h)

theorem canon_execDebugRead (a : Word) (s : State) (hC : s.Canon) : CanonO (execDebugRead a s) := by
  unfold execDebugRead
  with_reducible (repeat' first | assumption | intro _ | apply canon_ok | apply canon_dbgCmd | apply canon_dbgAccess)

theorem canon_execDebugWrite (a : Word) (v : Word) (s : State) (hC : s.Canon) : CanonO (execDebugWrite a v s) := by
  unfold execDebugWrite
  with_reducible (repeat' first | assumption | intro _ | apply canon_ok | apply canon_dbgCmd | apply canon_dbgAccess)

theorem canon_execDebugAttach (t : Triad) (s : State) (hC : s.Canon) : CanonO (execDebugAttach t s) := by
  unfold execDebugAttach
  with_reducible (repeat' first | assumption | intro _ | apply canon_ok | apply canon_dbgCmd | apply canon_onF | apply canon_dbgResult)

theorem canon_execDebugDetach (t : Triad) (s : State) (hC : s.Canon) : CanonO (execDebugDetach t s) := by
  unfold execDebugDetach
  with_reducible (repeat' first | assumption | intro _ | apply canon_ok | apply canon_dbgCmd | apply canon_detach | apply canon_dbgResult)

theorem canon_execDebugHalt (t : Triad) (s : State) (hC : s.Canon) : CanonO (execDebugHalt t s) := by
  unfold execDebugHalt
  with_reducible (repeat' first | assumption | intro _ | apply canon_ok | apply canon_dbgCmd | apply canon_haltRequest | apply canon_dbgResult | split)

theorem canon_execDebugResume (t : Triad) (s : State) (hC : s.Canon) : CanonO (execDebugResume t s) := by
  unfold execDebugResume
  with_reducible (repeat' first | assumption | intro _ | apply canon_ok | apply canon_dbgCmd | apply canon_dbgResume | apply canon_dbgResult)

theorem canon_execDebugStep (t : Triad) (s : State) (hC : s.Canon) : CanonO (execDebugStep t s) := by
  unfold execDebugStep
  with_reducible (repeat' first | assumption | intro _ | apply canon_ok | apply canon_dbgCmd | apply canon_dbgStep | apply canon_dbgResult | split)

theorem canon_execDebugRegRead (t : Triad) (x1 : Bool) (code : BitVec 8) (s : State) (hC : s.Canon) : CanonO (execDebugRegRead t x1 code s) := by
  unfold execDebugRegRead
  with_reducible (repeat' first | assumption | intro _ | apply canon_ok | apply canon_dbgCmd | apply canon_dbgResult | split | (refine canon_of_pair (by assumption) ?_))

theorem canon_execDebugRegWrite (t : Triad) (x1 : Bool) (code : BitVec 8) (v : Word) (s : State) (hC : s.Canon) : CanonO (execDebugRegWrite t x1 code v s) := by
  unfold execDebugRegWrite
  with_reducible (repeat' first | assumption | intro _ | apply canon_ok | apply canon_dbgCmd | apply canon_dbgRegLog | apply canon_dbgResult | split)

theorem canon_execDebugChipReset (v : Word) (s : State) (hC : s.Canon) : CanonO (execDebugChipReset v s) := by
  unfold execDebugChipReset
  repeat' first | with_reducible assumption | intro _ | ((fail_if_no_progress extract_lets +onlyGivenNames x); first | (refine (fun hx : State.Canon x => ?_ : State.Canon x → _) ?_; (on_goal 1 => clear_value x); (on_goal 2 => unfold x)) | (refine (fun hx : State.Canon x.2 => ?_ : State.Canon x.2 → _) ?_; (on_goal 1 => clear_value x); (on_goal 2 => unfold x)) | skip) | with_reducible apply canon_ok | with_reducible apply canon_dbgCmd | with_reducible apply canon_dbgResult | with_reducible apply canon_onF | with_reducible apply canon_chipReset | with_reducible apply canonO_nextI | split | (with_reducible refine canon_of_pair (by assumption) ?_) | (with_reducible refine canon_of_triple (by assumption) ?_) | (fail_if_no_progress (with_reducible apply canon_upd)) | (fail_if_no_progress beta_reduce) | (fail_if_no_progress dsimp only) | (fail_if_no_progress dsimp +zetaDelta only)

/-! ### LaneCmd -/

theorem canon_laneStep (s : State) (n : Fin 16) (op : Nat) (f : Word → State → State) (hC : s.Canon) (hf : ∀ (x0 : Word) (x1 : State), x1.Canon → (f x0 x1).Canon) : CanonO (State.laneStep s n op f) := by
  unfold State.laneStep
  with_reducible (repeat' first | assumption | intro _ | apply canon_ok | apply hf | split | (refine canon_of_pair (by assumption) ?_))

theorem canon_laneSet (s : State) (n : Fin 16) (op : Nat) (f : Word → State → Word) (hC : s.Canon) : CanonO (State.laneSet s n op f) := by
  unfold State.laneSet
  with_reducible (repeat' first | assumption | intro _ | apply canon_laneStep | apply canon_wv | apply canon_laneNext)

theorem canon_execLaneRun (n : Fin 16) (s : State) (hC : s.Canon) : CanonO (execLaneRun n s) := by
  unfold execLaneRun
  with_reducible (repeat' first | assumption | apply canon_ok | apply canon_rfxCtrl | split)

theorem canon_execLaneStop (n : Fin 16) (s : State) (hC : s.Canon) : CanonO (execLaneStop n s) := by
  unfold execLaneStop
  with_reducible (repeat' first | assumption | apply canon_ok | apply canon_rfxCtrl | split)

theorem canon_execLaneNop (n : Fin 16) (s : State) (hC : s.Canon) : CanonO (execLaneNop n s) := by
  unfold execLaneNop
  with_reducible (repeat' first | assumption | intro _ | apply canon_laneStep | apply canon_laneNext)

theorem canon_execLaneLdi (n : Fin 16) (s : State) (hC : s.Canon) : CanonO (execLaneLdi n s) := by
  unfold execLaneLdi
  with_reducible (repeat' first | assumption | intro _ | apply canon_laneSet)

theorem canon_execLaneLdh (n : Fin 16) (s : State) (hC : s.Canon) : CanonO (execLaneLdh n s) := by
  unfold execLaneLdh
  with_reducible (repeat' first | assumption | intro _ | apply canon_laneSet)

theorem canon_execLaneAddi (n : Fin 16) (s : State) (hC : s.Canon) : CanonO (execLaneAddi n s) := by
  unfold execLaneAddi
  with_reducible (repeat' first | assumption | intro _ | apply canon_laneSet)

theorem canon_execLaneAdd (n : Fin 16) (s : State) (hC : s.Canon) : CanonO (execLaneAdd n s) := by
  unfold execLaneAdd
  with_reducible (repeat' first | assumption | intro _ | apply canon_laneSet)

theorem canon_execLaneSub (n : Fin 16) (s : State) (hC : s.Canon) : CanonO (execLaneSub n s) := by
  unfold execLaneSub
  with_reducible (repeat' first | assumption | intro _ | apply canon_laneSet)

theorem canon_execLaneBr (n : Fin 16) (s : State) (hC : s.Canon) : CanonO (execLaneBr n s) := by
  unfold execLaneBr
  with_reducible (repeat' first | assumption | intro _ | apply canon_laneStep | apply canon_setF | apply canon_laneNext | split)

theorem canon_execLaneWait (n : Fin 16) (s : State) (hC : s.Canon) : CanonO (execLaneWait n s) := by
  unfold execLaneWait
  with_reducible (repeat' first | assumption | intro _ | apply canon_laneStep | apply canon_waitDone | apply canon_setLane | split | (refine canon_of_pair (by assumption) ?_) | (fail_if_no_progress (apply canon_upd)))

theorem canon_execLaneWaitRelease (n : Fin 16) (s : State) (hC : s.Canon) : CanonO (execLaneWaitRelease n s) := by
  unfold execLaneWaitRelease
  with_reducible (repeat' first | assumption | apply canon_ok | apply canon_waitDone | split | (refine canon_of_pair (by assumption) ?_))

theorem canon_laneActKind (s : State) (n : Fin 16) (kind : Nat) (hC : s.Canon) : CanonO (State.laneActKind s n kind) := by
  unfold State.laneActKind
  with_reducible (repeat' first | assumption | apply canon_ok | apply canon_laneAct | apply canon_laneNext | split | (refine canon_of_pair (by assumption) ?_))

theorem canon_execLaneActOff (n : Fin 16) (s : State) (hC : s.Canon) : CanonO (execLaneActOff n s) := by
  unfold execLaneActOff
  with_reducible (repeat' first | assumption | apply canon_laneActKind)

theorem canon_execLaneActOn (n : Fin 16) (s : State) (hC : s.Canon) : CanonO (execLaneActOn n s) := by
  unfold execLaneActOn
  with_reducible (repeat' first | assumption | apply canon_laneActKind)

theorem canon_execLaneActSet (n : Fin 16) (s : State) (hC : s.Canon) : CanonO (execLaneActSet n s) := by
  unfold execLaneActSet
  with_reducible (repeat' first | assumption | apply canon_laneActKind)

theorem canon_execLaneActRefuge (n : Fin 16) (s : State) (hC : s.Canon) : CanonO (execLaneActRefuge n s) := by
  unfold execLaneActRefuge
  with_reducible (repeat' first | assumption | apply canon_laneActKind)

theorem canon_execLaneActConv (n : Fin 16) (s : State) (hC : s.Canon) : CanonO (execLaneActConv n s) := by
  unfold execLaneActConv
  with_reducible (repeat' first | assumption | apply canon_laneActKind)

theorem canon_execLaneWhistle (n : Fin 16) (s : State) (hC : s.Canon) : CanonO (execLaneWhistle n s) := by
  unfold execLaneWhistle
  with_reducible (repeat' first | assumption | intro _ | apply canon_laneStep | apply canon_laneWhistle | apply canon_laneNext)

theorem canon_execLaneTime (n : Fin 16) (s : State) (hC : s.Canon) : CanonO (execLaneTime n s) := by
  unfold execLaneTime
  with_reducible (repeat' first | assumption | intro _ | apply canon_laneSet)

theorem canon_execLaneDelay (n : Fin 16) (s : State) (hC : s.Canon) : CanonO (execLaneDelay n s) := by
  unfold execLaneDelay
  with_reducible (repeat' first | assumption | intro _ | apply canon_laneStep | apply canon_setLane | (fail_if_no_progress (apply canon_upd)))

theorem canon_execLaneDelayExpiry (n : Fin 16) (s : State) (hC : s.Canon) : CanonO (execLaneDelayExpiry n s) := by
  unfold execLaneDelayExpiry
  with_reducible (repeat' first | assumption | ((fail_if_no_progress extract_lets +onlyGivenNames x); (try (refine (fun hx : State.Canon x => ?_ : State.Canon x → _) ?_; (on_goal 1 => clear_value x); (on_goal 2 => unfold x)))) | apply canon_advance | apply canon_ok | apply canon_setLane | apply canon_laneNext | split | (refine canon_of_pair (by assumption) ?_) | (fail_if_no_progress (apply canon_upd)))

theorem canon_execLaneRead (n : Fin 16) (s : State) (hC : s.Canon) : CanonO (execLaneRead n s) := by
  unfold execLaneRead
  with_reducible (repeat' first | assumption | intro _ | ((fail_if_no_progress extract_lets +onlyGivenNames x); (try (refine (fun hx : State.Canon x => ?_ : State.Canon x → _) ?_; (on_goal 1 => clear_value x); (on_goal 2 => unfold x)))) | apply canon_laneSet | split | (refine canon_of_pair (by assumption) ?_))

theorem canon_execLaneNote (n : Fin 16) (s : State) (hC : s.Canon) : CanonO (execLaneNote n s) := by
  unfold execLaneNote
  with_reducible (repeat' first | assumption | intro _ | apply canon_laneStep | apply canon_setF | apply canon_onF | apply canon_laneNext)

theorem canon_execLaneClr (n : Fin 16) (s : State) (hC : s.Canon) : CanonO (execLaneClr n s) := by
  unfold execLaneClr
  with_reducible (repeat' first | assumption | intro _ | apply canon_laneStep | apply canon_setR | apply canon_laneNext)

theorem canon_execLaneHalt (n : Fin 16) (s : State) (hC : s.Canon) : CanonO (execLaneHalt n s) := by
  unfold execLaneHalt
  with_reducible (repeat' first | assumption | intro _ | apply canon_laneStep | apply canon_offF)

theorem canon_execReflexActionArrival (s : State) (hC : s.Canon) : CanonO (execReflexActionArrival s) := by
  unfold execReflexActionArrival
  with_reducible (repeat' first | assumption | apply canon_ok | apply canon_flightArrive | split)

theorem canon_execLaneCompareFault (n : Fin 16) (s : State) (hC : s.Canon) : CanonO (execLaneCompareFault n s) := by
  unfold execLaneCompareFault
  with_reducible (repeat' first | assumption | ((fail_if_no_progress extract_lets +onlyGivenNames x); (try (refine (fun hx : State.Canon x => ?_ : State.Canon x → _) ?_; (on_goal 1 => clear_value x); (on_goal 2 => unfold x)))) | apply canon_setF | apply canon_setLane | apply canon_ok | apply canon_raise | split | (fail_if_no_progress (apply canon_upd)))

theorem canon_execWhistleReceive (p : Port) (m : WhistleMsg) (s : State) (hC : s.Canon) : CanonO (execWhistleReceive p m s) := by
  unfold execWhistleReceive
  with_reducible (repeat' first | assumption | apply canon_ok | apply canon_whistleIn | split)

/-! ### PatrolCmd -/

theorem canon_execWalkerVisit (u : Upset) (s : State) (hC : s.Canon) : CanonO (execWalkerVisit u s) := by
  unfold execWalkerVisit
  with_reducible (repeat' first | assumption | ((fail_if_no_progress extract_lets +onlyGivenNames x); (try (refine (fun hx : State.Canon x => ?_ : State.Canon x → _) ?_; (on_goal 1 => clear_value x); (on_goal 2 => unfold x)))) | apply canon_upset | apply canon_ok | apply canon_setF | apply canon_walk | split)

theorem canon_execPatrolPeriodEnd (s : State) (hC : s.Canon) : CanonO (execPatrolPeriodEnd s) := by
  unfold execPatrolPeriodEnd
  with_reducible (repeat' first | assumption | ((fail_if_no_progress extract_lets +onlyGivenNames x); (try (refine (fun hx : State.Canon x => ?_ : State.Canon x → _) ?_; (on_goal 1 => clear_value x); (on_goal 2 => unfold x)))) | apply canon_setF | apply canon_offF | apply canon_ok | apply canon_raise | split | (fail_if_no_progress (apply canon_upd)))

theorem canon_execPtLogRead (s : State) (hC : s.Canon) : CanonO (execPtLogRead s) := by
  unfold execPtLogRead
  with_reducible (repeat' first | assumption | apply canon_ok | apply canon_ptLogRead | split)

/-! ### PoolCmd -/

theorem canon_execPlAllocRead (by_ : Agent) (s : State) (hC : s.Canon) : CanonO (execPlAllocRead by_ s) := by
  unfold execPlAllocRead
  with_reducible (repeat' first | assumption | apply canon_ok | apply canon_plAlloc | split)

theorem canon_execPlFreeWrite (by_ : Agent) (v : Word) (s : State) (hC : s.Canon) : CanonO (execPlFreeWrite by_ v s) := by
  unfold execPlFreeWrite
  with_reducible (repeat' first | assumption | apply canon_ok | apply canon_plFree | split)

theorem canon_execPlGiveWrite (by_ : Agent) (v : Word) (s : State) (hC : s.Canon) : CanonO (execPlGiveWrite by_ v s) := by
  unfold execPlGiveWrite
  with_reducible (repeat' first | assumption | apply canon_ok | apply canon_plGive | split)

theorem canon_execPlReclaimWrite (by_ : Agent) (v : Word) (s : State) (hC : s.Canon) : CanonO (execPlReclaimWrite by_ v s) := by
  unfold execPlReclaimWrite
  with_reducible (repeat' first | assumption | apply canon_ok | apply canon_plReclaim | split)

theorem canon_execWagonMarkComplete (s : State) (hC : s.Canon) : CanonO (execWagonMarkComplete s) := by
  unfold execWagonMarkComplete
  with_reducible (repeat' first | assumption | apply canon_ok | apply canon_plMarked | split)

theorem canon_execPlBaseWrite (v : Word) (s : State) (hC : s.Canon) : CanonO (execPlBaseWrite v s) := by
  unfold execPlBaseWrite
  with_reducible (repeat' first | assumption | apply canon_ok | apply canon_plCfgWrite | split)

theorem canon_execPoolSweepComplete (s : State) (hC : s.Canon) : CanonO (execPoolSweepComplete s) := by
  unfold execPoolSweepComplete
  with_reducible (repeat' first | assumption | apply canon_ok | apply canon_plSwept | split)

/-! ### Power -/

theorem canon_modPwr (s : State) (f : PowerH → PowerH) (hC : s.Canon) : (State.modPwr s f).Canon := by
  unfold State.modPwr
  with_reducible (repeat' first | assumption | (fail_if_no_progress (apply canon_upd)))

theorem canon_powerFail (s : State) (hC : s.Canon) : (State.powerFail s).Canon := by
  unfold State.powerFail
  with_reducible (repeat' first | assumption | intro _ | ((fail_if_no_progress extract_lets +onlyGivenNames x); (try (refine (fun hx : State.Canon x => ?_ : State.Canon x → _) ?_; (on_goal 1 => clear_value x); (on_goal 2 => unfold x)))) | apply canon_modPwr | apply canon_withdrawAll | apply canon_each | apply canon_modCh | apply canon_raise | split | (fail_if_no_progress (apply canon_upd)))

theorem canon_powerOff (s : State) (hC : s.Canon) : (State.powerOff s).Canon := by
  unfold State.powerOff
  with_reducible (repeat' first | assumption | apply canon_calInterrupt | apply canon_powerOnReset | (fail_if_no_progress (apply canon_upd)))

theorem canon_showStraps (s : State) (hC : s.Canon) : (State.showStraps s).Canon := by
  unfold State.showStraps
  with_reducible (repeat' first | assumption | ((fail_if_no_progress extract_lets +onlyGivenNames x); (try (refine (fun hx : State.Canon x => ?_ : State.Canon x → _) ?_; (on_goal 1 => clear_value x); (on_goal 2 => unfold x)))) | apply canon_setR | apply canon_boot)

theorem canon_applyFuses (s : State) (hC : s.Canon) : (State.applyFuses s).Canon := by
  unfold State.applyFuses
  with_reducible (repeat' first | assumption | ((fail_if_no_progress extract_lets +onlyGivenNames x); (try (refine (fun hx : State.Canon x => ?_ : State.Canon x → _) ?_; (on_goal 1 => clear_value x); (on_goal 2 => unfold x)))) | apply canon_sbLock | apply canon_onF | apply canon_setF | split)

theorem canon_flashLoads (a : Nat) (a0 : Nat) (s : State) (hC : s.Canon) : (State.flashLoads a a0 s).2.Canon := by
  induction a0 generalizing a s with
  | zero => unfold State.flashLoads; with_reducible (repeat' first | assumption | ((fail_if_no_progress extract_lets +onlyGivenNames x); (try (refine (fun hx : State.Canon x => ?_ : State.Canon x → _) ?_; (on_goal 1 => clear_value x); (on_goal 2 => unfold x)))) | apply canon_flashLoad | split | (refine canon_of_pair (by assumption) ?_))
  | succ n ih => unfold State.flashLoads; with_reducible (repeat' first | apply ih | assumption | ((fail_if_no_progress extract_lets +onlyGivenNames x); (try (refine (fun hx : State.Canon x => ?_ : State.Canon x → _) ?_; (on_goal 1 => clear_value x); (on_goal 2 => unfold x)))) | apply canon_flashLoad | split | (refine canon_of_pair (by assumption) ?_))

theorem canon_loadNodeId (s : State) (hC : s.Canon) : (State.loadNodeId s).Canon := by
  unfold State.loadNodeId
  with_reducible (repeat' first | assumption | ((fail_if_no_progress extract_lets +onlyGivenNames x); (try (refine (fun hx : State.Canon x => ?_ : State.Canon x → _) ?_; (on_goal 1 => clear_value x); (on_goal 2 => unfold x)))) | apply canon_flashLoads | apply canon_setF | apply canon_offF | apply canon_onF | split | (refine canon_of_pair (by assumption) ?_))

theorem canon_strapRegs (s : State) (hC : s.Canon) : (State.strapRegs s).Canon := by
  unfold State.strapRegs
  with_reducible (repeat' first | assumption | intro _ | ((fail_if_no_progress extract_lets +onlyGivenNames x); (try (refine (fun hx : State.Canon x => ?_ : State.Canon x → _) ?_; (on_goal 1 => clear_value x); (on_goal 2 => unfold x)))) | apply canon_each | apply canon_setR | apply canon_setF)

theorem canon_startBoot (s : State) (hC : s.Canon) : (State.startBoot s).Canon := by
  unfold State.startBoot
  with_reducible (repeat' first | assumption | apply canon_boot | apply canon_onF | split | (refine canon_of_pair (by assumption) ?_))

theorem canon_releaseRaises (s : State) (hC : s.Canon) : (State.releaseRaises s).Canon := by
  unfold State.releaseRaises
  extract_lets one a b s1
  have h0 : ∀ p e t (x : State), x.Canon → (one p e t x).Canon := by
    intro p e t x hx
    unfold one
    extract_lets y
    have hy : y.Canon := by
      unfold y
      split
      · exact canon_raise _ _ _ hx
      · exact hx
    split
    · exact canon_raise _ _ _ hy
    · exact hy
  have h1 : s1.Canon := h0 _ _ _ _ (h0 _ _ _ _ hC)
  split
  · exact h1
  · exact canon_raise _ _ _ h1

theorem canon_release (s : State) (straps : Straps) (hC : s.Canon) : (State.release s straps).Canon := by
  unfold State.release
  with_reducible (repeat' first | assumption | intro _ | ((fail_if_no_progress extract_lets +onlyGivenNames x); (try (refine (fun hx : State.Canon x => ?_ : State.Canon x → _) ?_; (on_goal 1 => clear_value x); (on_goal 2 => unfold x)))) | apply canon_modPwr | apply canon_showStraps | apply canon_applyFuses | apply canon_strapRegs | apply canon_loadNodeId | apply canon_showVolume | apply canon_topoUpdate | apply canon_enterRefuge | apply canon_startBoot | apply canon_releaseRaises | apply canon_dbgRetry | apply canon_raise | apply canon_foldl | split | (fail_if_no_progress (apply canon_upd)))

theorem canon_loadHealMap (s : State) (l : List HealMap) (hC : s.Canon) : (State.loadHealMap s l).Canon := by
  unfold State.loadHealMap
  with_reducible (repeat' first | assumption | intro _ | apply canon_each | apply canon_setF)

theorem canon_copyRegion (h : HealMap) (s : State) (hC : s.Canon) : (State.copyRegion h s).Canon := by
  unfold State.copyRegion
  with_reducible (repeat' first | assumption | intro _ | apply canon_each | apply canon_foldl | apply canon_healWord | apply canon_healFold)

theorem canon_startMachs (s : State) (i : BootImage) (hC : s.Canon) : (State.startMachs s i).Canon := by
  unfold State.startMachs
  with_reducible (repeat' first | assumption | intro _ | apply canon_each | apply canon_modMach | split | (refine canon_of_pair (by assumption) ?_) | (fail_if_no_progress (apply canon_upd)))

theorem canon_bootEnd (s : State) (i : BootImage) (r : Nat) (source : Nat) (hC : s.Canon) : (State.bootEnd s i r source).Canon := by
  unfold State.bootEnd
  with_reducible (repeat' first | assumption | ((fail_if_no_progress extract_lets +onlyGivenNames x); (try (refine (fun hx : State.Canon x => ?_ : State.Canon x → _) ?_; (on_goal 1 => clear_value x); (on_goal 2 => unfold x)))) | apply canon_setR | apply canon_offF | apply canon_each | apply canon_copyRegion | apply canon_loadHealMap | apply canon_startMachs | apply canon_tlStart | split | (fail_if_no_progress (apply canon_upd)))

theorem canon_boot (s : State) (i : BootImage) (hC : s.Canon) : (State.boot s i).Canon := by
  unfold State.boot
  with_reducible (repeat' first | assumption | ((fail_if_no_progress extract_lets +onlyGivenNames x); (try (refine (fun hx : State.Canon x => ?_ : State.Canon x → _) ?_; (on_goal 1 => clear_value x); (on_goal 2 => unfold x)))) | apply canon_bootEnd | apply canon_loaded | apply canon_onF | split | (refine canon_of_pair (by assumption) ?_))

theorem canon_afterRelease (s : State) (a0 : Blk) (hC : s.Canon) : (State.afterRelease s a0).Canon := by
  unfold State.afterRelease
  repeat' first | with_reducible assumption | with_reducible apply canon_chanRelease | with_reducible apply canon_showVolume | with_reducible apply canon_topoUpdate | with_reducible apply canon_plSweep | with_reducible apply canon_shPumpAll | split | (with_reducible refine canon_of_pair (by assumption) ?_) | (with_reducible refine canon_of_triple (by assumption) ?_) | (fail_if_no_progress (with_reducible apply canon_upd)) | (fail_if_no_progress beta_reduce) | (fail_if_no_progress dsimp only) | (fail_if_no_progress dsimp +zetaDelta only)

theorem canon_leaveReset (s : State) (b : Blk) (hC : s.Canon) : (State.leaveReset s b).Canon := by
  unfold State.leaveReset
  with_reducible (repeat' first | assumption | ((fail_if_no_progress extract_lets +onlyGivenNames x); (try (refine (fun hx : State.Canon x => ?_ : State.Canon x → _) ?_; (on_goal 1 => clear_value x); (on_goal 2 => unfold x)))) | apply canon_triadRelease | apply canon_unstallAll | apply canon_dbgRetry | apply canon_clrRstBit | apply canon_afterRelease | split | (refine canon_of_pair (by assumption) ?_) | (fail_if_no_progress (apply canon_upd)))

theorem canon_startDeferred (s : State) (b : Blk) (hC : s.Canon) : (State.startDeferred s b).Canon := by
  unfold State.startDeferred
  with_reducible (repeat' first | assumption | ((fail_if_no_progress extract_lets +onlyGivenNames x); (try (refine (fun hx : State.Canon x => ?_ : State.Canon x → _) ?_; (on_goal 1 => clear_value x); (on_goal 2 => unfold x)))) | apply canon_startReset | split | (refine canon_of_pair (by assumption) ?_) | (fail_if_no_progress (apply canon_upd)))

theorem canon_healDone (s : State) (hC : s.Canon) : (State.healDone s).Canon := by
  unfold State.healDone
  with_reducible (repeat' first | assumption | ((fail_if_no_progress extract_lets +onlyGivenNames x); (try (refine (fun hx : State.Canon x => ?_ : State.Canon x → _) ?_; (on_goal 1 => clear_value x); (on_goal 2 => unfold x)))) | apply canon_offF | apply canon_healPage | apply canon_startDeferred | apply canon_unstallAll | apply canon_dbgRetry | split | (refine canon_of_pair (by assumption) ?_) | (fail_if_no_progress (apply canon_upd)))

/-! ### PowerCmd -/

theorem canon_execIntakeValid (i : Intake) (s : State) (hC : s.Canon) : CanonO (execIntakeValid i s) := by
  unfold execIntakeValid
  with_reducible (repeat' first | assumption | intro _ | apply canon_ok | apply canon_modPwr | split)

theorem canon_execIntakeInvalid (i : Intake) (s : State) (hC : s.Canon) : CanonO (execIntakeInvalid i s) := by
  unfold execIntakeInvalid
  with_reducible (repeat' first | assumption | intro _ | ((fail_if_no_progress extract_lets +onlyGivenNames x); (try (refine (fun hx : State.Canon x => ?_ : State.Canon x → _) ?_; (on_goal 1 => clear_value x); (on_goal 2 => unfold x)))) | apply canon_ok | apply canon_modPwr | apply canon_raise | split)

theorem canon_execPowerFailStart (lost : Option Intake) (s : State) (hC : s.Canon) : CanonO (execPowerFailStart lost s) := by
  unfold execPowerFailStart
  with_reducible (repeat' first | assumption | intro _ | ((fail_if_no_progress extract_lets +onlyGivenNames x); (try (refine (fun hx : State.Canon x => ?_ : State.Canon x → _) ?_; (on_goal 1 => clear_value x); (on_goal 2 => unfold x)))) | apply canon_ok | apply canon_powerFail | apply canon_modPwr | split | (refine canon_of_pair (by assumption) ?_))

theorem canon_execHoldUpEnd (s : State) (hC : s.Canon) : CanonO (execHoldUpEnd s) := by
  unfold execHoldUpEnd
  with_reducible (repeat' first | assumption | apply canon_ok | apply canon_powerOff | split)

theorem canon_execIntakeReturnReset (s : State) (hC : s.Canon) : CanonO (execIntakeReturnReset s) := by
  unfold execIntakeReturnReset
  with_reducible (repeat' first | assumption | apply canon_ok | apply canon_calInterrupt | apply canon_powerOnReset | split)

theorem canon_execVioInLost (f : SlaveFrame) (s : State) (hC : s.Canon) : CanonO (execVioInLost f s) := by
  unfold execVioInLost
  with_reducible (repeat' first | assumption | intro _ | ((fail_if_no_progress extract_lets +onlyGivenNames x); (try (refine (fun hx : State.Canon x => ?_ : State.Canon x → _) ?_; (on_goal 1 => clear_value x); (on_goal 2 => unfold x)))) | apply canon_ok | apply canon_spxVioLost | apply canon_modPwr | apply canon_raise | split | (fail_if_no_progress (apply canon_upd)))

theorem canon_execRailFault (s : State) (hC : s.Canon) : CanonO (execRailFault s) := by
  unfold execRailFault
  with_reducible (repeat' first | assumption | apply canon_ok | apply canon_raise | split)

theorem canon_execPowerOn (i : Intake) (s : State) (hC : s.Canon) : CanonO (execPowerOn i s) := by
  unfold execPowerOn
  with_reducible (repeat' first | assumption | intro _ | apply canon_ok | apply canon_powerOnReset | apply canon_modPwr | split)

theorem canon_execOtpLoadComplete (good : Bool) (f : Fuses) (s : State) (hC : s.Canon) : CanonO (execOtpLoadComplete good f s) := by
  unfold execOtpLoadComplete
  with_reducible (repeat' first | assumption | intro _ | apply canon_chipReset | apply canon_ok | apply canon_modPwr | split | (fail_if_no_progress (apply canon_upd)))

theorem canon_execMemoryInitialiserComplete (s : State) (hC : s.Canon) : CanonO (execMemoryInitialiserComplete s) := by
  unfold execMemoryInitialiserComplete
  split
  · have h2 := hC.2
    unfold State.memWf at h2
    rw [Bool.and_eq_true] at h2
    have h0 : State.Canon { s with sram := [], sramMark := [], sramErr := [] } := by
      refine ⟨hC.1, ?_⟩
      unfold State.memWf
      rw [Bool.and_eq_true]
      exact ⟨rfl, h2.2⟩
    exact canon_ok _ (canon_calSelect _ (canon_modPwr _ _ h0))
  · exact canon_ok _ hC

theorem canon_execResetRelease (x : Straps) (y : Straps) (z : Straps) (s : State) (hC : s.Canon) : CanonO (execResetRelease x y z s) := by
  unfold execResetRelease
  with_reducible (repeat' first | assumption | apply canon_ok | apply canon_release | split)

theorem canon_execBootComplete (i : BootImage) (s : State) (hC : s.Canon) : CanonO (execBootComplete i s) := by
  unfold execBootComplete
  with_reducible (repeat' first | assumption | apply canon_ok | apply canon_boot | split)

theorem canon_execClockMonitorFault (c : MonClock) (s : State) (hC : s.Canon) : CanonO (execClockMonitorFault c s) := by
  unfold execClockMonitorFault
  with_reducible (repeat' first | assumption | intro _ | ((fail_if_no_progress extract_lets +onlyGivenNames x); (try (refine (fun hx : State.Canon x => ?_ : State.Canon x → _) ?_; (on_goal 1 => clear_value x); (on_goal 2 => unfold x)))) | apply canon_ok | apply canon_onF | apply canon_raise | apply canon_modPwr | apply canon_showFallback | apply canon_linkLoss | apply canon_setBitF | apply canon_chFault | split | (refine canon_of_pair (by assumption) ?_) | (fail_if_no_progress (apply canon_upd)))

theorem canon_execClockMonitorClears (c : MonClock) (s : State) (hC : s.Canon) : CanonO (execClockMonitorClears c s) := by
  unfold execClockMonitorClears
  with_reducible (repeat' first | assumption | intro _ | apply canon_ok | apply canon_modPwr | apply canon_showFallback | split | (refine canon_of_pair (by assumption) ?_) | (fail_if_no_progress (apply canon_upd)))

theorem canon_execVioInRestored (s : State) (hC : s.Canon) : CanonO (execVioInRestored s) := by
  unfold execVioInRestored
  repeat' first | with_reducible assumption | intro _ | ((fail_if_no_progress extract_lets +onlyGivenNames x); first | (refine (fun hx : State.Canon x => ?_ : State.Canon x → _) ?_; (on_goal 1 => clear_value x); (on_goal 2 => unfold x)) | (refine (fun hx : State.Canon x.2 => ?_ : State.Canon x.2 → _) ?_; (on_goal 1 => clear_value x); (on_goal 2 => unfold x)) | skip) | with_reducible apply canon_modPwr | with_reducible apply canon_ok | with_reducible apply canon_onF | with_reducible apply canon_chipReset | with_reducible apply canonO_nextI | split | (with_reducible refine canon_of_pair (by assumption) ?_) | (with_reducible refine canon_of_triple (by assumption) ?_) | (fail_if_no_progress (with_reducible apply canon_upd)) | (fail_if_no_progress beta_reduce) | (fail_if_no_progress dsimp only) | (fail_if_no_progress dsimp +zetaDelta only)

theorem canon_execNrstPulse (l : NrstLow) (s : State) (hC : s.Canon) : CanonO (execNrstPulse l s) := by
  unfold execNrstPulse
  repeat' first | with_reducible assumption | intro _ | ((fail_if_no_progress extract_lets +onlyGivenNames x); first | (refine (fun hx : State.Canon x => ?_ : State.Canon x → _) ?_; (on_goal 1 => clear_value x); (on_goal 2 => unfold x)) | (refine (fun hx : State.Canon x.2 => ?_ : State.Canon x.2 → _) ?_; (on_goal 1 => clear_value x); (on_goal 2 => unfold x)) | skip) | with_reducible apply canon_ok | with_reducible apply canon_onF | with_reducible apply canon_chipReset | with_reducible apply canon_modPwr | with_reducible apply canon_takeFree | with_reducible apply canonO_nextI | split | (with_reducible refine canon_of_pair (by assumption) ?_) | (with_reducible refine canon_of_triple (by assumption) ?_) | (fail_if_no_progress (with_reducible apply canon_upd)) | (fail_if_no_progress beta_reduce) | (fail_if_no_progress dsimp only) | (fail_if_no_progress dsimp +zetaDelta only)

theorem canon_chipBy (s : State) (a0 : ChipCause) (hC : s.Canon) : (State.chipBy s a0).Canon := by
  unfold State.chipBy
  repeat' first | with_reducible assumption | intro _ | ((fail_if_no_progress extract_lets +onlyGivenNames x); first | (refine (fun hx : State.Canon x => ?_ : State.Canon x → _) ?_; (on_goal 1 => clear_value x); (on_goal 2 => unfold x)) | (refine (fun hx : State.Canon x.2 => ?_ : State.Canon x.2 → _) ?_; (on_goal 1 => clear_value x); (on_goal 2 => unfold x)) | skip) | with_reducible apply canon_onF | with_reducible apply canon_chipReset | with_reducible apply canon_incF | with_reducible apply canon_modPwr | with_reducible apply canon_tlStep2 | split | (with_reducible refine canon_of_pair (by assumption) ?_) | (with_reducible refine canon_of_triple (by assumption) ?_) | (fail_if_no_progress (with_reducible apply canon_upd)) | (fail_if_no_progress beta_reduce) | (fail_if_no_progress dsimp only) | (fail_if_no_progress dsimp +zetaDelta only)

theorem canon_execChipReset (c : ChipCause) (s : State) (hC : s.Canon) : CanonO (execChipReset c s) := by
  unfold execChipReset
  with_reducible (repeat' first | assumption | apply canon_ok | apply canon_chipBy | apply canon_chipReset | apply canon_onF | split | (refine canon_of_pair (by assumption) ?_))

theorem canon_execNrstStuck (x : Straps) (y : Straps) (z : Straps) (s : State) (hC : s.Canon) : CanonO (execNrstStuck x y z s) := by
  unfold execNrstStuck
  with_reducible (repeat' first | assumption | ((fail_if_no_progress extract_lets +onlyGivenNames x); (try (refine (fun hx : State.Canon x => ?_ : State.Canon x → _) ?_; (on_goal 1 => clear_value x); (on_goal 2 => unfold x)))) | apply canon_onF | apply canon_release | apply canon_ok | apply canon_incF | apply canon_raise | split)

theorem canon_execNrstRearm (s : State) (hC : s.Canon) : CanonO (execNrstRearm s) := by
  unfold execNrstRearm
  with_reducible (repeat' first | assumption | intro _ | apply canon_ok | apply canon_offF | apply canon_modPwr | split | (fail_if_no_progress (apply canon_upd)))

theorem canon_execBlockResetRequest (b : Blk) (s : State) (hC : s.Canon) : CanonO (execBlockResetRequest b s) := by
  unfold execBlockResetRequest
  with_reducible (repeat' first | assumption | apply canon_ok | apply canon_requestReset)

theorem canon_execBlockResetDeferredStart (b : Blk) (s : State) (hC : s.Canon) : CanonO (execBlockResetDeferredStart b s) := by
  unfold execBlockResetDeferredStart
  with_reducible (repeat' first | assumption | ((fail_if_no_progress extract_lets +onlyGivenNames x); (try (refine (fun hx : State.Canon x => ?_ : State.Canon x → _) ?_; (on_goal 1 => clear_value x); (on_goal 2 => unfold x)))) | apply canon_ok | apply canon_advance | apply canon_startDeferred | split)

theorem canon_execBlockLeavesReset (b : Blk) (s : State) (hC : s.Canon) : CanonO (execBlockLeavesReset b s) := by
  unfold execBlockLeavesReset
  with_reducible (repeat' first | assumption | apply canon_ok | apply canon_leaveReset | split)

theorem canon_execSleepReady (m : Mach) (s : State) (hC : s.Canon) : CanonO (execSleepReady m s) := by
  unfold execSleepReady
  with_reducible (repeat' first | assumption | apply canon_ok | apply canon_readyBy | split)

theorem canon_execCoresGated (s : State) (hC : s.Canon) : CanonO (execCoresGated s) := by
  unfold execCoresGated
  with_reducible (repeat' first | assumption | intro _ | ((fail_if_no_progress extract_lets +onlyGivenNames x); (try (refine (fun hx : State.Canon x => ?_ : State.Canon x → _) ?_; (on_goal 1 => clear_value x); (on_goal 2 => unfold x)))) | apply canon_setF | apply canon_each | apply canon_modCh | apply canon_modTri | apply canon_ok | split | (refine canon_of_pair (by assumption) ?_) | (fail_if_no_progress (apply canon_upd)))

theorem canon_execWakePinEdge (s : State) (hC : s.Canon) : CanonO (execWakePinEdge s) := by
  unfold execWakePinEdge
  with_reducible (repeat' first | assumption | apply canon_ok | apply canon_wakeEvent | split)

theorem canon_execAonTimerMatch (s : State) (hC : s.Canon) : CanonO (execAonTimerMatch s) := by
  unfold execAonTimerMatch
  with_reducible (repeat' first | assumption | apply canon_ok | apply canon_setF | apply canon_wakeEvent | split)

theorem canon_execWakeSupplyUp (s : State) (hC : s.Canon) : CanonO (execWakeSupplyUp s) := by
  unfold execWakeSupplyUp
  with_reducible (repeat' first | assumption | intro _ | ((fail_if_no_progress extract_lets +onlyGivenNames x); (try (refine (fun hx : State.Canon x => ?_ : State.Canon x → _) ?_; (on_goal 1 => clear_value x); (on_goal 2 => unfold x)))) | apply canon_each | apply canon_modCh | apply canon_ok | apply canon_modTri | split | (refine canon_of_pair (by assumption) ?_) | (fail_if_no_progress (apply canon_upd)))

theorem canon_deliverWake (m : Mach) (s : State) (hC : s.Canon) : (State.deliverWake m s).Canon := by
  unfold State.deliverWake
  with_reducible (repeat' first | assumption | intro _ | ((fail_if_no_progress extract_lets +onlyGivenNames x); (try (refine (fun hx : State.Canon x => ?_ : State.Canon x → _) ?_; (on_goal 1 => clear_value x); (on_goal 2 => unfold x)))) | apply canon_modMach | apply canon_takeWake | split | (fail_if_no_progress (apply canon_upd)))

theorem canon_execWakeInterruptDelivery (s : State) (hC : s.Canon) : CanonO (execWakeInterruptDelivery s) := by
  unfold execWakeInterruptDelivery
  with_reducible (repeat' first | assumption | ((fail_if_no_progress extract_lets +onlyGivenNames x); (try (refine (fun hx : State.Canon x => ?_ : State.Canon x → _) ?_; (on_goal 1 => clear_value x); (on_goal 2 => unfold x)))) | apply canon_setF | apply canon_clearReady | apply canon_tlStartPeriod | apply canon_ok | apply canon_each | apply canon_deliverWake | split | (fail_if_no_progress (apply canon_upd)))

/-! ### RollCall -/

theorem canon_rollSchedule (s : State) (t : Nat) (id : Nat) (origin : Nat) (hC : s.Canon) : (State.rollSchedule s t id origin).Canon := by
  unfold State.rollSchedule
  with_reducible (repeat' first | assumption | ((fail_if_no_progress extract_lets +onlyGivenNames x); (try (refine (fun hx : State.Canon x => ?_ : State.Canon x → _) ?_; (on_goal 1 => clear_value x); (on_goal 2 => unfold x)))) | apply canon_setR | apply canon_onF)

theorem canon_rollStation (s : State) (t : Nat) (hC : s.Canon) : (State.rollStation s t).2.Canon := by
  unfold State.rollStation
  with_reducible (repeat' first | assumption | ((fail_if_no_progress extract_lets +onlyGivenNames x); (try (refine (fun hx : State.Canon x => ?_ : State.Canon x → _) ?_; (on_goal 1 => clear_value x); (on_goal 2 => unfold x)))) | apply canon_rollSchedule | apply canon_originate | split | (fail_if_no_progress (apply canon_upd)))

theorem canon_rollFrame (s : State) (t : Nat) (id : Nat) (origin : Nat) (hC : s.Canon) : (State.rollFrame s t id origin).Canon := by
  unfold State.rollFrame
  with_reducible (repeat' first | assumption | apply canon_onF | apply canon_rollSchedule | split)

theorem canon_rollDue (s : State) (hC : s.Canon) : (State.rollDue s).Canon := by
  unfold State.rollDue
  with_reducible (repeat' first | assumption | ((fail_if_no_progress extract_lets +onlyGivenNames x); (try (refine (fun hx : State.Canon x => ?_ : State.Canon x → _) ?_; (on_goal 1 => clear_value x); (on_goal 2 => unfold x)))) | apply canon_offF | apply canon_onF | apply canon_rollJoin | apply canon_incF | apply canon_raise | apply canon_rollLatch | split | (refine canon_of_pair (by assumption) ?_))

theorem canon_execRollcallPadEdge (rising : Bool) (s : State) (hC : s.Canon) : CanonO (execRollcallPadEdge rising s) := by
  unfold execRollcallPadEdge
  with_reducible (repeat' first | assumption | apply canon_ok | apply canon_rollTrigger | split)

theorem canon_execRcTrigger (s : State) (hC : s.Canon) : CanonO (execRcTrigger s) := by
  unfold execRcTrigger
  with_reducible (repeat' first | assumption | apply canon_ok | apply canon_rollTrigger | split)

theorem canon_execRcRelease (s : State) (hC : s.Canon) : CanonO (execRcRelease s) := by
  unfold execRcRelease
  with_reducible (repeat' first | assumption | apply canon_ok | apply canon_offF | split)

theorem canon_execRcCancel (s : State) (hC : s.Canon) : CanonO (execRcCancel s) := by
  unfold execRcCancel
  with_reducible (repeat' first | assumption | apply canon_ok | apply canon_offF | split)

theorem canon_execRollcallFrameReceive (s : State) (hC : s.Canon) : CanonO (execRollcallFrameReceive s) := by
  unfold execRollcallFrameReceive
  with_reducible (repeat' first | assumption | apply canon_ok | apply canon_rollFrame | refine canon_takeFrame (by assumption) ?_ | split | (refine canon_of_pair (by assumption) ?_))

theorem canon_execStationRollcallTime (s : State) (hC : s.Canon) : CanonO (execStationRollcallTime s) := by
  unfold execStationRollcallTime
  with_reducible (repeat' first | assumption | apply canon_ok | apply canon_advanceTo | apply canon_rollDue | split)

/-! ### Server -/

theorem canon_pickRequest {s : State} {c : Nat} {r : SrvReq} {t : State} (hp : s.pickRequest = some (c, r, t)) (hC : s.Canon) : t.Canon := by
  unfold State.pickRequest at hp
  split at hp
  · simp only [Option.some.injEq, Prod.mk.injEq] at hp
    rw [← hp.2.2]
    exact canon_setQueue _ _ _ hC
  · split at hp
    · cases hp
    · split at hp
      · cases hp
      · simp only [Option.some.injEq, Prod.mk.injEq] at hp
        rw [← hp.2.2]
        exact canon_upd (canon_setQueue _ _ _ hC)

theorem canon_countOwned (s : State) (o : Nat) (hC : s.Canon) : (State.countOwned s o).Canon := by
  unfold State.countOwned
  with_reducible (repeat' first | assumption | apply canon_mgmtRefuse | split | (refine canon_of_pair (by assumption) ?_))

theorem canon_completeReq (s : State) (r : OutReq) (reply : Nat) (tgen : Nat) (qdepth : Nat) (data : List Byte) (hC : s.Canon) : (State.completeReq s r reply tgen qdepth data).Canon := by
  unfold State.completeReq
  with_reducible (repeat' first | assumption | ((fail_if_no_progress extract_lets +onlyGivenNames x); (try (refine (fun hx : State.Canon x => ?_ : State.Canon x → _) ?_; (on_goal 1 => clear_value x); (on_goal 2 => unfold x)))) | apply canon_endReq | apply canon_raise | apply canon_accessEnd | apply canon_shReply | split | (refine canon_of_pair (by assumption) ?_))

theorem canon_serviceEnd (s : State) (r : SrvReq) (cls : Nat) (reply : Nat) (tgen : Nat) (data : List Byte) (hC : s.Canon) : (State.serviceEnd s r cls reply tgen data).Canon := by
  unfold State.serviceEnd
  with_reducible (repeat' first | assumption | intro _ | ((fail_if_no_progress extract_lets +onlyGivenNames x); (try (refine (fun hx : State.Canon x => ?_ : State.Canon x → _) ?_; (on_goal 1 => clear_value x); (on_goal 2 => unfold x)))) | apply canon_modSess | apply canon_entryCmdCheck | apply canon_completeReq | apply canon_sendReply | split | (refine canon_of_pair (by assumption) ?_) | (fail_if_no_progress (apply canon_upd)))

theorem canon_perform (s : State) (r : SrvReq) (cls : Nat) (hC : s.Canon) : (State.perform s r cls).Canon := by
  unfold State.perform
  with_reducible (repeat' first | assumption | ((fail_if_no_progress extract_lets +onlyGivenNames x); (try (refine (fun hx : State.Canon x => ?_ : State.Canon x → _) ?_; (on_goal 1 => clear_value x); (on_goal 2 => unfold x)))) | apply canon_fabRead | apply canon_serviceEnd | apply canon_fabWrite | split | (refine canon_of_pair (by assumption) ?_))

theorem canon_serve (s : State) (r : SrvReq) (cls : Nat) (hC : s.Canon) : (State.serve s r cls).Canon := by
  unfold State.serve
  generalize s.serviceCheck r = c
  split
  · exact canon_perform _ _ _ hC
  · rename_i reply g
    generalize r.addr % 2 ^ 42 = k
    extract_lets s1 s2
    have h1 : s1.Canon := canon_incF _ _ hC
    clear_value s1
    have h2 : s2.Canon := canon_ite (fun _ => canon_incF _ _ h1) (fun _ => h1)
    clear_value s2
    apply canon_serviceEnd
    exact canon_ite (fun _ => canon_countOwned _ _ h2) (fun _ => h2)

theorem canon_useSafety (s : State) (cls : Nat) (ns : Nat) (hC : s.Canon) : (State.useSafety s cls ns).Canon := by
  unfold State.useSafety
  with_reducible (repeat' first | assumption | split | (fail_if_no_progress (apply canon_upd)))

/-! ### SessionCmd -/

theorem canon_execSessReqReceive (s : State) (hC : s.Canon) : CanonO (execSessReqReceive s) := by
  unfold execSessReqReceive
  with_reducible (repeat' first | assumption | apply canon_ok | apply canon_srvArrive | refine canon_takeFrame (by assumption) ?_ | split | (refine canon_of_pair (by assumption) ?_) | (fail_if_no_progress (apply canon_upd)))

theorem canon_execSessionServiceStart (ns : Nat) (s : State) (hC : s.Canon) : CanonO (execSessionServiceStart ns s) := by
  unfold execSessionServiceStart
  with_reducible (repeat' first | assumption | ((fail_if_no_progress extract_lets +onlyGivenNames x); (try (refine (fun hx : State.Canon x => ?_ : State.Canon x → _) ?_; (on_goal 1 => clear_value x); (on_goal 2 => unfold x)))) | apply canon_ok | apply canon_useSafety | apply canon_serve | refine canon_pickRequest (by assumption) ?_ | split | (refine canon_of_pair (by assumption) ?_))

theorem canon_replyIn (s : State) (f : Frame) (m : SessRepMsg) (hC : s.Canon) : (State.replyIn s f m).Canon := by
  unfold State.replyIn
  with_reducible (repeat' first | assumption | intro _ | apply canon_incF | apply canon_raise | apply canon_completeReq | split | (refine canon_of_pair (by assumption) ?_))

theorem canon_execSessRepReceive (s : State) (hC : s.Canon) : CanonO (execSessRepReceive s) := by
  unfold execSessRepReceive
  with_reducible (repeat' first | assumption | apply canon_ok | apply canon_replyIn | refine canon_takeFrame (by assumption) ?_ | split | (refine canon_of_pair (by assumption) ?_))

theorem canon_peekFail (s : State) (k : Mach) (code : Nat) (hC : s.Canon) : (State.peekFail s k code).Canon := by
  unfold State.peekFail
  with_reducible (repeat' first | assumption | intro _ | apply canon_peek | apply canon_modMach | apply canon_wg | apply canon_retire | split | (refine canon_of_pair (by assumption) ?_) | (fail_if_no_progress (apply canon_upd)))

theorem canon_execRequestTimeout (peek : Bool) (id : Nat) (s : State) (hC : s.Canon) : CanonO (execRequestTimeout peek id s) := by
  unfold execRequestTimeout
  with_reducible (repeat' first | assumption | intro _ | apply canon_peek | apply canon_ok | apply canon_peekFail | apply canon_completeReq | split | (refine canon_of_pair (by assumption) ?_))

theorem canon_execReplayWindowRelease (sid : Fin 1024) (node : Fin 1024) (s : State) (hC : s.Canon) : CanonO (execReplayWindowRelease sid node s) := by
  unfold execReplayWindowRelease
  with_reducible (repeat' first | assumption | intro _ | apply canon_ok | apply canon_modSess | split | (fail_if_no_progress (apply canon_upd)))

theorem canon_execSafetyShareInterval (s : State) (hC : s.Canon) : CanonO (execSafetyShareInterval s) := by
  unfold execSafetyShareInterval
  with_reducible (repeat' first | assumption | intro _ | ((fail_if_no_progress extract_lets +onlyGivenNames x); (try (refine (fun hx : State.Canon x => ?_ : State.Canon x → _) ?_; (on_goal 1 => clear_value x); (on_goal 2 => unfold x)))) | apply canon_ok | apply canon_each | apply canon_modPort | apply canon_drain | (fail_if_no_progress (apply canon_upd)))

theorem canon_execLoadKey (s : State) (hC : s.Canon) : CanonO (execLoadKey s) := by
  unfold execLoadKey
  with_reducible (repeat' first | assumption | apply canon_ok | apply canon_entryCmd | split)

theorem canon_execEntryClear (s : State) (hC : s.Canon) : CanonO (execEntryClear s) := by
  unfold execEntryClear
  with_reducible (repeat' first | assumption | apply canon_ok | apply canon_entryCmd | split)

theorem canon_execSsBootWrite (v : Word) (s : State) (hC : s.Canon) : CanonO (execSsBootWrite v s) := by
  unfold execSsBootWrite
  with_reducible (repeat' first | assumption | apply canon_ok | apply canon_ssBootWrite | split)

theorem canon_refuseIn (s : State) (oseq : Nat) (lane : Option Nat) (hC : s.Canon) : (State.refuseIn s oseq lane).Canon := by
  unfold State.refuseIn
  with_reducible (repeat' first | assumption | intro _ | apply canon_incF | apply canon_completeReq | apply canon_peekFail | split | (refine canon_of_pair (by assumption) ?_))

theorem canon_execRefuseReceive (s : State) (hC : s.Canon) : CanonO (execRefuseReceive s) := by
  unfold execRefuseReceive
  with_reducible (repeat' first | assumption | apply canon_ok | apply canon_refuseIn | refine canon_takeFrame (by assumption) ?_ | split | (refine canon_of_pair (by assumption) ?_))

theorem canon_execWakeFrameReceive (s : State) (hC : s.Canon) : CanonO (execWakeFrameReceive s) := by
  unfold execWakeFrameReceive
  with_reducible (repeat' first | assumption | apply canon_ok | apply canon_wakeEvent | refine canon_takeFrame (by assumption) ?_ | split | (refine canon_of_pair (by assumption) ?_))

/-! ### ShuntCmd -/

theorem canon_shServed (s : State) (n : Fin 16) (hC : s.Canon) : (State.shServed s n).Canon := by
  unfold State.shServed
  with_reducible (repeat' first | assumption | (fail_if_no_progress (apply canon_upd)))

theorem canon_shLocalFail (s : State) (n : Fin 16) (dst : Bool) (code : Nat) (detail : Nat) (a : Nat) (hC : s.Canon) : (State.shLocalFail s n dst code detail a).Canon := by
  unfold State.shLocalFail
  with_reducible (repeat' first | assumption | apply canon_shFail | apply canon_shCheckEnd | apply canon_shPumpAll | split)

theorem canon_shLocalWrite (s : State) (n : Fin 16) (hC : s.Canon) : (State.shLocalWrite s n).Canon := by
  unfold State.shLocalWrite
  with_reducible (repeat' first | assumption | intro _ | ((fail_if_no_progress extract_lets +onlyGivenNames x); (try (refine (fun hx : State.Canon x => ?_ : State.Canon x → _) ?_; (on_goal 1 => clear_value x); (on_goal 2 => unfold x)))) | apply canon_shLocalFail | apply canon_shFeed | apply canon_modShu | apply canon_fabWrite | apply canon_shCheckEnd | apply canon_shPumpAll | split | (refine canon_of_pair (by assumption) ?_) | (fail_if_no_progress (apply canon_upd)))

theorem canon_shLocalRead (s : State) (n : Fin 16) (hC : s.Canon) : (State.shLocalRead s n).Canon := by
  unfold State.shLocalRead
  with_reducible (repeat' first | assumption | intro _ | ((fail_if_no_progress extract_lets +onlyGivenNames x); (try (refine (fun hx : State.Canon x => ?_ : State.Canon x → _) ?_; (on_goal 1 => clear_value x); (on_goal 2 => unfold x)))) | apply canon_shLocalFail | apply canon_fabRead | apply canon_modShu | apply canon_shRead | apply canon_shCheckEnd | apply canon_shPumpAll | split | (refine canon_of_pair (by assumption) ?_) | (fail_if_no_progress (apply canon_upd)))

theorem canon_execLocalPieceResponse (n : Fin 16) (s : State) (hC : s.Canon) : CanonO (execLocalPieceResponse n s) := by
  unfold execLocalPieceResponse
  with_reducible (repeat' first | assumption | ((fail_if_no_progress extract_lets +onlyGivenNames x); (try (refine (fun hx : State.Canon x => ?_ : State.Canon x → _) ?_; (on_goal 1 => clear_value x); (on_goal 2 => unfold x)))) | apply canon_shServed | apply canon_ok | apply canon_shLocalWrite | apply canon_shLocalRead | split)

theorem canon_execShGo (n : Fin 16) (s : State) (hC : s.Canon) : CanonO (execShGo n s) := by
  unfold execShGo
  with_reducible (repeat' first | assumption | apply canon_ok | apply canon_shCtrl | split)

theorem canon_execShResume (n : Fin 16) (s : State) (hC : s.Canon) : CanonO (execShResume n s) := by
  unfold execShResume
  with_reducible (repeat' first | assumption | apply canon_ok | apply canon_shCtrl | split)

theorem canon_execShStop (n : Fin 16) (s : State) (hC : s.Canon) : CanonO (execShStop n s) := by
  unfold execShStop
  with_reducible (repeat' first | assumption | apply canon_ok | apply canon_shCtrl | split)

theorem canon_shFetchEnd (s : State) (n : Fin 16) (c : Nat) (d : Nat) (bs : List Byte) (hC : s.Canon) : (State.shFetchEnd s n c d bs).Canon := by
  unfold State.shFetchEnd
  with_reducible (repeat' first | assumption | apply canon_shFetched | apply canon_fetchFail | apply canon_shPumpAll | split)

theorem canon_execWaybillFetchComplete (n : Fin 16) (s : State) (hC : s.Canon) : CanonO (execWaybillFetchComplete n s) := by
  unfold execWaybillFetchComplete
  with_reducible (repeat' first | assumption | ((fail_if_no_progress extract_lets +onlyGivenNames x); (try (refine (fun hx : State.Canon x => ?_ : State.Canon x → _) ?_; (on_goal 1 => clear_value x); (on_goal 2 => unfold x)))) | apply canon_fetch | apply canon_ok | apply canon_shServed | apply canon_sramLoad | apply canon_shFetchEnd | split | (refine canon_of_pair (by assumption) ?_))

theorem canon_shWriteBack (s : State) (n : Fin 16) (hC : s.Canon) : (State.shWriteBack s n).2.Canon := by
  unfold State.shWriteBack
  with_reducible (repeat' first | assumption | ((fail_if_no_progress extract_lets +onlyGivenNames x); (try (refine (fun hx : State.Canon x => ?_ : State.Canon x → _) ?_; (on_goal 1 => clear_value x); (on_goal 2 => unfold x)))) | apply canon_sramWrite | split | (refine canon_of_pair (by assumption) ?_))

theorem canon_execWaybillWritebackComplete (n : Fin 16) (s : State) (hC : s.Canon) : CanonO (execWaybillWritebackComplete n s) := by
  unfold execWaybillWritebackComplete
  with_reducible (repeat' first | assumption | ((fail_if_no_progress extract_lets +onlyGivenNames x); (try (refine (fun hx : State.Canon x => ?_ : State.Canon x → _) ?_; (on_goal 1 => clear_value x); (on_goal 2 => unfold x)))) | apply canon_ok | apply canon_shServed | apply canon_shWriteBack | apply canon_shComplete | split | (refine canon_of_pair (by assumption) ?_))

theorem canon_execLocalAccessTimeout (n : Fin 16) (s : State) (hC : s.Canon) : CanonO (execLocalAccessTimeout n s) := by
  unfold execLocalAccessTimeout
  with_reducible (repeat' first | assumption | ((fail_if_no_progress extract_lets +onlyGivenNames x); (try (refine (fun hx : State.Canon x => ?_ : State.Canon x → _) ?_; (on_goal 1 => clear_value x); (on_goal 2 => unfold x)))) | apply canon_fetch | apply canon_ok | apply canon_fetchFail | apply canon_shPumpAll | apply canon_shComplete | apply canon_shLocalFail | apply canonO_nextI | split | (refine canon_of_pair (by assumption) ?_))

theorem canon_retryPiece (s : State) (n : Fin 16) (p : Piece) (hC : s.Canon) : (State.retryPiece s n p).Canon := by
  unfold State.retryPiece
  with_reducible (repeat' first | assumption | intro _ | apply canon_modPiece | apply canon_pieceFail | split | (refine canon_of_pair (by assumption) ?_) | (fail_if_no_progress (apply canon_upd)))

theorem canon_execPieceRetryTimer (n : Fin 16) (s : State) (hC : s.Canon) : CanonO (execPieceRetryTimer n s) := by
  unfold execPieceRetryTimer
  with_reducible (repeat' first | assumption | intro _ | apply canon_ok | apply canon_each | apply canon_retryPiece | apply canon_shPumpAll | split)

theorem canon_execCrcUnitWaitTimeout (n : Fin 16) (s : State) (hC : s.Canon) : CanonO (execCrcUnitWaitTimeout n s) := by
  unfold execCrcUnitWaitTimeout
  with_reducible (repeat' first | assumption | apply canon_ok | apply canon_shFail | apply canon_toBack | apply canon_shPump | apply canon_shPumpAll | split)

theorem canon_execShuntEngineMismatch (n : Fin 16) (s : State) (hC : s.Canon) : CanonO (execShuntEngineMismatch n s) := by
  unfold execShuntEngineMismatch
  with_reducible (repeat' first | assumption | apply canon_ok | apply canon_shRest | apply canon_raise | apply canon_shPumpAll | split)

/-! ### SigBoxCmd -/

theorem canon_execSourceRaise (src : Fin 128) (t : Triad) (s : State) (hC : s.Canon) : CanonO (execSourceRaise src t s) := by
  unfold execSourceRaise
  with_reducible (repeat' first | assumption | apply canon_ok | apply canon_clrBitF | apply canon_raise | split)

theorem canon_execWireBreak (src : Fin 128) (bothOpen : Bool) (t : Triad) (s : State) (hC : s.Canon) : CanonO (execWireBreak src bothOpen t s) := by
  unfold execWireBreak
  with_reducible (repeat' first | assumption | ((fail_if_no_progress extract_lets +onlyGivenNames x); (try (refine (fun hx : State.Canon x => ?_ : State.Canon x → _) ?_; (on_goal 1 => clear_value x); (on_goal 2 => unfold x)))) | apply canon_ok | apply canon_raise | apply canon_setBitF | split)

theorem canon_execWireRearm (src : Fin 128) (s : State) (hC : s.Canon) : CanonO (execWireRearm src s) := by
  unfold execWireRearm
  with_reducible (repeat' first | assumption | apply canon_ok | apply canon_clrBitF)

theorem canon_execCollectorMismatch (s : State) (hC : s.Canon) : CanonO (execCollectorMismatch s) := by
  unfold execCollectorMismatch
  with_reducible (repeat' first | assumption | apply canon_ok | apply canon_onF | split)

theorem canon_execQuietTimerExpiry (s : State) (hC : s.Canon) : CanonO (execQuietTimerExpiry s) := by
  unfold execQuietTimerExpiry
  with_reducible (repeat' first | assumption | ((fail_if_no_progress extract_lets +onlyGivenNames x); (try (refine (fun hx : State.Canon x => ?_ : State.Canon x → _) ?_; (on_goal 1 => clear_value x); (on_goal 2 => unfold x)))) | apply canon_offF | apply canon_incF | apply canon_ok | split | (fail_if_no_progress (apply canon_upd)))

theorem canon_execSbCfgWrite (src : Fin 128) (v : Word) (s : State) (hC : s.Canon) : CanonO (execSbCfgWrite src v s) := by
  unfold execSbCfgWrite
  with_reducible (repeat' first | assumption | apply canon_ok | apply canon_sbCfgWrite | split)

theorem canon_execSbLock (s : State) (hC : s.Canon) : CanonO (execSbLock s) := by
  unfold execSbLock
  with_reducible (repeat' first | assumption | apply canon_ok | apply canon_sbLock | split)

/-! ### SpxCmd -/

theorem canon_execSpxCfgWrite (v : Word) (s : State) (hC : s.Canon) : CanonO (execSpxCfgWrite v s) := by
  unfold execSpxCfgWrite
  with_reducible (repeat' first | assumption | apply canon_ok | apply canon_spxCfgWrite | split)

theorem canon_execSpxGo (din : List Word) (s : State) (hC : s.Canon) : CanonO (execSpxGo din s) := by
  unfold execSpxGo
  with_reducible (repeat' first | assumption | apply canon_ok | apply canon_spxGo | split)

theorem canon_execSpxAbort (s : State) (hC : s.Canon) : CanonO (execSpxAbort s) := by
  unfold execSpxAbort
  with_reducible (repeat' first | assumption | apply canon_ok | apply canon_spxAbort | split)

theorem canon_execSpxTxFlush (s : State) (hC : s.Canon) : CanonO (execSpxTxFlush s) := by
  unfold execSpxTxFlush
  with_reducible (repeat' first | assumption | apply canon_ok | apply canon_spxTxFlush | split)

theorem canon_execSpxRxFlush (s : State) (hC : s.Canon) : CanonO (execSpxRxFlush s) := by
  unfold execSpxRxFlush
  with_reducible (repeat' first | assumption | apply canon_ok | apply canon_spxRxFlush | split)

theorem canon_execMasterFrameEnd (s : State) (hC : s.Canon) : CanonO (execMasterFrameEnd s) := by
  unfold execMasterFrameEnd
  with_reducible (repeat' first | assumption | apply canon_ok | apply canon_spxFrameEnd | split)

theorem canon_execSpxTxWindowWrite (v : Word) (s : State) (hC : s.Canon) : CanonO (execSpxTxWindowWrite v s) := by
  unfold execSpxTxWindowWrite
  with_reducible (repeat' first | assumption | apply canon_ok | apply canon_spxTxWrite | split)

theorem canon_execSpxRxWindowRead (s : State) (hC : s.Canon) : CanonO (execSpxRxWindowRead s) := by
  unfold execSpxRxWindowRead
  with_reducible (repeat' first | assumption | apply canon_ok | apply canon_spxRxRead | split)

theorem canon_execSpxModeFault (s : State) (hC : s.Canon) : CanonO (execSpxModeFault s) := by
  unfold execSpxModeFault
  with_reducible (repeat' first | assumption | apply canon_ok | apply canon_spxModeFault | split)

theorem canon_execSlaveSelectFall (s : State) (hC : s.Canon) : CanonO (execSlaveSelectFall s) := by
  unfold execSlaveSelectFall
  with_reducible (repeat' first | assumption | apply canon_ok | apply canon_slaveFall | split)

theorem canon_execSlaveFrameApply (f : SlaveFrame) (s : State) (hC : s.Canon) : CanonO (execSlaveFrameApply f s) := by
  unfold execSlaveFrameApply
  with_reducible (repeat' first | assumption | apply canon_ok | apply canon_slaveRise)

theorem canon_execMailboxRead (s : State) (hC : s.Canon) : CanonO (execMailboxRead s) := by
  unfold execMailboxRead
  with_reducible (repeat' first | assumption | apply canon_ok | apply canon_mailRead | split)

theorem canon_execMailboxWrite (v : Word) (s : State) (hC : s.Canon) : CanonO (execMailboxWrite v s) := by
  unfold execMailboxWrite
  with_reducible (repeat' first | assumption | apply canon_ok | apply canon_mailWrite | split)

theorem canon_execSpxNegReset (s : State) (hC : s.Canon) : CanonO (execSpxNegReset s) := by
  unfold execSpxNegReset
  with_reducible (repeat' first | assumption | apply canon_ok | apply canon_negReset | split)

/-! ### SysCmd -/

theorem canon_execPageHealComplete (s : State) (hC : s.Canon) : CanonO (execPageHealComplete s) := by
  unfold execPageHealComplete
  with_reducible (repeat' first | assumption | apply canon_ok | apply canon_healDone | split)

theorem canon_execRfgRelWrite (by_ : Agent) (v : Word) (s : State) (hC : s.Canon) : CanonO (execRfgRelWrite by_ v s) := by
  unfold execRfgRelWrite
  with_reducible (repeat' first | assumption | apply canon_ok | apply canon_rfgRelWrite | split)

theorem canon_execLatchingLoRead (r : LoReg) (s : State) (hC : s.Canon) : CanonO (execLatchingLoRead r s) := by
  unfold execLatchingLoRead
  with_reducible (repeat' first | assumption | apply canon_ok | apply canon_loRead | split)

theorem canon_execRegisterWrite (by_ : Agent) (a : Word) (v : Word) (s : State) (hC : s.Canon) : CanonO (execRegisterWrite by_ a v s) := by
  unfold execRegisterWrite
  with_reducible (repeat' first | assumption | apply canon_ok | apply canon_devWrite | split)

/-! ### TallyCmd -/

theorem canon_execTallyWindowOpen (s : State) (hC : s.Canon) : CanonO (execTallyWindowOpen s) := by
  unfold execTallyWindowOpen
  with_reducible (repeat' first | assumption | apply canon_ok | apply canon_tlOpen | split)

theorem canon_execTallyPeriodEnd (s : State) (hC : s.Canon) : CanonO (execTallyPeriodEnd s) := by
  unfold execTallyPeriodEnd
  with_reducible (repeat' first | assumption | apply canon_ok | apply canon_tlPeriodEnd | split)

theorem canon_execTallyCountStartTimeout (s : State) (hC : s.Canon) : CanonO (execTallyCountStartTimeout s) := by
  unfold execTallyCountStartTimeout
  with_reducible (repeat' first | assumption | apply canon_ok | apply canon_tlStart | split)

theorem canon_execEraseGuardExpiry (s : State) (hC : s.Canon) : CanonO (execEraseGuardExpiry s) := by
  unfold execEraseGuardExpiry
  with_reducible (repeat' first | assumption | ((fail_if_no_progress extract_lets +onlyGivenNames x); (try (refine (fun hx : State.Canon x => ?_ : State.Canon x → _) ?_; (on_goal 1 => clear_value x); (on_goal 2 => unfold x)))) | apply canon_offF | apply canon_ok | apply canon_raise | split | (fail_if_no_progress (apply canon_upd)))

theorem canon_execConsecClearTimeout (s : State) (hC : s.Canon) : CanonO (execConsecClearTimeout s) := by
  unfold execConsecClearTimeout
  with_reducible (repeat' first | assumption | apply canon_ok | apply canon_offF | split)

theorem canon_execTallyCopyMismatch (s : State) (hC : s.Canon) : CanonO (execTallyCopyMismatch s) := by
  unfold execTallyCopyMismatch
  with_reducible (repeat' first | assumption | apply canon_ok | apply canon_tlStep2 | split)

theorem canon_execTlKeyWrite (v : Word) (s : State) (hC : s.Canon) : CanonO (execTlKeyWrite v s) := by
  unfold execTlKeyWrite
  with_reducible (repeat' first | assumption | apply canon_ok | apply canon_tlKeyWrite | split)

theorem canon_execTlEnWrite (v : Word) (s : State) (hC : s.Canon) : CanonO (execTlEnWrite v s) := by
  unfold execTlEnWrite
  with_reducible (repeat' first | assumption | apply canon_ok | apply canon_tlEnWrite | split)

theorem canon_execTlCtrlEnWrite (en : Bool) (s : State) (hC : s.Canon) : CanonO (execTlCtrlEnWrite en s) := by
  unfold execTlCtrlEnWrite
  with_reducible (repeat' first | assumption | apply canon_ok | apply canon_tlCtrlWrite | split)

theorem canon_execTlLock (s : State) (hC : s.Canon) : CanonO (execTlLock s) := by
  unfold execTlLock
  with_reducible (repeat' first | assumption | apply canon_ok | apply canon_tlCtrlWrite | split)

theorem canon_execTlDbgHoldWrite (hold : Bool) (s : State) (hC : s.Canon) : CanonO (execTlDbgHoldWrite hold s) := by
  unfold execTlDbgHoldWrite
  with_reducible (repeat' first | assumption | apply canon_ok | apply canon_tlCtrlWrite | split)

theorem canon_execTlPeriodWrite (v : Word) (s : State) (hC : s.Canon) : CanonO (execTlPeriodWrite v s) := by
  unfold execTlPeriodWrite
  with_reducible (repeat' first | assumption | apply canon_ok | apply canon_tlPeriodWrite | split)

theorem canon_execTlEscWrite (v : Word) (s : State) (hC : s.Canon) : CanonO (execTlEscWrite v s) := by
  unfold execTlEscWrite
  with_reducible (repeat' first | assumption | apply canon_ok | apply canon_tlEscWrite | split)

/-! ### Departure -/

theorem canon_departAll (s : State) (env : DepEnv) (tp : Nat) (te : Nat) (hC : s.Canon) : (State.departAll s env tp te).Canon := by
  unfold State.departAll
  with_reducible (repeat' first | assumption | intro _ | ((fail_if_no_progress extract_lets +onlyGivenNames x); (try (refine (fun hx : State.Canon x => ?_ : State.Canon x → _) ?_; (on_goal 1 => clear_value x); (on_goal 2 => unfold x)))) | apply canon_each | apply canon_departCh)

theorem canon_enterEpoch (s : State) (e : Nat) (hC : s.Canon) : (State.enterEpoch s e).Canon := by
  unfold State.enterEpoch
  with_reducible (repeat' first | assumption | (fail_if_no_progress (apply canon_upd)))

theorem canon_raiseSkew (s : State) (env : DepEnv) (before : List Nat) (hC : s.Canon) : (State.raiseSkew s env before).Canon := by
  unfold State.raiseSkew
  with_reducible (repeat' first | assumption | intro _ | ((fail_if_no_progress extract_lets +onlyGivenNames x); (try (refine (fun hx : State.Canon x => ?_ : State.Canon x → _) ?_; (on_goal 1 => clear_value x); (on_goal 2 => unfold x)))) | apply canon_each | apply canon_raise | split)

theorem canon_depart (s : State) (env : DepEnv) (hC : s.Canon) : (State.depart s env).Canon := by
  unfold State.depart
  with_reducible (repeat' first | assumption | ((fail_if_no_progress extract_lets +onlyGivenNames x); (try (refine (fun hx : State.Canon x => ?_ : State.Canon x → _) ?_; (on_goal 1 => clear_value x); (on_goal 2 => unfold x)))) | apply canon_commitDeadline | apply canon_closeManifest | apply canon_advanceTo | apply canon_departAll | apply canon_periodChange | apply canon_revChange | apply canon_enterEpoch | apply canon_countMiss | apply canon_newProposals | apply canon_startEpoch | apply canon_laneEvent | apply canon_depIrq | apply canon_publish | apply canon_closeIfFull | apply canon_sleepCheck | apply canon_checkMismatch | apply canon_raiseSkew | apply canon_missRefuge | apply canon_actsAtDep | split | (refine canon_of_pair (by assumption) ?_))

/-! ### TimetableCmd -/

theorem canon_execTimeFrameSendTimer (s : State) (hC : s.Canon) : CanonO (execTimeFrameSendTimer s) := by
  unfold execTimeFrameSendTimer
  with_reducible (repeat' first | assumption | apply canon_ok | apply canon_sendTime | split)

theorem canon_execTimeFrameReceive (s : State) (hC : s.Canon) : CanonO (execTimeFrameReceive s) := by
  unfold execTimeFrameReceive
  with_reducible (repeat' first | assumption | apply canon_ok | apply canon_timeIn | refine canon_takeFrame (by assumption) ?_ | split | (refine canon_of_pair (by assumption) ?_))

theorem canon_execSelfMasterTimeout (s : State) (hC : s.Canon) : CanonO (execSelfMasterTimeout s) := by
  unfold execSelfMasterTimeout
  with_reducible (repeat' first | assumption | apply canon_ok | apply canon_selfMaster)

theorem canon_execMasterLossTimeout (s : State) (hC : s.Canon) : CanonO (execMasterLossTimeout s) := by
  unfold execMasterLossTimeout
  with_reducible (repeat' first | assumption | apply canon_ok | apply canon_enterHoldover | split)

theorem canon_execMasterTakesOffice (s : State) (hC : s.Canon) : CanonO (execMasterTakesOffice s) := by
  unfold execMasterTakesOffice
  with_reducible (repeat' first | assumption | apply canon_ok | apply canon_takeOffice)

theorem canon_execUnlockedPeriodTick (s : State) (hC : s.Canon) : CanonO (execUnlockedPeriodTick s) := by
  unfold execUnlockedPeriodTick
  with_reducible (repeat' first | assumption | apply canon_ok | apply canon_unlockedTick | split)

theorem canon_execBoundComputation (s : State) (hC : s.Canon) : CanonO (execBoundComputation s) := by
  unfold execBoundComputation
  with_reducible (repeat' first | assumption | apply canon_ok | apply canon_computeBound | split)

theorem canon_execTtPeriodWrite (v : Word) (s : State) (hC : s.Canon) : CanonO (execTtPeriodWrite v s) := by
  unfold execTtPeriodWrite
  with_reducible (repeat' first | assumption | apply canon_ok | apply canon_ttPeriodWrite | split)

theorem canon_execDeparture (env : DepEnv) (s : State) (hC : s.Canon) : CanonO (execDeparture env s) := by
  unfold execDeparture
  with_reducible (repeat' first | assumption | apply canon_ok | apply canon_depart)

theorem canon_execEntryReceive (s : State) (hC : s.Canon) : CanonO (execEntryReceive s) := by
  unfold execEntryReceive
  with_reducible (repeat' first | assumption | apply canon_entry | apply canon_ok | apply canon_entryIn | refine canon_takeFrame (by assumption) ?_ | split | (refine canon_of_pair (by assumption) ?_))

theorem canon_execManifestClose (s : State) (hC : s.Canon) : CanonO (execManifestClose s) := by
  unfold execManifestClose
  with_reducible (repeat' first | assumption | ((fail_if_no_progress extract_lets +onlyGivenNames x); (try (refine (fun hx : State.Canon x => ?_ : State.Canon x → _) ?_; (on_goal 1 => clear_value x); (on_goal 2 => unfold x)))) | apply canon_advanceTo | apply canon_ok | apply canon_closeManifest | split)

theorem canon_execCommitDeadline (s : State) (hC : s.Canon) : CanonO (execCommitDeadline s) := by
  unfold execCommitDeadline
  with_reducible (repeat' first | assumption | apply canon_ok | apply canon_advanceTo | apply canon_commitDeadline | split)

theorem canon_takeNotice {s : State} {b : Bool} {q : Frame × NoticeMsg} {t : State} (hp : s.takeNotice b = some (q, t)) (hC : s.Canon) : t.Canon := by
  unfold State.takeNotice at hp
  extract_lets pick at hp
  split at hp
  · split at hp
    · simp only [Option.some.injEq, Prod.mk.injEq] at hp
      rw [← hp.2]
      exact canon_upd hC
    · cases hp
  · cases hp

theorem canon_execFinalNoticeReceive (s : State) (hC : s.Canon) : CanonO (execFinalNoticeReceive s) := by
  unfold execFinalNoticeReceive
  with_reducible (repeat' first | assumption | apply canon_ok | apply canon_noticeIn | refine canon_takeNotice (by assumption) ?_ | split | (refine canon_of_pair (by assumption) ?_))

theorem canon_execRetractionReceive (s : State) (hC : s.Canon) : CanonO (execRetractionReceive s) := by
  unfold execRetractionReceive
  with_reducible (repeat' first | assumption | apply canon_ok | apply canon_noticeIn | refine canon_takeNotice (by assumption) ?_ | split | (refine canon_of_pair (by assumption) ?_))

theorem canon_execPeekReqReceive (s : State) (hC : s.Canon) : CanonO (execPeekReqReceive s) := by
  unfold execPeekReqReceive
  with_reducible (repeat' first | assumption | apply canon_ok | apply canon_peekReqIn | refine canon_takeFrame (by assumption) ?_ | split | (refine canon_of_pair (by assumption) ?_))

theorem canon_peekDone (s : State) (k : Mach) (rd : BitVec 5) (v : Word) (status : Word) (hC : s.Canon) : (State.peekDone s k rd v status).Canon := by
  unfold State.peekDone
  with_reducible (repeat' first | assumption | intro _ | apply canon_modMach | apply canon_wg | apply canon_retire | (fail_if_no_progress (apply canon_upd)))

theorem canon_execPeekRepReceive (s : State) (hC : s.Canon) : CanonO (execPeekRepReceive s) := by
  unfold execPeekRepReceive
  with_reducible (repeat' first | assumption | ((fail_if_no_progress extract_lets +onlyGivenNames x); (try (refine (fun hx : State.Canon x => ?_ : State.Canon x → _) ?_; (on_goal 1 => clear_value x); (on_goal 2 => unfold x)))) | apply canon_notePeek | apply canon_ok | apply canon_peekDone | refine canon_takeFrame (by assumption) ?_ | apply canonO_nextI | split | (refine canon_of_pair (by assumption) ?_) | (fail_if_no_progress (apply canon_upd)))

theorem canon_execPubWrite (k : Fin 64) (i : Fin 2) (v : Word) (s : State) (hC : s.Canon) : CanonO (execPubWrite k i v s) := by
  unfold execPubWrite
  with_reducible (repeat' first | assumption | apply canon_ok | apply canon_pubWrite | split)

theorem canon_execSubWrite (j : Fin 4096) (i : Fin 2) (v : Word) (s : State) (hC : s.Canon) : CanonO (execSubWrite j i v s) := by
  unfold execSubWrite
  with_reducible (repeat' first | assumption | apply canon_ok | apply canon_subWrite | split)

theorem canon_execManiBankSizeWrite (v : Word) (s : State) (hC : s.Canon) : CanonO (execManiBankSizeWrite v s) := by
  unfold execManiBankSizeWrite
  with_reducible (repeat' first | assumption | apply canon_ok | apply canon_bankSizeWrite | split)

theorem canon_execManiRevtRead (t : Triad) (s : State) (hC : s.Canon) : CanonO (execManiRevtRead t s) := by
  unfold execManiRevtRead
  with_reducible (repeat' first | assumption | apply canon_ok | apply canon_revtRead | split)

/-! ### TapolChan -/

theorem canon_execChmode (m : Mach) (gd : BitVec 5) (ga : BitVec 5) (gb : BitVec 5) (s : State) (hC : s.Canon) : CanonO (execChmode m gd ga gb s) := by
  unfold execChmode
  with_reducible (repeat' first | assumption | intro _ | apply canon_issue | apply canon_chanDo)

theorem canon_execChset (m : Mach) (i : BitVec 8) (gd : BitVec 5) (ga : BitVec 5) (gb : BitVec 5) (s : State) (hC : s.Canon) : CanonO (execChset m i gd ga gb s) := by
  unfold execChset
  with_reducible (repeat' first | assumption | intro _ | apply canon_issue | apply canon_illegal | apply canon_chanDo | split)

theorem canon_execChsetStart (m : Mach) (gd : BitVec 5) (ga : BitVec 5) (gb : BitVec 5) (s : State) (hC : s.Canon) : CanonO (execChsetStart m gd ga gb s) := by
  unfold execChsetStart
  with_reducible (repeat' first | assumption | intro _ | apply canon_issue | apply canon_chanDo)

theorem canon_execChget (m : Mach) (i : BitVec 8) (gd : BitVec 5) (ga : BitVec 5) (s : State) (hC : s.Canon) : CanonO (execChget m i gd ga s) := by
  unfold execChget
  with_reducible (repeat' first | assumption | intro _ | apply canon_issue | apply canon_illegal | apply canon_chanDo | split)

theorem canon_execTally (m : Mach) (n : Fin 16) (gd : BitVec 5) (s : State) (hC : s.Canon) : CanonO (execTally m n gd s) := by
  unfold execTally
  with_reducible (repeat' first | assumption | intro _ | ((fail_if_no_progress extract_lets +onlyGivenNames x); (try (refine (fun hx : State.Canon x => ?_ : State.Canon x → _) ?_; (on_goal 1 => clear_value x); (on_goal 2 => unfold x)))) | apply canon_issue | apply canon_ownerTrap | apply canon_tlCheckIn | apply canon_still | apply canon_setRetire | split | (refine canon_of_pair (by assumption) ?_))

theorem canon_execRaise (m : Mach) (gd : BitVec 5) (ga : BitVec 5) (s : State) (hC : s.Canon) : CanonO (execRaise m gd ga s) := by
  unfold execRaise
  with_reducible (repeat' first | assumption | intro _ | ((fail_if_no_progress extract_lets +onlyGivenNames x); (try (refine (fun hx : State.Canon x => ?_ : State.Canon x → _) ?_; (on_goal 1 => clear_value x); (on_goal 2 => unfold x)))) | apply canon_issueStation | apply canon_setRetire | apply canon_raise | apply canon_still | split)

theorem canon_execRoll (m : Mach) (gd : BitVec 5) (s : State) (hC : s.Canon) : CanonO (execRoll m gd s) := by
  unfold execRoll
  with_reducible (repeat' first | assumption | intro _ | ((fail_if_no_progress extract_lets +onlyGivenNames x); (try (refine (fun hx : State.Canon x => ?_ : State.Canon x → _) ?_; (on_goal 1 => clear_value x); (on_goal 2 => unfold x)))) | apply canon_issue | apply canon_rollTrigger | apply canon_still | apply canon_setRetire | split | (refine canon_of_pair (by assumption) ?_))

theorem canon_execRollS (m : Mach) (gd ga : BitVec 5) (s : State) (hC : s.Canon) : CanonO (execRollS m gd ga s) := by
  unfold execRollS
  refine canon_issue _ _ _ hC fun x hx => ?_
  extract_lets w
  refine canon_ite (fun _ => canon_illegal _ _ _ _ hx) fun _ => ?_
  refine canon_ite (fun _ => canon_privTrap _ _ _ hx) fun _ => ?_
  have h1 := canon_rollStation x (x.pair64 m ga) hx
  generalize x.rollStation (x.pair64 m ga) = p at h1
  obtain ⟨c, y⟩ := p
  exact canon_still _ _ _ h1 fun y hy => canon_setRetire _ _ _ _ hy

theorem canon_waitdEnd (s : State) (m : Mach) (man : Bool) (gd : BitVec 5) (hC : s.Canon) : (State.waitdEnd s m man gd).Canon := by
  unfold State.waitdEnd
  with_reducible (repeat' first | assumption | intro _ | ((fail_if_no_progress extract_lets +onlyGivenNames x); (try (refine (fun hx : State.Canon x => ?_ : State.Canon x → _) ?_; (on_goal 1 => clear_value x); (on_goal 2 => unfold x)))) | apply canon_modMach | apply canon_takeHold | apply canon_setRetire | split | (refine canon_of_pair (by assumption) ?_) | (fail_if_no_progress (apply canon_upd)))

theorem canon_waitd (s : State) (m : Mach) (man : Bool) (gd : BitVec 5) (ga : BitVec 5) (hC : s.Canon) : (State.waitd s m man gd ga).Canon := by
  unfold State.waitd
  with_reducible (repeat' first | assumption | intro _ | ((fail_if_no_progress extract_lets +onlyGivenNames x); (try (refine (fun hx : State.Canon x => ?_ : State.Canon x → _) ?_; (on_goal 1 => clear_value x); (on_goal 2 => unfold x)))) | apply canon_waitdEnd | apply canon_modMach | split | (fail_if_no_progress (apply canon_upd)))

theorem canon_execWaitdDep (m : Mach) (gd : BitVec 5) (ga : BitVec 5) (s : State) (hC : s.Canon) : CanonO (execWaitdDep m gd ga s) := by
  unfold execWaitdDep
  with_reducible (repeat' first | assumption | intro _ | apply canon_issue | apply canon_waitd)

theorem canon_execWaitdMan (m : Mach) (gd : BitVec 5) (ga : BitVec 5) (s : State) (hC : s.Canon) : CanonO (execWaitdMan m gd ga s) := by
  unfold execWaitdMan
  with_reducible (repeat' first | assumption | intro _ | apply canon_issue | apply canon_waitd)

theorem canon_execWaitdRelease (m : Mach) (s : State) (hC : s.Canon) : CanonO (execWaitdRelease m s) := by
  unfold execWaitdRelease
  with_reducible (repeat' first | assumption | apply canon_waitd | apply canon_ok | apply canon_waitdEnd | split | (refine canon_of_pair (by assumption) ?_))

theorem canon_execPropose (m : Mach) (gd : BitVec 5) (ga : BitVec 5) (gb : BitVec 5) (s : State) (hC : s.Canon) : CanonO (execPropose m gd ga gb s) := by
  unfold execPropose
  with_reducible (repeat' first | assumption | intro _ | apply canon_issue | apply canon_chanDo | apply canon_propose)

theorem canon_execRetract (m : Mach) (gd : BitVec 5) (ga : BitVec 5) (s : State) (hC : s.Canon) : CanonO (execRetract m gd ga s) := by
  unfold execRetract
  with_reducible (repeat' first | assumption | intro _ | apply canon_issue | apply canon_chanDo | apply canon_retract)

theorem canon_execCommit (m : Mach) (gd : BitVec 5) (ga : BitVec 5) (s : State) (hC : s.Canon) : CanonO (execCommit m gd ga s) := by
  unfold execCommit
  with_reducible (repeat' first | assumption | intro _ | apply canon_issue | apply canon_chanDo | apply canon_commit)

theorem canon_execPeek (m : Mach) (gd : BitVec 5) (ga : BitVec 5) (s : State) (hC : s.Canon) : CanonO (execPeek m gd ga s) := by
  unfold execPeek
  with_reducible (repeat' first | assumption | intro _ | apply canon_issue | apply canon_illegal | apply canon_chanDo | apply canon_peek | split)

/-! ### TapolLong -/

theorem canon_elemRead (s : State) (m : Mach) (a : Nat) (n : Nat) (hC : s.Canon) : (State.elemRead s m a n).2.Canon := by
  unfold State.elemRead
  with_reducible (repeat' first | assumption | ((fail_if_no_progress extract_lets +onlyGivenNames x); (try (refine (fun hx : State.Canon x => ?_ : State.Canon x → _) ?_; (on_goal 1 => clear_value x); (on_goal 2 => unfold x)))) | apply canon_trap | apply canon_eccTouchAll | apply canon_raise | apply canon_sramLoad | apply canon_ok | apply canon_flashLoad | split | (refine canon_of_pair (by assumption) ?_))

theorem canon_elemWrite (s : State) (a : Nat) (bs : List Byte) (hC : s.Canon) : (State.elemWrite s a bs).2.Canon := by
  unfold State.elemWrite
  with_reducible (repeat' first | assumption | apply canon_sramWrite | apply canon_ok | apply canon_trap | split | (refine canon_of_pair (by assumption) ?_))

theorem canon_elemTrap (s : State) (m : Mach) (code : Nat) (detail : Nat) (a : Word) (hC : s.Canon) : (State.elemTrap s m code detail a).Canon := by
  unfold State.elemTrap
  with_reducible (repeat' first | assumption | intro _ | apply canon_still | apply canon_poisonTrap | apply canon_trap | split)

theorem canon_elemOn (s : State) (m : Mach) (reads : List Nat) (n : Nat) (write : Option Nat) (f : State → State) (hC : s.Canon) (hf : ∀ (x0 : State), x0.Canon → (f x0).Canon) : (State.elemOn s m reads n write f).Canon := by
  unfold State.elemOn
  with_reducible (repeat' first | assumption | intro _ | apply canon_accessTrap | apply hf | split | (refine canon_of_pair (by assumption) ?_))

theorem canon_progress (s : State) (m : Mach) (up : List (BitVec 5)) (n : Nat) (gb : BitVec 5) (k : Nat) (hC : s.Canon) : (State.progress s m up n gb k).Canon := by
  unfold State.progress
  with_reducible (repeat' first | assumption | intro _ | ((fail_if_no_progress extract_lets +onlyGivenNames x); (try (refine (fun hx : State.Canon x => ?_ : State.Canon x → _) ?_; (on_goal 1 => clear_value x); (on_goal 2 => unfold x)))) | apply canon_each | apply canon_wg)

theorem canon_elemEnd (s : State) (m : Mach) (gb : BitVec 5) (hC : s.Canon) : (State.elemEnd s m gb).Canon := by
  unfold State.elemEnd
  with_reducible (repeat' first | assumption | intro _ | apply canon_retire | apply canon_modMach | split | (fail_if_no_progress (apply canon_upd)))

theorem canon_longAlign (s : State) (m : Mach) (bad : List Word) (hC : s.Canon) : (State.longAlign s m bad).Canon := by
  unfold State.longAlign
  with_reducible (repeat' first | assumption | ((fail_if_no_progress extract_lets +onlyGivenNames x); (try (refine (fun hx : State.Canon x => ?_ : State.Canon x → _) ?_; (on_goal 1 => clear_value x); (on_goal 2 => unfold x)))) | apply canon_alignTrap | apply canon_takeFree | split | (refine canon_of_pair (by assumption) ?_))

theorem canon_bmovElem (s : State) (m : Mach) (gd : BitVec 5) (ga : BitVec 5) (gb : BitVec 5) (hC : s.Canon) : (State.bmovElem s m gd ga gb).Canon := by
  unfold State.bmovElem
  with_reducible (repeat' first | assumption | intro _ | ((fail_if_no_progress extract_lets +onlyGivenNames x); (try (refine (fun hx : State.Canon x => ?_ : State.Canon x → _) ?_; (on_goal 1 => clear_value x); (on_goal 2 => unfold x)))) | apply canon_elemOn | apply canon_elemRead | apply canon_trap | apply canon_elemTrap | apply canon_ok | apply canon_still | apply canon_elemWrite | apply canon_progress | apply canon_elemEnd | split | (refine canon_of_pair (by assumption) ?_))

theorem canon_execBmov (m : Mach) (gd : BitVec 5) (ga : BitVec 5) (gb : BitVec 5) (s : State) (hC : s.Canon) : CanonO (execBmov m gd ga gb s) := by
  unfold execBmov
  with_reducible (repeat' first | assumption | intro _ | ((fail_if_no_progress extract_lets +onlyGivenNames x); (try (refine (fun hx : State.Canon x => ?_ : State.Canon x → _) ?_; (on_goal 1 => clear_value x); (on_goal 2 => unfold x)))) | apply canon_issue | apply canon_illegal | apply canon_longAlign | apply canon_retire | apply canon_bmovElem | split)

theorem canon_bfillElem (s : State) (m : Mach) (gd : BitVec 5) (ga : BitVec 5) (gb : BitVec 5) (hC : s.Canon) : (State.bfillElem s m gd ga gb).Canon := by
  unfold State.bfillElem
  with_reducible (repeat' first | assumption | intro _ | ((fail_if_no_progress extract_lets +onlyGivenNames x); (try (refine (fun hx : State.Canon x => ?_ : State.Canon x → _) ?_; (on_goal 1 => clear_value x); (on_goal 2 => unfold x)))) | apply canon_elemOn | apply canon_elemWrite | apply canon_trap | apply canon_elemTrap | apply canon_ok | apply canon_still | apply canon_progress | apply canon_elemEnd | split | (refine canon_of_pair (by assumption) ?_))

theorem canon_execBfill (m : Mach) (gd : BitVec 5) (ga : BitVec 5) (gb : BitVec 5) (s : State) (hC : s.Canon) : CanonO (execBfill m gd ga gb s) := by
  unfold execBfill
  with_reducible (repeat' first | assumption | intro _ | ((fail_if_no_progress extract_lets +onlyGivenNames x); (try (refine (fun hx : State.Canon x => ?_ : State.Canon x → _) ?_; (on_goal 1 => clear_value x); (on_goal 2 => unfold x)))) | apply canon_issue | apply canon_illegal | apply canon_longAlign | apply canon_retire | apply canon_bfillElem | split)

theorem canon_bcrcElem (s : State) (m : Mach) (p : Poly) (gd : BitVec 5) (ga : BitVec 5) (gb : BitVec 5) (hC : s.Canon) : (State.bcrcElem s m p gd ga gb).Canon := by
  unfold State.bcrcElem
  with_reducible (repeat' first | assumption | intro _ | ((fail_if_no_progress extract_lets +onlyGivenNames x); (try (refine (fun hx : State.Canon x => ?_ : State.Canon x → _) ?_; (on_goal 1 => clear_value x); (on_goal 2 => unfold x)))) | apply canon_elemOn | apply canon_elemRead | apply canon_trap | apply canon_elemTrap | apply canon_ok | apply canon_still | apply canon_wg | apply canon_progress | apply canon_elemEnd | split | (refine canon_of_pair (by assumption) ?_))

theorem canon_execBcrc (m : Mach) (p : BitVec 2) (gd : BitVec 5) (ga : BitVec 5) (gb : BitVec 5) (s : State) (hC : s.Canon) : CanonO (execBcrc m p gd ga gb s) := by
  unfold execBcrc
  with_reducible (repeat' first | assumption | intro _ | apply canon_issue | apply canon_illegal | apply canon_retire | apply canon_bcrcElem | split)

theorem canon_firvTaps (m : Mach) (coef : Nat) (ga : Nat) (a0 : Nat) (a1 : Nat) (a2 : Int) (s : State) (hC : s.Canon) : (State.firvTaps m coef ga a0 a1 a2 s).2.Canon := by
  induction a0 generalizing m coef ga a1 a2 s with
  | zero => unfold State.firvTaps; with_reducible (repeat' first | assumption | apply canon_elemRead | apply canon_trap | apply canon_ok | split | (refine canon_of_pair (by assumption) ?_))
  | succ n ih => unfold State.firvTaps; with_reducible (repeat' first | apply ih | assumption | apply canon_elemRead | apply canon_trap | apply canon_ok | split | (refine canon_of_pair (by assumption) ?_))

theorem canon_touchWords (s : State) (l : List Nat) (hC : s.Canon) : (State.touchWords s l).Canon := by
  unfold State.touchWords
  with_reducible (repeat' first | assumption | intro _ | apply canon_each | apply canon_eccTouchAll | split)

theorem canon_firvElem (s : State) (m : Mach) (gd : BitVec 5) (ga : BitVec 5) (gb : BitVec 5) (hC : s.Canon) : (State.firvElem s m gd ga gb).Canon := by
  unfold State.firvElem
  with_reducible (repeat' first | assumption | intro _ | ((fail_if_no_progress extract_lets +onlyGivenNames x); (try (refine (fun hx : State.Canon x => ?_ : State.Canon x → _) ?_; (on_goal 1 => clear_value x); (on_goal 2 => unfold x)))) | apply canon_elemOn | apply canon_touchWords | apply canon_still | apply canon_raise | apply canon_elemTrap | apply canon_firvTaps | apply canon_trap | apply canon_ok | apply canon_elemWrite | apply canon_progress | apply canon_elemEnd | split | (refine canon_of_pair (by assumption) ?_))

theorem canon_execFirv (m : Mach) (gd : BitVec 5) (ga : BitVec 5) (gb : BitVec 5) (s : State) (hC : s.Canon) : CanonO (execFirv m gd ga gb s) := by
  unfold execFirv
  with_reducible (repeat' first | assumption | intro _ | ((fail_if_no_progress extract_lets +onlyGivenNames x); (try (refine (fun hx : State.Canon x => ?_ : State.Canon x → _) ?_; (on_goal 1 => clear_value x); (on_goal 2 => unfold x)))) | apply canon_issue | apply canon_illegal | apply canon_longAlign | apply canon_retire | apply canon_firvElem | split)

/-! ### TapolMem -/

theorem canon_load (s : State) (m : Mach) (gd : BitVec 5) (ga : BitVec 5) (i : BitVec 17) (width : Nat) (signed : Bool) (hC : s.Canon) : CanonO (State.load s m gd ga i width signed) := by
  unfold State.load
  with_reducible (repeat' first | assumption | intro _ | apply canon_issue | apply canon_loadStore | (fail_if_no_progress (apply canon_upd)))

theorem canon_store (s : State) (m : Mach) (gd : BitVec 5) (ga : BitVec 5) (i : BitVec 17) (width : Nat) (hC : s.Canon) : CanonO (State.store s m gd ga i width) := by
  unfold State.store
  with_reducible (repeat' first | assumption | intro _ | apply canon_issue | apply canon_loadStore | (fail_if_no_progress (apply canon_upd)))

theorem canon_execLdw (m : Mach) (gd : BitVec 5) (ga : BitVec 5) (i : BitVec 17) (s : State) (hC : s.Canon) : CanonO (execLdw m gd ga i s) := by
  unfold execLdw
  with_reducible (repeat' first | assumption | apply canon_load)

theorem canon_execLdh (m : Mach) (gd : BitVec 5) (ga : BitVec 5) (i : BitVec 17) (s : State) (hC : s.Canon) : CanonO (execLdh m gd ga i s) := by
  unfold execLdh
  with_reducible (repeat' first | assumption | apply canon_load)

theorem canon_execLdhu (m : Mach) (gd : BitVec 5) (ga : BitVec 5) (i : BitVec 17) (s : State) (hC : s.Canon) : CanonO (execLdhu m gd ga i s) := by
  unfold execLdhu
  with_reducible (repeat' first | assumption | apply canon_load)

theorem canon_execLdb (m : Mach) (gd : BitVec 5) (ga : BitVec 5) (i : BitVec 17) (s : State) (hC : s.Canon) : CanonO (execLdb m gd ga i s) := by
  unfold execLdb
  with_reducible (repeat' first | assumption | apply canon_load)

theorem canon_execLdbu (m : Mach) (gd : BitVec 5) (ga : BitVec 5) (i : BitVec 17) (s : State) (hC : s.Canon) : CanonO (execLdbu m gd ga i s) := by
  unfold execLdbu
  with_reducible (repeat' first | assumption | apply canon_load)

theorem canon_execStw (m : Mach) (gd : BitVec 5) (ga : BitVec 5) (i : BitVec 17) (s : State) (hC : s.Canon) : CanonO (execStw m gd ga i s) := by
  unfold execStw
  with_reducible (repeat' first | assumption | apply canon_store)

theorem canon_execSth (m : Mach) (gd : BitVec 5) (ga : BitVec 5) (i : BitVec 17) (s : State) (hC : s.Canon) : CanonO (execSth m gd ga i s) := by
  unfold execSth
  with_reducible (repeat' first | assumption | apply canon_store)

theorem canon_execStb (m : Mach) (gd : BitVec 5) (ga : BitVec 5) (i : BitVec 17) (s : State) (hC : s.Canon) : CanonO (execStb m gd ga i s) := by
  unfold execStb
  with_reducible (repeat' first | assumption | apply canon_store)

theorem canon_atomicDo (s : State) (m : Mach) (gd : BitVec 5) (a : Nat) (p : Word → Bool) (f : Word → Word) (hC : s.Canon) : (State.atomicDo s m gd a p f).Canon := by
  unfold State.atomicDo
  with_reducible (repeat' first | assumption | intro _ | ((fail_if_no_progress extract_lets +onlyGivenNames x); (try (refine (fun hx : State.Canon x => ?_ : State.Canon x → _) ?_; (on_goal 1 => clear_value x); (on_goal 2 => unfold x)))) | apply canon_sramLoad | apply canon_poisonTrap | apply canon_uninitTrap | apply canon_still | apply canon_sramStore | apply canon_setRetire | split | (refine canon_of_pair (by assumption) ?_))

theorem canon_atomic (s : State) (m : Mach) (gd : BitVec 5) (ga : BitVec 5) (p : Word → Bool) (f : Word → Word) (hC : s.Canon) : (State.atomic s m gd ga p f).Canon := by
  unfold State.atomic
  with_reducible (repeat' first | assumption | ((fail_if_no_progress extract_lets +onlyGivenNames x); (try (refine (fun hx : State.Canon x => ?_ : State.Canon x → _) ?_; (on_goal 1 => clear_value x); (on_goal 2 => unfold x)))) | apply canon_alignTrap | apply canon_accessTrap | apply canon_atomicDo | split)

theorem canon_execSwap (m : Mach) (gd : BitVec 5) (ga : BitVec 5) (gb : BitVec 5) (s : State) (hC : s.Canon) : CanonO (execSwap m gd ga gb s) := by
  unfold execSwap
  with_reducible (repeat' first | assumption | intro _ | apply canon_issue | apply canon_atomic)

theorem canon_execAadd (m : Mach) (gd : BitVec 5) (ga : BitVec 5) (gb : BitVec 5) (s : State) (hC : s.Canon) : CanonO (execAadd m gd ga gb s) := by
  unfold execAadd
  with_reducible (repeat' first | assumption | intro _ | apply canon_issue | apply canon_atomic)

theorem canon_execCas (m : Mach) (gd : BitVec 5) (ga : BitVec 5) (gb : BitVec 5) (s : State) (hC : s.Canon) : CanonO (execCas m gd ga gb s) := by
  unfold execCas
  with_reducible (repeat' first | assumption | intro _ | apply canon_issue | apply canon_atomic)

theorem canon_execLds (m : Mach) (w : BitVec 3) (gd : BitVec 5) (ga : BitVec 5) (gb : BitVec 5) (s : State) (hC : s.Canon) : CanonO (execLds m w gd ga gb s) := by
  unfold execLds
  with_reducible (repeat' first | assumption | intro _ | ((fail_if_no_progress extract_lets +onlyGivenNames x); (try (refine (fun hx : State.Canon x => ?_ : State.Canon x → _) ?_; (on_goal 1 => clear_value x); (on_goal 2 => unfold x)))) | apply canon_issue | apply canon_illegal | apply canon_alignTrap | apply canon_stationAccess | split | (refine canon_of_pair (by assumption) ?_) | (fail_if_no_progress (apply canon_upd)))

theorem canon_execSts (m : Mach) (w : BitVec 3) (gd : BitVec 5) (ga : BitVec 5) (gb : BitVec 5) (s : State) (hC : s.Canon) : CanonO (execSts m w gd ga gb s) := by
  unfold execSts
  with_reducible (repeat' first | assumption | intro _ | ((fail_if_no_progress extract_lets +onlyGivenNames x); (try (refine (fun hx : State.Canon x => ?_ : State.Canon x → _) ?_; (on_goal 1 => clear_value x); (on_goal 2 => unfold x)))) | apply canon_issue | apply canon_illegal | apply canon_alignTrap | apply canon_stationAccess | split | (refine canon_of_pair (by assumption) ?_) | (fail_if_no_progress (apply canon_upd)))

/-! ### TriadCmd -/

theorem canon_execPlatformMismatch (t : Triad) (s : State) (hC : s.Canon) : CanonO (execPlatformMismatch t s) := by
  unfold execPlatformMismatch
  with_reducible (repeat' first | assumption | apply canon_ok | apply canon_raise | split)

theorem canon_execLineFillDelivery (t : Triad) (odd : Option (Fin 3)) (s : State) (hC : s.Canon) : CanonO (execLineFillDelivery t odd s) := by
  unfold execLineFillDelivery
  with_reducible (repeat' first | assumption | apply canon_ok | apply canon_becomeOdd | apply canon_startRecovery | split | (refine canon_of_pair (by assumption) ?_))

theorem canon_execVoteOddCore (t : Triad) (c : Fin 3) (kind : Fin 8) (s : State) (hC : s.Canon) : CanonO (execVoteOddCore t c kind s) := by
  unfold execVoteOddCore
  with_reducible (repeat' first | assumption | apply canon_ok | apply canon_becomeOdd | split)

theorem canon_execL1EccError (t : Triad) (c : Fin 3) (s : State) (hC : s.Canon) : CanonO (execL1EccError t c s) := by
  unfold execL1EccError
  with_reducible (repeat' first | assumption | apply canon_ok | apply canon_raise | apply canon_becomeOdd | apply canon_startRecovery | split)

theorem canon_execResyncCopyComplete (t : Triad) (s : State) (hC : s.Canon) : CanonO (execResyncCopyComplete t s) := by
  unfold execResyncCopyComplete
  with_reducible (repeat' first | assumption | intro _ | apply canon_ok | apply canon_modTri | split | (refine canon_of_pair (by assumption) ?_) | (fail_if_no_progress (apply canon_upd)))

theorem canon_execResyncPauseRelease (t : Triad) (agree : Bool) (s : State) (hC : s.Canon) : CanonO (execResyncPauseRelease t agree s) := by
  unfold execResyncPauseRelease
  with_reducible (repeat' first | assumption | intro _ | ((fail_if_no_progress extract_lets +onlyGivenNames x); (try (refine (fun hx : State.Canon x => ?_ : State.Canon x → _) ?_; (on_goal 1 => clear_value x); (on_goal 2 => unfold x)))) | apply canon_setF | apply canon_offF | apply canon_incF | apply canon_recordDuration | apply canon_modTri | apply canon_ok | apply canon_heldHalt | apply canon_oddRaises | split | (refine canon_of_pair (by assumption) ?_) | (fail_if_no_progress (apply canon_upd)))

theorem canon_execPairRecoveryStart (t : Triad) (kind : Fin 8) (s : State) (hC : s.Canon) : CanonO (execPairRecoveryStart t kind s) := by
  unfold execPairRecoveryStart
  with_reducible (repeat' first | assumption | apply canon_ok | apply canon_startRecovery | split)

theorem canon_execPairRecoveryRelease (t : Triad) (s : State) (hC : s.Canon) : CanonO (execPairRecoveryRelease t s) := by
  unfold execPairRecoveryRelease
  with_reducible (repeat' first | assumption | intro _ | ((fail_if_no_progress extract_lets +onlyGivenNames x); (try (refine (fun hx : State.Canon x => ?_ : State.Canon x → _) ?_; (on_goal 1 => clear_value x); (on_goal 2 => unfold x)))) | apply canon_setF | apply canon_offF | apply canon_recordDuration | apply canon_modTri | apply canon_ok | apply canon_heldHalt | apply canon_react | split | (refine canon_of_pair (by assumption) ?_) | (fail_if_no_progress (apply canon_upd)))

theorem canon_execTriadRestart (t : Triad) (s : State) (hC : s.Canon) : CanonO (execTriadRestart t s) := by
  unfold execTriadRestart
  with_reducible (repeat' first | assumption | apply canon_ok | apply canon_requestReset)

theorem canon_execTriadLeavesReset (t : Triad) (s : State) (hC : s.Canon) : CanonO (execTriadLeavesReset t s) := by
  unfold execTriadLeavesReset
  with_reducible (repeat' first | assumption | apply canon_ok | apply canon_leaveReset | split)

end Sys2Proof.Machine
end

