-- ==== Sys2Proof/Laws/Issue.lean ====
section
/-! SUPPORT. An instruction that issues: what it answers, and what one that writes a general register leaves. -/

namespace Sys2Proof.Machine

/-- An instruction that issues acts on the state that its fetch leaves. -/
theorem issue_of_issues {s u : State} {m : Mach} (h : s.Issues m u) (f : State → State) : s.issue m f = ok (f u) :=
  issue_of_fetch s h.can h.noEntry h.noHeal h.fetched f

/-- … and answers what its effect makes of that state, where the effect causes no reset. -/
theorem issue_next {s u : State} {m : Mach} (h : s.Issues m u) (f : State → State) (hr : (f u).rst = u.rst) :
    s.issue m f = .next (f u) := by
  rw [issue_of_issues h, ok_of_due]
  rw [hr]
  exact h.settled

@[simp] theorem retireTo_rst (u : State) (m : Mach) (a : Word) : (u.retireTo m a).rst = u.rst := rfl

/-- A write of a general register, and retirement, leave what `RegResult` says. -/
theorem regResult_retireTo (u : State) (m : Mach) (gd : BitVec 5) (v pc : Word) :
    RegResult u ((u.wg m gd v).retireTo m pc) m gd v pc := by
  have hm : ∀ x : State, x.retireTo m pc = x.modMach m fun y => { y with pc := pc, retire := y.retire + 1, longRun := false, nmiFirst := false } :=
    fun _ => rfl
  have hg : ∀ (x : State) r, (x.retireTo m pc).rg m r = x.rg m r := fun x r => by
    rw [hm]
    unfold State.rg
    rw [mach_modMach_same]
  constructor
  · rw [hg, rg_wg_same]
  · intro r h
    rw [hg, rg_wg_ne u m h]
  · rw [hm, mach_modMach_same]
  · rw [hm, mach_modMach_same, mach_wg]
    split <;> rfl
  · intro k
    rw [hm, show State.rc' _ m k = (u.wg m gd v).rc' m k by unfold State.rc'; rw [mach_modMach_same], rc_wg]
  · intro k h
    rw [hm, mach_modMach_ne _ h, mach_wg_ne u h]
  · exact fun r => getR_of_regs (by simp [hm]) r
  · exact fun a => ⟨by simp [hm, State.sramByte], by simp [hm, State.flashByte]⟩
  · rw [hm]
    unfold State.wg
    split <;> rfl

end Sys2Proof.Machine
end

