-- ==== Sys2Proof/WellFormed.lean ====
section
/-! DEFINITION. Which commands are well formed: operands that the part could meet. `exec` takes the others too, and
does what the rules it follows say of them. -/

namespace Sys2Proof

/-- A requester names a session, a class and a node that exist (R402, R398, R384). -/
def Agent.wf : Agent → Bool
  | .core _ => true
  | .debug => true
  | .session sid cls node => sid < 1024 && 1 ≤ cls && cls ≤ 4 && node ≤ 1022
  | .shunter _ => true

/-- A block that a reset bit belongs to (R78, R91). -/
def Blk.resets : Blk → Bool
  | .sys => false
  | .sigbox => false
  | .tally => false
  | _ => true

/-- A pulse lasts for some time. -/
def NrstLow.wf : NrstLow → Bool
  | .held => true
  | .pulse ns => 0 < ns

/-- The identity words lie in the area of the identity registers (R550). -/
def Fuses.wf (f : Fuses) : Bool := f.ident.all fun p => 8 ≤ p.1 && p.1 < 0xF8 && p.1 % 4 == 0

/-- The word that takes an error exists (R552). -/
def Upset.wf : Upset → Bool
  | .none => true
  | .sram w _ => w < 2 ^ 21
  | .flash w _ => w < 2 ^ 23

/-- The fields of a burst fit the line (R371, R372). -/
def Burst.wf (b : Burst) : Bool := b.lseq < 2 ^ 16 && b.len < 2 ^ 16

/-- The fields of a whistle fit the line (R377). -/
def WhistleMsg.wf (m : WhistleMsg) : Bool := m.origin ≤ 1022 && m.lane < 16

/-- A slave frame has bits, and its register words fit its frame (R529). -/
def SlaveFrame.wf (f : SlaveFrame) : Bool := f.data.length ≤ 128

/-- A command whose operands the part could meet. -/
def Instr.wf : Instr → Bool
  | .intakeValid _ => true
  | .intakeInvalid _ => true
  | .powerFailStart _ => true
  | .holdUpEnd => true
  | .intakeReturnReset => true
  | .vioInLost f => f.wf
  | .vioInRestored => true
  | .railFault => true
  | .powerOn _ => true
  | .otpLoadComplete _ f => f.wf
  | .memoryInitialiserComplete => true
  | .resetRelease _ _ _ => true
  | .bootComplete _ => true
  | .clockMonitorFault _ => true
  | .nrstPulse l => l.wf
  | .chipReset _ => true
  | .nrstStuck _ _ _ => true
  | .nrstRearm => true
  | .blockResetRequest b => b.resets
  | .blockResetDeferredStart b => b.resets
  | .blockLeavesReset b => b.resets
  | .triadRestart _ => true
  | .triadLeavesReset _ => true
  | .sleepReady _ => true
  | .coresGated => true
  | .wakePinEdge => true
  | .aonTimerMatch => true
  | .wakeSupplyUp => true
  | .wakeInterruptDelivery => true
  | .add _ _ _ _ => true
  | .sub _ _ _ _ => true
  | .and _ _ _ _ => true
  | .or _ _ _ _ => true
  | .xor _ _ _ _ => true
  | .andn _ _ _ _ => true
  | .shl _ _ _ _ => true
  | .shr _ _ _ _ => true
  | .shra _ _ _ _ => true
  | .rotr _ _ _ _ => true
  | .clt _ _ _ _ => true
  | .cltu _ _ _ _ => true
  | .min _ _ _ _ => true
  | .max _ _ _ _ => true
  | .minu _ _ _ _ => true
  | .maxu _ _ _ _ => true
  | .clz _ _ _ => true
  | .popc _ _ _ => true
  | .mul _ _ _ _ => true
  | .mulhiS _ _ _ _ => true
  | .mulhiU _ _ _ _ => true
  | .divs _ _ _ _ => true
  | .divu _ _ _ _ => true
  | .mods _ _ _ _ => true
  | .modu _ _ _ _ => true
  | .addi _ _ _ _ => true
  | .andi _ _ _ _ => true
  | .ori _ _ _ _ => true
  | .xori _ _ _ _ => true
  | .clti _ _ _ _ => true
  | .cltiu _ _ _ _ => true
  | .shli _ _ _ _ => true
  | .shri _ _ _ _ => true
  | .shrai _ _ _ _ => true
  | .rotri _ _ _ _ => true
  | .ldhi _ _ _ => true
  | .addpc _ _ _ => true
  | .qadd _ _ _ _ => true
  | .qsub _ _ _ _ => true
  | .qneg _ _ _ => true
  | .qabs _ _ _ => true
  | .qmul _ _ _ _ => true
  | .mac _ _ _ _ => true
  | .msu _ _ _ _ => true
  | .macl _ _ _ _ => true
  | .sats _ _ _ _ => true
  | .satu _ _ _ _ => true
  | .qshl _ _ _ _ => true
  | .qrshr _ _ _ _ => true
  | .ldw _ _ _ _ => true
  | .ldh _ _ _ _ => true
  | .ldhu _ _ _ _ => true
  | .ldb _ _ _ _ => true
  | .ldbu _ _ _ _ => true
  | .stw _ _ _ _ => true
  | .sth _ _ _ _ => true
  | .stb _ _ _ _ => true
  | .swap _ _ _ _ => true
  | .aadd _ _ _ _ => true
  | .cas _ _ _ _ => true
  | .beq _ _ _ _ => true
  | .bne _ _ _ _ => true
  | .blt _ _ _ _ => true
  | .bge _ _ _ _ => true
  | .bltu _ _ _ _ => true
  | .bgeu _ _ _ _ => true
  | .jal _ _ _ => true
  | .jalr _ _ _ _ => true
  | .mfc _ _ _ => true
  | .mtc _ _ _ => true
  | .eret _ => true
  | .nret _ => true
  | .fenceAcq _ => true
  | .fenceRel _ => true
  | .fenceAr _ => true
  | .syscall _ _ => true
  | .breakTrap _ => true
  | .waiti _ => true
  | .waitiRelease _ => true
  | .bmov _ _ _ _ => true
  | .bfill _ _ _ _ => true
  | .bcrc _ _ _ _ _ => true
  | .firv _ _ _ _ => true
  | .chmode _ _ _ _ => true
  | .chset _ _ _ _ _ => true
  | .chsetStart _ _ _ _ => true
  | .chget _ _ _ _ => true
  | .tally _ _ _ => true
  | .raise _ _ _ => true
  | .roll _ _ => true
  | .rollS _ _ _ => true
  | .waitdDep _ _ _ => true
  | .waitdMan _ _ _ => true
  | .waitdRelease _ => true
  | .propose _ _ _ _ => true
  | .retract _ _ _ => true
  | .commit _ _ _ => true
  | .peek _ _ _ => true
  | .lds _ _ _ _ _ => true
  | .sts _ _ _ _ _ => true
  | .crcf _ _ _ _ _ => true
  | .maskableInterruptEntry _ => true
  | .nmiEntry _ => true
  | .platformMismatch _ => true
  | .lineFillDelivery _ _ => true
  | .voteOddCore _ _ _ => true
  | .l1EccError _ _ => true
  | .resyncCopyComplete _ => true
  | .resyncPauseRelease _ _ => true
  | .pairRecoveryStart _ _ => true
  | .pairRecoveryRelease _ => true
  | .timeFrameSendTimer => true
  | .timeFrameReceive => true
  | .linkDelayTimer _ _ => true
  | .selfMasterTimeout => true
  | .masterLossTimeout => true
  | .masterTakesOffice => true
  | .unlockedPeriodTick => true
  | .boundComputation => true
  | .ttPeriodWrite _ => true
  | .conversionLeadStart _ => true
  | .departure _ => true
  | .entryReceive => true
  | .manifestClose => true
  | .commitDeadline => true
  | .finalNoticeReceive => true
  | .retractionReceive => true
  | .peekReqReceive => true
  | .peekRepReceive => true
  | .pubWrite _ _ _ => true
  | .subWrite _ _ _ => true
  | .maniBankSizeWrite _ => true
  | .maniRevtRead _ => true
  | .configurationComplete _ => true
  | .shutdownComplete _ _ => true
  | .channelDieFault _ _ => true
  | .isoFrameReceive _ _ _ => true
  | .isoLinkTimeout _ => true
  | .periodicSelfCheck _ _ => true
  | .sequenceTrigEdge _ _ => true
  | .slotComplete _ _ => true
  | .fastComparatorEvent _ _ => true
  | .debouncedEdge _ _ => true
  | .dieTempReading _ _ => true
  | .dacGridPoint _ => true
  | .boostUpdate _ _ _ _ => true
  | .switchThermalShutdown _ => true
  | .switchAutoRestart _ => true
  | .readbackComplete _ _ _ => true
  | .laneRun _ => true
  | .laneStop _ => true
  | .laneNop _ => true
  | .laneLdi _ => true
  | .laneLdh _ => true
  | .laneAddi _ => true
  | .laneAdd _ => true
  | .laneSub _ => true
  | .laneBr _ => true
  | .laneWait _ => true
  | .laneWaitRelease _ => true
  | .laneActOff _ => true
  | .laneActOn _ => true
  | .laneActSet _ => true
  | .laneActRefuge _ => true
  | .laneActConv _ => true
  | .laneWhistle _ => true
  | .laneTime _ => true
  | .laneDelay _ => true
  | .laneDelayExpiry _ => true
  | .laneRead _ => true
  | .laneNote _ => true
  | .laneClr _ => true
  | .laneHalt _ => true
  | .reflexActionArrival => true
  | .laneCompareFault _ => true
  | .whistleReceive _ m => m.wf
  | .diagActivation _ _ => true
  | .diagDeactivation _ _ => true
  | .signalDetect _ => true
  | .trainExchangeComplete _ _ => true
  | .linkDelayComplete _ _ => true
  | .trainFailTimeout _ _ => true
  | .trainRetry _ => true
  | .burstReceive _ b => b.wf
  | .ackReceive _ _ _ => true
  | .nackReceive _ _ _ => true
  | .markSend _ => true
  | .markReceive _ _ _ => true
  | .replayTimeout _ => true
  | .silentCheckInterval _ => true
  | .linkLoss _ _ => true
  | .pointsClose _ => true
  | .dampedEnd _ => true
  | .ringOpenTimeout => true
  | .presenceTimer => true
  | .presenceReceive => true
  | .topologyReceive => true
  | .assignReceive => true
  | .wakeFrameReceive => true
  | .refuseReceive => true
  | .ovTxWake _ => true
  | .ovTxAssign _ => true
  | .ovRetrain _ => true
  | .ovPortDisable _ _ => true
  | .sessReqReceive => true
  | .sessionServiceStart _ => true
  | .sessRepReceive => true
  | .requestTimeout _ _ => true
  | .replayWindowRelease _ _ => true
  | .safetyShareInterval => true
  | .loadKey => true
  | .entryClear => true
  | .ssBootWrite _ => true
  | .shGo _ => true
  | .shResume _ => true
  | .shStop _ => true
  | .waybillFetchComplete _ => true
  | .localPieceResponse _ => true
  | .localAccessTimeout _ => true
  | .pieceRetryTimer _ => true
  | .crcUnitWaitTimeout _ => true
  | .waybillWritebackComplete _ => true
  | .shuntEngineMismatch _ => true
  | .plAllocRead by_ => by_.wf
  | .plFreeWrite by_ _ => by_.wf
  | .plGiveWrite by_ _ => by_.wf
  | .plReclaimWrite by_ _ => by_.wf
  | .wagonMarkComplete => true
  | .plBaseWrite _ => true
  | .poolSweepComplete => true
  | .cuClaim _ => true
  | .cuRelease _ => true
  | .cuStart _ by_ => by_.wf
  | .cuFold _ by_ => by_.wf
  | .cuData8Write _ by_ _ => by_.wf
  | .cuData16Write _ by_ _ => by_.wf
  | .cuData32Write _ by_ _ => by_.wf
  | .walkerVisit u => u.wf
  | .pageHealComplete => true
  | .patrolPeriodEnd => true
  | .ptLogRead => true
  | .csWrite => true
  | .calCopyComplete => true
  | .calEraseComplete _ => true
  | .calProgramComplete => true
  | .calVerifyComplete _ => true
  | .calCommitComplete => true
  | .fpKeyWrite _ => true
  | .fpErase => true
  | .fpProgram => true
  | .fpEraseComplete _ => true
  | .fpProgramComplete _ => true
  | .sourceRaise _ _ => true
  | .wireBreak _ _ _ => true
  | .wireRearm _ => true
  | .collectorMismatch => true
  | .quietTimerExpiry => true
  | .sbCfgWrite _ _ => true
  | .sbLock => true
  | .tallyWindowOpen => true
  | .tallyPeriodEnd => true
  | .tallyCountStartTimeout => true
  | .eraseGuardExpiry => true
  | .consecClearTimeout => true
  | .tallyCopyMismatch => true
  | .tlKeyWrite _ => true
  | .tlEnWrite _ => true
  | .tlCtrlEnWrite _ => true
  | .tlLock => true
  | .tlDbgHoldWrite _ => true
  | .tlPeriodWrite _ => true
  | .tlEscWrite _ => true
  | .rfgRelWrite by_ _ => by_.wf
  | .spxCfgWrite _ => true
  | .spxGo _ => true
  | .spxAbort => true
  | .spxTxFlush => true
  | .spxRxFlush => true
  | .masterFrameEnd => true
  | .spxTxWindowWrite _ => true
  | .spxRxWindowRead => true
  | .spxModeFault => true
  | .slaveSelectFall => true
  | .slaveFrameApply f => f.wf
  | .mailboxRead => true
  | .mailboxWrite _ => true
  | .spxNegReset => true
  | .rollcallPadEdge _ => true
  | .rcTrigger => true
  | .rcRelease => true
  | .rcCancel => true
  | .rollcallFrameReceive => true
  | .stationRollcallTime => true
  | .tapReset => true
  | .debugNop => true
  | .debugRead _ => true
  | .debugWrite _ _ => true
  | .debugAttach _ => true
  | .debugDetach _ => true
  | .debugHalt _ => true
  | .debugResume _ => true
  | .debugStep _ => true
  | .debugRegRead _ _ _ => true
  | .debugRegWrite _ _ _ _ => true
  | .debugChipReset _ => true
  | .latchingLoRead _ => true
  | .registerWrite by_ a _ => by_.wf && a.toNat % 4 == 0 && 0x4000_0000 ≤ a.toNat && a.toNat < 0x8000_0000
  | .clockMonitorClears _ => true
  | .replayHoldBackTimeout _ => true
  | .presenceReachTimeout _ => true

end Sys2Proof
end

