-- ==== Sys2Proof/Tests/Slice0.lean ====
section
/-! SUPPORT. Tests against the spec's own numbers, ill-formed commands that `Instr.wf` refuses, and for each statement a state and
operands that meet its hypotheses. -/

open Sys2Proof Sys2Proof.Machine

section

set_option Elab.async false


/-! ### States that meet the hypotheses of the statements -/

/-- A machine at the instruction at 0x1000, with its vector table at 0x3000 and some general registers. -/
def Tests.machine (g : List (Nat × Word)) : MachState :=
  { resetMach 0x3000 0x1000 with g := g.foldl (fun v p => v.set! p.1 p.2) (Vector.replicate 32 0) }

/-- A module that runs, boot complete, with an image of one task on machine A0. Machine A0 is at STATION level; written are the word
at 0x1000, 128 bytes from 0x2000, and a vector table at 0x3000 with handlers at 0x4000, 0x5000 (NMI) and 0x6000 (vector 0). -/
def Tests.run : State :=
  { State.reset.setF Fd.BOOT_STAT_RESULT 1 with
    phase := .running
    pwr := { aux24 := true, vioOk := true, memInit := true, otpLoaded := true }
    image := some { vbase := 0x3000, entryA := 0x1000, entryB := 0x1000, restartA := 0x1000, restartB := 0x1000
                    tasks := [{ id := 1, triad := 0, slot := 0, safe := false, channels := 0xFFFF, tallies := 0xFFFF }] }
    machs := Vector.replicate 4 (Tests.machine [(2, 0x2000), (3, 0x0180), (4, 0x2040), (5, 0x2010), (6, 1), (7, 0x8000_0000), (8, 0x20), (9, 0x2001)])
    sram := [(0x2000, 0x12), (0x2003, 0x80), (0x2040, 0x34), (0x3001, 0x40), (0x3005, 0x50), (0x3101, 0x60)]
    sramMark := (0x200, .written) :: (List.range 16).map (fun i => (0x400 + i, .written)) ++ (List.range 64).map (fun i => (0x600 + i, .written)) }

def Tests.withG (g : List (Nat × Word)) (s : State := Tests.run) : State := s.modMach .a0 fun x => { x with g := (Tests.machine g).g }

/-- The same at TASK level, task 1 running, every address in the store window. -/
def Tests.task (s : State := Tests.run) : State :=
  (((s.wc .a0 cStatus 0).wc .a0 cTaskid 1).wc .a0 cTwinHi 0x0100_0000)

/-- The bytes of words at an address of SRAM, in canonical form. -/
def Tests.cells (a : Nat) (l : List Word) : List Host.Cell :=
  ((wordBytes l).zipIdx.filter fun p => p.1 != 0).map fun p => (a + p.2, p.1)

/-- A record for channel `n` in the mode of a high-side switch, with its check. -/
def Tests.record (n : Nat) : List Word :=
  let r : List Word := [0x301, 0, 0, 1, 0, 0, 0, 0, 0, 0, 0, 0, 0, 0, 0]
  r ++ [.ofNat (recCheck n r)]

/-- Channel `n` in a state, with what it holds. -/
def Tests.chan (n : Fin 16) (st : Nat) (h : ChanH) (s : State := Tests.run) : State :=
  (((s.setF (Fd.CH_STATE_STATE n.val) st).setF (Fd.CH_STATE_MODE n.val) h.cfg.mode).dieReport n).setCh n h

/-- A high-side switch, a voltage input, a voltage output, and a counter. -/
def Tests.hs : ChCfg := .ofRec (Tests.record 0)
def Tests.vi : ChCfg := { mode := mVI, variant := 0, items := [(1, 0x34D), (2, 0x11), (5, 0x8000), (6, 1000), (7, 500), (0x20, 0), (0x21, 0)] }
def Tests.vo : ChCfg := { mode := mVO, variant := 0, items := [(0x10, 0x64_0F19), (0x11, 100), (0x20, 0x0008_000E), (0x21, 0x1234_3000)] }
def Tests.ctr : ChCfg := { mode := mCounter, variant := 1, items := [(8, 0x1_0005), (0x20, 0), (0x21, 0)] }

/-- The node is locked: epoch 7 is next, at 7 ms, and the departures follow every millisecond. -/
def Tests.locked (s : State := Tests.run) : State :=
  { (((s.onF Fd.TT_STAT_LOCKED).setF Fd.TT_PERIOD_ACT_PERIOD 1000).setF Fd.TT_CLOSE_C 100) with
    tt := { clk := 6_000_100, epoch := 6, nextE := 7, anchorE := 0, anchorT := 0, ran := true, started := true, wasLocked := true, heard := true } }

/-- The node has an ID of its own, both ports linked at revision 2.0. -/
def Tests.net (s : State := Tests.run) : State :=
  [Port.east, .west].foldl (fun s p => ((s.setF (Fd.OV_PSTAT_STATE p.idx) 2).setF (Fd.OV_PSTAT_REV p.idx) 2))
    { (((s.setF Fd.OV_NODE_ID 5).onF Fd.OV_NODE_NUMBERED).setF Fd.TT_MASTER_REV 2) with
      ov := { nodes := [(9, { port := .east, serial := 900, rev := 2, eastSt := 2, westSt := 2, delay := 100, volume := 10 })] } }

/-- A session with node 9 that this node may use as a client and serves, class SAFETY, over the whole of SRAM. -/
def Tests.entry : SessEntry :=
  { cfg := 0x0101_3F33, peer := 9, key := Vector.replicate 8 0x1234, tx := 1, base := #v[0xC000_0000, 0, 0, 0, 0, 0, 0, 0], lim := #v[0x1000, 0, 0, 0, 0, 0, 0, 0] }

def Tests.sess (s : State := Tests.net) : State := { s with ss := { s.ss with entries := [(3, Tests.entry)] } }

/-- A request and a reply under that session, without their tags. -/
def Tests.req : SessReqMsg :=
  { sid := 3, op := 1, expGen := 0, reqGen := 1, reqBlk := 11, len := 4, issueT := 0, counter := 5, tag := 0, data := [1, 2, 3, 4] }
def Tests.rep : SessRepMsg :=
  { sid := 3, reply := 0, tgen := 7, reqGen := 1, reqBlk := 11, len := 4, qdepth := 2, counter := 5, tag := 0, data := [1, 2, 3, 0x84] }

/-- The sources with the reaction STICKY. -/
def Tests.hush (l : List Nat) (s : State := Tests.run) : State := l.foldl (fun s k => s.setR (Rg.SB_CFG k) 1) s

/-- The node identity record of node 5, in flash. -/
def Tests.identity : List Host.Cell :=
  let r : List Word := [1, 5, 0, 0, 0, 0, 0, 0, 0, 0, 0, 0, 0, 0, 0]
  (((wordBytes (r ++ [.ofNat (crcFold .crc32c 0x13FF_F000 1 (wordBytes r))])).zipIdx).filter fun p => p.1 != 0xFF).map fun p => (0x13FF_F000 + p.2, p.1)

/-- A waybill of 128 bytes from 0x2000 to 0x4000. -/
def Tests.waybill : List Word := [0x8000_0000, 0, 0, 0, 0x2000, 0x8000_0000, 128, 0, 0x4000, 0x8000_0000, 128, 0, 0, 0, 0, 0]

/-- Shunter `n` RUNNING on the waybill at 0x2000. -/
def Tests.shunt (n : Fin 16) (h : ShuntH) (s : State := Tests.run) : State :=
  ((((s.setF (Fd.SH_STAT_STATE n.val) 1).setBitF Fd.SH_BUSY_BUSY n.val).setR (Rg.SH_CUR_LO n.val) 0x2000).setR (Rg.SH_CUR_HI n.val) 0x8000_0000).setShu n h

/-- Lane `n` RUNNING at a word of its program. -/
def Tests.lane (n : Fin 16) (w : Word) (s : State := Tests.run) : State := (s.setF (Fd.RFX_STAT_STATE n.val) 1).setR (Rg.RFX_PROG n.val 0) w

theorem Tests.reqPayload_tag (m : SessReqMsg) (x : DWord) : reqPayload { m with tag := x } = reqPayload m := rfl

/-- A message that carries the tag over its payload is tagged right. -/
theorem Tests.req_tag_eq (e : SessEntry) (d o : Nat) (m n : SessReqMsg) (he : e.key = Tests.entry.key)
    (hm : m = { n with tag := tagOf Tests.entry.key d o (reqPayload n) }) : tagOf e.key d o (reqPayload m) = m.tag := by
  rw [he, hm, Tests.reqPayload_tag]

/-- One whose tag is one more is not. -/
theorem Tests.req_tag_ne (e : SessEntry) (d o : Nat) (m : SessReqMsg) (he : e.key = Tests.entry.key)
    (hm : m = { Tests.req with tag := tagOf Tests.entry.key d o (reqPayload Tests.req) + 1 }) : tagOf e.key d o (reqPayload m) ≠ m.tag := by
  rw [he, hm, Tests.reqPayload_tag]
  generalize tagOf Tests.entry.key d o (reqPayload Tests.req) = y
  bv_omega

theorem Tests.repPayload_tag (m : SessRepMsg) (x : DWord) : repPayload { m with tag := x } = repPayload m := rfl

/-- A message that carries the tag over its payload is tagged right. -/
theorem Tests.rep_tag_eq (e : SessEntry) (d o : Nat) (m n : SessRepMsg) (he : e.key = Tests.entry.key)
    (hm : m = { n with tag := tagOf Tests.entry.key d o (repPayload n) }) : tagOf e.key d o (repPayload m) = m.tag := by
  rw [he, hm, Tests.repPayload_tag]

/-- One whose tag is one more is not. -/
theorem Tests.rep_tag_ne (e : SessEntry) (d o : Nat) (m : SessRepMsg) (he : e.key = Tests.entry.key)
    (hm : m = { Tests.rep with tag := tagOf Tests.entry.key d o (repPayload Tests.rep) + 1 }) : tagOf e.key d o (repPayload m) ≠ m.tag := by
  rw [he, hm, Tests.repPayload_tag]
  generalize tagOf Tests.entry.key d o (repPayload Tests.rep) = y
  bv_omega


/-! ### Ill-formed commands -/

theorem test_wf_requester_of_a_session_that_is_not : (Instr.cuStart 0 (.session 1024 1 9)).wf = false := by decide

theorem test_wf_requester_of_a_class_that_is_not : (Instr.plFreeWrite (.session 3 5 9) 0).wf = false := by decide

theorem test_wf_block_without_a_reset_bit : (Instr.blockResetRequest .sys).wf = false := by decide

theorem test_wf_pulse_of_no_length : (Instr.nrstPulse (.pulse 0)).wf = false := by decide

theorem test_wf_identity_word_outside_its_area : (Instr.otpLoadComplete true { ident := [(0xF8, 1)] }).wf = false := by decide

theorem test_wf_word_beyond_sram : (Instr.walkerVisit (.sram 0x20_0000 .single)).wf = false := by decide

theorem test_wf_burst_with_a_long_number :
    (Instr.burstReceive .east { frame := { dest := 0, src := 1, oseq := 0, cls := 1, body := .wake }, lseq := 65536, len := 0, check := 0
                                last := eofWord }).wf = false := by
  decide

theorem test_wf_whistle_of_no_lane :
    (Instr.whistleReceive .east { seq := 0, hops := 1, origin := 9, lane := 16, code := 0, time := 0, check := 0 }).wf = false := by decide

theorem test_wf_slave_frame_too_long : (Instr.slaveFrameApply { data := List.replicate 129 0 }).wf = false := by decide +kernel

theorem test_wf_register_write_outside_the_registers : (Instr.registerWrite (.core .a0) 0x2000 0).wf = false := by decide

theorem test_wf_register_write_unaligned : (Instr.registerWrite (.core .a0) 0x4008_2002 0).wf = false := by decide

/-! ### The spec's own numbers -/

/-- R449: the catalogue values over "123456789". -/
theorem test_crc_catalogue :
    let nine : List Byte := [0x31, 0x32, 0x33, 0x34, 0x35, 0x36, 0x37, 0x38, 0x39]
    (crcBytes .crc32 Poly.crc32.init nine ^^^ Poly.crc32.final = 0xCBF4_3926) ∧
    (crcBytes .crc32c Poly.crc32c.init nine ^^^ Poly.crc32c.final = 0xE306_9283) ∧
    (crcBytes .crc16 Poly.crc16.init nine ^^^ Poly.crc16.final = 0x29B1) ∧
    (crcBytes .crc8 Poly.crc8.init nine ^^^ Poly.crc8.final = 0xDF) := by
  decide +kernel

/-- The examples of 05_tapol_instructions.md: `addi g5, g3, -12`, and a COMMIT of g11 into g10. -/
theorem test_decode_examples :
    decodeTapol .a0 0x0947_FFF4 = some (.addi .a0 5 3 0x1FFF4) ∧ decodeTapol .a0 0xFA96_0300 = some (.commit .a0 10 11) := by
  decide +kernel

/-- The example of the trim in 10_actuation.md: 12.000 mA with GAIN 1,500 and OFS 6,000 nA. -/
theorem test_drive_example :
    ({ cfg := { mode := mCO, variant := 0, items := [] }, target := 12000000, pos := 12000000, trimGain := 1500, trimOfs := 6000 } : ChanH).drive
      = some 11976036 := by
  decide +kernel

/-- R213: entry 2 of node 5. -/
theorem test_entry_address : entryAddr 5 2 = 0x1400_4008_2020 := by decide

/-- The example behind R139: `ldhi g6, 0x8020` loads the address of the CH0 block. -/
theorem test_ldhi_example : (Tests.run.endStep .a0).fetch .a0 = (true, Tests.run) ∧
    (match exec (.ldhi .a0 6 0x8020) Tests.run with | .next t => t.rg .a0 6 | _ => 0) = 0x4010_0000 := by
  decide +kernel

/-- R138: 0x8000_0000 by 0xFFFF_FFFF. -/
theorem test_divs_corner :
    let s := Tests.withG [(2, 0x8000_0000), (3, 0xFFFF_FFFF)]
    (match exec (.divs .a0 4 2 3) s with | .next t => t.rg .a0 4 | _ => 0) = 0x7FFF_FFFF ∧
    (match exec (.mods .a0 4 2 3) s with | .next t => t.rg .a0 4 | _ => 1) = 0 := by
  decide +kernel

/-- The example of the trim session in 10_actuation.md: GAIN = 1,500 and OFS = 6,000 nA, APPLIED. -/
theorem test_trim_example :
    let h : ChanH := { cfg := { mode := mCO, variant := 0, items := [(0x14, 4012000), (0x15, 20036000)] } }
    h.trimApply.trimGain = 1500 ∧ h.trimApply.trimOfs = 6000 ∧ h.trimApply.trimRes = 1 := by
  decide

theorem test_reset_holds_its_reset_words :
    State.reset.getR Rg.TL_PERIOD = .ofNat Rg.TL_PERIOD.rst ∧ State.reset.pending = [] ∧ State.reset.phase = .powerOn := by
  decide

theorem test_step_runs_the_front_command :
    step { Tests.run with pending := [.sbLock, .tapReset] } = exec .sbLock { Tests.run with pending := [.tapReset] } := by
  rfl

/-! ### The statements' hypotheses can be met -/

theorem Tests.canon {s : State} (h : s.regsWf = true ∧ s.memWf = true) : s.Canon := h

theorem Tests.run_issues : Tests.run.Issues .a0 Tests.run := by
  refine ⟨?_, ?_, ?_, ?_, ?_⟩ <;> decide +kernel

/-- A burst that carries its own CHECK is accepted where the rest of it is right. -/
theorem Tests.burst_accepted (b : Burst) (h : (b.len ≤ 512 && (!(b.pair && !b.second) || b.len == 512) && burstPadOk b
    && b.codeErrs == 0 && b.last == eofWord) = true) : burstAccepted { b with check := burstSum b + 0 } = true := by
  have e : burstSum { b with check := burstSum b + 0 } = burstSum b := rfl
  have p : burstPadOk { b with check := burstSum b + 0 } = burstPadOk b := rfl
  simp only [burstAccepted, e, p]
  simpa using h

theorem witness_StepRunsTheFrontCommand :
    (∃ (s : State) (c : Instr) (r : List Instr), s.pending = c :: r) ∧ ∃ s : State, s.pending = [] :=
  ⟨⟨{ Tests.run with pending := [.sbLock] }, .sbLock, [], rfl⟩, Tests.run, rfl⟩

theorem witness_CanonKept : ∃ s t : State, s.Canon ∧ step s = .next t :=
  ⟨{ Tests.run with pending := [.sbLock] }, _, by unfold State.Canon; decide +kernel, rfl⟩

theorem witness_AluRegisterForms :
    ∃ (s u : State) (m : Mach), s.Issues m u := by
  refine ⟨Tests.run, Tests.run, .a0, Tests.run_issues⟩

theorem witness_Divisions :
    ∃ (s u : State) (m : Mach), s.Issues m u := by
  refine ⟨Tests.run, Tests.run, .a0, Tests.run_issues⟩

theorem witness_ImmediateFormsAndAccumulate :
    (∃ (s u : State) (m : Mach), s.Issues m u) ∧ (∃ (s u : State) (m : Mach), s.Issues m u ∧ ∃ gd : BitVec 5, gd ≠ 0 ∧
      gd.toNat % 2 = 0) := by
  refine ⟨⟨Tests.run, Tests.run, .a0, Tests.run_issues⟩, ⟨Tests.run, Tests.run, .a0, Tests.run_issues, 2, ?_,
    ?_⟩⟩ <;> decide +kernel

theorem witness_BranchesAndJumps :
    (∃ (s u : State) (m : Mach), s.Issues m u) ∧ ((∃ (s u : State) (m : Mach), s.Issues m u ∧ ∃ ga : BitVec 5, (∃ i : BitVec 17,
      let target : Word := .ofInt ((u.rg m ga).toInt + i.toInt); target.toNat % 4 = 0) ∧ (∃ i : BitVec 17,
      let target : Word := .ofInt ((u.rg m ga).toInt + i.toInt); target.toNat % 4 ≠ 0 ∧ u.exl m = false ∧ ∃ h,
      u.VectorReady m 0 h)) ∧ (∃ (t : State) (m : Mach), t.alive m = true ∧ (t.mach m).nmiFirst = false ∧
      inSram (t.mach m).pc.toNat = false ∧ inFlash (t.mach m).pc.toNat = false ∧ t.exl m = false ∧ ∃ h : Word,
      t.VectorReady m 0 h)) := by
  refine ⟨⟨Tests.run, Tests.run, .a0, Tests.run_issues⟩, ⟨⟨Tests.run, Tests.run, .a0, Tests.run_issues, 0, ⟨0, ?_⟩, ⟨1, ?_, ?_,
    16384, ⟨⟨?_, ?_, ?_, ?_⟩, ?_, ?_⟩⟩⟩, ⟨(Tests.run.modMach .a0 fun x => { x with pc := 0xF0000000 }), .a0, ?_, ?_, ?_, ?_, ?_,
    16384, ⟨⟨?_, ?_, ?_, ?_⟩, ?_, ?_⟩⟩⟩⟩ <;> decide +kernel

theorem witness_LoadsFromSram :
    ∃ (s u : State) (m : Mach), s.Issues m u ∧ ∃ p ∈ ([(.ldw, 4, false), (.ldh, 2, true), (.ldhu, 2, false), (.ldb, 1, true),
      (.ldbu, 1, false)] : List ((Mach → BitVec 5 → BitVec 5 → BitVec 17 → Instr) × Nat × Bool)),
      ∃ (ga : BitVec 5) (i : BitVec 17), let a := (Word.ofInt ((u.rg m ga).toInt + i.toInt)).toNat; a % p.2.1 = 0 ∧
      u.SramReady a p.2.1 ∧ (∀ k < p.2.1, u.markOf ((a + k) / 8) = some .written) := by
  refine ⟨Tests.run, Tests.run, .a0, Tests.run_issues, _, .head _, 2, 0, ?_, ⟨?_, ?_, ?_, ?_⟩, ?_⟩ <;> decide +kernel

theorem witness_StoresToSram :
    ∃ (s u : State) (m : Mach), s.Issues m u ∧ u.Canon ∧ ∃ p ∈ ([(.stw, 4), (.sth, 2), (.stb, 1)] : List ((Mach → BitVec 5 →
      BitVec 5 → BitVec 17 → Instr) × Nat)), ∃ (ga : BitVec 5) (i : BitVec 17), let a := (u.effAddr m ga i).toNat; a % p.2 = 0 ∧
      u.SramReady a p.2 ∧ (u.atStation m = true ∨ u.inTwin m a p.2 = true) := by
  refine ⟨Tests.run, Tests.run, .a0, Tests.run_issues, Tests.canon ?_, _, .head _, 0, 0, ?_, ⟨?_, ?_, ?_, ?_⟩,
    ?_⟩ <;> decide +kernel

theorem witness_Atomics :
    ∃ (s u : State) (m : Mach), s.Issues m u ∧ u.Canon ∧ ∃ ga : BitVec 5, let a := (u.rg m ga).toNat; a % 4 = 0 ∧
      u.SramReady a 4 ∧ u.markOf (a / 8) = some .written ∧ (u.atStation m = true ∨ u.inTwin m a 4 = true) := by
  refine ⟨Tests.run, Tests.run, .a0, Tests.run_issues, Tests.canon ?_, 2, ?_, ⟨?_, ?_, ?_, ?_⟩, ?_, ?_⟩ <;> decide +kernel

theorem witness_MisalignedAccessTraps :
    ∃ (s u : State) (m : Mach), s.Issues m u ∧ ∃ p ∈ ([(.ldw, 4), (.ldh, 2), (.ldhu, 2), (.stw, 4), (.sth, 2)] : List ((Mach →
      BitVec 5 → BitVec 5 → BitVec 17 → Instr) × Nat)), ∃ (ga : BitVec 5) (i : BitVec 17), (u.effAddr m ga i).toNat % p.2 ≠ 0 := by
  refine ⟨Tests.run, Tests.run, .a0, Tests.run_issues, _, .head _, 0, 1, ?_⟩
  decide +kernel

theorem witness_LongInstructions :
    (∃ (s u : State) (m : Mach), s.Issues m u ∧ u.Canon ∧ ∃ gd : BitVec 5, gd ≠ 0 ∧ (∃ ga : BitVec 5, ga ≠ 0 ∧ ∃ gb : BitVec 5,
      gb ≠ 0 ∧ gd ≠ ga ∧ gd ≠ gb ∧ ga ≠ gb ∧ let c := (u.rg m gb).toNat; c % 4 = 0 ∧ c ≠ 0 ∧ let d := (u.rg m gd).toNat;
      d % 4 = 0 ∧ (u.atStation m = true ∨ u.inTwin m d 8 = true) ∧ u.SramReady d 8 ∧ let a := (u.rg m ga).toNat; a % 4 = 0 ∧
      u.SramReady a 8 ∧ (∀ k < 8, u.markOf ((a + k) / 8) = some .written)) ∧ (∃ ga : BitVec 5, ga ≠ 0 ∧ ∃ gb : BitVec 5, gb ≠ 0 ∧
      gd ≠ ga ∧ gd ≠ gb ∧ ga ≠ gb ∧ let c := (u.rg m gb).toNat; c % 4 = 0 ∧ c ≠ 0 ∧ let d := (u.rg m gd).toNat; d % 4 = 0 ∧
      (u.atStation m = true ∨ u.inTwin m d 8 = true) ∧ u.SramReady d 8)) ∧ (∃ (s u : State) (m : Mach), s.Issues m u ∧
      (∃ gd : BitVec 5, gd ≠ 0 ∧ ∃ ga : BitVec 5, ga ≠ 0 ∧ ∃ gb : BitVec 5, gb ≠ 0 ∧ gd ≠ ga ∧ gd ≠ gb ∧ ga ≠ gb ∧
      let c := (u.rg m gb).toNat; c ≠ 0 ∧ let a := (u.rg m ga).toNat; a + 8 ≤ 0x100_0000 ∧ let n := min 8 c; u.SramReady a n ∧
      (∀ k < n, u.markOf ((a + k) / 8) = some .written)) ∧ (∃ ga : BitVec 5, ga ≠ 0 ∧ ga.toNat % 2 = 0)) ∧
      (∃ (s u : State) (m : Mach), s.Issues m u ∧ u.Canon ∧ ∃ gd : BitVec 5, gd ≠ 0 ∧ gd ≠ 31 ∧ ∃ ga : BitVec 5, ga ≠ 0 ∧
      ∃ gb : BitVec 5, gb ≠ 0 ∧ gd ≠ ga ∧ gd ≠ gb ∧ ga ≠ gb ∧ u.rg m gb ≠ 0 ∧ let d := (u.rg m gd).toNat; d % 4 = 0 ∧
      let a := (u.rg m ga).toNat; a % 4 = 0 ∧ let k := (u.rg m (gd + 1)).toNat; k % 64 = 0 ∧ u.SramReady d 4 ∧ u.SramReady a 4 ∧
      u.SramReady k 4 ∧ u.markOf (a / 8) = some .written ∧ u.markOf (k / 8) = some .written ∧
      (u.atStation m = true ∨ u.inTwin m d 4 = true)) := by
  refine ⟨⟨Tests.run, Tests.run, .a0, Tests.run_issues, Tests.canon ?_, 2, ?_, ⟨4, ?_, 3, ?_, ?_, ?_, ?_, ?_, ?_, ?_, ?_, ⟨?_,
    ?_, ?_, ?_⟩, ?_, ⟨?_, ?_, ?_, ?_⟩, ?_⟩, ⟨3, ?_, 4, ?_, ?_, ?_, ?_, ?_, ?_, ?_, ?_, ⟨?_, ?_, ?_, ?_⟩⟩⟩, ⟨Tests.run, Tests.run,
    .a0, Tests.run_issues, ⟨2, ?_, 4, ?_, 3, ?_, ?_, ?_, ?_, ?_, ?_, ⟨?_, ?_, ?_, ?_⟩, ?_⟩, ⟨2, ?_, ?_⟩⟩, ⟨Tests.run, Tests.run,
    .a0, Tests.run_issues, Tests.canon ?_, 3, ?_, ?_, 2, ?_, 4, ?_, ?_, ?_, ?_, ?_, ?_, ?_, ?_, ⟨?_, ?_, ?_, ?_⟩, ⟨?_, ?_, ?_,
    ?_⟩, ⟨?_, ?_, ?_, ?_⟩, ?_, ?_, ?_⟩⟩ <;> decide +kernel

theorem witness_ControlRegisters :
    (∃ (s u : State) (m : Mach), s.Issues m u ∧ u.atStation m = true ∧ (∃ n : BitVec 5, n ≠ 31 ∧ n.toNat ∉ [8, 9, 16, 20, 21, 23,
      25]) ∧ (∃ n : BitVec 5, n ≠ 31 ∧ ∃ p ∈ [(8, u.ipend m), (9, u.ipend m / 2 ^ 32), (16, u.owned m), (20,
      m.triad.idx.val + 2 * m.core + if u.split m.triad = true then 8 else 0)], n.toNat = p.1) ∧ (∃ n : BitVec 5, n ≠ 31 ∧
      ∃ p ∈ [(21, (u.mach m).cycle), (23, (u.mach m).retire), (25, u.tt.clk)], n.toNat = p.1)) ∧ (∃ (s u : State) (m : Mach),
      s.Issues m u ∧ u.atStation m = true ∧ ∃ p ∈ ([(0, 0x2, 0xC), (1, 0xFFFF_FFFC, 0), (2, 0xF, 0), (3, 0, 0), (4, 0, 0), (5,
      0xFFFF_FE00, 0), (6, 0xFFFF_FFFF, 0), (7, 0xFFFF_FFFF, 0), (8, 0, 0), (9, 0, 0), (10, 0x3F, 0), (11, 0xFFFF_FFFC, 0), (12,
      0xF, 0), (13, 0, 0), (14, 0x3, 0), (15, 0x1F, 0), (16, 0, 0), (17, 0xFFFF_FFC0, 0), (18, 0xFFFF_FFC0, 0), (19, 0x1F_FFFF,
      0), (20, 0, 0), (21, 0, 0), (22, 0, 0), (23, 0, 0), (24, 0, 0), (25, 0, 0), (26, 0, 0), (27, 0xFFFF_FFFF, 0), (28,
      0xFFFF_FFFF, 0), (29, 0xFFFF_FFFF, 0), (30, 0xFFFF_FFFF, 0)] : List (BitVec 5 × Word × Word)), ∃ ga : BitVec 5,
      let v := u.rg m ga; (p.1 = 15 → v.toNat % 32 = 31 ∨ u.serves m (v.toNat % 32) = true)) := by
  refine ⟨⟨Tests.run, Tests.run, .a0, Tests.run_issues, ?_, ⟨0x00#5, ?_, ?_⟩, ⟨0x08#5, ?_, _, .head _, ?_⟩, ⟨0x15#5, ?_, _,
    .head _, ?_⟩⟩, ⟨Tests.run, Tests.run, .a0, Tests.run_issues, ?_, _, .head _, 0, ?_⟩⟩ <;> decide +kernel

theorem witness_ReturnsWaitsAndFences :
    (∃ (s u : State) (m : Mach), s.Issues m u ∧ u.atStation m = true) ∧ ((∃ (s u : State) (m : Mach), s.Issues m u ∧
      u.atStation m = true ∧ (u.mach m).nmi = none ∧ (u.mach m).wake = false ∧ u.ienabled m = 0) ∧ (∃ (s u : State) (m : Mach),
      s.Issues m u ∧ u.atStation m = true ∧ ((u.mach m).nmi.isSome = true ∨ (u.mach m).wake = true ∨ u.ienabled m ≠ 0))) := by
  refine ⟨⟨Tests.run, Tests.run, .a0, Tests.run_issues, ?_⟩, ⟨⟨Tests.run, Tests.run, .a0, Tests.run_issues, ?_, ?_, ?_, ?_⟩,
    ⟨(((Tests.run.wc .a0 cStatus 1).wc .a0 6 1).onF Fd.TT_IRQ_PEND_A),
    (((Tests.run.wc .a0 cStatus 1).wc .a0 6 1).onF Fd.TT_IRQ_PEND_A), .a0, ⟨?_, ?_, ?_, ?_, ?_⟩, ?_, ?_⟩⟩⟩ <;> decide +kernel

theorem witness_PrivilegedInstructionsTrapAtTask :
    ∃ (s u : State) (m : Mach), s.Issues m u ∧ u.atStation m = false ∧ u.exl m = false ∧ ∃ h : Word, u.VectorReady m 0 h ∧
      ∃ n : BitVec 5, n ≠ 31 := by
  refine ⟨(Tests.task), (Tests.task), .a0, ⟨?_, ?_, ?_, ?_, ?_⟩, ?_, ?_, 0x4000, ⟨⟨?_, ?_, ?_, ?_⟩, ?_, ?_⟩, 0,
    ?_⟩ <;> decide +kernel

theorem witness_CallsAndBreaks :
    (∃ (s u : State) (m : Mach), s.Issues m u ∧ u.exl m = false ∧ ∃ h : Word, u.VectorReady m 0 h ∧
      u.isF (Fd.TR_DBG_ATTACHED m.triad.idx) = false) ∧ (∃ (s u : State) (m : Mach), s.Issues m u ∧
      u.isF (Fd.TR_DBG_ATTACHED m.triad.idx) = true ∧ (u.tri m.triad).phase = .normal) := by
  refine ⟨⟨Tests.run, Tests.run, .a0, Tests.run_issues, ?_, 0x4000, ⟨⟨?_, ?_, ?_, ?_⟩, ?_, ?_⟩, ?_⟩,
    ⟨(Tests.run.onF (Fd.TR_DBG_ATTACHED 0)), (Tests.run.onF (Fd.TR_DBG_ATTACHED 0)), .a0, ⟨?_, ?_, ?_, ?_, ?_⟩, ?_,
    ?_⟩⟩ <;> decide +kernel

theorem witness_TrapsNest :
    (∃ (u : State) (m : Mach), u.alive m = true ∧ u.exl m = false ∧ ∃ h : Word, u.VectorReady m 0 h) ∧ (∃ (u : State) (m : Mach),
      u.alive m = true ∧ u.exl m = true ∧ u.nmiActive m = false ∧ ∃ h : Word, u.VectorReady m 1 h) ∧ (∃ (u : State) (m : Mach),
      u.alive m = true ∧ u.exl m = true ∧ u.nmiActive m = true ∧ u.Quiet 4) := by
  refine ⟨⟨Tests.run, .a0, ?_, ?_, 0x4000, ⟨⟨?_, ?_, ?_, ?_⟩, ?_, ?_⟩⟩, ⟨(Tests.run.wc .a0 cStatus 5), .a0, ?_, ?_, ?_, 0x5000,
    ⟨⟨?_, ?_, ?_, ?_⟩, ?_, ?_⟩⟩, ⟨((Tests.hush [4] Tests.run).wc .a0 cStatus 0xD), .a0, ?_, ?_, ?_, ?_⟩⟩ <;> decide +kernel

theorem witness_InterruptEntries :
    (∃ (s : State) (m : Mach), s.running m = true ∧ s.Settled ∧ (s.mach m).wait = .none ∧ ∃ src, (s.mach m).nmi = some src ∧
      s.nmiActive m = false ∧ ∃ h : Word, s.VectorReady m 1 h) ∧ (∃ (s : State) (m : Mach), s.running m = true ∧ s.Settled ∧
      (s.mach m).nmi = none ∧ (s.mach m).wake = false ∧ (s.rc' m cStatus).getLsbD 1 = true ∧ s.exl m = false ∧
      s.nmiActive m = false ∧ ∃ v, v < 64 ∧ (s.ienabled m).testBit v = true ∧ (∀ w < v, (s.ienabled m).testBit w = false) ∧
      ∃ h : Word, s.VectorReady m (64 + v) h ∧ (s.mach m).wait = .none) ∧ (∃ (s : State) (m : Mach), s.running m = true ∧
      s.Settled ∧ (s.mach m).nmi = none ∧ (s.mach m).wake = false ∧ (s.rc' m cStatus).getLsbD 1 = true ∧ s.exl m = false ∧
      s.nmiActive m = false ∧ ∃ v, v < 64 ∧ (s.ienabled m).testBit v = true ∧ (∀ w < v, (s.ienabled m).testBit w = false) ∧
      ∃ h : Word, s.VectorReady m (64 + v) h ∧ (s.mach m).wait = .waiti) := by
  refine ⟨⟨(Tests.run.modMach .a0 fun x => { x with nmi := some 5 }), .a0, ?_, ?_, ?_, 5, ?_, ?_, 0x5000, ⟨⟨?_, ?_, ?_, ?_⟩, ?_,
    ?_⟩⟩, ⟨(((Tests.run.wc .a0 cStatus 3).wc .a0 6 1).onF Fd.TT_IRQ_PEND_A), .a0, ?_, ?_, ?_, ?_, ?_, ?_, ?_, 0, ?_, ?_, ?_,
    0x6000, ⟨⟨?_, ?_, ?_, ?_⟩, ?_, ?_⟩, ?_⟩,
    ⟨((((Tests.run.wc .a0 cStatus 3).wc .a0 6 1).onF Fd.TT_IRQ_PEND_A).modMach .a0 fun x => { x with wait := .waiti }), .a0, ?_,
    ?_, ?_, ?_, ?_, ?_, ?_, 0, ?_, ?_, ?_, 0x6000, ⟨⟨?_, ?_, ?_, ?_⟩, ?_, ?_⟩, ?_⟩⟩ <;> decide +kernel

theorem witness_ChannelInstructions :
    ((∃ (s u : State) (m : Mach), s.Issues m u ∧ ∃ ga : BitVec 5, let n := u.chanOf m ga; (u.mayUse m).testBit n.val = true ∧
      u.inReset (.ch n) = false ∧ u.refuge = false ∧ ∃ gb : BitVec 5, let a := (u.rg m gb).toNat; a % 64 = 0 ∧ u.SramReady a 64 ∧
      (∀ k < 64, u.markOf ((a + k) / 8) = some .written) ∧ let r := wordsOfBytes (leBytes (u.sramRead a 64) 64);
      recOk n.val r = true ∧ (u.chSt n = stFaulted → recMode r = mOff)) ∧ (∃ (s u : State) (m : Mach), s.Issues m u ∧
      ∃ ga : BitVec 5, let n := u.chanOf m ga; (u.mayUse m).testBit n.val = true ∧ u.inReset (.ch n) = false ∧ u.refuge = false ∧
      ∃ i : BitVec 8, 0 < i.toNat ∧ i.toNat < 0x30 ∧ let c := u.cfgAt n u.isLater; itemSet c.mode c.variant i.toNat = true ∧
      ∃ gb : BitVec 5, let v := u.rg m gb; (c.setItem i.toNat v).itemOk i.toNat = true ∧ (i = 0x13 → v ≠ 0 → v.toNat ≤ 4 →
      isAnaOut (u.chMode n) = true ∧ u.chSt n = stActive))) ∧ ((∃ (s u : State) (m : Mach), s.Issues m u ∧ ∃ ga : BitVec 5,
      let n := u.chanOf m ga; (u.mayUse m).testBit n.val = true ∧ u.inReset (.ch n) = false ∧ (u.refuge = false ∧
      let h := u.ch n; isAnaIn h.cfg.mode = true ∧ u.chSt n = stActive ∧ (∃ gb : BitVec 5, u.rg m gb = 1 ∧ h.regTrig = 6 ∧
      h.regRun = true ∧ h.regSlot = none ∧ h.regNext = none ∧ h.injSlot = none ∧ h.injWait = none) ∧ (∃ gb : BitVec 5,
      u.rg m gb = 2 ∧ h.injTrig = 6 ∧ h.injEn = true ∧ h.regSlot = none ∧ h.injSlot = none ∧ h.injWait = none)) ∧
      (let h := u.ch n; itemDefined h.cfg.mode h.cfg.variant 0x0E = true)) ∧ (∃ (s u : State) (m : Mach), s.Issues m u ∧
      ∃ ga : BitVec 5, let n := u.chanOf m ga; (u.mayUse m).testBit n.val = true ∧ u.inReset (.ch n) = false ∧ ∃ i : BitVec 8,
      i.toNat < 0x30 ∧ i ≠ 0x0E)) := by
  refine ⟨⟨⟨{ Tests.run with sram := Tests.cells 0x2000 (Tests.record 0) },
    { Tests.run with sram := Tests.cells 0x2000 (Tests.record 0) }, .a0, ⟨?_, ?_, ?_, ?_, ?_⟩, 0, ?_, ?_, ?_, 2, ?_, ⟨?_, ?_, ?_,
    ?_⟩, ?_, ?_, ?_⟩,
    ⟨(Tests.chan 0 3 { cfg := Tests.hs, next := { items := [(0x12,5)] } } { Tests.run with sram := Tests.cells 0x2000 (Tests.record 0) }),
    (Tests.chan 0 3 { cfg := Tests.hs, next := { items := [(0x12,5)] } } { Tests.run with sram := Tests.cells 0x2000 (Tests.record 0) }),
    .a0, ⟨?_, ?_, ?_, ?_, ?_⟩, 0, ?_, ?_, ?_, 0x20, ?_, ?_, ?_, 0, ?_, ?_⟩⟩,
    ⟨⟨(Tests.chan 0 3 { cfg := Tests.vi, injQ := [{slot:=0,mux:=1,delay:=2,value:=77}] } (Tests.withG [(2,1),(3,2)])),
    (Tests.chan 0 3 { cfg := Tests.vi, injQ := [{slot:=0,mux:=1,delay:=2,value:=77}] } (Tests.withG [(2,1),(3,2)])), .a0, ⟨?_,
    ?_, ?_, ?_, ?_⟩, 0, ?_, ?_, ⟨?_, ?_, ?_, ⟨2, ?_, ?_, ?_, ?_, ?_, ?_, ?_⟩, ⟨3, ?_, ?_, ?_, ?_, ?_, ?_⟩⟩, ?_⟩, ⟨Tests.run,
    Tests.run, .a0, Tests.run_issues, 0, ?_, ?_, 0x00#8, ?_, ?_⟩⟩⟩ <;> decide +kernel

theorem witness_TallyRaiseAndRollCalls :
    ((∃ (s u : State) (m : Mach), s.Issues m u ∧ (∃ n : Fin 16, (u.mayUse m).testBit (16 + n.val) = true ∧
      (u.isF Fd.TL_CTRL_EN = false ∨ u.isF Fd.TL_STAT_STARTED = false ∨ u.tl.enabled.getLsbD n.val = false)) ∧
      (u.isF Fd.RC_STAT_HELD = false)) ∧ (∃ (s u : State) (m : Mach), s.Issues m u ∧ ∃ n : Fin 16,
      (u.mayUse m).testBit (16 + n.val) = true ∧ u.isF Fd.TL_CTRL_EN = true ∧ u.isF Fd.TL_STAT_STARTED = true ∧
      u.tl.enabled.getLsbD n.val = true ∧ u.isF Fd.TL_STAT_OPEN = true) ∧ (∃ (s u : State) (m : Mach), s.Issues m u ∧
      ∃ n : Fin 16, (u.mayUse m).testBit (16 + n.val) = true ∧ u.isF Fd.TL_CTRL_EN = true ∧ u.isF Fd.TL_STAT_STARTED = true ∧
      u.tl.enabled.getLsbD n.val = true ∧ u.isF Fd.TL_STAT_OPEN = false ∧ u.Quiet 113) ∧ (∃ (s u : State) (m : Mach),
      s.Issues m u ∧ u.atStation m = true ∧ (∃ ga : BitVec 5, let k := (u.rg m ga).toNat % 128; 10 ≤ k ∧ k ≠ 127 ∧ u.Quiet k) ∧
      (∃ ga : BitVec 5, let k := (u.rg m ga).toNat % 128; k = 127)) ∧ (∃ (s u : State) (m : Mach), s.Issues m u ∧
      u.isF Fd.RC_STAT_HELD = true ∧ u.Quiet 125 ∧ (∀ x, u.rc.snap = some x → x.edge ≠ u.now ∨ x.src = 2)) ∧
      (∃ (s u : State) (m : Mach), s.Issues m u ∧ u.isF Fd.RC_STAT_HELD = true ∧ ∃ x, u.rc.snap = some x ∧ x.edge = u.now ∧
      (x.src = 1 ∨ x.src = 3 ∨ x.src = 4))) ∧ ((∃ (s u : State) (m : Mach), s.Issues m u ∧ u.atStation m = true ∧
      ∃ ga : BitVec 5, ga ≠ 0 ∧ ga.toNat % 2 = 0 ∧ let at_ := u.pair64 m ga; at_ - u.tt.clk < 500000) ∧
      (∃ (s u : State) (m : Mach), s.Issues m u ∧ u.atStation m = true ∧ ∃ ga : BitVec 5, ga ≠ 0 ∧ ga.toNat % 2 = 0 ∧
      let at_ := u.pair64 m ga; 500000 ≤ at_ - u.tt.clk ∧ u.isF Fd.RC_STAT_SCHEDULED = true) ∧ (∃ (s u : State) (m : Mach),
      s.Issues m u ∧ u.atStation m = true ∧ ∃ ga : BitVec 5, ga ≠ 0 ∧ ga.toNat % 2 = 0 ∧ let at_ := u.pair64 m ga;
      500000 ≤ at_ - u.tt.clk ∧ u.isF Fd.RC_STAT_SCHEDULED = false)) := by
  refine ⟨⟨⟨Tests.run, Tests.run, .a0, Tests.run_issues, ⟨0, ?_, ?_⟩, ?_⟩,
    ⟨((let s := ((Tests.run.onF Fd.TL_CTRL_EN).onF Fd.TL_STAT_STARTED);
    { s with tl := { s.tl with enabled := 0xFFFF } }).onF Fd.TL_STAT_OPEN),
    ((let s := ((Tests.run.onF Fd.TL_CTRL_EN).onF Fd.TL_STAT_STARTED);
    { s with tl := { s.tl with enabled := 0xFFFF } }).onF Fd.TL_STAT_OPEN), .a0, ⟨?_, ?_, ?_, ?_, ?_⟩, 0, ?_, ?_, ?_, ?_, ?_⟩,
    ⟨(let s := ((Tests.run.onF Fd.TL_CTRL_EN).onF Fd.TL_STAT_STARTED); { s with tl := { s.tl with enabled := 0xFFFF } }),
    (let s := ((Tests.run.onF Fd.TL_CTRL_EN).onF Fd.TL_STAT_STARTED); { s with tl := { s.tl with enabled := 0xFFFF } }), .a0,
    ⟨?_, ?_, ?_, ?_, ?_⟩, 0, ?_, ?_, ?_, ?_, ?_, ?_⟩, ⟨(Tests.withG [(2,127),(3,64),(4,50)]),
    (Tests.withG [(2,127),(3,64),(4,50)]), .a0, ⟨?_, ?_, ?_, ?_, ?_⟩, ?_, ⟨3, ?_, ?_, ?_⟩, ⟨2, ?_⟩⟩,
    ⟨(Tests.run.onF Fd.RC_STAT_HELD), (Tests.run.onF Fd.RC_STAT_HELD), .a0, ⟨?_, ?_, ?_, ?_, ?_⟩, ?_, ?_, ?_⟩,
    ⟨({ Tests.run.onF Fd.RC_STAT_HELD with rc := { snap := some { src := 4 } } }),
    ({ Tests.run.onF Fd.RC_STAT_HELD with rc := { snap := some { src := 4 } } }), .a0, ⟨?_, ?_, ?_, ?_, ?_⟩, ?_, { src := 4 },
    ?_, ?_, ?_⟩⟩, ⟨⟨(Tests.withG [(2,400000),(3,0),(4,600000)] (Tests.net)),
    (Tests.withG [(2,400000),(3,0),(4,600000)] (Tests.net)), .a0, ⟨?_, ?_, ?_, ?_, ?_⟩, ?_, 2, ?_, ?_, ?_⟩,
    ⟨((Tests.withG [(2,400000),(3,0),(4,600000)] (Tests.net)).onF Fd.RC_STAT_SCHEDULED),
    ((Tests.withG [(2,400000),(3,0),(4,600000)] (Tests.net)).onF Fd.RC_STAT_SCHEDULED), .a0, ⟨?_, ?_, ?_, ?_, ?_⟩, ?_, 4, ?_, ?_,
    ?_, ?_⟩, ⟨Tests.run, Tests.run, .a0, Tests.run_issues, ?_, 2, ?_, ?_, ?_, ?_⟩⟩⟩ <;> decide +kernel

theorem witness_WaitsForDepartures :
    (∃ (s u : State) (m : Mach), s.Issues m u ∧ u.tt.ran = true ∧ ∃ ga : BitVec 5,
      let reached := fun e : Nat => (Word.ofNat e - u.rg m ga).toNat < 2 ^ 31; reached u.tt.epoch) ∧ (∃ (s u : State) (m : Mach),
      s.Issues m u ∧ (∃ ga : BitVec 5, let reached := fun e : Nat => (Word.ofNat e - u.rg m ga).toNat < 2 ^ 31;
      (u.tt.ran = false ∨ ¬reached u.tt.epoch)) ∧ (u.mani.closed = none)) ∧ (∃ (s u : State) (m : Mach), s.Issues m u ∧ ∃ e, ∃ b,
      u.mani.closed = some (e, b) ∧ (∃ ga : BitVec 5, let reached := fun e : Nat => (Word.ofNat e - u.rg m ga).toNat < 2 ^ 31;
      reached e) ∧ (∃ ga : BitVec 5, let reached := fun e : Nat => (Word.ofNat e - u.rg m ga).toNat < 2 ^ 31; ¬reached e)) ∧
      (∃ (s : State) (m : Mach), s.running m = true ∧ s.Settled ∧ ∃ gd : BitVec 5, ∃ v, (s.mach m).wait = .waitd false gd v ∧
      s.tt.ran = true ∧ (Word.ofNat s.tt.epoch - v).toNat < 2 ^ 31) ∧ (∃ (s : State) (m : Mach), s.running m = true ∧ s.Settled ∧
      ∃ gd : BitVec 5, ∃ v, (s.mach m).wait = .waitd true gd v ∧ ∃ e, ∃ b, s.mani.closed = some (e, b) ∧
      (Word.ofNat e - v).toNat < 2 ^ 31) := by
  refine ⟨⟨(Tests.withG [(2,6),(3,7)] (Tests.locked)), (Tests.withG [(2,6),(3,7)] (Tests.locked)), .a0, ⟨?_, ?_, ?_, ?_, ?_⟩, ?_,
    0, ?_⟩, ⟨Tests.run, Tests.run, .a0, Tests.run_issues, ⟨0, ?_⟩, ?_⟩, ⟨(let s := (Tests.withG [(2,6),(3,7)] (Tests.locked));
    { s with mani := { s.mani with closed := some (6,1) } }), (let s := (Tests.withG [(2,6),(3,7)] (Tests.locked));
    { s with mani := { s.mani with closed := some (6,1) } }), .a0, ⟨?_, ?_, ?_, ?_, ?_⟩, 6, 1, ?_, ⟨0, ?_⟩, ⟨3, ?_⟩⟩,
    ⟨(let s := (Tests.withG [(2,6),(3,7)] (Tests.locked)); s.modMach .a0 fun x => { x with wait := .waitd false 2 6 }), .a0, ?_,
    ?_, 2, 6, ?_, ?_, ?_⟩, ⟨((let s := (Tests.withG [(2,6),(3,7)] (Tests.locked));
    { s with mani := { s.mani with closed := some (6,1) } }).modMach .a0 fun x => { x with wait := .waitd true 2 6 }), .a0, ?_,
    ?_, 2, 6, ?_, 6, 1, ?_, ?_⟩⟩ <;> decide +kernel

theorem witness_ProposalsAndPeeks :
    ((∃ (s u : State) (m : Mach), s.Issues m u ∧ u.refuge = false ∧ u.late = false ∧ u.inReset .mani = false ∧ (∃ ga : BitVec 5,
      let c := u.chanOf m ga; (u.mayUse m).testBit c.val = true ∧ ((u.prop c).state = .none ∨ (u.prop c).state = .retracted) ∧
      u.willDrive c = true ∧ ∃ gb : BitVec 5, valueOk (u.cfgAt c false).mode (u.rg m gb) = true ∧ let l := u.peekedBy m;
      depthOf l < 9) ∧ (∃ (ga : BitVec 5) (c : Fin 16), (u.rg m ga).toNat % 65536 = 2 ^ c.val ∧
      (u.mayUse m).testBit c.val = true ∧ (u.prop c).cons = [] ∧ ((u.prop c).state = .none ∨ (u.prop c).state = .proposed))) ∧
      (∃ (s u : State) (m : Mach), s.Issues m u ∧ u.refuge = false ∧ u.late = false ∧ u.inReset .mani = false ∧ ∃ ga : BitVec 5,
      let c := u.chanOf m ga; (u.mayUse m).testBit c.val = true ∧ (u.prop c).state = .proposed ∧ (u.prop c).cons = [])) ∧
      ((∃ (s u : State) (m : Mach), s.Issues m u ∧ ∃ gd : BitVec 5, gd ≠ 0 ∧ gd.toNat % 2 = 0 ∧ u.inReset .mani = false ∧
      2 ≤ u.stationRev ∧ ∃ ga : BitVec 5, (u.rg m ga).toNat / 16 % 1024 = u.nodeId ∧ let c := Fin.ofNat 16 (u.rg m ga).toNat;
      u.bitF Fd.MANI_PEEKABLE_CH c.val = true ∧ let p := u.prop c; p.keep = false) ∧ (∃ (s u : State) (m : Mach), s.Issues m u ∧
      ∃ gd : BitVec 5, gd ≠ 0 ∧ gd.toNat % 2 = 0 ∧ u.inReset .mani = false ∧ 2 ≤ u.stationRev ∧ ∃ ga : BitVec 5,
      (u.rg m ga).toNat / 16 % 1024 = u.nodeId ∧ let c := Fin.ofNat 16 (u.rg m ga).toNat;
      u.bitF Fd.MANI_PEEKABLE_CH c.val = false)) := by
  refine ⟨⟨⟨(Tests.chan 0 3 { cfg := Tests.hs, target := 1 } (Tests.withG [(2,0),(3,1),(4,1)] (Tests.locked))),
    (Tests.chan 0 3 { cfg := Tests.hs, target := 1 } (Tests.withG [(2,0),(3,1),(4,1)] (Tests.locked))), .a0, ⟨?_, ?_, ?_, ?_,
    ?_⟩, ?_, ?_, ?_, ⟨0, ?_, ?_, ?_, 0, ?_, ?_⟩, ⟨3, (0), ?_, ?_, ?_, ?_⟩⟩,
    ⟨((Tests.chan 0 3 { cfg := Tests.hs, target := 1 } (Tests.withG [(2,0),(3,1),(4,1)] (Tests.locked))).setProp 0 { state := .proposed, value := 1 }),
    ((Tests.chan 0 3 { cfg := Tests.hs, target := 1 } (Tests.withG [(2,0),(3,1),(4,1)] (Tests.locked))).setProp 0 { state := .proposed, value := 1 }),
    .a0, ⟨?_, ?_, ?_, ?_, ?_⟩, ?_, ?_, ?_, 0, ?_, ?_, ?_⟩⟩,
    ⟨⟨(((Tests.withG [(2,80)] (Tests.net (Tests.locked))).setBitF Fd.MANI_PEEKABLE_CH 0).setProp 0 { state := .none, value := 9, by_ := .a0 }),
    (((Tests.withG [(2,80)] (Tests.net (Tests.locked))).setBitF Fd.MANI_PEEKABLE_CH 0).setProp 0 { state := .none, value := 9, by_ := .a0 }),
    .a0, ⟨?_, ?_, ?_, ?_, ?_⟩, 2, ?_, ?_, ?_, ?_, 2, ?_, ?_, ?_⟩, ⟨(Tests.withG [(2,80)] (Tests.net (Tests.locked))),
    (Tests.withG [(2,80)] (Tests.net (Tests.locked))), .a0, ⟨?_, ?_, ?_, ?_, ?_⟩, 2, ?_, ?_, ?_, ?_, 2, ?_,
    ?_⟩⟩⟩ <;> decide +kernel

theorem witness_StationAccesses :
    ∃ (s u : State) (m : Mach), s.Issues m u ∧ ∃ ga : BitVec 5, ga ≠ 0 ∧ ga.toNat % 2 = 0 ∧ u.inReset .sess = false ∧
      let a := u.stationAddr m ga; a / 2 ^ 42 ≠ u.nodeId ∧ a / 2 ^ 42 ≠ 0x3FF ∧ (∃ p ∈ ([(0, 1, false), (1, 2, false), (2, 4,
      false), (4, 1, true), (5, 2, true)] : List (BitVec 3 × Nat × Bool)), a % p.2.1 = 0 ∧ ∃ gb : BitVec 5,
      let sid := (u.rg m gb).toNat % 1024; u.clientCheck sid (a / 2 ^ 42) false = none) ∧ (∃ p ∈ ([(0, 1), (1, 2), (2,
      4)] : List (BitVec 3 × Nat)), a % p.2 = 0 ∧ ∃ gb : BitVec 5, let sid := (u.rg m gb).toNat % 1024;
      u.clientCheck sid (a / 2 ^ 42) true = none) := by
  refine ⟨(Tests.withG [(2,0x2000),(3,9*1024),(4,3)] (Tests.sess)), (Tests.withG [(2,0x2000),(3,9*1024),(4,3)] (Tests.sess)),
    .a0, ⟨?_, ?_, ?_, ?_, ?_⟩, 2, ?_, ?_, ?_, ?_, ?_, ⟨_, .head _, ?_, 4, ?_⟩, ⟨_, .head _, ?_, 4, ?_⟩⟩ <;> decide +kernel

theorem witness_SignalBox :
    ((∃ s : State, s.phase = .running ∧ s.Settled ∧ (∃ src : Fin 128, let k := src.val; 10 ≤ k ∧ ¬(11 ≤ k ∧ k ≤ 15) ∧ k ≠ 31 ∧
      k ≠ 127 ∧ s.Quiet k) ∧ (s.isF Fd.SB_CTRL_LOCK = false ∧ ∃ v : Word, v.toNat % 8 < 6 ∧ ∃ src : Fin 128, let k := src.val;
      (v.toNat % 8 = 3 → hasTarget k = true))) ∧ (∃ s : State, s.phase = .running ∧ s.Settled ∧ ∃ src : Fin 128,
      let k := src.val; k ≠ 127 ∧ let wire := Fd.SB_WIRE_BITS (k / 32); s.bitF wire (k % 32) = false ∧ s.Quiet 127) ∧
      (∃ s : State, s.phase = .running ∧ s.Settled ∧ s.isF Fd.SB_STAT_STATE = true)) ∧ (∃ s : State, s.phase = .running ∧
      s.Settled ∧ s.isF Fd.SB_CTRL_LOCK = true) := by
  refine ⟨⟨⟨Tests.run, ?_, ?_, ⟨16, ?_, ?_, ?_, ?_, ?_⟩, ⟨?_, 0, ?_, 10, ?_⟩⟩, ⟨(Tests.hush (List.range 128) Tests.run), ?_, ?_,
    10, ?_, ?_, ?_⟩, ⟨((Tests.hush (List.range 128) Tests.run).onF Fd.SB_STAT_STATE), ?_, ?_, ?_⟩⟩,
    ⟨(Tests.run.onF Fd.SB_CTRL_LOCK), ?_, ?_, ?_⟩⟩ <;> decide +kernel

theorem witness_StrongReactions :
    ∃ s : State, s.phase = .running ∧ s.Settled ∧ ∃ src : Fin 128, let k := src.val; 10 ≤ k ∧ ¬(11 ≤ k ∧ k ≤ 15) ∧ k ≠ 31 ∧
      k ≠ 127 ∧ (s.getF (Fd.SB_CFG_REACTION k) = 2 ∨ s.getF (Fd.SB_CFG_REACTION k) = 4) ∧ s.isF (Fd.SB_CFG_ROLL k) = false := by
  refine ⟨Tests.run, ?_, ?_, 10, ?_, ?_, ?_, ?_, ?_, ?_⟩ <;> decide +kernel

theorem witness_TallyWatchdog :
    ((∃ s : State, s.phase = .running ∧ s.Settled ∧ s.keyOpen = true ∧ ∃ v : Word, (1 ≤ v.toNat % 2 ^ 16 ∧
      v.toNat % 2 ^ 16 ≤ 65000) ∧ (v.toNat % 16 ≠ 0)) ∧ (∃ s : State, s.phase = .running ∧ s.Settled ∧ s.tl.keyStage ≠ 1 ∧
      s.isF Fd.TL_STAT_STARTED = true ∧ ∃ v : Word, s.getF Fd.TL_EN_EN &&& (0xFFFF ^^^ v.toNat % 2 ^ 16) = 0 ∧
      (v.toNat % 2 ^ 16 &&& (0xFFFF ^^^ s.getF Fd.TL_EN_EN)) &&& (0xFFFF ^^^ s.ownedTallies) = 0) ∧ (∃ s : State,
      s.phase = .running ∧ s.Settled ∧ s.isF Fd.TL_CTRL_LOCK = false ∧ s.tl.keyStage ≠ 1 ∧ ∃ v : Word,
      v.toNat % 65536 = 0x7E3A) ∧ (∃ s : State, s.phase = .running ∧ s.Settled ∧ s.isF Fd.TL_CTRL_LOCK = false ∧
      s.tl.keyStage = 1 ∧ ∃ v : Word, v.toNat % 65536 = 0x81C5)) ∧ ((∃ s : State, s.phase = .running ∧ s.Settled ∧
      s.keyOpen = false ∧ s.tl.keyStage ≠ 1 ∧ (s.isF Fd.TL_CTRL_EN = true) ∧ (s.isF Fd.TL_CTRL_DBG_HOLD = false) ∧ (∃ v : Word,
      (1 ≤ v.toNat % 2 ^ 16 ∧ v.toNat % 2 ^ 16 ≤ 65000 ∧ v.toNat % 2 ^ 16 ≠ s.getF Fd.TL_PERIOD_PERIOD) ∧ (v.toNat % 16 ≠ 0 ∧
      v.toNat % 16 ≠ s.getF Fd.TL_ESC_N))) ∧ (∃ s : State, s.phase = .running ∧ s.Settled ∧ s.keyOpen = false ∧
      s.tl.keyStage ≠ 1 ∧ ∃ v : Word, s.getF Fd.TL_EN_EN &&& (0xFFFF ^^^ v.toNat % 2 ^ 16) ≠ 0)) ∧ ((∃ s : State,
      s.phase = .running ∧ s.Settled ∧ s.isF Fd.TL_CTRL_EN = true ∧ s.isF Fd.TL_STAT_STARTED = true ∧ s.tl.stopped = false ∧
      s.isF Fd.TL_STAT_SUSPENDED = false ∧ s.isF Fd.TL_STAT_OPEN = false) ∧ (∃ s : State, s.phase = .running ∧ s.Settled ∧
      s.isF Fd.TL_CTRL_EN = true ∧ s.isF Fd.TL_STAT_STARTED = true ∧ s.tl.stopped = false ∧ s.isF Fd.TL_STAT_SUSPENDED = false ∧
      let en := s.tl.enabled.toNat; en ≠ 0 ∧ en &&& s.getF Fd.TL_DONE_DONE = en ∧ en &&& s.getF Fd.TL_DONE_EARLY = 0 ∧
      s.pwr.failing = false) ∧ (∃ s : State, s.phase = .running ∧ s.Settled ∧ (s.isF Fd.TL_STAT_STARTED = false ∧
      s.getF Fd.BOOT_STAT_RESULT = 1) ∧ (s.pwr.failing = false ∧ s.Quiet 114)) ∧ (∃ s : State, s.phase = .running ∧ s.Settled ∧
      s.isF Fd.TL_STAT_SUSPENDED = true ∧ s.Quiet 115)) := by
  refine ⟨⟨⟨({ Tests.run with tl := { Tests.run.tl with keyStage := 2, keyTime := 0 } }), ?_, ?_, ?_, 1, ⟨?_, ?_⟩, ?_⟩,
    ⟨((Tests.run.setF Fd.TL_EN_EN 3).onF Fd.TL_STAT_STARTED), ?_, ?_, ?_, ?_, 3, ?_, ?_⟩, ⟨Tests.run, ?_, ?_, ?_, ?_, 0x7E3A,
    ?_⟩, ⟨({ Tests.run with tl := { Tests.run.tl with keyStage := 1, keyTime := 0 } }), ?_, ?_, ?_, ?_, 0x81C5, ?_⟩⟩,
    ⟨⟨Tests.run, ?_, ?_, ?_, ?_, ?_, ?_, ⟨1, ⟨?_, ?_, ?_⟩, ⟨?_, ?_⟩⟩⟩, ⟨((Tests.run.setF Fd.TL_EN_EN 3).onF Fd.TL_STAT_STARTED),
    ?_, ?_, ?_, ?_, 0, ?_⟩⟩, ⟨⟨(let s := (((Tests.hush [114, 115] Tests.run).onF Fd.TL_CTRL_EN).onF Fd.TL_STAT_STARTED);
    { s with tl := { s.tl with enabled := 3 } }), ?_, ?_, ?_, ?_, ?_, ?_, ?_⟩, ⟨(((let s := (((Tests.hush [114,
    115] Tests.run).onF Fd.TL_CTRL_EN).onF Fd.TL_STAT_STARTED);
    { s with tl := { s.tl with enabled := 3 } }).setF Fd.TL_DONE_DONE 3).setF Fd.TL_STAT_LEVEL_A 1), ?_, ?_, ?_, ?_, ?_, ?_, ?_,
    ?_, ?_, ?_⟩, ⟨Tests.run, ?_, ?_, ⟨?_, ?_⟩, ⟨?_, ?_⟩⟩, ⟨((Tests.hush [114, 115] Tests.run).onF Fd.TL_STAT_SUSPENDED), ?_, ?_,
    ?_, ?_⟩⟩⟩ <;> decide +kernel

theorem witness_CrcUnits :
    (∃ s : State, s.phase = .running ∧ s.Settled ∧ s.inReset .crcu = false ∧ ∃ n : Fin 4, let owner := Fd.CU_STAT_OWNER n.val;
      s.getF owner = 0) ∧ (∃ s : State, s.phase = .running ∧ s.Settled ∧ s.inReset .crcu = false ∧ ∃ n : Fin 4,
      let owner := Fd.CU_STAT_OWNER n.val; s.getF owner = 1 ∧ s.getF Fd.SH_BUSY_BUSY = 0) := by
  refine ⟨⟨Tests.run, ?_, ?_, ?_, (0), ?_⟩,
    ⟨((((Tests.run.setF (Fd.CU_STAT_OWNER 1) 1).setF (Fd.CU_CFG_POLY 1) 2).setF (Fd.CU_VALUE_VALUE 1) 0xABCD).setF (Fd.CU_INIT_INIT 1) 0xFFFF),
    ?_, ?_, ?_, (1), ?_, ?_⟩⟩ <;> decide +kernel

theorem witness_TrackWalker :
    ((∃ s : State, s.phase = .running ∧ s.Settled ∧ s.inReset .patrol = false ∧ s.isF Fd.PT_STAT_ACTIVE = true ∧
      let w := s.getF Fd.PT_STAT_POS; ∃ e : Upset, let u := s.upset e; lookupNat w u.sramErr = none) ∧ (∃ s : State,
      s.phase = .running ∧ s.Settled ∧ s.inReset .patrol = false ∧ s.isF Fd.PT_STAT_ACTIVE = true ∧
      let w := s.getF Fd.PT_STAT_POS; (∃ e : Upset, let u := s.upset e; lookupNat w u.sramErr = some .single ∧ s.Quiet 16) ∧
      (∃ e : Upset, let u := s.upset e; lookupNat w u.sramErr = some .multi ∧ s.healSrc (8 * w) = none ∧ s.Quiet 17 ∧
      s.pt.log.length < 16))) ∧ (∃ s : State, s.phase = .running ∧ s.Settled ∧ s.Canon ∧ ∃ page word : Nat, s.pt.heals = [(page,
      word)] ∧ page < 4096 ∧ ∃ src : Nat, s.healSrc (page * 4096) = some src ∧ inFlash src = true ∧ src % 8 = 0 ∧ (∀ i < 512,
      s.inFlux (src + 8 * i) = false) ∧ sortedNat s.sramErr = true ∧ (∀ i < 512, lookupNat (src / 8 + i) s.flashErr = none) ∧
      s.pt.log.length < 16 ∧ s.Quiet 20 ∧ s.rst.deferred = [] ∧ s.dbg.stalled = none ∧ s.NoStall) ∧ (∃ s : State,
      s.phase = .running ∧ s.Settled ∧ s.inReset .patrol = false ∧ s.Quiet 29) := by
  refine ⟨⟨⟨Tests.run, ?_, ?_, ?_, ?_, .none, ?_⟩, ⟨(((Tests.hush [16,
    17] Tests.run).onF Fd.PT_STAT_ACTIVE).setF Fd.PT_STAT_POS 0x400), ?_, ?_, ?_, ?_, ⟨.sram 0x400 .single, ?_, ?_⟩,
    ⟨.sram 0x400 .multi, ?_, ?_, ?_, ?_⟩⟩⟩,
    ⟨({ (((Tests.hush [20] Tests.run).setF (Fd.PT_HEAL_MAP0_PAGES 0) 4).setR (Rg.PT_HEAL_MAP4 0) 0x10006000).onF Fd.PT_STAT_HEALING with pt := { heals := [(2, 0x405)] }, sramErr := [(0x405, .multi)], flash := [(0x10008010, 0x77)] }),
    ?_, ?_, Tests.canon ?_, 2, 0x405, ?_, ?_, 0x10008000, ?_, ?_, ?_, ?_, ?_, ?_, ?_, ?_, ?_, ?_, ?_⟩, ⟨Tests.run, ?_, ?_, ?_,
    ?_⟩⟩ <;> decide +kernel

theorem witness_CalibrationStoreAndFlash :
    ((∃ s : State, s.phase = .running ∧ s.Settled ∧ s.Canon ∧ s.inReset .calst = false ∧ s.isF Fd.CS_STAT_BUSY = false ∧
      s.isF Fd.FP_STAT_BUSY = false ∧ let src := 16 * s.getF Fd.CS_SRC_ADDR; let len := s.getF Fd.CS_LEN_LEN;
      src + len ≤ 0x0100_0000 ∧ len % 16 = 0 ∧ len ≤ 512 ∧ s.getF Fd.CS_GEN_GEN ≠ 0xFFFF_FFFE ∧ s.pwr.failing = false ∧
      s.cs.fpStage ≠ 1) ∧ (∃ s : State, s.phase = .running ∧ s.Settled ∧ s.Canon ∧ s.inReset .calst = false ∧
      s.getF Fd.CS_STAT_STEP = 1 ∧ s.pwr.failing = false ∧ s.sramErr = [] ∧ let src := 16 * s.getF Fd.CS_SRC_ADDR;
      let len := s.getF Fd.CS_LEN_LEN; (∀ i < len, s.markOf ((src + i) / 8) = some .written) ∧
      let body := (List.range len).map fun i => s.sramByte (src + i); (calEntries (len / 16) body).isSome = true) ∧ (∃ s : State,
      s.phase = .running ∧ s.Settled ∧ s.Canon ∧ s.inReset .calst = false ∧ let b := s.cs.target; b ≤ 1 ∧
      s.getF Fd.CS_STAT_STEP = 2 ∧ s.pwr.failing = false) ∧ (∃ s : State, s.phase = .running ∧ s.Settled ∧ s.Canon ∧
      s.inReset .calst = false ∧ let b := s.cs.target; b ≤ 1 ∧ s.getF Fd.CS_STAT_STEP = 3 ∧ s.cs.body.length ≤ 512) ∧
      (∃ s : State, s.phase = .running ∧ s.Settled ∧ s.Canon ∧ s.inReset .calst = false ∧ s.getF Fd.CS_STAT_STEP = 4 ∧
      s.pwr.failing = false) ∧ (∃ s : State, s.phase = .running ∧ s.Settled ∧ s.Canon ∧ s.inReset .calst = false ∧
      s.pwr.failing = true) ∧ (∃ s : State, s.phase = .running ∧ s.Settled ∧ s.Canon ∧ s.inReset .calst = false ∧
      let b := s.cs.target; b ≤ 1 ∧ s.getF Fd.CS_STAT_STEP = 5)) ∧ ((∃ s : State, s.phase = .running ∧ s.Settled ∧ s.Canon ∧
      s.inReset .calst = false ∧ s.cs.fpStage ≠ 1 ∧ ∃ v : Word, v.toNat % 65536 = 0x5A17) ∧ (∃ s : State, s.phase = .running ∧
      s.Settled ∧ s.Canon ∧ s.inReset .calst = false ∧ s.cs.fpStage = 1 ∧ ∃ v : Word, v.toNat % 65536 = 0xC3E8) ∧ (∃ s : State,
      s.phase = .running ∧ s.Settled ∧ s.Canon ∧ s.inReset .calst = false ∧ s.fpUnlocked = true ∧ s.calBusy = false ∧
      s.pwr.failing = false ∧ let a := s.getF Fd.FP_ADDR_ADDR; inFlash a = true ∧ fpSector (sectorOf a) = true ∧
      (a % 0x8000 = 0) ∧ (a % 8 = 0 ∧ let n := s.getF Fd.FP_LEN_LEN; n % 8 = 0 ∧ 8 ≤ n ∧ n ≤ 4096 ∧ a % 0x8000 + n ≤ 0x8000 ∧
      let src := 8 * s.getF Fd.FP_SRC_ADDR; src + n ≤ 0x0100_0000 ∧ s.sramErr = [] ∧ (∀ i < n,
      s.markOf ((src + i) / 8) = some .written) ∧ s.fpErased a n = true)) ∧ (∃ s : State, s.phase = .running ∧ s.Settled ∧
      s.Canon ∧ s.inReset .calst = false ∧ ∃ k, s.cs.fpOp = some (.erase k)) ∧ (∃ s : State, s.phase = .running ∧ s.Settled ∧
      s.Canon ∧ s.inReset .calst = false ∧ ∃ x, ∃ bs, s.cs.fpOp = some (.program x bs))) := by
  refine ⟨⟨⟨Tests.run, ?_, ?_, Tests.canon ?_, ?_, ?_, ?_, ?_, ?_, ?_, ?_, ?_, ?_⟩,
    ⟨({ ((Tests.run.setF Fd.CS_SRC_ADDR 0x206).setF Fd.CS_LEN_LEN 16).setF Fd.CS_STAT_STEP 1 with sram := [(0x2061, 1), (0x2064, 5)] }),
    ?_, ?_, Tests.canon ?_, ?_, ?_, ?_, ?_, ?_, ?_⟩,
    ⟨(let s := ((((Tests.run.setF Fd.CS_SRC_ADDR 0x200).setF Fd.CS_LEN_LEN 16)).setF Fd.CS_STAT_STEP 2);
    { s with cs := { target := 0, gen := 5, body := (List.range 16).map (BitVec.ofNat 8) }, flash := [(0x13FE0000,1),(0x13FE8001,2)] }),
    ?_, ?_, Tests.canon ?_, ?_, ?_, ?_, ?_⟩,
    ⟨(let s := ((((Tests.run.setF Fd.CS_SRC_ADDR 0x200).setF Fd.CS_LEN_LEN 16)).setF Fd.CS_STAT_STEP 3);
    { s with cs := { target := 1, gen := 5, body := (List.range 16).map (BitVec.ofNat 8) }, flash := [(0x13FE0000,1),(0x13FE8001,2)] }),
    ?_, ?_, Tests.canon ?_, ?_, ?_, ?_, ?_⟩,
    ⟨(let s := ((((Tests.run.setF Fd.CS_SRC_ADDR 0x200).setF Fd.CS_LEN_LEN 16)).setF Fd.CS_STAT_STEP 4);
    { s with cs := { target := 0, gen := 5, body := (List.range 16).map (BitVec.ofNat 8) }, flash := [(0x13FE0000,1),(0x13FE8001,2)] }),
    ?_, ?_, Tests.canon ?_, ?_, ?_, ?_⟩, ⟨({ Tests.run with pwr := { Tests.run.pwr with failing := true } }), ?_, ?_,
    Tests.canon ?_, ?_, ?_⟩, ⟨(let s := ((((Tests.run.setF Fd.CS_SRC_ADDR 0x200).setF Fd.CS_LEN_LEN 16)).setF Fd.CS_STAT_STEP 5);
    { s with cs := { target := 1, gen := 5, body := (List.range 16).map (BitVec.ofNat 8) }, flash := [(0x13FE0000,1),(0x13FE8001,2)] }),
    ?_, ?_, Tests.canon ?_, ?_, ?_, ?_⟩⟩, ⟨⟨Tests.run, ?_, ?_, Tests.canon ?_, ?_, ?_, 0x5A17, ?_⟩,
    ⟨(let s := (((Tests.run.setF Fd.FP_ADDR_ADDR 0x10010000).setF Fd.FP_LEN_LEN 16).setF Fd.FP_SRC_ADDR 0x400);
    { s with cs := { fpStage := 1 } }), ?_, ?_, Tests.canon ?_, ?_, ?_, 0xC3E8, ?_⟩,
    ⟨(let s := (((Tests.run.setF Fd.FP_ADDR_ADDR 0x10010000).setF Fd.FP_LEN_LEN 16).setF Fd.FP_SRC_ADDR 0x400);
    { s with cs := { fpStage := 2 } }), ?_, ?_, Tests.canon ?_, ?_, ?_, ?_, ?_, ?_, ?_, ?_, ⟨?_, ?_, ?_, ?_, ?_, ?_, ?_, ?_,
    ?_⟩⟩, ⟨({ Tests.run with cs := { fpOp := some (.erase 3) }, flash := [(0x10018001, 4),(0x10020000,5)], flashFlux := [3] }),
    ?_, ?_, Tests.canon ?_, ?_, 3, ?_⟩,
    ⟨({ Tests.run with cs := { fpOp := some (.program 0x10018000 [1,2,3,4,5,6,7,8]) }, flash := [(0x10018001, 4),(0x10020000,5)], flashFlux := [3] }),
    ?_, ?_, Tests.canon ?_, ?_, 0x10018000, [1,2,3,4,5,6,7,8], ?_⟩⟩⟩ <;> decide +kernel

theorem witness_OddCoresAndRecovery :
    (∃ s : State, s.Settled ∧ ∃ t : Triad, s.voting t = true ∧ s.getF (Fd.TR_STAT_MODE t.idx) = 0 ∧
      s.getF (Fd.TR_STAT_LIVE t.idx) = 7 ∧ s.Quiet 0 ∧ s.Quiet 1 ∧ s.Quiet 9) ∧ ((∃ s : State, s.Settled ∧ ∃ t : Triad,
      s.alive (t.mach 0) = true ∧ s.Quiet 5) ∧ (∃ s : State, s.Settled ∧ ∃ t : Triad, ∃ c, (s.tri t).phase = .copying c) ∧
      (∃ s : State, s.Settled ∧ ∃ t : Triad, ∃ c, (s.tri t).phase = .copied c) ∧ (∃ s : State, s.Settled ∧ ∃ t : Triad,
      s.voting t = true) ∧ (∃ s : State, s.Settled ∧ ∃ t : Triad, ∃ c, ∃ k, (s.tri t).phase = .recovery c k ∧ s.Quiet k)) := by
  refine ⟨⟨Tests.run, ?_, .a, ?_, ?_, ?_, ?_, ?_, ?_⟩, ⟨⟨(Tests.hush [2,3,5] Tests.run), ?_, .a, ?_, ?_⟩,
    ⟨(((Tests.hush [2,3,5] Tests.run)).modTri .a fun x => { x with phase := .copying 1 }), ?_, .a, 1, ?_⟩,
    ⟨(((((Tests.hush [2,3,5] Tests.run).setF (Fd.TR_STAT_MODE 0) 1).setF (Fd.TR_STAT_LIVE 0) 5)).modTri .a fun x => { x with phase := .copied 1 }),
    ?_, .a, 1, ?_⟩, ⟨Tests.run, ?_, .a, ?_⟩,
    ⟨(((Tests.hush [2,3,5] Tests.run)).modTri .a fun x => { x with phase := .recovery 0 3 }), ?_, .a, 0, 3, ?_,
    ?_⟩⟩⟩ <;> decide +kernel

theorem witness_RestartsAndBlockResets :
    ((∃ s : State, s.phase = .running ∧ s.Settled ∧ ∃ t : Triad, s.rstBit (.triad t) = false ∧ (∀ c, (s.prop c).state = .none) ∧
      (∀ x, lookupNat (Blk.triad t).gen s.rst.lastRel = some x → 10000 ≤ s.now - x) ∧ s.rst.deferred = []) ∧ (∃ s : State,
      s.phase = .running ∧ s.Settled ∧ ∃ t : Triad, s.inReset (.triad t) = true ∧ s.dbg.stalled = none ∧ s.NoStall)) ∧
      ((∃ s : State, s.phase = .running ∧ s.Settled ∧ ∃ b : Blk, (b ∈ [.shunt, .spx, .mani, .pool] ∨ (∃ n, b = .ch n) ∨ (∃ n,
      b = .rfx n)) ∧ s.rstBit b = false ∧ s.rst.deferred = [] ∧ (∀ x, lookupNat b.gen s.rst.lastRel = some x →
      10000 ≤ s.now - x)) ∧ (∃ s : State, s.phase = .running ∧ s.Settled ∧ ∃ b : Blk, (b ∈ [.shunt, .spx, .mani, .pool] ∨ (∃ n,
      b = .ch n) ∨ (∃ n, b = .rfx n)) ∧ s.rstBit b = false ∧ ∃ x, lookupNat b.gen s.rst.lastRel = some x ∧ s.now - x < 10000) ∧
      (∃ s : State, s.phase = .running ∧ s.Settled ∧ ∃ b : Blk, (b ∈ [.shunt, .spx, .mani, .pool] ∨ (∃ n, b = .ch n) ∨ (∃ n,
      b = .rfx n)) ∧ s.rst.deferred = [b.gen] ∧ s.rstBit b = true) ∧ (∃ s : State, s.phase = .running ∧ s.Settled ∧ ∃ b : Blk,
      (b ∈ [.shunt, .spx, .mani, .pool] ∨ (∃ n, b = .ch n) ∨ (∃ n, b = .rfx n)) ∧ s.inReset b = true ∧ b ≠ .pool ∧
      s.dbg.stalled = none ∧ s.NoStall)) := by
  refine ⟨⟨⟨Tests.run, ?_, ?_, .a, ?_, ?_, fun x h => by revert h; exact nofun, ?_⟩, ⟨(Tests.run.setRstBit (.triad .a)), ?_, ?_,
    .a, ?_, ?_, ?_⟩⟩, ⟨⟨Tests.run, ?_, ?_, .shunt, ?_, ?_, ?_, fun x h => by revert h; exact nofun⟩,
    ⟨({ Tests.run with rst := { lastRel := [((Blk.gen .shunt), 5)] }, now := 100 }), ?_, ?_, .shunt, ?_, ?_, 5, ?_, ?_⟩,
    ⟨({ Tests.run.setRstBit .shunt with rst := { deferred := [(Blk.gen .shunt)] } }), ?_, ?_, .shunt, ?_, ?_, ?_⟩,
    ⟨(Tests.run.setRstBit .shunt), ?_, ?_, .shunt, ?_, ?_, ?_, ?_, ?_⟩⟩⟩ <;> decide +kernel

theorem witness_PowerAndClocks :
    ((∃ s : State, s.phase ≠ .unpowered ∧ s.Settled ∧ ∃ i : Intake, s.pwr.valid i = true ∧ (s.pwr.put i false).any = true ∧
      s.Quiet 120) ∧ (∃ s : State, s.phase ≠ .unpowered ∧ s.Settled ∧ (s.pwr.failing = false ∧ ∃ i : Intake,
      (s.pwr.put i false).any = false ∧ s.pwr.valid i = true ∧ s.Quiet 121 ∧ (∀ c, (s.prop c).state = .none)) ∧
      (s.phase = .running ∧ s.pwr.vioOk = true ∧ s.spxBusy = false ∧ s.spx.slave = [] ∧ s.Quiet 122) ∧
      ((s.pwr.vioOk = true ∨ s.pwr.nrstLow = false))) ∧ (∃ s : State, s.phase ≠ .unpowered ∧ s.Settled ∧ s.pwr.failing = true ∧
      s.getF Fd.CS_STAT_STEP ≠ 5 ∧ s.pwr.returned = []) ∧ (∃ s : State, s.phase ≠ .unpowered ∧ s.Settled ∧ s.pwr.failing = true ∧
      s.getF Fd.CS_STAT_STEP ≠ 5 ∧ s.pwr.returned ≠ []) ∧ (∃ s : State, s.phase ≠ .unpowered ∧ s.Settled ∧ s.phase = .running ∧
      s.pwr.vioOk = false ∧ s.pwr.nrstLow = true ∧ s.pwr.released = true ∧ s.pwr.failing = false ∧
      s.isF Fd.NRST_STAT_MASKED = false) ∧ (∃ s : State, s.phase ≠ .unpowered ∧ s.Settled ∧ s.Quiet 123)) ∧ (∃ s : State,
      s.phase ≠ .unpowered ∧ s.Settled ∧ (∀ k ∈ [116, 117, 118], s.Quiet k)) := by
  refine ⟨⟨⟨({ (Tests.hush [120, 121, 122, 123] Tests.run) with pwr := { (Tests.hush [120, 121, 122, 123] Tests.run).pwr with aux24 := false, east := true, west := true } }),
    ?_, ?_, .east, ?_, ?_, ?_⟩, ⟨Tests.run, ?_, ?_, ⟨?_, .aux24, ?_, ?_, ?_, ?_⟩, ⟨?_, ?_, ?_, ?_, ?_⟩, ?_⟩,
    ⟨({ (Tests.hush [120, 121, 122, 123] Tests.run) with pwr := { (Tests.hush [120, 121, 122, 123] Tests.run).pwr with aux24 := false, failing := true } }),
    ?_, ?_, ?_, ?_, ?_⟩,
    ⟨({ (Tests.hush [120, 121, 122, 123] Tests.run) with pwr := { (Tests.hush [120, 121, 122, 123] Tests.run).pwr with failing := true, returned := [.aux24] } }),
    ?_, ?_, ?_, ?_, ?_⟩,
    ⟨({ (Tests.hush [120, 121, 122, 123] Tests.run) with pwr := { (Tests.hush [120, 121, 122, 123] Tests.run).pwr with released := true, vioOk := false, nrstLow := true } }),
    ?_, ?_, ?_, ?_, ?_, ?_, ?_, ?_⟩, ⟨(Tests.hush [120, 121, 122, 123] Tests.run), ?_, ?_, ?_⟩⟩, ⟨(Tests.hush [116, 117,
    118] Tests.run), ?_, ?_, ?_⟩⟩ <;> decide +kernel

theorem witness_StartOfTheModule :
    (∃ s : State, s.Settled ∧ s.phase = .unpowered) ∧ (∃ s : State, s.Settled ∧ (s.phase = .powerOn ∨ s.phase = .chipReset) ∧
      (s.pwr.otpLoaded = false ∧ s.pwr.otpBad = false) ∧ (s.pwr.memInit = false ∧ s.flashErr = [])) ∧ (∃ s : State, s.Settled ∧
      (s.phase = .powerOn ∨ s.phase = .chipReset) ∧ s.pwr.memInit = true ∧ s.pwr.otpLoaded = true ∧ s.pwr.vioOk = true ∧
      s.pwr.failing = false ∧ s.pwr.nrstLow = false ∧ s.pwr.byTally = false ∧ s.pwr.bySigbox = false ∧ s.flashErr = [] ∧
      s.flashFlux = [] ∧ (∀ k ∈ [7, 8, 39], s.Quiet k) ∧ s.dbg.stalled = none) ∧ (∃ s : State, s.Settled ∧ s.phase = .running ∧
      s.getF Fd.BOOT_STAT_RESULT = 0 ∧ s.straps.boot = 0 ∧ s.flashErr = [] ∧ s.flashFlux = []) := by
  refine ⟨⟨({ State.reset with phase := .unpowered, pwr := {} }), ?_, ?_⟩, ⟨(Tests.hush [7, 8, 39] State.reset), ?_, ?_, ⟨?_,
    ?_⟩, ⟨?_, ?_⟩⟩,
    ⟨({ (Tests.hush [7, 8, 39] State.reset) with pwr := { aux24 := true, vioOk := true, memInit := true, otpLoaded := true } }),
    ?_, ?_, ?_, ?_, ?_, ?_, ?_, ?_, ?_, ?_, ?_, ?_, ?_⟩, ⟨({ Tests.run.offF Fd.BOOT_STAT_RESULT with image := none }), ?_, ?_,
    ?_, ?_, ?_, ?_⟩⟩ <;> decide +kernel

theorem witness_ChipResetsAndTheStuckPin :
    ((∃ s : State, s.phase = .running ∧ s.Settled ∧ s.pwr.failing = false ∧ s.getF Fd.CS_STAT_STEP ≠ 5 ∧ (s.Quiet 114) ∧
      (s.otp.dbgLock = false ∧ s.dbg.stalled = none) ∧ (∃ ns, ns ≤ 100 ∧ s.pwr.nrstLow = false)) ∧ (∃ s : State,
      s.phase = .running ∧ s.Settled ∧ s.pwr.failing = false ∧ s.getF Fd.CS_STAT_STEP ≠ 5 ∧ s.nrstActs = true ∧
      s.pwr.nrstLow = false ∧ ∃ ns, 1000 ≤ ns)) ∧ ((∃ s : State, s.Settled ∧ (s.phase = .powerOn ∨ s.phase = .chipReset) ∧
      s.pwr.memInit = true ∧ s.pwr.otpLoaded = true ∧ s.pwr.vioOk = true ∧ s.pwr.failing = false ∧ s.pwr.nrstLow = true ∧
      s.isF Fd.NRST_STAT_MASKED = false ∧ s.pwr.byTally = false ∧ s.pwr.bySigbox = false ∧ s.flashErr = [] ∧ s.flashFlux = [] ∧
      (∀ k ∈ [7, 8, 39, 124], s.Quiet k) ∧ s.dbg.stalled = none) ∧ (∃ s : State, s.Settled ∧ s.isF Fd.NRST_STAT_MASKED = true)) := by
  refine ⟨⟨⟨Tests.run, ?_, ?_, ?_, ?_, ?_, ⟨?_, ?_⟩, ⟨0, ?_, ?_⟩⟩,
    ⟨({ Tests.hush [114] Tests.run with pwr := { Tests.run.pwr with released := true } }), ?_, ?_, ?_, ?_, ?_, ?_, 1000, ?_⟩⟩,
    ⟨⟨({ (Tests.hush [7, 8, 39, 124] State.reset) with pwr := { aux24 := true, vioOk := true, memInit := true, otpLoaded := true, nrstLow := true } }),
    ?_, ?_, ?_, ?_, ?_, ?_, ?_, ?_, ?_, ?_, ?_, ?_, ?_, ?_⟩, ⟨(Tests.run.onF Fd.NRST_STAT_MASKED), ?_, ?_⟩⟩⟩ <;> decide +kernel

theorem witness_SleepAndWake :
    (∃ s : State, s.phase = .running ∧ s.Settled ∧ ∃ m, s.running m = true ∧ s.atStation m = true ∧ s.split m.triad = false) ∧
      (∃ s : State, s.phase = .running ∧ s.Settled ∧ s.sleepState = 1) ∧ (∃ s : State, s.phase = .running ∧ s.Settled ∧
      s.sleepState = 2 ∧ s.pwr.vioOk = true ∧ s.getF Fd.BOOT_STAT_RESULT = 1) ∧ (∃ s : State, s.phase = .running ∧ s.Settled ∧
      s.sleepState = 3 ∧ s.slp.supplyUp = false) ∧ (∃ s : State, s.phase = .running ∧ s.Settled ∧ s.sleepState = 3 ∧
      s.slp.supplyUp = true ∧ (∀ m, s.exl m = false ∧ ∃ h, s.VectorReady m (64 + (s.rc' m cIvcfg).toNat % 64) h)) := by
  refine ⟨⟨Tests.run, ?_, ?_, .a0, ?_, ?_, ?_⟩, ⟨(Tests.run.setF Fd.SLEEP_STAT_STATE 1), ?_, ?_, ?_⟩,
    ⟨(Tests.run.setF Fd.SLEEP_STAT_STATE 2), ?_, ?_, ?_, ?_, ?_⟩, ⟨(Tests.run.setF Fd.SLEEP_STAT_STATE 3), ?_, ?_, ?_, ?_⟩,
    ⟨(let s := (Tests.run.setF Fd.SLEEP_STAT_STATE 3);
    { s with slp := { s.slp with supplyUp := true }, machs := Vector.replicate 4 { Tests.machine [] with wait := .waiti } }), ?_,
    ?_, ?_, ?_, fun m => by cases m <;> exact ⟨by decide +kernel, _, ⟨⟨by decide +kernel, by decide +kernel, by decide +kernel,
    by decide +kernel⟩, by decide +kernel, rfl⟩⟩⟩⟩ <;> decide +kernel

theorem witness_SpxPort :
    ((∃ s : State, s.phase = .running ∧ s.Settled ∧ s.inReset .spx = false ∧ (let st := s.getF Fd.SPX_MSTAT_STATE; (st = 0 ∧
      ∃ v : Word, v.toNat % 4 ≠ 3) ∧ (st ≠ 2 ∧ s.spx.tx.length < 64)) ∧ (∃ r, s.spxCheck = some r ∧ r ≠ 3)) ∧ (∃ s : State,
      s.phase = .running ∧ s.Settled ∧ s.inReset .spx = false ∧ s.spxCheck = none ∧ s.spx.tx.length ≤ 64 ∧
      fieldOf (s.getR Rg.SPX_MFRAME) 22 2 = 0 ∧ (s.getR Rg.SPX_MFRAME).getLsbD 24 = false) ∧ (∃ s : State, s.phase = .running ∧
      s.Settled ∧ s.inReset .spx = false ∧ let st := s.getF Fd.SPX_MSTAT_STATE; (st = 2) ∧ (st ≠ 0 ∧ s.pwr.vioOk = true ∧
      s.Quiet 108)) ∧ (∃ s : State, s.phase = .running ∧ s.Settled ∧ s.inReset .spx = false ∧
      let st := s.getF Fd.SPX_MSTAT_STATE; st = 1)) ∧ ((∃ s : State, s.phase = .running ∧ s.Settled ∧ s.inReset .spx = false ∧
      (s.getF Fd.SPX_MSTAT_STATE = 0 ∧ s.pwr.vioOk = true ∧ s.spx.slave = [] ∧ s.isF Fd.SPX_CFG_SLAVE_EN = true) ∧
      (s.spx.mbOut.length < 64)) ∧ (∃ s : State, s.phase = .running ∧ s.Settled ∧ s.inReset .spx = false ∧ ∃ neg : Word,
      s.spx.slave = [{ served := true, neg := neg, early := false }] ∧ s.isF Fd.SPX_SSTAT_BOOT = false ∧ s.spx.mbIn.length < 64)) := by
  refine ⟨⟨⟨Tests.run, ?_, ?_, ?_, ⟨⟨?_, 0, ?_⟩, ⟨?_, ?_⟩⟩, ⟨7, ?_, ?_⟩⟩,
    ⟨((Tests.hush [108] Tests.run).setF Fd.SPX_CFG_ROLE 1 |>.onF Fd.SPX_MSTAT_TOKEN), ?_, ?_, ?_, ?_, ?_, ?_, ?_⟩,
    ⟨(let s := ((((((Tests.hush [108] Tests.run).setF Fd.SPX_CFG_ROLE 1 |>.onF Fd.SPX_MSTAT_TOKEN).setF Fd.SPX_CFG_ROLE 1).setR Rg.SPX_MFRAME 0).setF Fd.SPX_MLEN_LEN 12).setF Fd.SPX_MSTAT_STATE 2);
    { s with spx := { s.spx with tx := [1], rx := [9], len := 12, left := 4, rel := true } }), ?_, ?_, ?_, ?_, ⟨?_, ?_, ?_⟩⟩,
    ⟨(let s := ((((((Tests.hush [108] Tests.run).setF Fd.SPX_CFG_ROLE 1 |>.onF Fd.SPX_MSTAT_TOKEN).setF Fd.SPX_CFG_ROLE 1).setR Rg.SPX_MFRAME 0).setF Fd.SPX_MLEN_LEN 12).setF Fd.SPX_MSTAT_STATE 1);
    { s with spx := { s.spx with tx := [1], rx := [9], len := 12, left := 4, rel := true } }), ?_, ?_, ?_, ?_⟩⟩, ⟨⟨Tests.run, ?_,
    ?_, ?_, ⟨?_, ?_, ?_, ?_⟩, ?_⟩,
    ⟨({ Tests.run.onF Fd.SPX_CFG_SLAVE_EN with spx := { slave := [{ served := true, neg := 0x8001, early := false }], mbIn := [7] } }),
    ?_, ?_, ?_, 0x8001, ?_, ?_, ?_⟩⟩⟩ <;> decide +kernel

theorem witness_WagonPool :
    (∃ s : State, s.phase = .running ∧ s.Settled ∧ s.inReset .pool = false ∧ sortedNat s.pool.tags = true ∧ ∃ i : Nat, i < 4096 ∧
      (s.isF Fd.PL_STAT_SWEEP = false ∧ s.plFirst = some i) ∧ (∃ v : Word, ∃ tag, v.toNat = tag ∧ 0 < tag ∧ tag < 4096) ∧
      (∃ v : Word, v.toNat % 16 ≠ s.getF Fd.PL_CFG_BASE ∧ s.pool.tags = [] ∧ s.pool.marking = [] ∧
      s.isF Fd.PL_STAT_SWEEP = false)) ∧ (∃ s : State, s.phase = .running ∧ s.Settled ∧ s.inReset .pool = false ∧
      sortedNat s.pool.tags = true ∧ ∃ i : Nat, i < 4096 ∧ (∃ m : Mach,
      let id := if fieldOf (s.rc' m cTaskid) 0 5 = 31 then 3 * 1024 + m.idx.val else 1024 + fieldOf (s.rc' m cTaskid) 0 5;
      s.plTag i = id ∧ ∃ v : Word, let base := s.getF Fd.PL_CFG_BASE * 2 ^ 20; v.toNat = base + 256 * i) ∧ (∃ v : Word, ∃ tag,
      v.toNat = i + tag * 2 ^ 16 ∧ tag < 4096 ∧ ∃ m : Mach,
      let id := if fieldOf (s.rc' m cTaskid) 0 5 = 31 then 3 * 1024 + m.idx.val else 1024 + fieldOf (s.rc' m cTaskid) 0 5;
      s.plTag i = id ∧ tagValid tag = true ∧ (tagKind tag = 2 → s.plSessHeld < s.getF Fd.PL_CFG_SESS_LIM))) ∧ (∃ s : State,
      s.phase = .running ∧ s.Settled ∧ s.inReset .pool = false ∧ sortedNat s.pool.tags = true ∧ ∃ i : Nat, i < 4096 ∧ ∃ r,
      s.pool.marking = i :: r ∧ s.Canon) ∧ (∃ s : State, s.phase = .running ∧ s.Settled ∧ s.inReset .pool = false ∧
      sortedNat s.pool.tags = true ∧ ∃ i : Nat, i < 4096 ∧ s.isF Fd.PL_STAT_SWEEP = true) := by
  refine ⟨⟨Tests.run, ?_, ?_, ?_, ?_, 0, ?_, ⟨?_, ?_⟩, ⟨1, 1, ?_, ?_, ?_⟩, ⟨0, ?_, ?_, ?_, ?_⟩⟩,
    ⟨(({ Tests.run with pool := { tags := [(0, 3*1024), (1, 5), (2, 3*1024), (3, 1025)], fresh := 4 } }).setF Fd.PL_CFG_BASE 0),
    ?_, ?_, ?_, ?_, 0, ?_, ⟨.a0, ?_, 0, ?_⟩, ⟨0x0C000000, 0xC00, ?_, ?_, .a0, ?_, ?_, ?_⟩⟩,
    ⟨(({ ({ Tests.run with pool := { tags := [(0, 3*1024), (1, 5), (2, 3*1024), (3, 1025)], fresh := 4 } }) with pool := { tags := [], fresh := 4096, freed := [0, 5], marking := [1] }, sram := [(0x10,5),(0x110,1),(0x210,2)], sramMark := [(2,.written),(34,.written),(66,.written)] }).setF Fd.PL_CFG_BASE 0),
    ?_, ?_, ?_, ?_, 1, ?_, [], ?_, Tests.canon ?_⟩, ⟨((Tests.run.onF Fd.PL_STAT_SWEEP).setF Fd.PL_CFG_BASE 0), ?_, ?_, ?_, ?_, 0,
    ?_, ?_⟩⟩ <;> decide +kernel

theorem witness_Shunters :
    ((∃ s : State, s.phase = .running ∧ s.Settled ∧ s.inReset .shunt = false ∧ ∃ n : Fin 16,
      let st := s.getF (Fd.SH_STAT_STATE n.val); (st = 0 ∨ st = 3) ∧ ∃ p ∈ [(Instr.shGo n, (s.getR (Rg.SH_HEAD_LO n.val),
      s.getR (Rg.SH_HEAD_HI n.val))), (.shResume n, (s.getR (Rg.SH_RESUME_LO n.val), s.getR (Rg.SH_RESUME_HI n.val)))],
      p.2.2 = 0x8000_0000 ∧ p.2.1.toNat % 64 = 0 ∧ p.2.1.toNat < 0x0100_0000) ∧ (∃ s : State, s.phase = .running ∧ s.Settled ∧
      s.inReset .shunt = false ∧ ∃ n : Fin 16, (let st := s.getF (Fd.SH_STAT_STATE n.val); st = 1) ∧ ((∀ k, k ≠ n →
      s.shActive k = false) ∧ let st := s.getF (Fd.SH_STAT_STATE n.val); st = 1 ∧ (let h := s.shu n; h.stage = .fetch ∧
      let cur := s.shCur n; cur.2 = 0x8000_0000 ∧ (h.unit = none ∧ h.pieces = [] ∧ s.SramReady cur.1.toNat 64 ∧ (∀ k < 64,
      s.markOf ((cur.1.toNat + k) / 8) = some .written) ∧ let words := wordsOfBytes (leBytes (s.sramRead cur.1.toNat 64) 64);
      let got := { h with words := words, got := none }; got.ctrl 31 = true ∧ got.badWaybill = none ∧ got.crcEn = false ∧
      got.loc false = true ∧ got.loc true = true) ∧ (s.Quiet 96)) ∧ (s.Quiet 103))) ∧ (∃ s : State, s.phase = .running ∧
      s.Settled ∧ s.inReset .shunt = false ∧ ∃ n : Fin 16, (∃ k, s.shWaits k = true ∧
      s.getF (Fd.SH_CFG_PRIO n.val) < s.getF (Fd.SH_CFG_PRIO k.val)) ∧ let cur := s.shCur n; isLocal cur.2 = true) ∧
      (∃ s : State, s.phase = .running ∧ s.Settled ∧ s.inReset .shunt = false ∧ ∃ n : Fin 16, (∀ k, k ≠ n →
      s.shActive k = false) ∧ let st := s.getF (Fd.SH_STAT_STATE n.val); st = 1 ∧ let h := s.shu n; h.stage = .fetch ∧
      let cur := s.shCur n; cur.2 = 0x8000_0000 ∧ h.unit = none ∧ h.pieces = [] ∧ s.SramReady cur.1.toNat 64 ∧ (∀ k < 64,
      s.markOf ((cur.1.toNat + k) / 8) = some .written) ∧ let words := wordsOfBytes (leBytes (s.sramRead cur.1.toNat 64) 64);
      let got := { h with words := words, got := none }; got.ctrl 31 = false) ∧ (∃ s : State, s.phase = .running ∧ s.Settled ∧
      s.inReset .shunt = false ∧ ∃ n : Fin 16, (∀ k, k ≠ n → s.shActive k = false) ∧ let st := s.getF (Fd.SH_STAT_STATE n.val);
      st = 1 ∧ let h := s.shu n; h.stage = .unit ∧ h.fail = none ∧ h.unit = none ∧ let cur := s.shCur n; cur.2 = 0x8000_0000 ∧
      h.pieces = []) ∧ (∃ s : State, s.phase = .running ∧ s.Settled ∧ s.inReset .shunt = false ∧ ∃ n : Fin 16, (∀ k, k ≠ n →
      s.shActive k = false) ∧ let st := s.getF (Fd.SH_STAT_STATE n.val); st = 1 ∧ let h := s.shu n; h.stage = .fetch ∧ ∃ p,
      h.pieces = [p] ∧ p.off = 0 ∧ p.write = false ∧ p.req = none ∧ ∃ r, p.again = some r ∧ h.fail = none ∧
      s.bitF Fd.SH_BUSY_BUSY n.val = true ∧ 2000000 ≤ s.now - p.first) ∧ (∃ s : State, s.phase = .running ∧ s.Settled ∧
      s.inReset .shunt = false ∧ ∃ n : Fin 16, (∀ k, k ≠ n → s.shActive k = false) ∧ let st := s.getF (Fd.SH_STAT_STATE n.val);
      st = 1 ∧ let h := s.shu n; h.stage = .fetch ∧ ∃ p, h.pieces = [p] ∧ p.off = 0 ∧ p.write = false ∧ p.req = none ∧ ∃ r,
      p.again = some r ∧ h.fail = none ∧ s.bitF Fd.SH_BUSY_BUSY n.val = true ∧ s.now - p.first < 2000000 ∧
      s.inReset .sess = false ∧ let cur := s.shCur n; pairAddr cur.1 cur.2 / 2 ^ 42 ≠ s.nodeId ∧
      pairAddr cur.1 cur.2 / 2 ^ 42 ≠ 0x3FF ∧ s.clientCheck h.sid (pairAddr cur.1 cur.2 / 2 ^ 42) false = none)) ∧ ((∃ s : State,
      s.phase = .running ∧ s.Settled ∧ s.Canon ∧ ∃ n : Fin 16, s.shActive n = true ∧ (∀ k, k ≠ n → s.shActive k = false) ∧
      let h := s.shu n; h.stage = .move ∧ h.fail = none ∧ h.unit = none ∧ h.pieces = [] ∧ h.parts = [] ∧ h.loc false = true ∧
      h.loc true = true ∧ h.stream.length = h.nextRd ∧ h.wr < h.total ∧ h.canWrite = false ∧ h.nextRd < h.total ∧
      let a := h.addr false h.nextRd; inSram a = true ∧ let len := h.pieceLen false h.nextRd; s.shRefuses false a len = none ∧
      let w := h.widened h.nextRd len; s.SramReady w.1 w.2 ∧ (∀ k < w.2, s.markOf ((w.1 + k) / 8) = some .written)) ∧
      (∃ s : State, s.phase = .running ∧ s.Settled ∧ s.Canon ∧ ∃ n : Fin 16, s.shActive n = true ∧ (∀ k, k ≠ n →
      s.shActive k = false) ∧ let h := s.shu n; h.stage = .move ∧ h.fail = none ∧ h.unit = none ∧ h.pieces = [] ∧ h.parts = [] ∧
      h.loc false = true ∧ h.loc true = true ∧ h.stream.length = h.nextRd ∧ h.wr < h.total ∧ h.canWrite = true ∧
      let a := h.addr true h.wr; inSram a = true ∧ let len := h.pieceLen true h.wr; s.shRefuses true a len = none ∧
      s.SramReady a len ∧ 0 < len ∧ h.wr + len < h.total) ∧ (∃ s : State, s.phase = .running ∧ s.Settled ∧ s.Canon ∧
      ∃ n : Fin 16, s.shActive n = true ∧ (∀ k, k ≠ n → s.shActive k = false) ∧ let h := s.shu n; h.stage = .back ∧
      h.fail = none ∧ h.unit = none ∧ h.back = 1 ∧ let cur := s.shCur n; cur.2 = 0x8000_0000 ∧ cur.1.toNat % 64 = 0 ∧
      s.SramReady cur.1.toNat 64 ∧ h.ctrl 10 = false ∧ s.getF (Fd.SH_STAT_STATE n.val) = 1)) := by
  refine ⟨⟨⟨((((Tests.hush [96,
    103] Tests.run).setR (Rg.SH_HEAD_LO 2) 0x2000).setR (Rg.SH_HEAD_HI 2) 0x80000000).setR (Rg.SH_RESUME_LO 2) 0x2040).setR (Rg.SH_RESUME_HI 2) 0x80000000,
    ?_, ?_, ?_, 2, ?_, _, .head _, ?_, ?_, ?_⟩,
    ⟨(Tests.shunt 2 { stage := .fetch } ({ Tests.hush [96, 103] Tests.run with sram := Tests.cells 0x2000 Tests.waybill })), ?_,
    ?_, ?_, 2, ?_, ⟨?_, ?_, ⟨?_, ?_, ⟨?_, ?_, ⟨?_, ?_, ?_, ?_⟩, ?_, ?_, ?_, ?_, ?_, ?_⟩, ?_⟩, ?_⟩⟩,
    ⟨((Tests.shunt 3 { stage := .fetch } (Tests.shunt 2 { stage := .fetch } ((Tests.hush [96,
    103] Tests.run)))).setF (Fd.SH_CFG_PRIO 3) 2), ?_, ?_, ?_, 2, ?_, ?_⟩,
    ⟨(Tests.shunt 2 { stage := .fetch } ({ Tests.hush [96, 103] Tests.run with sram := Tests.cells 0x2000 (0 :: Tests.waybill.tail) })),
    ?_, ?_, ?_, 2, ?_, ?_, ?_, ?_, ?_, ?_, ⟨?_, ?_, ?_, ?_⟩, ?_, ?_⟩, ⟨(Tests.shunt 2 { stage := .unit } (Tests.hush [96,
    103] Tests.run)), ?_, ?_, ?_, 2, ?_, ?_, ?_, ?_, ?_, ?_, ?_⟩,
    ⟨(let s := ((Tests.shunt 2 { stage := .fetch, sid := 3, pieces := [{ off := 0, len := 64, write := false, first := 5, req := none, again := some 0x23 }] } (Tests.sess (Tests.net ((Tests.hush [96,
    103] Tests.run))))).setR (Rg.SH_CUR_HI 2) (9*1024)); { s with now := 2000005 }), ?_, ?_, ?_, 2, ?_, ?_, ?_,
    { off := 0, len := 64, write := false, first := 5, req := none, again := some 0x23 }, ?_, ?_, ?_, ?_, 0x23, ?_, ?_, ?_, ?_⟩,
    ⟨(let s := ((Tests.shunt 2 { stage := .fetch, sid := 3, pieces := [{ off := 0, len := 64, write := false, first := 5, req := none, again := some 0x23 }] } (Tests.sess (Tests.net ((Tests.hush [96,
    103] Tests.run))))).setR (Rg.SH_CUR_HI 2) (9*1024)); { s with now := 100 }), ?_, ?_, ?_, 2, ?_, ?_, ?_,
    { off := 0, len := 64, write := false, first := 5, req := none, again := some 0x23 }, ?_, ?_, ?_, ?_, 0x23, ?_, ?_, ?_, ?_,
    ?_, ?_, ?_, ?_⟩⟩, ⟨⟨(Tests.shunt 2 { stage := .move, words := Tests.waybill } Tests.run), ?_, ?_, Tests.canon ?_, 2, ?_, ?_,
    ?_, ?_, ?_, ?_, ?_, ?_, ?_, ?_, ?_, ?_, ?_, ?_, ?_, ⟨?_, ?_, ?_, ?_⟩, ?_⟩,
    ⟨(Tests.shunt 2 { stage := .move, words := Tests.waybill, stream := (List.range 64).map (fun k => BitVec.ofNat 8 k), nextRd := 64 } Tests.run),
    ?_, ?_, Tests.canon ?_, 2, ?_, ?_, ?_, ?_, ?_, ?_, ?_, ?_, ?_, ?_, ?_, ?_, ?_, ?_, ⟨?_, ?_, ?_, ?_⟩, ?_, ?_⟩,
    ⟨(Tests.shunt 2 { stage := .back, back := 1, words := 0x1234 :: 5 :: Tests.waybill.drop 2 } Tests.run), ?_, ?_,
    Tests.canon ?_, 2, ?_, ?_, ?_, ?_, ?_, ?_, ?_, ?_, ⟨?_, ?_, ?_, ?_⟩, ?_, ?_⟩⟩⟩ <;> decide +kernel

theorem witness_LinkTraining :
    (∃ s : State, s.ovLive = true ∧ s.Settled ∧ (∀ k ∈ [37, 40, 48, 49, 52], s.Quiet k) ∧ ∃ p : Port,
      let st := Fd.OV_PSTAT_STATE p.idx; s.getF st = 0 ∧ s.isF (Fd.OV_PCTRL_DISABLE p.idx) = false) ∧ (∃ s : State,
      s.ovLive = true ∧ s.Settled ∧ (∀ k ∈ [37, 40, 48, 49, 52], s.Quiet k) ∧ ∃ p : Port, let st := Fd.OV_PSTAT_STATE p.idx;
      s.getF st = 1 ∧ (s.port p).exchanged = false ∧ (s.port p).toClose = false ∧ (∃ o : PeerOffer,
      (o.rev20 || o.rev11 || o.rev10) = true ∧ o.serial ≠ s.serial) ∧ (∃ o : PeerOffer,
      (o.rev20 || o.rev11 || o.rev10) = false) ∧ (∃ o : PeerOffer, (o.rev20 || o.rev11 || o.rev10) = true ∧
      o.serial = s.serial)) ∧ (∃ s : State, s.ovLive = true ∧ s.Settled ∧ (∀ k ∈ [37, 40, 48, 49, 52], s.Quiet k) ∧ ∃ p : Port,
      let st := Fd.OV_PSTAT_STATE p.idx; s.getF st = 1 ∧ (s.port p).exchanged = true) ∧ (∃ s : State, s.ovLive = true ∧
      s.Settled ∧ (∀ k ∈ [37, 40, 48, 49, 52], s.Quiet k) ∧ (∃ p : Port, let st := Fd.OV_PSTAT_STATE p.idx; s.getF st = 3) ∧
      ((∀ k ∈ [32, 33, 35], s.Quiet k) ∧ ∃ p : Port, s.isF (Fd.OV_PCTRL_DISABLE p.idx) = false ∧
      let st := Fd.OV_PSTAT_STATE p.idx; s.getF st = 3)) ∧ (∃ s : State, s.ovLive = true ∧ s.Settled ∧ (∀ k ∈ [37, 40, 48, 49,
      52], s.Quiet k) ∧ ∃ p : Port, let st := Fd.OV_PSTAT_STATE p.idx; s.getF st = 4) ∧ (∃ s : State, s.ovLive = true ∧
      s.Settled ∧ (∀ k ∈ [37, 40, 48, 49, 52], s.Quiet k) ∧ (∀ k ∈ [32, 33, 35], s.Quiet k) ∧ ∃ p : Port,
      s.isF (Fd.OV_PCTRL_DISABLE p.idx) = false ∧ s.linked p = true) ∧ (∃ s : State, s.ovLive = true ∧ s.Settled ∧ (∀ k ∈ [37,
      40, 48, 49, 52], s.Quiet k) ∧ ∃ p : Port, let st := Fd.OV_PSTAT_STATE p.idx; s.getF st = 5 ∧
      s.isF (Fd.OV_PCTRL_DISABLE p.idx) = true) := by
  refine ⟨⟨Tests.run, ?_, ?_, ?_, .east, ?_, ?_⟩, ⟨((((Tests.net (Tests.hush [32, 33, 35, 37, 40, 48, 49,
    52]))).setF (Fd.OV_PSTAT_STATE 0) 1).setPort .east {}), ?_, ?_, ?_, .east, ?_, ?_, ?_,
    ⟨{ serial := 77, rev10 := true, rev11 := true, rev20 := true, node := some 9, port := .west }, ?_, ?_⟩,
    ⟨{ serial := 77, rev10 := false, rev11 := false, rev20 := false, node := some 9, port := .west }, ?_⟩,
    ⟨{ serial := 0, rev10 := true, rev11 := true, rev20 := true, node := some 9, port := .west }, ?_, ?_⟩⟩,
    ⟨((((Tests.net (Tests.hush [32, 33, 35, 37, 40, 48, 49,
    52]))).setF (Fd.OV_PSTAT_STATE 0) 1).setPort .east { exchanged := true }), ?_, ?_, ?_, .east, ?_, ?_⟩,
    ⟨((((Tests.net (Tests.hush [32, 33, 35, 37, 40, 48, 49, 52]))).setF (Fd.OV_PSTAT_STATE 0) 3).setPort .east {}), ?_, ?_, ?_,
    ⟨.east, ?_⟩, ⟨?_, .east, ?_, ?_⟩⟩, ⟨((((Tests.net (Tests.hush [32, 33, 35, 37, 40, 48, 49,
    52]))).setF (Fd.OV_PSTAT_STATE 0) 4).setPort .east {}), ?_, ?_, ?_, .east, ?_⟩, ⟨((((Tests.net (Tests.hush [32, 33, 35, 37,
    40, 48, 49, 52]))).setF (Fd.OV_PSTAT_STATE 0) 0).setPort .east {}), ?_, ?_, ?_, ?_, .west, ?_, ?_⟩,
    ⟨(((((Tests.net (Tests.hush [32, 33, 35, 37, 40, 48, 49,
    52]))).setF (Fd.OV_PSTAT_STATE 0) 5).setPort .east {}).onF (Fd.OV_PCTRL_DISABLE 0)), ?_, ?_, ?_, .east, ?_,
    ?_⟩⟩ <;> decide +kernel

theorem witness_FramesAndLossesOfALink :
    ((∃ s : State, s.ovLive = true ∧ s.Settled ∧ ∃ p : Port, s.linked p = true ∧ (∃ b : Burst, b.elastic = false ∧
      burstAccepted b = true ∧ let x := s.port p; (b.pair = false ∧ x.burst0 = none ∨ b.pair = true ∧ b.second = true ∧
      x.burst0 = some b.lseq) ∧ b.lseq = x.rxNext ∧ b.frame.broadcast = false ∧ s.numbered = true ∧ b.frame.node = s.nodeId ∧
      b.frame.body ≠ .link ∧ (∀ k, b.frame.body ≠ .other k)) ∧ (∃ b : Burst, b.elastic = false ∧ burstAccepted b = true ∧
      let x := s.port p; (b.pair = false ∧ x.burst0 = none ∨ b.pair = true ∧ b.second = true ∧ x.burst0 = some b.lseq) ∧
      b.lseq < 65536 ∧ x.rxNext < 65536 ∧ 0 < (x.rxNext + 65536 - b.lseq) % 65536 ∧
      (x.rxNext + 65536 - b.lseq) % 65536 ≤ 32768) ∧ (∃ b : Burst, b.elastic = false ∧ burstAccepted b = true ∧
      let x := s.port p; (b.pair = false ∧ x.burst0 = none ∨ b.pair = true ∧ b.second = true ∧ x.burst0 = some b.lseq) ∧
      32768 < (x.rxNext + 65536 - b.lseq) % 65536) ∧ (∃ b : Burst, b.elastic = false ∧ burstAccepted b = true ∧ b.pair = true ∧
      b.second = false ∧ let x := s.port p; x.burst0 = none) ∧ (∃ b : Burst, b.elastic = false ∧ burstAccepted b = false ∧
      let x := s.port p; x.burst0 = none ∧ s.Quiet 36) ∧ (∃ (k : Fin 65536) (c : Byte), c ≠ controlCrc k.val)) ∧ (∃ s : State,
      s.ovLive = true ∧ s.Settled ∧ ∃ p : Port, s.linked p = true ∧ (∃ (k : Fin 65536) (c : Byte), c = controlCrc k.val ∧
      let x := s.port p; ∃ f, ∃ pre, ∃ post, x.unacked = pre ++ (k.val, f) :: post ∧ (∀ y ∈ pre, y.1 ≠ k.val) ∧ x.held = [] ∧
      post ≠ [] ∧ x.replays < 7) ∧ (let x := s.port p; x.unacked ≠ [] ∧ x.replays < 7)) ∧ (∃ s : State, s.ovLive = true ∧
      s.Settled ∧ ∃ p : Port, s.linked p = true ∧ let x := s.port p; (∃ q ∈ x.held, x.full q.2 = true) ∧ x.holdTold = false ∧
      s.Quiet 42)) ∧ ((∃ s : State, s.ovLive = true ∧ s.Settled ∧ (∀ k ∈ [32, 33, 34, 35, 37, 40, 43, 48, 49, 52], s.Quiet k) ∧
      ∃ p : Port, s.linked p = true ∧ let x := s.port p; x.marked = false ∧ x.silent = 0) ∧ (∃ s : State, s.ovLive = true ∧
      s.Settled ∧ (∀ k ∈ [32, 33, 34, 35, 37, 40, 43, 48, 49, 52], s.Quiet k) ∧ ∃ p : Port, s.linked p = true ∧
      let x := s.port p; x.unacked ≠ [] ∧ 7 ≤ x.replays) ∧ (∃ s : State, s.ovLive = true ∧ s.Settled ∧ (∀ k ∈ [32, 33, 34, 35,
      37, 40, 43, 48, 49, 52], s.Quiet k) ∧ ∃ p : Port, s.linked p = true ∧ let x := s.port p; x.marked = true) ∧ (∃ s : State,
      s.ovLive = true ∧ s.Settled ∧ (∀ k ∈ [32, 33, 34, 35, 37, 40, 43, 48, 49, 52], s.Quiet k) ∧ ∃ p : Port, s.linked p = true ∧
      let x := s.port p; x.marked = false ∧ 1 ≤ x.silent) ∧ (∃ s : State, s.ovLive = true ∧ s.Settled ∧ (∀ k ∈ [32, 33, 34, 35,
      37, 40, 43, 48, 49, 52], s.Quiet k) ∧ ∃ p : Port, let x := s.port p; x.toClose = true ∧ s.linked p = false) ∧ (∃ s : State,
      s.ovLive = true ∧ s.Settled ∧ (∀ k ∈ [32, 33, 34, 35, 37, 40, 43, 48, 49, 52], s.Quiet k) ∧
      s.isF Fd.OV_CFG_RING_EXPECTED = true ∧ s.getF Fd.OV_TOPO_MODE = 1 ∧ s.ov.ringTold = false)) := by
  refine ⟨⟨⟨((((Tests.net (Tests.hush [36, 42]))).setF (Fd.OV_PSTAT_STATE 0) 2).setPort .east {}), ?_, ?_, .east, ?_,
    ⟨(let b : Burst := { check := 0, frame := { dest := nodeBase 5, src := 9, oseq := 4, cls := 1, body := .wake }, lseq := 0, len := 16, bytes := List.replicate 16 3, last := eofWord };
    { b with check := burstSum b + 0 }), ?_,
    Tests.burst_accepted { check := 0, frame := { dest := nodeBase 5, src := 9, oseq := 4, cls := 1, body := .wake }, lseq := 0, len := 16, bytes := List.replicate 16 3, last := eofWord } (by decide +kernel),
    ?_, ?_, ?_, ?_, ?_, ?_, nofun⟩,
    ⟨(let b : Burst := { check := 0, frame := { dest := nodeBase 5, src := 9, oseq := 4, cls := 1, body := .wake }, lseq := 65535, len := 16, bytes := List.replicate 16 3, last := eofWord };
    { b with check := burstSum b + 0 }), ?_,
    Tests.burst_accepted { check := 0, frame := { dest := nodeBase 5, src := 9, oseq := 4, cls := 1, body := .wake }, lseq := 65535, len := 16, bytes := List.replicate 16 3, last := eofWord } (by decide +kernel),
    ?_, ?_, ?_, ?_, ?_⟩,
    ⟨(let b : Burst := { check := 0, frame := { dest := nodeBase 5, src := 9, oseq := 4, cls := 1, body := .wake }, lseq := 32767, len := 16, bytes := List.replicate 16 3, last := eofWord };
    { b with check := burstSum b + 0 }), ?_,
    Tests.burst_accepted { check := 0, frame := { dest := nodeBase 5, src := 9, oseq := 4, cls := 1, body := .wake }, lseq := 32767, len := 16, bytes := List.replicate 16 3, last := eofWord } (by decide +kernel),
    ?_, ?_⟩,
    ⟨(let b : Burst := { check := 0, frame := { dest := nodeBase 5, src := 9, oseq := 4, cls := 1, body := .wake }, lseq := 0, len := 512, bytes := List.replicate 512 3, last := eofWord, pair := true };
    { b with check := burstSum b + 0 }), ?_,
    Tests.burst_accepted { check := 0, frame := { dest := nodeBase 5, src := 9, oseq := 4, cls := 1, body := .wake }, lseq := 0, len := 512, bytes := List.replicate 512 3, last := eofWord, pair := true } (by decide +kernel),
    ?_, ?_, ?_⟩,
    ⟨(let b : Burst := { check := 0, frame := { dest := nodeBase 5, src := 9, oseq := 4, cls := 1, body := .wake }, lseq := 0, len := 16, bytes := List.replicate 16 3, last := abortWord };
    { b with check := burstSum b + 0 }), ?_, ?_, ?_, ?_⟩, ⟨0, controlCrc 1, ?_⟩⟩, ⟨((((Tests.net (Tests.hush [36,
    42]))).setF (Fd.OV_PSTAT_STATE 0) 2).setPort .east { unacked := [(0, { dest := nodeBase 9, src := 5, oseq := 7, cls := 1, body := .wake }), (1, { dest := nodeBase 9, src := 5, oseq := 7, cls := 1, body := .wake }), (2, { dest := nodeBase 9, src := 5, oseq := 7, cls := 1, body := .wake })] }),
    ?_, ?_, .east, ?_, ⟨0, controlCrc 0, ?_, { dest := nodeBase 9, src := 5, oseq := 7, cls := 1, body := .wake }, [],
    [(1,{ dest := nodeBase 9, src := 5, oseq := 7, cls := 1, body := .wake }),(2,{ dest := nodeBase 9, src := 5, oseq := 7, cls := 1, body := .wake })],
    ?_, ?_, ?_, ?_, ?_⟩, ⟨?_, ?_⟩⟩, ⟨((((Tests.net (Tests.hush [36,
    42]))).setF (Fd.OV_PSTAT_STATE 0) 2).setPort .east { unacked := List.replicate 33 (0, { dest := nodeBase 9, src := 5, oseq := 7, cls := 1, body := .sessReq { Tests.req with data := List.replicate 500 0 } }), held := [(0, { dest := nodeBase 9, src := 5, oseq := 7, cls := 1, body := .wake })] }),
    ?_, ?_, .east, ?_, ?_, ?_, ?_⟩⟩, ⟨⟨((((Tests.net (Tests.hush [32, 33, 34, 35, 37, 40, 43, 48, 49,
    52]))).setF (Fd.OV_PSTAT_STATE 0) 2).setPort .east {}), ?_, ?_, ?_, .east, ?_, ?_, ?_⟩, ⟨((((Tests.net (Tests.hush [32, 33,
    34, 35, 37, 40, 43, 48, 49,
    52]))).setF (Fd.OV_PSTAT_STATE 0) 2).setPort .east { unacked := [(0, { dest := nodeBase 9, src := 5, oseq := 7, cls := 1, body := .wake }), (1, { dest := nodeBase 9, src := 5, oseq := 7, cls := 1, body := .wake })], replays := 7 }),
    ?_, ?_, ?_, .east, ?_, ?_, ?_⟩, ⟨((((Tests.net (Tests.hush [32, 33, 34, 35, 37, 40, 43, 48, 49,
    52]))).setF (Fd.OV_PSTAT_STATE 0) 2).setPort .east { marked := true, silent := 1 }), ?_, ?_, ?_, .east, ?_, ?_⟩,
    ⟨((((Tests.net (Tests.hush [32, 33, 34, 35, 37, 40, 43, 48, 49,
    52]))).setF (Fd.OV_PSTAT_STATE 0) 2).setPort .east { silent := 1 }), ?_, ?_, ?_, .east, ?_, ?_, ?_⟩,
    ⟨(((((((Tests.net (Tests.hush [32, 33, 34, 35, 37, 40, 43, 48, 49,
    52]))).setF (Fd.OV_PSTAT_STATE 0) 0).setPort .east {}).setPort .east { toClose := true, unacked := [(0, { dest := nodeBase 9, src := 5, oseq := 7, cls := 1, body := .wake }), (1, { dest := nodeBase 9, src := 5, oseq := 7, cls := 1, body := .wake })], held := [(3, { dest := nodeBase 9, src := 5, oseq := 7, cls := 1, body := .wake })] }))),
    ?_, ?_, ?_, .east, ?_, ?_⟩, ⟨((((Tests.net (Tests.hush [32, 33, 34, 35, 37, 40, 43, 48, 49,
    52]))).onF Fd.OV_CFG_RING_EXPECTED).setF Fd.OV_TOPO_MODE 1), ?_, ?_, ?_, ?_, ?_, ?_⟩⟩⟩ <;> decide +kernel

theorem witness_NodesOfTheStation :
    (∃ s : State, s.ovLive = true ∧ s.Settled ∧ (∀ k ∈ [35, 38, 40, 48, 49, 51, 52], s.Quiet k) ∧
      ∃ (p : Port) (f : Frame) (r : List (Option Port × Frame)), (s.ov.inbox = (some p, f) :: r) ∧ ∃ m, f.body = .presence m ∧
      ¬(s.numbered = true ∧ m.node = s.nodeId ∧ m.serial ≠ s.serial)) ∧ (∃ s : State, s.ovLive = true ∧ s.Settled ∧ (∀ k ∈ [35,
      38, 40, 48, 49, 51, 52], s.Quiet k) ∧ ∃ (p : Port) (f : Frame) (r : List (Option Port × Frame)), (s.ov.inbox = (some p,
      f) :: r) ∧ ∃ m, f.body = .presence m ∧ s.numbered = true ∧ m.node = s.nodeId ∧ m.serial.toNat < s.serial.toNat) ∧
      (∃ s : State, s.ovLive = true ∧ s.Settled ∧ (∀ k ∈ [35, 38, 40, 48, 49, 51, 52], s.Quiet k) ∧
      ∃ (p : Port) (f : Frame) (r : List (Option Port × Frame)), (s.ov.inbox = (some p, f) :: r) ∧ ∃ m, f.body = .presence m ∧
      s.numbered = true ∧ m.node = s.nodeId ∧ s.serial.toNat < m.serial.toNat) ∧ (∃ s : State, s.ovLive = true ∧ s.Settled ∧
      (∀ k ∈ [35, 38, 40, 48, 49, 51, 52], s.Quiet k) ∧ sortedNat s.ov.nodes = true ∧ ∃ n,
      (lookupNat n s.ov.nodes).isSome = true) ∧ (∃ s : State, s.ovLive = true ∧ s.Settled ∧ (∀ k ∈ [35, 38, 40, 48, 49, 51, 52],
      s.Quiet k) ∧ ∃ (p : Port) (f : Frame) (r : List (Option Port × Frame)), (s.ov.inbox = (some p, f) :: r) ∧ ∃ n, ∃ q, ∃ st,
      ∃ beyond, f.body = .topology n q st beyond ∧ ∃ i, lookupNat n s.ov.nodes = some i) ∧ (∃ s : State, s.ovLive = true ∧ s.Settled ∧ (∀ k ∈ [35,
      38, 40, 48, 49, 51, 52], s.Quiet k) ∧ ∃ (p : Port) (f : Frame) (r : List (Option Port × Frame)), (s.ov.inbox = (some p,
      f) :: r) ∧ ∃ sn, ∃ id, f.body = .assign sn id ∧ s.numbered = false ∧ s.isF Fd.OV_CFG_ASSIGN_EN = true ∧ sn = s.serial ∧
      id < 1023) ∧ (∃ s : State, s.ovLive = true ∧ s.Settled ∧ (∀ k ∈ [35, 38, 40, 48, 49, 51, 52], s.Quiet k) ∧
      ∃ (p : Port) (f : Frame) (r : List (Option Port × Frame)), (s.ov.inbox = (some p, f) :: r) ∧ ∃ sn, ∃ id,
      f.body = .assign sn id ∧ ¬(s.numbered = false ∧ s.isF Fd.OV_CFG_ASSIGN_EN = true ∧ sn = s.serial ∧ id < 1023)) ∧
      (∃ s : State, s.ovLive = true ∧ s.Settled ∧ (∀ k ∈ [35, 38, 40, 48, 49, 51, 52], s.Quiet k) ∧
      ∃ (p : Port) (f : Frame) (r : List (Option Port × Frame)), (s.ov.inbox = (some p, f) :: r) ∧ f.body = .wake ∧
      s.numbered = true) ∧ (∃ s : State, s.ovLive = true ∧ s.Settled ∧ (∀ k ∈ [35, 38, 40, 48, 49, 51, 52], s.Quiet k) ∧
      ∃ (p : Port) (f : Frame) (r : List (Option Port × Frame)), (s.ov.inbox = (some p, f) :: r) ∧ ∃ o, ∃ n : Fin 16,
      f.body = .refuse o (some n.val)) := by
  refine ⟨⟨(let s := ({ (Tests.net (Tests.hush [35, 38, 40, 48, 49, 51, 52])) with otp := { serial := 20 } });
    { s with ov := { s.ov with inbox := [(some .east, { dest := nodeBase 5, src := 9, oseq := 4, body := .presence { node := 11, serial := 5, rev := 1, eastSt := 2, westSt := 0, eastDelay := 3, westDelay := 4, volume := 6 } })] } }),
    ?_, ?_, ?_, .east,
    { dest := nodeBase 5, src := 9, oseq := 4, body := .presence { node := 11, serial := 5, rev := 1, eastSt := 2, westSt := 0, eastDelay := 3, westDelay := 4, volume := 6 } },
    [], ?_, { node := 11, serial := 5, rev := 1, eastSt := 2, westSt := 0, eastDelay := 3, westDelay := 4, volume := 6 }, ?_,
    ?_⟩, ⟨(let s := ({ (Tests.net (Tests.hush [35, 38, 40, 48, 49, 51, 52])) with otp := { serial := 20 } });
    { s with ov := { s.ov with inbox := [(some .east, { dest := nodeBase 5, src := 9, oseq := 4, body := .presence { node := 5, serial := 5, rev := 1, eastSt := 2, westSt := 0, eastDelay := 3, westDelay := 4, volume := 6 } })] } }),
    ?_, ?_, ?_, .east,
    { dest := nodeBase 5, src := 9, oseq := 4, body := .presence { node := 5, serial := 5, rev := 1, eastSt := 2, westSt := 0, eastDelay := 3, westDelay := 4, volume := 6 } },
    [], ?_, { node := 5, serial := 5, rev := 1, eastSt := 2, westSt := 0, eastDelay := 3, westDelay := 4, volume := 6 }, ?_, ?_,
    ?_, ?_⟩, ⟨(let s := ({ (Tests.net (Tests.hush [35, 38, 40, 48, 49, 51, 52])) with otp := { serial := 20 } });
    { s with ov := { s.ov with inbox := [(some .east, { dest := nodeBase 5, src := 9, oseq := 4, body := .presence { node := 5, serial := 50, rev := 1, eastSt := 2, westSt := 0, eastDelay := 3, westDelay := 4, volume := 6 } })] } }),
    ?_, ?_, ?_, .east,
    { dest := nodeBase 5, src := 9, oseq := 4, body := .presence { node := 5, serial := 50, rev := 1, eastSt := 2, westSt := 0, eastDelay := 3, westDelay := 4, volume := 6 } },
    [], ?_, { node := 5, serial := 50, rev := 1, eastSt := 2, westSt := 0, eastDelay := 3, westDelay := 4, volume := 6 }, ?_, ?_,
    ?_, ?_⟩, ⟨({ (Tests.net (Tests.hush [35, 38, 40, 48, 49, 51, 52])) with otp := { serial := 20 } }), ?_, ?_, ?_, ?_, 9, ?_⟩,
    ⟨(let s := ({ (Tests.net (Tests.hush [35, 38, 40, 48, 49, 51, 52])) with otp := { serial := 20 } });
    { s with ov := { s.ov with inbox := [(some .east, { dest := nodeBase 5, src := 9, oseq := 4, body := .topology 9 .west 3 [9] })] } }),
    ?_, ?_, ?_, .east, { dest := nodeBase 5, src := 9, oseq := 4, body := .topology 9 .west 3 [9] }, [], ?_, 9, .west, 3, [9], ?_,
    { port := .east, serial := 900, rev := 2, eastSt := 2, westSt := 2, delay := 100, volume := 10 }, ?_⟩,
    ⟨(let s := ((({ (Tests.net (Tests.hush [35, 38, 40, 48, 49, 51, 52])) with otp := { serial := 20 } }).offF Fd.OV_NODE_NUMBERED).setF Fd.OV_NODE_ID 0x3FF |>.onF Fd.OV_CFG_ASSIGN_EN);
    { s with ov := { s.ov with inbox := [(some .east, { dest := nodeBase 5, src := 9, oseq := 4, body := .assign 20 77 })] } }),
    ?_, ?_, ?_, .east, { dest := nodeBase 5, src := 9, oseq := 4, body := .assign 20 77 }, [], ?_, 20, 77, ?_, ?_⟩,
    ⟨(let s := ({ (Tests.net (Tests.hush [35, 38, 40, 48, 49, 51, 52])) with otp := { serial := 20 } });
    { s with ov := { s.ov with inbox := [(some .east, { dest := nodeBase 5, src := 9, oseq := 4, body := .assign 20 77 })] } }),
    ?_, ?_, ?_, .east, { dest := nodeBase 5, src := 9, oseq := 4, body := .assign 20 77 }, [], ?_, 20, 77, ?_, ?_⟩,
    ⟨(let s := ({ (Tests.net (Tests.hush [35, 38, 40, 48, 49, 51, 52])) with otp := { serial := 20 } });
    { s with ov := { s.ov with inbox := [(some .east, { dest := nodeBase 5, src := 9, oseq := 4, body := .wake })] } }), ?_, ?_,
    ?_, .east, { dest := nodeBase 5, src := 9, oseq := 4, body := .wake }, [], ?_, ?_, ?_⟩,
    ⟨(let s := ({ (Tests.net (Tests.hush [35, 38, 40, 48, 49, 51, 52])) with otp := { serial := 20 } });
    { s with ov := { s.ov with inbox := [(some .east, { dest := nodeBase 5, src := 9, oseq := 4, body := .refuse 4 (some 3) })] } }),
    ?_, ?_, ?_, .east, { dest := nodeBase 5, src := 9, oseq := 4, body := .refuse 4 (some 3) }, [], ?_, 4, 3,
    ?_⟩⟩ <;> decide +kernel

theorem witness_RequestsAndCounters :
    ((∃ s : State, s.phase = .running ∧ s.Settled ∧ ∃ (p : Option Port) (f : Frame) (r : List (Option Port × Frame)),
      s.ov.inbox = (p, f) :: r ∧ ∃ m : SessReqMsg, f.body = .sessReq m ∧ s.inReset .sess = false ∧ s.isF Fd.SS_CTRL_OPEN = true ∧
      s.isF Fd.SS_CTRL_BOOT = false ∧ s.numbered = true ∧ let e := s.sess m.sid; e.valid = true ∧ e.server = true ∧
      e.admits f.src = true ∧ tagOf e.key f.dest f.src (reqPayload m) ≠ m.tag ∧ s.Quiet 44) ∧ (∃ s : State, s.phase = .running ∧
      s.Settled ∧ ∃ (p : Option Port) (f : Frame) (r : List (Option Port × Frame)), s.ov.inbox = (p, f) :: r ∧ ∃ m : SessReqMsg,
      f.body = .sessReq m ∧ s.inReset .sess = false ∧ s.isF Fd.SS_CTRL_OPEN = true ∧ s.isF Fd.SS_CTRL_BOOT = false ∧
      s.numbered = true ∧ let e := s.sess m.sid; e.valid = true ∧ e.server = true ∧ e.admits f.src = true ∧
      tagOf e.key f.dest f.src (reqPayload m) = m.tag ∧
      ((rxWin e f.src).seen.contains m.counter = true ∨ m.counter + 64 ≤ (rxWin e f.src).high) ∧ s.Quiet 45) ∧ (∃ s : State,
      s.phase = .running ∧ s.Settled ∧ ∃ (p : Option Port) (f : Frame) (r : List (Option Port × Frame)), s.ov.inbox = (p,
      f) :: r ∧ ∃ m : SessReqMsg, f.body = .sessReq m ∧ s.inReset .sess = false ∧ s.isF Fd.SS_CTRL_OPEN = true ∧
      s.isF Fd.SS_CTRL_BOOT = false ∧ s.numbered = true ∧ let e := s.sess m.sid; e.valid = true ∧ e.server = true ∧
      e.admits f.src = true ∧ tagOf e.key f.dest f.src (reqPayload m) = m.tag ∧ ∃ e',
      takeCounter e f.src m.counter s.now = some e' ∧ e.cmd = none ∧ f.cls = e.cls ∧
      (s.getF Fd.SS_ADM_CLASS_EN).testBit (f.cls - 1) = true ∧ e.inflS < e.quota ∧ (s.queue f.cls).length < 64)) ∧
      (∃ (e : SessEntry) (node c now : Nat), ∃ e', takeCounter e node c now = some e') := by
  refine ⟨⟨⟨(let s := ((((Tests.sess (Tests.net ((Tests.hush [44,
    45]).onF Fd.SS_CTRL_OPEN)))).offF Fd.SS_CTRL_BOOT).setF Fd.SS_ADM_CLASS_EN 0xF);
    { s with ov := { s.ov with inbox := [(some .east, { dest := 0x2000, src := 9, oseq := 4, cls := 1, body := .sessReq (({ Tests.req with tag := ((tagOf Tests.entry.key 0x2000 9 (reqPayload (Tests.req))) + 1) })) })] } }),
    ?_, ?_, (some .east),
    { dest := 0x2000, src := 9, oseq := 4, cls := 1, body := .sessReq (({ Tests.req with tag := ((tagOf Tests.entry.key 0x2000 9 (reqPayload (Tests.req))) + 1) })) },
    [], ?_, ({ Tests.req with tag := ((tagOf Tests.entry.key 0x2000 9 (reqPayload (Tests.req))) + 1) }), ?_, ?_, ?_, ?_, ?_, ?_,
    ?_, ?_, Tests.req_tag_ne _ 0x2000 9 _ (by decide +kernel) rfl, ?_⟩,
    ⟨(let s := (let s := ((((Tests.sess (Tests.net ((Tests.hush [44,
    45]).onF Fd.SS_CTRL_OPEN)))).offF Fd.SS_CTRL_BOOT).setF Fd.SS_ADM_CLASS_EN 0xF);
    { s with ss := { s.ss with entries := [(3, { Tests.entry with wins := [{ node := 1024, high := 70, seen := [70, 5], last := 0 }] })] } });
    { s with ov := { s.ov with inbox := [(some .east, { dest := 0x2000, src := 9, oseq := 4, cls := 1, body := .sessReq (({ Tests.req with tag := (tagOf Tests.entry.key 0x2000 9 (reqPayload (Tests.req))) })) })] } }),
    ?_, ?_, (some .east),
    { dest := 0x2000, src := 9, oseq := 4, cls := 1, body := .sessReq (({ Tests.req with tag := (tagOf Tests.entry.key 0x2000 9 (reqPayload (Tests.req))) })) },
    [], ?_, ({ Tests.req with tag := (tagOf Tests.entry.key 0x2000 9 (reqPayload (Tests.req))) }), ?_, ?_, ?_, ?_, ?_, ?_, ?_,
    ?_, Tests.req_tag_eq _ 0x2000 9 _ (Tests.req) (by decide +kernel) rfl, ?_, ?_⟩,
    ⟨(let s := ((((Tests.sess (Tests.net ((Tests.hush [44,
    45]).onF Fd.SS_CTRL_OPEN)))).offF Fd.SS_CTRL_BOOT).setF Fd.SS_ADM_CLASS_EN 0xF);
    { s with ov := { s.ov with inbox := [(some .east, { dest := 0x2000, src := 9, oseq := 4, cls := 1, body := .sessReq (({ Tests.req with tag := (tagOf Tests.entry.key 0x2000 9 (reqPayload (Tests.req))) })) })] } }),
    ?_, ?_, (some .east),
    { dest := 0x2000, src := 9, oseq := 4, cls := 1, body := .sessReq (({ Tests.req with tag := (tagOf Tests.entry.key 0x2000 9 (reqPayload (Tests.req))) })) },
    [], ?_, ({ Tests.req with tag := (tagOf Tests.entry.key 0x2000 9 (reqPayload (Tests.req))) }), ?_, ?_, ?_, ?_, ?_, ?_, ?_,
    ?_, Tests.req_tag_eq _ 0x2000 9 _ (Tests.req) (by decide +kernel) rfl, ((takeCounter Tests.entry 9 5 0).getD Tests.entry),
    ?_, ?_, ?_, ?_, ?_, ?_⟩⟩, ⟨Tests.entry, 0, 5, 0, ((takeCounter Tests.entry 9 5 0).getD Tests.entry), ?_⟩⟩ <;> decide +kernel

theorem witness_ServiceAndReplies :
    ((∃ s : State, s.phase = .running ∧ s.Settled ∧ s.Canon ∧ s.inReset .orvia = false ∧ ∃ (q : SrvReq) (r : List SrvReq),
      s.queue 1 = q :: r ∧ s.ss.safetyUsed < s.getF Fd.SS_ADM_SAFETY_SHARE * 1000 ∧ ∃ p : Port,
      (s.port p).safetyUsed < s.getF Fd.SS_ADM_SAFETY_SHARE * 1000 ∧ s.serviceCheck q = none ∧ q.own = none ∧ q.bcast = false ∧
      (s.sess q.msg.sid).valid = true ∧ (s.sess q.msg.sid).cmd = none ∧ s.numbered = true ∧ q.src ≠ s.nodeId ∧
      s.reachable q.src = true ∧ q.src ≠ 0x3FF ∧ s.outPort q.src = some p ∧ (s.port p).held = [] ∧ (s.port p).unacked = [] ∧
      let o := q.addr % 2 ^ 42; inSram o = true ∧ let n := q.msg.len; s.SramReady o n ∧ s.Quiet 21 ∧ q.msg.op = 1) ∧
      (∃ s : State, s.phase = .running ∧ s.Settled ∧ s.Canon ∧ s.inReset .orvia = false ∧ ∃ (q : SrvReq) (r : List SrvReq),
      s.queue 1 = q :: r ∧ s.ss.safetyUsed < s.getF Fd.SS_ADM_SAFETY_SHARE * 1000 ∧ ∃ p : Port,
      (s.port p).safetyUsed < s.getF Fd.SS_ADM_SAFETY_SHARE * 1000 ∧ s.serviceCheck q = none ∧ q.own = none ∧ q.bcast = false ∧
      (s.sess q.msg.sid).valid = true ∧ (s.sess q.msg.sid).cmd = none ∧ s.numbered = true ∧ q.src ≠ s.nodeId ∧
      s.reachable q.src = true ∧ q.src ≠ 0x3FF ∧ s.outPort q.src = some p ∧ (s.port p).held = [] ∧ (s.port p).unacked = [] ∧
      let o := q.addr % 2 ^ 42; inSram o = true ∧ let n := q.msg.len; s.SramReady o n ∧ s.Quiet 21 ∧ q.msg.op = 2 ∧
      q.msg.data.length = n)) ∧ ((∃ s : State, s.phase = .running ∧ s.Settled ∧ s.inReset .sess = false ∧ ∃ q : OutReq,
      s.ss.out = [q] ∧ ∃ k : Mach, q.who = .mach k ∧ ∃ a : CoreAccess, (s.mach k).wait = .station a q.id ∧ q.bcast = false ∧
      (s.sess q.sid).valid = true ∧ (s.sess q.sid).cmd = none ∧
      (∃ (p : Option Port) (f : Frame) (r : List (Option Port × Frame)), s.ov.inbox = (p, f) :: r ∧ ∃ m : SessRepMsg,
      f.body = .sessRep m ∧ m.tag ≠ 0 ∧ let e := s.sess m.sid; tagOf e.key f.dest f.src (repPayload m) ≠ m.tag ∧ s.Quiet 44) ∧
      (s.alive k = true ∧ s.exl k = false ∧ ∃ h : Word, s.VectorReady k 0 h ∧ (s.mach k).longRun = false ∧ s.Quiet 47)) ∧
      (∃ s : State, s.phase = .running ∧ s.Settled ∧ s.inReset .sess = false ∧ ∃ q : OutReq, s.ss.out = [q] ∧ ∃ k : Mach,
      q.who = .mach k ∧ ∃ a : CoreAccess, (s.mach k).wait = .station a q.id ∧ q.bcast = false ∧ (s.sess q.sid).valid = true ∧
      (s.sess q.sid).cmd = none ∧ ∃ (p : Option Port) (f : Frame) (r : List (Option Port × Frame)), s.ov.inbox = (p, f) :: r ∧
      ∃ m : SessRepMsg, f.body = .sessRep m ∧ m.tag ≠ 0 ∧ let e := s.sess m.sid;
      tagOf e.key f.dest f.src (repPayload m) = m.tag ∧ m.reqBlk < 48 ∧ m.reqGen = s.getF (Fd.GEN_GEN m.reqBlk) ∧ q.own = false ∧
      m.sid = q.sid ∧ m.counter = q.counter ∧ f.src = q.node ∧ (m.reply = 0 ∨ m.reply = 1)) ∧ (∃ s : State, s.phase = .running ∧
      s.Settled ∧ s.inReset .sess = false ∧ ∃ q : OutReq, s.ss.out = [q] ∧ ∃ k : Mach, q.who = .mach k ∧ ∃ a : CoreAccess,
      (s.mach k).wait = .station a q.id ∧ q.bcast = false ∧ (s.sess q.sid).valid = true ∧ (s.sess q.sid).cmd = none ∧ ∃ rd,
      ∃ node, ∃ chan, ∃ id, (s.mach .a0).wait = .peek rd node chan id ∧ rd ≠ 0 ∧ rd.toNat % 2 = 0)) := by
  refine ⟨⟨⟨(let s := ((((Tests.sess (Tests.net (Tests.run.onF Fd.SS_CTRL_OPEN)))).offF Fd.SS_CTRL_BOOT).setF Fd.SS_ADM_CLASS_EN 0xF);
    { s.setF Fd.SS_ADM_SAFETY_SHARE 5 with ss := { s.ss with queues := #v[[{ src := 9, addr := 0x2000, msg := Tests.req, qdepth := 0, bcast := false, own := none }],[],[],[]] } }),
    ?_, ?_, Tests.canon ?_, ?_, { src := 9, addr := 0x2000, msg := Tests.req, qdepth := 0, bcast := false, own := none }, [], ?_,
    ?_, .east, ?_, ?_, ?_, ?_, ?_, ?_, ?_, ?_, ?_, ?_, ?_, ?_, ?_, ?_, ⟨?_, ?_, ?_, ?_⟩, ?_, ?_⟩,
    ⟨(let s := ((((Tests.sess (Tests.net (Tests.run.onF Fd.SS_CTRL_OPEN)))).offF Fd.SS_CTRL_BOOT).setF Fd.SS_ADM_CLASS_EN 0xF);
    { s.setF Fd.SS_ADM_SAFETY_SHARE 5 with ss := { s.ss with queues := #v[[{ src := 9, addr := 0x2000, msg := { Tests.req with op := 2 }, qdepth := 1, bcast := false, own := none }],[],[],[]] } }),
    ?_, ?_, Tests.canon ?_, ?_,
    { src := 9, addr := 0x2000, msg := { Tests.req with op := 2 }, qdepth := 1, bcast := false, own := none }, [], ?_, ?_, .east,
    ?_, ?_, ?_, ?_, ?_, ?_, ?_, ?_, ?_, ?_, ?_, ?_, ?_, ?_, ⟨?_, ?_, ?_, ?_⟩, ?_, ?_, ?_⟩⟩,
    ⟨⟨(let s := (let s := ((((Tests.sess (Tests.net ((Tests.hush [44,
    47]).onF Fd.SS_CTRL_OPEN)))).offF Fd.SS_CTRL_BOOT).setF Fd.SS_ADM_CLASS_EN 0xF);
    { s with ss := { s.ss with out := [{ id := 4, who := .mach .a0, sid := 3, counter := 5, node := 9, write := false, own := false, bcast := false, reqGen := 1, reqBlk := 11, oseq := 3 }] } }.modMach .a0 fun x => { x with wait := .station ({ addr := 0x2000, sess := some 3, rd := 6 }) 4 });
    { s with ov := { s.ov with inbox := [(some .east, { dest := nodeBase 5, src := 9, oseq := 4, cls := 1, body := .sessRep (({ Tests.rep with tag := ((tagOf Tests.entry.key (nodeBase 5) 9 (repPayload (Tests.rep))) + 1) })) })] } }),
    ?_, ?_, ?_,
    { id := 4, who := .mach .a0, sid := 3, counter := 5, node := 9, write := false, own := false, bcast := false, reqGen := 1, reqBlk := 11, oseq := 3 },
    ?_, .a0, ?_, { addr := 0x2000, sess := some 3, rd := 6 }, ?_, ?_, ?_, ?_, ⟨some .east,
    { dest := nodeBase 5, src := 9, oseq := 4, cls := 1, body := .sessRep (({ Tests.rep with tag := ((tagOf Tests.entry.key (nodeBase 5) 9 (repPayload (Tests.rep))) + 1) })) },
    [], ?_, ({ Tests.rep with tag := ((tagOf Tests.entry.key (nodeBase 5) 9 (repPayload (Tests.rep))) + 1) }), ?_, ?_,
    Tests.rep_tag_ne _ (nodeBase 5) 9 _ (by decide +kernel) rfl, ?_⟩, ⟨?_, ?_, 0x4000, ⟨⟨?_, ?_, ?_, ?_⟩, ?_, ?_⟩, ?_, ?_⟩⟩,
    ⟨(let s := (let s := ((((Tests.sess (Tests.net ((Tests.hush [44,
    47]).onF Fd.SS_CTRL_OPEN)))).offF Fd.SS_CTRL_BOOT).setF Fd.SS_ADM_CLASS_EN 0xF);
    { s with ss := { s.ss with out := [{ id := 4, who := .mach .a0, sid := 3, counter := 5, node := 9, write := false, own := false, bcast := false, reqGen := 1, reqBlk := 11, oseq := 3 }] } }.modMach .a0 fun x => { x with wait := .station ({ addr := 0x2000, sess := some 3, rd := 6 }) 4 });
    { s with ov := { s.ov with inbox := [(some .east, { dest := nodeBase 5, src := 9, oseq := 4, cls := 1, body := .sessRep (({ Tests.rep with tag := (tagOf Tests.entry.key (nodeBase 5) 9 (repPayload (Tests.rep))) })) })] } }),
    ?_, ?_, ?_,
    { id := 4, who := .mach .a0, sid := 3, counter := 5, node := 9, write := false, own := false, bcast := false, reqGen := 1, reqBlk := 11, oseq := 3 },
    ?_, .a0, ?_, { addr := 0x2000, sess := some 3, rd := 6 }, ?_, ?_, ?_, ?_, some .east,
    { dest := nodeBase 5, src := 9, oseq := 4, cls := 1, body := .sessRep (({ Tests.rep with tag := (tagOf Tests.entry.key (nodeBase 5) 9 (repPayload (Tests.rep))) })) },
    [], ?_, ({ Tests.rep with tag := (tagOf Tests.entry.key (nodeBase 5) 9 (repPayload (Tests.rep))) }), ?_, ?_,
    Tests.rep_tag_eq _ (nodeBase 5) 9 _ (Tests.rep) (by decide +kernel) rfl, ?_, ?_, ?_, ?_, ?_, ?_, ?_⟩,
    ⟨(((let s := ((((Tests.sess (Tests.net ((Tests.hush [44,
    47]).onF Fd.SS_CTRL_OPEN)))).offF Fd.SS_CTRL_BOOT).setF Fd.SS_ADM_CLASS_EN 0xF);
    { s with ss := { s.ss with out := [{ id := 4, who := .mach .b0, sid := 3, counter := 5, node := 9, write := false, own := false, bcast := false, reqGen := 1, reqBlk := 11, oseq := 3 }] } }.modMach .b0 fun x => { x with wait := .station ({ addr := 0x2000, sess := some 3, rd := 6 }) 4 })).modMach .a0 fun x => { x with wait := .peek 6 9 0 3 }),
    ?_, ?_, ?_,
    { id := 4, who := .mach .b0, sid := 3, counter := 5, node := 9, write := false, own := false, bcast := false, reqGen := 1, reqBlk := 11, oseq := 3 },
    ?_, .b0, ?_, { addr := 0x2000, sess := some 3, rd := 6 }, ?_, ?_, ?_, ?_, 6, 9, 0, 3, ?_, ?_, ?_⟩⟩⟩ <;> decide +kernel

theorem witness_SessionEntries :
    (∃ s : State, s.phase = .running ∧ s.Settled ∧ ∃ sid : Fin 1024, (s.sess sid.val).peer.getLsbD 10 = true ∧ ∃ node : Fin 1024,
      (∃ w ∈ (s.sess sid.val).wins, w.node = node.val)) ∧ (∃ s : State, s.phase = .running ∧ s.Settled ∧
      s.inReset .sess = false ∧ sortedNat s.ss.entries = true ∧ let sid := s.getF Fd.SS_SEL_ID; (s.sess sid).inflC = 0 ∧
      (s.sess sid).inflS = 0) ∧ (∃ s : State, s.phase = .running ∧ s.Settled ∧ s.inReset .sess = false ∧
      s.isF Fd.SS_CTRL_BOOT = true ∧ s.ss.bootLoaded = false) := by
  refine ⟨⟨(let s := ((((Tests.sess (Tests.net (Tests.run.onF Fd.SS_CTRL_OPEN)))).offF Fd.SS_CTRL_BOOT).setF Fd.SS_ADM_CLASS_EN 0xF);
    { s with ss := { s.ss with entries := [(3, { Tests.entry with peer := 0x400, wins := [{ node := 9, high := 70, seen := [70, 5], last := 0 }] })] } }),
    ?_, ?_, 3, ?_, 9, ?_⟩, ⟨Tests.run, ?_, ?_, ?_, ?_, ?_, ?_⟩,
    ⟨(((((Tests.sess (Tests.net (Tests.run.onF Fd.SS_CTRL_OPEN)))).offF Fd.SS_CTRL_BOOT).setF Fd.SS_ADM_CLASS_EN 0xF).onF Fd.SS_CTRL_BOOT),
    ?_, ?_, ?_, ?_, ?_⟩⟩ <;> decide +kernel

theorem witness_ChannelStates :
    (∃ (s : State) (n : Fin 16), s.chLive n = true ∧ s.Settled ∧ s.Quiet (80 + n.val) ∧ s.chSt n = 1 ∧ let h := s.ch n;
      h.done = none ∧ (s.otp.trim.get n).good = false) ∧ (∃ (s : State) (n : Fin 16), s.chLive n = true ∧ s.Settled ∧
      s.Quiet (80 + n.val) ∧ (s.chSt n = 1 ∧ let h := s.ch n; h.done = none ∧ (s.otp.trim.get n).good = true) ∧ (s.chSt n ≠ 6 ∧
      s.chSt n ≠ 0)) ∧ (∃ (s : State) (n : Fin 16), s.chLive n = true ∧ s.Settled ∧ s.Quiet (80 + n.val) ∧ s.chSt n = 4 ∧
      ∃ c : Fin 8, 1 ≤ c.val ∧ c.val ≠ 6) ∧ (∃ (s : State) (n : Fin 16), s.chLive n = true ∧ s.Settled ∧ s.Quiet (80 + n.val) ∧
      (∃ c : Fin 8, s.canFault n c.val = true) ∧ (∃ sym, isoGood sym = false ∧ let h := s.ch n;
      let bad := (h.badTimes.filter fun t => s.now - t ≤ 1000000).length; ∃ e, (e = false ∨ bad < 7))) ∧
      (∃ (s : State) (n : Fin 16), s.chLive n = true ∧ s.Settled ∧ s.Quiet (80 + n.val) ∧ s.chSt n ≠ 6 ∧ ∃ sym,
      isoGood sym = false ∧ let h := s.ch n; let bad := (h.badTimes.filter fun t => s.now - t ≤ 1000000).length; 7 ≤ bad) := by
  refine ⟨⟨(let s := Tests.chan 2 1 { since := 0 } (Tests.hush (List.range 128));
    { s with otp := { s.otp with trim := vset s.otp.trim 2 { good := false } } }), 2, ?_, ?_, ?_, ?_, ?_, ?_⟩,
    ⟨(Tests.chan 2 1 { since := 0 } (Tests.hush (List.range 128))), 2, ?_, ?_, ?_, ⟨?_, ?_, ?_⟩, ⟨?_, ?_⟩⟩,
    ⟨(Tests.chan 2 4 { cfg := Tests.hs, pend := some { items := [(4,5)] } } (Tests.hush (List.range 128))), 2, ?_, ?_, ?_, ?_,
    (1), ?_, ?_⟩, ⟨(Tests.chan 2 0 {  } (Tests.hush (List.range 128))), 2, ?_, ?_, ?_, ⟨(1), ?_⟩, ⟨.frame 5, ?_, false, ?_⟩⟩,
    ⟨(Tests.chan 2 3 { cfg := Tests.vi, badTimes := [0,0,0,0,0,0,0] } (Tests.hush (List.range 128))), 2, ?_, ?_, ?_, ?_,
    .frame 5, ?_, ?_⟩⟩ <;> decide +kernel

theorem witness_MeasuringChannels :
    (∃ (s : State) (n : Fin 16), s.measures n = true ∧ s.Settled ∧ (s.pwr.vioOk = true ∧ s.getF Fd.BOOT_STAT_RESULT = 1) ∧
      (let h := s.ch n; (h.cfg.mode = mVI ∨ h.cfg.mode = mCI) ∧ (h.fastArmed = false ∧ ∃ x : Int, let w := h.cfg.item 5;
      let lo : Int := if h.cfg.mode = mVI then -11000000 else -1000000;
      let hi : Int := if h.cfg.mode = mVI then 11000000 else 25000000; let level : Int := fieldOf w 0 10;
      let hyst : Int := fieldOf w 10 4;
      let back := if w.getLsbD 14 = true then (level + hyst) * (hi - lo) ≤ 1023 * (x - lo) else 1023 * (x - lo) ≤ (level - hyst) * (hi - lo);
      back) ∧ (∃ x : Int, let w := h.cfg.item 5; let lo : Int := if h.cfg.mode = mVI then -11000000 else -1000000;
      let hi : Int := if h.cfg.mode = mVI then 11000000 else 25000000; let level : Int := fieldOf w 0 10;
      let past := if w.getLsbD 14 = true then 1023 * (x - lo) < level * (hi - lo) else level * (hi - lo) < 1023 * (x - lo);
      ¬(h.fastArmed = true ∧ past) ∧ let hyst : Int := fieldOf w 10 4;
      let back := if w.getLsbD 14 = true then (level + hyst) * (hi - lo) ≤ 1023 * (x - lo) else 1023 * (x - lo) ≤ (level - hyst) * (hi - lo);
      ¬(h.fastArmed = false ∧ back)))) ∧ (∃ (s : State) (n : Fin 16), s.measures n = true ∧ s.Settled ∧ let h := s.ch n;
      isAnaIn h.cfg.mode = true ∧ s.isF Fd.TT_STAT_LOCKED = true ∧ 1 ≤ s.lead n ∧ h.regTrig = 1 ∧ h.regRun = true ∧
      h.injTrig ≠ 1 ∧ let idle := h.regSlot = none ∧ h.regNext = none ∧ h.injSlot = none ∧ h.injWait = none; idle) ∧
      (∃ (s : State) (n : Fin 16), s.measures n = true ∧ s.Settled ∧ let h := s.ch n; (isAnaIn h.cfg.mode = true ∧
      s.isF Fd.TT_STAT_LOCKED = true ∧ 1 ≤ s.lead n ∧ h.regTrig = 1 ∧ h.regRun = true ∧ h.injTrig ≠ 1 ∧
      h.regSlot.isSome = true) ∧ (∃ lo hi : Int, (h.cfg.mode = mVI ∧ lo = -11000000 ∧ hi = 11000000 ∨ h.cfg.mode = mCI ∧
      lo = -1000000 ∧ hi = 25000000) ∧ h.regSlot = some 0 ∧ h.injSlot = none ∧ h.injWait = none ∧ h.cfg.regLen = 1 ∧
      slotMux h.cfg.regSeq 0 = 0 ∧ h.aux.zero = none ∧ h.aux.ref = none)) ∧ (∃ (s : State) (n : Fin 16), s.measures n = true ∧
      s.Settled ∧ let h := s.ch n; ∃ lo hi : Int, (h.cfg.mode = mVI ∧ lo = -11000000 ∧ hi = 11000000 ∨ h.cfg.mode = mCI ∧
      lo = -1000000 ∧ hi = 25000000) ∧ h.regSlot = some 0 ∧ h.injSlot = none ∧ h.injWait = none ∧ h.cfg.regLen = 1 ∧
      slotMux h.cfg.regSeq 0 = 3) ∧ (∃ (s : State) (n : Fin 16), s.measures n = true ∧ s.Settled ∧ let h := s.ch n; ∃ k,
      h.injSlot = some k ∧ slotMux h.cfg.injSeq k ≠ 0 ∧ h.injQ.length < 4) ∧ (∃ (s : State) (n : Fin 16), s.measures n = true ∧
      s.Settled ∧ let h := s.ch n; (h.cfg.mode = mVI ∨ h.cfg.mode = mCI) ∧ h.fastArmed = true ∧ ∃ x : Int, let w := h.cfg.item 5;
      let lo : Int := if h.cfg.mode = mVI then -11000000 else -1000000;
      let hi : Int := if h.cfg.mode = mVI then 11000000 else 25000000; let level : Int := fieldOf w 0 10;
      let past := if w.getLsbD 14 = true then 1023 * (x - lo) < level * (hi - lo) else level * (hi - lo) < 1023 * (x - lo);
      past) ∧ (∃ (s : State) (n : Fin 16), s.measures n = true ∧ s.Settled ∧ let h := s.ch n;
      (h.cfg.mode = mDI ∨ h.cfg.mode = mCounter) ∧ (∃ level, h.level = level) ∧ (∃ level, h.level ≠ level ∧
      let c := h.cfg.item 8; edgeSel (fieldOf c 16 2) (level != c.getLsbD 18) = true)) := by
  refine ⟨⟨(Tests.chan 2 3 { cfg := { Tests.vi with items := [(1, 1+2*2+0x10), (2, 0x11), (5, 0x8000), (6, 1000), (7, 500), (0x20, 0), (0x21, 0)] } } (((((Tests.run).setF (Fd.RFX_STAT_STATE 3) 1).setF (Fd.RFX_SEL_KIND 3 0) 1 |>.setF (Fd.RFX_SEL_KIND 3 1) 2 |>.setF (Fd.RFX_SEL_KIND 3 2) 3 |>.setF (Fd.RFX_SEL_KIND 3 3) 4 |>.setF (Fd.RFX_SEL_CH 3 0) 2 |>.setF (Fd.RFX_SEL_CH 3 1) 2 |>.setF (Fd.RFX_SEL_CH 3 2) 2 |>.setF (Fd.RFX_SEL_CH 3 3) 2)))),
    2, ?_, ?_, ⟨?_, ?_⟩, ⟨?_, ⟨?_, -11000000, ?_⟩, ⟨11000000, ?_, ?_⟩⟩⟩,
    ⟨(Tests.chan 2 3 { leadNow := 500, cfg := { Tests.vi with items := [(1, 1+2*1+0x40+7*128), (2, 0x11), (5, 0x8000), (6, 1000), (7, 500), (4, 500), (0x20, 0), (0x21, 0)] }, age := 5 } (Tests.locked (((((Tests.run).setF (Fd.RFX_STAT_STATE 3) 1).setF (Fd.RFX_SEL_KIND 3 0) 1 |>.setF (Fd.RFX_SEL_KIND 3 1) 2 |>.setF (Fd.RFX_SEL_KIND 3 2) 3 |>.setF (Fd.RFX_SEL_KIND 3 3) 4 |>.setF (Fd.RFX_SEL_CH 3 0) 2 |>.setF (Fd.RFX_SEL_CH 3 1) 2 |>.setF (Fd.RFX_SEL_CH 3 2) 2 |>.setF (Fd.RFX_SEL_CH 3 3) 2))))),
    2, ?_, ?_, ?_, ?_, ?_, ?_, ?_, ?_, ?_⟩,
    ⟨(Tests.chan 2 3 { leadNow := 500, cfg := { Tests.vi with items := [(1, 1+2*1), (2, 0x11), (5, 0x8000), (6, 1000), (7, 500), (4, 500), (0x20, 0), (0x21, 0)] }, regSlot := some 0 } (Tests.locked (((((Tests.run).setF (Fd.RFX_STAT_STATE 3) 1).setF (Fd.RFX_SEL_KIND 3 0) 1 |>.setF (Fd.RFX_SEL_KIND 3 1) 2 |>.setF (Fd.RFX_SEL_KIND 3 2) 3 |>.setF (Fd.RFX_SEL_KIND 3 3) 4 |>.setF (Fd.RFX_SEL_CH 3 0) 2 |>.setF (Fd.RFX_SEL_CH 3 1) 2 |>.setF (Fd.RFX_SEL_CH 3 2) 2 |>.setF (Fd.RFX_SEL_CH 3 3) 2))))),
    2, ?_, ?_, ⟨?_, ?_, ?_, ?_, ?_, ?_, ?_⟩, ⟨-11000000, 11000000, ?_, ?_, ?_, ?_, ?_, ?_, ?_, ?_⟩⟩,
    ⟨(Tests.chan 2 3 { cfg := { Tests.vi with items := [(1, 1), (2, 0x11), (5, 0x8000), (6, 1000), (7, 500), (0x20, 0), (0x21, 0)], regSeq := 3 }, regSlot := some 0 } (((((Tests.run).setF (Fd.RFX_STAT_STATE 3) 1).setF (Fd.RFX_SEL_KIND 3 0) 1 |>.setF (Fd.RFX_SEL_KIND 3 1) 2 |>.setF (Fd.RFX_SEL_KIND 3 2) 3 |>.setF (Fd.RFX_SEL_KIND 3 3) 4 |>.setF (Fd.RFX_SEL_CH 3 0) 2 |>.setF (Fd.RFX_SEL_CH 3 1) 2 |>.setF (Fd.RFX_SEL_CH 3 2) 2 |>.setF (Fd.RFX_SEL_CH 3 3) 2)))),
    2, ?_, ?_, -11000000, 11000000, ?_, ?_, ?_, ?_, ?_, ?_⟩,
    ⟨(Tests.chan 2 3 { cfg := { Tests.vi with items := [(1, 1+0x10000), (2, 0x11), (5, 0x8000), (6, 1000), (7, 500), (0x20, 0), (0x21, 0)], injSeq := 0x12 }, regNext := some 0, injSlot := some 0 } (((((Tests.run).setF (Fd.RFX_STAT_STATE 3) 1).setF (Fd.RFX_SEL_KIND 3 0) 1 |>.setF (Fd.RFX_SEL_KIND 3 1) 2 |>.setF (Fd.RFX_SEL_KIND 3 2) 3 |>.setF (Fd.RFX_SEL_KIND 3 3) 4 |>.setF (Fd.RFX_SEL_CH 3 0) 2 |>.setF (Fd.RFX_SEL_CH 3 1) 2 |>.setF (Fd.RFX_SEL_CH 3 2) 2 |>.setF (Fd.RFX_SEL_CH 3 3) 2)))),
    2, ?_, ?_, 0, ?_, ?_, ?_⟩,
    ⟨(Tests.chan 2 3 { cfg := { { Tests.vi with items := [(1, 1), (2, 0x11), (5, 0x8000), (6, 1000), (7, 500), (0x20, 0), (0x21, 0)] } with mode := mCI }, fastArmed := true, regSlot := some 0 } (((((Tests.run).setF (Fd.RFX_STAT_STATE 3) 1).setF (Fd.RFX_SEL_KIND 3 0) 1 |>.setF (Fd.RFX_SEL_KIND 3 1) 2 |>.setF (Fd.RFX_SEL_KIND 3 2) 3 |>.setF (Fd.RFX_SEL_KIND 3 3) 4 |>.setF (Fd.RFX_SEL_CH 3 0) 2 |>.setF (Fd.RFX_SEL_CH 3 1) 2 |>.setF (Fd.RFX_SEL_CH 3 2) 2 |>.setF (Fd.RFX_SEL_CH 3 3) 2)))),
    2, ?_, ?_, ?_, ?_, 11000000, ?_⟩,
    ⟨(Tests.chan 2 3 { cfg := Tests.ctr } (((((Tests.run).setF (Fd.RFX_STAT_STATE 3) 1).setF (Fd.RFX_SEL_KIND 3 0) 1 |>.setF (Fd.RFX_SEL_KIND 3 1) 2 |>.setF (Fd.RFX_SEL_KIND 3 2) 3 |>.setF (Fd.RFX_SEL_KIND 3 3) 4 |>.setF (Fd.RFX_SEL_CH 3 0) 2 |>.setF (Fd.RFX_SEL_CH 3 1) 2 |>.setF (Fd.RFX_SEL_CH 3 2) 2 |>.setF (Fd.RFX_SEL_CH 3 3) 2)))),
    2, ?_, ?_, ?_, ⟨false, ?_⟩, ⟨true, ?_, ?_⟩⟩⟩ <;> decide +kernel

theorem witness_DrivingChannels :
    (∃ (s : State) (n : Fin 16), s.chLive n = true ∧ s.chOn n = true ∧ s.Settled ∧ s.Quiet (64 + n.val) ∧ (let h := s.ch n;
      let ana := isAnaOut h.cfg.mode = true; ana ∧ (h.target ≠ highZ ∧ h.trimCmd = 0) ∧ (h.aim ≠ none ∧ ∃ drop,
      (drop = false ∨ h.vboost = 28000))) ∧ (s.measures n = true ∧ let h := s.ch n; isOutput h.cfg.mode = true ∧
      h.rbCur = false)) ∧ (∃ (s : State) (n : Fin 16), s.chLive n = true ∧ s.chOn n = true ∧ s.Settled ∧ s.Quiet (64 + n.val) ∧
      let h := s.ch n; h.conducts = true) ∧ (∃ (s : State) (n : Fin 16), s.chLive n = true ∧ s.chOn n = true ∧ s.Settled ∧
      s.Quiet (64 + n.val) ∧ (let h := s.ch n; h.cfg.mode = mHS ∧ h.swOff = true ∧ h.swLatched = false) ∧ (s.measures n = true ∧
      let h := s.ch n; isOutput h.cfg.mode = true ∧ h.rbCur = true ∧ h.cfg.mode = mHS)) ∧ (∃ (s : State) (n : Fin 16),
      s.chLive n = true ∧ s.chOn n = true ∧ s.Settled ∧ s.Quiet (64 + n.val) ∧ s.measures n = true ∧ let h := s.ch n;
      isOutput h.cfg.mode = true ∧ h.rbCur = true ∧ h.cfg.mode = mVO ∧ ∃ x, ∃ y, ∃ r, h.rbV = (x, y) :: r ∧ 12200000 < x.natAbs ∧
      s.diagRuns n dShortLp = true) := by
  refine ⟨⟨(Tests.chan 2 3 { cfg := Tests.vo, target := 100, pos := -500, vboost := 28000, heff := 2500 } (Tests.hush [64,66] Tests.run)),
    2, ?_, ?_, ?_, ?_, ⟨?_, ⟨?_, ?_⟩, ⟨?_, false, ?_⟩⟩, ⟨?_, ?_, ?_⟩⟩,
    ⟨(Tests.chan 2 3 { cfg := Tests.hs, target := 1 } (Tests.hush [64,66] Tests.run)), 2, ?_, ?_, ?_, ?_, ?_⟩,
    ⟨(Tests.chan 2 3 { cfg := Tests.hs, target := 1, rbCur := true, swOff := true } (Tests.hush [64,66] Tests.run)), 2, ?_, ?_,
    ?_, ?_, ⟨?_, ?_, ?_⟩, ⟨?_, ?_, ?_, ?_⟩⟩,
    ⟨(Tests.chan 2 3 { cfg := Tests.vo, target := 100, pos := 100, heff := 2500, rbCur := true, rbV := [(13000000,0)] } (Tests.hush [64,66] Tests.run)),
    2, ?_, ?_, ?_, ?_, ?_, ?_, ?_, ?_, 13000000, 0, [], ?_, ?_, ?_⟩⟩ <;> decide +kernel

theorem witness_DiagnosticBecomesActive :
    ∃ (s : State) (n : Fin 16), s.chLive n = true ∧ s.Settled ∧ s.Quiet (64 + n.val) ∧ (∃ b : Fin 11, s.diagRuns n b.val = true ∧
      let h := s.ch n; h.diagNow.testBit b.val = false) ∧ (let h := s.ch n; ∃ b : Fin 11, h.diagNow.testBit b.val = true) := by
  refine ⟨(Tests.chan 2 3 { cfg := Tests.vo, target := 100, diagNow := 2 } (Tests.hush [64,66] Tests.run)), 2, ?_, ?_, ?_, ⟨(2),
    ?_, ?_⟩, ⟨(1), ?_⟩⟩ <;> decide +kernel

theorem witness_TimePeriodAndBound :
    ((∃ s : State, s.ttLive = true ∧ s.Settled ∧ (∀ k ∈ [40, 48, 49, 50, 52, 60, 63], s.Quiet k) ∧
      s.isF Fd.TT_STAT_MASTER = true ∧ s.numbered = true ∧ s.inReset .orvia = false) ∧ (∃ s : State, s.ttLive = true ∧
      s.Settled ∧ (∀ k ∈ [40, 48, 49, 50, 52, 60, 63], s.Quiet k) ∧ (∃ (p : Port) (f : Frame) (r : List (Option Port × Frame)),
      s.ov.inbox = (some p, f) :: r ∧ ∃ m : TimeMsg, f.body = .time m ∧ s.numbered = true ∧ m.master ≠ s.nodeId ∧
      m.master < 1023 ∧ s.locked = false ∧ let cur := s.getF Fd.TT_MASTER_MASTER_ID; ¬(s.tt.heard = true ∧ cur < m.master ∧
      s.reachable cur = true)) ∧ (s.numbered = true ∧ s.locked = false ∧ s.tt.heard = false)) ∧ (∃ s : State, s.ttLive = true ∧
      s.Settled ∧ (∀ k ∈ [40, 48, 49, 50, 52, 60, 63], s.Quiet k) ∧ (∃ (p : Port) (f : Frame) (r : List (Option Port × Frame)),
      s.ov.inbox = (some p, f) :: r ∧ ∃ m : TimeMsg, f.body = .time m ∧ s.numbered = true ∧ m.master ≠ s.nodeId ∧
      m.master < 1023 ∧ s.locked = true ∧ let cur := s.getF Fd.TT_MASTER_MASTER_ID; m.master = cur ∧
      let same := m.period = s.period ∧ m.anchorE = s.tt.anchorE ∧ m.anchorT = s.tt.anchorT;
      (same ∨ s.isF Fd.TT_STAT_HOLDOVER = false)) ∧ (s.locked = true ∧ s.isF Fd.TT_STAT_MASTER = false ∧
      s.isF Fd.TT_STAT_HOLDOVER = false)) ∧ (∃ s : State, s.ttLive = true ∧ s.Settled ∧ (∀ k ∈ [40, 48, 49, 50, 52, 60, 63],
      s.Quiet k) ∧ ∃ (p : Port) (f : Frame) (r : List (Option Port × Frame)), s.ov.inbox = (some p, f) :: r ∧ ∃ m : TimeMsg,
      f.body = .time m ∧ s.numbered = true ∧ m.master ≠ s.nodeId ∧ m.master < 1023 ∧ s.locked = true ∧
      s.isF Fd.TT_STAT_HOLDOVER = false ∧ let cur := s.getF Fd.TT_MASTER_MASTER_ID; m.master < cur ∧
      let rx : Nat := m.time + s.getF (Fd.OV_DELAY_DELAY p.idx) / 10; let off : Int := rx - s.tt.clk;
      (10000 < off.natAbs ∨ m.period ≠ s.period ∧ s.tt.pend = none)) ∧ (∃ s : State, s.ttLive = true ∧ s.Settled ∧ (∀ k ∈ [40,
      48, 49, 50, 52, 60, 63], s.Quiet k) ∧ ∃ (p : Port) (f : Frame) (r : List (Option Port × Frame)), s.ov.inbox = (some p,
      f) :: r ∧ ∃ m : TimeMsg, f.body = .time m ∧ s.numbered = true ∧ m.master ≠ s.nodeId ∧ m.master < 1023 ∧ s.locked = true ∧
      s.isF Fd.TT_STAT_HOLDOVER = false ∧ let cur := s.getF Fd.TT_MASTER_MASTER_ID; cur < m.master) ∧ (∃ s : State,
      s.ttLive = true ∧ s.Settled ∧ (∀ k ∈ [40, 48, 49, 50, 52, 60, 63], s.Quiet k) ∧ s.locked = true ∧
      s.isF Fd.TT_STAT_MASTER = false ∧ s.lowestId = true ∧ let cur := s.getF Fd.TT_MASTER_MASTER_ID;
      (s.isF Fd.TT_STAT_HOLDOVER = true ∨ s.nodeId < cur))) ∧ ((∃ s : State, s.ttLive = true ∧ s.Settled ∧ s.Quiet 49 ∧
      s.Quiet 52 ∧ s.locked = true) ∧ (∃ s : State, s.ttLive = true ∧ s.Settled ∧ s.Quiet 49 ∧ s.Quiet 52 ∧ (∃ v : Word,
      let p := v.toNat % 2 ^ 20; (p < 20 ∨ 1000000 < p)) ∧ (∃ v : Word, let p := v.toNat % 2 ^ 20; 20 ≤ p ∧ p ≤ 1000000))) := by
  refine ⟨⟨⟨(((Tests.locked ((Tests.net (Tests.hush [40, 48, 49, 50, 52, 60,
    63])))).setF Fd.TT_MASTER_MASTER_ID 3).onF Fd.TT_STAT_MASTER), ?_, ?_, ?_, ?_, ?_, ?_⟩,
    ⟨(let s := (((Tests.net (Tests.hush [40, 48, 49, 50, 52, 60, 63]))).setF Fd.TT_PERIOD_ACT_PERIOD 1000);
    { s with ov := { s.ov with inbox := [(some .east, { dest := nodeBase 0x3FF, src := 3, oseq := 4, body := .time { time := 6000120, master := 3, period := 1000, pend := none, close := 100, rev := 2, fmt := 2, anchorE := 0, anchorT := 0 } })] } }),
    ?_, ?_, ?_, ⟨.east,
    { dest := nodeBase 0x3FF, src := 3, oseq := 4, body := .time { time := 6000120, master := 3, period := 1000, pend := none, close := 100, rev := 2, fmt := 2, anchorE := 0, anchorT := 0 } },
    [], ?_,
    { time := 6000120, master := 3, period := 1000, pend := none, close := 100, rev := 2, fmt := 2, anchorE := 0, anchorT := 0 },
    ?_, ?_, ?_, ?_, ?_, ?_⟩, ⟨?_, ?_, ?_⟩⟩, ⟨(let s := ((Tests.locked ((Tests.net (Tests.hush [40, 48, 49, 50, 52, 60,
    63])))).setF Fd.TT_MASTER_MASTER_ID 3);
    { s with ov := { s.ov with inbox := [(some .east, { dest := nodeBase 0x3FF, src := 3, oseq := 4, body := .time { time := 6000120, master := 3, period := 1000, pend := none, close := 100, rev := 2, fmt := 2, anchorE := 0, anchorT := 0 } })] } }),
    ?_, ?_, ?_, ⟨.east,
    { dest := nodeBase 0x3FF, src := 3, oseq := 4, body := .time { time := 6000120, master := 3, period := 1000, pend := none, close := 100, rev := 2, fmt := 2, anchorE := 0, anchorT := 0 } },
    [], ?_,
    { time := 6000120, master := 3, period := 1000, pend := none, close := 100, rev := 2, fmt := 2, anchorE := 0, anchorT := 0 },
    ?_, ?_, ?_, ?_, ?_, ?_, ?_⟩, ⟨?_, ?_, ?_⟩⟩, ⟨(let s := ((Tests.locked ((Tests.net (Tests.hush [40, 48, 49, 50, 52, 60,
    63])))).setF Fd.TT_MASTER_MASTER_ID 3);
    { s with ov := { s.ov with inbox := [(some .east, { dest := nodeBase 0x3FF, src := 3, oseq := 4, body := .time { time := 7000000, master := 2, period := 1000, pend := none, close := 100, rev := 2, fmt := 2, anchorE := 0, anchorT := 0 } })] } }),
    ?_, ?_, ?_, .east,
    { dest := nodeBase 0x3FF, src := 3, oseq := 4, body := .time { time := 7000000, master := 2, period := 1000, pend := none, close := 100, rev := 2, fmt := 2, anchorE := 0, anchorT := 0 } },
    [], ?_,
    { time := 7000000, master := 2, period := 1000, pend := none, close := 100, rev := 2, fmt := 2, anchorE := 0, anchorT := 0 },
    ?_, ?_, ?_, ?_, ?_, ?_, ?_, ?_⟩, ⟨(let s := ((Tests.locked ((Tests.net (Tests.hush [40, 48, 49, 50, 52, 60,
    63])))).setF Fd.TT_MASTER_MASTER_ID 3);
    { s with ov := { s.ov with inbox := [(some .east, { dest := nodeBase 0x3FF, src := 3, oseq := 4, body := .time { time := 6000120, master := 9, period := 1000, pend := none, close := 100, rev := 2, fmt := 2, anchorE := 0, anchorT := 0 } })] } }),
    ?_, ?_, ?_, .east,
    { dest := nodeBase 0x3FF, src := 3, oseq := 4, body := .time { time := 6000120, master := 9, period := 1000, pend := none, close := 100, rev := 2, fmt := 2, anchorE := 0, anchorT := 0 } },
    [], ?_,
    { time := 6000120, master := 9, period := 1000, pend := none, close := 100, rev := 2, fmt := 2, anchorE := 0, anchorT := 0 },
    ?_, ?_, ?_, ?_, ?_, ?_, ?_⟩, ⟨(((Tests.locked ((Tests.net (Tests.hush [40, 48, 49, 50, 52, 60,
    63])))).setF Fd.TT_MASTER_MASTER_ID 3).onF Fd.TT_STAT_HOLDOVER), ?_, ?_, ?_, ?_, ?_, ?_, ?_⟩⟩,
    ⟨⟨((Tests.locked ((Tests.net (Tests.hush [49, 52])))).setF Fd.TT_MASTER_MASTER_ID 3), ?_, ?_, ?_, ?_, ?_⟩, ⟨Tests.run, ?_,
    ?_, ?_, ?_, ⟨0, ?_⟩, ⟨20, ?_, ?_⟩⟩⟩⟩ <;> decide +kernel

theorem witness_Departures :
    ∃ s : State, s.ttLive = true ∧ s.Settled ∧ s.locked = true ∧ s.mani.resolved = true ∧ s.mani.gathering = false ∧ (∀ k,
      k < 128 → s.Quiet k) ∧ (∀ c, vget s.mani.missed c = false) ∧ s.tt.clk ≤ s.nextDep ∧ s.tt.slew = 0 ∧ s.rfx.atDep = [] := by
  refine ⟨(let s := (Tests.locked (Tests.hush (List.range 128) Tests.run)); { s with mani := { s.mani with resolved := true } }),
    ?_, ?_, ?_, ?_, ?_, ?_, ?_, ?_, ?_, ?_⟩ <;> decide +kernel

theorem witness_CommitsResolve :
    (∃ s : State, s.phase = .running ∧ s.Settled ∧ (∀ k ∈ [40, 57, 58, 60], s.Quiet k) ∧ s.ttLive = true ∧ s.locked = true ∧
      s.mani.resolved = false) ∧ (∃ s : State, s.phase = .running ∧ s.Settled ∧ (∀ k ∈ [40, 57, 58, 60], s.Quiet k) ∧
      s.locked = false ∧ s.asleep = true) ∧ (∃ s : State, s.phase = .running ∧ s.Settled ∧ (∀ k ∈ [40, 57, 58, 60], s.Quiet k) ∧
      s.locked = false ∧ s.asleep = false ∧ s.tt.wasLocked = true ∧ s.missLim > min (s.getF Fd.MANI_MISS_MISS_A + 1) 255 ∧
      s.missLim > min (s.getF Fd.MANI_MISS_MISS_B + 1) 255) := by
  refine ⟨⟨(Tests.chan 2 3 { cfg := Tests.hs } (Tests.locked (Tests.hush [40, 57, 58, 60] Tests.run))), ?_, ?_, ?_, ?_, ?_, ?_⟩,
    ⟨(((Tests.chan 2 3 { cfg := Tests.hs } (let s := (Tests.hush [40, 57, 58, 60]);
    { s with tt := { s.tt with wasLocked := true } })).setF Fd.MANI_CFG_MISS_LIM 3).setF Fd.SLEEP_STAT_STATE 2), ?_, ?_, ?_, ?_,
    ?_⟩, ⟨((Tests.chan 2 3 { cfg := Tests.hs } (let s := (Tests.hush [40, 57, 58, 60]);
    { s with tt := { s.tt with wasLocked := true } })).setF Fd.MANI_CFG_MISS_LIM 3), ?_, ?_, ?_, ?_, ?_, ?_, ?_,
    ?_⟩⟩ <;> decide +kernel

theorem witness_ManifestEntriesAndRegisters :
    ((∃ s : State, s.maniLive = true ∧ s.Settled ∧ s.Canon ∧ (∀ k ∈ [40, 53, 54, 55, 56], s.Quiet k) ∧ ∃ q : SubRow,
      s.mani.subs = [q] ∧ ∃ (p : Option Port) (f : Frame) (r : List (Option Port × Frame)), s.ov.inbox = (p, f) :: r ∧
      ∃ m : EntryMsg, f.body = .entry m ∧ let a := m.addrFlags.toNat % 2 ^ 52; a = entryAddr q.node q.entry ∧
      m.check ≠ entryCheck a m.addrFlags m.epoch m.payload) ∧ (∃ s : State, s.maniLive = true ∧ s.Settled ∧ s.Canon ∧ (∀ k ∈ [40,
      53, 54, 55, 56], s.Quiet k) ∧ ∃ q : SubRow, s.mani.subs = [q] ∧
      ∃ (p : Option Port) (f : Frame) (r : List (Option Port × Frame)), s.ov.inbox = (p, f) :: r ∧ ∃ m : EntryMsg,
      f.body = .entry m ∧ let a := m.addrFlags.toNat % 2 ^ 52; a = entryAddr q.node q.entry ∧
      m.check = entryCheck a m.addrFlags m.epoch m.payload ∧ (s.mani.gathering = false ∨ m.epoch.toNat ≠ s.tt.epoch % 2 ^ 32)) ∧
      (∃ s : State, s.maniLive = true ∧ s.Settled ∧ s.Canon ∧ (∀ k ∈ [40, 53, 54, 55, 56], s.Quiet k) ∧ ∃ q : SubRow,
      s.mani.subs = [q] ∧ ∃ (p : Option Port) (f : Frame) (r : List (Option Port × Frame)), s.ov.inbox = (p, f) :: r ∧
      ∃ m : EntryMsg, f.body = .entry m ∧ let a := m.addrFlags.toNat % 2 ^ 52; a = entryAddr q.node q.entry ∧
      m.check = entryCheck a m.addrFlags m.epoch m.payload ∧ s.mani.gathering = true ∧ m.epoch.toNat = s.tt.epoch % 2 ^ 32 ∧
      q.maxlen < entryLen m ∧ q.idx ∉ s.mani.arrived) ∧ (∃ s : State, s.maniLive = true ∧ s.Settled ∧ s.Canon ∧ (∀ k ∈ [40, 53,
      54, 55, 56], s.Quiet k) ∧ ∃ q : SubRow, s.mani.subs = [q] ∧
      ∃ (p : Option Port) (f : Frame) (r : List (Option Port × Frame)), s.ov.inbox = (p, f) :: r ∧ ∃ m : EntryMsg,
      f.body = .entry m ∧ let a := m.addrFlags.toNat % 2 ^ 52; a = entryAddr q.node q.entry ∧
      m.check = entryCheck a m.addrFlags m.epoch m.payload ∧ s.mani.gathering = true ∧ m.epoch.toNat = s.tt.epoch % 2 ^ 32 ∧
      entryLen m ≤ q.maxlen ∧ let slot := s.mani.base + s.mani.bank * s.mani.size + q.offset;
      s.SramReady slot (slotBytes m).length) ∧ (∃ s : State, s.maniLive = true ∧ s.Settled ∧ s.Canon ∧ (∀ k ∈ [40, 53, 54, 55,
      56], s.Quiet k) ∧ ∃ q : SubRow, s.mani.subs = [q] ∧ s.mani.gathering = true ∧ ∃ m : EntryMsg, entryLen m ≤ q.maxlen ∧
      lookupNat q.idx s.mani.newest = some m ∧ let a := m.addrFlags.toNat % 2 ^ 52; a = entryAddr q.node q.entry ∧
      q.idx ∉ s.mani.arrived ∧ let slot := s.mani.base + s.mani.bank * s.mani.size + q.offset;
      s.SramReady slot (slotBytes m).length)) ∧ ((∃ s : State, s.maniLive = true ∧ s.Settled ∧ s.Quiet 62 ∧ (∃ k : Fin 64,
      (∃ v : Word, let w := v &&& 0xFFFF_FF03; s.pubOk k.val w (s.getR (Rg.PUB4 k.val)) = true) ∧ (∃ v : Word,
      let w := v &&& 0xFFFF_FF03; s.pubOk k.val w (s.getR (Rg.PUB4 k.val)) = false)) ∧ (∃ v : Word, (∃ k : Fin 64,
      s.pubOk k.val (s.pub0 k.val) v = true) ∧ (∃ j : Fin 4096, s.subOk (s.getR (Rg.SUB0 j.val)) (v &&& 0xFF) = true) ∧
      (let n := v.toNat / 4096 % 128; n ≤ 64)) ∧ (∃ j : Fin 4096, (∃ v : Word, let w := v &&& 0xBFFF_FFFF;
      s.subOk w (s.getR (Rg.SUB4 j.val)) = true) ∧ (∃ v : Word, let w := v &&& 0xBFFF_FFFF;
      s.subOk w (s.getR (Rg.SUB4 j.val)) = false)) ∧ (∃ v : Word, let n := v.toNat / 4096 % 128; 64 < n)) ∧ (∃ s : State,
      s.maniLive = true ∧ s.Settled ∧ s.Quiet 62 ∧ ∃ (v : Word) (k : Fin 64), s.pubOk k.val (s.pub0 k.val) v = false) ∧
      (∃ s : State, s.maniLive = true ∧ s.Settled ∧ s.Quiet 62 ∧ ∃ x, (∃ l, s.mani.revtA = x :: l) ∧ (∃ l,
      s.mani.revtB = x :: l))) := by
  refine ⟨⟨⟨(let s := (let s := (Tests.locked (Tests.hush [40, 53, 54, 55, 56] Tests.run));
    { s with mani := { s.mani with subs := [{ idx := 4, node := 9, entry := 1, offset := 0, maxlen := 4 }], base := 0x5000, size := 0x1000, bank := 0, gathering := true } });
    { s with ov := { s.ov with inbox := [(some .east, ({ dest := nodeBase 0x3FF, src := 9, oseq := 4, body := .entry (let f : DWord := (BitVec.ofNat 64 (entryAddr 9 1 + 2 * 2 ^ 52)); ({ addrFlags := f, epoch := 6, check := 1, payload := [5, 6] } : EntryMsg)) } : Frame))] } }),
    ?_, ?_, Tests.canon ?_, ?_, { idx := 4, node := 9, entry := 1, offset := 0, maxlen := 4 }, ?_, (some .east),
    ({ dest := nodeBase 0x3FF, src := 9, oseq := 4, body := .entry (let f : DWord := (BitVec.ofNat 64 (entryAddr 9 1 + 2 * 2 ^ 52)); ({ addrFlags := f, epoch := 6, check := 1, payload := [5, 6] } : EntryMsg)) } : Frame),
    [], ?_, (let f : DWord := (BitVec.ofNat 64 (entryAddr 9 1 + 2 * 2 ^ 52));
    ({ addrFlags := f, epoch := 6, check := 1, payload := [5, 6] } : EntryMsg)), ?_, ?_, ?_⟩,
    ⟨(let s := (let s := (let s := (Tests.locked (Tests.hush [40, 53, 54, 55, 56] Tests.run));
    { s with mani := { s.mani with subs := [{ idx := 4, node := 9, entry := 1, offset := 0, maxlen := 4 }], base := 0x5000, size := 0x1000, bank := 0, gathering := true } });
    { s with mani := { s.mani with gathering := false } });
    { s with ov := { s.ov with inbox := [(some .east, ({ dest := nodeBase 0x3FF, src := 9, oseq := 4, body := .entry (let f : DWord := (BitVec.ofNat 64 (entryAddr 9 1 + 2 * 2 ^ 52)); ({ addrFlags := f, epoch := 6, check := entryCheck (entryAddr 9 1) f 6 [5, 6], payload := [5, 6] } : EntryMsg)) } : Frame))] } }),
    ?_, ?_, Tests.canon ?_, ?_, { idx := 4, node := 9, entry := 1, offset := 0, maxlen := 4 }, ?_, (some .east),
    ({ dest := nodeBase 0x3FF, src := 9, oseq := 4, body := .entry (let f : DWord := (BitVec.ofNat 64 (entryAddr 9 1 + 2 * 2 ^ 52)); ({ addrFlags := f, epoch := 6, check := entryCheck (entryAddr 9 1) f 6 [5, 6], payload := [5, 6] } : EntryMsg)) } : Frame),
    [], ?_, (let f : DWord := (BitVec.ofNat 64 (entryAddr 9 1 + 2 * 2 ^ 52));
    ({ addrFlags := f, epoch := 6, check := entryCheck (entryAddr 9 1) f 6 [5, 6], payload := [5, 6] } : EntryMsg)), ?_, ?_, ?_,
    ?_⟩, ⟨(let s := (let s := (Tests.locked (Tests.hush [40, 53, 54, 55, 56] Tests.run));
    { s with mani := { s.mani with subs := [{ idx := 4, node := 9, entry := 1, offset := 0, maxlen := 4 }], base := 0x5000, size := 0x1000, bank := 0, gathering := true } });
    { s with ov := { s.ov with inbox := [(some .east, ({ dest := nodeBase 0x3FF, src := 9, oseq := 4, body := .entry (let f : DWord := (BitVec.ofNat 64 (entryAddr 9 1 + 6 * 2 ^ 52)); ({ addrFlags := f, epoch := 6, check := entryCheck (entryAddr 9 1) f 6 [1,2,3,4,5,6], payload := [1,2,3,4,5,6] } : EntryMsg)) } : Frame))] } }),
    ?_, ?_, Tests.canon ?_, ?_, { idx := 4, node := 9, entry := 1, offset := 0, maxlen := 4 }, ?_, (some .east),
    ({ dest := nodeBase 0x3FF, src := 9, oseq := 4, body := .entry (let f : DWord := (BitVec.ofNat 64 (entryAddr 9 1 + 6 * 2 ^ 52)); ({ addrFlags := f, epoch := 6, check := entryCheck (entryAddr 9 1) f 6 [1,2,3,4,5,6], payload := [1,2,3,4,5,6] } : EntryMsg)) } : Frame),
    [], ?_, (let f : DWord := (BitVec.ofNat 64 (entryAddr 9 1 + 6 * 2 ^ 52));
    ({ addrFlags := f, epoch := 6, check := entryCheck (entryAddr 9 1) f 6 [1,2,3,4,5,6], payload := [1,2,3,4,5,6] } : EntryMsg)),
    ?_, ?_, ?_, ?_, ?_, ?_, ?_⟩, ⟨(let s := (let s := (Tests.locked (Tests.hush [40, 53, 54, 55, 56] Tests.run));
    { s with mani := { s.mani with subs := [{ idx := 4, node := 9, entry := 1, offset := 0, maxlen := 4 }], base := 0x5000, size := 0x1000, bank := 0, gathering := true } });
    { s with ov := { s.ov with inbox := [(some .east, ({ dest := nodeBase 0x3FF, src := 9, oseq := 4, body := .entry (let f : DWord := (BitVec.ofNat 64 (entryAddr 9 1 + 2 * 2 ^ 52)); ({ addrFlags := f, epoch := 6, check := entryCheck (entryAddr 9 1) f 6 [5, 6], payload := [5, 6] } : EntryMsg)) } : Frame))] } }),
    ?_, ?_, Tests.canon ?_, ?_, { idx := 4, node := 9, entry := 1, offset := 0, maxlen := 4 }, ?_, (some .east),
    ({ dest := nodeBase 0x3FF, src := 9, oseq := 4, body := .entry (let f : DWord := (BitVec.ofNat 64 (entryAddr 9 1 + 2 * 2 ^ 52)); ({ addrFlags := f, epoch := 6, check := entryCheck (entryAddr 9 1) f 6 [5, 6], payload := [5, 6] } : EntryMsg)) } : Frame),
    [], ?_, (let f : DWord := (BitVec.ofNat 64 (entryAddr 9 1 + 2 * 2 ^ 52));
    ({ addrFlags := f, epoch := 6, check := entryCheck (entryAddr 9 1) f 6 [5, 6], payload := [5, 6] } : EntryMsg)), ?_, ?_, ?_,
    ?_, ?_, ?_, ⟨?_, ?_, ?_, ?_⟩⟩, ⟨(let s := (let s := (Tests.locked (Tests.hush [40, 53, 54, 55, 56] Tests.run));
    { s with mani := { s.mani with subs := [{ idx := 4, node := 9, entry := 1, offset := 0, maxlen := 4 }], base := 0x5000, size := 0x1000, bank := 0, gathering := true } });
    { s with mani := { s.mani with newest := [(4, (let f : DWord := (BitVec.ofNat 64 (entryAddr 9 1 + 2 * 2 ^ 52)); ({ addrFlags := f, epoch := 5, check := entryCheck (entryAddr 9 1) f 5 [5, 6], payload := [5, 6] } : EntryMsg)))] } }),
    ?_, ?_, Tests.canon ?_, ?_, { idx := 4, node := 9, entry := 1, offset := 0, maxlen := 4 }, ?_, ?_,
    (let f : DWord := (BitVec.ofNat 64 (entryAddr 9 1 + 2 * 2 ^ 52));
    ({ addrFlags := f, epoch := 5, check := entryCheck (entryAddr 9 1) f 5 [5, 6], payload := [5, 6] } : EntryMsg)), ?_, ?_, ?_,
    ?_, ⟨?_, ?_, ?_, ?_⟩⟩⟩, ⟨⟨Tests.run, ?_, ?_, ?_, ⟨(0), ⟨0, ?_⟩, ⟨0x1, ?_⟩⟩, ⟨0, ⟨(0), ?_⟩, ⟨0, ?_⟩, ?_⟩, ⟨0, ⟨0, ?_⟩,
    ⟨0x80000000, ?_⟩⟩, ⟨0x41000, ?_⟩⟩, ⟨((Tests.hush [62]).setR (Rg.PUB0 0) 0x00000102), ?_, ?_, ?_, 0x00030101, (0), ?_⟩,
    ⟨(let s := (Tests.hush [62]); { s with mani := { s.mani with revtA := [1,6], revtB := [1] } }), ?_, ?_, ?_, 0x1, ⟨[6], ?_⟩,
    ⟨[], ?_⟩⟩⟩⟩ <;> decide +kernel

theorem witness_NoticesAndPeeks :
    (∃ s : State, s.maniLive = true ∧ s.Settled ∧ s.Quiet 60 ∧ ∃ (p : Option Port) (f : Frame) (r : List (Option Port × Frame)),
      s.ov.inbox = (p, f) :: r ∧ ∃ m : NoticeMsg, f.body = .notice m ∧ s.hasEpoch = true ∧ m.epoch = s.tt.nextE ∧ (∀ c,
      s.depends f.src m.chan (some f.oseq) c = true → (s.prop c).cons = []) ∧ m.final = true ∧ s.late = false) ∧ (∃ s : State,
      s.maniLive = true ∧ s.Settled ∧ s.Quiet 60 ∧ ∃ (p : Option Port) (f : Frame) (r : List (Option Port × Frame)),
      s.ov.inbox = (p, f) :: r ∧ ∃ m : NoticeMsg, f.body = .notice m ∧ s.hasEpoch = true ∧ m.epoch = s.tt.nextE ∧ (∀ c,
      s.depends f.src m.chan (some f.oseq) c = true → (s.prop c).cons = []) ∧ m.final = false) ∧ (∃ s : State,
      s.maniLive = true ∧ s.Settled ∧ s.Quiet 60 ∧ ∃ (p : Option Port) (f : Frame) (r : List (Option Port × Frame)),
      s.ov.inbox = (p, f) :: r ∧ ∃ m : PeekReqMsg, f.body = .peekReq m ∧ s.inReset .orvia = false ∧ s.numbered = true ∧
      f.src ≠ s.nodeId ∧ s.reachable f.src = true ∧ ∃ o : Port, s.outPort f.src = some o ∧ 2 ≤ s.getF (Fd.OV_PSTAT_REV o.idx) ∧
      (s.port o).held = [] ∧ (s.port o).unacked = [] ∧ let c := Fin.ofNat 16 m.chan; s.bitF Fd.MANI_PEEKABLE_CH c.val = true ∧
      (s.prop c).keep = false) ∧ (∃ s : State, s.maniLive = true ∧ s.Settled ∧ s.Quiet 60 ∧
      ∃ (p : Option Port) (f : Frame) (r : List (Option Port × Frame)), s.ov.inbox = (p, f) :: r ∧ ∃ m : PeekRepMsg,
      f.body = .peekRep m ∧ ∃ (k : Mach) (rd : BitVec 5), (s.mach k).wait = .peek rd f.src m.chan m.req ∧ (∀ j, j ≠ k →
      (s.mach j).wait = .none) ∧ rd ≠ 0 ∧ rd.toNat % 2 = 0) := by
  refine ⟨⟨(let s := (((Tests.net (Tests.locked (Tests.hush [60] Tests.run)))).setProp 2 { state := .conditional, value := 1, deps := [{ node := 9, chan := 3, depth := 0, seq := 3 }], depth := 1 });
    { s with ov := { s.ov with inbox := [(some .east, { dest := nodeBase 5, src := 9, oseq := 4, body := .notice { final := true, chan := 3, epoch := 7, origNode := 9, origChan := 2 } })] } }),
    ?_, ?_, ?_, (some .east),
    { dest := nodeBase 5, src := 9, oseq := 4, body := .notice { final := true, chan := 3, epoch := 7, origNode := 9, origChan := 2 } },
    [], ?_, { final := true, chan := 3, epoch := 7, origNode := 9, origChan := 2 }, ?_, ?_, ?_, ?_, ?_, ?_⟩,
    ⟨(let s := (((Tests.net (Tests.locked (Tests.hush [60] Tests.run)))).setProp 2 { state := .conditional, value := 1, deps := [{ node := 9, chan := 3, depth := 0, seq := 3 }], depth := 1 });
    { s with ov := { s.ov with inbox := [(some .east, { dest := nodeBase 5, src := 9, oseq := 4, body := .notice { final := false, chan := 3, epoch := 7, origNode := 9, origChan := 2 } })] } }),
    ?_, ?_, ?_, (some .east),
    { dest := nodeBase 5, src := 9, oseq := 4, body := .notice { final := false, chan := 3, epoch := 7, origNode := 9, origChan := 2 } },
    [], ?_, { final := false, chan := 3, epoch := 7, origNode := 9, origChan := 2 }, ?_, ?_, ?_, ?_, ?_⟩,
    ⟨(let s := (((Tests.net (Tests.locked (Tests.hush [60] Tests.run)))).setBitF Fd.MANI_PEEKABLE_CH 2);
    { s with ov := { s.ov with inbox := [(some .east, { dest := nodeBase 5, src := 9, oseq := 4, body := .peekReq { chan := 2, req := 6 } })] } }),
    ?_, ?_, ?_, (some .east), { dest := nodeBase 5, src := 9, oseq := 4, body := .peekReq { chan := 2, req := 6 } }, [], ?_,
    { chan := 2, req := 6 }, ?_, ?_, ?_, ?_, ?_, .east, ?_, ?_, ?_, ?_, ?_, ?_⟩,
    ⟨(let s := ((Tests.net (Tests.locked (Tests.hush [60] Tests.run))).modMach .a0 fun x => { x with wait := .peek 6 9 2 6 });
    { s with ov := { s.ov with inbox := [(some .east, { dest := nodeBase 5, src := 9, oseq := 4, body := .peekRep { chan := 2, req := 6, state := 1, value := 77, depth := 1, dep := true, epoch := 7 } })] } }),
    ?_, ?_, ?_, (some .east),
    { dest := nodeBase 5, src := 9, oseq := 4, body := .peekRep { chan := 2, req := 6, state := 1, value := 77, depth := 1, dep := true, epoch := 7 } },
    [], ?_, { chan := 2, req := 6, state := 1, value := 77, depth := 1, dep := true, epoch := 7 }, ?_, .a0, 6, ?_,
    fun q => by cases q <;> decide +kernel, ?_, ?_⟩⟩ <;> decide +kernel

theorem witness_LaneSteps :
    ((∃ (s : State) (n : Fin 16), s.rfxLive n = true ∧ s.Settled ∧ s.laneRuns n = true ∧ (s.lane n).wait = .none ∧
      let pc := s.getF (Fd.RFX_STAT_PC n.val); let w := s.getR (Rg.RFX_PROG n.val pc); laneLegal w = true ∧
      let op := w.toNat / 2 ^ 27; let v := fun (lo : Nat) => s.getR (Rg.RFX_V n.val (w.toNat / 2 ^ lo % 8));
      let h := s.ch (Fin.ofNat 16 w.toNat); ∃ p ∈ [(Instr.laneLdi n, 0x01, (w.extractLsb' 0 21).signExtend 32), (.laneLdh n,
      0x02, (v 24 &&& 0xFFFF) ||| (w <<< 16)), (.laneAddi n, 0x03, v 21 + (w.extractLsb' 0 18).signExtend 32), (.laneAdd n, 0x04,
      v 21 + v 18), (.laneSub n, 0x05, v 21 - v 18), (.laneTime n, 0x0A, Word.ofNat s.tt.clk), (.laneRead n, 0x0C,
      match w.toNat / 16 % 8 with | 0 => h.value | 1 => if s.fastOn (Fin.ofNat 16 w.toNat) = true ∧
      h.fastPast = true then 1 else 0 | 2 => if h.level = true then 1 else 0 | _ => h.count)], op = p.2.1) ∧
      (∃ (s : State) (n : Fin 16), s.rfxLive n = true ∧ s.Settled ∧ s.laneRuns n = true ∧ (s.lane n).wait = .none ∧
      let pc := s.getF (Fd.RFX_STAT_PC n.val); let w := s.getR (Rg.RFX_PROG n.val pc); laneLegal w = true ∧
      let op := w.toNat / 2 ^ 27; op = 0x00) ∧ (∃ (s : State) (n : Fin 16), s.rfxLive n = true ∧ s.Settled ∧
      s.laneRuns n = true ∧ (s.lane n).wait = .none ∧ let pc := s.getF (Fd.RFX_STAT_PC n.val);
      let w := s.getR (Rg.RFX_PROG n.val pc); laneLegal w = true ∧ let op := w.toNat / 2 ^ 27; op = 0x06) ∧
      (∃ (s : State) (n : Fin 16), s.rfxLive n = true ∧ s.Settled ∧ s.laneRuns n = true ∧ (s.lane n).wait = .none ∧
      let pc := s.getF (Fd.RFX_STAT_PC n.val); let w := s.getR (Rg.RFX_PROG n.val pc); laneLegal w = true ∧
      let op := w.toNat / 2 ^ 27; op = 0x0E)) ∧ ((∃ (s : State) (n : Fin 16), s.rfxLive n = true ∧ s.Settled ∧
      let st := Fd.RFX_STAT_STATE n.val; s.getF st = 0 ∧ s.laneRefuse n = 0) ∧ (∃ (s : State) (n : Fin 16), s.rfxLive n = true ∧
      s.Settled ∧ let st := Fd.RFX_STAT_STATE n.val; s.getF st = 0 ∧ s.laneRefuse n ≠ 0) ∧ (∃ (s : State) (n : Fin 16),
      s.rfxLive n = true ∧ s.Settled ∧ s.laneRuns n = true ∧ s.Quiet 10) ∧ (∃ (s : State) (n : Fin 16), s.rfxLive n = true ∧
      s.Settled ∧ s.laneRuns n = true ∧ (s.lane n).wait = .none ∧ let pc := s.getF (Fd.RFX_STAT_PC n.val);
      let w := s.getR (Rg.RFX_PROG n.val pc); laneLegal w = true ∧ let op := w.toNat / 2 ^ 27; op = 0x07 ∧ ∃ i, i < 8 ∧
      let first := fun (mask i : Nat) => mask.testBit i = true ∧ s.bitF (Fd.RFX_PEND_PEND n.val) i = true ∧ ∀ j < i,
      mask.testBit j = true → s.bitF (Fd.RFX_PEND_PEND n.val) j = false; first (w.toNat % 256) i) ∧ (∃ (s : State) (n : Fin 16),
      s.rfxLive n = true ∧ s.Settled ∧ s.laneRuns n = true ∧ (s.lane n).wait = .none ∧ let pc := s.getF (Fd.RFX_STAT_PC n.val);
      let w := s.getR (Rg.RFX_PROG n.val pc); laneLegal w = true ∧ let op := w.toNat / 2 ^ 27; op = 0x07 ∧ (∀ i, i < 8 →
      w.toNat.testBit i = true → s.bitF (Fd.RFX_PEND_PEND n.val) i = false)) ∧ (∃ (s : State) (n : Fin 16), s.rfxLive n = true ∧
      s.Settled ∧ s.laneRuns n = true ∧ (s.lane n).wait = .none ∧ let pc := s.getF (Fd.RFX_STAT_PC n.val);
      let w := s.getR (Rg.RFX_PROG n.val pc); laneLegal w = true ∧ let op := w.toNat / 2 ^ 27; op = 0x08 ∧
      let vd := w.toNat / 2 ^ 24 % 8; ∃ c ∈ [(Instr.laneActOff n, 0), (.laneActOn n, 1), (.laneActSet n, 2), (.laneActRefuge n,
      3), (.laneActConv n, 4)], vd = c.2) ∧ (∃ (s : State) (n : Fin 16), s.rfxLive n = true ∧ s.Settled ∧ s.laneRuns n = true ∧
      (s.lane n).wait = .none ∧ let pc := s.getF (Fd.RFX_STAT_PC n.val); let w := s.getR (Rg.RFX_PROG n.val pc);
      laneLegal w = true ∧ let op := w.toNat / 2 ^ 27; op = 0x0B) ∧ (∃ (s : State) (n : Fin 16), s.rfxLive n = true ∧ s.Settled ∧
      s.laneRuns n = true ∧ (s.lane n).wait = .none ∧ let pc := s.getF (Fd.RFX_STAT_PC n.val);
      let w := s.getR (Rg.RFX_PROG n.val pc); laneLegal w = true ∧ let op := w.toNat / 2 ^ 27; op = 0x0D) ∧
      (∃ (s : State) (n : Fin 16), s.rfxLive n = true ∧ s.Settled ∧ s.laneRuns n = true ∧ (s.lane n).wait = .none ∧
      let pc := s.getF (Fd.RFX_STAT_PC n.val); let w := s.getR (Rg.RFX_PROG n.val pc); laneLegal w = true ∧
      let op := w.toNat / 2 ^ 27; op = 0x0F) ∧ (∃ (s : State) (n : Fin 16), s.rfxLive n = true ∧ s.Settled ∧
      s.laneRuns n = true ∧ ∃ r, ∃ mask, (s.lane n).wait = .event r mask ∧ ∃ i, i < 8 ∧
      let first := fun (mask i : Nat) => mask.testBit i = true ∧ s.bitF (Fd.RFX_PEND_PEND n.val) i = true ∧ ∀ j < i,
      mask.testBit j = true → s.bitF (Fd.RFX_PEND_PEND n.val) j = false; first mask i) ∧ (∃ (s : State) (n : Fin 16),
      s.rfxLive n = true ∧ s.Settled ∧ s.laneRuns n = true ∧ ∃ e, (s.lane n).wait = .delay e ∧ e ≤ s.now) ∧
      (∃ (s : State) (n : Fin 16), s.rfxLive n = true ∧ s.Settled ∧ s.laneRuns n = true ∧ ∃ e, (s.lane n).wait = .delay e ∧
      s.now < e ∧ s.Quiet 40)) := by
  refine ⟨⟨⟨(Tests.lane 2 167772165 ((Tests.run.setR (Rg.RFX_V 2 1) 5).setR (Rg.RFX_V 2 2) 0xFFFFFFF0)), 2, ?_, ?_, ?_, ?_, ?_,
    _, .head _, ?_⟩, ⟨(Tests.lane 2 0 ((Tests.run.setR (Rg.RFX_V 2 1) 5).setR (Rg.RFX_V 2 2) 0xFFFFFFF0)), 2, ?_, ?_, ?_, ?_, ?_,
    ?_⟩, ⟨(Tests.lane 2 809762823 ((Tests.run.setR (Rg.RFX_V 2 1) 5).setR (Rg.RFX_V 2 2) 0xFFFFFFF0)), 2, ?_, ?_, ?_, ?_, ?_,
    ?_⟩, ⟨(Tests.lane 2 1879048277 ((Tests.run.setR (Rg.RFX_V 2 1) 5).setR (Rg.RFX_V 2 2) 0xFFFFFFF0)), 2, ?_, ?_, ?_, ?_, ?_,
    ?_⟩⟩, ⟨⟨Tests.run, 2, ?_, ?_, ?_, ?_⟩,
    ⟨({ ((((Tests.run.setR (Rg.RFX_V 2 1) 5).setR (Rg.RFX_V 2 2) 0xFFFFFFF0)).setR (Rg.SB_CFG 10) 1) with image := none }), 2,
    ?_, ?_, ?_, ?_⟩,
    ⟨(Tests.lane 2 167772165 ((((Tests.run.setR (Rg.RFX_V 2 1) 5).setR (Rg.RFX_V 2 2) 0xFFFFFFF0)).setR (Rg.SB_CFG 10) 1)), 2,
    ?_, ?_, ?_, ?_⟩,
    ⟨((Tests.lane 2 939524351 ((((Tests.run.setR (Rg.RFX_V 2 1) 5).setR (Rg.RFX_V 2 2) 0xFFFFFFF0)).setR (Rg.SB_CFG 10) 1)).setF (Fd.RFX_PEND_PEND 2) 6),
    2, ?_, ?_, ?_, ?_, ?_, ?_, 1, ?_, ?_⟩,
    ⟨(Tests.lane 2 939524351 ((((Tests.run.setR (Rg.RFX_V 2 1) 5).setR (Rg.RFX_V 2 2) 0xFFFFFFF0)).setR (Rg.SB_CFG 10) 1)), 2,
    ?_, ?_, ?_, ?_, ?_, ?_, ?_⟩,
    ⟨(Tests.lane 2 1073741826 ((((Tests.run.setR (Rg.RFX_V 2 1) 5).setR (Rg.RFX_V 2 2) 0xFFFFFFF0)).setR (Rg.SB_CFG 10) 1)), 2,
    ?_, ?_, ?_, ?_, ?_, ?_, _, .head _, ?_⟩,
    ⟨(Tests.lane 2 1476395024 ((((Tests.run.setR (Rg.RFX_V 2 1) 5).setR (Rg.RFX_V 2 2) 0xFFFFFFF0)).setR (Rg.SB_CFG 10) 1)), 2,
    ?_, ?_, ?_, ?_, ?_, ?_⟩,
    ⟨(Tests.lane 2 1744830635 ((((Tests.run.setR (Rg.RFX_V 2 1) 5).setR (Rg.RFX_V 2 2) 0xFFFFFFF0)).setR (Rg.SB_CFG 10) 1)), 2,
    ?_, ?_, ?_, ?_, ?_, ?_⟩,
    ⟨(Tests.lane 2 2013265920 ((((Tests.run.setR (Rg.RFX_V 2 1) 5).setR (Rg.RFX_V 2 2) 0xFFFFFFF0)).setR (Rg.SB_CFG 10) 1)), 2,
    ?_, ?_, ?_, ?_, ?_, ?_⟩,
    ⟨(((Tests.lane 2 0x380000FF ((((Tests.run.setR (Rg.RFX_V 2 1) 5).setR (Rg.RFX_V 2 2) 0xFFFFFFF0)).setR (Rg.SB_CFG 10) 1)).setF (Fd.RFX_PEND_PEND 2) 6).setLane 2 { wait := .event 3 4 }),
    2, ?_, ?_, ?_, 3, 4, ?_, 2, ?_, ?_⟩,
    ⟨((Tests.lane 2 0x58000010 ((((Tests.run.setR (Rg.RFX_V 2 1) 5).setR (Rg.RFX_V 2 2) 0xFFFFFFF0)).setR (Rg.SB_CFG 10) 1)).setLane 2 { wait := .delay 0 }),
    2, ?_, ?_, ?_, 0, ?_, ?_⟩,
    ⟨((Tests.lane 2 0x58000010 (Tests.hush [40] ((((Tests.run.setR (Rg.RFX_V 2 1) 5).setR (Rg.RFX_V 2 2) 0xFFFFFFF0)).setR (Rg.SB_CFG 10) 1))).setLane 2 { wait := .delay 60 }),
    2, ?_, ?_, ?_, 60, ?_, ?_, ?_⟩⟩⟩ <;> decide +kernel

theorem witness_ActionsAndWhistles :
    ((∃ s : State, s.phase = .running ∧ s.Settled ∧ ∃ a : ActMsg, s.chLive a.chan = true ∧ let h := s.ch a.chan;
      h.cfg.mode = mHS ∧ s.rfx.atDep = [] ∧ ∃ r, s.rfx.flight = a :: r ∧ (∀ b ∈ r, b.chan ≠ a.chan ∨ b.issued ≠ a.issued) ∧
      s.depDue = false ∧ s.chSt a.chan = 3 ∧ ∃ v : Word, (a.kind = 0 ∧ v = 0 ∨ a.kind = 1 ∧ v = 1 ∨ a.kind = 2 ∧
      v = (if a.value.getLsbD 0 = true then 1 else 0))) ∧ (∃ s : State, s.phase = .running ∧ s.Settled ∧ ∃ a : ActMsg,
      s.chLive a.chan = true ∧ let h := s.ch a.chan; h.cfg.mode = mHS ∧ s.rfx.atDep = [] ∧ ∃ r, s.rfx.flight = a :: r ∧ (∀ b ∈ r,
      b.chan ≠ a.chan ∨ b.issued ≠ a.issued) ∧ s.depDue = false ∧ (s.chSt a.chan < 3 ∨ s.chSt a.chan = 5 ∧ a.kind = 1) ∧
      a.kind ≤ 2) ∧ (∃ s : State, s.phase = .running ∧ s.Settled ∧ ∃ a : ActMsg, s.chLive a.chan = true ∧ let h := s.ch a.chan;
      h.cfg.mode = mHS ∧ s.rfx.atDep = [] ∧ ∃ b : ActMsg, (s.rfx.flight = [a, b] ∨ s.rfx.flight = [b, a]) ∧ b.chan = a.chan ∧
      b.issued = a.issued ∧ a.kind = 0 ∧ b.kind = 1 ∧ s.depDue = false ∧ s.chSt a.chan = 3) ∧ (∃ s : State, s.phase = .running ∧
      s.Settled ∧ ∃ a : ActMsg, s.chLive a.chan = true ∧ let h := s.ch a.chan; h.cfg.mode = mHS ∧ s.rfx.atDep = [] ∧ ∃ r,
      s.rfx.flight = a :: r ∧ (∀ b ∈ r, b.chan ≠ a.chan ∨ b.issued ≠ a.issued) ∧ s.depDue = true ∧ a.kind ≠ 4)) ∧ ((∃ s : State,
      s.phase = .running ∧ s.Settled ∧ s.Quiet 40 ∧ s.Quiet 41 ∧ ∃ n : Fin 16, s.inReset (.rfx n) = false ∧ s.laneRuns n = true ∧
      (s.lane n).wait = .none ∧ let pc := s.getF (Fd.RFX_STAT_PC n.val); let w := s.getR (Rg.RFX_PROG n.val pc);
      laneLegal w = true ∧ w.toNat / 2 ^ 27 = 0x09 ∧ s.asleep = true) ∧ (∃ s : State, s.phase = .running ∧ s.Settled ∧
      s.Quiet 40 ∧ s.Quiet 41 ∧ (∃ n : Fin 16, s.inReset (.rfx n) = false ∧ s.laneRuns n = true ∧ (s.lane n).wait = .none ∧
      let pc := s.getF (Fd.RFX_STAT_PC n.val); let w := s.getR (Rg.RFX_PROG n.val pc); laneLegal w = true ∧
      w.toNat / 2 ^ 27 = 0x09 ∧ s.asleep = false ∧ 2 ≤ s.stationRev ∧ s.linkedPorts ≠ [] ∧ s.numbered = true ∧
      s.inReset .orvia = false ∧ s.ov.whistleOut.length < 8) ∧ (s.ovLive = true ∧ ∃ p : Port, s.linked p = true ∧
      ∃ m : WhistleMsg, (¬((∃ x ∈ s.ov.whistleIn, x.1 = m.origin ∧ x.2.1 = m.seq ∧ s.now - x.2.2 ≤ 8000) ∨ s.numbered = true ∧
      m.origin = s.nodeId)) ∧ m.check = whistleCheck m)) ∧ (∃ s : State, s.phase = .running ∧ s.Settled ∧ s.Quiet 40 ∧
      s.Quiet 41 ∧ ∃ n : Fin 16, s.inReset (.rfx n) = false ∧ s.laneRuns n = true ∧ ∃ e, (s.lane n).wait = .delay e ∧ s.now < e ∧
      ∃ m : WhistleMsg, ∃ d, ∃ q, s.ov.whistleOut = [(d, m, [q])] ∧ d ≤ e ∧ s.linked q = true ∧
      2 ≤ s.getF (Fd.OV_PSTAT_REV q.idx)) ∧ (∃ s : State, s.phase = .running ∧ s.Settled ∧ s.Quiet 40 ∧ s.Quiet 41 ∧
      s.ovLive = true ∧ ∃ p : Port, s.linked p = true ∧ ∃ m : WhistleMsg, ((∃ x ∈ s.ov.whistleIn, x.1 = m.origin ∧
      x.2.1 = m.seq ∧ s.now - x.2.2 ≤ 8000) ∨ s.numbered = true ∧ m.origin = s.nodeId)) ∧ (∃ s : State, s.phase = .running ∧
      s.Settled ∧ s.Quiet 40 ∧ s.Quiet 41 ∧ s.ovLive = true ∧ ∃ p : Port, s.linked p = true ∧ ∃ m : WhistleMsg,
      (¬((∃ x ∈ s.ov.whistleIn, x.1 = m.origin ∧ x.2.1 = m.seq ∧ s.now - x.2.2 ≤ 8000) ∨ s.numbered = true ∧
      m.origin = s.nodeId)) ∧ s.linked p.other = false ∧ m.check ≠ whistleCheck m)) := by
  refine ⟨⟨⟨(let s := (Tests.chan 2 3 { cfg := Tests.hs } Tests.run);
    { s with rfx := { flight := [({ chan := 2, kind := 0, value := 3, latch := true, lane := 1, from_ := none, issued := 0 } : ActMsg)] } }),
    ?_, ?_, ({ chan := 2, kind := 0, value := 3, latch := true, lane := 1, from_ := none, issued := 0 } : ActMsg), ?_, ?_, ?_,
    [], ?_, ?_, ?_, ?_, 0, ?_⟩, ⟨(let s := (Tests.chan 2 1 { cfg := Tests.hs } Tests.run);
    { s with rfx := { flight := [({ chan := 2, kind := 0, value := 3, latch := true, lane := 1, from_ := none, issued := 0 } : ActMsg)] } }),
    ?_, ?_, ({ chan := 2, kind := 0, value := 3, latch := true, lane := 1, from_ := none, issued := 0 } : ActMsg), ?_, ?_, ?_,
    [], ?_, ?_, ?_, ?_, ?_⟩, ⟨(let s := (Tests.chan 2 3 { cfg := Tests.hs } Tests.run);
    { s with rfx := { flight := [({ chan := 2, kind := 0, value := 3, latch := true, lane := 1, from_ := none, issued := 0 } : ActMsg), ({ chan := 2, kind := 1, value := 3, latch := true, lane := 2, from_ := none, issued := 0 } : ActMsg)] } }),
    ?_, ?_, ({ chan := 2, kind := 0, value := 3, latch := true, lane := 1, from_ := none, issued := 0 } : ActMsg), ?_, ?_, ?_,
    ({ chan := 2, kind := 1, value := 3, latch := true, lane := 2, from_ := none, issued := 0 } : ActMsg), ?_, ?_, ?_, ?_, ?_,
    ?_, ?_⟩, ⟨(let s := (Tests.locked (Tests.chan 2 3 { cfg := Tests.hs } Tests.run));
    { s with tt := { s.tt with clk := 7000000 }, rfx := { flight := [({ chan := 2, kind := 1, value := 3, latch := true, lane := 1, from_ := none, issued := 0 } : ActMsg)] } }),
    ?_, ?_, ({ chan := 2, kind := 1, value := 3, latch := true, lane := 1, from_ := none, issued := 0 } : ActMsg), ?_, ?_, ?_,
    [], ?_, ?_, ?_, ?_⟩⟩, ⟨⟨((Tests.lane 2 0x48030012 (Tests.net (Tests.hush [40, 41]))).setF Fd.SLEEP_STAT_STATE 2), ?_, ?_, ?_,
    ?_, 2, ?_, ?_, ?_, ?_, ?_, ?_⟩, ⟨(Tests.lane 2 0x48030012 (Tests.net (Tests.hush [40, 41]))), ?_, ?_, ?_, ?_, ⟨2, ?_, ?_, ?_,
    ?_, ?_, ?_, ?_, ?_, ?_, ?_, ?_⟩, ⟨?_, .east, ?_,
    (let m : WhistleMsg := { seq := 4, hops := 3, origin := 9, lane := 1, code := 0x12, time := 77, check := 0 };
    { m with check := whistleCheck m }), ?_, ?_⟩⟩, ⟨(let s := ((Tests.lane 2 0x58000010 (Tests.net (Tests.hush [40,
    41]))).setLane 2 { wait := .delay 60 });
    { s with ov := { s.ov with whistleOut := [(50, (let m : WhistleMsg := { seq := 4, hops := 3, origin := 9, lane := 1, code := 0x12, time := 77, check := 0 }; { m with check := whistleCheck m }), [.east])] } }),
    ?_, ?_, ?_, ?_, 2, ?_, ?_, 60, ?_, ?_,
    (let m : WhistleMsg := { seq := 4, hops := 3, origin := 9, lane := 1, code := 0x12, time := 77, check := 0 };
    { m with check := whistleCheck m }), 50, .east, ?_, ?_, ?_, ?_⟩,
    ⟨({ (((((Tests.net (Tests.hush [40, 41])).setF (Fd.RFX_STAT_STATE 3) 1).onF (Fd.RFX_WRX0_EN 3 1)).setF (Fd.RFX_WRX0_CODE 3 1) 0x12 |>.onF (Fd.RFX_WRX0_ANY_ORIGIN 3 1) |>.onF (Fd.RFX_WRX0_TYPE 3 1) |>.setF (Fd.RFX_SEL_KIND 3 5) 6 |>.setF (Fd.RFX_WRX4_SEL 3 1) 5)) with ov := { whistleIn := [(9,4,0)] } }),
    ?_, ?_, ?_, ?_, ?_, .east, ?_,
    (let m : WhistleMsg := { seq := 4, hops := 3, origin := 9, lane := 1, code := 0x12, time := 77, check := 0 };
    { m with check := whistleCheck m }), ?_⟩, ⟨((((((Tests.net (Tests.hush [40,
    41])).setF (Fd.RFX_STAT_STATE 3) 1).onF (Fd.RFX_WRX0_EN 3 1)).setF (Fd.RFX_WRX0_CODE 3 1) 0x12 |>.onF (Fd.RFX_WRX0_ANY_ORIGIN 3 1) |>.onF (Fd.RFX_WRX0_TYPE 3 1) |>.setF (Fd.RFX_SEL_KIND 3 5) 6 |>.setF (Fd.RFX_WRX4_SEL 3 1) 5)).setF (Fd.OV_PSTAT_STATE 1) 0),
    ?_, ?_, ?_, ?_, ?_, .east, ?_,
    (let m : WhistleMsg := { seq := 4, hops := 3, origin := 9, lane := 1, code := 0x12, time := 77, check := 0 };
    { m with check := whistleCheck m + 1 }), ?_, ?_, ?_⟩⟩⟩ <;> decide +kernel

theorem witness_WhistleThatCannotBeSent :
    ∃ (s : State) (n : Fin 16), s.rfxLive n = true ∧ s.Settled ∧ s.laneRuns n = true ∧ (s.lane n).wait = .none ∧
      s.asleep = false ∧ let pc := s.getF (Fd.RFX_STAT_PC n.val); let w := s.getR (Rg.RFX_PROG n.val pc); laneLegal w = true ∧
      w.toNat / 2 ^ 27 = 0x09 ∧ let causes := [(decide (s.stationRev < 2), Fd.RFX_WCNT_REFUSED_VERSION n.val),
      (s.linkedPorts.isEmpty || !s.numbered || s.inReset .orvia, Fd.RFX_WCNT_NO_LINK n.val),
      (decide (8 ≤ s.ov.whistleOut.length), Fd.RFX_WCNT_QUEUE_FULL n.val)]; (∃ c ∈ causes, c.1 = true) := by
  refine ⟨(Tests.lane 2 0x48030012), 2, ?_, ?_, ?_, ?_, ?_, ?_, ?_, ?_⟩ <;> decide +kernel

theorem witness_DebugPort :
    (∃ s : State, s.phase = .running ∧ s.Settled ∧ s.Canon ∧ s.dbg.stalled = none ∧ s.padsOff = true) ∧ (∃ s : State,
      s.phase = .running ∧ s.Settled ∧ s.Canon ∧ s.dbg.stalled = none ∧ s.padsOff = false ∧ s.otp.dbgLock = true) ∧ (∃ s : State,
      s.phase = .running ∧ s.Settled ∧ s.Canon ∧ s.dbg.stalled = none ∧ s.padsOff = false ∧ s.otp.dbgLock = false ∧ (∃ a : Word,
      a.toNat % 4 = 0 ∧ s.SramReady a.toNat 4 ∧ s.Quiet 21) ∧ (∃ a : Word, a.toNat % 4 ≠ 0) ∧ (∃ a : Word, a.toNat % 4 = 0 ∧
      mapped a.toNat 4 = false) ∧ (∃ t : Triad, let att := Fd.TR_DBG_ATTACHED t.idx; s.isF att = false)) ∧ (∃ s : State,
      s.phase = .running ∧ s.Settled ∧ s.Canon ∧ s.dbg.stalled = none ∧ s.padsOff = false ∧ s.otp.dbgLock = false ∧ ∃ t : Triad,
      let att := Fd.TR_DBG_ATTACHED t.idx; s.isF att = true ∧ let hlt := Fd.TR_STAT_HALTED t.idx; s.isF hlt = true ∧
      (∃ (code : BitVec 8) (g : BitVec 5), code.toNat = g.toNat) ∧ (∃ code : BitVec 8, code = 64) ∧
      ((s.split t = true ∨ (s.tri t).log.length < 256) ∧ (∃ (code : BitVec 8) (g : BitVec 5), code.toNat = g.toNat) ∧
      (∃ code : BitVec 8, code = 64))) ∧ (∃ s : State, s.phase = .running ∧ s.Settled ∧ s.Canon ∧ s.dbg.stalled = none ∧
      s.padsOff = false ∧ s.otp.dbgLock = false ∧ ∃ t : Triad, let att := Fd.TR_DBG_ATTACHED t.idx; s.isF att = true ∧
      let hlt := Fd.TR_STAT_HALTED t.idx; s.isF hlt = true ∧ s.split t = false ∧ 256 ≤ (s.tri t).log.length ∧ ∃ code : BitVec 8,
      code.toNat < 32) := by
  refine ⟨⟨({ ((Tests.hush [21] Tests.run)) with pwr := { ((Tests.hush [21] Tests.run)).pwr with released := true, vioOk := false } }),
    ?_, ?_, Tests.canon ?_, ?_, ?_⟩, ⟨({ ((Tests.hush [21] Tests.run)) with otp := { dbgLock := true } }), ?_, ?_,
    Tests.canon ?_, ?_, ?_, ?_⟩, ⟨Tests.run, ?_, ?_, Tests.canon ?_, ?_, ?_, ?_, ⟨0x2000, ?_, ⟨?_, ?_, ?_, ?_⟩, ?_⟩, ⟨0x2001,
    ?_⟩, ⟨0xF0000000, ?_, ?_⟩, ⟨.a, ?_⟩⟩,
    ⟨((((Tests.hush [21] Tests.run)).onF (Fd.TR_DBG_ATTACHED 0)).onF (Fd.TR_STAT_HALTED 0)), ?_, ?_, Tests.canon ?_, ?_, ?_, ?_,
    .a, ?_, ?_, ⟨0, 0, ?_⟩, ⟨64, ?_⟩, ⟨?_, ⟨0, 0, ?_⟩, ⟨64, ?_⟩⟩⟩,
    ⟨(((((Tests.hush [21] Tests.run)).onF (Fd.TR_DBG_ATTACHED 0)).onF (Fd.TR_STAT_HALTED 0)).modTri .a fun x => { x with log := List.replicate 256 (0,0) }),
    ?_, ?_, Tests.canon ?_, ?_, ?_, ?_, .a, ?_, ?_, ?_, ?_, 0, ?_⟩⟩ <;> decide +kernel

theorem witness_RollCalls :
    (∃ s : State, s.phase = .running ∧ s.Settled ∧ s.Quiet 40 ∧ s.Quiet 125 ∧ s.padsRead = true ∧
      s.isF Fd.RC_CTRL_PAD_EN = true ∧ ∃ e, s.isF Fd.RC_CTRL_PAD_EDGE = !e ∧ s.isF Fd.RC_STAT_HELD = false) ∧ (∃ s : State,
      s.phase = .running ∧ s.Settled ∧ s.Quiet 40 ∧ s.Quiet 125 ∧ s.padsRead = true ∧ s.isF Fd.RC_CTRL_PAD_EN = true ∧ ∃ e,
      s.isF Fd.RC_CTRL_PAD_EDGE = !e ∧ s.isF Fd.RC_STAT_HELD = true ∧ (∀ x, s.rc.snap = some x → x.edge ≠ s.now ∨ x.src = 1)) ∧
      (∃ s : State, s.phase = .running ∧ s.Settled ∧ s.Quiet 40 ∧ s.Quiet 125 ∧ s.padsRead = true ∧
      s.isF Fd.RC_CTRL_PAD_EN = true ∧ ∃ e, s.isF Fd.RC_CTRL_PAD_EDGE = !e ∧ s.isF Fd.RC_STAT_HELD = true ∧ ∃ x,
      s.rc.snap = some x ∧ x.edge = s.now ∧ (x.src = 3 ∨ x.src = 4)) ∧ (∃ s : State, s.phase = .running ∧ s.Settled ∧
      s.Quiet 40 ∧ s.Quiet 125 ∧ (s.padsRead = true ∧ s.isF Fd.RC_CTRL_PAD_EN = true ∧ ∃ e, s.isF Fd.RC_CTRL_PAD_EDGE = !e ∧
      s.isF Fd.RC_STAT_HELD = true ∧ ∃ x, s.rc.snap = some x ∧ x.edge = s.now ∧ (x.src = 2 ∨ x.src = 5)) ∧
      (s.isF Fd.RC_STAT_HELD = true ∧ ∃ x, s.rc.snap = some x ∧ x.edge = s.now ∧ 1 ≤ x.src ∧ x.src ≤ 4)) ∧ (∃ s : State,
      s.phase = .running ∧ s.Settled ∧ s.Quiet 40 ∧ s.Quiet 125 ∧ s.isF Fd.RC_STAT_HELD = false) ∧ (∃ s : State,
      s.phase = .running ∧ s.Settled ∧ s.Quiet 40 ∧ s.Quiet 125 ∧ s.isF Fd.RC_STAT_HELD = true ∧ (∀ x, s.rc.snap = some x →
      x.edge ≠ s.now ∨ x.src = 5)) ∧ (∃ s : State, s.phase = .running ∧ s.Settled ∧ s.Quiet 40 ∧ s.Quiet 125 ∧ ∃ p, ∃ f : Frame,
      ∃ r, s.ov.inbox = (p, f) :: r ∧ ∃ at_, ∃ id, f.body = .rollcall at_ id ∧
      (s.isF Fd.RC_CTRL_STATION_EN = false ∨ s.numbered = false)) ∧ (∃ s : State, s.phase = .running ∧ s.Settled ∧ s.Quiet 40 ∧
      s.Quiet 125 ∧ ∃ p, ∃ f : Frame, ∃ r, s.ov.inbox = (p, f) :: r ∧ ∃ at_, ∃ id, f.body = .rollcall at_ id ∧
      s.isF Fd.RC_CTRL_STATION_EN = true ∧ s.numbered = true ∧ s.isF Fd.RC_STAT_SCHEDULED = true) ∧ (∃ s : State,
      s.phase = .running ∧ s.Settled ∧ s.Quiet 40 ∧ s.Quiet 125 ∧ ∃ p, ∃ f : Frame, ∃ r, s.ov.inbox = (p, f) :: r ∧ ∃ at_, ∃ id,
      f.body = .rollcall at_ id ∧ s.isF Fd.RC_CTRL_STATION_EN = true ∧ s.numbered = true ∧ s.isF Fd.RC_STAT_SCHEDULED = false ∧
      at_ ≤ s.tt.clk) ∧ (∃ s : State, s.phase = .running ∧ s.Settled ∧ s.Quiet 40 ∧ s.Quiet 125 ∧ ∃ p, ∃ f : Frame, ∃ r,
      s.ov.inbox = (p, f) :: r ∧ ∃ at_, ∃ id, f.body = .rollcall at_ id ∧ s.isF Fd.RC_CTRL_STATION_EN = true ∧
      s.numbered = true ∧ s.isF Fd.RC_STAT_SCHEDULED = false ∧ s.tt.clk < at_) ∧ (∃ s : State, s.phase = .running ∧ s.Settled ∧
      s.Quiet 40 ∧ s.Quiet 125 ∧ s.isF Fd.RC_STAT_SCHEDULED = true ∧ s.tt.clk ≤ s.rollTime ∧ s.tt.slew = 0) := by
  refine ⟨⟨((Tests.hush [40, 125] Tests.run).onF Fd.RC_CTRL_PAD_EN), ?_, ?_, ?_, ?_, ?_, ?_, true, ?_, ?_⟩, ⟨(((Tests.hush [40,
    125] Tests.run).onF Fd.RC_CTRL_PAD_EN).onF Fd.RC_STAT_HELD), ?_, ?_, ?_, ?_, ?_, ?_, true, ?_, ?_, ?_⟩,
    ⟨({ ((Tests.hush [40, 125] Tests.run).onF Fd.RC_CTRL_PAD_EN).onF Fd.RC_STAT_HELD with rc := { snap := some { src := 3 } } }),
    ?_, ?_, ?_, ?_, ?_, ?_, true, ?_, ?_, { src := 3 }, ?_, ?_, ?_⟩,
    ⟨({ ((Tests.hush [40, 125] Tests.run).onF Fd.RC_CTRL_PAD_EN).onF Fd.RC_STAT_HELD with rc := { snap := some { src := 2 } } }),
    ?_, ?_, ?_, ?_, ⟨?_, ?_, true, ?_, ?_, { src := 2 }, ?_, ?_, ?_⟩, ⟨?_, { src := 2 }, ?_, ?_, ?_, ?_⟩⟩, ⟨Tests.run, ?_, ?_,
    ?_, ?_, ?_⟩, ⟨((Tests.hush [40, 125] Tests.run).onF Fd.RC_STAT_HELD), ?_, ?_, ?_, ?_, ?_, ?_⟩, ⟨(let s := (Tests.hush [40,
    125] Tests.run);
    { s with ov := { s.ov with inbox := [(some .east, { dest := nodeBase 5, src := 9, oseq := 4, body := .rollcall 500 70000 })] } }),
    ?_, ?_, ?_, ?_, some .east, { dest := nodeBase 5, src := 9, oseq := 4, body := .rollcall 500 70000 }, [], ?_, 500, 70000, ?_,
    ?_⟩, ⟨(let s := (((Tests.net (Tests.hush [40, 125] Tests.run)).onF Fd.RC_CTRL_STATION_EN).onF Fd.RC_STAT_SCHEDULED);
    { s with ov := { s.ov with inbox := [(some .east, { dest := nodeBase 5, src := 9, oseq := 4, body := .rollcall 500 70000 })] } }),
    ?_, ?_, ?_, ?_, some .east, { dest := nodeBase 5, src := 9, oseq := 4, body := .rollcall 500 70000 }, [], ?_, 500, 70000, ?_,
    ?_, ?_, ?_⟩, ⟨(let s := (let s := ((Tests.net (Tests.hush [40, 125] Tests.run)).onF Fd.RC_CTRL_STATION_EN);
    { s with tt := { clk := 500 } });
    { s with ov := { s.ov with inbox := [(some .east, { dest := nodeBase 5, src := 9, oseq := 4, body := .rollcall 500 70000 })] } }),
    ?_, ?_, ?_, ?_, some .east, { dest := nodeBase 5, src := 9, oseq := 4, body := .rollcall 500 70000 }, [], ?_, 500, 70000, ?_,
    ?_, ?_, ?_, ?_⟩, ⟨(let s := ((Tests.net (Tests.hush [40, 125] Tests.run)).onF Fd.RC_CTRL_STATION_EN);
    { s with ov := { s.ov with inbox := [(some .east, { dest := nodeBase 5, src := 9, oseq := 4, body := .rollcall 500 70000 })] } }),
    ?_, ?_, ?_, ?_, some .east, { dest := nodeBase 5, src := 9, oseq := 4, body := .rollcall 500 70000 }, [], ?_, 500, 70000, ?_,
    ?_, ?_, ?_, ?_⟩, ⟨(let s := (((Tests.hush [40, 125] Tests.run).onF Fd.RC_CTRL_STATION_EN).onF Fd.RC_STAT_SCHEDULED);
    { s with ov := { s.ov with inbox := [(some .east, { dest := nodeBase 5, src := 9, oseq := 4, body := .rollcall 500 70000 })] } }),
    ?_, ?_, ?_, ?_, ?_, ?_, ?_⟩⟩ <;> decide +kernel

theorem witness_RegisterAccesses :
    (∃ s : State, s.phase = .running ∧ s.Settled ∧ (s.inReset .ttbl = false) ∧ (∃ node, node < 1024 ∧ s.refuge = false)) ∧
      (∃ s : State, s.phase = .running ∧ s.Settled ∧ ∃ node, node < 1024 ∧ s.refuge = true ∧ (∃ cls, cls = 1 ∧ node ≠ s.nodeId ∧
      ∃ v : Word, v = s.getR Rg.RFG_CHAL) ∧ (∃ v : Word, ∃ cls, (cls ≠ 1 ∨ node = s.nodeId ∨ v ≠ s.getR Rg.RFG_CHAL))) := by
  refine ⟨⟨Tests.run, ?_, ?_, ?_, ⟨0, ?_, ?_⟩⟩, ⟨(((Tests.net Tests.run).onF Fd.RFG_STAT_ACTIVE).setR Rg.RFG_CHAL 0x1234), ?_,
    ?_, 0, ?_, ?_, ⟨1, ?_, ?_, 0x1234, ?_⟩, ⟨0, 0, ?_⟩⟩⟩ <;> decide +kernel


end
end

section
/-! PROOF. Accesses of device registers (O60): the latching reads, writes by field type, and `RFG_REL`. -/

namespace Sys2Proof.Machine

section Accesses
variable (s : State)

/-! ### A register after a write by the types of its fields (R10) -/

theorem getLsbD_writeTyped (old rw w1c v : Word) (i : Nat) :
    (writeTyped old rw w1c v).getLsbD i =
      if rw.getLsbD i then v.getLsbD i else old.getLsbD i && !(w1c.getLsbD i && v.getLsbD i) := by
  by_cases hi : i < 32
  · cases hr : rw.getLsbD i <;>
      simp [writeTyped, BitVec.getLsbD_or, BitVec.getLsbD_and, BitVec.getLsbD_not, hr, hi, -BitVec.getLsbD_eq_getElem]
  · simp [BitVec.getLsbD_of_ge _ i (Nat.le_of_not_lt hi)]

/-- A field all of whose bits are RW takes the value written. -/
theorem fieldOf_writeTyped_rw {rw : Word} {lo wd : Nat} (h : ∀ i < wd, rw.getLsbD (lo + i) = true) (old w1c v : Word) :
    fieldOf (writeTyped old rw w1c v) lo wd = fieldOf v lo wd := by
  apply Nat.eq_of_testBit_eq
  intro i
  rw [fieldOf_testBit, fieldOf_testBit, getLsbD_writeTyped]
  by_cases hi : i < wd
  · simp [h i hi]
  · simp [hi]

/-- A one-bit field is the bit of its register. -/
theorem isF_eq_getLsbD {f : Fd} (h : f.width = 1) : s.isF f = (s.getR f.reg).getLsbD f.lo := by
  rw [State.isF, State.getF, fieldOf, h, BitVec.getLsbD, Nat.testBit]
  simp

theorem plainWrite_of_regRow {r : Rg} {row : RegRow} (h : regRow r.addr = some row) (hr : rstWord r.addr = BitVec.ofNat 32 r.rst)
    (v mask : Word) : s.plainWrite r.addr v mask =
      s.setR r (writeTyped (s.getR r) (BitVec.ofNat 32 row.rw &&& mask) (BitVec.ofNat 32 row.w1c) (v &&& mask)) := by
  simp [State.plainWrite, h, hr, State.setR, State.getR]

/-- Where there is no register a write does nothing (R555). -/
theorem plainWrite_of_no_regRow {a : Nat} (h : regRow a = none) (v mask : Word) : s.plainWrite a v mask = s := by
  simp [State.plainWrite, h]

@[simp] theorem plainWrite_rst (a : Nat) (v mask : Word) : (s.plainWrite a v mask).rst = s.rst := by
  unfold State.plainWrite
  split <;> rfl

/-! ### Writes of the timetable block (R241) -/

/-- A whole-word write in `TTBL`, other than of `TT_PERIOD`, does nothing beyond the rules of the field types. -/
theorem devWrite_ttbl {a : Nat} (ha : a % 4 = 0) (hb : blkOf a = some .ttbl) (hs : inSnapArea a = false)
    (hp : a % 0x10000 ≠ 0x18) (by_ : Agent) (v : Word) :
    s.devWrite by_ a v 0xFFFF_FFFF = (true, s.plainWrite a v 0xFFFF_FFFF) := by
  have hw : a / 4 * 4 = a := by omega
  simp [State.devWrite, hw, hs, hb, hp]

theorem targetReset_of_blkOf {a : Nat} {b : Blk} (hb : blkOf a = some b) : s.targetReset a = s.inReset b := by
  simp [State.targetReset, hb]

theorem regServes_of_blkOf {s : State} {a : Nat} {b : Blk} (hp : s.phase = .running) (hb : blkOf a = some b)
    (ha : (slotOf a).isSome = true) (hr : s.inReset b = false) : s.regServes a = true := by
  simp [State.regServes, hp, ha, targetReset_of_blkOf s hb, hr]

/-- Blocks that no reset request reaches are never in reset (R78). -/
theorem inReset_of_no_blkBit {b : Blk} (h : blkBit b = none) : s.inReset b = false := by
  simp [State.inReset, State.rstBit, h]

theorem exec_registerWrite_ttbl {s : State} {a : Word} (hp : s.phase = .running) (hd : s.Settled) (hr : s.inReset .ttbl = false)
    (ha : a.toNat % 4 = 0) (hb : blkOf a.toNat = some .ttbl) (hl : (slotOf a.toNat).isSome = true)
    (hs : inSnapArea a.toNat = false) (ht : a.toNat % 0x10000 ≠ 0x18) (by_ : Agent) (v : Word) :
    exec (.registerWrite by_ a v) s = .next (s.plainWrite a.toNat v 0xFFFF_FFFF) := by
  show execRegisterWrite by_ a v s = _
  rw [execRegisterWrite, if_pos (regServes_of_blkOf hp hb hl hr), devWrite_ttbl s ha hb hs ht]
  exact ok_of_due (by rw [plainWrite_rst]; exact hd)

/-- `TT_IRQ` after a write of `v` (R241): VEC, EN_A and EN_B are RW, PEND_A and PEND_B are W1C. -/
def State.ttIrqWritten (s : State) (v : Word) : State := s.setR Rg.TT_IRQ (writeTyped (s.getR Rg.TT_IRQ) 0xFF 0x300 v)

theorem plainWrite_ttIrq (v : Word) : s.plainWrite Rg.TT_IRQ.addr v 0xFFFF_FFFF = s.ttIrqWritten v := by
  have hm : v &&& 0xFFFF_FFFF = v := BitVec.and_allOnes
  rw [plainWrite_of_regRow s (row := ⟨0x38, 1, 0x4, 0x0, 0xFF, 0xFF, 0x300, 0x0⟩) (by decide) (by decide), hm]
  rfl

theorem getF_ttIrqWritten_rw {f : Fd} (hf : f.reg = Rg.TT_IRQ) (h : ∀ i < f.width, (0xFF : Word).getLsbD (f.lo + i) = true)
    (v : Word) : (s.ttIrqWritten v).getF f = fieldOf v f.lo f.width := by
  rw [State.getF, hf, State.ttIrqWritten, getR_setR_same, fieldOf_writeTyped_rw h]

theorem isF_ttIrqWritten {f : Fd} (hf : f.reg = Rg.TT_IRQ) (hw : f.width = 1) (v : Word) : (s.ttIrqWritten v).isF f =
    if (0xFF : Word).getLsbD f.lo then v.getLsbD f.lo else s.isF f && !((0x300 : Word).getLsbD f.lo && v.getLsbD f.lo) := by
  rw [isF_eq_getLsbD _ hw, isF_eq_getLsbD _ hw, hf, State.ttIrqWritten, getR_setR_same, getLsbD_writeTyped]

theorem getR_ttIrqWritten_ne (v : Word) {r : Rg} (h : r.addr ≠ 0x4007_0038) : (s.ttIrqWritten v).getR r = s.getR r :=
  getR_setR_ne s h _

/-! ### Reads that latch the upper half (R556, R559) -/

theorem exec_latchingLoRead {s : State} {r : LoReg} {q : Rg} {w : Word} (hs : s.regServes r.addr = true) (hd : s.Settled)
    (hq : s.latchLo r.addr = some (q, w)) : exec (.latchingLoRead r) s = .next (s.setR q w) := by
  show execLatchingLoRead r s = _
  rw [execLatchingLoRead, if_pos hs, State.loRead, hq]
  exact ok_of_due hd

/-! ### The release from refuge (R514) -/

/-- `RFG_LAST` shows the result of the last write of `RFG_REL` by a session, and its node. -/
def State.rfgShow (s : State) (node result : Nat) : State :=
  ((s.offF Fd.RFG_LAST_CORE).setF Fd.RFG_LAST_NODE node).setF Fd.RFG_LAST_RESULT result

theorem getR_rfgShow_ne {r : Rg} (h : r.addr ≠ Rg.RFG_LAST.addr) (node result : Nat) : (s.rfgShow node result).getR r = s.getR r := by
  rw [State.rfgShow, getR_setF_ne _ h, getR_setF_ne _ h, getR_offF_ne _ h]

theorem getF_rfgShow_ne {f : Fd} (h : f.reg.addr ≠ Rg.RFG_LAST.addr) (node result : Nat) : (s.rfgShow node result).getF f = s.getF f := by
  rw [State.getF, State.getF, getR_rfgShow_ne s h]

theorem refuge_rfgShow (node result : Nat) : (s.rfgShow node result).refuge = s.refuge := by
  rw [State.refuge, State.refuge, State.isF, State.isF, getF_rfgShow_ne s (by decide)]

theorem getF_rfgShow_result (node : Nat) {result : Nat} (h : result < 4) : (s.rfgShow node result).getF Fd.RFG_LAST_RESULT = result := by
  rw [State.rfgShow, getF_setF_same _ _ (by decide)]
  exact Nat.mod_eq_of_lt h

theorem getF_rfgShow_node {node : Nat} (h : node < 1024) (result : Nat) : (s.rfgShow node result).getF Fd.RFG_LAST_NODE = node := by
  rw [State.rfgShow, getF_setF_field (f := Fd.RFG_LAST_RESULT) (g := Fd.RFG_LAST_NODE) _ rfl (by decide),
    getF_setF_same _ _ (by decide)]
  exact Nat.mod_eq_of_lt h

theorem isF_rfgShow_core (node result : Nat) : (s.rfgShow node result).isF Fd.RFG_LAST_CORE = false := by
  rw [State.isF, State.rfgShow, getF_setF_field (f := Fd.RFG_LAST_RESULT) (g := Fd.RFG_LAST_CORE) _ rfl (by decide),
    getF_setF_field (f := Fd.RFG_LAST_NODE) (g := Fd.RFG_LAST_CORE) _ rfl (by decide)]
  exact isF_offF_same s Fd.RFG_LAST_CORE (by decide)

@[simp] theorem rfgShow_rst (node result : Nat) : (s.rfgShow node result).rst = s.rst := rfl
@[simp] theorem rfgShow_ch (node result : Nat) (n : Fin 16) : (s.rfgShow node result).ch n = s.ch n := rfl

/-- The release ends the refuge and puts both ladder levels and the counts that lead to refuge to 0. -/
theorem getF_refugeRelease_zero {f : Fd} (h : f ∈ [Fd.RFG_STAT_ACTIVE, Fd.TL_CONSEC_COUNT, Fd.TL_STAT_LEVEL_A, Fd.TL_STAT_LEVEL_B,
    Fd.MANI_MISS_MISS_A, Fd.MANI_MISS_MISS_B]) : s.refugeRelease.getF f = 0 := by
  simp only [List.mem_cons, List.not_mem_nil, or_false] at h
  rcases h with rfl | rfl | rfl | rfl | rfl | rfl <;>
    simp (disch := decide) [State.refugeRelease, State.offF, getF_setF_reg, getF_setF_field, getF_setF_same]

theorem getF_refugeRelease_ne {f : Fd} (h : f.reg.addr ∉ [Rg.RFG_STAT.addr, Rg.TL_CONSEC.addr, Rg.TL_STAT.addr, Rg.MANI_MISS.addr]) :
    s.refugeRelease.getF f = s.getF f := by
  simp only [List.mem_cons, List.not_mem_nil, or_false, not_or] at h
  obtain ⟨hrfg, hcons, hstat, hmiss⟩ := h
  rw [State.refugeRelease]
  simp only [State.offF]
  rw [getF_setF_reg _ hmiss, getF_setF_reg _ hmiss, getF_setF_reg _ hstat, getF_setF_reg _ hstat, getF_setF_reg _ hcons,
    getF_setF_reg _ hrfg]

@[simp] theorem refugeRelease_rst : s.refugeRelease.rst = s.rst := rfl
@[simp] theorem refugeRelease_ch (n : Fin 16) : s.refugeRelease.ch n = s.ch n := rfl

/-- What a session must be, and give, to release the module. -/
def State.mayRelease (s : State) (cls node : Nat) (v : Word) : Bool := cls == 1 && node != s.nodeId && v == s.getR Rg.RFG_CHAL

theorem mayRelease_iff (cls node : Nat) (v : Word) :
    s.mayRelease cls node v = true ↔ cls = 1 ∧ node ≠ s.nodeId ∧ v = s.getR Rg.RFG_CHAL := by
  simp [State.mayRelease, and_assoc]

/-- A session's write of `RFG_REL`: granted, refused, or without a refuge to release. -/
theorem rfgRelWrite_session (sid cls node : Nat) (v : Word) : s.rfgRelWrite (.session sid cls node) v =
    if s.refuge = false then (true, s.rfgShow node 3)
    else if s.mayRelease cls node v then (true, (s.rfgShow node 1).refugeRelease)
    else (false, s.rfgShow node 2) := by
  have hact : ((s.offF Fd.RFG_LAST_CORE).setF Fd.RFG_LAST_NODE node).isF Fd.RFG_STAT_ACTIVE = s.refuge := by
    rw [State.isF, getF_setF_reg _ (by decide), State.offF, getF_setF_reg _ (by decide)]
    rfl
  have hid : ((s.offF Fd.RFG_LAST_CORE).setF Fd.RFG_LAST_NODE node).getF Fd.OV_NODE_ID = s.nodeId := by
    rw [getF_setF_reg _ (by decide), State.offF, getF_setF_reg _ (by decide), State.nodeId]
  have hchal : ((s.offF Fd.RFG_LAST_CORE).setF Fd.RFG_LAST_NODE node).getR Rg.RFG_CHAL = s.getR Rg.RFG_CHAL := by
    rw [getR_setF_ne _ (by decide), getR_offF_ne _ (by decide)]
  simp only [State.rfgRelWrite, hact, hid, hchal]
  cases s.refuge <;> rfl

theorem rfgRelWrite_rst (by_ : Agent) (v : Word) : (s.rfgRelWrite by_ v).2.rst = s.rst := by
  cases by_ with
  | core m => rfl
  | debug => rfl
  | shunter n => rfl
  | session sid cls node =>
    rw [rfgRelWrite_session]
    split
    · rfl
    · split <;> rfl

theorem exec_rfgRelWrite {s : State} (hp : s.phase = .running) (hd : s.Settled) (by_ : Agent) (v : Word) :
    exec (.rfgRelWrite by_ v) s = .next (s.rfgRelWrite by_ v).2 := by
  show execRfgRelWrite by_ v s = _
  rw [execRfgRelWrite, if_pos (by simp [hp])]
  exact ok_of_due (by rw [rfgRelWrite_rst]; exact hd)

/-- A SAFETY session of another node that gives the challenge releases the module. -/
theorem exec_rfgRelWrite_granted {s : State} (hp : s.phase = .running) (hd : s.Settled) (href : s.refuge = true) (sid : Nat)
    {cls node : Nat} {v : Word} (hmay : s.mayRelease cls node v = true) :
    exec (.rfgRelWrite (.session sid cls node) v) s = .next (s.rfgShow node 1).refugeRelease := by
  rw [exec_rfgRelWrite hp hd, rfgRelWrite_session, if_neg (by simp [href]), if_pos hmay]

theorem exec_rfgRelWrite_refused {s : State} (hp : s.phase = .running) (hd : s.Settled) (href : s.refuge = true) (sid : Nat)
    {cls node : Nat} {v : Word} (hmay : ¬ s.mayRelease cls node v = true) :
    exec (.rfgRelWrite (.session sid cls node) v) s = .next (s.rfgShow node 2) := by
  rw [exec_rfgRelWrite hp hd, rfgRelWrite_session, if_neg (by simp [href]), if_neg hmay]

theorem exec_rfgRelWrite_no_refuge {s : State} (hp : s.phase = .running) (hd : s.Settled) (href : s.refuge = false)
    (sid cls node : Nat) (v : Word) : exec (.rfgRelWrite (.session sid cls node) v) s = .next (s.rfgShow node 3) := by
  rw [exec_rfgRelWrite hp hd, rfgRelWrite_session, if_pos href]

end Accesses

/-! ### The obligation -/

/-- Settles O60: each access answers one named update of the state (a latched half, `TT_IRQ` after a write by field types,
`RFG_LAST` with or without the release), and the lemmas on that update give its fields. -/
theorem registerAccesses : Obligations.RegisterAccesses := by
  unfold Obligations.RegisterAccesses
  intro s v by_ hp hd
  refine ⟨fun hr => ⟨?ttTime, ?ttEpoch, ⟨s.ttIrqWritten v, ?irq, ?vec, ?enA, ?enB, ?pendA, ?pendB, ?others⟩, ?noRegister⟩, ?sbFirst,
    ?core, fun sid cls node hn => ⟨?granted, ?refused, ?noRefuge⟩⟩
  case ttTime => exact exec_latchingLoRead (regServes_of_blkOf hp rfl rfl hr) hd rfl
  case ttEpoch => exact exec_latchingLoRead (regServes_of_blkOf hp rfl rfl hr) hd rfl
  case irq =>
    rw [← plainWrite_ttIrq]
    exact exec_registerWrite_ttbl hp hd hr rfl rfl rfl rfl (by decide) by_ v
  case vec => exact getF_ttIrqWritten_rw s rfl (by decide) v
  case enA => exact isF_ttIrqWritten s (f := Fd.TT_IRQ_EN_A) rfl rfl v
  case enB => exact isF_ttIrqWritten s (f := Fd.TT_IRQ_EN_B) rfl rfl v
  case pendA => exact isF_ttIrqWritten s (f := Fd.TT_IRQ_PEND_A) rfl rfl v
  case pendB => exact isF_ttIrqWritten s (f := Fd.TT_IRQ_PEND_B) rfl rfl v
  case others => exact fun r h => getR_ttIrqWritten_ne s v h
  case noRegister =>
    rw [exec_registerWrite_ttbl hp hd hr rfl rfl rfl rfl (by decide) by_ v, plainWrite_of_no_regRow s (by decide)]
  case sbFirst => exact exec_latchingLoRead (regServes_of_blkOf (b := .sigbox) hp rfl rfl (inReset_of_no_blkBit s rfl)) hd rfl
  case core => exact fun m => exec_rfgRelWrite hp hd (.core m) v
  case granted =>
    intro href hcls hnode hchal
    refine ⟨_, exec_rfgRelWrite_granted hp hd href sid ((mayRelease_iff s cls node v).2 ⟨hcls, hnode, hchal⟩), ?_, ?_, ?_, ?_, ?_, ?_, ?_,
      fun n => by rw [refugeRelease_ch, rfgShow_ch]⟩
    · rw [State.refuge, State.isF, getF_refugeRelease_zero _ (by decide)]
      rfl
    · rw [getF_refugeRelease_ne _ (by decide), getF_rfgShow_result _ _ (by decide)]
    · rw [getF_refugeRelease_ne _ (by decide), getF_rfgShow_node _ hn]
    · rw [State.isF, getF_refugeRelease_ne _ (by decide)]
      exact isF_rfgShow_core s node 1
    · exact getF_refugeRelease_zero _ (by decide)
    · exact getF_refugeRelease_zero _ (by decide)
    · exact getF_refugeRelease_zero _ (by decide)
  case refused =>
    intro href hno
    have hmay : ¬ s.mayRelease cls node v = true := by
      rw [mayRelease_iff]
      tauto
    exact ⟨_, exec_rfgRelWrite_refused hp hd href sid hmay, (refuge_rfgShow s node 2).trans href,
      getF_rfgShow_result s node (by decide), getF_rfgShow_node s hn 2⟩
  case noRefuge =>
    intro href
    exact ⟨_, exec_rfgRelWrite_no_refuge hp hd href sid cls node v, (refuge_rfgShow s node 3).trans href,
      getF_rfgShow_result s node (by decide)⟩

end Sys2Proof.Machine
end

section
/-! SUPPORT. Rules for the obligations of package, pads and power: fields after a write, work done on each of a list,
what a quiet source does, bytes of memory, and what an access meets in memory without errors. -/

namespace Sys2Proof.Machine

variable (s : State)

/-! ### Flags after a write -/

theorem isF_setF_reg {f g : Fd} (h : g.reg.addr ≠ f.reg.addr) (v : Nat) : (s.setF f v).isF g = s.isF g := by
  rw [State.isF, State.isF, getF_setF_reg _ h]

theorem isF_setF_field {f g : Fd} (hr : g.reg = f.reg) (h : f.lo + f.width ≤ g.lo ∨ g.lo + g.width ≤ f.lo) (v : Nat) :
    (s.setF f v).isF g = s.isF g := by
  rw [State.isF, State.isF, getF_setF_field _ hr h]

theorem isF_setF_same {f : Fd} (h : f.lo + f.width ≤ 32) (v : Nat) : (s.setF f v).isF f = (v % 2 ^ f.width != 0) := by
  rw [State.isF, getF_setF_same _ _ h]

theorem isF_of_regs {s t : State} (h : t.regs = s.regs) (f : Fd) : t.isF f = s.isF f := by
  rw [State.isF, State.isF, getF_of_regs h]

/-! ### Work done on each of a list -/

/-- What no single piece of the work changes, the whole of it does not change. -/
theorem each_frame {α β : Type} (p : State → β) {f : α → State → State} (h : ∀ x s, p (f x s) = p s) (l : List α) (s : State) :
    p (State.each f l s) = p s := by
  induction l generalizing s with
  | nil => rfl
  | cons x r ih => rw [State.each, ih, h]

theorem each_eq_self {α : Type} {f : α → State → State} {l : List α} {s : State} (h : ∀ x ∈ l, f x s = s) : State.each f l s = s := by
  induction l with
  | nil => rfl
  | cons x r ih => rw [State.each, h x List.mem_cons_self, ih fun y hy => h y (List.mem_cons_of_mem x hy)]

theorem ch_each_modCh {g : ChanH → ChanH} {l : List (Fin 16)} (hl : l.Nodup) (s : State) (n : Fin 16) :
    (State.each (fun k s => s.modCh k g) l s).ch n = if n ∈ l then g (s.ch n) else s.ch n := by
  induction l generalizing s with
  | nil => rfl
  | cons k r ih =>
    obtain ⟨hk, hr⟩ := List.nodup_cons.1 hl
    rw [State.each, ih hr]
    by_cases hn : n = k
    · subst hn
      simp [hk]
    · simp [hn, ch_modCh_ne s hn]

/-! ### The raise of a quiet source (R485, R486) -/

theorem getR_sticky_ne {r : Rg} {k : Nat} (h : r.addr ≠ 0x40010040 + 0x4 * (k / 32)) : (s.sticky k).getR r = s.getR r :=
  getR_setF_ne s h _

theorem getF_sticky_ne {f : Fd} {k : Nat} (h : f.reg.addr ≠ 0x40010040 + 0x4 * (k / 32)) : (s.sticky k).getF f = s.getF f := by
  rw [State.getF, getR_sticky_ne s h, State.getF]

theorem isF_sticky_ne {f : Fd} {k : Nat} (h : f.reg.addr ≠ 0x40010040 + 0x4 * (k / 32)) : (s.sticky k).isF f = s.isF f := by
  rw [State.isF, getF_sticky_ne s h, State.isF]

theorem bitF_sticky (k : Nat) : (s.sticky k).bitF (Fd.SB_STICKY_BITS (k / 32)) (k % 32) = true :=
  bitF_setBitF_same s (Fd.SB_STICKY_BITS (k / 32)) (Nat.le_refl 32) _ (Nat.mod_lt k (by decide))

/-- A sticky bit lies below every configuration of a source. -/
theorem sbCfg_ne_sticky (j k : Nat) (hk : k < 128) : (Rg.SB_CFG j).addr ≠ 0x40010040 + 0x4 * (k / 32) := by
  show 0x40010100 + 0x4 * j ≠ _
  omega

theorem quiet_sticky {s : State} {j k : Nat} (hk : k < 128) : (s.sticky k).Quiet j ↔ s.Quiet j := by
  rw [State.Quiet, State.Quiet, getF_sticky_ne (f := Fd.SB_CFG_REACTION j) s (sbCfg_ne_sticky j k hk),
    isF_sticky_ne (f := Fd.SB_CFG_ROLL j) s (sbCfg_ne_sticky j k hk)]

theorem quiet_of_regs {s t : State} (h : t.regs = s.regs) {k : Nat} (hq : s.Quiet k) : t.Quiet k := by
  rw [State.Quiet, getF_of_regs h, isF_of_regs h]
  exact hq

/-- No write of a field outside the source's configuration changes that it is quiet. -/
theorem quiet_setF {s : State} {k : Nat} {f : Fd} (h : (Rg.SB_CFG k).addr ≠ f.reg.addr) (v : Nat) (hq : s.Quiet k) :
    (s.setF f v).Quiet k := by
  rw [State.Quiet, getF_setF_reg (g := Fd.SB_CFG_REACTION k) _ h, isF_setF_reg (g := Fd.SB_CFG_ROLL k) _ h]
  exact hq

theorem react_of_quiet {s : State} {k : Nat} (hq : s.Quiet k) (by_ : RaisedBy) : s.react k by_ = s := by
  obtain ⟨hr, hroll⟩ := hq
  have h5 : (s.getF (Fd.SB_CFG_REACTION k) == 5) = false := by
    rw [beq_eq_false_iff_ne]
    omega
  have hcore : s.reactCore k by_ = s := by
    unfold State.reactCore
    split
    · rfl
    · exact if_pos hr
  simp [State.react, hcore, hroll, h5]

/-- The raise of a quiet source by a block sets its sticky bit, and does nothing else. -/
theorem raise_of_quiet {s : State} {k : Nat} (hk : k < 128) (hq : s.Quiet k) : s.raise k = s.sticky k :=
  react_of_quiet ((quiet_sticky hk).2 hq) .block

@[simp] theorem sticky_rst (k : Nat) : (s.sticky k).rst = s.rst := rfl
@[simp] theorem sticky_sram (k : Nat) : (s.sticky k).sram = s.sram := rfl
@[simp] theorem sticky_phase (k : Nat) : (s.sticky k).phase = s.phase := rfl

end Sys2Proof.Machine
end

section
/-! SUPPORT. Memory as the obligations of package, pads and power meet it: bytes put and read back, accesses to SRAM
words without errors. -/

namespace Sys2Proof.Machine

/-! ### Bytes of a value (R556) -/

theorem leNat_leBytes (v n : Nat) : leNat (leBytes v n) = v % 256 ^ n := by
  induction n generalizing v with
  | zero => simp [leBytes, leNat, Nat.mod_one]
  | succ n ih =>
    have hpow : 256 ^ (n + 1) = 256 * 256 ^ n := Nat.pow_succ'
    rw [leBytes, leNat, ih, BitVec.toNat_ofNat, hpow]
    exact Nat.mod_mul.symm

/-- A value read is that of the bytes that stand there. -/
theorem leRead_of_bytes {rd : Nat → Byte} {a : Nat} {bs : List Byte} (h : ∀ (i : Nat) (hi : i < bs.length), rd (a + i) = bs[i]) :
    leRead rd a bs.length = leNat bs := by
  induction bs generalizing a with
  | nil => rfl
  | cons b r ih =>
    have h0 : rd a = b := h 0 (Nat.succ_pos _)
    have hr : leRead rd (a + 1) r.length = leNat r := ih fun i hi => by
      rw [Nat.add_assoc, Nat.add_comm 1 i]
      exact h (i + 1) (Nat.succ_lt_succ hi)
    rw [List.length_cons, leRead, leNat, h0, hr]

/-! ### The two memories in canonical form -/

theorem sramWf_of_canon {s : State} (h : s.Canon) : Memory.wf sramDefault s.sram = true := (Bool.and_eq_true_iff.1 h.2).1
theorem flashWf_of_canon {s : State} (h : s.Canon) : Memory.wf flashDefault s.flash = true := (Bool.and_eq_true_iff.1 h.2).2

/-! ### SRAM words without errors (R457) -/

theorem exists_of_mem_wordsOf {a n w : Nat} (h : w ∈ wordsOf a n) : ∃ k < n, w = (a + k) / 8 := by
  unfold wordsOf at h
  split at h
  · exact absurd h List.not_mem_nil
  · obtain ⟨i, hi, rfl⟩ := List.mem_range'.1 h
    by_cases h0 : i = 0
    · exact ⟨0, by omega, by omega⟩
    · exact ⟨8 * (a / 8 + 1 * i) - a, by omega, by omega⟩

theorem eccTouch_of_no_error {s : State} {w : Nat} (h : lookupNat w s.sramErr = none) : s.eccTouch w = s := by
  simp [State.eccTouch, h]

theorem eccTouchAll_of_no_error {s : State} {a n : Nat} (h : ∀ k < n, lookupNat ((a + k) / 8) s.sramErr = none) :
    s.eccTouchAll a n = s :=
  each_eq_self fun w hw => by
    obtain ⟨k, hk, rfl⟩ := exists_of_mem_wordsOf hw
    exact eccTouch_of_no_error (h k hk)

theorem anyMark_eq_false {s : State} {p : Option Mark → Bool} {a n : Nat} (h : ∀ k < n, p (s.markOf ((a + k) / 8)) = false) :
    s.anyMark p a n = false := by
  simpa [State.anyMark] using h

theorem isPoisoned_eq_false {o : Option Mark} (h : o ≠ some .poisoned) : isPoisoned o = false := by
  unfold isPoisoned
  split
  · exact absurd rfl h
  · rfl

/-- A read of SRAM bytes that are ready gives them, and sets SB21 where a word is unwritten. -/
theorem sramLoad_of_ready {s : State} {a n : Nat} (h : s.SramReady a n) :
    s.sramLoad a n = (.data (s.sramRead a n), if s.anyMark isUnwritten a n then s.raise 21 else s) := by
  have hp : s.anyMark isPoisoned a n = false := anyMark_eq_false fun k hk => isPoisoned_eq_false (h.noPoison k hk)
  simp [State.sramLoad, eccTouchAll_of_no_error h.noError, hp]

/-- A write of SRAM bytes that are ready stores them. -/
theorem sramWrite_of_ready {s : State} {a : Nat} {bs : List Byte} (h : s.SramReady a bs.length) :
    s.sramWrite a bs = (true, { s with sramErr := s.sramErr.filter fun p => !(wordsOf a bs.length).contains p.1 }.sramStore a bs) := by
  have hpart : ∀ w ∈ (wordsOf a bs.length).filter fun w => !wholeWord a bs.length w,
      s.eccTouch w = s ∧ isPoisoned (s.markOf w) = false := by
    intro w hw
    obtain ⟨k, hk, rfl⟩ := exists_of_mem_wordsOf (List.mem_of_mem_filter hw)
    exact ⟨eccTouch_of_no_error (h.noError k hk), isPoisoned_eq_false (h.noPoison k hk)⟩
  have htouch := each_eq_self fun w hw => (hpart w hw).1
  have hclean : (((wordsOf a bs.length).filter fun w => !wholeWord a bs.length w).any fun w => isPoisoned (s.markOf w)) = false :=
    List.any_eq_false.2 fun w hw => by simp [(hpart w hw).2]
  simp only [State.sramWrite, htouch, hclean, Bool.false_eq_true, if_false]

end Sys2Proof.Machine
end

section
/-! PROOF. Intakes, hold-up, the pad supply, rails and clock monitors (O33). -/

namespace Sys2Proof.Machine

section Power
variable (s : State)

/-! ### Intakes and the power-fail sequence (R43, R51, R52) -/

@[simp] theorem any_goes (p : PowerH) (i : Intake) : (p.goes i).any = (p.put i false).any := by
  cases i <;> rfl

theorem exec_intakeValid {s : State} (hp : s.phase ≠ .unpowered) (hd : s.Settled) (i : Intake) :
    exec (.intakeValid i) s = .next (s.modPwr fun p => p.comes i) := by
  show execIntakeValid i s = _
  rw [execIntakeValid, if_neg hp]
  exact ok_of_due hd

theorem quiet_modPwr {s : State} {k : Nat} (f : PowerH → PowerH) (hq : s.Quiet k) : (s.modPwr f).Quiet k := quiet_of_regs (s := s) rfl hq

/-- One intake goes while another stays (R51). -/
theorem exec_intakeInvalid_another {s : State} (hp : s.phase ≠ .unpowered) (hd : s.Settled) {i : Intake} (hv : s.pwr.valid i = true)
    (ha : (s.pwr.put i false).any = true) (hq : s.Quiet 120) :
    exec (.intakeInvalid i) s = .next ((s.modPwr fun p => p.goes i).sticky 120) := by
  show execIntakeInvalid i s = _
  rw [execIntakeInvalid, if_neg (by simp [hp, hv])]
  have hany : (s.modPwr fun p => p.goes i).pwr.any = true := (any_goes s.pwr i).trans ha
  simp only [hany, if_true, raise_of_quiet (by decide) (quiet_modPwr _ hq)]
  exact ok_of_due hd

/-- With no proposal at any channel there is nothing to withdraw. -/
theorem withdrawAll_of_no_props {s : State} (h : ∀ c, (s.prop c).state = .none) : s.withdrawAll = s :=
  each_eq_self fun c _ => by simp [State.withdraw, Proposal.live, h c]

/-- The power-fail sequence runs, and no intake has become valid again within it. -/
def PowerH.fails (p : PowerH) : PowerH := { p with failing := true, returned := [] }

/-- The power-fail sequence runs, and every sequence of a channel has stopped. -/
def State.failed (s : State) : State := State.each (fun n s => s.modCh n ChanH.stopSeq) all16 (s.modPwr PowerH.fails)

/-- The sequence changes the intakes and the channels only. -/
theorem failed_frame {β : Type} (p : State → β) (hc : ∀ n s, p (s.modCh n ChanH.stopSeq) = p s)
    (hp : p (s.modPwr PowerH.fails) = p s) : p s.failed = p s := by
  rw [State.failed, each_frame p hc, hp]

theorem failed_regs : s.failed.regs = s.regs := failed_frame s State.regs (fun _ _ => rfl) rfl
theorem failed_rst : s.failed.rst = s.rst := failed_frame s State.rst (fun _ _ => rfl) rfl
theorem failed_phase : s.failed.phase = s.phase := failed_frame s State.phase (fun _ _ => rfl) rfl
theorem failed_sram : s.failed.sram = s.sram := failed_frame s State.sram (fun _ _ => rfl) rfl

theorem failed_pwr : s.failed.pwr = s.pwr.fails := by
  rw [State.failed, each_frame State.pwr (f := fun n s => s.modCh n ChanH.stopSeq) fun _ _ => rfl]
  rfl

theorem ch_failed (n : Fin 16) : s.failed.ch n = (s.ch n).stopSeq := by
  have hn : n ∈ all16 := List.mem_finRange n
  rw [State.failed, ch_each_modCh (l := all16) (List.nodup_finRange 16), if_pos hn]
  rfl

theorem powerFail_of_no_props {s : State} (h : ∀ c, (s.prop c).state = .none) (hq : s.Quiet 121) : s.powerFail = s.failed.sticky 121 := by
  have hw : (s.modPwr PowerH.fails).withdrawAll = s.modPwr PowerH.fails := withdrawAll_of_no_props h
  have hq' : s.failed.Quiet 121 := quiet_of_regs (failed_regs s) hq
  rw [← raise_of_quiet (by decide) hq']
  show (State.each _ all16 (if (s.modPwr PowerH.fails).phase = .running then (s.modPwr PowerH.fails).withdrawAll
    else s.modPwr PowerH.fails)).raise 121 = _
  rw [hw, ite_self]
  rfl

/-- The power-fail sequence starts with the loss of the last intake, or at a brownout (R52). -/
theorem exec_powerFailStart {s : State} (hp : s.phase ≠ .unpowered) (hf : s.pwr.failing = false) {i : Intake}
    (ha : (s.pwr.put i false).any = false) (hv : s.pwr.valid i = true) {l : Option Intake} (hl : l ∈ [none, some i]) :
    exec (.powerFailStart l) s = ok (match l with
      | none => s.powerFail
      | some _ => (s.modPwr fun p => p.put i false).powerFail) := by
  show execPowerFailStart l s = _
  unfold execPowerFailStart
  rw [if_neg (by simp [hp, hf])]
  simp only [List.mem_cons, List.not_mem_nil, or_false] at hl
  rcases hl with rfl | rfl
  · rfl
  · have : (s.pwr.valid i && !(s.modPwr fun p => p.put i false).pwr.any) = true := by
      rw [hv]
      show (!(s.pwr.put i false).any) = true
      rw [ha]
      rfl
    exact if_pos this

/-- The start of the sequence sets SB121, stops the sequences of every channel, and leaves memory as it is. -/
theorem exec_powerFailStart_effect {s : State} (hp : s.phase ≠ .unpowered) (hd : s.Settled) (hf : s.pwr.failing = false) {i : Intake}
    (ha : (s.pwr.put i false).any = false) (hv : s.pwr.valid i = true) (hq : s.Quiet 121) (hn : ∀ c, (s.prop c).state = .none)
    {l : Option Intake} (hl : l ∈ [none, some i]) : ∃ u : State, u.phase = s.phase ∧ u.sram = s.sram ∧
      exec (.powerFailStart l) s = .next (u.failed.sticky 121) := by
  have hdue (u : State) (h : u.Settled) : (u.failed.sticky 121).Settled :=
    by rw [State.Settled, sticky_rst, failed_rst]; exact h
  rw [exec_powerFailStart hp hf ha hv hl]
  cases l with
  | none => exact ⟨s, rfl, rfl, by rw [powerFail_of_no_props hn hq]; exact ok_of_due (hdue s hd)⟩
  | some j =>
    have hn' : ∀ c, ((s.modPwr fun p => p.put i false).prop c).state = .none := hn
    exact ⟨s.modPwr fun p => p.put i false, rfl, rfl, by
      simp only [powerFail_of_no_props hn' (quiet_modPwr _ hq)]
      exact ok_of_due (hdue _ hd)⟩

/-! ### The end of hold-up (R53) -/

/-- Outside the programming of the commit word an interruption leaves the calibration store as it is (R472). -/
theorem calInterrupt_of_step {s : State} (h : s.getF Fd.CS_STAT_STEP ≠ 5) : s.calInterrupt = s := if_neg h

theorem exec_holdUpEnd {s : State} (hf : s.pwr.failing = true) (h5 : s.getF Fd.CS_STAT_STEP ≠ 5) (hr : s.pwr.returned = []) :
    exec .holdUpEnd s = .next { s.powerOnReset with phase := .unpowered, dbg := {} } := by
  show execHoldUpEnd s = _
  rw [execHoldUpEnd, if_pos (by simp [hf, hr]), State.powerOff, calInterrupt_of_step h5]
  exact ok_of_due rfl

theorem exec_intakeReturnReset {s : State} (hf : s.pwr.failing = true) (h5 : s.getF Fd.CS_STAT_STEP ≠ 5) (hr : s.pwr.returned ≠ []) :
    exec .intakeReturnReset s = .next s.powerOnReset := by
  show execIntakeReturnReset s = _
  rw [execIntakeReturnReset, if_pos (by simp [hf, hr]), calInterrupt_of_step h5]
  exact ok_of_due rfl

/-! ### The pad supply (R38) and the rails (R54) -/

/-- Without a frame at the port the loss of its supply cuts nothing short. -/
theorem spxVioLost_of_idle {s : State} (hb : s.spxBusy = false) (hs : s.spx.slave = []) (f : SlaveFrame) : s.spxVioLost f = s := by
  have hcut : s.spxCut .off = s := by simp [State.spxCut, hb]
  simp [State.spxVioLost, hcut, State.slaveRise, hs]

theorem exec_vioInLost {s : State} (hd : s.Settled) (hp : s.phase = .running) (hv : s.pwr.vioOk = true) (hb : s.spxBusy = false)
    (hs : s.spx.slave = []) (hq : s.Quiet 122) (f : SlaveFrame) :
    exec (.vioInLost f) s = .next ((s.modPwr fun p => { p with vioOk := false }).sticky 122) := by
  show execVioInLost f s = _
  simp only [execVioInLost, hv, hp, spxVioLost_of_idle hb hs, beq_self_eq_true, if_true, Bool.true_eq_false, if_false,
    raise_of_quiet (by decide) (quiet_modPwr _ hq)]
  exact ok_of_due hd

theorem exec_vioInRestored_quiet {s : State} (hd : s.Settled) (h : s.pwr.vioOk = true ∨ s.pwr.nrstLow = false) :
    exec .vioInRestored s = .next (s.modPwr fun p => { p with vioOk := true }) := by
  have hno : ¬ ((!s.pwr.vioOk && s.pwr.nrstLow && (s.modPwr fun p => { p with vioOk := true }).nrstActs) = true) := by
    rcases h with h | h <;> simp [h]
  show execVioInRestored s = _
  rw [execVioInRestored, if_neg hno]
  exact ok_of_due hd

/-- An `nRST` that is low when the supply comes back acts from then on (R74). -/
theorem exec_vioInRestored_nrst {s : State} (hv : s.pwr.vioOk = false) (hl : s.pwr.nrstLow = true) (hr : s.pwr.released = true)
    (hf : s.pwr.failing = false) (hm : s.isF Fd.NRST_STAT_MASKED = false) :
    exec .vioInRestored s = ok (((s.modPwr fun p => { p with vioOk := true }).onF Fd.RST_CAUSE_NRST).chipReset) := by
  have hm' : (s.modPwr fun p => { p with vioOk := true }).isF Fd.NRST_STAT_MASKED = false := hm
  have hact : (s.modPwr fun p => { p with vioOk := true }).nrstActs = true := by
    rw [State.nrstActs, hm']
    simp [State.modPwr, hr, hf]
  show execVioInRestored s = _
  exact if_pos (by simp [hv, hl, hact])

theorem exec_railFault {s : State} (hp : s.phase ≠ .unpowered) (hd : s.Settled) (hq : s.Quiet 123) :
    exec .railFault s = .next (s.sticky 123) := by
  show execRailFault s = _
  rw [execRailFault, if_neg hp, raise_of_quiet (by decide) hq]
  exact ok_of_due hd

/-! ### What a chip reset keeps (R12, R75, R77) -/

theorem lookupNat_map_resetOne (keep : Nat → Word) (a : Nat) (l : List (Nat × Word)) :
    lookupNat a (l.map (resetOne keep)) = (lookupNat a l).map fun w => (w &&& keep a) ||| (rstWord a &&& ~~~ keep a) := by
  induction l with
  | nil => rfl
  | cons p r ih =>
    obtain ⟨j, w⟩ := p
    simp only [List.map_cons, resetOne, lookupNat, ih]
    split
    · rename_i h
      rw [h]
      rfl
    · rfl

/-- The bits that a reset keeps of a register hold what they held. -/
theorem getLsbD_getR_reset {keep : Nat → Word} {s t : State} (ht : t.regs = s.regs.map (resetOne keep)) {r : Rg}
    {i : Nat} (hk : (keep r.addr).getLsbD i = true) :
    (t.getR r).getLsbD i = (s.getR r).getLsbD i := by
  rw [State.getR, State.getR, ht, lookupNat_map_resetOne]
  cases lookupNat r.addr s.regs with
  | none => rfl
  | some w => simp [BitVec.getLsbD_or, BitVec.getLsbD_and, BitVec.getLsbD_not, hk, -BitVec.getLsbD_eq_getElem]

@[simp] theorem calInterrupt_regs : s.calInterrupt.regs = s.regs := by
  unfold State.calInterrupt
  dsimp only [State.takeFree]
  split
  · split <;> rfl
  · rfl

@[simp] theorem calInterrupt_pwr : s.calInterrupt.pwr = s.pwr := by
  unfold State.calInterrupt
  dsimp only [State.takeFree]
  split
  · split <;> rfl
  · rfl

theorem getR_bumpAll_ne {r : Rg} (h : r.addr < 0x40000100) : s.bumpAll.getR r = s.getR r := by
  refine each_frame (fun s => s.getR r) (fun k s => ?_) _ _
  split
  · rfl
  · exact getR_setF_ne s (by show r.addr ≠ 0x40000100 + 0x4 * k; omega) _

theorem bumpAll_pwr : s.bumpAll.pwr = s.pwr := by
  refine each_frame State.pwr (fun k s => ?_) _ _
  split <;> rfl

theorem getR_portLost_ne {r : Rg} (h : r.addr < 0x40000100) (i : Nat) : (State.portLost i s).getR r = s.getR r := by
  unfold State.portLost
  split
  · rw [getR_setBitF_ne _ (by show r.addr ≠ 0x40010044; omega),
      getR_incF_ne _ (by show r.addr ≠ 0x40060124 + 0x100 * i; omega)]
  · rfl

theorem portLost_pwr (i : Nat) : (State.portLost i s).pwr = s.pwr := by
  unfold State.portLost
  split <;> rfl

/-- A chip reset that the watchdog has not caused ends the run of those that it has (R511). -/
def State.endTallyRun (s : State) : State := if s.pwr.byTally then s else s.offF Fd.TL_CONSEC_COUNT

/-- A station roll call that is scheduled is discarded (R545). -/
def State.dropSchedule (s : State) : State :=
  if s.isF Fd.RC_STAT_SCHEDULED then (s.offF Fd.RC_STAT_SCHEDULED).onF Fd.RC_STAT_MISSED else s

theorem getR_endTallyRun_ne {r : Rg} (h : r.addr < 0x40000100) : s.endTallyRun.getR r = s.getR r := by
  unfold State.endTallyRun
  split
  · rfl
  · exact getR_offF_ne _ (by show r.addr ≠ 0x40020024; omega)

theorem getR_dropSchedule_ne {r : Rg} (h : r.addr < 0x40000100) : s.dropSchedule.getR r = s.getR r := by
  have hne : r.addr ≠ Rg.RC_STAT.addr := by
    show r.addr ≠ 0x4000F014
    omega
  unfold State.dropSchedule
  split
  · exact (getR_onF_ne _ hne).trans (getR_offF_ne _ hne)
  · rfl

/-- What a chip reset has done when the registers take their reset values. -/
def State.beforeReset (s : State) : State := (State.each State.portLost [0, 1] s.calInterrupt.bumpAll).endTallyRun.dropSchedule

/-- The cause of the last reset is not among what it writes. -/
theorem getR_beforeReset_ne {r : Rg} (h : r.addr < 0x40000100) : s.beforeReset.getR r = s.getR r := by
  rw [State.beforeReset, getR_dropSchedule_ne _ h, getR_endTallyRun_ne _ h,
    each_frame (fun s => s.getR r) fun i s => getR_portLost_ne s h i]
  exact (getR_bumpAll_ne _ h).trans (getR_of_regs (calInterrupt_regs s) r)

theorem beforeReset_pwr : s.beforeReset.pwr = s.pwr := by
  have hrun (u : State) : u.endTallyRun.pwr = u.pwr := by unfold State.endTallyRun; split <;> rfl
  have hdrop (u : State) : u.dropSchedule.pwr = u.pwr := by unfold State.dropSchedule; split <;> rfl
  rw [State.beforeReset, hdrop, hrun, each_frame State.pwr fun i s => portLost_pwr s i, bumpAll_pwr, calInterrupt_pwr]

/-- A chip reset, but for the fallback bits, which follow their monitors. -/
theorem chipReset_cases {s : State} (hp : s.phase = .running) (hf : s.pwr.failing = false) :
    ∃ t : State, s.chipReset = t.showFallback ∧ t.regs = s.beforeReset.regs.map (resetOne (keepMaskChip s.pwr.bySigbox)) ∧
      t.phase = .chipReset ∧ t.rst.due = [] ∧ t.pwr = { s.beforeReset.pwr with otpLoaded := false, memInit := false } :=
  ⟨_, if_neg (by simp [hp, hf]), rfl, rfl, rfl, rfl⟩

/-- Every cause of a reset that is shown when it begins is shown after it (R77). -/
theorem isF_chipReset_rstCause {s : State} (hp : s.phase = .running) (hf : s.pwr.failing = false) {f : Fd} (hr : f.reg = Rg.RST_CAUSE)
    (hw : f.width = 1) (hl : f.lo < 6) : s.chipReset.isF f = s.isF f := by
  obtain ⟨t, ht, hregs, -, -, -⟩ := chipReset_cases hp hf
  have hkeep : ∀ b, ∀ i < 6, (keepMaskChip b Rg.RST_CAUSE.addr).getLsbD i = true := by decide
  have hne : Rg.RST_CAUSE.addr ≠ Rg.TL_STAT.addr ∧ Rg.RST_CAUSE.addr ≠ Rg.SB_STAT.addr := by decide
  rw [ht, isF_eq_getLsbD _ hw, isF_eq_getLsbD _ hw, hr, State.showFallback, getR_setF_ne _ hne.1, getR_setF_ne _ hne.2,
    getLsbD_getR_reset hregs (hkeep _ _ hl), getR_beforeReset_ne s (by decide)]

theorem chipReset_phase {s : State} (hp : s.phase = .running) (hf : s.pwr.failing = false) : s.chipReset.phase = .chipReset := by
  obtain ⟨t, ht, -, hphase, -, -⟩ := chipReset_cases hp hf
  rw [ht]
  exact hphase

theorem chipReset_due {s : State} (hp : s.phase = .running) (hf : s.pwr.failing = false) : s.chipReset.rst.due = [] := by
  obtain ⟨t, ht, -, -, hdue, -⟩ := chipReset_cases hp hf
  rw [ht]
  exact hdue

theorem chipReset_pwr {s : State} (hp : s.phase = .running) (hf : s.pwr.failing = false) :
    s.chipReset.pwr = { s.pwr with otpLoaded := false, memInit := false } := by
  obtain ⟨t, ht, -, -, -, hpwr⟩ := chipReset_cases hp hf
  rw [ht, ← beforeReset_pwr s]
  exact hpwr

/-! ### Clock monitors (R61, R484, R500) -/

/-- The monitor of the crystal, of a core clock or of the always-on oscillator shows its fault and sets its source. -/
theorem ok_onF_raise {s : State} (hd : s.Settled) {k : Nat} (hk : k < 128) (hq : s.Quiet k) {f : Fd} (h : f.reg = Rg.CLK_STAT) :
    ok ((s.onF f).raise k) = .next ((s.onF f).sticky k) := by
  have hne : (Rg.SB_CFG k).addr ≠ f.reg.addr := by
    rw [h]
    show 0x40010100 + 0x4 * k ≠ 0x40000010
    omega
  have hq' : (s.onF f).Quiet k := quiet_setF hne 1 hq
  rw [raise_of_quiet hk hq']
  exact ok_of_due hd

theorem exec_clockMonitorFault_of_source {s : State} (hp : s.phase ≠ .unpowered) (hd : s.Settled) (hq : ∀ k ∈ [116, 117, 118], s.Quiet k) :
    ∀ p ∈ [(MonClock.xin, Fd.CLK_STAT_XIN, 116), (.cclk, Fd.CLK_STAT_PLL_CORE, 117), (.rclk, Fd.CLK_STAT_PLL_SYS, 117),
      (.aonOsc, Fd.CLK_STAT_AON_OSC, 118)], exec (.clockMonitorFault p.1) s = .next ((s.onF p.2.1).sticky p.2.2) := by
  intro p hmem
  show execClockMonitorFault p.1 s = _
  unfold execClockMonitorFault
  rw [if_neg hp]
  simp only [List.mem_cons, List.not_mem_nil, or_false] at hmem
  rcases hmem with rfl | rfl | rfl | rfl
  · exact ok_onF_raise hd (by decide) (hq 116 (by decide)) rfl
  · exact ok_onF_raise hd (by decide) (hq 117 (by decide)) rfl
  · exact ok_onF_raise hd (by decide) (hq 117 (by decide)) rfl
  · exact ok_onF_raise hd (by decide) (hq 118 (by decide)) rfl

theorem quiet_showFallback {s : State} {k : Nat} (hk : k < 128) (hq : s.Quiet k) : s.showFallback.Quiet k :=
  quiet_setF (by show 0x40010100 + 0x4 * k ≠ 0x40020004; omega) _
    (quiet_setF (by show 0x40010100 + 0x4 * k ≠ 0x40010000; omega) _ hq)

theorem isF_showFallback_sb : s.showFallback.isF Fd.SB_STAT_CLK_FALLBACK = s.pwr.sysFault := by
  rw [State.showFallback, isF_setF_reg _ (by decide), isF_setF_same _ (by decide)]
  cases s.pwr.sysFault <;> rfl

theorem isF_showFallback_tl : s.showFallback.isF Fd.TL_STAT_CLK_FALLBACK = s.pwr.tallyFault := by
  rw [State.showFallback, isF_setF_same _ (by decide)]
  show (b2n s.pwr.tallyFault % 2 ^ 1 != 0) = _
  cases s.pwr.tallyFault <;> rfl

/-- A fault of a monitor that holds a fallback: the fallback bits follow the monitors, `CLK_STAT` and the source are set. -/
def State.fallbackFault (s : State) (f : PowerH → PowerH) (g : Fd) (k : Nat) : State := ((s.modPwr f).showFallback.onF g).sticky k

theorem exec_clockMonitorFault_sysclk {s : State} (hp : s.phase ≠ .unpowered) (hd : s.Settled) (hq : s.Quiet 117) :
    exec (.clockMonitorFault .sysclk) s = .next (s.fallbackFault (fun p => { p with sysFault := true }) Fd.CLK_STAT_PLL_SYS 117) := by
  show execClockMonitorFault .sysclk s = _
  rw [execClockMonitorFault, if_neg hp]
  exact ok_onF_raise (s := (s.modPwr _).showFallback) hd (by decide) (quiet_showFallback (by decide) (quiet_modPwr _ hq)) rfl

theorem exec_clockMonitorFault_tallyOsc {s : State} (hp : s.phase ≠ .unpowered) (hd : s.Settled) (hq : s.Quiet 118) :
    exec (.clockMonitorFault .tallyOsc) s =
      .next (s.fallbackFault (fun p => { p with tallyFault := true }) Fd.CLK_STAT_TALLY_OSC 118) := by
  show execClockMonitorFault .tallyOsc s = _
  rw [execClockMonitorFault, if_neg hp]
  exact ok_onF_raise (s := (s.modPwr _).showFallback) hd (by decide) (quiet_showFallback (by decide) (quiet_modPwr _ hq)) rfl

/-- The shown fault, beside the source. -/
theorem isF_fallbackFault_shown (f : PowerH → PowerH) {g : Fd} (h : g.lo + g.width ≤ 32) (hw : 0 < g.width) {k : Nat}
    (hk : g.reg.addr ≠ 0x40010040 + 0x4 * (k / 32)) : (s.fallbackFault f g k).isF g = true := by
  rw [State.fallbackFault, isF_sticky_ne _ hk, isF_onF_same _ _ h hw]

/-- The fallback bits are those of the monitors. -/
theorem isF_fallbackFault_other (f : PowerH → PowerH) {g h : Fd} (hne : h.reg.addr ≠ g.reg.addr) {k : Nat}
    (hk : h.reg.addr ≠ 0x40010040 + 0x4 * (k / 32)) : (s.fallbackFault f g k).isF h = (s.modPwr f).showFallback.isF h := by
  rw [State.fallbackFault, isF_sticky_ne _ hk, State.onF, isF_setF_reg _ hne]

theorem exec_clockMonitorClears_sysclk {s : State} (hp : s.phase ≠ .unpowered) (hd : s.Settled) :
    exec (.clockMonitorClears .sysclk) s = .next (s.modPwr fun p => { p with sysFault := false }).showFallback := by
  show execClockMonitorClears .sysclk s = _
  rw [execClockMonitorClears, if_neg hp]
  exact ok_of_due hd

theorem exec_clockMonitorClears_tallyOsc {s : State} (hp : s.phase ≠ .unpowered) (hd : s.Settled) :
    exec (.clockMonitorClears .tallyOsc) s = .next (s.modPwr fun p => { p with tallyFault := false }).showFallback := by
  show execClockMonitorClears .tallyOsc s = _
  rw [execClockMonitorClears, if_neg hp]
  exact ok_of_due hd

end Power

/-! ### The obligation -/

/-- Settles O33: each command answers one named update of the state (an intake put, the sequence that has begun, the reset,
the pad supply, the fallback bits), with the sticky bit of its source where it raises one. -/
theorem powerAndClocks : Obligations.PowerAndClocks := by
  unfold Obligations.PowerAndClocks
  refine ⟨fun s i hp hd => ⟨?comes, ?another, ?last, ?holdUp, ?vioLost, ?vioBack, ?nrst, ?rail⟩,
    fun s hp hd hq => ⟨?monitors, ?sysFault, ?tallyFault, ?sysClears, ?tallyClears⟩⟩
  case comes =>
    rw [exec_intakeValid hp hd]
    simp [State.modPwr, PowerH.comes]
  case another => exact exec_intakeInvalid_another hp hd
  case last =>
    intro hf ha hv hq hn l hl
    obtain ⟨u, hphase, hsram, hexec⟩ := exec_powerFailStart_effect hp hd hf ha hv hq hn hl
    refine ⟨_, hexec, ?_, bitF_sticky _ 121, fun n => ?_, ?_, ?_⟩
    · show u.failed.pwr.failing = true
      rw [failed_pwr]
      rfl
    · show (u.failed.ch n).regSlot = none ∧ (u.failed.ch n).injSlot = none
      rw [ch_failed]
      exact ⟨rfl, rfl⟩
    · rw [sticky_phase, failed_phase, hphase]
    · rw [sticky_sram, failed_sram, hsram]
  case holdUp =>
    intro hf h5
    exact ⟨fun hr => ⟨_, exec_holdUpEnd hf h5 hr, rfl, rfl, rfl, rfl⟩,
      fun hr => ⟨_, exec_intakeReturnReset hf h5 hr, rfl, rfl, rfl, rfl, rfl, rfl, rfl⟩⟩
  case vioLost => exact fun f hrun hv hb hs hq => exec_vioInLost hd hrun hv hb hs hq f
  case vioBack => exact exec_vioInRestored_quiet hd
  case nrst =>
    intro hrun hv hl hr hf hm
    have hrun' : ((s.modPwr fun p => { p with vioOk := true }).onF Fd.RST_CAUSE_NRST).phase = .running := hrun
    have hf' : ((s.modPwr fun p => { p with vioOk := true }).onF Fd.RST_CAUSE_NRST).pwr.failing = false := hf
    refine ⟨_, (exec_vioInRestored_nrst hv hl hr hf hm).trans (ok_of_due (chipReset_due hrun' hf')), chipReset_phase hrun' hf', ?_, ?_⟩
    · rw [isF_chipReset_rstCause hrun' hf' rfl rfl (by decide), isF_onF_same _ _ (by decide) (by decide)]
    · rw [chipReset_pwr hrun' hf']
      rfl
  case rail => exact exec_railFault hp hd
  case monitors => exact exec_clockMonitorFault_of_source hp hd hq
  case sysFault =>
    refine ⟨_, exec_clockMonitorFault_sysclk hp hd (hq 117 (by decide)), isF_fallbackFault_shown s _ (by decide) (by decide) (by decide),
      ?_, bitF_sticky _ 117⟩
    rw [isF_fallbackFault_other s _ (by decide) (by decide), isF_showFallback_sb]
    rfl
  case tallyFault =>
    refine ⟨_, exec_clockMonitorFault_tallyOsc hp hd (hq 118 (by decide)), isF_fallbackFault_shown s _ (by decide) (by decide) (by decide),
      ?_, bitF_sticky _ 118⟩
    rw [isF_fallbackFault_other s _ (by decide) (by decide), isF_showFallback_tl]
    rfl
  case sysClears => exact ⟨_, exec_clockMonitorClears_sysclk hp hd, isF_showFallback_sb _, rfl⟩
  case tallyClears => exact ⟨_, exec_clockMonitorClears_tallyOsc hp hd, isF_showFallback_tl _, rfl⟩

end Sys2Proof.Machine
end

section
/-! PROOF. The debug transport (O58): which commands come through, memory, halting and stepping, the registers of a halted
triad. -/

namespace Sys2Proof.Machine

section Debug
variable (s : State)

/-! ### Which commands come through (R38, R547, R548) -/

/-- DEBUG stands in the instruction register. -/
def State.inDebug (s : State) : State := { s with dbg := { s.dbg with ir := 0x10 } }

theorem dbgCmd_of_padsOff {s : State} (h : s.padsOff = true) (f : State → State) : s.dbgCmd f = s := if_pos h

/-- With the debug lock fuse set DEBUG selects BYPASS. -/
theorem dbgCmd_of_dbgLock {s : State} (hp : s.padsOff = false) (hl : s.otp.dbgLock = true) (f : State → State) :
    s.dbgCmd f = s.inDebug := by
  have htap : s.inDebug.tapReg = .bypass := if_pos hl
  have hbypass : s.inDebug.tapReg ≠ .debug ∨ s.inDebug.dbg.stalled.isSome = true := .inl (by rw [htap]; decide)
  unfold State.dbgCmd
  rw [if_neg (by simp [hp])]
  exact if_pos hbypass

/-- The pads of the port are read, the debug lock fuse is clear, and no access waits: a command acts. -/
structure State.DebugOpen (s : State) : Prop where
  pads : s.padsOff = false
  fuse : s.otp.dbgLock = false
  free : s.dbg.stalled = none
  settled : s.Settled

theorem dbgCmd_of_open {s : State} (h : s.DebugOpen) (f : State → State) : s.dbgCmd f = f s.inDebug := by
  have htap : s.inDebug.tapReg = .debug := if_neg (by simp [State.inDebug, h.fuse])
  have hstalled : s.inDebug.dbg.stalled = none := h.free
  have hopen : ¬ (s.inDebug.tapReg ≠ .debug ∨ s.inDebug.dbg.stalled.isSome = true) := by
    simp [htap, hstalled]
  unfold State.dbgCmd
  rw [if_neg (by simp [h.pads])]
  exact if_neg hopen

/-- Every command of the transport passes the port. -/
theorem exists_dbgCmd {t : Triad} {a v : Word} {c : Instr} (h : c ∈ [Instr.debugNop, .debugRead a, .debugWrite a v, .debugAttach t,
    .debugDetach t, .debugHalt t, .debugResume t, .debugStep t]) : ∃ f, ∀ s, exec c s = ok (s.dbgCmd f) := by
  simp only [List.mem_cons, List.not_mem_nil, or_false] at h
  rcases h with rfl | rfl | rfl | rfl | rfl | rfl | rfl | rfl <;> exact ⟨_, fun _ => rfl⟩

/-- A command that comes through answers what it makes of the state with DEBUG selected. -/
theorem ok_dbgCmd {s u : State} (h : s.DebugOpen) {f : State → State} (hf : f s.inDebug = u) (hu : u.rst = s.rst) :
    ok (s.dbgCmd f) = .next u := by
  rw [dbgCmd_of_open h, hf]
  exact ok_of_due ((congrArg ResetH.due hu).trans h.settled)

/-- The answer of a command that has left DEBUG selected. -/
theorem dbgResult_dbg {s : State} (h : s.dbg.ir = 0x10) (st d : Nat) (w : Word) :
    (s.dbgResult st d w).dbg = { ir := 0x10, status := st, detail := d, data := w, stalled := none } := by
  show ({ ir := s.dbg.ir, status := st, detail := d, data := w, stalled := none } : DebugH) = _
  rw [h]

@[simp] theorem dbgResult_rst (st d : Nat) (w : Word) : (s.dbgResult st d w).rst = s.rst := rfl
@[simp] theorem dbgResult_isF (st d : Nat) (w : Word) (f : Fd) : (s.dbgResult st d w).isF f = s.isF f := rfl
@[simp] theorem dbgResult_tri (st d : Nat) (w : Word) (t : Triad) : (s.dbgResult st d w).tri t = s.tri t := rfl

/-! ### Memory (R549) -/

theorem blkOf_of_sram {a : Nat} (h : a < 0x0100_0000) : blkOf a = none := by
  unfold blkOf
  split
  case h_16 => exact if_neg (by omega)
  all_goals omega

theorem mapped_of_sram {a n : Nat} (h : a + n ≤ 0x0100_0000) (hn : 0 < n) : mapped a n = true := by
  have h0 : inSram a = true := decide_eq_true (show a < 0x0100_0000 by omega)
  have h1 : inSram (a + n - 1) = true := decide_eq_true (show a + n - 1 < 0x0100_0000 by omega)
  simp [mapped, h0, h1]

/-- An aligned word of SRAM that is ready is accessed at once. -/
theorem dbgAccess_of_ready {s : State} {a : Nat} (hp : s.phase = .running) (ha : a % 4 = 0) (hr : s.SramReady a 4) (w : Bool) (v : Word) :
    s.dbgAccess w a v = s.dbgPerform w a v := by
  have hin : a < 0x0100_0000 := by
    have := hr.inside
    omega
  have hflash : inFlash a = false := by
    rw [inFlash, decide_eq_false (show ¬ 0x1000_0000 ≤ a by omega), Bool.false_and]
  have hblocked : s.dbgBlocked a = false := by
    simp [State.dbgBlocked, hp, State.targetReset, blkOf_of_sram hin, hr.noHeal]
  unfold State.dbgAccess
  rw [if_neg (by omega), mapped_of_sram hr.inside (by decide), hflash, hblocked]
  simp

theorem dbgRead_of_ready {s : State} {a : Nat} (hr : s.SramReady a 4) (hq : s.Quiet 21) :
    s.dbgRead a = (if s.anyMark isUnwritten a 4 then s.sticky 21 else s).dbgResult dOk 0 (.ofNat (s.sramRead a 4)) := by
  have hin : inSram a = true := decide_eq_true (show a < 0x0100_0000 by have := hr.inside; omega)
  have hval : Word.ofNat (leNat (leBytes (s.sramRead a 4) 4)) = Word.ofNat (s.sramRead a 4) := by
    rw [leNat_leBytes]
    exact BitVec.eq_of_toNat_eq (by simp [Word.ofNat])
  simp only [State.dbgRead, State.fabRead, hin, if_true, sramLoad_of_ready hr, raise_of_quiet (by decide) hq, hval]

theorem dbgWrite_of_ready {s : State} {a : Nat} (hr : s.SramReady a 4) (v : Word) :
    s.dbgWrite a v = ({ s with sramErr := s.sramErr.filter fun p => !(wordsOf a 4).contains p.1 }.sramStore a
      (leBytes v.toNat 4)).dbgResult dOk 0 0 := by
  have hin : inSram a = true := decide_eq_true (show a < 0x0100_0000 by have := hr.inside; omega)
  have hw := sramWrite_of_ready (s := s) (a := a) (bs := leBytes v.toNat 4) hr
  simp only [State.dbgWrite, State.fabWrite, hin, if_true, hw]
  rfl

theorem dbgAccess_unaligned {a : Nat} (ha : a % 4 ≠ 0) (w : Bool) (v : Word) : s.dbgAccess w a v = s.dbgResult dFault 0x300 0 := if_pos ha

theorem dbgAccess_unmapped {a : Nat} (ha : a % 4 = 0) (hm : mapped a 4 = false) (w : Bool) (v : Word) :
    s.dbgAccess w a v = s.dbgResult dFault 0x401 0 := by
  unfold State.dbgAccess
  rw [if_neg (by omega), if_pos (by simp [hm])]

/-- The word of SRAM that has been stored. -/
theorem sramRead_sramStore {s : State} (hs : Memory.wf sramDefault s.sram = true) (a v n : Nat) :
    (s.sramStore a (leBytes v n)).sramRead a n = v % 256 ^ n := by
  have h := leRead_of_bytes (rd := (s.sramStore a (leBytes v n)).sramByte) (a := a) (bs := leBytes v n)
    fun i hi => sramByte_sramStore_in s hs a _ i hi
  rwa [leBytes_length, leNat_leBytes] at h

/-! ### Halting and stepping (R190, R191) -/

/-- `TR_STAT` and `TR_DBG` of a triad are all that attaching, detaching and halting write of the registers. -/
theorem dbgResume_regs (t : Triad) :
    (s.dbgResume t).regs = ((s.offF (Fd.TR_DBG_LOG_LEVEL t.idx)).offF (Fd.TR_STAT_HALTED t.idx)).regs := rfl

theorem dbgResume_rst (t : Triad) : (s.dbgResume t).rst = s.rst := rfl
theorem dbgResume_dbg (t : Triad) : (s.dbgResume t).dbg = s.dbg := rfl

theorem drainLog_tri (t : Triad) : (s.drainLog t).tri t = { s.tri t with log := [] } := by
  show (s.modTri t fun x => { x with log := [] }).tri t = _
  exact tri_modTri_same s t _

theorem drainLog_tri_ne {t x : Triad} (h : x ≠ t) : (s.drainLog t).tri x = s.tri x := by
  show (s.modTri t fun x => { x with log := [] }).tri x = _
  exact tri_modTri_ne s h _

theorem dbgResume_tri (t : Triad) : (s.dbgResume t).tri t = { s.tri t with log := [], haltPend := false } := by
  have hlog : (s.dbgResume t).tri t = { (s.drainLog t).tri t with haltPend := false } := tri_modTri_same _ t _
  rw [hlog, drainLog_tri]

theorem dbgResume_tri_ne {t x : Triad} (h : x ≠ t) : (s.dbgResume t).tri x = s.tri x := by
  have hlog : (s.dbgResume t).tri x = (s.drainLog t).tri x := tri_modTri_ne _ h _
  rw [hlog, drainLog_tri_ne s h]

theorem isF_dbgResume_halted (t : Triad) : (s.dbgResume t).isF (Fd.TR_STAT_HALTED t.idx) = false := by
  rw [isF_of_regs (dbgResume_regs s t)]
  exact isF_offF_same _ _ (show 7 + 1 ≤ 32 by decide)

theorem detach_rst (t : Triad) : (s.detach t).rst = s.rst := by rw [State.detach, offF_rst, dbgResume_rst]
theorem detach_dbg (t : Triad) : (s.detach t).dbg = s.dbg := by rw [State.detach, offF_dbg, dbgResume_dbg]

theorem isF_detach_attached (t : Triad) : (s.detach t).isF (Fd.TR_DBG_ATTACHED t.idx) = false :=
  isF_offF_same _ _ (show 16 + 1 ≤ 32 by decide)

theorem isF_detach_halted (t : Triad) : (s.detach t).isF (Fd.TR_STAT_HALTED t.idx) = false := by
  rw [State.detach, State.offF, isF_setF_reg _ (by cases t <;> decide), isF_dbgResume_halted]

theorem getR_detach_ne {t : Triad} {r : Rg} (hs : r.addr ≠ (Rg.TR_STAT t.idx).addr) (hd : r.addr ≠ (Rg.TR_DBG t.idx).addr) :
    (s.detach t).getR r = s.getR r := by
  rw [State.detach, getR_offF_ne _ hd, getR_of_regs (dbgResume_regs s t), getR_offF_ne _ hs, getR_offF_ne _ hd]

/-- The flags of one triad stay where the other one is detached. -/
theorem isF_detach_ne {t : Triad} {f : Fd} (hs : f.reg.addr ≠ (Rg.TR_STAT t.idx).addr) (hd : f.reg.addr ≠ (Rg.TR_DBG t.idx).addr) :
    (s.detach t).isF f = s.isF f := by
  rw [State.isF, State.getF, getR_detach_ne s hs hd, State.isF, State.getF]

theorem detach_tri (t : Triad) : (s.detach t).tri t = { s.tri t with log := [], haltPend := false } := dbgResume_tri s t
theorem detach_tri_ne {t x : Triad} (h : x ≠ t) : (s.detach t).tri x = s.tri x := dbgResume_tri_ne s h

/-- TAP_RESET leaves both triads detached, running and with an empty log. -/
theorem detached_both (x : Triad) : ((s.detach .a).detach .b).isF (Fd.TR_DBG_ATTACHED x.idx) = false ∧
    ((s.detach .a).detach .b).isF (Fd.TR_STAT_HALTED x.idx) = false ∧ (((s.detach .a).detach .b).tri x).log = [] ∧
    (((s.detach .a).detach .b).tri x).haltPend = false := by
  cases x with
  | a =>
    rw [isF_detach_ne _ (by decide) (by decide), isF_detach_attached, isF_detach_ne _ (by decide) (by decide), isF_detach_halted,
      detach_tri_ne _ (by decide), detach_tri]
    exact ⟨rfl, rfl, rfl, rfl⟩
  | b =>
    rw [isF_detach_attached, isF_detach_halted, detach_tri]
    exact ⟨rfl, rfl, rfl, rfl⟩

theorem exec_tapReset {s : State} (hp : s.phase = .running) (hd : s.Settled) :
    exec .tapReset s = .next { (s.detach .a).detach .b with dbg := { s.dbg with ir := 2 } } := by
  show execTapReset s = _
  rw [execTapReset, if_neg (by simp [hp])]
  exact ok_of_due hd

theorem haltRequest_of_normal {s : State} {t : Triad} (h : (s.tri t).phase = .normal) : s.haltRequest t = s.debugHalt t := by
  rw [State.haltRequest, h]

/-- A halt waits for the release of a resynchronisation. -/
theorem haltRequest_of_busy {s : State} {t : Triad} (h : (s.tri t).phase ≠ .normal) :
    s.haltRequest t = s.modTri t fun x => { x with haltPend := true } := by
  unfold State.haltRequest
  split
  · exact absurd ‹_› h
  · rfl

/-- Whether a halt takes hold or waits, it changes the registers and the triads only. -/
theorem haltRequest_frame {β : Type} (p : State → β) (t : Triad) (hm : ∀ f s, p (s.modTri t f) = p s)
    (ho : p (s.onF (Fd.TR_STAT_HALTED t.idx)) = p s) : p (s.haltRequest t) = p s := by
  by_cases h : (s.tri t).phase = .normal
  · rw [haltRequest_of_normal h, State.debugHalt, hm, ho]
  · rw [haltRequest_of_busy h, hm]

theorem haltRequest_rst (t : Triad) : (s.haltRequest t).rst = s.rst := haltRequest_frame s State.rst t (fun _ _ => rfl) rfl
theorem haltRequest_dbg (t : Triad) : (s.haltRequest t).dbg = s.dbg := haltRequest_frame s State.dbg t (fun _ _ => rfl) rfl
theorem haltRequest_machs (t : Triad) : (s.haltRequest t).machs = s.machs := haltRequest_frame s State.machs t (fun _ _ => rfl) rfl

theorem isF_haltRequest {s : State} {t : Triad} (h : (s.tri t).phase = .normal) :
    (s.haltRequest t).isF (Fd.TR_STAT_HALTED t.idx) = true := by
  rw [haltRequest_of_normal h]
  exact isF_onF_same s _ (show 7 + 1 ≤ 32 by decide) Nat.one_pos

theorem haltPend_haltRequest {s : State} {t : Triad} (h : (s.tri t).phase ≠ .normal) : ((s.haltRequest t).tri t).haltPend = true := by
  rw [haltRequest_of_busy h, tri_modTri_same]

/-- A step is set at each machine of the list, and stays where it is set. -/
theorem step_each_modMach (l : List Mach) (s : State) (m : Mach) :
    ((State.each (fun m s => s.modMach m fun x => { x with step := true }) l s).mach m).step = (l.contains m || (s.mach m).step) := by
  induction l generalizing s with
  | nil => rfl
  | cons k r ih =>
    rw [State.each, ih]
    by_cases h : m = k
    · subst h
      simp
    · simp [mach_modMach_ne s h, h]

theorem contains_machsOf (t : Triad) (i : Nat) (h : i = 0 ∨ s.split t = true ∧ i = 1) : (s.machsOf t).contains (t.mach i) = true := by
  unfold State.machsOf
  rcases h with rfl | ⟨hs, rfl⟩
  · split <;> simp
  · simp [hs]

theorem dbgStep_frame {β : Type} (p : State → β) (hm : ∀ m s, p (s.modMach m fun x => { x with step := true }) = p s) (t : Triad) :
    p (s.dbgStep t) = p ((s.logStep t).drainLog t) := by
  rw [State.dbgStep, each_frame p hm]

theorem logStep_frame (t : Triad) {β : Type} (p : State → β) (hm : ∀ f s, p (s.modTri t f) = p s) : p (s.logStep t) = p s := by
  unfold State.logStep
  split
  · rfl
  · exact hm _ _

theorem dbgStep_rst (t : Triad) : (s.dbgStep t).rst = s.rst :=
  (dbgStep_frame s State.rst (fun _ _ => rfl) t).trans (logStep_frame s t State.rst fun _ _ => rfl)

theorem dbgStep_dbg (t : Triad) : (s.dbgStep t).dbg = s.dbg :=
  (dbgStep_frame s State.dbg (fun _ _ => rfl) t).trans (logStep_frame s t State.dbg fun _ _ => rfl)

theorem isF_dbgStep_halted (t : Triad) : (s.dbgStep t).isF (Fd.TR_STAT_HALTED t.idx) = s.isF (Fd.TR_STAT_HALTED t.idx) := by
  have hne : (Fd.TR_STAT_HALTED t.idx).reg.addr ≠ (Fd.TR_DBG_LOG_LEVEL t.idx).reg.addr := by cases t <;> decide
  rw [isF_of_regs (dbgStep_frame s State.regs (fun _ _ => rfl) t), State.drainLog, State.offF, isF_setF_reg _ hne]
  exact isF_of_regs (logStep_frame s t State.regs fun _ _ => rfl) _

theorem dbgStep_log (t : Triad) : ((s.dbgStep t).tri t).log = [] := by
  rw [dbgStep_frame s (fun u => u.tri t) (fun _ _ => rfl) t, drainLog_tri]

theorem dbgStep_step (t : Triad) {i : Nat} (h : i = 0 ∨ s.split t = true ∧ i = 1) : ((s.dbgStep t).mach (t.mach i)).step = true := by
  rw [State.dbgStep, step_each_modMach, contains_machsOf s t i h, Bool.true_or]

/-! ### Registers of a halted triad (R191, R192, R548) -/

theorem dbgMach_eq (t : Triad) (x : Bool) : s.dbgMach t x = t.mach (if s.split t = true ∧ x = true then 1 else 0) := by
  simp [State.dbgMach]

theorem ofNat_of_toNat_eq {c : BitVec 8} {g : BitVec 5} (h : c.toNat = g.toNat) : BitVec.ofNat 5 c.toNat = g := by
  rw [h, BitVec.ofNat_toNat, BitVec.setWidth_eq]

theorem dbgRegRead_general {c : BitVec 8} {g : BitVec 5} (h : c.toNat = g.toNat) (m : Mach) : s.dbgRegRead m c.toNat = some (s.rg m g) := by
  have hlt : c.toNat < 32 := h ▸ g.isLt
  unfold State.dbgRegRead
  rw [dif_pos hlt]
  exact congrArg (fun r => some (s.rg m r)) (BitVec.eq_of_toNat_eq h)

theorem dbgRegWrite_pc (m : Mach) (v : Word) : s.dbgRegWrite m 64 v = s.setPc m (v &&& 0xFFFF_FFFC) := by
  simp [State.dbgRegWrite]

theorem dbgRegRead_pc (m : Mach) : s.dbgRegRead m 64 = some (s.mach m).pc := rfl

theorem dbgRegWrite_general {c : BitVec 8} {g : BitVec 5} (h : c.toNat = g.toNat) (m : Mach) (v : Word) :
    s.dbgRegWrite m c.toNat v = s.wg m g v := by
  have hlt : c.toNat < 32 := h ▸ g.isLt
  unfold State.dbgRegWrite
  rw [if_pos hlt, ofNat_of_toNat_eq h]

/-- A register command changes the machines only. -/
theorem dbgRegWrite_frame {β : Type} (p : State → β) (hm : ∀ m f s, p (s.modMach m f) = p s) (m : Mach) (c : Nat) (v : Word) :
    p (s.dbgRegWrite m c v) = p s := by
  unfold State.dbgRegWrite
  dsimp only
  split
  · unfold State.wg
    split
    · rfl
    · exact hm _ _ _
  · split
    · split
      · rfl
      · exact hm _ _ _
    · split
      · exact hm _ _ _
      · rfl

/-- A register write takes effect, and goes into the replay log of an unsplit triad that has room for it. -/
theorem dbgRegLog_cases (t : Triad) (x : Bool) (c : Nat) (v : Word) (h : s.split t = true ∨ (s.tri t).log.length < 256) :
    ∃ u : State, s.dbgRegLog t x c v = u.dbgResult dOk 0 0 ∧ u.machs = (s.dbgRegWrite (s.dbgMach t x) c v).machs ∧ u.rst = s.rst ∧ u.dbg = s.dbg ∧
      (u.tri t).log = if s.split t = true then (s.tri t).log else (s.tri t).log ++ [(c, v)] := by
  have hrst := dbgRegWrite_frame s State.rst (fun _ _ _ => rfl) (s.dbgMach t x) c v
  have hdbg := dbgRegWrite_frame s State.dbg (fun _ _ _ => rfl) (s.dbgMach t x) c v
  have htri := dbgRegWrite_frame s (fun u => u.tri t) (fun _ _ _ => rfl) (s.dbgMach t x) c v
  unfold State.dbgRegLog
  by_cases hs : s.split t = true
  · exact ⟨_, if_pos hs, rfl, hrst, hdbg, by rw [htri, if_pos hs]⟩
  · have hroom : ¬ 256 ≤ (s.tri t).log.length := by
      have := h.resolve_left hs
      omega
    refine ⟨_, (if_neg hs).trans (if_neg hroom), rfl, hrst, hdbg, ?_⟩
    show (((s.dbgRegWrite (s.dbgMach t x) c v).modTri t fun x => { x with log := x.log ++ [(c, v)] }).tri t).log = _
    rw [tri_modTri_same, htri, if_neg hs]

theorem dbgRegLog_full {t : Triad} (hs : s.split t = false) (hl : 256 ≤ (s.tri t).log.length) (x : Bool) (c : Nat) (v : Word) :
    s.dbgRegLog t x c v = (s.onF (Fd.TR_DBG_LOG_FULL t.idx)).dbgResult dLogFull 0 0 := by
  unfold State.dbgRegLog
  exact (if_neg (by simp [hs])).trans (if_pos hl)

theorem rg_of_machs {s t : State} (h : t.machs = s.machs) (m : Mach) (r : BitVec 5) : t.rg m r = s.rg m r := by
  rw [State.rg, State.rg, mach_of_machs h]

/-! ### The commands -/

variable {s}

/-- A word of SRAM that is ready is read, whether it is written or not. -/
theorem exec_debugRead_of_ready (h : s.DebugOpen) (hrun : s.phase = .running) {a : Word} (ha : a.toNat % 4 = 0)
    (hr : s.SramReady a.toNat 4) (hq : s.Quiet 21) : exec (.debugRead a) s = .next
      ((if s.inDebug.anyMark isUnwritten a.toNat 4 then s.inDebug.sticky 21 else s.inDebug).dbgResult dOk 0 (.ofNat (s.sramRead a.toNat 4))) := by
  have hr' : s.inDebug.SramReady a.toNat 4 := ⟨hr.inside, hr.noHeal, hr.noError, hr.noPoison⟩
  refine ok_dbgCmd h ((dbgAccess_of_ready (s := s.inDebug) hrun ha hr' false 0).trans (dbgRead_of_ready hr' hq)) ?_
  split <;> rfl

theorem exec_debugWrite_of_ready (h : s.DebugOpen) (hrun : s.phase = .running) {a : Word} (ha : a.toNat % 4 = 0)
    (hr : s.SramReady a.toNat 4) (v : Word) : exec (.debugWrite a v) s = .next
      (({ s.inDebug with sramErr := s.sramErr.filter fun p => !(wordsOf a.toNat 4).contains p.1 }.sramStore a.toNat
        (leBytes v.toNat 4)).dbgResult dOk 0 0) := by
  have hr' : s.inDebug.SramReady a.toNat 4 := ⟨hr.inside, hr.noHeal, hr.noError, hr.noPoison⟩
  exact ok_dbgCmd h ((dbgAccess_of_ready (s := s.inDebug) hrun ha hr' true v).trans (dbgWrite_of_ready hr' v)) rfl

theorem exec_debugDetach (h : s.DebugOpen) (t : Triad) : exec (.debugDetach t) s = .next ((s.inDebug.detach t).dbgResult dOk 0 0) :=
  ok_dbgCmd h rfl (by rw [dbgResult_rst, detach_rst]; rfl)

theorem exec_debugResume (h : s.DebugOpen) (t : Triad) : exec (.debugResume t) s = .next ((s.inDebug.dbgResume t).dbgResult dOk 0 0) :=
  ok_dbgCmd h rfl (by rw [dbgResult_rst, dbgResume_rst]; rfl)

theorem exec_debugHalt (h : s.DebugOpen) {t : Triad} (ha : s.isF (Fd.TR_DBG_ATTACHED t.idx) = true) :
    exec (.debugHalt t) s = .next ((s.inDebug.haltRequest t).dbgResult dOk 0 0) := by
  have hon : s.inDebug.attached t = true := ha
  exact ok_dbgCmd h (if_pos hon) (haltRequest_rst s.inDebug t)

/-- An attached and halted triad steps. -/
theorem exec_debugStep (h : s.DebugOpen) {t : Triad} (ha : s.isF (Fd.TR_DBG_ATTACHED t.idx) = true)
    (hh : s.isF (Fd.TR_STAT_HALTED t.idx) = true) : exec (.debugStep t) s = .next ((s.inDebug.dbgStep t).dbgResult dOk 0 0) := by
  have hon : (s.inDebug.attached t && s.inDebug.dbgHalted t) = true := Bool.and_eq_true_iff.2 ⟨ha, hh⟩
  exact ok_dbgCmd h (if_pos hon) (dbgStep_rst s.inDebug t)

theorem exec_debugRefused (h : s.DebugOpen) {t : Triad} (ha : s.isF (Fd.TR_DBG_ATTACHED t.idx) = false) {c : Instr}
    (hc : c ∈ [Instr.debugHalt t, .debugStep t]) : exec c s = .next (s.inDebug.dbgResult dRefused 0 0) := by
  have hoff : s.inDebug.attached t = false := ha
  simp only [List.mem_cons, List.not_mem_nil, or_false] at hc
  rcases hc with rfl | rfl <;> exact ok_dbgCmd h (by simp [hoff]) rfl

theorem exec_debugRegRead (h : s.DebugOpen) {t : Triad} (ha : s.isF (Fd.TR_DBG_ATTACHED t.idx) = true)
    (hh : s.isF (Fd.TR_STAT_HALTED t.idx) = true) {x : Bool} {c : BitVec 8} {w : Word}
    (hr : s.dbgRegRead (s.dbgMach t x) c.toNat = some w) : exec (.debugRegRead t x c) s = .next (s.inDebug.dbgResult dOk 0 w) := by
  have hon : (s.inDebug.attached t && s.inDebug.dbgHalted t) = true := Bool.and_eq_true_iff.2 ⟨ha, hh⟩
  have hr' : s.inDebug.dbgRegRead (s.inDebug.dbgMach t x) c.toNat = some w := hr
  exact ok_dbgCmd h (by simp only [hon, hr', if_true]) rfl

theorem exec_debugRegWrite {u : State} (h : s.DebugOpen) {t : Triad} (ha : s.isF (Fd.TR_DBG_ATTACHED t.idx) = true)
    (hh : s.isF (Fd.TR_STAT_HALTED t.idx) = true) {x : Bool} {c : BitVec 8} {v : Word} (hc : c.toNat ≤ 64 ∧ c.toNat ≠ 63)
    (hu : s.inDebug.dbgRegLog t x c.toNat v = u) (hrst : u.rst = s.rst) : exec (.debugRegWrite t x c v) s = .next u := by
  have hon : (s.inDebug.attached t && s.inDebug.dbgHalted t && (c.toNat ≤ 64 && c.toNat != 63)) = true := by
    have ha' : s.inDebug.attached t = true := ha
    have hh' : s.inDebug.dbgHalted t = true := hh
    simp [ha', hh', hc]
  exact ok_dbgCmd h ((if_pos hon).trans hu) hrst

/-- A write of a register, by what it does to the machine that it names, and what stands in the log. -/
theorem exec_debugRegWrite_logged (h : s.DebugOpen) {t : Triad} (ha : s.isF (Fd.TR_DBG_ATTACHED t.idx) = true)
    (hh : s.isF (Fd.TR_STAT_HALTED t.idx) = true) (hroom : s.split t = true ∨ (s.tri t).log.length < 256) (x : Bool) {c : BitVec 8}
    (v : Word) (hc : c.toNat ≤ 64 ∧ c.toNat ≠ 63) : ∃ u : State, exec (.debugRegWrite t x c v) s = .next u ∧
      u.dbg = { ir := 0x10, status := 0, detail := 0, data := 0, stalled := none } ∧
      u.machs = (s.inDebug.dbgRegWrite (s.dbgMach t x) c.toNat v).machs ∧
      (u.tri t).log = if s.split t = true then (s.tri t).log else (s.tri t).log ++ [(c.toNat, v)] := by
  obtain ⟨u, hu, hmachs, hrst, hdbg, hlog⟩ := dbgRegLog_cases s.inDebug t x c.toNat v hroom
  exact ⟨u.dbgResult dOk 0 0, exec_debugRegWrite h ha hh hc hu hrst, dbgResult_dbg (by rw [hdbg]; rfl) 0 0 0, hmachs, hlog⟩

end Debug

/-! ### The obligation -/

/-- Settles O58: a command that comes through acts on the state with DEBUG selected, and what it answers there is one of the
named updates above. -/
theorem debugPort : Obligations.DebugPort := by
  unfold Obligations.DebugPort
  intro s t hrun hd hcanon hs
  refine ⟨⟨_, exec_tapReset hrun hd, rfl, detached_both s⟩, fun a v c hc => ⟨?off, ?locked⟩, fun hp hl => ?_⟩
  case off =>
    intro hoff
    obtain ⟨f, hf⟩ := exists_dbgCmd hc
    rw [hf, dbgCmd_of_padsOff hoff]
    exact ok_of_due hd
  case locked =>
    intro hp hl
    obtain ⟨f, hf⟩ := exists_dbgCmd hc
    rw [hf, dbgCmd_of_dbgLock hp hl]
    exact ok_of_due hd
  have h : s.DebugOpen := ⟨hp, hl, hs, hd⟩
  refine ⟨ok_dbgCmd h rfl rfl, fun a v ha hr => ⟨?read, ?write⟩, fun a v c hc => ⟨?unaligned, ?unmapped⟩, ?attach, ?detach, ?resume,
    ?halt, fun ha c hc => exec_debugRefused h ha hc,
    fun ha hh => ⟨?step, fun x c v => ⟨?readGeneral, ?readPc, fun hroom => ⟨?writeGeneral, ?writePc⟩, ?full⟩⟩⟩
  case read =>
    intro hq
    refine ⟨_, exec_debugRead_of_ready h hrun ha hr hq, dbgResult_dbg ?_ 0 0 _, ?_⟩
    · split <;> rfl
    · rw [State.dbgResult]
      split <;> rfl
  case write =>
    refine ⟨_, exec_debugWrite_of_ready h hrun ha hr v, dbgResult_dbg rfl 0 0 0, ?_,
      fun b hb => sramByte_sramStore_out _ _ _ b (by rwa [leBytes_length])⟩
    exact (sramRead_sramStore (sramWf_of_canon hcanon) a.toNat v.toNat 4).trans (Nat.mod_eq_of_lt v.isLt)
  case unaligned =>
    intro ha
    simp only [List.mem_cons, List.not_mem_nil, or_false] at hc
    rcases hc with rfl | rfl <;> exact ok_dbgCmd h (dbgAccess_unaligned _ ha _ _) rfl
  case unmapped =>
    intro ha hm
    simp only [List.mem_cons, List.not_mem_nil, or_false] at hc
    rcases hc with rfl | rfl <;> exact ok_dbgCmd h (dbgAccess_unmapped _ ha hm _ _) rfl
  case attach =>
    exact ⟨_, ok_dbgCmd h rfl rfl, dbgResult_dbg rfl 0 0 0, isF_onF_same s.inDebug _ (show 16 + 1 ≤ 32 by decide) Nat.one_pos, rfl⟩
  case detach =>
    refine ⟨_, exec_debugDetach h t, dbgResult_dbg (by rw [detach_dbg]; rfl) 0 0 0, ?_, ?_, ?_⟩
    · rw [dbgResult_isF, isF_detach_attached]
    · rw [dbgResult_isF, isF_detach_halted]
    · rw [dbgResult_tri, detach_tri]
  case resume =>
    refine ⟨_, exec_debugResume h t, dbgResult_dbg (by rw [dbgResume_dbg]; rfl) 0 0 0, ?_, ?_⟩
    · rw [dbgResult_isF, isF_dbgResume_halted]
    · rw [dbgResult_tri, dbgResume_tri]
      exact ⟨rfl, rfl⟩
  case halt =>
    exact fun ha => ⟨_, exec_debugHalt h ha, dbgResult_dbg (congrArg DebugH.ir (haltRequest_dbg s.inDebug t)) 0 0 0,
      haltRequest_machs s.inDebug t, isF_haltRequest (s := s.inDebug), haltPend_haltRequest (s := s.inDebug)⟩
  case step =>
    exact ⟨_, exec_debugStep h ha hh, dbgResult_dbg (congrArg DebugH.ir (dbgStep_dbg s.inDebug t)) 0 0 0, dbgStep_log s.inDebug t,
      (isF_dbgStep_halted s.inDebug t).trans hh, dbgStep_step s.inDebug t (.inl rfl),
      fun h2 => dbgStep_step s.inDebug t (.inr ⟨h2, rfl⟩)⟩
  case readGeneral =>
    intro g hg
    rw [← dbgMach_eq]
    exact ⟨_, exec_debugRegRead h ha hh (dbgRegRead_general s hg _), dbgResult_dbg rfl 0 0 _, rfl⟩
  case readPc =>
    rintro rfl
    rw [← dbgMach_eq]
    exact ⟨_, exec_debugRegRead h ha hh (dbgRegRead_pc s _), dbgResult_dbg rfl 0 0 _, rfl⟩
  case writeGeneral =>
    intro g hg
    have hlt := g.isLt
    obtain ⟨u, hu, hdbg, hmachs, hlog⟩ := exec_debugRegWrite_logged h ha hh hroom x v (c := c) (by omega)
    rw [dbgRegWrite_general _ hg] at hmachs
    rw [← dbgMach_eq]
    refine ⟨u, hu, hdbg, ?_, fun r hr => ?_, ?_, hlog⟩
    · rw [rg_of_machs hmachs, rg_wg_same]
    · exact (rg_of_machs hmachs _ _).trans (rg_wg_ne _ _ hr _)
    · rw [mach_of_machs hmachs, mach_wg]
      split <;> rfl
  case writePc =>
    rintro rfl
    obtain ⟨u, hu, hdbg, hmachs, -⟩ := exec_debugRegWrite_logged h ha hh hroom x v (c := 64) (by decide)
    have hpc : u.machs = (s.inDebug.setPc (s.dbgMach t x) (v &&& 0xFFFF_FFFC)).machs := by rw [hmachs, ← dbgRegWrite_pc]; rfl
    rw [← dbgMach_eq]
    refine ⟨u, hu, hdbg, ?_, fun r => ?_⟩
    · rw [mach_of_machs hpc, State.setPc, mach_modMach_same]
    · rw [rg_of_machs hpc, State.setPc, State.rg, mach_modMach_same]
      rfl
  case full =>
    intro hsp hlen hlt
    exact ⟨_, exec_debugRegWrite h ha hh (by omega) (dbgRegLog_full s.inDebug hsp hlen x c.toNat v) rfl, dbgResult_dbg rfl 4 0 0,
      isF_onF_same s.inDebug _ (show 9 + 1 ≤ 32 by decide) Nat.one_pos, rfl⟩

end Sys2Proof.Machine
end

section
/-! PROOF. The calibration store step by step, and flash programming (O30). -/

namespace Sys2Proof.Machine

section Calst
variable (s : State)

/-! ### Bytes of flash (R473, R474, R476) -/

theorem lookupNat_filter {α : Type} (q : Nat → Bool) (a : Nat) (l : List (Nat × α)) :
    lookupNat a (l.filter fun p => q p.1) = if q a = true then lookupNat a l else none := by
  induction l with
  | nil => simp [lookupNat]
  | cons p r ih =>
    obtain ⟨j, x⟩ := p
    by_cases hq : q j = true
    · by_cases hj : j = a
      · subst hj
        simp [hq, lookupNat]
      · simp [hq, lookupNat, hj, ih]
    · by_cases hj : j = a
      · subst hj
        simp [hq, ih]
      · simp [hq, lookupNat, hj, ih]

/-- An erased sector reads 0xFF, and every other sector as before. -/
theorem flashByte_eraseSector (k a : Nat) : (s.eraseSector k).flashByte a = if sectorOf a = k then 0xFF else s.flashByte a := by
  have h := lookupNat_filter (fun x => sectorOf x != k) a s.flash
  unfold State.flashByte cellGet
  show (lookupNat a (s.flash.filter fun p => sectorOf p.1 != k)).getD flashDefault = _
  rw [h]
  by_cases hk : sectorOf a = k <;> simp [hk, flashDefault]

theorem flashProgram_append (a : Nat) (xs ys : List Byte) :
    s.flashProgram a (xs ++ ys) = (s.flashProgram a xs).flashProgram (a + xs.length) ys := by
  have hput (l : List Host.Cell) : cellsPut flashDefault l a (xs ++ ys)
      = cellsPut flashDefault (cellsPut flashDefault l a xs) (a + xs.length) ys := by
    induction xs generalizing l a with
    | nil => rfl
    | cons x r ih => rw [List.cons_append, cellsPut, cellsPut, ih, List.length_cons, Nat.add_assoc, Nat.add_comm 1]
  rw [State.flashProgram, hput]
  rfl

theorem flashByte_flashProgram_out {a c : Nat} {bs : List Byte} (h : c < a ∨ a + bs.length ≤ c) :
    (s.flashProgram a bs).flashByte c = s.flashByte c :=
  cellGet_cellsPut_out bs s.flash a h

theorem flashByte_flashProgram_in {s : State} (hs : Memory.wf flashDefault s.flash = true) (a : Nat) (bs : List Byte) {i : Nat}
    (hi : i < bs.length) : (s.flashProgram a bs).flashByte (a + i) = bs[i] :=
  cellGet_cellsPut_in bs s.flash hs a i hi

theorem wf_flashProgram {s : State} (hs : Memory.wf flashDefault s.flash = true) (a : Nat) (bs : List Byte) :
    Memory.wf flashDefault (s.flashProgram a bs).flash = true :=
  wf_cellsPut bs s.flash hs a

/-- A value that has been programmed reads back. -/
theorem flashRead_flashProgram_same {s : State} (hs : Memory.wf flashDefault s.flash = true) (a v n : Nat) :
    (s.flashProgram a (leBytes v n)).flashRead a n = v % 256 ^ n := by
  have h := leRead_of_bytes (rd := (s.flashProgram a (leBytes v n)).flashByte) (a := a) (bs := leBytes v n)
    fun i hi => flashByte_flashProgram_in hs a _ hi
  rwa [leBytes_length, leNat_leBytes] at h

theorem leRead_congr {rd rd' : Nat → Byte} (n : Nat) {a : Nat} (h : ∀ c, a ≤ c → c < a + n → rd c = rd' c) :
    leRead rd a n = leRead rd' a n := by
  induction n generalizing a with
  | zero => rfl
  | succ n ih =>
    rw [leRead, leRead, h a (Nat.le_refl a) (by omega), ih fun c h1 h2 => h c (by omega) (by omega)]

/-- A value that lies beside what has been programmed. -/
theorem flashRead_flashProgram_out {a c n : Nat} {bs : List Byte} (h : c + n ≤ a ∨ a + bs.length ≤ c) :
    (s.flashProgram a bs).flashRead c n = s.flashRead c n :=
  leRead_congr n fun x h1 h2 => flashByte_flashProgram_out s (by omega)

/-! ### The banks (R466, R467) -/

theorem bankSector_eq (b : Nat) : bankSector b = 2044 + b := by
  show (0x13FE_0000 + 0x8000 * b - 0x1000_0000) / 0x8000 = _
  omega

theorem sectorOf_bank {b k : Nat} (hk : k < 0x8000) : sectorOf (0x13FE_0000 + 0x8000 * b + k) = 2044 + b := by
  show (0x13FE_0000 + 0x8000 * b + k - 0x1000_0000) / 0x8000 = _
  omega

theorem sectorOf_ne_bank {a b : Nat} (ha : inFlash a = true) (h : a < 0x13FE_0000 + 0x8000 * b ∨ 0x13FE_0000 + 0x8000 * b + 0x8000 ≤ a) :
    sectorOf a ≠ 2044 + b := by
  have hlow : 0x1000_0000 ≤ a := of_decide_eq_true (Bool.and_eq_true_iff.1 ha).1
  show (a - 0x1000_0000) / 0x8000 ≠ _
  omega

/-! ### Undefined sectors and erases in progress (R477, R506) -/

theorem addFlux_eq (k : Nat) : s.addFlux k = { s with flashFlux := (s.addFlux k).flashFlux } := by
  unfold State.addFlux
  split <;> rfl

theorem addFlux_contains (k : Nat) : (s.addFlux k).flashFlux.contains k = true := by
  unfold State.addFlux
  split
  · assumption
  · simp

theorem addFlux_regs (k : Nat) : (s.addFlux k).regs = s.regs := by rw [addFlux_eq]

theorem dropFlux_contains (k : Nat) : (s.dropFlux k).flashFlux.contains k = false := by
  simp [State.dropFlux]

/-- The start of an erase suspends the watchdog, and changes nothing else. -/
theorem tlEraseStart_eq : s.tlEraseStart = { s with regs := s.tlEraseStart.regs } := by
  unfold State.tlEraseStart
  split <;> rfl

theorem isF_tlEraseStart {s : State} (h : s.tl.guardOut = false) : s.tlEraseStart.isF Fd.TL_STAT_SUSPENDED = true := by
  rw [State.tlEraseStart, if_neg (by simp [h])]
  exact isF_onF_same s _ (by decide) (by decide)

theorem getF_tlEraseStart_ne {f : Fd} (h : f.reg.addr ≠ Rg.TL_STAT.addr) : s.tlEraseStart.getF f = s.getF f := by
  unfold State.tlEraseStart
  split
  · rfl
  · exact getF_setF_reg _ h _

/-! ### A write of the calibration store, step by step (R470) -/

theorem calLive_of {s : State} (hrun : s.phase = .running) (hr : s.inReset .calst = false) : s.calLive = true := by
  simp [State.calLive, hrun, hr]

/-- The write is accepted: its target and its generation. -/
def State.calAccepted (s : State) : State :=
  { (s.onF Fd.CS_STAT_BUSY).setF Fd.CS_STAT_STEP 1 with cs := { s.cs with
      target := if s.isF Fd.CS_STAT_NONE = true then 0 else 1 - s.getF Fd.CS_STAT_SEL_BANK
      gen := if s.isF Fd.CS_STAT_NONE = true then 1 else s.getF Fd.CS_GEN_GEN + 1 } }

theorem calWrite_accepted {s : State} (hbusy : s.calBusy = false) (hsrc : 16 * s.getF Fd.CS_SRC_ADDR + s.getF Fd.CS_LEN_LEN ≤ 0x0100_0000)
    (hlen : s.getF Fd.CS_LEN_LEN % 16 = 0) (hmax : s.getF Fd.CS_LEN_LEN ≤ 512) (hgen : s.getF Fd.CS_GEN_GEN ≠ 0xFFFF_FFFE)
    (hf : s.pwr.failing = false) : s.calWrite = s.calAccepted := by
  have hsel : ((s.onF Fd.CS_STAT_BUSY).setF Fd.CS_STAT_STEP 1).getF Fd.CS_STAT_SEL_BANK = s.getF Fd.CS_STAT_SEL_BANK := by
    simp (disch := decide) only [State.onF, getF_setF_field]
  have hg : ((s.onF Fd.CS_STAT_BUSY).setF Fd.CS_STAT_STEP 1).getF Fd.CS_GEN_GEN = s.getF Fd.CS_GEN_GEN := by
    simp (disch := decide) only [State.onF, getF_setF_reg]
  unfold State.calWrite
  rw [if_neg (by simp [hbusy]), if_neg (by omega), if_neg (by omega), if_neg hgen, if_neg (by simp [hf])]
  simp only [hsel, hg]
  rfl

theorem fpDisturb_of_stage {s : State} (h : s.cs.fpStage ≠ 1) : s.fpDisturb = s := if_neg h

theorem exec_csWrite {s : State} (hl : s.calLive = true) (hd : s.Settled) (hk : s.cs.fpStage ≠ 1) (hw : s.calWrite = s.calAccepted) :
    exec .csWrite s = .next s.calAccepted := by
  show execCsWrite s = _
  rw [execCsWrite, if_pos hl, fpDisturb_of_stage hk, hw]
  exact ok_of_due hd

/-- An erase of sector `k` starts: its content is undefined until it ends, and the watchdog is suspended. -/
def State.eraseStarts (s : State) (k : Nat) : State := (s.addFlux k).tlEraseStart

theorem eraseStarts_eq (k : Nat) :
    s.eraseStarts k = { s with regs := (s.eraseStarts k).regs, flashFlux := (s.addFlux k).flashFlux } := by
  rw [State.eraseStarts, tlEraseStart_eq, addFlux_eq]

theorem eraseStarts_contains (k : Nat) : (s.eraseStarts k).flashFlux.contains k = true := by
  rw [eraseStarts_eq]
  exact addFlux_contains s k

theorem eraseStarts_cs (k : Nat) : (s.eraseStarts k).cs = s.cs := by rw [eraseStarts_eq]
theorem eraseStarts_rst (k : Nat) : (s.eraseStarts k).rst = s.rst := by rw [eraseStarts_eq]

theorem isF_eraseStarts_suspended {s : State} (h : s.tl.guardOut = false) (k : Nat) :
    (s.eraseStarts k).isF Fd.TL_STAT_SUSPENDED = true :=
  isF_tlEraseStart (by rw [addFlux_eq]; exact h)

theorem getF_eraseStarts_ne {f : Fd} (h : f.reg.addr ≠ Rg.TL_STAT.addr) (k : Nat) : (s.eraseStarts k).getF f = s.getF f := by
  rw [State.eraseStarts, getF_tlEraseStart_ne _ h]
  exact getF_of_regs (addFlux_regs s k) f

/-- SRAM words that are written hold nothing that stops a copy. -/
theorem anyMark_bad_of_written {s : State} {a n : Nat} (h : ∀ i < n, s.markOf ((a + i) / 8) = some .written) :
    s.anyMark (fun m => isUnwritten m || isPoisoned m) a n = false :=
  anyMark_eq_false fun k hk => by rw [h k hk]; rfl

theorem eccTouchAll_of_clean {s : State} (h : s.sramErr = []) (a n : Nat) : s.eccTouchAll a n = s :=
  eccTouchAll_of_no_error fun k _ => by rw [h]; rfl

/-- The body is copied and its entries hold. -/
def State.calCopiedOk (s : State) : State :=
  (({ s with cs := { s.cs with body := (List.range (s.getF Fd.CS_LEN_LEN)).map fun i => s.sramByte (16 * s.getF Fd.CS_SRC_ADDR + i) } }.setF
    Fd.CS_STAT_STEP 2).eraseStarts (bankSector s.cs.target))

theorem calCopiedOk_step : s.calCopiedOk.getF Fd.CS_STAT_STEP = 2 := by
  rw [State.calCopiedOk, getF_eraseStarts_ne _ (by decide), getF_setF_same _ _ (by decide)]
  rfl

theorem calCopiedOk_flux : s.calCopiedOk.flashFlux.contains (bankSector s.cs.target) = true := eraseStarts_contains _ _

theorem calCopiedOk_body :
    s.calCopiedOk.cs.body = (List.range (s.getF Fd.CS_LEN_LEN)).map fun i => s.sramByte (16 * s.getF Fd.CS_SRC_ADDR + i) := by
  rw [State.calCopiedOk, eraseStarts_cs]
  rfl

theorem calCopiedOk_suspended {s : State} (h : s.tl.guardOut = false) : s.calCopiedOk.isF Fd.TL_STAT_SUSPENDED = true := by
  refine isF_eraseStarts_suspended ?_ _
  exact h

theorem exec_calCopyComplete {s : State} (hl : s.calLive = true) (hd : s.Settled) (hstep : s.getF Fd.CS_STAT_STEP = 1)
    (hf : s.pwr.failing = false) (herr : s.sramErr = [])
    (hw : ∀ i < s.getF Fd.CS_LEN_LEN, s.markOf ((16 * s.getF Fd.CS_SRC_ADDR + i) / 8) = some .written)
    (hbody : (calEntries (s.getF Fd.CS_LEN_LEN / 16)
      ((List.range (s.getF Fd.CS_LEN_LEN)).map fun i => s.sramByte (16 * s.getF Fd.CS_SRC_ADDR + i))).isSome = true) :
    exec .calCopyComplete s = .next s.calCopiedOk := by
  obtain ⟨e, he⟩ := Option.isSome_iff_exists.1 hbody
  have hstart : (s.flashStarts && s.getF Fd.CS_STAT_STEP == 1) = true := by simp [State.flashStarts, hl, hf, hstep]
  have hcopy : s.calCopied = s.calCopiedOk := by
    unfold State.calCopied
    simp only [eccTouchAll_of_clean herr, hstep, anyMark_bad_of_written hw, he, ne_eq, not_true_eq_false, if_false, Bool.false_eq_true]
    rfl
  show execCalCopyComplete s = _
  rw [execCalCopyComplete, if_pos hstart, hcopy]
  exact ok_of_due (by rw [State.calCopiedOk, eraseStarts_rst]; exact hd)

/-- Within the power-fail sequence no erase or program operation starts (R52). -/
theorem flashStarts_of_failing {s : State} (h : s.pwr.failing = true) : s.flashStarts = false := by
  simp [State.flashStarts, h]

theorem exec_calCopyComplete_failing {s : State} (hd : s.Settled) (h : s.pwr.failing = true) : exec .calCopyComplete s = .next s := by
  show execCalCopyComplete s = _
  rw [execCalCopyComplete, flashStarts_of_failing h]
  exact ok_of_due hd

theorem exec_calEraseComplete_failing {s : State} (hd : s.Settled) (h : s.pwr.failing = true) (x : Bool) :
    exec (.calEraseComplete x) s = .next s := by
  show execCalEraseComplete x s = _
  rw [execCalEraseComplete, flashStarts_of_failing h]
  exact ok_of_due hd

/-- The bank is erased, and its body is programmed next. -/
def State.calErasedOk (s : State) : State :=
  ((s.tlEraseEnd.eraseSector (bankSector s.cs.target)).addFlux (bankSector s.cs.target)).setF Fd.CS_STAT_STEP 3

theorem exec_calEraseComplete {s : State} (hl : s.calLive = true) (hd : s.Settled) (hstep : s.getF Fd.CS_STAT_STEP = 2)
    (hf : s.pwr.failing = false) : exec (.calEraseComplete true) s = .next s.calErasedOk := by
  have hstart : (s.flashStarts && s.getF Fd.CS_STAT_STEP == 2) = true := by simp [State.flashStarts, hl, hf, hstep]
  show execCalEraseComplete true s = _
  rw [execCalEraseComplete, if_pos hstart]
  exact ok_of_due (s := s.calErasedOk) (by show (State.addFlux _ _).rst.due = []; rw [addFlux_eq]; exact hd)

theorem flashByte_calErasedOk (a : Nat) :
    s.calErasedOk.flashByte a = if sectorOf a = 2044 + s.cs.target then 0xFF else s.flashByte a := by
  rw [← bankSector_eq, State.calErasedOk, addFlux_eq]
  exact flashByte_eraseSector s.tlEraseEnd _ a

theorem isF_calErasedOk_suspended : s.calErasedOk.isF Fd.TL_STAT_SUSPENDED = false := by
  rw [State.calErasedOk, isF_setF_reg _ (by decide), isF_of_regs (addFlux_regs _ _)]
  exact isF_offF_same s _ (by decide)

/-- Three words in a row, as the head of a bank holds them. -/
theorem flashRead_threeWords {s : State} (hs : Memory.wf flashDefault s.flash = true) (a g l c : Nat) :
    (s.flashProgram a (leBytes g 4 ++ leBytes l 4 ++ leBytes c 4)).flashRead a 4 = g % 256 ^ 4 ∧
      (s.flashProgram a (leBytes g 4 ++ leBytes l 4 ++ leBytes c 4)).flashRead (a + 4) 4 = l % 256 ^ 4 := by
  have hlen := fun v => leBytes_length v 4
  rw [flashProgram_append, flashProgram_append, List.length_append, hlen, hlen]
  constructor
  · rw [flashRead_flashProgram_out _ (by omega), flashRead_flashProgram_out _ (by omega), flashRead_flashProgram_same hs]
  · rw [flashRead_flashProgram_out _ (by omega), flashRead_flashProgram_same (wf_flashProgram hs a _)]

/-- The bank before its head is programmed: the body stands in it. -/
def State.calBodied (s : State) : State := (s.dropFlux (bankSector s.cs.target)).flashProgram (bankBase s.cs.target + 16) s.cs.body

/-- Generation, length and check stand in front of the body. -/
def State.calHead (s : State) : List Byte :=
  leBytes s.cs.gen 4 ++ leBytes s.cs.body.length 4 ++ leBytes (calCheck (bankBase s.cs.target) s.cs.gen (calCovered s.cs.body)) 4

theorem calHead_length : s.calHead.length = 12 := by simp [State.calHead, leBytes_length]

theorem calProgrammed_eq : s.calProgrammed = (s.calBodied.flashProgram (bankBase s.cs.target) s.calHead).setF Fd.CS_STAT_STEP 4 := rfl

theorem exec_calProgramComplete {s : State} (hl : s.calLive = true) (hd : s.Settled) (hstep : s.getF Fd.CS_STAT_STEP = 3) :
    exec .calProgramComplete s = .next s.calProgrammed := by
  show execCalProgramComplete s = _
  rw [execCalProgramComplete, if_pos (by simp [hl, hstep])]
  exact ok_of_due hd

theorem flashByte_calProgrammed_body {s : State} (hs : Memory.wf flashDefault s.flash = true) {i : Nat} (hi : i < s.cs.body.length) :
    s.calProgrammed.flashByte (bankBase s.cs.target + 16 + i) = s.cs.body[i] := by
  have hhead : bankBase s.cs.target + s.calHead.length ≤ bankBase s.cs.target + 16 + i := by
    rw [calHead_length]
    omega
  exact (flashByte_flashProgram_out s.calBodied (.inr hhead)).trans
    (flashByte_flashProgram_in (s := s.dropFlux (bankSector s.cs.target)) hs _ _ hi)

theorem flashByte_calProgrammed_out {a : Nat} (hb : s.cs.body.length ≤ 512)
    (h : a < bankBase s.cs.target ∨ bankBase s.cs.target + 0x8000 ≤ a) : s.calProgrammed.flashByte a = s.flashByte a := by
  have hhead : a < bankBase s.cs.target ∨ bankBase s.cs.target + s.calHead.length ≤ a := by
    rw [calHead_length]
    omega
  exact (flashByte_flashProgram_out s.calBodied hhead).trans
    (flashByte_flashProgram_out (s.dropFlux (bankSector s.cs.target)) (by omega))

theorem flashRead_calProgrammed {s : State} (hs : Memory.wf flashDefault s.flash = true) :
    s.calProgrammed.flashRead (bankBase s.cs.target) 4 = s.cs.gen % 256 ^ 4 ∧
      s.calProgrammed.flashRead (bankBase s.cs.target + 4) 4 = s.cs.body.length % 256 ^ 4 :=
  flashRead_threeWords (s := s.calBodied) (wf_flashProgram (s := s.dropFlux (bankSector s.cs.target)) hs _ _) _ _ _ _

theorem exec_calVerifyComplete {s : State} (hl : s.calLive = true) (hd : s.Settled) (hstep : s.getF Fd.CS_STAT_STEP = 4)
    (hf : s.pwr.failing = false) : exec (.calVerifyComplete true) s = .next (s.setF Fd.CS_STAT_STEP 5) := by
  show execCalVerifyComplete true s = _
  rw [execCalVerifyComplete, if_pos (by simp [hl, hstep]), if_neg (by decide), if_neg (by simp [hf])]
  exact ok_of_due hd

/-- The entries of the body that has been written. -/
def State.calEntered (s : State) : List CalEntry := (calEntries (s.cs.body.length / 16) s.cs.body).getD []

/-- The switch to the new entries changes registers and the shadow table only. -/
theorem calSwitch_eq : s.calSwitch = { s with regs := s.calSwitch.regs, cs := { s.cs with shadow := s.calEntered } } := by
  unfold State.calSwitch
  dsimp only
  split <;> rfl

theorem getF_calSwitch_selBank : s.calSwitch.getF Fd.CS_STAT_SEL_BANK = s.cs.target % 2 := by
  unfold State.calSwitch
  dsimp only
  split <;> simp (disch := decide) only [State.onF, State.offF, getF_setF_field, getF_setF_reg, getF_setF_same]
  all_goals rfl

theorem exec_calCommitComplete {s : State} (hl : s.calLive = true) (hd : s.Settled) (hstep : s.getF Fd.CS_STAT_STEP = 5) :
    exec .calCommitComplete s = .next s.calCommitted := by
  have hdue : s.calCommitted.rst.due = [] := by
    show s.calCommitWord.calSwitch.rst.due = []
    rw [calSwitch_eq]
    exact hd
  show execCalCommitComplete s = _
  rw [execCalCommitComplete, if_pos (by simp [hl, hstep])]
  exact ok_of_due hdue

/-- What the end of the write shows in `CS_STAT`. -/
theorem calCommitted_stat : s.calCommitted.isF Fd.CS_STAT_BUSY = false ∧ s.calCommitted.getF Fd.CS_STAT_STEP = 0 ∧
    s.calCommitted.isF Fd.CS_STAT_DONE = true ∧ s.calCommitted.getF Fd.CS_STAT_RESULT = 1 ∧
    s.calCommitted.getF Fd.CS_STAT_SEL_BANK = s.cs.target % 2 := by
  have hsel : s.calCommitWord.calSwitch.getF Fd.CS_STAT_SEL_BANK = s.cs.target % 2 := getF_calSwitch_selBank _
  simp (disch := decide) only [State.calCommitted, State.calStop, State.isF, State.onF, State.offF, State.incF, State.addF,
    getF_setF_reg, getF_setF_field, getF_setF_same, hsel]
  decide

theorem calCommitted_memory {s : State} (hs : Memory.wf flashDefault s.flash = true) :
    s.calCommitted.flashRead (bankBase s.cs.target + 12) 4 = 0xCA15C0DE ∧
      s.calCommitted.cs.shadow = s.calEntered := by
  have hflash : s.calCommitWord.calSwitch.flash = s.calCommitWord.flash := by rw [calSwitch_eq]
  have hread : s.calCommitted.flashRead (bankBase s.cs.target + 12) 4 = s.calCommitWord.flashRead (bankBase s.cs.target + 12) 4 :=
    leRead_congr 4 fun c _ _ => congrArg (fun l => cellGet flashDefault l c) hflash
  refine ⟨hread.trans (flashRead_flashProgram_same hs _ 0xCA15C0DE 4), ?_⟩
  show s.calCommitWord.calSwitch.cs.shadow = _
  rw [calSwitch_eq]
  rfl

/-! ### Flash programming (R475 to R477) -/

theorem exec_fpKeyWrite {s : State} (hl : s.calLive = true) (v : Word) : exec (.fpKeyWrite v) s = ok (s.fpKey v.toNat) := if_pos hl

theorem fpKey_first {s : State} {v : Nat} (hk : s.cs.fpStage ≠ 1) (hv : v % 65536 = 0x5A17) :
    s.fpKey v = { s with cs := { s.cs with fpStage := 1 } } := by
  simp only [State.fpKey, hk, hv, if_false, if_true]

theorem fpKey_second {s : State} {v : Nat} (hk : s.cs.fpStage = 1) (hv : v % 65536 = 0xC3E8) :
    s.fpKey v = { s with cs := { s.cs with fpStage := 2, fpTime := s.now } } := by
  simp only [State.fpKey, hk, hv, if_true]

/-- The command stands in `FP_CMD`, and the key is used up. -/
def State.fpArmed (s : State) (cmd : Nat) : State := { s.setF Fd.FP_CMD_CMD cmd with cs := { s.cs with fpStage := 0 } }

theorem getF_fpArmed {f : Fd} (h : f.reg.addr ≠ Rg.FP_CMD.addr) (cmd : Nat) : (s.fpArmed cmd).getF f = s.getF f := getF_setF_reg s h cmd

/-- Arming leaves all that the checks of a command look at. -/
theorem fpCheck_fpArmed (cmd : Nat) (u : Bool) (c : Nat) : (s.fpArmed cmd).fpCheck u c = s.fpCheck u c := by
  have hbusy : (s.fpArmed cmd).calBusy = s.calBusy := by
    simp only [State.calBusy, State.isF, getF_fpArmed s (f := Fd.CS_STAT_BUSY) (by decide), getF_fpArmed s (f := Fd.FP_STAT_BUSY) (by decide)]
  simp only [State.fpCheck, hbusy, getF_fpArmed s (f := Fd.FP_ADDR_ADDR) (by decide), getF_fpArmed s (f := Fd.FP_LEN_LEN) (by decide),
    getF_fpArmed s (f := Fd.FP_SRC_ADDR) (by decide)]
  rfl

theorem calLive_fpArmed (cmd : Nat) : (s.fpArmed cmd).calLive = s.calLive := by
  have hbit : (s.fpArmed cmd).rstBit .calst = s.rstBit .calst := by
    show (s.fpArmed cmd).bitF Fd.BLK_RST0_CALST 0 = s.bitF Fd.BLK_RST0_CALST 0
    rw [State.bitF, getF_fpArmed s (by decide), State.bitF]
  rw [State.calLive, State.inReset, hbit]
  rfl

/-- The bytes that a program command takes. -/
def State.fpSource (s : State) : List Byte :=
  (List.range (s.getF Fd.FP_LEN_LEN)).map fun i => s.sramByte (8 * s.getF Fd.FP_SRC_ADDR + i)

/-- The operation that a command starts (R476). -/
def State.fpOpOf (s : State) (cmd : Nat) : FpOp :=
  if cmd = 1 then .erase (sectorOf (s.getF Fd.FP_ADDR_ADDR)) else .program (s.getF Fd.FP_ADDR_ADDR) s.fpSource

/-- The command's operation runs, and the content of its sector is undefined. -/
def State.fpStarted (s : State) (cmd : Nat) : State :=
  let t := ((s.fpArmed cmd).onF Fd.FP_STAT_BUSY).addFlux (sectorOf (s.getF Fd.FP_ADDR_ADDR))
  { t with cs := { t.cs with fpOp := some (s.fpOpOf cmd) } }

/-- With the key complete a command that meets its checks starts. -/
theorem fpGo_of_check {s : State} {cmd : Nat} (hu : s.fpUnlocked = true) (hl : s.calLive = true) (herr : cmd = 2 → s.sramErr = [])
    (hc : s.fpCheck true cmd = 0) : s.fpGo cmd = if cmd = 1 then (s.fpStarted cmd).tlEraseStart else s.fpStarted cmd := by
  have hstage : s.cs.fpStage = 2 := by
    have := (Bool.and_eq_true_iff.1 hu).1
    exact beq_iff_eq.1 this
  have hdist : (s.setF Fd.FP_CMD_CMD cmd).fpDisturb = s.setF Fd.FP_CMD_CMD cmd := fpDisturb_of_stage (by show s.cs.fpStage ≠ 1; omega)
  have harm : { s.setF Fd.FP_CMD_CMD cmd with cs := { (s.setF Fd.FP_CMD_CMD cmd).cs with fpStage := 0 } } = s.fpArmed cmd := rfl
  have htouch (a n : Nat) (q : Bool) : (if (s.fpUnlocked && cmd == 2 && q) = true then (s.fpArmed cmd).eccTouchAll a n
      else s.fpArmed cmd) = s.fpArmed cmd := by
    split
    · rename_i h
      simp only [Bool.and_eq_true, beq_iff_eq] at h
      exact eccTouchAll_of_clean (s := s.fpArmed cmd) (herr h.1.2) a n
    · rfl
  have hc' : (s.fpArmed cmd).fpCheck s.fpUnlocked cmd = 0 := by rw [fpCheck_fpArmed, hu, hc]
  have hlive : (s.fpArmed cmd).calLive = true := (calLive_fpArmed s cmd).trans hl
  unfold State.fpGo
  simp only [hdist, harm, htouch, hlive, hc', Bool.not_true, Bool.false_eq_true, if_false, getF_fpArmed s (f := Fd.FP_ADDR_ADDR) (by decide),
    getF_fpArmed s (f := Fd.FP_LEN_LEN) (by decide), getF_fpArmed s (f := Fd.FP_SRC_ADDR) (by decide)]
  have hsram (k i : Nat) : (((s.fpArmed cmd).onF Fd.FP_STAT_BUSY).addFlux k).sramByte i = s.sramByte i := by
    rw [addFlux_eq]
    rfl
  by_cases h1 : cmd = 1
  · rw [if_pos h1, if_pos h1, State.fpStarted, State.fpOpOf, if_pos h1]
  · rw [if_neg h1, if_neg h1, State.fpStarted, State.fpOpOf, if_neg h1]
    simp only [hsram]
    rfl

theorem fpStarted_rst (cmd : Nat) : (s.fpStarted cmd).rst = s.rst := by
  rw [State.fpStarted, addFlux_eq]
  rfl

theorem fpStarted_tl (cmd : Nat) : (s.fpStarted cmd).tl = s.tl := by
  rw [State.fpStarted, addFlux_eq]
  rfl

theorem fpStarted_fpOp (cmd : Nat) : (s.fpStarted cmd).cs.fpOp = some (s.fpOpOf cmd) := rfl

theorem fpStarted_fpStage (cmd : Nat) : (s.fpStarted cmd).cs.fpStage = 0 := by
  rw [State.fpStarted, addFlux_eq]
  rfl

theorem fpStarted_flux (cmd : Nat) : (s.fpStarted cmd).flashFlux.contains (sectorOf (s.getF Fd.FP_ADDR_ADDR)) = true :=
  addFlux_contains _ _

theorem isF_fpStarted_busy (cmd : Nat) : (s.fpStarted cmd).isF Fd.FP_STAT_BUSY = true := by
  have hregs : (s.fpStarted cmd).regs = ((s.fpArmed cmd).onF Fd.FP_STAT_BUSY).regs := addFlux_regs _ _
  rw [isF_of_regs hregs, isF_onF_same _ _ (by decide) (by decide)]

/-- The checks that both commands share (R475). -/
structure State.FpReady (s : State) : Prop where
  unlocked : s.fpUnlocked = true
  idle : s.calBusy = false
  power : s.pwr.failing = false
  flash : inFlash (s.getF Fd.FP_ADDR_ADDR) = true
  sector : fpSector (sectorOf (s.getF Fd.FP_ADDR_ADDR)) = true

theorem fpCheck_erase {s : State} (h : s.FpReady) (ha : s.getF Fd.FP_ADDR_ADDR % 0x8000 = 0) : s.fpCheck true 1 = 0 := by
  simp [State.fpCheck, h.idle, h.power, h.flash, h.sector, ha]

theorem fpCheck_program {s : State} (h : s.FpReady) (ha : s.getF Fd.FP_ADDR_ADDR % 8 = 0) (hn : s.getF Fd.FP_LEN_LEN % 8 = 0)
    (hmin : 8 ≤ s.getF Fd.FP_LEN_LEN) (hmax : s.getF Fd.FP_LEN_LEN ≤ 4096)
    (hin : s.getF Fd.FP_ADDR_ADDR % 0x8000 + s.getF Fd.FP_LEN_LEN ≤ 0x8000)
    (hsrc : 8 * s.getF Fd.FP_SRC_ADDR + s.getF Fd.FP_LEN_LEN ≤ 0x0100_0000)
    (hw : ∀ i < s.getF Fd.FP_LEN_LEN, s.markOf ((8 * s.getF Fd.FP_SRC_ADDR + i) / 8) = some .written)
    (he : s.fpErased (s.getF Fd.FP_ADDR_ADDR) (s.getF Fd.FP_LEN_LEN) = true) : s.fpCheck true 2 = 0 := by
  have hplace : ¬ (s.getF Fd.FP_ADDR_ADDR % 8 ≠ 0 ∨ s.getF Fd.FP_LEN_LEN % 8 ≠ 0 ∨ s.getF Fd.FP_LEN_LEN < 8 ∨
      s.getF Fd.FP_LEN_LEN > 4096 ∨ s.getF Fd.FP_ADDR_ADDR % 0x8000 + s.getF Fd.FP_LEN_LEN > 0x8000) := by omega
  have hroom : ¬ 8 * s.getF Fd.FP_SRC_ADDR + s.getF Fd.FP_LEN_LEN > 0x0100_0000 := by omega
  simp [State.fpCheck, h.idle, h.power, h.flash, h.sector, hplace, hroom, anyMark_bad_of_written hw, he]

theorem exec_fpErase {s : State} (hl : s.calLive = true) (hd : s.Settled) (h : s.FpReady) (ha : s.getF Fd.FP_ADDR_ADDR % 0x8000 = 0) :
    exec .fpErase s = .next (s.fpStarted 1).tlEraseStart := by
  show execFpErase s = _
  rw [execFpErase, if_pos hl, fpGo_of_check h.unlocked hl (fun h2 => absurd h2 (by decide)) (fpCheck_erase h ha), if_pos rfl]
  exact ok_of_due (by rw [tlEraseStart_eq]; exact (congrArg ResetH.due (fpStarted_rst s 1)).trans hd)

theorem exec_fpProgram {s : State} (hl : s.calLive = true) (hd : s.Settled) (h : s.FpReady) (herr : s.sramErr = [])
    (hc : s.fpCheck true 2 = 0) : exec .fpProgram s = .next (s.fpStarted 2) := by
  show execFpProgram s = _
  rw [execFpProgram, if_pos hl, fpGo_of_check h.unlocked hl (fun _ => herr) hc, if_neg (by decide)]
  exact ok_of_due ((congrArg ResetH.due (fpStarted_rst s 2)).trans hd)

/-- An operation of flash programming has ended. -/
def State.fpIdle (s : State) : State := { s with cs := { s.cs with fpOp := none } }

theorem exec_fpEraseComplete {s : State} (hl : s.calLive = true) (hd : s.Settled) {k : Nat} (hop : s.cs.fpOp = some (.erase k)) :
    exec (.fpEraseComplete true) s = .next ((s.fpIdle.tlEraseEnd.eraseSector k).fpDone.incF Fd.FP_CNT_ERASES) := by
  show execFpEraseComplete true s = _
  unfold execFpEraseComplete
  rw [hop]
  exact (if_pos hl).trans (ok_of_due hd)

theorem exec_fpProgramComplete {s : State} (hl : s.calLive = true) (hd : s.Settled) {x : Nat} {bs : List Byte}
    (hop : s.cs.fpOp = some (.program x bs)) :
    exec (.fpProgramComplete true) s = .next ((s.fpIdle.dropFlux (sectorOf x)).flashProgram x bs).fpDone := by
  show execFpProgramComplete true s = _
  unfold execFpProgramComplete
  rw [hop]
  exact (if_pos hl).trans (ok_of_due hd)

/-- What the end of a command shows in `FP_STAT`. -/
theorem isF_fpDone : s.fpDone.isF Fd.FP_STAT_BUSY = false ∧ s.fpDone.isF Fd.FP_STAT_DONE = true := by
  simp (disch := decide) only [State.fpDone, State.isF, State.onF, State.offF, getF_setF_field, getF_setF_same]
  decide

theorem sectorOf_sector {k i : Nat} (hi : i < 0x8000) : sectorOf (0x1000_0000 + 0x8000 * k + i) = k := by
  show (0x1000_0000 + 0x8000 * k + i - 0x1000_0000) / 0x8000 = k
  omega

end Calst

/-! ### The obligation -/

/-- Settles O30: each command answers one named state of the write or of the programming command, and the lemmas on that state
give its fields and its bytes of flash. -/
theorem calibrationStoreAndFlash : Obligations.CalibrationStoreAndFlash := by
  unfold Obligations.CalibrationStoreAndFlash
  refine ⟨fun s hrun hd hcanon hr => ?_, fun s v hrun hd hcanon hr => ?_⟩
  · have hl := calLive_of hrun hr
    have hwf := flashWf_of_canon hcanon
    refine ⟨?accepted, ?copied, ?erased, ?programmed, exec_calVerifyComplete hl hd,
      fun hf => ⟨exec_calCopyComplete_failing hd hf, exec_calEraseComplete_failing hd hf⟩, ?committed⟩
    case accepted =>
      intro hcs hfp hsrc hlen hmax hgen hf hk
      have hbusy : s.calBusy = false := by rw [State.calBusy, hcs, hfp]; rfl
      refine ⟨_, exec_csWrite hl hd hk (calWrite_accepted hbusy hsrc hlen hmax hgen hf), ?_, ?_, rfl, rfl⟩
      · show ((s.onF Fd.CS_STAT_BUSY).setF Fd.CS_STAT_STEP 1).isF Fd.CS_STAT_BUSY = true
        rw [isF_setF_field (f := Fd.CS_STAT_STEP) (g := Fd.CS_STAT_BUSY) _ rfl (by decide), isF_onF_same _ _ (by decide) (by decide)]
      · show ((s.onF Fd.CS_STAT_BUSY).setF Fd.CS_STAT_STEP 1).getF Fd.CS_STAT_STEP = 1
        rw [getF_setF_same _ _ (by decide)]
        rfl
    case copied =>
      intro hstep hf herr hw hbody
      exact ⟨_, exec_calCopyComplete hl hd hstep hf herr hw hbody, calCopiedOk_step s, calCopiedOk_body s, calCopiedOk_flux s,
        calCopiedOk_suspended⟩
    case erased =>
      intro hb hstep hf
      refine ⟨_, exec_calEraseComplete hl hd hstep hf, ?_, isF_calErasedOk_suspended s, fun k hk => ?_, fun a ha hin => ?_⟩
      · rw [State.calErasedOk, getF_setF_same _ _ (by decide)]
        rfl
      · rw [flashByte_calErasedOk, sectorOf_bank hk, if_pos rfl]
      · rw [flashByte_calErasedOk, if_neg (sectorOf_ne_bank hin ha)]
    case programmed =>
      intro hb hstep hlen
      obtain ⟨hgen, hbody⟩ := flashRead_calProgrammed hwf
      refine ⟨_, exec_calProgramComplete hl hd hstep, ?_, hgen, hbody.trans (Nat.mod_eq_of_lt (by omega)), fun i hi => ?_,
        fun a ha => flashByte_calProgrammed_out s hlen ha⟩
      · rw [calProgrammed_eq, getF_setF_same _ _ (by decide)]
        rfl
      · rw [List.getD_eq_getElem _ _ hi]
        exact flashByte_calProgrammed_body hwf hi
    case committed =>
      intro hb hstep
      obtain ⟨hbusy, hstep0, hdone, hres, hsel⟩ := calCommitted_stat s
      obtain ⟨hcommit, hshadow⟩ := calCommitted_memory hwf
      exact ⟨_, exec_calCommitComplete hl hd hstep, hbusy, hstep0, hdone, hres, hsel.trans (Nat.mod_eq_of_lt (by omega)), hcommit, hshadow⟩
  · have hl := calLive_of hrun hr
    have hwf := flashWf_of_canon hcanon
    refine ⟨?first, ?second, fun hu hi hf hin hsec => ⟨?erase, ?program⟩, ?eraseEnd, ?programEnd⟩
    case first =>
      intro hk hv
      rw [exec_fpKeyWrite hl, fpKey_first hk hv]
      exact ok_of_due hd
    case second =>
      intro hk hv
      rw [exec_fpKeyWrite hl, fpKey_second hk hv]
      exact ok_of_due hd
    case erase =>
      intro ha
      refine ⟨_, exec_fpErase hl hd ⟨hu, hi, hf, hin, hsec⟩ ha, ?_, ?_, ?_, ?_, fun hg => isF_tlEraseStart (by rw [fpStarted_tl]; exact hg)⟩
      · rw [State.isF, getF_tlEraseStart_ne _ (by decide)]
        exact isF_fpStarted_busy s 1
      · rw [tlEraseStart_eq]
        exact fpStarted_fpOp s 1
      · rw [tlEraseStart_eq]
        exact fpStarted_fpStage s 1
      · rw [tlEraseStart_eq]
        exact fpStarted_flux s 1
    case program =>
      intro ha hn hmin hmax hroom hsrc herr hw he
      have h : s.FpReady := ⟨hu, hi, hf, hin, hsec⟩
      exact ⟨_, exec_fpProgram hl hd h herr (fpCheck_program h ha hn hmin hmax hroom hsrc hw he), isF_fpStarted_busy s 2,
        fpStarted_fpOp s 2, fpStarted_fpStage s 2, fpStarted_flux s 2⟩
    case eraseEnd =>
      intro k hop
      refine ⟨_, exec_fpEraseComplete hl hd hop, ?_, ?_, rfl, dropFlux_contains _ k, fun i hi => ?_, fun x hx hne => ?_⟩
      · rw [State.incF, State.addF, isF_setF_reg _ (by decide)]
        exact (isF_fpDone _).1
      · rw [State.incF, State.addF, isF_setF_reg _ (by decide)]
        exact (isF_fpDone _).2
      · exact (flashByte_eraseSector s.fpIdle.tlEraseEnd k _).trans (if_pos (sectorOf_sector hi))
      · exact (flashByte_eraseSector s.fpIdle.tlEraseEnd k x).trans (if_neg hne)
    case programEnd =>
      intro x bs hop
      refine ⟨_, exec_fpProgramComplete hl hd hop, (isF_fpDone _).1, (isF_fpDone _).2, rfl, fun i hi => ?_, fun y hy => ?_⟩
      · rw [List.getD_eq_getElem _ _ hi]
        exact flashByte_flashProgram_in (s := s.fpIdle.dropFlux (sectorOf x)) hwf x bs hi
      · exact flashByte_flashProgram_out (s.fpIdle.dropFlux (sectorOf x)) hy

end Sys2Proof.Machine
end

section
/-! PROOF. Every step keeps the canonical form of registers and memory (O4). -/

namespace Sys2Proof.Machine

/-- Every command keeps the canonical form: one arm for each arm of `exec`, with the lemma on its meaning. -/
theorem canon_exec {s : State} (hC : s.Canon) : ∀ c : Instr, CanonO (exec c s)
  | .intakeValid ix => canon_execIntakeValid ix s hC
  | .intakeInvalid ix => canon_execIntakeInvalid ix s hC
  | .powerFailStart lost => canon_execPowerFailStart lost s hC
  | .holdUpEnd => canon_execHoldUpEnd s hC
  | .intakeReturnReset => canon_execIntakeReturnReset s hC
  | .vioInLost f => canon_execVioInLost f s hC
  | .vioInRestored => canon_execVioInRestored s hC
  | .railFault => canon_execRailFault s hC
  | .powerOn ix => canon_execPowerOn ix s hC
  | .otpLoadComplete good f => canon_execOtpLoadComplete good f s hC
  | .memoryInitialiserComplete => canon_execMemoryInitialiserComplete s hC
  | .resetRelease x y z => canon_execResetRelease x y z s hC
  | .bootComplete ix => canon_execBootComplete ix s hC
  | .clockMonitorFault c => canon_execClockMonitorFault c s hC
  | .nrstPulse l => canon_execNrstPulse l s hC
  | .chipReset c => canon_execChipReset c s hC
  | .nrstStuck x y z => canon_execNrstStuck x y z s hC
  | .nrstRearm => canon_execNrstRearm s hC
  | .blockResetRequest b => canon_execBlockResetRequest b s hC
  | .blockResetDeferredStart b => canon_execBlockResetDeferredStart b s hC
  | .blockLeavesReset b => canon_execBlockLeavesReset b s hC
  | .triadRestart t => canon_execTriadRestart t s hC
  | .triadLeavesReset t => canon_execTriadLeavesReset t s hC
  | .sleepReady m => canon_execSleepReady m s hC
  | .coresGated => canon_execCoresGated s hC
  | .wakePinEdge => canon_execWakePinEdge s hC
  | .aonTimerMatch => canon_execAonTimerMatch s hC
  | .wakeSupplyUp => canon_execWakeSupplyUp s hC
  | .wakeInterruptDelivery => canon_execWakeInterruptDelivery s hC
  | .add m gd ga gb => canon_execAdd m gd ga gb s hC
  | .sub m gd ga gb => canon_execSub m gd ga gb s hC
  | .and m gd ga gb => canon_execAnd m gd ga gb s hC
  | .or m gd ga gb => canon_execOr m gd ga gb s hC
  | .xor m gd ga gb => canon_execXor m gd ga gb s hC
  | .andn m gd ga gb => canon_execAndn m gd ga gb s hC
  | .shl m gd ga gb => canon_execShl m gd ga gb s hC
  | .shr m gd ga gb => canon_execShr m gd ga gb s hC
  | .shra m gd ga gb => canon_execShra m gd ga gb s hC
  | .rotr m gd ga gb => canon_execRotr m gd ga gb s hC
  | .clt m gd ga gb => canon_execClt m gd ga gb s hC
  | .cltu m gd ga gb => canon_execCltu m gd ga gb s hC
  | .min m gd ga gb => canon_execMin m gd ga gb s hC
  | .max m gd ga gb => canon_execMax m gd ga gb s hC
  | .minu m gd ga gb => canon_execMinu m gd ga gb s hC
  | .maxu m gd ga gb => canon_execMaxu m gd ga gb s hC
  | .clz m gd ga => canon_execClz m gd ga s hC
  | .popc m gd ga => canon_execPopc m gd ga s hC
  | .mul m gd ga gb => canon_execMul m gd ga gb s hC
  | .mulhiS m gd ga gb => canon_execMulhiS m gd ga gb s hC
  | .mulhiU m gd ga gb => canon_execMulhiU m gd ga gb s hC
  | .divs m gd ga gb => canon_execDivs m gd ga gb s hC
  | .divu m gd ga gb => canon_execDivu m gd ga gb s hC
  | .mods m gd ga gb => canon_execMods m gd ga gb s hC
  | .modu m gd ga gb => canon_execModu m gd ga gb s hC
  | .addi m gd ga ix => canon_execAddi m gd ga ix s hC
  | .andi m gd ga ix => canon_execAndi m gd ga ix s hC
  | .ori m gd ga ix => canon_execOri m gd ga ix s hC
  | .xori m gd ga ix => canon_execXori m gd ga ix s hC
  | .clti m gd ga ix => canon_execClti m gd ga ix s hC
  | .cltiu m gd ga ix => canon_execCltiu m gd ga ix s hC
  | .shli m gd ga k => canon_execShli m gd ga k s hC
  | .shri m gd ga k => canon_execShri m gd ga k s hC
  | .shrai m gd ga k => canon_execShrai m gd ga k s hC
  | .rotri m gd ga k => canon_execRotri m gd ga k s hC
  | .ldhi m gd ix => canon_execLdhi m gd ix s hC
  | .addpc m gd ix => canon_execAddpc m gd ix s hC
  | .qadd m gd ga gb => canon_execQadd m gd ga gb s hC
  | .qsub m gd ga gb => canon_execQsub m gd ga gb s hC
  | .qneg m gd ga => canon_execQneg m gd ga s hC
  | .qabs m gd ga => canon_execQabs m gd ga s hC
  | .qmul m gd ga gb => canon_execQmul m gd ga gb s hC
  | .mac m gd ga gb => canon_execMac m gd ga gb s hC
  | .msu m gd ga gb => canon_execMsu m gd ga gb s hC
  | .macl m gd ga gb => canon_execMacl m gd ga gb s hC
  | .sats m gd ga gb => canon_execSats m gd ga gb s hC
  | .satu m gd ga gb => canon_execSatu m gd ga gb s hC
  | .qshl m gd ga gb => canon_execQshl m gd ga gb s hC
  | .qrshr m gd ga gb => canon_execQrshr m gd ga gb s hC
  | .ldw m gd ga ix => canon_execLdw m gd ga ix s hC
  | .ldh m gd ga ix => canon_execLdh m gd ga ix s hC
  | .ldhu m gd ga ix => canon_execLdhu m gd ga ix s hC
  | .ldb m gd ga ix => canon_execLdb m gd ga ix s hC
  | .ldbu m gd ga ix => canon_execLdbu m gd ga ix s hC
  | .stw m gd ga ix => canon_execStw m gd ga ix s hC
  | .sth m gd ga ix => canon_execSth m gd ga ix s hC
  | .stb m gd ga ix => canon_execStb m gd ga ix s hC
  | .swap m gd ga gb => canon_execSwap m gd ga gb s hC
  | .aadd m gd ga gb => canon_execAadd m gd ga gb s hC
  | .cas m gd ga gb => canon_execCas m gd ga gb s hC
  | .beq m gd ga ix => canon_execBeq m gd ga ix s hC
  | .bne m gd ga ix => canon_execBne m gd ga ix s hC
  | .blt m gd ga ix => canon_execBlt m gd ga ix s hC
  | .bge m gd ga ix => canon_execBge m gd ga ix s hC
  | .bltu m gd ga ix => canon_execBltu m gd ga ix s hC
  | .bgeu m gd ga ix => canon_execBgeu m gd ga ix s hC
  | .jal m gd ix => canon_execJal m gd ix s hC
  | .jalr m gd ga ix => canon_execJalr m gd ga ix s hC
  | .mfc m gd n => canon_execMfc m gd n s hC
  | .mtc m n ga => canon_execMtc m n ga s hC
  | .eret m => canon_execEret m s hC
  | .nret m => canon_execNret m s hC
  | .fenceAcq m => canon_execFenceAcq m s hC
  | .fenceRel m => canon_execFenceRel m s hC
  | .fenceAr m => canon_execFenceAr m s hC
  | .syscall m k => canon_execSyscall m k s hC
  | .breakTrap m => canon_execBreakTrap m s hC
  | .waiti m => canon_execWaiti m s hC
  | .waitiRelease m => canon_execWaitiRelease m s hC
  | .bmov m gd ga gb => canon_execBmov m gd ga gb s hC
  | .bfill m gd ga gb => canon_execBfill m gd ga gb s hC
  | .bcrc m p gd ga gb => canon_execBcrc m p gd ga gb s hC
  | .firv m gd ga gb => canon_execFirv m gd ga gb s hC
  | .chmode m gd ga gb => canon_execChmode m gd ga gb s hC
  | .chset m ix gd ga gb => canon_execChset m ix gd ga gb s hC
  | .chsetStart m gd ga gb => canon_execChsetStart m gd ga gb s hC
  | .chget m ix gd ga => canon_execChget m ix gd ga s hC
  | .tally m n gd => canon_execTally m n gd s hC
  | .raise m gd ga => canon_execRaise m gd ga s hC
  | .roll m gd => canon_execRoll m gd s hC
  | .rollS m gd ga => canon_execRollS m gd ga s hC
  | .waitdDep m gd ga => canon_execWaitdDep m gd ga s hC
  | .waitdMan m gd ga => canon_execWaitdMan m gd ga s hC
  | .waitdRelease m => canon_execWaitdRelease m s hC
  | .propose m gd ga gb => canon_execPropose m gd ga gb s hC
  | .retract m gd ga => canon_execRetract m gd ga s hC
  | .commit m gd ga => canon_execCommit m gd ga s hC
  | .peek m gd ga => canon_execPeek m gd ga s hC
  | .lds m w gd ga gb => canon_execLds m w gd ga gb s hC
  | .sts m w gd ga gb => canon_execSts m w gd ga gb s hC
  | .crcf m p gd ga gb => canon_execCrcf m p gd ga gb s hC
  | .maskableInterruptEntry m => canon_execMaskableInterruptEntry m s hC
  | .nmiEntry m => canon_execNmiEntry m s hC
  | .platformMismatch t => canon_execPlatformMismatch t s hC
  | .lineFillDelivery t odd => canon_execLineFillDelivery t odd s hC
  | .voteOddCore t c kind => canon_execVoteOddCore t c kind s hC
  | .l1EccError t c => canon_execL1EccError t c s hC
  | .resyncCopyComplete t => canon_execResyncCopyComplete t s hC
  | .resyncPauseRelease t agree => canon_execResyncPauseRelease t agree s hC
  | .pairRecoveryStart t kind => canon_execPairRecoveryStart t kind s hC
  | .pairRecoveryRelease t => canon_execPairRecoveryRelease t s hC
  | .timeFrameSendTimer => canon_execTimeFrameSendTimer s hC
  | .timeFrameReceive => canon_execTimeFrameReceive s hC
  | .linkDelayTimer p delay => canon_execLinkDelayTimer p delay s hC
  | .selfMasterTimeout => canon_execSelfMasterTimeout s hC
  | .masterLossTimeout => canon_execMasterLossTimeout s hC
  | .masterTakesOffice => canon_execMasterTakesOffice s hC
  | .unlockedPeriodTick => canon_execUnlockedPeriodTick s hC
  | .boundComputation => canon_execBoundComputation s hC
  | .ttPeriodWrite v => canon_execTtPeriodWrite v s hC
  | .conversionLeadStart n => canon_execConversionLeadStart n s hC
  | .departure env => canon_execDeparture env s hC
  | .entryReceive => canon_execEntryReceive s hC
  | .manifestClose => canon_execManifestClose s hC
  | .commitDeadline => canon_execCommitDeadline s hC
  | .finalNoticeReceive => canon_execFinalNoticeReceive s hC
  | .retractionReceive => canon_execRetractionReceive s hC
  | .peekReqReceive => canon_execPeekReqReceive s hC
  | .peekRepReceive => canon_execPeekRepReceive s hC
  | .pubWrite k ix v => canon_execPubWrite k ix v s hC
  | .subWrite j ix v => canon_execSubWrite j ix v s hC
  | .maniBankSizeWrite v => canon_execManiBankSizeWrite v s hC
  | .maniRevtRead t => canon_execManiRevtRead t s hC
  | .configurationComplete n => canon_execConfigurationComplete n s hC
  | .shutdownComplete n cause => canon_execShutdownComplete n cause s hC
  | .channelDieFault n cause => canon_execChannelDieFault n cause s hC
  | .isoFrameReceive n logicEnd sym => canon_execIsoFrameReceive n logicEnd sym s hC
  | .isoLinkTimeout n => canon_execIsoLinkTimeout n s hC
  | .periodicSelfCheck n pass => canon_execPeriodicSelfCheck n pass s hC
  | .sequenceTrigEdge k rising => canon_execSequenceTrigEdge k rising s hC
  | .slotComplete n r => canon_execSlotComplete n r s hC
  | .fastComparatorEvent n x => canon_execFastComparatorEvent n x s hC
  | .debouncedEdge n level => canon_execDebouncedEdge n level s hC
  | .dieTempReading n r => canon_execDieTempReading n r s hC
  | .dacGridPoint n => canon_execDacGridPoint n s hC
  | .boostUpdate n meas dropout iLimit => canon_execBoostUpdate n meas dropout iLimit s hC
  | .switchThermalShutdown n => canon_execSwitchThermalShutdown n s hC
  | .switchAutoRestart n => canon_execSwitchAutoRestart n s hC
  | .readbackComplete n value iLimit => canon_execReadbackComplete n value iLimit s hC
  | .laneRun n => canon_execLaneRun n s hC
  | .laneStop n => canon_execLaneStop n s hC
  | .laneNop n => canon_execLaneNop n s hC
  | .laneLdi n => canon_execLaneLdi n s hC
  | .laneLdh n => canon_execLaneLdh n s hC
  | .laneAddi n => canon_execLaneAddi n s hC
  | .laneAdd n => canon_execLaneAdd n s hC
  | .laneSub n => canon_execLaneSub n s hC
  | .laneBr n => canon_execLaneBr n s hC
  | .laneWait n => canon_execLaneWait n s hC
  | .laneWaitRelease n => canon_execLaneWaitRelease n s hC
  | .laneActOff n => canon_execLaneActOff n s hC
  | .laneActOn n => canon_execLaneActOn n s hC
  | .laneActSet n => canon_execLaneActSet n s hC
  | .laneActRefuge n => canon_execLaneActRefuge n s hC
  | .laneActConv n => canon_execLaneActConv n s hC
  | .laneWhistle n => canon_execLaneWhistle n s hC
  | .laneTime n => canon_execLaneTime n s hC
  | .laneDelay n => canon_execLaneDelay n s hC
  | .laneDelayExpiry n => canon_execLaneDelayExpiry n s hC
  | .laneRead n => canon_execLaneRead n s hC
  | .laneNote n => canon_execLaneNote n s hC
  | .laneClr n => canon_execLaneClr n s hC
  | .laneHalt n => canon_execLaneHalt n s hC
  | .reflexActionArrival => canon_execReflexActionArrival s hC
  | .laneCompareFault n => canon_execLaneCompareFault n s hC
  | .whistleReceive p m => canon_execWhistleReceive p m s hC
  | .diagActivation n b => canon_execDiagActivation n b s hC
  | .diagDeactivation n b => canon_execDiagDeactivation n b s hC
  | .signalDetect p => canon_execSignalDetect p s hC
  | .trainExchangeComplete p o => canon_execTrainExchangeComplete p o s hC
  | .linkDelayComplete p delay => canon_execLinkDelayComplete p delay s hC
  | .trainFailTimeout p lock => canon_execTrainFailTimeout p lock s hC
  | .trainRetry p => canon_execTrainRetry p s hC
  | .burstReceive p b => canon_execBurstReceive p b s hC
  | .ackReceive p lseq crc => canon_execAckReceive p lseq crc s hC
  | .nackReceive p lseq crc => canon_execNackReceive p lseq crc s hC
  | .markSend p => canon_execMarkSend p s hC
  | .markReceive p count crc => canon_execMarkReceive p count crc s hC
  | .replayTimeout p => canon_execReplayTimeout p s hC
  | .silentCheckInterval p => canon_execSilentCheckInterval p s hC
  | .linkLoss p c => canon_execLinkLoss p c s hC
  | .pointsClose p => canon_execPointsClose p s hC
  | .dampedEnd p => canon_execDampedEnd p s hC
  | .ringOpenTimeout => canon_execRingOpenTimeout s hC
  | .presenceTimer => canon_execPresenceTimer s hC
  | .presenceReceive => canon_execPresenceReceive s hC
  | .topologyReceive => canon_execTopologyReceive s hC
  | .assignReceive => canon_execAssignReceive s hC
  | .wakeFrameReceive => canon_execWakeFrameReceive s hC
  | .refuseReceive => canon_execRefuseReceive s hC
  | .ovTxWake node => canon_execOvTxWake node s hC
  | .ovTxAssign node => canon_execOvTxAssign node s hC
  | .ovRetrain p => canon_execOvRetrain p s hC
  | .ovPortDisable p v => canon_execOvPortDisable p v s hC
  | .sessReqReceive => canon_execSessReqReceive s hC
  | .sessionServiceStart ns => canon_execSessionServiceStart ns s hC
  | .sessRepReceive => canon_execSessRepReceive s hC
  | .requestTimeout peek id => canon_execRequestTimeout peek id s hC
  | .replayWindowRelease sid node => canon_execReplayWindowRelease sid node s hC
  | .safetyShareInterval => canon_execSafetyShareInterval s hC
  | .loadKey => canon_execLoadKey s hC
  | .entryClear => canon_execEntryClear s hC
  | .ssBootWrite v => canon_execSsBootWrite v s hC
  | .shGo n => canon_execShGo n s hC
  | .shResume n => canon_execShResume n s hC
  | .shStop n => canon_execShStop n s hC
  | .waybillFetchComplete n => canon_execWaybillFetchComplete n s hC
  | .localPieceResponse n => canon_execLocalPieceResponse n s hC
  | .localAccessTimeout n => canon_execLocalAccessTimeout n s hC
  | .pieceRetryTimer n => canon_execPieceRetryTimer n s hC
  | .crcUnitWaitTimeout n => canon_execCrcUnitWaitTimeout n s hC
  | .waybillWritebackComplete n => canon_execWaybillWritebackComplete n s hC
  | .shuntEngineMismatch n => canon_execShuntEngineMismatch n s hC
  | .plAllocRead by_ => canon_execPlAllocRead by_ s hC
  | .plFreeWrite by_ v => canon_execPlFreeWrite by_ v s hC
  | .plGiveWrite by_ v => canon_execPlGiveWrite by_ v s hC
  | .plReclaimWrite by_ v => canon_execPlReclaimWrite by_ v s hC
  | .wagonMarkComplete => canon_execWagonMarkComplete s hC
  | .plBaseWrite v => canon_execPlBaseWrite v s hC
  | .poolSweepComplete => canon_execPoolSweepComplete s hC
  | .cuClaim u => canon_execCuClaim u s hC
  | .cuRelease u => canon_execCuRelease u s hC
  | .cuStart u by_ => canon_execCuStart u by_ s hC
  | .cuFold u by_ => canon_execCuFold u by_ s hC
  | .cuData8Write u by_ v => canon_execCuData8Write u by_ v s hC
  | .cuData16Write u by_ v => canon_execCuData16Write u by_ v s hC
  | .cuData32Write u by_ v => canon_execCuData32Write u by_ v s hC
  | .walkerVisit u => canon_execWalkerVisit u s hC
  | .pageHealComplete => canon_execPageHealComplete s hC
  | .patrolPeriodEnd => canon_execPatrolPeriodEnd s hC
  | .ptLogRead => canon_execPtLogRead s hC
  | .csWrite => canon_execCsWrite s hC
  | .calCopyComplete => canon_execCalCopyComplete s hC
  | .calEraseComplete blank => canon_execCalEraseComplete blank s hC
  | .calProgramComplete => canon_execCalProgramComplete s hC
  | .calVerifyComplete good => canon_execCalVerifyComplete good s hC
  | .calCommitComplete => canon_execCalCommitComplete s hC
  | .fpKeyWrite v => canon_execFpKeyWrite v s hC
  | .fpErase => canon_execFpErase s hC
  | .fpProgram => canon_execFpProgram s hC
  | .fpEraseComplete blank => canon_execFpEraseComplete blank s hC
  | .fpProgramComplete good => canon_execFpProgramComplete good s hC
  | .sourceRaise src t => canon_execSourceRaise src t s hC
  | .wireBreak src bothOpen t => canon_execWireBreak src bothOpen t s hC
  | .wireRearm src => canon_execWireRearm src s hC
  | .collectorMismatch => canon_execCollectorMismatch s hC
  | .quietTimerExpiry => canon_execQuietTimerExpiry s hC
  | .sbCfgWrite src v => canon_execSbCfgWrite src v s hC
  | .sbLock => canon_execSbLock s hC
  | .tallyWindowOpen => canon_execTallyWindowOpen s hC
  | .tallyPeriodEnd => canon_execTallyPeriodEnd s hC
  | .tallyCountStartTimeout => canon_execTallyCountStartTimeout s hC
  | .eraseGuardExpiry => canon_execEraseGuardExpiry s hC
  | .consecClearTimeout => canon_execConsecClearTimeout s hC
  | .tallyCopyMismatch => canon_execTallyCopyMismatch s hC
  | .tlKeyWrite v => canon_execTlKeyWrite v s hC
  | .tlEnWrite v => canon_execTlEnWrite v s hC
  | .tlCtrlEnWrite en => canon_execTlCtrlEnWrite en s hC
  | .tlLock => canon_execTlLock s hC
  | .tlDbgHoldWrite hold => canon_execTlDbgHoldWrite hold s hC
  | .tlPeriodWrite v => canon_execTlPeriodWrite v s hC
  | .tlEscWrite v => canon_execTlEscWrite v s hC
  | .rfgRelWrite by_ v => canon_execRfgRelWrite by_ v s hC
  | .spxCfgWrite v => canon_execSpxCfgWrite v s hC
  | .spxGo din => canon_execSpxGo din s hC
  | .spxAbort => canon_execSpxAbort s hC
  | .spxTxFlush => canon_execSpxTxFlush s hC
  | .spxRxFlush => canon_execSpxRxFlush s hC
  | .masterFrameEnd => canon_execMasterFrameEnd s hC
  | .spxTxWindowWrite v => canon_execSpxTxWindowWrite v s hC
  | .spxRxWindowRead => canon_execSpxRxWindowRead s hC
  | .spxModeFault => canon_execSpxModeFault s hC
  | .slaveSelectFall => canon_execSlaveSelectFall s hC
  | .slaveFrameApply f => canon_execSlaveFrameApply f s hC
  | .mailboxRead => canon_execMailboxRead s hC
  | .mailboxWrite v => canon_execMailboxWrite v s hC
  | .spxNegReset => canon_execSpxNegReset s hC
  | .rollcallPadEdge rising => canon_execRollcallPadEdge rising s hC
  | .rcTrigger => canon_execRcTrigger s hC
  | .rcRelease => canon_execRcRelease s hC
  | .rcCancel => canon_execRcCancel s hC
  | .rollcallFrameReceive => canon_execRollcallFrameReceive s hC
  | .stationRollcallTime => canon_execStationRollcallTime s hC
  | .tapReset => canon_execTapReset s hC
  | .debugNop => canon_execDebugNop s hC
  | .debugRead a => canon_execDebugRead a s hC
  | .debugWrite a v => canon_execDebugWrite a v s hC
  | .debugAttach t => canon_execDebugAttach t s hC
  | .debugDetach t => canon_execDebugDetach t s hC
  | .debugHalt t => canon_execDebugHalt t s hC
  | .debugResume t => canon_execDebugResume t s hC
  | .debugStep t => canon_execDebugStep t s hC
  | .debugRegRead t x1 code => canon_execDebugRegRead t x1 code s hC
  | .debugRegWrite t x1 code v => canon_execDebugRegWrite t x1 code v s hC
  | .debugChipReset v => canon_execDebugChipReset v s hC
  | .latchingLoRead r => canon_execLatchingLoRead r s hC
  | .registerWrite by_ a v => canon_execRegisterWrite by_ a v s hC
  | .clockMonitorClears c => canon_execClockMonitorClears c s hC
  | .replayHoldBackTimeout p => canon_execReplayHoldBackTimeout p s hC
  | .presenceReachTimeout node => canon_execPresenceReachTimeout node s hC

theorem canon_step {s : State} (hC : s.Canon) : CanonO (step s) := by
  unfold step
  split
  · exact canon_advance s 1 hC
  · exact canon_exec (canon_upd hC) _

/-! ### The obligation -/

/-- Settles O4: a step is an advance of time or a command, and each of these keeps the canonical form. -/
theorem canonKept : Obligations.CanonKept := by
  unfold Obligations.CanonKept
  intro s t hC hstep
  have h := canon_step hC
  rw [hstep] at h
  exact h

end Sys2Proof.Machine
end

section
/-! PROOF. The state right after the power-on reset (O3). -/

namespace Sys2Proof.Machine

theorem vget_replicate {α : Type} {n : Nat} (x : α) (i : Fin n) : vget (Vector.replicate n x) i = x :=
  Vector.getElem_replicate i.isLt

theorem ch_reset (n : Fin 16) : State.reset.ch n = {} := vget_replicate _ n

theorem mach_reset (m : Mach) : State.reset.mach m = {} := vget_replicate _ m.idx

/-- The register file lists nothing, so that every register holds its reset word. -/
theorem getR_reset (r : Rg) : State.reset.getR r = .ofNat r.rst := rfl

/-- A field of a register whose reset word is 0 is 0. -/
theorem getF_reset_zero {f : Fd} (h : f.reg.rst = 0) : State.reset.getF f = 0 := by
  simp [State.getF, getR_reset, h, fieldOf, Word.ofNat]

theorem rg_reset (m : Mach) (g : BitVec 5) : State.reset.rg m g = 0 := by
  rw [State.rg, mach_reset]
  split
  · rfl
  · exact vget_replicate _ _

/-! ### The obligation -/

/-- Settles O3: the register file and the memories list nothing, and every part of the state stands at its default. -/
theorem resetState : Obligations.ResetState := by
  unfold Obligations.ResetState
  refine ⟨⟨rfl, rfl⟩, rfl, rfl, rfl, getR_reset, fun _ => rfl, fun n => ⟨getF_reset_zero rfl, ?_, ?_⟩, fun p => ?_, ?_, rg_reset,
    fun _ => ⟨rfl, rfl⟩⟩
  · rw [ch_reset]
  · rw [State.laneRuns, getF_reset_zero rfl]
    rfl
  · rw [State.linked, getF_reset_zero rfl]
    rfl
  · rw [State.locked, State.isF, getF_reset_zero rfl]
    rfl

end Sys2Proof.Machine
end

section
/-! PROOF. Chip resets and the reset pin (O35): the debugger's reset does not come through pads that read inactive. -/

namespace Sys2Proof.Machine

/-- A module that runs, whose pad supply has been lost after the release of its reset. -/
def State.vioInGone : State := { State.reset with phase := .running, pwr := { aux24 := true, released := true } }

/-- Without the pad supply the debug port is dead (R38), so that no chip reset comes of its command. -/
theorem exec_debugChipReset_vioInGone (v : Word) : exec (.debugChipReset v) State.vioInGone = .next State.vioInGone := by
  show ok (State.dbgCmd _ _) = _
  rw [dbgCmd_of_padsOff (show State.vioInGone.padsOff = true from rfl)]
  exact ok_of_due rfl

/-! ### The obligation -/

/-- Refutes O35: nothing in it asks for the pad supply. In a running module that has lost it (`VIO_IN_LOST` leads there) the
pads of the debug port read inactive (R38), and DEBUG_CHIP_RESET leaves the module running. -/
theorem not_chipResetsAndTheStuckPin : ¬ Obligations.ChipResetsAndTheStuckPin := by
  unfold Obligations.ChipResetsAndTheStuckPin
  rintro ⟨hresets, -⟩
  obtain ⟨-, -, hdebug, -, -⟩ := hresets State.vioInGone rfl rfl rfl (by decide)
  obtain ⟨t, hexec, ⟨hphase, -⟩, -⟩ := hdebug rfl rfl
  rw [exec_debugChipReset_vioInGone] at hexec
  cases hexec
  exact absurd hphase (by decide)

end Sys2Proof.Machine
end

section
/-! PROOF. Triad restarts and block resets (O32): the time until a deferred reset begins can bring a chip reset. -/

namespace Sys2Proof.Machine

/-- A module that runs, with a deferred reset of `SHUNT` and a whistle due to leave EAST, whose link has revision 0; the
reaction of SB40 is CHIP_RESET. -/
def State.deferredWithWhistle : State :=
  { ((State.reset.onF Fd.BLK_RST0_SHUNT).setF (Fd.OV_PSTAT_STATE 0) 2).setF (Fd.SB_CFG_REACTION 40) 5 with
    phase := .running
    rst := { deferred := [Blk.shunt.gen] }
    ov := { whistleOut := [(0, { seq := 0, hops := 1, origin := 1, lane := 0, code := 0, time := 0, check := 0 }, [.east])] } }

/-- The whistle is dropped (R378, R382), SB40 is raised, and its reaction resets the chip. -/
theorem advance_deferredWithWhistle : (State.deferredWithWhistle.advance 0).phase = .chipReset ∧
    (State.deferredWithWhistle.advance 0).Settled ∧ (State.deferredWithWhistle.advance 0).inReset .shunt = false := by
  decide +kernel

theorem startDeferred_of_not_running {s : State} (h : s.phase ≠ .running) (b : Blk) : s.startDeferred b = s :=
  if_neg (by simp [h])

/-- The chip reset overtakes the deferred one. -/
theorem exec_blockResetDeferredStart_deferredWithWhistle : exec (.blockResetDeferredStart .shunt) State.deferredWithWhistle =
    .next (State.deferredWithWhistle.advance 0) := by
  obtain ⟨hphase, hdue, -⟩ := advance_deferredWithWhistle
  show ok ((State.deferredWithWhistle.advance 0).startDeferred .shunt) = _
  rw [startDeferred_of_not_running (by rw [hphase]; decide)]
  exact ok_of_due hdue

/-! ### The obligation -/

/-- Refutes O32: at BLOCK_RESET_DEFERRED_START the time until the end of the spacing passes, and with it whistles leave
(R339). One that its link does not carry raises SB40, of which the statement does not ask that it is quiet; with the
reaction CHIP_RESET the chip reset overtakes the block's, which does not begin. -/
theorem not_restartsAndBlockResets : ¬ Obligations.RestartsAndBlockResets := by
  unfold Obligations.RestartsAndBlockResets
  rintro ⟨-, hblocks⟩
  obtain ⟨-, -, hdeferred, -⟩ := hblocks State.deferredWithWhistle .shunt rfl rfl (.inl List.mem_cons_self)
  obtain ⟨t, hexec, hreset, -⟩ := hdeferred rfl (by decide)
  rw [exec_blockResetDeferredStart_deferredWithWhistle] at hexec
  cases hexec
  obtain ⟨-, -, hnot⟩ := advance_deferredWithWhistle
  rw [hnot] at hreset
  exact absurd hreset (by decide)

end Sys2Proof.Machine
end

section
/-! SUPPORT. Rules for the obligations of clocks, reset and sleep: the end of a command that leaves nothing due, updates of
one machine put together, and reads of the vector table. -/

namespace Sys2Proof.Machine

variable (s : State)

/-! ### The end of a command -/

/-- A command that leaves nothing new due ends as it stands. -/
theorem ok_of_rst {s t : State} (h : t.rst = s.rst) (hd : s.Settled) : ok t = .next t := ok_of_due (by rw [h]; exact hd)

/-! ### Blocks in reset (R81, R91) -/

/-- The reset bits stand in two registers. -/
theorem blkBit_reg {b : Blk} {f : Fd} {i : Nat} (h : blkBit b = some (f, i)) : f.reg = Rg.BLK_RST0 ∨ f.reg = Rg.BLK_RST1 := by
  unfold blkBit at h
  split at h <;> cases h
  all_goals decide

theorem rstBit_congr {s t : State} (h0 : t.getR Rg.BLK_RST0 = s.getR Rg.BLK_RST0) (h1 : t.getR Rg.BLK_RST1 = s.getR Rg.BLK_RST1)
    (b : Blk) : t.rstBit b = s.rstBit b := by
  unfold State.rstBit
  split
  · rename_i f i hb
    have hf : t.getF f = s.getF f := by
      rcases blkBit_reg hb with h | h
      · rw [State.getF, State.getF, h, h0]
      · rw [State.getF, State.getF, h, h1]
    rw [State.bitF, State.bitF, hf]
  · rfl

theorem inReset_congr {s t : State} (h0 : t.getR Rg.BLK_RST0 = s.getR Rg.BLK_RST0) (h1 : t.getR Rg.BLK_RST1 = s.getR Rg.BLK_RST1)
    (hr : t.rst = s.rst) (b : Blk) : t.inReset b = s.inReset b := by
  rw [State.inReset, State.inReset, rstBit_congr h0 h1, hr]

/-! ### One machine -/

theorem setMach_setMach (m : Mach) (x y : MachState) : (s.setMach m x).setMach m y = s.setMach m y := by
  simp [State.setMach, vset_vset]

theorem setMach_mach (m : Mach) : s.setMach m (s.mach m) = s := by
  simp [State.setMach, State.mach]

theorem modMach_modMach (m : Mach) (f g : MachState → MachState) : (s.modMach m f).modMach m g = s.modMach m fun x => g (f x) := by
  rw [State.modMach, mach_modMach_same, State.modMach, setMach_setMach]
  rfl

theorem rc_of_machs {s t : State} {m : Mach} (h : (t.mach m).c = (s.mach m).c) (k : Fin 32) : t.rc' m k = s.rc' m k := by
  rw [State.rc', State.rc', h]

/-! ### The vector table (R110, R119) -/

/-- The vector word does not depend on what the memory and the vector base do not. -/
theorem vectorReady_congr {s t : State} {m : Mach} {i : Nat} {h : Word} (hv : s.VectorReady m i h) (hb : t.rc' m cVbase = s.rc' m cVbase)
    (hpt : t.pt = s.pt) (hsram : t.sram = s.sram) (hmark : t.sramMark = s.sramMark) (herr : t.sramErr = s.sramErr) :
    t.VectorReady m i h := by
  have ha : t.vectorAddr m i = s.vectorAddr m i := by rw [State.vectorAddr, State.vectorAddr, hb]
  obtain ⟨⟨hin, hheal, hno, hpois⟩, hw, hword⟩ := hv
  have hheal' (a n : Nat) : t.healingAt a n = s.healingAt a n := by rw [State.healingAt, State.healingAt, hpt]
  have hmark' (w : Nat) : t.markOf w = s.markOf w := by rw [State.markOf, State.markOf, hmark]
  have hread (a n : Nat) : t.sramRead a n = s.sramRead a n := by
    have hbyte : t.sramByte = s.sramByte := funext fun a => by rw [State.sramByte, State.sramByte, hsram]
    rw [State.sramRead, State.sramRead, hbyte]
  constructor
  · constructor <;> simpa only [ha, hheal', hmark', herr] using by assumption
  · simpa only [ha, hmark'] using hw
  · simpa only [ha, hread] using hword

theorem isUnwritten_eq_false {o : Option Mark} (h : o = some .written) : isUnwritten o = false := by
  rw [h]
  rfl

theorem vectorRead_of_ready {s : State} {m : Mach} {i : Nat} {h : Word} (hv : s.VectorReady m i h) :
    s.vectorRead m (s.vectorAddr m i) = (.inl h, s) := by
  obtain ⟨hready, hw, hword⟩ := hv
  have hin : inSram (s.vectorAddr m i) = true := by
    have := hready.inside
    simp only [inSram, decide_eq_true_eq]
    omega
  have hun : s.anyMark isUnwritten (s.vectorAddr m i) 4 = false := anyMark_eq_false fun k hk => isUnwritten_eq_false (hw k hk)
  rw [State.vectorRead, if_pos hin, sramLoad_of_ready hready, hun, hword]
  simp [hun, Word.ofNat]

theorem entryFetch_of_ready {s : State} {m : Mach} {i : Nat} {h : Word} (hv : s.VectorReady m i h) (ha : s.alive m = true) (ret : Word) :
    s.entryFetch m ret i = s.toHandler m h := by
  simp [State.entryFetch, hv.ready.noHeal, vectorRead_of_ready hv, ha]

/-- A machine that enters the handler at `h`: the return address, the status and the cause are saved, the level is STATION, IE is
0 and EXL is 1 (R119). -/
def MachState.enters (x : MachState) (ret cause h : Word) : MachState :=
  { x with
    c := vset (vset (vset (vset x.c cEpc (ret &&& 0xFFFF_FFFC)) cEstatus (vget x.c cStatus)) cCause cause) cStatus
      ((vget x.c cStatus ||| 5) &&& 0xFFFF_FFFD)
    pc := h &&& 0xFFFF_FFFC, wait := .none, longRun := false }

theorem enters_epc (x : MachState) (ret cause h : Word) : vget (x.enters ret cause h).c cEpc = ret &&& 0xFFFF_FFFC := by
  simp [MachState.enters, vget_vset_ne (show cEpc ≠ cStatus by decide), vget_vset_ne (show cEpc ≠ cCause by decide),
    vget_vset_ne (show cEpc ≠ cEstatus by decide)]

theorem enters_cause (x : MachState) (ret cause h : Word) : vget (x.enters ret cause h).c cCause = cause := by
  simp [MachState.enters, vget_vset_ne (show cCause ≠ cStatus by decide)]

/-- An entry whose vector word can be read. -/
theorem entry_of_ready {s : State} {m : Mach} {i : Nat} {h : Word} (hv : s.VectorReady m i h) (ha : s.alive m = true) (ret cause : Word) :
    s.entry m ret cause i = s.modMach m fun x => x.enters ret cause h := by
  have hready : State.VectorReady ((((s.wc m cEpc (ret &&& 0xFFFF_FFFC)).wc m cEstatus (s.rc' m cStatus)).wc m cCause cause).wc m cStatus
      ((s.rc' m cStatus ||| 5) &&& 0xFFFF_FFFD)) m i h := by
    refine vectorReady_congr hv ?_ rfl rfl rfl rfl
    rw [rc_wc_ne _ m (by decide), rc_wc_ne _ m (by decide), rc_wc_ne _ m (by decide), rc_wc_ne _ m (by decide)]
  show State.entryFetch _ m ret i = _
  rw [entryFetch_of_ready hready ha]
  simp only [State.toHandler, State.wc, modMach_modMach]
  rfl

end Sys2Proof.Machine
end

section
/-! PROOF. STABLED and the wake interrupt (O36). -/

namespace Sys2Proof.Machine

section Sleep
variable (s : State)

/-! ### Ready bits, gating, wake events (R86 to R89) -/

/-- The ready bit of a triad. -/
def readyBit (t : Triad) : Fd := if t = .a then Fd.SLEEP_CTRL_RDY_A else Fd.SLEEP_CTRL_RDY_B

theorem isF_setReady (t : Triad) : (s.setReady t).isF (readyBit t) = true := by
  cases t with
  | a => exact isF_onF_same s Fd.SLEEP_CTRL_RDY_A (by decide) (by decide)
  | b => exact isF_onF_same s Fd.SLEEP_CTRL_RDY_B (by decide) (by decide)

@[simp] theorem setReady_rst (t : Triad) : (s.setReady t).rst = s.rst := by cases t <;> rfl
@[simp] theorem setReady_machs (t : Triad) : (s.setReady t).machs = s.machs := by cases t <;> rfl

theorem exec_sleepReady {s : State} (hd : s.Settled) {m : Mach} (hr : s.running m = true) (hl : s.atStation m = true)
    (hs : s.split m.triad = false) : exec (.sleepReady m) s = .next (s.setReady m.triad) := by
  show execSleepReady m s = _
  rw [execSleepReady, if_pos (by simp [hr, hl]), State.readyBy, if_pos hs]
  exact ok_of_rst (setReady_rst s _) hd

/-- What stops in a channel when the cores are gated. -/
def ChanH.gate (h : ChanH) : ChanH := { h.stopSeq with rbCur := false, boostFull := false }

/-- A resynchronisation waits while the cores are gated (R189). -/
def TriadH.sleeps (x : TriadH) : TriadH := { x with phase := match x.phase with
  | .copying c => .asleep c
  | .copied c => .asleep c
  | p => p }

/-- Conversions stop, and with them the resynchronisation of each triad. -/
def State.stillTriads : State := State.each (fun t s => s.modTri t TriadH.sleeps) [.a, .b]
  (State.each (fun n s => s.modCh n ChanH.gate) all16 (s.setF Fd.SLEEP_STAT_STATE slStabled))

/-- Gating changes the state of sleep, the channels and the triads only. -/
theorem stillTriads_frame {β : Type} (p : State → β) (hc : ∀ n s, p (s.modCh n ChanH.gate) = p s)
    (ht : ∀ t s, p (s.modTri t TriadH.sleeps) = p s) : p s.stillTriads = p (s.setF Fd.SLEEP_STAT_STATE slStabled) := by
  rw [State.stillTriads, each_frame p ht, each_frame p hc]

theorem ch_stillTriads (n : Fin 16) : s.stillTriads.ch n = (s.ch n).gate := by
  have hn : n ∈ all16 := List.mem_finRange n
  rw [State.stillTriads, each_frame (fun s => s.ch n) (f := fun t s => s.modTri t TriadH.sleeps) fun _ _ => rfl,
    ch_each_modCh (l := all16) (List.nodup_finRange 16), if_pos hn]
  rfl

theorem stillTriads_rst : s.stillTriads.rst = s.rst := stillTriads_frame s State.rst (fun _ _ => rfl) fun _ _ => rfl
theorem stillTriads_machs : s.stillTriads.machs = s.machs :=
    stillTriads_frame s State.machs (fun _ _ => rfl) fun _ _ => rfl

theorem sleepState_stillTriads : s.stillTriads.sleepState = slStabled :=
  (stillTriads_frame s State.sleepState (fun _ _ => rfl) fun _ _ => rfl).trans
    (getF_setF_same s Fd.SLEEP_STAT_STATE (by decide) _)

/-- The watchdog stands still (R505). -/
def State.stopTally : State := { s with tl := { s.tl with stopped := true } }

@[simp] theorem stopTally_rst : s.stopTally.rst = s.rst := rfl
@[simp] theorem stopTally_machs : s.stopTally.machs = s.machs := rfl
@[simp] theorem stopTally_ch (n : Fin 16) : s.stopTally.ch n = s.ch n := rfl
@[simp] theorem stopTally_sleepState : s.stopTally.sleepState = s.sleepState := rfl

theorem exec_coresGated {s : State} (hp : s.phase = .running) (hd : s.Settled) (h : s.sleepState = slEntering) :
    exec .coresGated s = .next s.stillTriads.stopTally := by
  have hexec : exec .coresGated s = ok s.stillTriads.stopTally := if_pos (by simp [hp, h])
  rw [hexec]
  exact ok_of_rst ((stopTally_rst _).trans (stillTriads_rst s)) hd

@[simp] theorem wkCause_reg (k : Nat) : (wkCause k).reg = Rg.WAKE_CAUSE := by
  unfold wkCause
  split <;> rfl

/-- What a wake event does beside its cause, which is shown whether or not it is enabled (R89). -/
theorem wakeEvent_cases (k : Nat) : s.wakeEvent k = s.onF (wkCause k) ∨
    s.wakeEvent k = (s.onF (wkCause k)).setF Fd.SLEEP_STAT_STATE slWaking ∨
    s.wakeEvent k = ((s.onF (wkCause k)).onF Fd.SLEEP_STAT_ABORTED).clearReady.setF Fd.SLEEP_STAT_STATE slAwake := by
  unfold State.wakeEvent
  dsimp only
  split
  · split
    · exact .inr (.inl rfl)
    · split
      · exact .inr (.inr rfl)
      · exact .inl rfl
  · exact .inl rfl

@[simp] theorem wakeEvent_rst (k : Nat) : (s.wakeEvent k).rst = s.rst := by
  rcases wakeEvent_cases s k with h | h | h <;> rw [h] <;> rfl

@[simp] theorem wakeEvent_ov (k : Nat) : (s.wakeEvent k).ov = s.ov := by
  rcases wakeEvent_cases s k with h | h | h <;> rw [h] <;> rfl

theorem getR_clearReady_ne {r : Rg} (h : r.addr ≠ Rg.SLEEP_CTRL.addr) : s.clearReady.getR r = s.getR r :=
  (getR_offF_ne (f := Fd.SLEEP_CTRL_RDY_B) _ h).trans (getR_offF_ne (f := Fd.SLEEP_CTRL_RDY_A) s h)

theorem isF_wakeEvent_cause {k : Nat} (h : (wkCause k).lo + (wkCause k).width ≤ 32) (hw : 0 < (wkCause k).width) :
    (s.wakeEvent k).isF (wkCause k) = true := by
  have hne : (wkCause k).reg.addr ≠ Rg.SLEEP_STAT.addr ∧ (wkCause k).reg.addr ≠ Rg.SLEEP_CTRL.addr := by
    rw [wkCause_reg]
    decide
  have hon := isF_onF_same s (wkCause k) h hw
  rcases wakeEvent_cases s k with he | he | he <;> rw [he]
  · exact hon
  · rw [isF_setF_reg _ hne.1, hon]
  · rw [isF_setF_reg _ hne.1, State.isF, State.getF, getR_clearReady_ne _ hne.2, getR_onF_ne _ hne.1]
    exact hon

/-- In STABLED a wake event that is enabled wakes the module (R90). -/
theorem sleepState_wakeEvent {s : State} (h : s.sleepState = slStabled) (k : Nat) :
    (s.wakeEvent k).sleepState = if (s.getF Fd.SLEEP_CTRL_WAKE_EN).testBit k = true then slWaking else slStabled := by
  have hen : (s.onF (wkCause k)).getF Fd.SLEEP_CTRL_WAKE_EN = s.getF Fd.SLEEP_CTRL_WAKE_EN :=
    getF_setF_reg s (by rw [wkCause_reg]; decide) 1
  have hst : (s.onF (wkCause k)).sleepState = slStabled := (getF_setF_reg s (by rw [wkCause_reg]; decide) 1).trans h
  unfold State.wakeEvent
  dsimp only
  rw [hen, if_pos hst]
  split
  · exact getF_setF_same _ _ (by decide) _
  · exact hst

theorem exec_wakePinEdge {s : State} (hp : s.phase = .running) (hd : s.Settled) (hv : s.pwr.vioOk = true)
    (hb : s.getF Fd.BOOT_STAT_RESULT = 1) : exec .wakePinEdge s = .next (s.wakeEvent wkPin) := by
  show execWakePinEdge s = _
  rw [execWakePinEdge, if_pos (by simp [State.padsRead, hp, hv, hb])]
  exact ok_of_rst (wakeEvent_rst _ _) hd

/-- The always-on counter stands at its compare value (R84). -/
def State.aonMatched : State := s.setF Fd.AON_CNT_COUNT (s.getF Fd.AON_CMP_CMP)

theorem exec_aonTimerMatch {s : State} (hp : s.phase = .running) (hd : s.Settled) :
    exec .aonTimerMatch s = .next (s.aonMatched.wakeEvent wkTimer) := by
  show execAonTimerMatch s = _
  rw [execAonTimerMatch, if_pos (by simp [hp])]
  exact ok_of_rst (wakeEvent_rst _ _) hd

/-! ### The supply comes up (R90) -/

/-- A resynchronisation that has waited starts again (R189). -/
def TriadH.wakes (x : TriadH) : TriadH := { x with phase := match x.phase with
  | .asleep c => .copying c
  | p => p }

/-- A measuring channel starts its continuous sequence again (R305). -/
def State.convertAgain (n : Fin 16) (s : State) : State :=
  if s.measures n then s.modCh n fun h => h.startContinuous s.tt.clk else s

/-- The core supply is up: conversions and resynchronisations start again. -/
def State.supplied : State := State.each (fun t s => s.modTri t TriadH.wakes) [.a, .b]
  (State.each State.convertAgain all16 { s with slp := { s.slp with supplyUp := true } })

theorem supplied_frame {β : Type} (p : State → β) (hc : ∀ n f s, p (s.modCh n f) = p s)
    (ht : ∀ t s, p (s.modTri t TriadH.wakes) = p s) :
    p s.supplied = p { s with slp := { s.slp with supplyUp := true } } := by
  have hstart : ∀ n s, p (State.convertAgain n s) = p s := fun n s => by
    unfold State.convertAgain
    split
    · exact hc _ _ _
    · rfl
  rw [State.supplied, each_frame p ht, each_frame p hstart]

theorem supplied_rst : s.supplied.rst = s.rst := supplied_frame s State.rst (fun _ _ _ => rfl) fun _ _ => rfl
theorem supplied_machs : s.supplied.machs = s.machs := supplied_frame s State.machs (fun _ _ _ => rfl) fun _ _ => rfl

theorem supplied_supplyUp : s.supplied.slp.supplyUp = true := by
  rw [supplied_frame s State.slp (fun _ _ _ => rfl) fun _ _ => rfl]

theorem exec_wakeSupplyUp {s : State} (hp : s.phase = .running) (hd : s.Settled) (h : s.sleepState = slWaking)
    (hu : s.slp.supplyUp = false) : exec .wakeSupplyUp s = .next s.supplied := by
  have hexec : exec .wakeSupplyUp s = ok s.supplied := if_pos (by simp [hp, h, hu])
  rw [hexec]
  exact ok_of_rst (supplied_rst s) hd

/-! ### The wake interrupt (R90, R118, R120) -/

/-- The vector that the wake interrupt takes. -/
def State.wakeVector (m : Mach) : Nat := (s.rc' m cIvcfg).toNat % 64

/-- The wake interrupt can be taken at once: no handler runs, and the vector word can be read. -/
structure State.WakeReady (m : Mach) : Prop where
  exl : s.exl m = false
  vector : ∃ h, s.VectorReady m (64 + s.wakeVector m) h

/-- A machine stands in WAITI and takes what is delivered. -/
structure State.WaitsForWake (m : Mach) : Prop where
  alive : s.alive m = true
  present : s.machExists m = true
  canEnter : s.canEnter m = true
  noNmi : s.nmiDue m = false
  waits : (s.mach m).wait = .waiti

/-- A machine has retired its WAITI and entered the wake vector. -/
structure State.Woken (m : Mach) (x : MachState) : Prop where
  retired : x.retire = (s.mach m).retire + 1
  cause : vget x.c cCause = causeWord 0 (s.wakeVector m) 0 false true
  epc : vget x.c cEpc = ((s.mach m).pc + 4) &&& 0xFFFF_FFFC

/-- What a machine has done when the wake interrupt enters its handler: an instruction WAITI retires. -/
def MachState.rises (x : MachState) : MachState :=
  { (if x.wait = .waiti then { x with wait := .none, pc := x.pc + 4, retire := x.retire + 1, longRun := false, nmiFirst := false } else x) with
    wake := false }

theorem rises_c (x : MachState) : x.rises.c = x.c := by
  unfold MachState.rises
  split <;> rfl

theorem waitiEnd_wake (m : Mach) :
    (s.waitiEnd m).modMach m (fun x => { x with wake := false }) = s.modMach m MachState.rises := by
  unfold State.waitiEnd
  split
  · rename_i hw
    simp [State.retire, State.retireTo, State.modMach, MachState.rises, hw, setMach_setMach]
  · rename_i hw
    simp [State.modMach, MachState.rises, hw]

/-- A machine that has taken the wake interrupt: it goes on at `h` (R120). -/
def State.wokenMach (m : Mach) (h : Word) : MachState :=
  (s.mach m).rises.enters (s.mach m).rises.pc (causeWord 0 (s.wakeVector m) 0 (s.mach m).rises.longRun true) h

/-- The wake interrupt is taken by a machine whose vector word can be read. -/
theorem takeWake_of_ready {s : State} {m : Mach} (ha : s.alive m = true) (hr : s.WakeReady m) :
    ∃ h, s.takeWake m = s.setMach m (s.wokenMach m h) := by
  obtain ⟨hexl, h, hv⟩ := hr
  have hc (k : Fin 32) : (s.modMach m MachState.rises).rc' m k = s.rc' m k := rc_of_machs (by rw [mach_modMach_same, rises_c]) k
  have hexl' : (s.modMach m MachState.rises).exl m = false := by
    rw [State.exl, hc]
    exact hexl
  have hv' : (s.modMach m MachState.rises).VectorReady m (64 + s.wakeVector m) h := vectorReady_congr hv (hc cVbase) rfl rfl rfl rfl
  refine ⟨h, ?_⟩
  unfold State.takeWake
  dsimp only
  rw [waitiEnd_wake, if_neg (by rw [hexl']; decide), mach_modMach_same]
  refine (entry_of_ready hv' ha _ _).trans ?_
  rw [State.modMach, mach_modMach_same, State.modMach, setMach_setMach]
  rfl

theorem woken_wokenMach {s : State} {m : Mach} (hw : (s.mach m).wait = .waiti) (h : Word) :
    s.Woken m (s.wokenMach m h) := by
  have hr : (s.mach m).rises.longRun = false ∧ (s.mach m).rises.pc = (s.mach m).pc + 4 ∧
      (s.mach m).rises.retire = (s.mach m).retire + 1 := by simp [MachState.rises, hw]
  obtain ⟨hlong, hpc, hret⟩ := hr
  constructor
  · exact hret
  · rw [State.wokenMach, enters_cause, hlong]
  · rw [State.wokenMach, enters_epc, hpc]

/-- The delivery changes its machine only, and one that waits for it has entered its handler. -/
theorem deliverWake_of_ready {s : State} {m : Mach} (hr : s.WakeReady m) :
    ∃ x, s.deliverWake m = s.setMach m x ∧ (s.WaitsForWake m → s.Woken m x) := by
  have hc (k : Fin 32) : (s.modMach m fun x => { x with wake := true }).rc' m k = s.rc' m k :=
    rc_of_machs (by rw [mach_modMach_same]) k
  have hready : (s.modMach m fun x => { x with wake := true }).WakeReady m := by
    obtain ⟨hexl, h, hv⟩ := hr
    refine ⟨by rw [State.exl, hc]; exact hexl, h, ?_⟩
    rw [State.wakeVector, hc]
    exact vectorReady_congr hv (hc cVbase) rfl rfl rfl rfl
  have hcan : (s.modMach m fun x => { x with wake := true }).canEnter m = s.canEnter m := by
    unfold State.canEnter State.running
    rw [mach_modMach_same]
    rfl
  have hnmi : (s.modMach m fun x => { x with wake := true }).nmiDue m = s.nmiDue m := by
    rw [State.nmiDue, State.nmiDue, State.nmiActive, State.nmiActive, hc, mach_modMach_same]
  unfold State.deliverWake
  dsimp only
  rw [hcan, hnmi]
  split
  · rename_i hhere
    split
    · have ha : (s.modMach m fun x => { x with wake := true }).alive m = true := (Bool.and_eq_true_iff.1 hhere).1
      obtain ⟨h, ht⟩ := takeWake_of_ready ha hready
      refine ⟨_, ht.trans (setMach_setMach _ _ _ _), fun hw => ?_⟩
      obtain ⟨hret, hcause, hepc⟩ := woken_wokenMach (s := s.modMach m fun x => { x with wake := true })
        (by rw [mach_modMach_same]; exact hw.waits) h
      rw [mach_modMach_same] at hret hepc
      rw [State.wakeVector, hc] at hcause
      exact ⟨hret, hcause, hepc⟩
    · rename_i hno
      exact ⟨_, rfl, fun hw => absurd (by simp [hw.canEnter, hw.noNmi]) hno⟩
  · rename_i hnot
    refine ⟨s.mach m, (setMach_mach s m).symm, fun hw => absurd ?_ hnot⟩
    rw [hw.alive, hw.present]
    rfl

theorem wakeReady_congr {s t : State} {k : Mach} (hr : s.WakeReady k) (hm : (t.mach k).c = (s.mach k).c)
    (hpt : t.pt = s.pt) (hsram : t.sram = s.sram) (hmark : t.sramMark = s.sramMark) (herr : t.sramErr = s.sramErr) : t.WakeReady k := by
  have hc := rc_of_machs hm
  obtain ⟨hexl, h, hv⟩ := hr
  refine ⟨by rw [State.exl, hc]; exact hexl, h, ?_⟩
  rw [State.wakeVector, hc]
  exact vectorReady_congr hv (hc cVbase) hpt hsram hmark herr

/-- What is delivered to one machine leaves the others as they are. -/
theorem waitsForWake_setMach_ne {s : State} {k m : Mach} (h : k ≠ m) (x : MachState) (hw : s.WaitsForWake k) :
    (s.setMach m x).WaitsForWake k := by
  have hm : (s.setMach m x).mach k = s.mach k := mach_setMach_ne s h x
  obtain ⟨ha, hp, hcan, hnmi, hwait⟩ := hw
  refine ⟨ha, hp, ?_, ?_, by rw [hm]; exact hwait⟩
  · unfold State.canEnter State.running at hcan ⊢
    rw [hm]
    exact hcan
  · have hc : (s.setMach m x).rc' k cStatus = s.rc' k cStatus := rc_of_machs (by rw [hm]) cStatus
    rw [State.nmiDue, State.nmiActive] at hnmi ⊢
    rw [hc, hm]
    exact hnmi

theorem woken_of_setMach_ne {s : State} {k m : Mach} (h : k ≠ m) {x y : MachState}
    (hw : (s.setMach m x).Woken k y) : s.Woken k y := by
  have hm : (s.setMach m x).mach k = s.mach k := mach_setMach_ne s h x
  have hc : (s.setMach m x).rc' k cIvcfg = s.rc' k cIvcfg := rc_of_machs (by rw [hm]) cIvcfg
  obtain ⟨hret, hcause, hepc⟩ := hw
  rw [hm] at hret hepc
  rw [State.wakeVector, hc] at hcause
  exact ⟨hret, hcause, hepc⟩

/-- The deliveries to some machines change these only, and each that waits for its own has entered its handler. -/
theorem each_deliverWake {l : List Mach} (hl : l.Nodup) {s : State} (h : ∀ m ∈ l, s.WakeReady m) :
    { State.each State.deliverWake l s with machs := s.machs } = s ∧
      (∀ m ∈ l, s.WaitsForWake m → s.Woken m ((State.each State.deliverWake l s).mach m)) ∧
      ∀ m ∉ l, (State.each State.deliverWake l s).mach m = s.mach m := by
  induction l generalizing s with
  | nil => exact ⟨rfl, fun m hm => absurd hm List.not_mem_nil, fun _ _ => rfl⟩
  | cons m r ih =>
    obtain ⟨hm, hr⟩ := List.nodup_cons.1 hl
    obtain ⟨x, hx, hwoken⟩ := deliverWake_of_ready (h m List.mem_cons_self)
    have hne {k : Mach} (hk : k ∈ r) : k ≠ m := fun e => hm (e ▸ hk)
    obtain ⟨hrest, hin, hout⟩ := ih hr (s := s.setMach m x) fun k hk =>
      wakeReady_congr (h k (List.mem_cons_of_mem m hk)) (by rw [mach_setMach_ne s (hne hk)]) rfl rfl rfl rfl
    rw [State.each, hx]
    refine ⟨?_, fun k hk hw => ?_, fun k hk => ?_⟩
    · exact congrArg (fun t => { t with machs := s.machs }) hrest
    · rcases List.mem_cons.1 hk with rfl | hk'
      · rw [hout k hm, mach_setMach_same]
        exact hwoken hw
      · exact woken_of_setMach_ne (hne hk') (hin k hk' (waitsForWake_setMach_ne (hne hk') x hw))
    · rw [hout k fun hk' => hk (List.mem_cons_of_mem m hk'), mach_setMach_ne s fun e : k = m => hk (e ▸ List.mem_cons_self)]

/-! ### The module is awake (R90, R505) -/

/-- The module leaves STABLED, and the ready bits return to 0. -/
def State.leaveStabled : State :=
  let s := (s.setF Fd.SLEEP_STAT_STATE slAwake).clearReady
  { s with slp := { s.slp with supplyUp := false } }

/-- The watchdog counts again, from the start of a period where counting has started (R505). -/
def State.tallyOn : State :=
  if s.isF Fd.TL_STAT_STARTED then s.tlStartPeriod else { s with tl := { s.tl with stopped := false } }

/-- A period start changes the registers of the watchdog, and what it holds beside them. -/
theorem tlStartPeriod_frame {β : Type} (p : State → β)
    (hset : ∀ (s : State) (r : Rg) w, 0x40020000 ≤ r.addr → r.addr < 0x40030000 → p (s.setR r w) = p s)
    (htl : ∀ (s : State) x, p { s with tl := x } = p s) : p s.tlStartPeriod = p s := by
  have hsetF (s : State) (f : Fd) (v : Nat) (hlo : 0x40020000 ≤ f.reg.addr) (hhi : f.reg.addr < 0x40030000) : p (s.setF f v) = p s :=
    hset s f.reg _ hlo hhi
  have hif (c : Bool) (s : State) (f : Fd) (hlo : 0x40020000 ≤ f.reg.addr) (hhi : f.reg.addr < 0x40030000) :
      p (if c = true then s.onF f else s) = p s := by
    split
    · exact hsetF s f 1 hlo hhi
    · rfl
  have hopen (s : State) : p s.tlOpen = p s := by
    unfold State.tlOpen
    dsimp only
    rw [hif _ _ _ (by decide) (by decide), hif _ _ _ (by decide) (by decide)]
    exact hsetF _ _ _ (by decide) (by decide)
  have hstart (s : State) : p (if s.getF Fd.TL_STAT_WINFRAC = 0 then s.tlOpen else s) = p s := by
    split
    · exact hopen s
    · rfl
  unfold State.tlStartPeriod
  dsimp only
  rw [hstart, hif _ _ _ (by decide) (by decide)]
  exact (hsetF _ Fd.TL_STAT_OPEN 0 (by decide) (by decide)).trans ((hset _ Rg.TL_DONE 0 (by decide) (by decide)).trans (htl _ _))

theorem tallyOn_frame {β : Type} (p : State → β)
    (hset : ∀ (s : State) (r : Rg) w, 0x40020000 ≤ r.addr → r.addr < 0x40030000 → p (s.setR r w) = p s)
    (htl : ∀ (s : State) x, p { s with tl := x } = p s) : p s.tallyOn = p s := by
  unfold State.tallyOn
  split
  · exact tlStartPeriod_frame s p hset htl
  · exact htl _ _

theorem tallyOn_stopped : s.tallyOn.tl.stopped = false := by
  unfold State.tallyOn
  split
  · simp only [State.tlStartPeriod, State.tlOpen, apply_ite State.tl, onF_tl, offF_tl, setR_tl, ite_self]
  · rfl

/-- The module as it is when the wake interrupt is delivered. -/
def State.awake : State := s.leaveStabled.tallyOn

theorem awake_frame {β : Type} (p : State → β) (hset : ∀ (s : State) (r : Rg) w, p (s.setR r w) = p s)
    (htl : ∀ (s : State) x, p { s with tl := x } = p s) (hslp : ∀ (s : State) x, p { s with slp := x } = p s) : p s.awake = p s := by
  rw [State.awake, tallyOn_frame _ p (fun s r w _ _ => hset s r w) htl]
  exact (hslp _ _).trans ((hslp _ _).trans ((hset _ _ _).trans ((hset _ _ _).trans (hset _ _ _))))

theorem awake_rst : s.awake.rst = s.rst := awake_frame s State.rst (fun _ _ _ => rfl) (fun _ _ => rfl) fun _ _ => rfl
theorem awake_phase : s.awake.phase = s.phase :=
    awake_frame s State.phase (fun _ _ _ => rfl) (fun _ _ => rfl) fun _ _ => rfl
theorem awake_machs : s.awake.machs = s.machs :=
    awake_frame s State.machs (fun _ _ _ => rfl) (fun _ _ => rfl) fun _ _ => rfl
theorem awake_triads : s.awake.triads = s.triads :=
    awake_frame s State.triads (fun _ _ _ => rfl) (fun _ _ => rfl) fun _ _ => rfl
theorem awake_pt : s.awake.pt = s.pt := awake_frame s State.pt (fun _ _ _ => rfl) (fun _ _ => rfl) fun _ _ => rfl
theorem awake_sram : s.awake.sram = s.sram :=
    awake_frame s State.sram (fun _ _ _ => rfl) (fun _ _ => rfl) fun _ _ => rfl
theorem awake_sramMark : s.awake.sramMark = s.sramMark :=
    awake_frame s State.sramMark (fun _ _ _ => rfl) (fun _ _ => rfl) fun _ _ => rfl
theorem awake_sramErr : s.awake.sramErr = s.sramErr :=
    awake_frame s State.sramErr (fun _ _ _ => rfl) (fun _ _ => rfl) fun _ _ => rfl

theorem getR_tallyOn_ne {r : Rg} (h : r.addr < 0x40020000 ∨ 0x40030000 ≤ r.addr) : s.tallyOn.getR r = s.getR r :=
  tallyOn_frame s (fun s => s.getR r) (fun s q w hlo hhi => getR_setR_ne s (by omega) w) fun _ _ => rfl

/-- Awaking changes the registers of sleep and of the watchdog only. -/
theorem getR_awake_ne {r : Rg} (hc : r.addr ≠ Rg.SLEEP_CTRL.addr) (hs : r.addr ≠ Rg.SLEEP_STAT.addr)
    (ht : r.addr < 0x40020000 ∨ 0x40030000 ≤ r.addr) : s.awake.getR r = s.getR r :=
  (getR_tallyOn_ne _ ht).trans ((getR_clearReady_ne _ hc).trans (getR_setF_ne (f := Fd.SLEEP_STAT_STATE) s hs _))

theorem getF_awake_ne {f : Fd} (hc : f.reg.addr ≠ Rg.SLEEP_CTRL.addr) (hs : f.reg.addr ≠ Rg.SLEEP_STAT.addr)
    (ht : f.reg.addr < 0x40020000 ∨ 0x40030000 ≤ f.reg.addr) : s.awake.getF f = s.getF f := by
  rw [State.getF, getR_awake_ne s hc hs ht, State.getF]

theorem awake_slp : s.awake.slp = s.leaveStabled.slp :=
    tallyOn_frame _ State.slp (fun _ _ _ _ _ => rfl) fun _ _ => rfl

theorem sleepState_awake : s.awake.sleepState = slAwake := by
  rw [State.sleepState, State.getF, State.awake, getR_tallyOn_ne _ (by decide)]
  refine Eq.trans ?_ (getF_setF_same s Fd.SLEEP_STAT_STATE (by decide) slAwake)
  exact congrArg (fun w => fieldOf w 0 2) (getR_clearReady_ne _ (by decide))

theorem isF_awake_ready : s.awake.isF Fd.SLEEP_CTRL_RDY_A = false ∧ s.awake.isF Fd.SLEEP_CTRL_RDY_B = false := by
  have hreg (f : Fd) (h : f.reg = Rg.SLEEP_CTRL) : s.awake.isF f = s.leaveStabled.isF f := by
    rw [State.isF, State.isF, State.getF, State.getF, h, State.awake, getR_tallyOn_ne _ (by decide)]
  refine ⟨(hreg _ rfl).trans ?_, (hreg _ rfl).trans (isF_offF_same _ Fd.SLEEP_CTRL_RDY_B (by decide))⟩
  exact (isF_setF_field (f := Fd.SLEEP_CTRL_RDY_B) (g := Fd.SLEEP_CTRL_RDY_A) _ rfl (by decide) 0).trans
    (isF_offF_same _ Fd.SLEEP_CTRL_RDY_A (by decide))

theorem wakeReady_awake {s : State} {m : Mach} (hr : s.WakeReady m) : s.awake.WakeReady m :=
  wakeReady_congr hr (by rw [mach_of_machs (awake_machs s)]) (awake_pt s) (awake_sram s) (awake_sramMark s) (awake_sramErr s)

/-- The blocks in reset and the splits of the triads stay. -/
theorem alive_awake (m : Mach) : s.awake.alive m = s.alive m := by
  rw [State.alive, State.alive, awake_phase, inReset_congr (getR_awake_ne s (by decide) (by decide) (by decide))
    (getR_awake_ne s (by decide) (by decide) (by decide)) (awake_rst s)]

theorem machExists_awake (m : Mach) : s.awake.machExists m = s.machExists m := by
  have hsplit (t : Triad) : s.awake.split t = s.split t := by
    cases t <;> simp (disch := decide) only [State.split, State.isF, getF_awake_ne]
  rw [State.machExists, State.machExists, hsplit]

/-- Awake, the machine in WAITI runs, and nothing goes before the wake interrupt. -/
theorem waitsForWake_awake {s : State} {m : Mach} (ha : s.alive m = true) (he : s.machExists m = true)
    (hn : (s.mach m).nmi = none)
    (hh : (s.mach m).halted = false) (hw : (s.mach m).wait = .waiti) (hb : s.getF Fd.BOOT_STAT_RESULT = 1)
    (hdbg : s.isF (Fd.TR_STAT_HALTED m.triad.idx) = false) (hs : s.triadStopped m.triad = false) : s.awake.WaitsForWake m := by
  have hm : s.awake.mach m = s.mach m := mach_of_machs (awake_machs s) m
  have hdbg' : s.awake.isF (Fd.TR_STAT_HALTED m.triad.idx) = false := by
    rw [State.isF, getF_awake_ne]
    · exact hdbg
    all_goals cases m <;> decide
  have hs' : s.awake.triadStopped m.triad = false := by
    rw [State.triadStopped, State.tri, awake_triads]
    exact hs
  have hb' : s.awake.getF Fd.BOOT_STAT_RESULT = 1 := by rw [getF_awake_ne s (by decide) (by decide) (by decide), hb]
  have hsl : s.awake.getF Fd.SLEEP_STAT_STATE = 0 := sleepState_awake s
  refine ⟨(alive_awake s m).trans ha, (machExists_awake s m).trans he, ?_, ?_, by rw [hm, hw]⟩
  · rw [State.canEnter, State.running, alive_awake, machExists_awake, hm, hdbg', hs', hb', hsl, ha, he, hh, hw]
    rfl
  · rw [State.nmiDue, hm, hn]
    rfl

theorem exec_wakeInterruptDelivery {s : State} (hp : s.phase = .running) (h : s.sleepState = slWaking)
    (hu : s.slp.supplyUp = true) :
    exec .wakeInterruptDelivery s = ok (State.each State.deliverWake Mach.all s.awake) := if_pos (by simp [hp, h, hu])

end Sleep

/-! ### The obligation -/

/-- Settles O36: each command answers one named update of the state; of the wake interrupt, each delivery changes its
machine only, so that a machine in WAITI finds what it needs as the awaking left it. -/
theorem sleepAndWake : Obligations.SleepAndWake := by
  unfold Obligations.SleepAndWake
  intro s hp hd
  refine ⟨?ready, ?gated, fun h => ⟨?pin, ?timer⟩, fun h => ⟨?supply, ?delivery⟩⟩
  case ready =>
    intro m hr hl hs
    exact ⟨_, exec_sleepReady hd hr hl hs, isF_setReady s m.triad, setReady_machs s m.triad⟩
  case gated =>
    intro h
    refine ⟨_, exec_coresGated hp hd h, (stopTally_sleepState _).trans (sleepState_stillTriads s), rfl,
      (stopTally_machs _).trans (stillTriads_machs s), fun n => ?_⟩
    rw [stopTally_ch, ch_stillTriads]
    exact ⟨rfl, rfl⟩
  case pin =>
    intro hv hb
    exact ⟨_, exec_wakePinEdge hp hd hv hb, isF_wakeEvent_cause s (k := wkPin) (by decide) (by decide), sleepState_wakeEvent h wkPin⟩
  case timer =>
    have hst : s.aonMatched.sleepState = slStabled := (getF_setF_reg s (by decide) _).trans h
    have hen : s.aonMatched.getF Fd.SLEEP_CTRL_WAKE_EN = s.getF Fd.SLEEP_CTRL_WAKE_EN := getF_setF_reg s (by decide) _
    refine ⟨_, exec_aonTimerMatch hp hd, isF_wakeEvent_cause _ (k := wkTimer) (by decide) (by decide), ?_⟩
    rw [sleepState_wakeEvent hst wkTimer, hen]
    rfl
  case supply =>
    intro hu
    exact ⟨_, exec_wakeSupplyUp hp hd h hu, supplied_supplyUp s, supplied_machs s⟩
  case delivery =>
    intro hu hready
    have hwake : ∀ m ∈ Mach.all, s.awake.WakeReady m := fun m _ => by
      obtain ⟨hexl, hvec⟩ := hready m
      exact wakeReady_awake ⟨hexl, hvec⟩
    obtain ⟨hrest, hin, -⟩ := each_deliverWake (l := Mach.all) (by decide) hwake
    have hexec := exec_wakeInterruptDelivery hp h hu
    generalize State.each State.deliverWake Mach.all s.awake = t at hrest hin hexec
    have hrst : t.rst = s.rst := (congrArg State.rst hrest).trans (awake_rst s)
    have hregs : t.regs = s.awake.regs := (congrArg State.regs hrest).trans rfl
    have hslp : t.slp = s.leaveStabled.slp := (congrArg State.slp hrest).trans (awake_slp s)
    have htl : t.tl = s.awake.tl := (congrArg State.tl hrest).trans rfl
    refine ⟨t, hexec.trans (ok_of_rst hrst hd), ?_, ?_, ?_, ?_, ?_, fun m ha he hn hh hw hb hdbg hs => ?_⟩
    · exact (getF_of_regs hregs _).trans (sleepState_awake s)
    · rw [hslp]
      rfl
    · exact (isF_of_regs hregs _).trans (isF_awake_ready s).1
    · exact (isF_of_regs hregs _).trans (isF_awake_ready s).2
    · rw [htl]
      exact tallyOn_stopped _
    · have hm : s.awake.mach m = s.mach m := mach_of_machs (awake_machs s) m
      have hc (k : Fin 32) : s.awake.rc' m k = s.rc' m k := rc_of_machs (by rw [hm]) k
      obtain ⟨hret, hcause, hepc⟩ := hin m (by cases m <;> decide) (waitsForWake_awake ha he hn hh hw hb hdbg hs)
      rw [hm] at hret hepc
      rw [State.wakeVector, hc] at hcause
      refine ⟨hret, hcause.trans ?_, hepc⟩
      simp [causeWord, b2n, Word.ofNat]

end Sys2Proof.Machine
end

section
/-! PROOF. The states of a channel, its faults and its isolator link (O46). -/

namespace Sys2Proof.Machine

/-! ### The registers of a channel -/

/-- Two registers of one channel. -/
theorem chReg_ne {a b c : Nat} (h : a ≠ b) : a + c ≠ b + c := fun e => h (Nat.add_right_cancel e)

section Channel
variable (s : State) (n : Fin 16)

theorem chLive_congr {s t : State} (hp : t.phase = s.phase) (h0 : t.getR Rg.BLK_RST0 = s.getR Rg.BLK_RST0)
    (h1 : t.getR Rg.BLK_RST1 = s.getR Rg.BLK_RST1) (hr : t.rst = s.rst) (n : Fin 16) : t.chLive n = s.chLive n := by
  rw [State.chLive, State.chLive, hp, inReset_congr h0 h1 hr]

theorem phase_of_chLive {s : State} {n : Fin 16} (h : s.chLive n = true) : s.phase = .running := by
  simpa using (Bool.and_eq_true_iff.1 h).1

/-! ### The state word (R264, R266) -/

/-- A change of STATE writes registers only. -/
theorem setChSt_frame {β : Type} (p : State → β) (h : ∀ (s : State) r w, p (s.setR r w) = p s) (st : Nat) :
    p (s.setChSt n st) = p s := by
  unfold State.setChSt
  split
  · rfl
  · exact (h _ _ _).trans ((h _ _ _).trans (h _ _ _))

/-- A change of STATE reaches the state word, its copy at the die and the events. -/
theorem getR_setChSt_ne {r : Rg} (hs : r.addr ≠ (Rg.CH_STATE n.val).addr) (he : r.addr ≠ (Rg.CH_EVT n.val).addr)
    (hd : r.addr ≠ (Rg.CH_STATE_DIE n.val).addr) (st : Nat) : (s.setChSt n st).getR r = s.getR r := by
  unfold State.setChSt
  split
  · rfl
  · rw [State.dieReport, getR_setR_ne _ hd, getR_onF_ne _ he, getR_setF_ne _ hs]

theorem getF_setChSt_ne {f : Fd} (hs : f.reg.addr ≠ (Rg.CH_STATE n.val).addr)
    (he : f.reg.addr ≠ (Rg.CH_EVT n.val).addr)
    (hd : f.reg.addr ≠ (Rg.CH_STATE_DIE n.val).addr) (st : Nat) : (s.setChSt n st).getF f = s.getF f := by
  rw [State.getF, getR_setChSt_ne s n hs he hd, State.getF]

theorem chSt_setChSt {st : Nat} (h : st < 8) : (s.setChSt n st).chSt n = st := by
  unfold State.setChSt
  split
  · assumption
  · rw [State.chSt, State.dieReport, getF_setR_ne _ (chReg_ne (by decide)), State.onF, getF_setF_reg _ (chReg_ne (by decide)),
      getF_setF_same _ _ (by decide : 0 + 3 ≤ 32)]
    exact Nat.mod_eq_of_lt h

/-- The other fields of the state word stay. -/
theorem getF_setChSt_state {f : Fd} (hr : f.reg = Rg.CH_STATE n.val) (hl : 3 ≤ f.lo) (st : Nat) :
    (s.setChSt n st).getF f = s.getF f := by
  unfold State.setChSt
  split
  · rfl
  · rw [State.dieReport, getF_setR_ne _ (by rw [hr]; exact chReg_ne (by decide)), State.onF,
      getF_setF_reg _ (by rw [hr]; exact chReg_ne (by decide)),
      getF_setF_field (f := Fd.CH_STATE_STATE n.val) _ hr (.inl hl)]

/-- The other events stay. -/
theorem isF_setChSt_evt {f : Fd} (hr : f.reg = Rg.CH_EVT n.val) (hl : 1 ≤ f.lo) (st : Nat) :
    (s.setChSt n st).isF f = s.isF f := by
  unfold State.setChSt
  split
  · rfl
  · rw [State.isF, State.dieReport, getF_setR_ne _ (by rw [hr]; exact chReg_ne (by decide)), State.onF,
      getF_setF_field (f := Fd.CH_EVT_STATE_CHG n.val) _ hr (.inl hl),
      getF_setF_reg _ (by rw [hr]; exact chReg_ne (by decide)), State.isF]

theorem getR_showDiag_ne {r : Rg} (hs : r.addr ≠ (Rg.CH_STATE n.val).addr)
    (hd : r.addr ≠ (Rg.CH_STATE_DIE n.val).addr) :
    (s.showDiag n).getR r = s.getR r := by
  rw [State.showDiag, State.dieReport, getR_setR_ne _ hd, getR_setF_ne _ hs]

/-- The fields of the state word beside DIAG stay. -/
theorem getF_showDiag_state {f : Fd} (hr : f.reg = Rg.CH_STATE n.val) (hl : f.lo + f.width ≤ 11 ∨ 12 ≤ f.lo) :
    (s.showDiag n).getF f = s.getF f := by
  rw [State.showDiag, State.dieReport, getF_setR_ne _ (by rw [hr]; exact chReg_ne (by decide)), 
    getF_setF_field (f := Fd.CH_STATE_DIAG n.val) _ hr hl.symm]

/-! ### FAULTED (R256) -/

/-- What FAULTED leaves of the channel. -/
def ChanH.fault (h : ChanH) : ChanH := { h.quiet with pend := none, done := none, pos := 0 }

/-- The state word and the counts at a fault, before STATE changes. -/
def State.faultNoted (k : Nat) : State :=
  (((((((s.modCh n ChanH.fault).offF (Fd.CH_STATE_PENDING n.val)).offF (Fd.CH_STATE_MOD_REFUGE n.val)).setF (Fd.CH_STATE_FCAUSE n.val)
    k).showDiag n).setF
    (Fd.CH_FAULT_CAUSE n.val) k).incF (Fd.CH_FAULT_COUNT n.val)).onF (Fd.CH_EVT_FAULTED n.val)

theorem faultCore_eq (k : Nat) : s.faultCore n k = (s.faultNoted n k).setChSt n stFaulted := rfl

theorem faultNoted_frame {β : Type} (p : State → β) (h : ∀ (s : State) r w, p (s.setR r w) = p s) (k : Nat) :
    p (s.faultNoted n k) = p (s.modCh n ChanH.fault) :=
  (h _ _ _).trans ((h _ _ _).trans ((h _ _ _).trans ((h _ _ _).trans ((h _ _ _).trans ((h _ _ _).trans ((h _ _ _).trans (h _ _ _)))))))

/-- Beside registers a fault changes its channel only. -/
theorem faultCore_frame {β : Type} (p : State → β) (h : ∀ (s : State) r w, p (s.setR r w) = p s) (k : Nat) :
    p (s.faultCore n k) = p (s.modCh n ChanH.fault) :=
  (setChSt_frame _ n p h _).trans (faultNoted_frame s n p h k)

/-- The registers that a fault of the channel writes: the state word, its copy at the die, the events, the fault register. -/
def faultRegs (n : Nat) : List Nat := [(Rg.CH_STATE n).addr, (Rg.CH_STATE_DIE n).addr, (Rg.CH_EVT n).addr, (Rg.CH_FAULT n).addr]

theorem getR_faultCore_ne {r : Rg} (h : r.addr ∉ faultRegs n.val) (k : Nat) :
    (s.faultCore n k).getR r = s.getR r := by
  simp only [faultRegs, List.mem_cons, List.not_mem_nil, or_false, not_or] at h
  obtain ⟨hst, hdie, hevt, hflt⟩ := h
  rw [faultCore_eq, getR_setChSt_ne _ n hst hevt hdie, State.faultNoted, getR_onF_ne _ hevt, getR_incF_ne _ hflt, getR_setF_ne _ hflt,
    getR_showDiag_ne _ n hst hdie, getR_setF_ne _ hst, getR_offF_ne _ hst, getR_offF_ne _ hst]
  rfl

theorem getF_faultCore_ne {f : Fd} (h : f.reg.addr ∉ faultRegs n.val) (k : Nat) :
    (s.faultCore n k).getF f = s.getF f := by
  rw [State.getF, getR_faultCore_ne s n h, State.getF]

theorem getF_faultCore_fcause {k : Nat} (h : k < 8) : (s.faultCore n k).getF (Fd.CH_STATE_FCAUSE n.val) = k := by
  rw [faultCore_eq, getF_setChSt_state _ n rfl (by decide : 3 ≤ 12), State.faultNoted, State.onF, getF_setF_reg _ (chReg_ne (by decide)),
    State.incF, State.addF, getF_setF_reg _ (chReg_ne (by decide)), getF_setF_reg _ (chReg_ne (by decide)),
    getF_showDiag_state _ n rfl (.inr (by decide : 12 ≤ 12)), getF_setF_same _ _ (by decide : 12 + 3 ≤ 32)]
  exact Nat.mod_eq_of_lt h

theorem getF_faultCore_fault {f : Fd} (hr : f.reg = Rg.CH_FAULT n.val) (k : Nat) :
    (s.faultCore n k).getF f = ((((s.modCh n ChanH.fault).offF (Fd.CH_STATE_PENDING n.val)).offF (Fd.CH_STATE_MOD_REFUGE n.val)).setF
      (Fd.CH_STATE_FCAUSE n.val) k |>.showDiag n |>.setF (Fd.CH_FAULT_CAUSE n.val) k |>.incF (Fd.CH_FAULT_COUNT n.val)).getF f := by
  have hevt : f.reg.addr ≠ (Rg.CH_EVT n.val).addr := by rw [hr]; exact chReg_ne (by decide)
  rw [faultCore_eq, getF_setChSt_ne _ n (by rw [hr]; exact chReg_ne (by decide)) hevt (by rw [hr]; exact chReg_ne (by decide)),
    State.faultNoted, State.onF, getF_setF_reg _ hevt]

theorem getF_faultCore_cause {k : Nat} (h : k < 8) : (s.faultCore n k).getF (Fd.CH_FAULT_CAUSE n.val) = k := by
  rw [getF_faultCore_fault s n rfl, State.incF, State.addF,
    getF_setF_field (f := Fd.CH_FAULT_COUNT n.val) (g := Fd.CH_FAULT_CAUSE n.val) _ rfl (.inr (by decide : 0 + 3 ≤ 8)),
    getF_setF_same _ _ (by decide : 0 + 3 ≤ 32)]
  exact Nat.mod_eq_of_lt h

theorem getF_faultCore_count (k : Nat) :
    (s.faultCore n k).getF (Fd.CH_FAULT_COUNT n.val) = min (s.getF (Fd.CH_FAULT_COUNT n.val) + 1) 255 := by
  have hst : (Fd.CH_FAULT_COUNT n.val).reg.addr ≠ (Rg.CH_STATE n.val).addr := chReg_ne (by decide)
  rw [getF_faultCore_fault s n rfl, getF_incF_same _ _ (by decide : 8 + 8 ≤ 32), 
    getF_setF_field (f := Fd.CH_FAULT_CAUSE n.val) (g := Fd.CH_FAULT_COUNT n.val) _ rfl (.inl (by decide : 0 + 3 ≤ 8)),
    State.getF, getR_showDiag_ne _ n hst (chReg_ne (by decide)),
    getR_setF_ne _ hst, getR_offF_ne _ hst, getR_offF_ne _ hst, Nat.min_comm]
  rfl

theorem isF_faultCore_evt (k : Nat) : (s.faultCore n k).isF (Fd.CH_EVT_FAULTED n.val) = true := by
  rw [faultCore_eq, isF_setChSt_evt _ n rfl (by decide : 1 ≤ 3)]
  exact isF_onF_same _ _ (by decide : 3 + 1 ≤ 32) (by decide : 0 < 1)

/-! ### A fault reported (R256) -/

/-- `t` is as `s` for what a fault of the channel finds: only the channel itself and registers that a fault does not look at
differ. -/
structure State.AlikeFor (n : Fin 16) (s t : State) : Prop where
  live : t.chLive n = s.chLive n
  st : t.chSt n = s.chSt n
  count : t.getF (Fd.CH_FAULT_COUNT n.val) = s.getF (Fd.CH_FAULT_COUNT n.val)
  cfg : t.getR (Rg.SB_CFG (80 + n.val)) = s.getR (Rg.SB_CFG (80 + n.val))
  others : ∀ k, k ≠ n → t.ch k = s.ch k
  machs : t.machs = s.machs
  rst : t.rst = s.rst

theorem State.AlikeFor.refl : State.AlikeFor n s s := ⟨rfl, rfl, rfl, rfl, fun _ _ => rfl, rfl, rfl⟩

theorem State.AlikeFor.trans {n : Fin 16} {s t u : State} (h : s.AlikeFor n t) (g : t.AlikeFor n u) :
    s.AlikeFor n u :=
  ⟨g.live.trans h.live, g.st.trans h.st, g.count.trans h.count, g.cfg.trans h.cfg, fun k hk => (g.others k hk).trans (h.others k hk),
    g.machs.trans h.machs, g.rst.trans h.rst⟩

theorem alikeFor_modCh (f : ChanH → ChanH) : s.AlikeFor n (s.modCh n f) :=
  ⟨rfl, rfl, rfl, rfl, fun _ h => ch_modCh_ne s h f, rfl, rfl⟩

/-- A write of a register that a fault does not look at. -/
theorem alikeFor_setR {r : Rg} (h0 : Rg.BLK_RST0.addr ≠ r.addr) (h1 : Rg.BLK_RST1.addr ≠ r.addr)
    (hs : (Rg.CH_STATE n.val).addr ≠ r.addr)
    (hf : (Rg.CH_FAULT n.val).addr ≠ r.addr) (hc : (Rg.SB_CFG (80 + n.val)).addr ≠ r.addr) (w : Word) : s.AlikeFor n (s.setR r w) :=
  ⟨chLive_congr (s := s) (t := s.setR r w) rfl (getR_setR_ne s h0 w) (getR_setR_ne s h1 w) rfl n,
   getF_setR_ne s (f := Fd.CH_STATE_STATE n.val) hs w,
    getF_setR_ne s (f := Fd.CH_FAULT_COUNT n.val) hf w, getR_setR_ne s hc w, fun _ _ => rfl, rfl, rfl⟩

/-- The registers of the channels lie above those that a fault looks at elsewhere. -/
theorem alikeFor_setR_ch {r : Rg} (h : 0x40100000 ≤ r.addr) (hs : (Rg.CH_STATE n.val).addr ≠ r.addr)
    (hf : (Rg.CH_FAULT n.val).addr ≠ r.addr) (w : Word) : s.AlikeFor n (s.setR r w) := by
  have hne {a : Nat} (ha : a < 0x40100000) : a ≠ r.addr := fun e => absurd (e ▸ ha) (Nat.not_lt.2 h)
  refine alikeFor_setR s n (hne (by decide)) (hne (by decide)) hs hf (hne ?_) w
  show 0x40010100 + 0x4 * (80 + n.val) < 0x40100000
  omega

/-- A write of another field of the state word. -/
theorem alikeFor_setF_state {f : Fd} (hr : f.reg = Rg.CH_STATE n.val) (hl : 3 ≤ f.lo) (v : Nat) :
    s.AlikeFor n (s.setF f v) := by
  have hlow {a : Nat} (ha : a < 0x40100000) : a ≠ f.reg.addr := by
    rw [hr]
    exact Nat.ne_of_lt (Nat.lt_of_lt_of_le ha (Nat.le_add_right _ _))
  refine ⟨chLive_congr (s := s) (t := s.setF f v) rfl (getR_setF_ne s (hlow (by decide)) v) (getR_setF_ne s (hlow (by decide)) v) rfl n,
    getF_setF_field (g := Fd.CH_STATE_STATE n.val) s hr.symm (.inr hl) v,
    getF_setF_reg (g := Fd.CH_FAULT_COUNT n.val) s (by rw [hr]; exact chReg_ne (by decide)) v, getR_setF_ne s (hlow ?_) v, fun _ _ => rfl, rfl, rfl⟩
  show 0x40010100 + 0x4 * (80 + n.val) < 0x40100000
  omega

/-- The channel has gone from `s` into FAULTED with a cause. -/
structure State.FaultedBy (n : Fin 16) (k : Nat) (s t : State) : Prop where
  st : t.chSt n = 6
  fcause : t.getF (Fd.CH_STATE_FCAUSE n.val) = k
  cause : t.getF (Fd.CH_FAULT_CAUSE n.val) = k
  count : t.getF (Fd.CH_FAULT_COUNT n.val) = min (s.getF (Fd.CH_FAULT_COUNT n.val) + 1) 255
  evt : t.isF (Fd.CH_EVT_FAULTED n.val) = true
  sticky : t.bitF (Fd.SB_STICKY_BITS ((80 + n.val) / 32)) ((80 + n.val) % 32) = true
  regSlot : (t.ch n).regSlot = none
  injSlot : (t.ch n).injSlot = none
  pend : (t.ch n).pend = none
  others : ∀ k, k ≠ n → t.ch k = s.ch k
  machs : t.machs = s.machs

theorem faultable {s : State} {n : Fin 16} {k : Nat} (hl : s.chLive n = true) (h6 : s.chSt n ≠ 6)
    (h0 : s.chSt n ≠ 0 ∨ k ≤ 4)
    (ht : k ≠ 6 ∨ s.chSt n = 1) (h1 : 1 ≤ k) (h7 : k ≤ 7) : s.canFault n k = true := by
  simp [State.canFault, stFaulted, stOff, stConfiguring, hl, h6, h0, ht, h1, h7]

theorem canFault_bounds {s : State} {n : Fin 16} {k : Nat} (h : s.canFault n k = true) : k ≤ 7 := by
  simpa using (Bool.and_eq_true_iff.1 h).2

/-- The registers of a channel lie above the sticky bits. -/
theorem sticky_lt_ch (k : Nat) (hk : k < 128) (a : Nat) (ha : 0x40100000 ≤ a) :
    a ≠ 0x40010040 + 0x4 * (k / 32) := by omega

section Reported
variable {s t : State} {n : Fin 16} {k : Nat} (ha : s.AlikeFor n t) (hc : s.canFault n k = true) (hq : s.Quiet (80 + n.val))
include ha hc hq

theorem chFault_eq : t.chFault n k = (t.faultCore n k).sticky (80 + n.val) := by
  have hcan : t.canFault n k = true := by
    rw [State.canFault, ha.live, ha.st]
    exact hc
  have hcfg : ((t.faultCore n k)).getR (Rg.SB_CFG (80 + n.val)) = s.getR (Rg.SB_CFG (80 + n.val)) := by
    rw [getR_faultCore_ne, ha.cfg]
    simp only [faultRegs, List.mem_cons, List.not_mem_nil, or_false, Rg.SB_CFG, Rg.CH_STATE, Rg.CH_STATE_DIE, Rg.CH_EVT, Rg.CH_FAULT]
    omega
  have hquiet : (t.faultCore n k).Quiet (80 + n.val) := by
    rw [State.Quiet, State.isF, State.getF, State.getF, show (Fd.SB_CFG_REACTION (80 + n.val)).reg = Rg.SB_CFG (80 + n.val) from rfl,
      show (Fd.SB_CFG_ROLL (80 + n.val)).reg = Rg.SB_CFG (80 + n.val) from rfl, hcfg]
    exact hq
  rw [State.chFault, if_pos hcan, raise_of_quiet (by omega) hquiet]

theorem chFault_rst : (t.chFault n k).rst = s.rst := by
  rw [chFault_eq ha hc hq, sticky_rst, faultCore_frame t n State.rst fun _ _ _ => rfl]
  exact ha.rst

/-- A register beside those that the fault writes. -/
theorem getF_chFault_ne {f : Fd} (h : f.reg.addr ∉ faultRegs n.val)
    (hs : f.reg.addr ≠ 0x40010040 + 0x4 * ((80 + n.val) / 32)) :
    (t.chFault n k).getF f = t.getF f := by
  rw [chFault_eq ha hc hq, getF_sticky_ne _ hs, getF_faultCore_ne t n h]

theorem faultedBy_chFault : s.FaultedBy n k (t.chFault n k) := by
  have h8 : k < 8 := Nat.lt_succ_of_le (canFault_bounds hc)
  have hfield {f : Fd} (hf : 0x40100000 ≤ f.reg.addr) : ((t.faultCore n k).sticky (80 + n.val)).getF f = (t.faultCore n k).getF f :=
    getF_sticky_ne _ (sticky_lt_ch _ (by omega) _ hf)
  have hch (j : Fin 16) : ((t.faultCore n k).sticky (80 + n.val)).ch j = (t.modCh n ChanH.fault).ch j :=
    faultCore_frame t n (fun s => s.ch j) (fun _ _ _ => rfl) k
  rw [chFault_eq ha hc hq]
  refine ⟨?_, ?_, ?_, ?_, ?_, bitF_sticky _ _, ?_, ?_, ?_, fun j hj => ?_, ?_⟩
  · rw [State.chSt, hfield (Nat.le_add_right _ _), ← State.chSt, faultCore_eq, chSt_setChSt _ n (by decide)]
    rfl
  · rw [hfield (Nat.le_add_right _ _), getF_faultCore_fcause t n h8]
  · rw [hfield (Nat.le_trans (by decide) (Nat.le_add_right _ _)), getF_faultCore_cause t n h8]
  · rw [hfield (Nat.le_trans (by decide) (Nat.le_add_right _ _)), getF_faultCore_count, ha.count]
  · rw [State.isF, hfield (Nat.le_trans (by decide) (Nat.le_add_right _ _)), ← State.isF, isF_faultCore_evt]
  · rw [hch, ch_modCh_same]
    rfl
  · rw [hch, ch_modCh_same]
    rfl
  · rw [hch, ch_modCh_same]
    rfl
  · rw [hch, ch_modCh_ne t hj, ha.others j hj]
  · exact (faultCore_frame t n State.machs (fun _ _ _ => rfl) k).trans ha.machs

end Reported

/-! ### Configuration and shutdown (R251, R257, R290) -/

/-- `CH_TIMES` shows how long the configuration, and the shutdown, took. -/
def State.cfgTimed : State := s.setF (Fd.CH_TIMES_CFG_US n.val) (s.usSince (s.ch n).since)
def State.shutTimed : State := s.setF (Fd.CH_TIMES_SHUT_US n.val) (s.usSince (s.ch n).since)

theorem usSince_lt (t : Nat) : s.usSince t < 2 ^ 16 := Nat.lt_succ_of_le (Nat.min_le_left _ _)

theorem alikeFor_cfgTimed : s.AlikeFor n (s.cfgTimed n) :=
  alikeFor_setR_ch s n (r := Rg.CH_TIMES n.val) (Nat.le_trans (by decide) (Nat.le_add_right _ _)) (chReg_ne (by decide)) (chReg_ne (by decide)) _

theorem alikeFor_shutTimed : s.AlikeFor n (s.shutTimed n) :=
  alikeFor_setR_ch s n (r := Rg.CH_TIMES n.val) (Nat.le_trans (by decide) (Nat.le_add_right _ _)) (chReg_ne (by decide)) (chReg_ne (by decide)) _

theorem getF_cfgTimed : (s.cfgTimed n).getF (Fd.CH_TIMES_CFG_US n.val) = s.usSince (s.ch n).since := by
  rw [State.cfgTimed, getF_setF_same _ _ (by decide : 0 + 16 ≤ 32)]
  exact Nat.mod_eq_of_lt (usSince_lt s _)

theorem getF_shutTimed : (s.shutTimed n).getF (Fd.CH_TIMES_SHUT_US n.val) = s.usSince (s.ch n).since := by
  rw [State.shutTimed, getF_setF_same _ _ (by decide : 16 + 16 ≤ 32)]
  exact Nat.mod_eq_of_lt (usSince_lt s _)

theorem times_not_mem_faultRegs : (Rg.CH_TIMES n.val).addr ∉ faultRegs n.val := by
  simp [faultRegs, Rg.CH_TIMES, Rg.CH_STATE, Rg.CH_STATE_DIE, Rg.CH_EVT, Rg.CH_FAULT]

/-- The channel as the end of SHUTTING leaves it. -/
def ChanH.off (h : ChanH) (now : Nat) : ChanH :=
  { next := h.next, later := h.later, pend := h.pend, offAt := now, badTimes := h.badTimes
    level := h.level, fastIn := h.fastIn, actSeq := h.actSeq, pLow := h.pLow }

/-- The record is cleared. -/
def State.recCleared : State := State.each (fun w s => s.setR (Rg.CH_REC n.val w) 0) (List.range 16) s

/-- The state word and the record of a channel that reaches OFF, before STATE changes. -/
def State.offNoted : State :=
  ((((((s.setCh n ((s.ch n).off s.now)).recCleared n).setF (Fd.CH_STATE_MODE n.val) 0).offF (Fd.CH_STATE_PENDING n.val)).offF
    (Fd.CH_STATE_MOD_REFUGE n.val)).setF (Fd.CH_STATE_FCAUSE n.val) 0).showDiag n

theorem toOff_eq : s.toOff n = (s.offNoted n).setChSt n stOff := rfl

theorem recCleared_frame {β : Type} (p : State → β) (h : ∀ (s : State) r w, p (s.setR r w) = p s) :
    p (s.recCleared n) = p s :=
  each_frame p (f := fun w s => s.setR (Rg.CH_REC n.val w) 0) (fun _ _ => h _ _ _) _ _

/-- Beside registers OFF changes its channel only. -/
theorem toOff_frame {β : Type} (p : State → β) (h : ∀ (s : State) r w, p (s.setR r w) = p s) :
    p (s.toOff n) = p (s.setCh n ((s.ch n).off s.now)) :=
  (setChSt_frame _ n p h _).trans ((h _ _ _).trans ((h _ _ _).trans ((h _ _ _).trans ((h _ _ _).trans ((h _ _ _).trans ((h _ _ _).trans
    (recCleared_frame _ n p h)))))))

/-- The record words lie above the other registers of the channel. -/
theorem getR_recCleared_low {r : Rg} (h : r.addr < (Rg.CH_REC n.val 0).addr) : (s.recCleared n).getR r = s.getR r :=
  each_frame (fun s => s.getR r) (f := fun w s => s.setR (Rg.CH_REC n.val w) 0)
    (fun _ s => getR_setR_ne s (Nat.ne_of_lt (Nat.lt_of_lt_of_le h (Nat.add_le_add_left (Nat.zero_le _) _))) 0) _ _

theorem getR_recCleared {w : Nat} (h : w < 16) : (s.recCleared n).getR (Rg.CH_REC n.val w) = 0 := by
  have hinj {i j : Nat} (hij : i ≠ j) : (Rg.CH_REC n.val i).addr ≠ (Rg.CH_REC n.val j).addr := by
    show 0x40100100 + 0x10000 * n.val + 0x4 * i ≠ 0x40100100 + 0x10000 * n.val + 0x4 * j
    omega
  have hlist (l : List Nat) (s : State) (hw : w ∈ l ∨ s.getR (Rg.CH_REC n.val w) = 0) :
      (State.each (fun w s => s.setR (Rg.CH_REC n.val w) 0) l s).getR (Rg.CH_REC n.val w) = 0 := by
    induction l generalizing s with
    | nil => exact hw.resolve_left List.not_mem_nil
    | cons i r ih =>
      refine ih _ ?_
      by_cases hi : w = i
      · exact .inr (by rw [hi, getR_setR_same])
      · rw [getR_setR_ne s (hinj hi)]
        exact hw.imp_left fun hm => (List.mem_cons.1 hm).resolve_left hi
  exact hlist _ s (.inl (List.mem_range.2 h))

theorem getR_toOff_ne {r : Rg} (hs : r.addr ≠ (Rg.CH_STATE n.val).addr) (he : r.addr ≠ (Rg.CH_EVT n.val).addr)
    (hd : r.addr ≠ (Rg.CH_STATE_DIE n.val).addr) : (s.toOff n).getR r = ((s.setCh n ((s.ch n).off s.now)).recCleared n).getR r := by
  rw [toOff_eq, getR_setChSt_ne _ n hs he hd, State.offNoted, getR_showDiag_ne _ n hs hd, getR_setF_ne _ hs, getR_offF_ne _ hs,
    getR_offF_ne _ hs, getR_setF_ne _ hs]

theorem getF_toOff_mode : (s.toOff n).getF (Fd.CH_STATE_MODE n.val) = 0 := by
  rw [toOff_eq, getF_setChSt_state _ n rfl (by decide : 3 ≤ 4), State.offNoted, getF_showDiag_state _ n rfl (.inl (by decide : 4 + 4 ≤ 11)),
    getF_setF_field (f := Fd.CH_STATE_FCAUSE n.val) (g := Fd.CH_STATE_MODE n.val) _ rfl (.inr (by decide : 4 + 4 ≤ 12)), State.offF, State.offF,
    getF_setF_field (f := Fd.CH_STATE_MOD_REFUGE n.val) (g := Fd.CH_STATE_MODE n.val) _ rfl (.inr (by decide : 4 + 4 ≤ 10)),
    getF_setF_field (f := Fd.CH_STATE_PENDING n.val) (g := Fd.CH_STATE_MODE n.val) _ rfl (.inl (by decide : 3 + 1 ≤ 4)),
    getF_setF_same _ _ (by decide : 4 + 4 ≤ 32)]
  rfl

theorem exec_configurationComplete {s : State} {n : Fin 16} (hl : s.chLive n = true) (hd : s.Settled)
    (h1 : s.chSt n = 1)
    (hn : (s.ch n).done = none) (hg : (s.otp.trim.get n).good = true) :
    exec (.configurationComplete n) s = .next ((s.cfgTimed n).modCh n fun h => { h with done := some s.now }) := by
  show execConfigurationComplete n s = _
  rw [execConfigurationComplete, if_pos (by simp [hl, h1, hn, stConfiguring]), if_neg (by simp [hg])]
  exact ok_of_rst rfl hd

theorem exec_configurationComplete_trim {s : State} {n : Fin 16} (hl : s.chLive n = true) (hd : s.Settled)
    (hq : s.Quiet (80 + n.val))
    (h1 : s.chSt n = 1) (hn : (s.ch n).done = none) (hg : (s.otp.trim.get n).good = false) :
    ∃ t, exec (.configurationComplete n) s = .next t ∧ s.FaultedBy n 6 t := by
  have hc : s.canFault n 6 = true := faultable hl (by omega) (by omega) (by omega) (by decide) (by decide)
  refine ⟨_, ?_, faultedBy_chFault (State.AlikeFor.refl s n) hc hq⟩
  show execConfigurationComplete n s = _
  rw [execConfigurationComplete, if_pos (by simp [hl, h1, hn, stConfiguring]), if_pos (by simp [hg])]
  exact ok_of_rst (chFault_rst (State.AlikeFor.refl s n) hc hq) hd

/-- OFF is reached, and noted. -/
def State.offReached : State := ((s.shutTimed n).toOff n).onF (Fd.CH_EVT_OFF_REACHED n.val)

theorem chs_offReached : (s.offReached n).chs = (s.setCh n ((s.ch n).off s.now)).chs := by
  rw [State.offReached, onF_chs, toOff_frame (s.shutTimed n) n State.chs fun _ _ _ => rfl]
  rfl

theorem ch_offReached (k : Fin 16) : (s.offReached n).ch k = (s.setCh n ((s.ch n).off s.now)).ch k :=
  congrArg (fun v => vget v k) (chs_offReached s n)

theorem rst_offReached : (s.offReached n).rst = s.rst := by
  rw [State.offReached, onF_rst, toOff_frame (s.shutTimed n) n State.rst fun _ _ _ => rfl]
  rfl

theorem chSt_offReached : (s.offReached n).chSt n = 0 := by
  rw [State.chSt, State.offReached, State.onF, getF_setF_reg _ (chReg_ne (by decide)), ← State.chSt, toOff_eq, chSt_setChSt _ n (by decide)]
  rfl

theorem getF_offReached_mode : (s.offReached n).getF (Fd.CH_STATE_MODE n.val) = 0 := by
  rw [State.offReached, State.onF, getF_setF_reg _ (chReg_ne (by decide)), getF_toOff_mode]

theorem getF_offReached_time : (s.offReached n).getF (Fd.CH_TIMES_SHUT_US n.val) = s.usSince (s.ch n).since := by
  rw [State.offReached, State.onF, getF_setF_reg _ (chReg_ne (by decide)), State.getF, getR_toOff_ne _ n (chReg_ne (by decide))
    (chReg_ne (by decide)) (chReg_ne (by decide)), getR_recCleared_low]
  · exact getF_shutTimed s n
  · show 0x40100024 + 0x10000 * n.val < 0x40100100 + 0x10000 * n.val + 0x4 * 0
    omega

theorem getR_offReached_rec {w : Nat} (h : w < 16) : (s.offReached n).getR (Rg.CH_REC n.val w) = 0 := by
  have hne {a : Nat} (ha : a < 0x40100100) : (Rg.CH_REC n.val w).addr ≠ a + 0x10000 * n.val := by
    show 0x40100100 + 0x10000 * n.val + 0x4 * w ≠ _
    omega
  rw [State.offReached, getR_onF_ne _ (hne (by decide)), getR_toOff_ne _ n (hne (by decide)) (hne (by decide)) (hne (by decide)),
    getR_recCleared _ n h]

/-- The restart check has passed (R257). -/
theorem exec_shutdownComplete {s : State} {n : Fin 16} (hl : s.chLive n = true) (hd : s.Settled) (h4 : s.chSt n = 4) :
    exec (.shutdownComplete n none) s = .next (s.offReached n) := by
  show execShutdownComplete n none s = _
  rw [execShutdownComplete, if_pos (by simp [hl, h4, stShutting])]
  exact ok_of_rst (rst_offReached s n) hd

theorem exec_shutdownComplete_fails {s : State} {n : Fin 16} {c : Fin 8} (hl : s.chLive n = true)
    (hd : s.Settled) (hq : s.Quiet (80 + n.val))
    (h4 : s.chSt n = 4) (h1 : 1 ≤ c.val) (h6 : c.val ≠ 6) :
    exec (.shutdownComplete n (some c)) s = .next ((s.shutTimed n).chFault n c.val) ∧ s.FaultedBy n c.val ((s.shutTimed n).chFault n c.val) ∧
      ((s.shutTimed n).chFault n c.val).getF (Fd.CH_TIMES_SHUT_US n.val) = s.usSince (s.ch n).since := by
  have hc : s.canFault n c.val = true := faultable hl (by omega) (by omega) (by omega) h1 (Nat.le_of_lt_succ c.isLt)
  have ha := alikeFor_shutTimed s n
  refine ⟨?_, faultedBy_chFault ha hc hq, ?_⟩
  · show execShutdownComplete n (some c) s = _
    rw [execShutdownComplete, if_pos (by simp [hl, h4, stShutting])]
    exact ok_of_rst (chFault_rst ha hc hq) hd
  · rw [getF_chFault_ne ha hc hq (times_not_mem_faultRegs n) (sticky_lt_ch _ (by omega) _ (Nat.le_trans (by decide) (Nat.le_add_right _ _))),
      getF_shutTimed]

/-! ### The isolator link (R245, R246) -/

/-- A bad frame is counted and shown. -/
def State.badFrame : State :=
  (((s.incF (Fd.CH_LINK_BAD_FRAMES n.val)).onF (Fd.CH_STATE_LINK_ERR n.val)).onF (Fd.CH_EVT_LINK_ERR n.val)).dieReport n

theorem alikeFor_badFrame : s.AlikeFor n (s.badFrame n) := by
  have hcount := alikeFor_setR_ch s n (r := Rg.CH_LINK n.val) (Nat.le_trans (by decide) (Nat.le_add_right _ _)) (chReg_ne (by decide))
    (chReg_ne (by decide))
  have hshown (s : State) := alikeFor_setF_state s n (f := Fd.CH_STATE_LINK_ERR n.val) rfl (by decide : 3 ≤ 9) 1
  have hevt (s : State) := alikeFor_setR_ch s n (r := Rg.CH_EVT n.val) (Nat.le_trans (by decide) (Nat.le_add_right _ _)) (chReg_ne (by decide))
    (chReg_ne (by decide))
  have hdie (s : State) := alikeFor_setR_ch s n (r := Rg.CH_STATE_DIE n.val) (Nat.le_trans (by decide) (Nat.le_add_right _ _))
    (chReg_ne (by decide)) (chReg_ne (by decide))
  exact (((hcount _).trans (hshown _)).trans (hevt _ _)).trans (hdie _ _)

theorem badFrame_frame {β : Type} (p : State → β) (h : ∀ (s : State) r w, p (s.setR r w) = p s) :
    p (s.badFrame n) = p s :=
  (h _ _ _).trans ((h _ _ _).trans ((h _ _ _).trans (h _ _ _)))

theorem getF_badFrame_link {f : Fd} (hr : f.reg = Rg.CH_LINK n.val) :
    (s.badFrame n).getF f = (s.incF (Fd.CH_LINK_BAD_FRAMES n.val)).getF f := by
  rw [State.badFrame, State.dieReport, getF_setR_ne _ (by rw [hr]; exact chReg_ne (by decide)), State.onF, State.onF,
    getF_setF_reg _ (by rw [hr]; exact chReg_ne (by decide)), getF_setF_reg _ (by rw [hr]; exact chReg_ne (by decide))]

theorem getF_badFrame_count : (s.badFrame n).getF (Fd.CH_LINK_BAD_FRAMES n.val) =
    min (s.getF (Fd.CH_LINK_BAD_FRAMES n.val) + 1) 65535 := by
  rw [getF_badFrame_link s n rfl, getF_incF_same _ _ (by decide : 0 + 16 ≤ 32), Nat.min_comm]
  rfl

theorem getF_badFrame_losses : (s.badFrame n).getF (Fd.CH_LINK_LOSSES n.val) = s.getF (Fd.CH_LINK_LOSSES n.val) := by
  rw [getF_badFrame_link s n rfl, State.incF, State.addF,
    getF_setF_field (f := Fd.CH_LINK_BAD_FRAMES n.val) (g := Fd.CH_LINK_LOSSES n.val) _ rfl (.inl (by decide : 0 + 16 ≤ 24))]

theorem isF_badFrame_evt : (s.badFrame n).isF (Fd.CH_EVT_LINK_ERR n.val) = true := by
  rw [State.badFrame, State.dieReport, State.isF, getF_setR_ne _ (chReg_ne (by decide)), ← State.isF]
  exact isF_onF_same _ _ (by decide : 7 + 1 ≤ 32) (by decide : 0 < 1)

theorem isF_badFrame_state : (s.badFrame n).isF (Fd.CH_STATE_LINK_ERR n.val) = true := by
  rw [State.badFrame, State.dieReport, State.isF, getF_setR_ne _ (chReg_ne (by decide)), State.onF, State.onF,
    getF_setF_reg _ (chReg_ne (by decide)), ← State.isF]
  exact isF_onF_same _ _ (by decide : 9 + 1 ≤ 32) (by decide : 0 < 1)

/-- The end of the link that repeats a frame counts its repeats. -/
def ChanH.repeated (h : ChanH) (logicEnd : Bool) (sym : IsoSymbol) : ChanH :=
  if logicEnd then { h with isoToLogic := isoRepeat sym h.isoToLogic } else { h with isoToDie := isoRepeat sym h.isoToDie }

/-- When the bad frames of the last millisecond came in at the logic end. -/
def State.recentBad : List Nat := (s.ch n).badTimes.filter fun t => s.now - t ≤ 1000000

theorem isoGood_isoFrame (data : Word) : isoGood (.frame (isoFrame data)) = true := by
  have hdata : (isoFrame data).extractLsb' 8 32 = data := BitVec.extractLsb'_append_eq_left
  simp [isoGood, hdata]

theorem exec_isoFrameReceive_good {s : State} {n : Fin 16} (hl : s.chLive n = true) (hd : s.Settled) (e : Bool)
    {sym : IsoSymbol} (hg : isoGood sym = true) :
    exec (.isoFrameReceive n e sym) s = .next (s.modCh n fun h => h.repeated e sym) := by
  show execIsoFrameReceive n e sym s = _
  rw [execIsoFrameReceive, if_neg (by simp [hl]), if_pos hg]
  exact ok_of_rst rfl hd

/-- What a bad frame leaves, before the loss of the link is judged. -/
def State.badReceived (e : Bool) (sym : IsoSymbol) : State := (s.modCh n fun h => h.repeated e sym).badFrame n

theorem alikeFor_badReceived (e : Bool) (sym : IsoSymbol) : s.AlikeFor n (s.badReceived n e sym) :=
  (alikeFor_modCh s n _).trans (alikeFor_badFrame _ n)

theorem ch_badReceived (e : Bool) (sym : IsoSymbol) : (s.badReceived n e sym).ch n = (s.ch n).repeated e sym :=
  (badFrame_frame _ n (fun s => s.ch n) fun _ _ _ => rfl).trans (ch_modCh_same s n _)

theorem now_badReceived (e : Bool) (sym : IsoSymbol) : (s.badReceived n e sym).now = s.now :=
  badFrame_frame _ n State.now fun _ _ _ => rfl

@[simp] theorem repeated_badTimes (h : ChanH) (e : Bool) (sym : IsoSymbol) : (h.repeated e sym).badTimes = h.badTimes := by
  cases e <;> rfl

theorem recentBad_badReceived (e : Bool) (sym : IsoSymbol) : (s.badReceived n e sym).recentBad n = s.recentBad n := by
  rw [State.recentBad, State.recentBad, ch_badReceived, now_badReceived, repeated_badTimes]

/-- The time of a bad frame stands at the logic end. -/
def State.noteBad : State := s.modCh n fun h => { h with badTimes := s.now :: s.recentBad n }

theorem alikeFor_noteBad : s.AlikeFor n (s.noteBad n) := alikeFor_modCh s n _

/-- What a bad frame at the logic end leaves. -/
def State.badNoted (sym : IsoSymbol) : State := (s.badReceived n true sym).noteBad n

theorem alikeFor_badNoted (sym : IsoSymbol) : s.AlikeFor n (s.badNoted n sym) :=
  (alikeFor_badReceived s n true sym).trans (alikeFor_noteBad (s.badReceived n true sym) n)

/-- The loss of the link is counted. -/
def State.linkLost (n : Fin 16) (s : State) : State := s.incF (Fd.CH_LINK_LOSSES n.val)

theorem alikeFor_linkLost : s.AlikeFor n (s.linkLost n) :=
  alikeFor_setR_ch s n (r := Rg.CH_LINK n.val) (Nat.le_trans (by decide) (Nat.le_add_right _ _)) (chReg_ne (by decide)) (chReg_ne (by decide)) _

theorem getF_linkLost : (s.linkLost n).getF (Fd.CH_LINK_LOSSES n.val) =
    min (s.getF (Fd.CH_LINK_LOSSES n.val) + 1) 255 := by
  rw [State.linkLost, getF_incF_same _ _ (by decide : 24 + 8 ≤ 32), Nat.min_comm]
  rfl

/-- The loss of the link is judged at the logic end. -/
def State.judgeLink : State :=
  if 8 ≤ (s.now :: s.recentBad n).length ∧ (s.noteBad n).chSt n ≠ stFaulted then ((s.noteBad n).linkLost n).chFault n 2 else s.noteBad n

theorem exec_isoFrameReceive_logic {s : State} {n : Fin 16} (hl : s.chLive n = true) {sym : IsoSymbol}
    (hg : isoGood sym = false) :
    exec (.isoFrameReceive n true sym) s = ok ((s.badReceived n true sym).judgeLink n) := by
  show execIsoFrameReceive n true sym s = _
  rw [execIsoFrameReceive, if_neg (by simp [hl]), if_neg (by simp [hg]), if_pos rfl]
  simp only [State.judgeLink, State.recentBad, State.noteBad, State.linkLost, State.badReceived, State.badFrame, ChanH.repeated, apply_ite ok]

theorem exec_isoFrameReceive_die {s : State} {n : Fin 16} (hl : s.chLive n = true) {sym : IsoSymbol}
    (hg : isoGood sym = false) :
    exec (.isoFrameReceive n false sym) s = ok (s.badReceived n false sym) := by
  show execIsoFrameReceive n false sym s = _
  rw [execIsoFrameReceive, if_neg (by simp [hl]), if_neg (by simp [hg])]
  rfl

/-- The eighth bad frame within 1 ms at the logic end loses the link, unless the channel is FAULTED. -/
theorem judgeLink_badReceived (sym : IsoSymbol) : (s.badReceived n true sym).judgeLink n =
    if 7 ≤ (s.recentBad n).length ∧ s.chSt n ≠ 6 then ((s.badNoted n sym).linkLost n).chFault n 2 else s.badNoted n sym := by
  have hiff : (8 ≤ ((s.badReceived n true sym).now :: (s.badReceived n true sym).recentBad n).length ∧
      ((s.badReceived n true sym).noteBad n).chSt n ≠ stFaulted) ↔ 7 ≤ (s.recentBad n).length ∧ s.chSt n ≠ 6 := by
    rw [recentBad_badReceived, List.length_cons, ← State.badNoted, (alikeFor_badNoted s n sym).st, stFaulted]
    exact and_congr_left' Nat.succ_le_succ_iff
  exact if_congr hiff rfl rfl

theorem isoRepeat_frame {b : BitVec 40} (hg : isoGood (.frame b) = false) (k : Nat) :
    isoRepeat (.frame b) k = if k < 3 then k + 1 else 0 := by
  simp [isoRepeat, hg]

/-- What a bad frame is seen by, whether or not the logic end notes its time. -/
structure State.BadSeen (n : Fin 16) (e : Bool) (sym : IsoSymbol) (s t : State) : Prop where
  alike : s.AlikeFor n t
  toLogic : (t.ch n).isoToLogic = ((s.ch n).repeated e sym).isoToLogic
  toDie : (t.ch n).isoToDie = ((s.ch n).repeated e sym).isoToDie
  regs : t.regs = (s.badFrame n).regs

theorem badSeen_badReceived (e : Bool) (sym : IsoSymbol) : s.BadSeen n e sym (s.badReceived n e sym) :=
  ⟨alikeFor_badReceived s n e sym, by rw [ch_badReceived], by rw [ch_badReceived], rfl⟩

theorem badSeen_badNoted (sym : IsoSymbol) : s.BadSeen n true sym (s.badNoted n sym) := by
  have hch : (s.badNoted n sym).ch n = { (s.ch n).repeated true sym with
      badTimes := (s.badReceived n true sym).now :: (s.badReceived n true sym).recentBad n } := by
    rw [State.badNoted, State.noteBad, ch_modCh_same, ch_badReceived]
  exact ⟨alikeFor_badNoted s n sym, by rw [hch], by rw [hch], rfl⟩

theorem exec_isoFrameReceive_bad {s : State} {n : Fin 16} (hl : s.chLive n = true) (hd : s.Settled) {e : Bool}
    {sym : IsoSymbol}
    (hg : isoGood sym = false) (hb : e = false ∨ (s.recentBad n).length < 7) :
    ∃ t, exec (.isoFrameReceive n e sym) s = .next t ∧ s.BadSeen n e sym t := by
  cases e with
  | false =>
    have hseen := badSeen_badReceived s n false sym
    exact ⟨_, (exec_isoFrameReceive_die hl hg).trans (ok_of_rst hseen.alike.rst hd), hseen⟩
  | true =>
    have hseen := badSeen_badNoted s n sym
    have hfew : (s.recentBad n).length < 7 := hb.resolve_left (by decide)
    refine ⟨_, (exec_isoFrameReceive_logic hl hg).trans ?_, hseen⟩
    rw [judgeLink_badReceived, if_neg (by omega)]
    exact ok_of_rst hseen.alike.rst hd

theorem link_not_mem_faultRegs : (Rg.CH_LINK n.val).addr ∉ faultRegs n.val := by
  simp [faultRegs, Rg.CH_LINK, Rg.CH_STATE, Rg.CH_STATE_DIE, Rg.CH_EVT, Rg.CH_FAULT]

/-- A loss of the link puts the channel into FAULTED and is counted. -/
theorem faultedBy_linkLost {s t : State} {n : Fin 16} {k : Nat} (ha : s.AlikeFor n t)
    (hc : s.canFault n k = true) (hq : s.Quiet (80 + n.val)) :
    s.FaultedBy n k ((t.linkLost n).chFault n k) ∧ ((t.linkLost n).chFault n k).rst = s.rst ∧
      ((t.linkLost n).chFault n k).getF (Fd.CH_LINK_LOSSES n.val) = min (t.getF (Fd.CH_LINK_LOSSES n.val) + 1) 255 := by
  have hlost := ha.trans (alikeFor_linkLost t n)
  refine ⟨faultedBy_chFault hlost hc hq, chFault_rst hlost hc hq, ?_⟩
  rw [getF_chFault_ne hlost hc hq (link_not_mem_faultRegs n) (sticky_lt_ch _ (by omega) _ (Nat.le_trans (by decide) (Nat.le_add_right _ _))),
    getF_linkLost]

theorem exec_isoLinkTimeout {s : State} {n : Fin 16} (hl : s.chLive n = true) (hd : s.Settled)
    (hq : s.Quiet (80 + n.val)) (h6 : s.chSt n ≠ 6) :
    ∃ t, exec (.isoLinkTimeout n) s = .next t ∧ s.FaultedBy n 1 t ∧
      t.getF (Fd.CH_LINK_LOSSES n.val) = min (s.getF (Fd.CH_LINK_LOSSES n.val) + 1) 255 := by
  have hc : s.canFault n 1 = true := faultable hl h6 (.inr (by decide)) (.inl (by decide)) (by decide) (by decide)
  obtain ⟨hf, hr, hcount⟩ := faultedBy_linkLost (State.AlikeFor.refl s n) hc hq
  refine ⟨_, ?_, hf, hcount⟩
  show execIsoLinkTimeout n s = _
  rw [execIsoLinkTimeout, if_pos hl]
  exact ok_of_rst hr hd

theorem exec_isoFrameReceive_lost {s : State} {n : Fin 16} (hl : s.chLive n = true) (hd : s.Settled)
    (hq : s.Quiet (80 + n.val)) (h6 : s.chSt n ≠ 6)
    {sym : IsoSymbol} (hg : isoGood sym = false) (hb : 7 ≤ (s.recentBad n).length) :
    ∃ t, exec (.isoFrameReceive n true sym) s = .next t ∧ s.FaultedBy n 2 t ∧
      t.getF (Fd.CH_LINK_LOSSES n.val) = min (s.getF (Fd.CH_LINK_LOSSES n.val) + 1) 255 := by
  have hc : s.canFault n 2 = true := faultable hl h6 (.inr (by decide)) (.inl (by decide)) (by decide) (by decide)
  obtain ⟨hf, hr, hcount⟩ := faultedBy_linkLost (alikeFor_badNoted s n sym) hc hq
  have hbase : (s.badNoted n sym).getF (Fd.CH_LINK_LOSSES n.val) = s.getF (Fd.CH_LINK_LOSSES n.val) :=
    (getF_of_regs (badSeen_badNoted s n sym).regs _).trans (getF_badFrame_losses s n)
  rw [hbase] at hcount
  refine ⟨_, (exec_isoFrameReceive_logic hl hg).trans ?_, hf, hcount⟩
  rw [judgeLink_badReceived, if_pos ⟨hb, h6⟩]
  exact ok_of_rst hr hd

/-! ### Faults of the die and of its clock, the periodic check (R62, R256) -/

theorem exec_channelDieFault {s : State} {n : Fin 16} {c : Fin 8} (hd : s.Settled) (hq : s.Quiet (80 + n.val))
    (hc : s.canFault n c.val = true) :
    ∃ t, exec (.channelDieFault n c) s = .next t ∧ s.FaultedBy n c.val t :=
  have ha := State.AlikeFor.refl s n
  ⟨_, ok_of_rst (chFault_rst ha hc hq) hd, faultedBy_chFault ha hc hq⟩

theorem exec_periodicSelfCheck_fails {s : State} {n : Fin 16} (hl : s.chLive n = true) (hd : s.Settled)
    (hq : s.Quiet (80 + n.val))
    (h6 : s.chSt n ≠ 6) (h0 : s.chSt n ≠ 0) : ∃ t, exec (.periodicSelfCheck n false) s = .next t ∧ s.FaultedBy n 5 t := by
  have hc : s.canFault n 5 = true := faultable hl h6 (.inl h0) (.inl (by decide)) (by decide) (by decide)
  have ha := State.AlikeFor.refl s n
  refine ⟨_, ?_, faultedBy_chFault ha hc hq⟩
  show execPeriodicSelfCheck n false s = _
  rw [execPeriodicSelfCheck, if_neg (by simp [stOff, h0])]
  exact ok_of_rst (chFault_rst ha hc hq) hd

/-- The clock monitor shows a channel oscillator (R62). -/
def State.oscShown : State := s.setBitF Fd.CLK_STAT_CHOSC n.val

theorem alikeFor_oscShown : s.AlikeFor n (s.oscShown n) := by
  have hch (a : Nat) : 0x40100000 + a ≠ Fd.CLK_STAT_CHOSC.reg.addr := Nat.ne_of_gt (Nat.lt_of_lt_of_le (by decide) (Nat.le_add_right _ _))
  exact alikeFor_setR s n (r := Rg.CLK_STAT) (by decide) (by decide) (hch _)
    (Nat.ne_of_gt (Nat.lt_of_lt_of_le (by decide) (Nat.le_add_right _ _))) (Nat.ne_of_gt (Nat.lt_of_lt_of_le (by decide) (Nat.le_add_right _ _))) _

theorem exec_clockMonitorFault_chOsc {s : State} {n : Fin 16} (hl : s.chLive n = true) (hd : s.Settled)
    (hq : s.Quiet (80 + n.val)) (h6 : s.chSt n ≠ 6) :
    ∃ t, exec (.clockMonitorFault (.chOsc n)) s = .next t ∧ s.FaultedBy n 4 t ∧ t.bitF Fd.CLK_STAT_CHOSC n.val = true := by
  have hc : s.canFault n 4 = true := faultable hl h6 (.inr (by decide)) (.inl (by decide)) (by decide) (by decide)
  have ha := alikeFor_oscShown s n
  refine ⟨_, ?_, faultedBy_chFault ha hc hq, ?_⟩
  · show execClockMonitorFault (.chOsc n) s = _
    rw [execClockMonitorFault, if_neg (by rw [phase_of_chLive hl]; decide)]
    exact ok_of_rst (chFault_rst ha hc hq) hd
  · have hregs : Fd.CLK_STAT_CHOSC.reg.addr ∉ faultRegs n.val := by
      simp only [faultRegs, List.mem_cons, List.not_mem_nil, or_false, Rg.CH_STATE, Rg.CH_STATE_DIE, Rg.CH_EVT, Rg.CH_FAULT,
        Fd.CLK_STAT_CHOSC, Rg.CLK_STAT]
      omega
    rw [State.bitF, getF_chFault_ne ha hc hq hregs (Nat.ne_of_lt (Nat.lt_of_lt_of_le (by decide) (Nat.le_add_right _ _))), ← State.bitF]
    exact bitF_setBitF_same s Fd.CLK_STAT_CHOSC (by decide) _ n.isLt

end Channel

/-! ### The obligation -/

/-- Settles O46: every fault is `chFault` on a state that is as the one before for what a fault finds (`AlikeFor`), and
`faultedBy_chFault` says once what that leaves. -/
theorem channelStates : Obligations.ChannelStates := by
  unfold Obligations.ChannelStates
  intro s n c hl hd hq
  have hfaulted {k : Nat} {t : State} (h : s.FaultedBy n k t) : t.chSt n = 6 ∧ t.getF (Fd.CH_STATE_FCAUSE n.val) = k ∧
      t.getF (Fd.CH_FAULT_CAUSE n.val) = k ∧ t.getF (Fd.CH_FAULT_COUNT n.val) = min (s.getF (Fd.CH_FAULT_COUNT n.val) + 1) 255 ∧
      t.isF (Fd.CH_EVT_FAULTED n.val) = true ∧ t.bitF (Fd.SB_STICKY_BITS ((80 + n.val) / 32)) ((80 + n.val) % 32) = true ∧
      (t.ch n).regSlot = none ∧ (t.ch n).injSlot = none ∧ (t.ch n).pend = none ∧
      (∀ k, k ≠ n → t.ch k = s.ch k) ∧ t.machs = s.machs := by
    obtain ⟨hst, hfc, hca, hct, hev, hsb, hreg, hinj, hpend, hoth, hm⟩ := h
    exact ⟨hst, hfc, hca, hct, hev, hsb, hreg, hinj, hpend, hoth, hm⟩
  refine ⟨?trim, ?configured, fun h4 => ⟨?off, ?restart⟩, ?die, fun h6 => ⟨?timeout, ?clock, ?lost, ?check⟩, ?bad, ?good, ?passed⟩
  case trim =>
    intro h1 hn hg
    obtain ⟨t, he, hf⟩ := exec_configurationComplete_trim hl hd hq h1 hn hg
    exact ⟨t, he, hfaulted hf⟩
  case configured =>
    intro h1 hn hg
    refine ⟨_, exec_configurationComplete hl hd h1 hn hg, by rw [ch_modCh_same], getF_cfgTimed s n, ?_, fun k hk => ch_modCh_ne _ hk _⟩
    exact (alikeFor_cfgTimed s n).st.trans h1
  case off =>
    refine ⟨_, exec_shutdownComplete hl hd h4, chSt_offReached s n, getF_offReached_mode s n, ?_, ?_, getF_offReached_time s n,
      isF_onF_same _ _ (by decide : 2 + 1 ≤ 32) (by decide : 0 < 1), fun w hw => getR_offReached_rec s n hw, fun k hk => ?_⟩
    · rw [ch_offReached, ch_setCh_same]
      rfl
    · rw [ch_offReached, ch_setCh_same]
      rfl
    · rw [ch_offReached, ch_setCh_ne s hk]
  case restart =>
    intro h1 h6
    obtain ⟨he, hf, hus⟩ := exec_shutdownComplete_fails hl hd hq h4 h1 h6
    exact ⟨_, he, hfaulted hf, hus⟩
  case die =>
    intro hc
    obtain ⟨t, he, hf⟩ := exec_channelDieFault hd hq hc
    exact ⟨t, he, hfaulted hf⟩
  case timeout =>
    obtain ⟨t, he, hf, hcount⟩ := exec_isoLinkTimeout hl hd hq h6
    exact ⟨t, he, hfaulted hf, hcount⟩
  case clock =>
    obtain ⟨t, he, hf, hbit⟩ := exec_clockMonitorFault_chOsc hl hd hq h6
    exact ⟨t, he, hfaulted hf, hbit⟩
  case lost =>
    intro sym hg hb
    obtain ⟨t, he, hf, hcount⟩ := exec_isoFrameReceive_lost hl hd hq h6 hg hb
    exact ⟨t, he, hfaulted hf, hcount⟩
  case check =>
    intro h0
    obtain ⟨t, he, hf⟩ := exec_periodicSelfCheck_fails hl hd hq h6 h0
    exact ⟨t, he, hfaulted hf⟩
  case bad =>
    intro e sym hg hb
    obtain ⟨t, he, ha, hlogic, hdie, hregs⟩ := exec_isoFrameReceive_bad hl hd hg hb
    refine ⟨t, he, ha.st, fun b hsym => ?_,
      (getF_of_regs hregs _).trans (getF_badFrame_count s n), (isF_of_regs hregs _).trans (isF_badFrame_evt s n),
      (isF_of_regs hregs _).trans (isF_badFrame_state s n)⟩
    subst hsym
    cases e with
    | false => exact hdie.trans (isoRepeat_frame hg _)
    | true => exact hlogic.trans (isoRepeat_frame hg _)
  case good =>
    intro e data
    have hgood := isoGood_isoFrame data
    have hrep (k : Nat) : isoRepeat (.frame (isoFrame data)) k = 0 := by simp [isoRepeat, hgood]
    rw [exec_isoFrameReceive_good hl hd e hgood]
    simp only [State.modCh, ChanH.repeated, hrep]
  case passed => exact ok_of_rst rfl hd

end Sys2Proof.Machine
end

section
/-! SUPPORT. Work that writes some registers only, the topology word (R393), raises before and after the module runs, and
bytes of flash without errors. -/

namespace Sys2Proof.Machine

variable (s : State)

/-! ### Work that writes some registers -/

/-- No write of the registers of `l` changes what `p` reads. -/
abbrev Skips {β : Type} (p : State → β) (l : List Rg) : Prop := ∀ s, ∀ r ∈ l, ∀ w, p (State.setR s r w) = p s

theorem skips_of_setR {β : Type} {p : State → β} (h : ∀ s r w, p (State.setR s r w) = p s) (l : List Rg) : Skips p l :=
  fun s r _ w => h s r w

theorem skips_getR {q : Rg} {l : List Rg} (h : ∀ r ∈ l, q.addr ≠ r.addr) : Skips (fun s => s.getR q) l :=
  fun s r hr w => getR_setR_ne s (h r hr) w

theorem skips_of_subset {β : Type} {p : State → β} {k l : List Rg} (h : Skips p l) (hk : k ⊆ l) : Skips p k :=
  fun s r hr w => h s r (hk hr) w

theorem getF_of_getR {s t : State} {f : Fd} (h : t.getR f.reg = s.getR f.reg) : t.getF f = s.getF f := by
  rw [State.getF, h, State.getF]

theorem isF_of_getR {s t : State} {f : Fd} (h : t.getR f.reg = s.getR f.reg) : t.isF f = s.isF f := by
  rw [State.isF, getF_of_getR h, State.isF]

theorem quiet_of_getR {s t : State} {k : Nat} (h : t.getR (Rg.SB_CFG k) = s.getR (Rg.SB_CFG k)) (hq : s.Quiet k) : t.Quiet k := by
  rw [State.Quiet, getF_of_getR (f := Fd.SB_CFG_REACTION k) h, isF_of_getR (f := Fd.SB_CFG_ROLL k) h]
  exact hq

/-! ### The topology (R393) -/

def topoRegs : List Rg := [Rg.OV_TOPO, Rg.OV_EVT]

theorem topoUpdate_frame {β : Type} {p : State → β} (h : Skips p topoRegs)
    (hov : ∀ (s : State) b, p { s with ov := { s.ov with ringTold := b } } = p s) : p s.topoUpdate = p s := by
  have htopo (s : State) (w : Word) : p (s.setR Rg.OV_TOPO w) = p s := h s _ (by decide) w
  have hevt (c : Bool) (s : State) : p (if c = true then s.onF Fd.OV_EVT_TOPO else s) = p s := by
    split
    · exact h s _ (by decide : Rg.OV_EVT ∈ topoRegs) _
    · rfl
  have hshown (c : Bool) (m n : Nat) : p (if c = true then ((s.setF Fd.OV_TOPO_MODE m).setF Fd.OV_TOPO_NODES n).onF Fd.OV_EVT_TOPO
      else (s.setF Fd.OV_TOPO_MODE m).setF Fd.OV_TOPO_NODES n) = p s :=
    (hevt c _).trans ((htopo _ _).trans (htopo _ _))
  unfold State.topoUpdate
  dsimp only
  split
  · exact (hov _ _).trans ((htopo _ _).trans (hshown _ _ _))
  · split
    · exact (hov _ _).trans (hshown _ _ _)
    · exact hshown _ _ _

/-! ### Raises (R486, R498) -/

/-- While the module does not run a raise sets the sticky bit and does nothing else. -/
theorem raise_of_not_running {s : State} (h : s.phase ≠ .running) (k : Nat) : s.raise k = s.sticky k := by
  have hlive : (s.phase == .running) = false := beq_eq_false_iff_ne.2 h
  have hcore : (s.sticky k).reactCore k .block = s.sticky k := by
    unfold State.reactCore
    rw [sticky_phase]
    simp [h]
  show State.react (s.sticky k) k .block = _
  unfold State.react
  simp [hcore, hlive]

/-- The raise of a quiet source by a triad sets its sticky bit and the level of the triad. -/
theorem raise_triad_of_quiet {s : State} {k : Nat} (hk : k < 10) (hq : s.Quiet k) (t : Triad) :
    s.raise k (.triad t) = (s.sticky k).modTri t fun x => { x with raised := x.raised ||| BitVec.ofNat 10 (1 <<< k) } := by
  have hset : s.setSticky k (.triad t) = (s.sticky k).modTri t fun x => { x with raised := x.raised ||| BitVec.ofNat 10 (1 <<< k) } := by
    simp [State.setSticky, RaisedBy.bySw, RaisedBy.triad?, State.sticky, Nat.le_of_lt_succ hk]
  rw [State.raise, hset]
  have hq' : (s.sticky k).Quiet k := (quiet_sticky (by omega)).2 hq
  exact react_of_quiet (quiet_of_regs (modTri_regs (s.sticky k) t _) hq') _

/-- A sticky bit that stands stays when another is set. -/
theorem bitF_sticky_of_bitF {s : State} {i j k : Nat} (hj : j < 32) (h : s.bitF (Fd.SB_STICKY_BITS i) j = true) :
    (s.sticky k).bitF (Fd.SB_STICKY_BITS i) j = true := by
  by_cases hi : i = k / 32
  · have hw : (s.sticky k).getF (Fd.SB_STICKY_BITS i) = (s.getF (Fd.SB_STICKY_BITS i) ||| 1 <<< (k % 32)) % 2 ^ 32 := by
      rw [hi]
      exact getF_setF_same s (Fd.SB_STICKY_BITS (k / 32)) (Nat.le_refl 32) _
    rw [State.bitF, hw, Nat.testBit_mod_two_pow, Nat.testBit_or]
    rw [State.bitF] at h
    simp [h, hj]
  · have hne : (Fd.SB_STICKY_BITS i).reg.addr ≠ 0x40010040 + 0x4 * (k / 32) := by
      show 0x40010040 + 0x4 * i ≠ _
      omega
    rw [State.bitF, getF_sticky_ne s hne]
    exact h

/-! ### Flash without errors (R459) -/

theorem flashWords_of_no_error {s : State} (h : s.flashErr = []) (l : List Nat) : State.flashWords l s = (false, s) := by
  induction l with
  | nil => rfl
  | cons w r ih => simp [State.flashWords, State.flashWord, h, lookupNat, ih]

theorem inFlux_of_no_flux {s : State} (h : s.flashFlux = []) (a : Nat) : s.inFlux a = false := by simp [State.inFlux, h]

theorem flashLoad_of_clean {s : State} (he : s.flashErr = []) (hf : s.flashFlux = []) (a n : Nat) :
    s.flashLoad a n = (some (s.flashRead a n), s) := by
  simp [State.flashLoad, inFlux_of_no_flux hf, flashWords_of_no_error he]

/-- The bytes of two runs one after the other. -/
theorem leBytes_leRead_add (rd : Nat → Byte) (a m n : Nat) :
    leBytes (leRead rd a (m + n)) (m + n) = leBytes (leRead rd a m) m ++ leBytes (leRead rd (a + m) n) n := by
  have hstep (a k : Nat) : leBytes (leRead rd a (k + 1)) (k + 1) = rd a :: leBytes (leRead rd (a + 1) k) k := by
    have hlt := (rd a).isLt
    have hb : BitVec.ofNat 8 ((rd a).toNat + 256 * leRead rd (a + 1) k) = rd a := by
      apply BitVec.eq_of_toNat_eq
      rw [BitVec.toNat_ofNat]
      omega
    have hr : ((rd a).toNat + 256 * leRead rd (a + 1) k) / 256 = leRead rd (a + 1) k := by omega
    rw [leRead, leBytes, hb, hr]
  induction m generalizing a with
  | zero => simp [leBytes]
  | succ m ih => rw [Nat.add_right_comm m 1 n, hstep, hstep, ih, Nat.add_assoc a 1 m, Nat.add_comm 1 m, List.cons_append]

theorem flashLoads_of_clean {s : State} (he : s.flashErr = []) (hf : s.flashFlux = []) (a n : Nat) :
    State.flashLoads a n s = (some (leBytes (s.flashRead a (8 * n)) (8 * n)), s) := by
  induction n generalizing a with
  | zero => rfl
  | succ n ih =>
    simp only [State.flashLoads, flashLoad_of_clean he hf, ih, State.flashRead]
    rw [Nat.mul_succ, Nat.add_comm (8 * n) 8, leBytes_leRead_add]

end Sys2Proof.Machine
end

section
/-! PROOF. The start of the module (O34). -/

namespace Sys2Proof.Machine

section Start
variable (s : State)

/-! ### Power, the OTP, memory (R65, R67, R68, R469) -/

/-- A bank of the calibration store is selected. -/
def State.calPut (b g : Nat) (e : List CalEntry) : State :=
  let s := ((s.setF Fd.CS_STAT_SEL_BANK b).setF Fd.CS_GEN_GEN g).offF Fd.CS_STAT_NONE
  { s with cs := { s.cs with shadow := e } }

/-- No bank is selected. -/
def State.calNone : State :=
  let s := ((s.offF Fd.CS_STAT_SEL_BANK).offF Fd.CS_GEN_GEN).onF Fd.CS_STAT_NONE
  { s with cs := { s.cs with shadow := [] } }

/-- The store shows which banks are valid. -/
def State.calShown : State :=
  (s.setF Fd.CS_STAT_VALID0 (b2n (s.calBank 0).isSome)).setF Fd.CS_STAT_VALID1 (b2n (s.calBank 1).isSome)

/-- Selection ends with a bank or without one, and raises SB26 or SB27 (R469). -/
theorem calSelect_cases {s : State} (he : s.flashErr = []) : (∃ b g e, s.calSelect = s.calShown.calPut b g e) ∨
    (∃ b g e, s.calSelect = (s.calShown.calPut b g e).raise 26) ∨ s.calSelect = s.calShown.calNone.raise 27 := by
  have hread (b : Nat) : s.calRead b = s := by
    rw [State.calRead, flashWords_of_no_error he]
  have hsel : s.calSelect = match s.calBank 0, s.calBank 1 with
      | some (g0, e0), some (g1, e1) => if g1 > g0 then s.calShown.calPut 1 g1 e1 else s.calShown.calPut 0 g0 e0
      | some (g0, e0), none =>
        if (s.calShown.calPut 0 g0 e0).sectorErased (bankSector 1) then s.calShown.calPut 0 g0 e0 else (s.calShown.calPut 0 g0 e0).raise 26
      | none, some (g1, e1) =>
        if (s.calShown.calPut 1 g1 e1).sectorErased (bankSector 0) then s.calShown.calPut 1 g1 e1 else (s.calShown.calPut 1 g1 e1).raise 26
      | none, none => s.calShown.calNone.raise 27 := by
    unfold State.calSelect
    simp only [hread]
    rfl
  rw [hsel]
  split
  · split
    · exact .inl ⟨_, _, _, rfl⟩
    · exact .inl ⟨_, _, _, rfl⟩
  · split
    · exact .inl ⟨_, _, _, rfl⟩
    · exact .inr (.inl ⟨_, _, _, rfl⟩)
  · split
    · exact .inl ⟨_, _, _, rfl⟩
    · exact .inr (.inl ⟨_, _, _, rfl⟩)
  · exact .inr (.inr rfl)

/-- A part of the state that neither a register nor the calibration store shows. -/
theorem calSelect_frame {β : Type} {s : State} (p : State → β) (hset : ∀ (s : State) r w, p (s.setR r w) = p s)
    (hcs : ∀ (s : State) x, p { s with cs := x } = p s) (hp : s.phase ≠ .running) (he : s.flashErr = []) : p s.calSelect = p s := by
  have hraise (t : State) (k : Nat) (ht : t.phase = s.phase) : p (t.raise k) = p t := by
    rw [raise_of_not_running (by rw [ht]; exact hp)]
    exact hset _ _ _
  have hshown : p s.calShown = p s := (hset _ _ _).trans (hset _ _ _)
  have hput (b g : Nat) (e : List CalEntry) : p (s.calShown.calPut b g e) = p s :=
    (hcs _ _).trans ((hset _ _ _).trans ((hset _ _ _).trans ((hset _ _ _).trans hshown)))
  have hnone : p s.calShown.calNone = p s := (hcs _ _).trans ((hset _ _ _).trans ((hset _ _ _).trans ((hset _ _ _).trans hshown)))
  rcases calSelect_cases he with ⟨b, g, e, h⟩ | ⟨b, g, e, h⟩ | h <;> rw [h]
  · exact hput b g e
  · exact (hraise (s.calShown.calPut b g e) 26 rfl).trans (hput b g e)
  · exact (hraise s.calShown.calNone 27 rfl).trans hnone

/-- Every word of SRAM is unwritten. -/
def State.memCleared : State := { s with sram := [], sramMark := [], sramErr := [], pwr := { s.pwr with memInit := true } }

theorem exec_memoryInitialiserComplete {s : State} (hd : s.Settled) (hp : s.phase = .powerOn ∨ s.phase = .chipReset)
    (hm : s.pwr.memInit = false) (he : s.flashErr = []) : exec .memoryInitialiserComplete s = .next s.memCleared.calSelect := by
  have hrun : s.memCleared.phase ≠ .running := by rcases hp with h | h <;> simp [State.memCleared, h]
  have hexec : exec .memoryInitialiserComplete s = ok s.memCleared.calSelect := if_pos (by rcases hp with h | h <;> simp [h, hm])
  have hr : s.memCleared.calSelect.rst = s.memCleared.rst := calSelect_frame State.rst (fun _ _ _ => rfl) (fun _ _ => rfl) hrun he
  rw [hexec]
  exact ok_of_rst (hr.trans rfl) hd

/-! ### The release (R66 to R71, R384) -/

/-- The module comes up with its straps. -/
def State.comesUp (x : Straps) : State :=
  { s with phase := .running, straps := x, tt := {}, pwr := { s.pwr with released := true, byTally := false, bySigbox := false }
           rst := { s.rst with lastRel := State.release.relTimes s.now resettable } }

theorem comesUp_due (x : Straps) : (s.comesUp x).rst.due = s.rst.due := by rw [State.comesUp]
theorem comesUp_dbg (x : Straps) : (s.comesUp x).dbg = s.dbg := by rw [State.comesUp]

/-- The straps and the fuses are in force, and the machines are in reset. -/
def State.prepared (x : Straps) : State :=
  { ((s.comesUp x).showStraps.applyFuses).strapRegs with machs := Vector.replicate 4 (resetMach 0 0) }

/-- What the release does before it raises. -/
def State.broughtUp (x : Straps) : State := (s.prepared x).loadNodeId.showVolume.topoUpdate.startBoot

theorem release_eq {s : State} (ht : s.pwr.byTally = false) (hb : s.pwr.bySigbox = false) (x : Straps) :
    s.release x = (s.broughtUp x).releaseRaises.dbgRetry := by
  unfold State.release
  simp only [ht, hb, Bool.false_and, Bool.false_eq_true, if_false]
  rfl

def fuseRegs : List Rg := [Rg.SB_CTRL, Rg.TL_CTRL, Rg.TL_STAT, Rg.TR_STAT 0, Rg.TR_STAT 1, Rg.MANI_STAT]

theorem strapFuses_frame {β : Type} {p : State → β} (h : Skips p fuseRegs) : p s.applyFuses.strapRegs = p s := by
  have hset (s : State) {r : Rg} (hr : r ∈ fuseRegs) (w : Word) : p (s.setR r w) = p s := h s r hr w
  have hif (c : Bool) (s : State) {f : Fd} (hr : f.reg ∈ fuseRegs) : p (if c = true then s.onF f else s) = p s := by
    split
    · exact hset s hr _
    · rfl
  have hfuses : p s.applyFuses = p s := by
    unfold State.applyFuses State.sbLock
    dsimp only
    exact (hset _ (r := Rg.TL_STAT) (by decide) _).trans
      ((hif _ _ (f := Fd.TL_CTRL_LOCK) (by decide)).trans (hif _ _ (f := Fd.SB_CTRL_LOCK) (by decide)))
  exact (hset _ (r := Rg.MANI_STAT) (by decide) _).trans ((hset _ (r := Rg.TR_STAT 1) (by decide) _).trans
    ((hset _ (r := Rg.TR_STAT 0) (by decide) _).trans hfuses))

/-- The bytes of the node identity record. -/
def State.idBytes : List Byte := leBytes (s.flashRead 0x13FF_F000 64) 64

/-- The node takes its ID from its record, or has none. -/
def State.numberedBy (w : Nat) : State :=
  let s := (s.setF Fd.OV_NODE_ID w).setF Fd.OV_NODE_NUMBERED 1
  let s := (s.setF Fd.OV_NODE_SRC 1).offF Fd.OV_NODE_DUP
  (s.setF Fd.OV_CFG_ASSIGN_EN (w / 2 ^ 16)).setF Fd.OV_CFG_RING_EXPECTED (w / 2 ^ 17)

def State.leftUnnumbered : State :=
  let s := (s.setF Fd.OV_NODE_ID 0x3FF).offF Fd.OV_NODE_NUMBERED
  let s := (s.offF Fd.OV_NODE_SRC).offF Fd.OV_NODE_DUP
  (s.onF Fd.OV_CFG_ASSIGN_EN).offF Fd.OV_CFG_RING_EXPECTED

theorem loadNodeId_of_record {s : State} (he : s.flashErr = []) (hf : s.flashFlux = []) {w : Nat}
    (hw : idRecord s.idBytes = some w) :
    s.loadNodeId = s.numberedBy w := by
  have hload : State.flashLoads idBase 8 s = (some s.idBytes, s) := flashLoads_of_clean he hf idBase 8
  simp only [State.loadNodeId, inFlux_of_no_flux hf, Bool.false_eq_true, if_false, hload, Option.bind_some, hw]
  rfl

theorem loadNodeId_of_no_record {s : State} (he : s.flashErr = []) (hf : s.flashFlux = [])
    (hw : idRecord s.idBytes = none) :
    s.loadNodeId = s.leftUnnumbered := by
  have hload : State.flashLoads idBase 8 s = (some s.idBytes, s) := flashLoads_of_clean he hf idBase 8
  simp only [State.loadNodeId, inFlux_of_no_flux hf, Bool.false_eq_true, if_false, hload, Option.bind_some, hw]
  rfl

def idRegs : List Rg := [Rg.OV_NODE, Rg.OV_CFG]

theorem loadNodeId_frame {β : Type} {s : State} {p : State → β} (h : Skips p idRegs) (he : s.flashErr = [])
    (hf : s.flashFlux = []) :
    p s.loadNodeId = p s := by
  have hset (s : State) {f : Fd} (hr : f.reg ∈ idRegs) (v : Nat) : p (s.setF f v) = p s := h s f.reg hr _
  have hsix (s : State) {a b c d e g : Fd} (ha : a.reg ∈ idRegs) (hb : b.reg ∈ idRegs) (hc : c.reg ∈ idRegs) (hd : d.reg ∈ idRegs)
      (he : e.reg ∈ idRegs) (hg : g.reg ∈ idRegs) (i j k l m n : Nat) :
      p ((((((s.setF a i).setF b j).setF c k).setF d l).setF e m).setF g n) = p s :=
    (hset _ hg _).trans ((hset _ he _).trans ((hset _ hd _).trans ((hset _ hc _).trans ((hset _ hb _).trans (hset _ ha _)))))
  cases hw : idRecord s.idBytes with
  | some w =>
    rw [loadNodeId_of_record he hf hw]
    exact hsix s (by decide) (by decide) (by decide) (by decide) (by decide) (by decide) _ _ _ _ _ _
  | none =>
    rw [loadNodeId_of_no_record he hf hw]
    exact hsix s (by decide) (by decide) (by decide) (by decide) (by decide) (by decide) _ _ _ _ _ _

theorem getF_numberedBy_id (w : Nat) : (s.numberedBy w).getF Fd.OV_NODE_ID = w % 1024 := by
  simp only [State.numberedBy, State.offF]
  rw [getF_setF_reg _ (by decide), getF_setF_reg _ (by decide),
    getF_setF_field (f := Fd.OV_NODE_DUP) (g := Fd.OV_NODE_ID) _ rfl (by decide),
    getF_setF_field (f := Fd.OV_NODE_SRC) (g := Fd.OV_NODE_ID) _ rfl (by decide),
    getF_setF_field (f := Fd.OV_NODE_NUMBERED) (g := Fd.OV_NODE_ID) _ rfl (by decide), getF_setF_same _ _ (by decide)]
  rfl

theorem numbered_numberedBy (w : Nat) : (s.numberedBy w).numbered = true := by
  simp only [State.numbered, State.numberedBy, State.offF]
  rw [isF_setF_reg _ (by decide), isF_setF_reg _ (by decide),
    isF_setF_field (f := Fd.OV_NODE_DUP) (g := Fd.OV_NODE_NUMBERED) _ rfl (by decide),
    isF_setF_field (f := Fd.OV_NODE_SRC) (g := Fd.OV_NODE_NUMBERED) _ rfl (by decide), isF_setF_same _ (by decide)]
  rfl

theorem getF_leftUnnumbered_id : s.leftUnnumbered.getF Fd.OV_NODE_ID = 0x3FF := by
  simp only [State.leftUnnumbered, State.offF, State.onF]
  rw [getF_setF_reg _ (by decide), getF_setF_reg _ (by decide),
    getF_setF_field (f := Fd.OV_NODE_DUP) (g := Fd.OV_NODE_ID) _ rfl (by decide),
    getF_setF_field (f := Fd.OV_NODE_SRC) (g := Fd.OV_NODE_ID) _ rfl (by decide),
    getF_setF_field (f := Fd.OV_NODE_NUMBERED) (g := Fd.OV_NODE_ID) _ rfl (by decide), getF_setF_same _ _ (by decide)]
  rfl

theorem numbered_leftUnnumbered : s.leftUnnumbered.numbered = false := by
  simp only [State.numbered, State.leftUnnumbered, State.offF, State.onF]
  rw [isF_setF_reg _ (by decide), isF_setF_reg _ (by decide),
    isF_setF_field (f := Fd.OV_NODE_DUP) (g := Fd.OV_NODE_NUMBERED) _ rfl (by decide),
    isF_setF_field (f := Fd.OV_NODE_SRC) (g := Fd.OV_NODE_NUMBERED) _ rfl (by decide), isF_setF_same _ (by decide)]
  rfl

/-- What is shown after the node has its ID: the volume, the topology, the wait for a boot image. -/
def shownRegs : List Rg := Rg.MANI_VOLUME :: Rg.SPX_SSTAT :: Rg.SS_CTRL :: topoRegs

theorem shown_frame {β : Type} {p : State → β} (h : Skips p shownRegs)
    (hov : ∀ (s : State) b, p { s with ov := { s.ov with ringTold := b } } = p s) : p s.showVolume.topoUpdate.startBoot = p s := by
  have hset (s : State) {r : Rg} (hr : r ∈ shownRegs) (w : Word) : p (s.setR r w) = p s := h s r hr w
  have hvol : p s.showVolume = p s := (hset _ (r := Rg.MANI_VOLUME) (by decide) _).trans (hset _ (r := Rg.MANI_VOLUME) (by decide) _)
  have hboot (s : State) : p s.startBoot = p s := by
    unfold State.startBoot
    split
    · exact hset _ (r := Rg.SPX_SSTAT) (by decide) _
    · exact hset _ (r := Rg.SS_CTRL) (by decide) _
    · rfl
  exact (hboot _).trans ((topoUpdate_frame s.showVolume (skips_of_subset h (by decide)) hov).trans hvol)

theorem broughtUp_frame {β : Type} {s : State} {p : State → β} (hfuse : Skips p fuseRegs)
    (hid : Skips p idRegs) (hshown : Skips p shownRegs)
    (hov : ∀ (s : State) b, p { s with ov := { s.ov with ringTold := b } } = p s) (hm : ∀ (s : State) x, p { s with machs := x } = p s)
    (he : s.flashErr = []) (hf : s.flashFlux = []) (x : Straps) : p (s.broughtUp x) = p (s.comesUp x).showStraps := by
  have herr : (s.prepared x).flashErr = [] := (strapFuses_frame _ (p := State.flashErr) fun _ _ _ _ => rfl).trans he
  have hflux : (s.prepared x).flashFlux = [] := (strapFuses_frame _ (p := State.flashFlux) fun _ _ _ _ => rfl).trans hf
  exact (shown_frame _ hshown hov).trans ((loadNodeId_frame hid herr hflux).trans ((hm _ _).trans (strapFuses_frame _ hfuse)))

/-! ### What a release raises (R71, R384) -/

/-- The bits of `STRAP` that the model reads are the effective splits. -/
theorem split_showStraps (t : Triad) :
    s.showStraps.split t = ((match t with | .a => s.straps.splitA | .b => s.straps.splitB) && !s.otp.safeOnly) := by
  have hle (b : Bool) : b2n b ≤ 1 := by cases b <;> decide
  have hbit (b : Bool) : (b2n b != 0) = b := by cases b <;> rfl
  have hboot : s.straps.boot.toNat < 4 := s.straps.boot.isLt
  have hpinA := hle s.straps.splitA
  have hpinB := hle s.straps.splitB
  have ha := hle (s.straps.splitA && !s.otp.safeOnly)
  have hb := hle (s.straps.splitB && !s.otp.safeOnly)
  have hsafe := hle s.otp.safeOnly
  have hfield (f : Fd) (h : f.reg = Rg.STRAP) : s.showStraps.getF f = (s.straps.boot.toNat + b2n s.straps.splitA * 4 + b2n s.straps.splitB * 8
      + b2n (s.straps.splitA && !s.otp.safeOnly) * 16 + b2n (s.straps.splitB && !s.otp.safeOnly) * 32 + b2n s.otp.safeOnly * 64) % 2 ^ 32
      / 2 ^ f.lo % 2 ^ f.width := by
    rw [State.getF, h, State.showStraps, getR_setR_same, fieldOf, BitVec.toNat_ofNat, Nat.shiftRight_eq_div_pow]
  cases t with
  | a =>
    have hval : s.showStraps.getF Fd.STRAP_SPLIT_A = b2n (s.straps.splitA && !s.otp.safeOnly) := by
      rw [hfield _ rfl]
      show _ / 2 ^ 4 % 2 ^ 1 = _
      omega
    rw [State.split, State.isF, hval, hbit]
  | b =>
    have hval : s.showStraps.getF Fd.STRAP_SPLIT_B = b2n (s.straps.splitB && !s.otp.safeOnly) := by
      rw [hfield _ rfl]
      show _ / 2 ^ 5 % 2 ^ 1 = _
      omega
    rw [State.split, State.isF, hval, hbit]

theorem split_of_getR {s t : State} (h : t.getR Rg.STRAP = s.getR Rg.STRAP) (k : Triad) : t.split k = s.split k := by
  cases k with
  | a => exact isF_of_getR (f := Fd.STRAP_SPLIT_A) h
  | b => exact isF_of_getR (f := Fd.STRAP_SPLIT_B) h

/-- A split of a triad that is refused, or in force, is raised. -/
def State.raiseSplit (pin eff : Bool) (t : Triad) : State :=
  let s := if pin && s.otp.safeOnly then s.raise 8 (.triad t) else s
  if eff then s.raise 7 (.triad t) else s

/-- A node that comes up unnumbered is raised. -/
def State.raiseUnnumbered : State := if s.isF Fd.OV_NODE_NUMBERED then s else s.raise 39

theorem releaseRaises_eq : s.releaseRaises =
    ((s.raiseSplit s.straps.splitA (s.split .a) .a).raiseSplit s.straps.splitB (s.split .b) .b).raiseUnnumbered := rfl

/-- The sources that a release may raise are quiet. -/
structure State.ReleaseQuiet : Prop where
  inForce : s.Quiet 7
  refused : s.Quiet 8
  unnumbered : s.Quiet 39

theorem releaseQuiet_of_getR {s t : State} (h : ∀ k ∈ [7, 8, 39], t.getR (Rg.SB_CFG k) = s.getR (Rg.SB_CFG k))
    (hq : s.ReleaseQuiet) :
    t.ReleaseQuiet :=
  ⟨quiet_of_getR (h 7 (by decide)) hq.inForce, quiet_of_getR (h 8 (by decide)) hq.refused, quiet_of_getR (h 39 (by decide)) hq.unnumbered⟩

/-- What raises write. -/
def stickyRegs : List Rg := [Rg.SB_STICKY 0, Rg.SB_STICKY 1]

theorem raise_split_frame {β : Type} {s : State} {p : State → β} (h : Skips p stickyRegs)
    (ht : ∀ (s : State) t f, p (s.modTri t f) = p s)
    {k : Nat} (hk : k < 10) (hq : s.Quiet k) (t : Triad) : p (s.raise k (.triad t)) = p s := by
  have hreg : Rg.SB_STICKY (k / 32) ∈ stickyRegs := by
    rw [Nat.div_eq_of_lt (by omega)]
    decide
  rw [raise_triad_of_quiet hk hq, ht]
  exact h s _ hreg _

theorem releaseQuiet_raise {s : State} (hq : s.ReleaseQuiet) {k : Nat} (hk : k < 10) (hk' : s.Quiet k) (t : Triad) :
    (s.raise k (.triad t)).ReleaseQuiet :=
  releaseQuiet_of_getR (fun j hj => raise_split_frame (p := fun s => s.getR (Rg.SB_CFG j)) (skips_getR (by
    fin_cases hj <;> decide)) (fun _ _ _ => rfl) hk hk' t) hq

theorem releaseQuiet_raiseSplit {s : State} (hq : s.ReleaseQuiet) (pin eff : Bool) (t : Triad) :
    (s.raiseSplit pin eff t).ReleaseQuiet := by
  have hrefused : (if pin && s.otp.safeOnly then s.raise 8 (.triad t) else s).ReleaseQuiet := by
    split
    · exact releaseQuiet_raise hq (by decide) hq.refused t
    · exact hq
  unfold State.raiseSplit
  dsimp only
  split
  · exact releaseQuiet_raise hrefused (by decide) hrefused.1 t
  · exact hrefused

theorem raiseSplit_frame {β : Type} {s : State} {p : State → β} (h : Skips p stickyRegs)
    (ht : ∀ (s : State) t f, p (s.modTri t f) = p s)
    (hq : s.ReleaseQuiet) (pin eff : Bool) (t : Triad) : p (s.raiseSplit pin eff t) = p s := by
  have hrefused : p (if pin && s.otp.safeOnly then s.raise 8 (.triad t) else s) = p s ∧
      (if pin && s.otp.safeOnly then s.raise 8 (.triad t) else s).ReleaseQuiet := by
    split
    · exact ⟨raise_split_frame h ht (by decide) hq.refused t, releaseQuiet_raise hq (by decide) hq.refused t⟩
    · exact ⟨rfl, hq⟩
  unfold State.raiseSplit
  dsimp only
  split
  · exact (raise_split_frame h ht (by decide) hrefused.2.inForce t).trans hrefused.1
  · exact hrefused.1

theorem raiseUnnumbered_frame {β : Type} {s : State} {p : State → β} (h : Skips p stickyRegs) (hq : s.ReleaseQuiet) :
    p s.raiseUnnumbered = p s := by
  unfold State.raiseUnnumbered
  split
  · rfl
  · rw [raise_of_quiet (by decide) hq.unnumbered]
    exact h s (Rg.SB_STICKY 1) (by decide) _

theorem releaseRaises_frame {β : Type} {s : State} {p : State → β} (h : Skips p stickyRegs)
    (ht : ∀ (s : State) t f, p (s.modTri t f) = p s)
    (hq : s.ReleaseQuiet) : p s.releaseRaises = p s := by
  have hq1 := releaseQuiet_raiseSplit hq s.straps.splitA (s.split .a) .a
  have hq2 := releaseQuiet_raiseSplit hq1 s.straps.splitB (s.split .b) .b
  rw [releaseRaises_eq, raiseUnnumbered_frame h hq2, raiseSplit_frame h ht hq1, raiseSplit_frame h ht hq]

theorem bitF_raise_triad {s : State} {k : Nat} (hk : k < 10) (hq : s.Quiet k) (t : Triad) {j : Nat} (hj : j < 32)
    (h : j = k ∨ s.bitF (Fd.SB_STICKY_BITS 0) j = true) : (s.raise k (.triad t)).bitF (Fd.SB_STICKY_BITS 0) j = true := by
  rw [raise_triad_of_quiet hk hq]
  rcases h with rfl | h
  · have hbit := bitF_sticky s j
    rw [Nat.div_eq_of_lt hj, Nat.mod_eq_of_lt hj] at hbit
    exact hbit
  · exact bitF_sticky_of_bitF hj h

/-- A split in force sets SB7 (R71), and nothing that a release raises takes it away. -/
theorem bitF_raiseSplit {s : State} (hq : s.ReleaseQuiet) (pin eff : Bool) (t : Triad)
    (h : eff = true ∨ s.bitF (Fd.SB_STICKY_BITS 0) 7 = true) : (s.raiseSplit pin eff t).bitF (Fd.SB_STICKY_BITS 0) 7 = true := by
  have hrefused : (if pin && s.otp.safeOnly then s.raise 8 (.triad t) else s).ReleaseQuiet ∧ (s.bitF (Fd.SB_STICKY_BITS 0) 7 = true →
      (if pin && s.otp.safeOnly then s.raise 8 (.triad t) else s).bitF (Fd.SB_STICKY_BITS 0) 7 = true) := by
    split
    · exact ⟨releaseQuiet_raise hq (by decide) hq.refused t, fun hb => bitF_raise_triad (by decide) hq.refused t (by decide) (.inr hb)⟩
    · exact ⟨hq, id⟩
  unfold State.raiseSplit
  dsimp only
  split
  · exact bitF_raise_triad (by decide) hrefused.1.inForce t (by decide) (.inl rfl)
  · rename_i hoff
    exact hrefused.2 (h.resolve_left hoff)

theorem bitF_releaseRaises_split {s : State} (hq : s.ReleaseQuiet) (h : s.split .a = true) :
    s.releaseRaises.bitF (Fd.SB_STICKY_BITS 0) 7 = true := by
  have hq1 := releaseQuiet_raiseSplit hq s.straps.splitA (s.split .a) .a
  have hq2 := releaseQuiet_raiseSplit hq1 s.straps.splitB (s.split .b) .b
  have hset := bitF_raiseSplit hq1 s.straps.splitB (s.split .b) .b (.inr (bitF_raiseSplit hq s.straps.splitA (s.split .a) .a (.inl h)))
  rw [releaseRaises_eq]
  unfold State.raiseUnnumbered
  split
  · exact hset
  · rw [raise_of_quiet (by decide) hq2.unnumbered]
    exact bitF_sticky_of_bitF (by decide) hset

theorem bitF_releaseRaises_unnumbered {s : State} (hq : s.ReleaseQuiet) (h : s.numbered = false) :
    s.releaseRaises.bitF (Fd.SB_STICKY_BITS 1) 7 = true := by
  have hq1 := releaseQuiet_raiseSplit hq s.straps.splitA (s.split .a) .a
  have hq2 := releaseQuiet_raiseSplit hq1 s.straps.splitB (s.split .b) .b
  have hnode : Skips (fun s => s.getR Rg.OV_NODE) stickyRegs := skips_getR (by decide)
  have hnum : ((s.raiseSplit s.straps.splitA (s.split .a) .a).raiseSplit s.straps.splitB (s.split .b) .b).isF Fd.OV_NODE_NUMBERED = false :=
    (isF_of_getR (f := Fd.OV_NODE_NUMBERED) ((raiseSplit_frame hnode (fun _ _ _ => rfl) hq1 _ _ _).trans
      (raiseSplit_frame hnode (fun _ _ _ => rfl) hq _ _ _))).trans h
  rw [releaseRaises_eq, State.raiseUnnumbered, if_neg (by simp [hnum]), raise_of_quiet (by decide) hq2.unnumbered]
  exact bitF_sticky _ 39

theorem dbgRetry_of_none {s : State} (h : s.dbg.stalled = none) : s.dbgRetry = s := by rw [State.dbgRetry, h]

/-! ### The released module -/

/-- A reset that is neither the watchdog's nor the signal box's is released with memory and flash in order. -/
structure State.Releasable : Prop where
  phase : s.phase = .powerOn ∨ s.phase = .chipReset
  memInit : s.pwr.memInit = true
  otpLoaded : s.pwr.otpLoaded = true
  vioOk : s.pwr.vioOk = true
  failing : s.pwr.failing = false
  nrstLow : s.pwr.nrstLow = false
  byTally : s.pwr.byTally = false
  bySigbox : s.pwr.bySigbox = false
  flashErr : s.flashErr = []
  flashFlux : s.flashFlux = []
  quiet : s.ReleaseQuiet
  stalled : s.dbg.stalled = none

/-- The word of the node stays as its record gave it. -/
theorem getR_broughtUp_node (x : Straps) :
    (s.broughtUp x).getR Rg.OV_NODE = (s.prepared x).loadNodeId.getR Rg.OV_NODE :=
  shown_frame (s.prepared x).loadNodeId (p := fun s => s.getR Rg.OV_NODE) (skips_getR (by decide)) fun _ _ => rfl

section Released
variable {s : State} (h : s.Releasable) (x : Straps)
include h

/-- A register that the release does not write before it raises. -/
theorem getR_broughtUp {q : Rg} (hq : ∀ r ∈ Rg.STRAP :: fuseRegs ++ idRegs ++ shownRegs, q.addr ≠ r.addr) :
    (s.broughtUp x).getR q = s.getR q := by
  have hskip {l : List Rg} (hl : l ⊆ Rg.STRAP :: fuseRegs ++ idRegs ++ shownRegs) : Skips (fun s => s.getR q) l :=
    skips_getR fun r hr => hq r (hl hr)
  exact (broughtUp_frame (hskip (by decide)) (hskip (by decide)) (hskip (by decide)) (fun _ _ => rfl) (fun _ _ => rfl) h.flashErr h.flashFlux x).trans
    (getR_setR_ne _ (hq Rg.STRAP (by decide)) _)

theorem releaseQuiet_broughtUp : (s.broughtUp x).ReleaseQuiet :=
  releaseQuiet_of_getR (fun k hk => getR_broughtUp h x (by fin_cases hk <;> decide)) h.quiet

/-- Beside registers, the machines, the triads and what a link has told, the release leaves the module as it comes up. -/
theorem release_frame {β : Type} {p : State → β} (hset : ∀ (s : State) r w, p (s.setR r w) = p s)
    (hov : ∀ (s : State) b, p { s with ov := { s.ov with ringTold := b } } = p s) (hm : ∀ (s : State) x, p { s with machs := x } = p s)
    (ht : ∀ (s : State) t f, p (s.modTri t f) = p s) : p (s.broughtUp x).releaseRaises = p (s.comesUp x) :=
  (releaseRaises_frame (skips_of_setR hset _) ht (releaseQuiet_broughtUp h x)).trans
    ((broughtUp_frame (skips_of_setR hset _) (skips_of_setR hset _) (skips_of_setR hset _) hov hm h.flashErr h.flashFlux x).trans (hset _ _ _))

theorem exec_resetRelease {x y z : Straps} (hd : s.Settled) :
    exec (.resetRelease x y z) s = .next (s.broughtUp (strapVote x y z)).releaseRaises := by
  have hcond : (s.relOthers && s.nrstOk) = true := by
    rcases h.phase with hp | hp <;> simp [State.relOthers, State.nrstOk, hp, h.memInit, h.otpLoaded, h.vioOk, h.failing, h.nrstLow]
  have hrst : (s.broughtUp (strapVote x y z)).releaseRaises.rst = (s.comesUp (strapVote x y z)).rst :=
    release_frame h _ (fun _ _ _ => rfl) (fun _ _ => rfl) (fun _ _ => rfl) fun _ _ _ => rfl
  have hdbg : (s.broughtUp (strapVote x y z)).releaseRaises.dbg = (s.comesUp (strapVote x y z)).dbg :=
    release_frame h _ (fun _ _ _ => rfl) (fun _ _ => rfl) (fun _ _ => rfl) fun _ _ _ => rfl
  have hdue : (s.broughtUp (strapVote x y z)).releaseRaises.rst.due = [] := by
    rw [hrst, comesUp_due]
    exact hd
  have hstalled : (s.broughtUp (strapVote x y z)).releaseRaises.dbg.stalled = none := by
    rw [hdbg, comesUp_dbg]
    exact h.stalled
  show execResetRelease x y z s = _
  rw [execResetRelease, if_pos hcond, release_eq h.byTally h.bySigbox, dbgRetry_of_none hstalled]
  exact ok_of_due hdue

theorem split_release (t : Triad) :
    (s.broughtUp x).releaseRaises.split t =
    ((match t with | .a => x.splitA | .b => x.splitB) && !s.otp.safeOnly) := by
  have hraised : (s.broughtUp x).releaseRaises.getR Rg.STRAP = (s.broughtUp x).getR Rg.STRAP :=
    releaseRaises_frame (skips_getR (by decide)) (fun _ _ _ => rfl) (releaseQuiet_broughtUp h x)
  have hup : (s.broughtUp x).getR Rg.STRAP = (s.comesUp x).showStraps.getR Rg.STRAP :=
    broughtUp_frame (skips_getR (by decide)) (skips_getR (by decide)) (skips_getR (by decide))
      (fun _ _ => rfl) (fun _ _ => rfl) h.flashErr h.flashFlux x
  rw [split_of_getR (hraised.trans hup), split_showStraps]
  rfl

theorem split_broughtUp (t : Triad) : (s.broughtUp x).split t = (s.broughtUp x).releaseRaises.split t :=
  (split_of_getR (releaseRaises_frame (p := fun s => s.getR Rg.STRAP) (skips_getR (by decide)) (fun _ _ _ => rfl)
    (releaseQuiet_broughtUp h x)) t).symm

theorem getR_release_node : (s.broughtUp x).releaseRaises.getR Rg.OV_NODE = (s.broughtUp x).getR Rg.OV_NODE :=
  releaseRaises_frame (p := fun s => s.getR Rg.OV_NODE) (skips_getR (by decide)) (fun _ _ _ => rfl) (releaseQuiet_broughtUp h x)

/-- The release finds flash as it was. -/
theorem prepared_flash : (s.prepared x).flashErr = [] ∧ (s.prepared x).flashFlux = [] ∧
    (s.prepared x).idBytes = s.idBytes := by
  have hkeep {β : Type} (p : State → β) (hset : ∀ (s : State) r w, p (s.setR r w) = p s)
      (hm : ∀ (s : State) x, p { s with machs := x } = p s) :
      p (s.prepared x) = p (s.comesUp x) :=
    (hm _ _).trans ((strapFuses_frame _ (skips_of_setR hset _)).trans (hset _ _ _))
  exact ⟨(hkeep State.flashErr (fun _ _ _ => rfl) fun _ _ => rfl).trans h.flashErr,
    (hkeep State.flashFlux (fun _ _ _ => rfl) fun _ _ => rfl).trans h.flashFlux, hkeep State.idBytes (fun _ _ _ => rfl) fun _ _ => rfl⟩

theorem node_release_of_record {w : Nat} (hw : idRecord s.idBytes = some w) :
    (s.broughtUp x).releaseRaises.getF Fd.OV_NODE_ID = w % 1024 ∧ (s.broughtUp x).releaseRaises.numbered = true := by
  obtain ⟨he, hf, hid⟩ := prepared_flash h x
  have hreg : (s.broughtUp x).releaseRaises.getR Rg.OV_NODE = ((s.prepared x).numberedBy w).getR Rg.OV_NODE := by
    rw [getR_release_node h x, getR_broughtUp_node s x, loadNodeId_of_record he hf (by rw [hid]; exact hw)]
  exact ⟨(getF_of_getR (f := Fd.OV_NODE_ID) hreg).trans (getF_numberedBy_id _ w),
    (isF_of_getR (f := Fd.OV_NODE_NUMBERED) hreg).trans (numbered_numberedBy _ w)⟩

theorem node_release_of_no_record (hw : idRecord s.idBytes = none) :
    (s.broughtUp x).releaseRaises.getF Fd.OV_NODE_ID = 0x3FF ∧ (s.broughtUp x).releaseRaises.numbered = false ∧
      (s.broughtUp x).releaseRaises.bitF (Fd.SB_STICKY_BITS 1) 7 = true := by
  obtain ⟨he, hf, hid⟩ := prepared_flash h x
  have hup : (s.broughtUp x).getR Rg.OV_NODE = (s.prepared x).leftUnnumbered.getR Rg.OV_NODE := by
    rw [getR_broughtUp_node s x, loadNodeId_of_no_record he hf (by rw [hid]; exact hw)]
  have hreg := (getR_release_node h x).trans hup
  exact ⟨(getF_of_getR (f := Fd.OV_NODE_ID) hreg).trans (getF_leftUnnumbered_id _),
    (isF_of_getR (f := Fd.OV_NODE_NUMBERED) hreg).trans (numbered_leftUnnumbered _),
    bitF_releaseRaises_unnumbered (releaseQuiet_broughtUp h x) ((isF_of_getR (f := Fd.OV_NODE_NUMBERED) hup).trans (numbered_leftUnnumbered _))⟩

end Released

/-! ### Boot (R72, R128, R462) -/

/-- Only SRAM differs. -/
def State.SramOnly (s t : State) : Prop := ∃ a b c, t = { s with sram := a, sramMark := b, sramErr := c }

theorem State.SramOnly.refl : s.SramOnly s := ⟨_, _, _, rfl⟩

theorem State.SramOnly.trans {s t u : State} (h : s.SramOnly t) (g : t.SramOnly u) : s.SramOnly u := by
  obtain ⟨a, b, c, rfl⟩ := h
  obtain ⟨d, e, f, rfl⟩ := g
  exact ⟨d, e, f, rfl⟩

theorem sramOnly_each {α : Type} {f : α → State → State} {s : State} (he : s.flashErr = []) (hf : s.flashFlux = [])
    (h : ∀ (x : α) (s : State), s.flashErr = [] → s.flashFlux = [] → s.SramOnly (f x s)) (l : List α) : s.SramOnly (State.each f l s) := by
  induction l generalizing s with
  | nil => exact State.SramOnly.refl s
  | cons x r ih =>
    obtain ⟨a, b, c, hx⟩ := h x s he hf
    have hrest := ih (s := f x s) (by rw [hx]; exact he) (by rw [hx]; exact hf)
    exact (h x s he hf).trans hrest

/-- With flash in order a word copied from it changes SRAM only. -/
theorem sramOnly_healWord {s : State} (he : s.flashErr = []) (hf : s.flashFlux = []) (page src : Nat)
    (bad : Bool) (i : Nat) :
    s.SramOnly (State.healWord page src (bad, s) i).2 := by
  simp only [State.healWord, flashLoad_of_clean he hf]
  exact ⟨_, _, _, rfl⟩

theorem sramOnly_healWords {s : State} (he : s.flashErr = []) (hf : s.flashFlux = []) (page src : Nat)
    (bad : Bool) (l : List Nat) :
    s.SramOnly (l.foldl (State.healWord page src) (bad, s)).2 := by
  induction l generalizing s bad with
  | nil => exact State.SramOnly.refl s
  | cons i r ih =>
    have hword := sramOnly_healWord he hf page src bad i
    obtain ⟨a, b, c, hx⟩ := hword
    rw [List.foldl_cons, ← Prod.mk.eta (p := State.healWord page src (bad, s) i)]
    exact State.SramOnly.trans ⟨a, b, c, hx⟩ (ih (by rw [hx]; exact he) (by rw [hx]; exact hf) _)

theorem sramOnly_copyRegions {s : State} (he : s.flashErr = []) (hf : s.flashFlux = []) (l : List HealMap) :
    s.SramOnly (State.each State.copyRegion l s) :=
  sramOnly_each he hf (fun _ _ he hf => sramOnly_each he hf (fun _ _ he hf => sramOnly_healWords he hf _ _ _ _) _) l

/-- The heal map lies above the registers of the module's start. -/
theorem loadHealMap_frame {β : Type} {p : State → β}
    (h : ∀ (s : State) r w, 0x400C0100 ≤ r.addr → p (s.setR r w) = p s) (l : List HealMap) :
    p (s.loadHealMap l) = p s :=
  each_frame p (fun _ _ => (h _ _ _ (Nat.le_trans (by decide) (Nat.le_add_right _ _))).trans
    ((h _ _ _ (Nat.le_add_right _ _)).trans (h _ _ _ (Nat.le_add_right _ _)))) _ _

/-- The entry point of a machine. -/
def bootEntry (i : BootImage) (m : Mach) : Word := (if m.triad = .a then i.entryA else i.entryB) &&& 0xFFFF_FFFC

/-- A machine starts at its entry point; `CYCLE` has counted since the reset. -/
def State.bootMach (i : BootImage) (m : Mach) (s : State) : State :=
  s.modMach m fun x => { s.freshMach i.vbase (bootEntry i m) with cycle := x.cycle }

theorem startMachs_eq (i : BootImage) :
    s.startMachs i = State.each (State.bootMach i) (Mach.all.filter s.machExists) s := by
  unfold State.startMachs
  congr 1
  funext m s
  cases m <;> rfl

theorem mach_each_bootMach (i : BootImage) {l : List Mach} (hl : l.Nodup) (s : State) {m : Mach} (hm : m ∈ l) :
    (State.each (State.bootMach i) l s).mach m = { s.freshMach i.vbase (bootEntry i m) with cycle := (s.mach m).cycle } := by
  induction l generalizing s with
  | nil => exact absurd hm List.not_mem_nil
  | cons k r ih =>
    obtain ⟨hk, hr⟩ := List.nodup_cons.1 hl
    have hout (s : State) (hn : m ∉ r) : (State.each (State.bootMach i) r s).mach m = s.mach m := by
      clear ih hl hk hr hm
      induction r generalizing s with
      | nil => rfl
      | cons j q ih =>
        rw [State.each, ih _ fun hq => hn (List.mem_cons_of_mem j hq)]
        exact mach_modMach_ne s (fun e : m = j => hn (e ▸ List.mem_cons_self)) _
    by_cases he : m = k
    · subst he
      rw [State.each, hout _ hk]
      exact mach_modMach_same s m _
    · have hne : (State.bootMach i k s).mach m = s.mach m := mach_modMach_ne s he _
      rw [State.each, ih hr _ ((List.mem_cons.1 hm).resolve_left he), hne]
      rfl

theorem startMachs_frame {β : Type} {p : State → β} (h : ∀ (s : State) m f, p (s.modMach m f) = p s)
    (i : BootImage) : p (s.startMachs i) = p s := by
  rw [startMachs_eq, each_frame p (f := State.bootMach i) fun _ _ => h _ _ _]

/-- `BOOT_STAT` shows the result and the source of boot. -/
def State.bootShown (i : BootImage) (r source : Nat) : State :=
  ((s.setR Rg.BOOT_STAT (BitVec.ofNat 32 (r + source * 16 + (if r = 2 ∨ r = 5 ∨ r = 3 then 0 else i.format) * 256))).offF Fd.SPX_SSTAT_BOOT).offF
    Fd.SS_CTRL_BOOT

theorem getR_bootShown_stat (i : BootImage) (r source : Nat) : (s.bootShown i r source).getR Rg.BOOT_STAT =
    BitVec.ofNat 32 (r + source * 16 + (if r = 2 ∨ r = 5 ∨ r = 3 then 0 else i.format) * 256) := by
  rw [State.bootShown, getR_offF_ne _ (by decide), getR_offF_ne _ (by decide), getR_setR_same]

theorem getF_boot_result {t : State} {r fmt : Nat} (hr : r < 16)
    (h : t.getR Rg.BOOT_STAT = BitVec.ofNat 32 (r + 0 * 16 + fmt * 256)) :
    t.getF Fd.BOOT_STAT_RESULT = r ∧ t.getF Fd.BOOT_STAT_SOURCE = 0 := by
  have hfield (f : Fd) (hf : f.reg = Rg.BOOT_STAT) : t.getF f = (r + 0 * 16 + fmt * 256) % 2 ^ 32 / 2 ^ f.lo % 2 ^ f.width := by
    rw [State.getF, hf, h, fieldOf, BitVec.toNat_ofNat, Nat.shiftRight_eq_div_pow]
  refine ⟨(hfield _ rfl).trans ?_, (hfield _ rfl).trans ?_⟩
  · show _ / 2 ^ 0 % 2 ^ 4 = _
    omega
  · show _ / 2 ^ 4 % 2 ^ 2 = _
    omega

/-- The image is in force, and its heal map. -/
def State.mapLoaded (i : BootImage) : State := { s with image := some i }.loadHealMap i.heal

theorem mapLoaded_frame {β : Type} {p : State → β}
    (hset : ∀ (s : State) r w, 0x400C0100 ≤ r.addr → p (s.setR r w) = p s)
    (himage : ∀ (s : State) x, p { s with image := x } = p s) (i : BootImage) : p (s.mapLoaded i) = p s :=
  (loadHealMap_frame _ hset _).trans (himage _ _)

/-- The pages of the heal map are in SRAM. -/
def State.imageLoaded (i : BootImage) : State := State.each State.copyRegion i.heal (s.mapLoaded i)

theorem sramOnly_imageLoaded {s : State} (he : s.flashErr = []) (hf : s.flashFlux = []) (i : BootImage) :
    (s.mapLoaded i).SramOnly (s.imageLoaded i) :=
  sramOnly_copyRegions ((mapLoaded_frame s (fun _ _ _ _ => rfl) (fun _ _ => rfl) i).trans he)
    ((mapLoaded_frame s (fun _ _ _ _ => rfl) (fun _ _ => rfl) i).trans hf) i.heal

theorem bootEnd_eq (i : BootImage) (r source : Nat) : s.bootEnd i r source =
    if r ≠ 1 then s.bootShown i r source
    else if (((s.bootShown i r source).imageLoaded i).startMachs i).getF Fd.TL_EN_EN ≠ 0 then
      (((s.bootShown i r source).imageLoaded i).startMachs i).tlStart
    else ((s.bootShown i r source).imageLoaded i).startMachs i := rfl

/-- The start of counting changes the registers of the watchdog, and what it holds beside them. -/
theorem tlStart_frame {β : Type} {p : State → β}
    (hset : ∀ (s : State) (r : Rg) w, 0x40020000 ≤ r.addr → r.addr < 0x40030000 → p (s.setR r w) = p s)
    (htl : ∀ (s : State) x, p { s with tl := x } = p s) : p s.tlStart = p s := by
  unfold State.tlStart
  split
  · rfl
  · exact (tlStartPeriod_frame _ p hset htl).trans (hset _ Rg.TL_STAT _ (by decide) (by decide))

/-- Counting starts where a tally is enabled. -/
def State.counts : State := if s.getF Fd.TL_EN_EN ≠ 0 then s.tlStart else s

theorem counts_frame {β : Type} {p : State → β}
    (hset : ∀ (s : State) (r : Rg) w, 0x40020000 ≤ r.addr → r.addr < 0x40030000 → p (s.setR r w) = p s)
    (htl : ∀ (s : State) x, p { s with tl := x } = p s) : p s.counts = p s := by
  unfold State.counts
  split
  · exact tlStart_frame s hset htl
  · rfl

theorem bootEnd_one (i : BootImage) (source : Nat) :
    s.bootEnd i 1 source = (((s.bootShown i 1 source).imageLoaded i).startMachs i).counts :=
  bootEnd_eq s i 1 source

theorem bootEnd_ne {r : Nat} (h : r ≠ 1) (i : BootImage) (source : Nat) :
    s.bootEnd i r source = s.bootShown i r source := by
  rw [bootEnd_eq, if_pos h]

theorem imageLoaded_frame {β : Type} {s : State} {p : State → β}
    (hset : ∀ (s : State) r w, 0x400C0100 ≤ r.addr → p (s.setR r w) = p s)
    (himage : ∀ (s : State) x, p { s with image := x } = p s)
    (hsram : ∀ (s : State) a b c, p { s with sram := a, sramMark := b, sramErr := c } = p s) (he : s.flashErr = []) (hf : s.flashFlux = [])
    (i : BootImage) : p (s.imageLoaded i) = p s := by
  obtain ⟨a, b, c, h⟩ := sramOnly_imageLoaded he hf i
  rw [h, hsram, mapLoaded_frame s hset himage]

theorem image_imageLoaded {s : State} (he : s.flashErr = []) (hf : s.flashFlux = []) (i : BootImage) :
    (s.imageLoaded i).image = some i := by
  obtain ⟨a, b, c, h⟩ := sramOnly_imageLoaded he hf i
  rw [h]
  exact loadHealMap_frame _ (p := State.image) (fun _ _ _ _ => rfl) _

/-- The end of boot with a good image, seen where it neither loads nor starts anything. -/
theorem bootEnd_frame {β : Type} {s : State} {p : State → β}
    (hset : ∀ (s : State) r w, 0x40020000 ≤ r.addr → p (s.setR r w) = p s)
    (himage : ∀ (s : State) x, p { s with image := x } = p s)
    (hsram : ∀ (s : State) a b c, p { s with sram := a, sramMark := b, sramErr := c } = p s)
    (hm : ∀ (s : State) m f, p (s.modMach m f) = p s) (htl : ∀ (s : State) x, p { s with tl := x } = p s)
    (he : s.flashErr = []) (hf : s.flashFlux = []) (i : BootImage) (r source : Nat) : p (s.bootEnd i r source) = p (s.bootShown i r source) := by
  by_cases hr : r = 1
  · subst hr
    rw [bootEnd_one]
    exact (counts_frame _ (fun s r w h _ => hset s r w h) htl).trans ((startMachs_frame _ hm i).trans
      (imageLoaded_frame (s := s.bootShown i 1 source) (fun s r w h => hset s r w (Nat.le_trans (by decide) h)) himage hsram he hf i))
  · rw [bootEnd_ne s hr]

theorem getR_bootEnd_stat {s : State} (he : s.flashErr = []) (hf : s.flashFlux = []) (i : BootImage)
    (r source : Nat) :
    (s.bootEnd i r source).getR Rg.BOOT_STAT =
      BitVec.ofNat 32 (r + source * 16 + (if r = 2 ∨ r = 5 ∨ r = 3 then 0 else i.format) * 256) :=
  (bootEnd_frame (p := fun s => s.getR Rg.BOOT_STAT)
    (fun s q w h => getR_setR_ne s (Nat.ne_of_lt (Nat.lt_of_lt_of_le (by decide) h)) w) (fun _ _ => rfl) (fun _ _ _ _ => rfl) (fun _ _ _ => rfl)
    (fun _ _ => rfl) he hf i r source).trans (getR_bootShown_stat s i r source)

/-- A good image starts each machine at its entry. -/
theorem mach_bootEnd {s : State} (he : s.flashErr = []) (hf : s.flashFlux = []) (i : BootImage) (source : Nat)
    {m : Mach}
    (hm : s.machExists m = true) :
    (s.bootEnd i 1 source).mach m = { s.freshMach i.vbase (bootEntry i m) with cycle := (s.mach m).cycle } := by
  have hloaded {β : Type} (p : State → β) (hset : ∀ (s : State) r w, 0x400C0100 ≤ r.addr → p (s.setR r w) = p s)
      (himage : ∀ (s : State) x, p { s with image := x } = p s)
      (hsram : ∀ (s : State) a b c, p { s with sram := a, sramMark := b, sramErr := c } = p s) :
      p ((s.bootShown i 1 source).imageLoaded i) = p (s.bootShown i 1 source) :=
    imageLoaded_frame (s := s.bootShown i 1 source) hset himage hsram he hf i
  have hmachs : ((s.bootShown i 1 source).imageLoaded i).machs = s.machs :=
    hloaded State.machs (fun _ _ _ _ => rfl) (fun _ _ => rfl) fun _ _ _ _ => rfl
  have htt : ((s.bootShown i 1 source).imageLoaded i).tt = s.tt := hloaded State.tt (fun _ _ _ _ => rfl) (fun _ _ => rfl) fun _ _ _ _ => rfl
  have hstrap : ((s.bootShown i 1 source).imageLoaded i).getR Rg.STRAP = s.getR Rg.STRAP := by
    refine (hloaded (fun s => s.getR Rg.STRAP) (fun s r w h => getR_setR_ne s (Nat.ne_of_lt (Nat.lt_of_lt_of_le (by decide) h)) w)
      (fun _ _ => rfl) fun _ _ _ _ => rfl).trans ?_
    rw [State.bootShown, getR_offF_ne _ (by decide), getR_offF_ne _ (by decide), getR_setR_ne _ (by decide)]
  have hexists : ((s.bootShown i 1 source).imageLoaded i).machExists m = true := by
    rw [State.machExists, split_of_getR hstrap]
    exact hm
  have hmem : m ∈ Mach.all.filter ((s.bootShown i 1 source).imageLoaded i).machExists :=
    List.mem_filter.2 ⟨by cases m <;> decide, hexists⟩
  rw [bootEnd_one, mach_of_machs (counts_frame _ (p := State.machs) (fun _ _ _ _ _ => rfl) fun _ _ => rfl), startMachs_eq,
    mach_each_bootMach i ((by decide : Mach.all.Nodup).filter _) _ hmem, mach_of_machs hmachs, State.freshMach, State.freshMach, htt]

/-- A flash image that touches no undefined sector is taken as it is. -/
theorem boot_flash {s : State} (hs : s.straps.boot = 0) (hf : s.flashFlux = []) (i : BootImage) :
    s.boot i = s.bootEnd i (s.bootResult i) 0 := by
  have himage : s.flashImage i = i := by simp [State.flashImage, hf]
  unfold State.boot
  rw [hs, himage]
  rfl

theorem exec_bootComplete {s : State} (hd : s.Settled) (hp : s.phase = .running)
    (hb : s.getF Fd.BOOT_STAT_RESULT = 0) (hs : s.straps.boot = 0)
    (he : s.flashErr = []) (hf : s.flashFlux = []) (i : BootImage) : exec (.bootComplete i) s = .next (s.bootEnd i (s.bootResult i) 0) := by
  have hr : (s.bootEnd i (s.bootResult i) 0).rst = s.rst :=
    (bootEnd_frame (p := State.rst) (fun _ _ _ _ => rfl) (fun _ _ => rfl) (fun _ _ _ _ => rfl) (fun _ _ _ => rfl)
      (fun _ _ => rfl) he hf i _ _).trans rfl
  show execBootComplete i s = _
  rw [execBootComplete, if_pos (by simp [hp, hb]), boot_flash hs hf]
  exact ok_of_rst hr hd

theorem image_bootEnd {s : State} (he : s.flashErr = []) (hf : s.flashFlux = []) (i : BootImage) (source : Nat) :
    (s.bootEnd i 1 source).image = some i := by
  rw [bootEnd_one]
  exact (counts_frame _ (p := State.image) (fun _ _ _ _ _ => rfl) fun _ _ => rfl).trans
    ((startMachs_frame _ (p := State.image) (fun _ _ _ => rfl) i).trans (image_imageLoaded (s := s.bootShown i 1 source) he hf i))

/-- The checks of R72 in their order. -/
theorem bootResult_eq (i : BootImage) : s.bootResult i =
    if i.present = false then 2 else if i.format ≠ 1 ∧ i.format ≠ 2 then 5
    else if i.signatureOk = false ∨ s.isF Fd.SPX_SSTAT_BOOT_OVF = true then 3
    else if i.layoutOk = false ∨ tableOk i.tasks = false ∨ 8 < i.heal.length then 4
    else if ∃ k ∈ i.tasks, k.safe = true ∧ s.split (Task.triadOf k) = true then 6 else 1 := by
  simp [State.bootResult, or_assoc]

theorem bootResult_lt (i : BootImage) : s.bootResult i < 16 := by
  unfold State.bootResult
  split_ifs <;> decide

end Start

/-! ### The obligation -/

/-- Settles O34: each command answers one named update of the state; what a release shows and raises, and what boot copies,
keep the rest by their frame lemmas. -/
theorem startOfTheModule : Obligations.StartOfTheModule := by
  unfold Obligations.StartOfTheModule
  intro s hd
  refine ⟨?power, fun f hp ho hb => ⟨?otp, ?otpBad⟩, ?memory, ?release, ?boot⟩
  case power =>
    intro i hp
    have hexec : exec (.powerOn i) s = ok (s.powerOnReset.modPwr fun p => p.put i true) := if_pos hp
    refine ⟨_, hexec.trans (ok_of_due rfl), rfl, ?_, rfl, rfl, rfl, rfl⟩
    cases i <;> rfl
  case otp =>
    have hexec : exec (.otpLoadComplete true f) s = ok { s with otp := f, pwr := { s.pwr with otpLoaded := true } } := by
      show execOtpLoadComplete true f s = _
      rw [execOtpLoadComplete, if_pos (by rcases hp with h | h <;> simp [h, ho, hb]), if_pos rfl]
      rfl
    exact hexec.trans (ok_of_rst rfl hd)
  case otpBad =>
    have hexec : exec (.otpLoadComplete false f) s = ok { s with pwr := { s.pwr with otpBad := true } } := by
      show execOtpLoadComplete false f s = _
      rw [execOtpLoadComplete, if_pos (by rcases hp with h | h <;> simp [h, ho, hb]), if_neg Bool.false_ne_true]
      rfl
    exact hexec.trans (ok_of_rst rfl hd)
  case memory =>
    intro hp hm he
    have hrun : s.memCleared.phase ≠ .running := by rcases hp with h | h <;> simp [State.memCleared, h]
    have hkeep {β : Type} (p : State → β) (hset : ∀ (s : State) r w, p (s.setR r w) = p s)
        (hcs : ∀ (s : State) x, p { s with cs := x } = p s) :
        p s.memCleared.calSelect = p s.memCleared := calSelect_frame p hset hcs hrun he
    refine ⟨_, exec_memoryInitialiserComplete hd hp hm he, ?_, ?_, ?_, ?_, ?_⟩
    · exact hkeep (fun s => s.pwr.memInit) (fun _ _ _ => rfl) fun _ _ => rfl
    · exact hkeep State.sramMark (fun _ _ _ => rfl) fun _ _ => rfl
    · exact hkeep State.sram (fun _ _ _ => rfl) fun _ _ => rfl
    · exact hkeep State.sramErr (fun _ _ _ => rfl) fun _ _ => rfl
    · exact hkeep State.flash (fun _ _ _ => rfl) fun _ _ => rfl
  case release =>
    intro x y z hp hm ho hv hfail hn ht hb he hf hq hst
    have h : s.Releasable := ⟨hp, hm, ho, hv, hfail, hn, ht, hb, he, hf, ⟨hq 7 (by decide), hq 8 (by decide), hq 39 (by decide)⟩, hst⟩
    refine ⟨_, exec_resetRelease h hd, ?_, ?_, split_release h _ .a, split_release h _ .b, fun hs => ?_,
      fun w hw => node_release_of_record h _ hw, node_release_of_no_record h _⟩
    · exact release_frame h _ (p := State.phase) (fun _ _ _ => rfl) (fun _ _ => rfl) (fun _ _ => rfl) fun _ _ _ => rfl
    · exact release_frame h _ (p := State.straps) (fun _ _ _ => rfl) (fun _ _ => rfl) (fun _ _ => rfl) fun _ _ _ => rfl
    · exact bitF_releaseRaises_split (releaseQuiet_broughtUp h _) ((split_broughtUp h _ .a).trans hs)
  case boot =>
    intro i hp hb hs he hf
    dsimp only
    rw [← bootResult_eq]
    obtain ⟨hres, hsrc⟩ := getF_boot_result (bootResult_lt s i) (getR_bootEnd_stat he hf i (s.bootResult i) 0)
    refine ⟨_, exec_bootComplete hd hp hb hs he hf i, hres, hsrc, fun h1 => ?_⟩
    rw [h1]
    refine ⟨?_, fun m hm => mach_bootEnd he hf i 0 hm⟩
    exact image_bootEnd he hf i 0

end Sys2Proof.Machine
end

section
/-! SUPPORT. What a change of the topology does to the timetable (R202, R205 to R208), and what sending a frame changes
(R375, R376, R382, R388). -/

namespace Sys2Proof.Machine

variable (s : State)

/-! ### A change of the topology (R202, R206, R393) -/

/-- The registers that follow the topology, and the sticky bits 32 to 63. -/
def timeRegs : List Rg :=
  [Rg.OV_TOPO, Rg.OV_EVT, Rg.TT_BOUND, Rg.TT_TOPO, Rg.TT_VOLUME, Rg.TT_CLOSE, Rg.TT_STAT, Rg.TT_CHG_EPOCH, Rg.SB_STICKY 1]

/-- Of the registers, of what reset leaves due and of what the node knows of the others, only `timeRegs` differ. -/
structure State.TimeOnly (s t : State) : Prop where
  regs : ∀ q : Rg, (∀ r ∈ timeRegs, q.addr ≠ r.addr) → t.getR q = s.getR q
  rst : t.rst = s.rst
  nodes : t.ov.nodes = s.ov.nodes
  inbox : t.ov.inbox = s.ov.inbox

theorem State.TimeOnly.refl : s.TimeOnly s := ⟨fun _ _ => rfl, rfl, rfl, rfl⟩

theorem State.TimeOnly.trans {s t u : State} (h : s.TimeOnly t) (g : t.TimeOnly u) : s.TimeOnly u :=
  ⟨fun q hq => (g.regs q hq).trans (h.regs q hq), g.rst.trans h.rst, g.nodes.trans h.nodes, g.inbox.trans h.inbox⟩

theorem State.TimeOnly.quiet {s t : State} (h : s.TimeOnly t) {k : Nat}
    (hk : ∀ r ∈ timeRegs, (Rg.SB_CFG k).addr ≠ r.addr)
    (hq : s.Quiet k) : t.Quiet k := quiet_of_getR (h.regs _ hk) hq

theorem State.TimeOnly.isF {s t : State} (h : s.TimeOnly t) {f : Fd}
    (hf : ∀ r ∈ timeRegs, f.reg.addr ≠ r.addr) : t.isF f = s.isF f :=
  isF_of_getR (h.regs _ hf)

theorem timeOnly_setF {f : Fd} (h : f.reg ∈ timeRegs) (v : Nat) : s.TimeOnly (s.setF f v) :=
  ⟨fun _ hq => getR_setF_ne s (hq _ h) v, rfl, rfl, rfl⟩

theorem timeOnly_onF {f : Fd} (h : f.reg ∈ timeRegs) : s.TimeOnly (s.onF f) := timeOnly_setF s h 1
theorem timeOnly_offF {f : Fd} (h : f.reg ∈ timeRegs) : s.TimeOnly (s.offF f) := timeOnly_setF s h 0

/-- What the timetable holds beside its registers. -/
theorem timeOnly_tt (x : TtblH) : s.TimeOnly { s with tt := x } := ⟨fun _ _ => rfl, rfl, rfl, rfl⟩

theorem timeOnly_raise {s : State} {k : Nat} (hq : s.Quiet k) (h32 : 32 ≤ k) (h64 : k < 64) :
    s.TimeOnly (s.raise k) := by
  have hreg : (Fd.SB_STICKY_BITS (k / 32)).reg ∈ timeRegs := by
    rw [show k / 32 = 1 by omega]
    decide
  rw [raise_of_quiet (by omega) hq]
  exact timeOnly_setF s hreg _

theorem timeOnly_checkMismatch {s : State} (hq : s.Quiet 52) : s.TimeOnly s.checkMismatch := by
  have hon := timeOnly_onF s (f := Fd.TT_STAT_PERIOD_MISMATCH) (by decide)
  unfold State.checkMismatch
  split
  · exact timeOnly_offF s (by decide)
  · split
    · exact State.TimeOnly.refl s
    · exact hon.trans (timeOnly_raise (hon.quiet (by decide) hq) (by decide) (by decide))

theorem timeOnly_setClose : s.TimeOnly s.setClose := by
  unfold State.setClose
  dsimp only
  split
  · exact (timeOnly_setF s (by decide) _).trans (timeOnly_onF _ (by decide))
  · exact (timeOnly_setF s (by decide) _).trans (timeOnly_offF _ (by decide))

theorem timeOnly_judgePeriod : s.TimeOnly s.judgePeriod := by
  unfold State.judgePeriod
  dsimp only
  split
  · exact State.TimeOnly.refl s
  · split
    · exact timeOnly_onF s (by decide)
    · exact ((timeOnly_onF s (by decide)).trans (timeOnly_setF _ (by decide) _)).trans (timeOnly_tt _ _)

/-- The registers of the bound and of the station's shape (R205, R206). -/
def State.boundShown : State :=
  let s := s.setF Fd.TT_BOUND_BOUND s.boundUs
  let s := (s.setF Fd.TT_TOPO_H s.hops).setF Fd.TT_TOPO_RING (b2n (s.topoMode == 2))
  (s.setF Fd.TT_TOPO_HOP_NS (s.hopTime / 10)).setF Fd.TT_VOLUME_V s.volume

theorem timeOnly_boundShown : s.TimeOnly s.boundShown :=
  (((((timeOnly_setF s (by decide) _).trans (timeOnly_setF _ (by decide) _)).trans (timeOnly_setF _ (by decide) _)).trans
    (timeOnly_setF _ (by decide) _)).trans (timeOnly_setF _ (by decide) _))

/-- What the master does at a computation of the bound. -/
def State.masterJudges : State := if s.isF Fd.TT_STAT_MASTER then s.setClose.judgePeriod.checkMismatch else s

theorem timeOnly_masterJudges {s : State} (hq : s.Quiet 52) : s.TimeOnly s.masterJudges := by
  have hjudged := (timeOnly_setClose s).trans (timeOnly_judgePeriod _)
  unfold State.masterJudges
  split
  · exact hjudged.trans (timeOnly_checkMismatch (hjudged.quiet (by decide) hq))
  · exact State.TimeOnly.refl s

theorem timeOnly_computeBound {s : State} (hq49 : s.Quiet 49) (hq52 : s.Quiet 52) : s.TimeOnly s.computeBound := by
  have hshown := timeOnly_boundShown s
  have hjudged := hshown.trans (timeOnly_masterJudges (hshown.quiet (by decide) hq52))
  have hviol := hjudged.trans (timeOnly_onF _ (f := Fd.TT_STAT_BOUND_VIOL) (by decide))
  have hbound : s.computeBound = if !s.isF Fd.TT_STAT_LOCKED then s
      else if s.boundShown.masterJudges.period < s.boundShown.masterJudges.boundUs then
        (s.boundShown.masterJudges.onF Fd.TT_STAT_BOUND_VIOL).raise 49
      else s.boundShown.masterJudges.offF Fd.TT_STAT_BOUND_VIOL := rfl
  rw [hbound]
  split
  · exact State.TimeOnly.refl s
  · split
    · exact hviol.trans (timeOnly_raise (hviol.quiet (by decide) hq49) (by decide) (by decide))
    · exact hjudged.trans (timeOnly_offF _ (by decide))

theorem timeOnly_enterHoldover {s : State} (hq : s.Quiet 48) : s.TimeOnly s.enterHoldover := by
  have hheld := ((timeOnly_onF s (f := Fd.TT_STAT_HOLDOVER) (by decide)).trans (timeOnly_offF _ (f := Fd.TT_STAT_SLEWING) (by decide))).trans
    (timeOnly_tt _ { s.tt with slew := 0 })
  unfold State.enterHoldover
  split
  · exact hheld.trans (timeOnly_raise (hheld.quiet (by decide) hq) (by decide) (by decide))
  · exact State.TimeOnly.refl s

theorem timeOnly_topoUpdate : s.TimeOnly s.topoUpdate :=
  ⟨fun q hq => topoUpdate_frame s (p := fun s => s.getR q) (skips_getR fun r hr => hq r ((show topoRegs ⊆ timeRegs by decide) hr)) fun _ _ => rfl,
    topoUpdate_frame s (p := State.rst) (fun _ _ _ _ => rfl) fun _ _ => rfl,
    topoUpdate_frame s (p := fun s => s.ov.nodes) (fun _ _ _ _ => rfl) fun _ _ => rfl,
    topoUpdate_frame s (p := fun s => s.ov.inbox) (fun _ _ _ _ => rfl) fun _ _ => rfl⟩

/-- The sources that a change of the topology may raise are quiet. -/
structure State.TopoQuiet : Prop where
  holdover : s.Quiet 48
  bound : s.Quiet 49
  mismatch : s.Quiet 52

theorem topoQuiet_of_regs {s t : State} (h : t.regs = s.regs) (hq : s.TopoQuiet) : t.TopoQuiet :=
  ⟨quiet_of_regs h hq.holdover, quiet_of_regs h hq.bound, quiet_of_regs h hq.mismatch⟩

theorem timeOnly_topologyChanged {s : State} (hq : s.TopoQuiet) : s.TimeOnly s.topologyChanged := by
  have htopo := timeOnly_topoUpdate s
  have hbound := htopo.trans (timeOnly_computeBound (htopo.quiet (by decide) hq.bound) (htopo.quiet (by decide) hq.mismatch))
  unfold State.topologyChanged
  dsimp only
  split
  · exact hbound
  · exact hbound.trans (timeOnly_enterHoldover (hbound.quiet (by decide) hq.holdover))

/-! ### Sending (R375, R376, R382) -/

theorem setPort_regs (p : Port) (x : PortH) : (s.setPort p x).regs = s.regs := by cases p <;> rfl

/-- The registers that sending writes, and the sticky bits 32 to 63. -/
def sendRegs : List Rg := [Rg.OV_RBUF 0, Rg.OV_RBUF 1, Rg.OV_DROP 0, Rg.OV_DROP 1, Rg.OV_EVT, Rg.SB_STICKY 1]

/-- Of the registers, of what reset leaves due, of the node's origin sequence and of what it knows of the others, only
`sendRegs` differ. -/
structure State.SendOnly (s t : State) : Prop where
  regs : ∀ q : Rg, (∀ r ∈ sendRegs, q.addr ≠ r.addr) → t.getR q = s.getR q
  rst : t.rst = s.rst
  oseq : t.ov.oseq = s.ov.oseq
  nodes : t.ov.nodes = s.ov.nodes

theorem State.SendOnly.refl : s.SendOnly s := ⟨fun _ _ => rfl, rfl, rfl, rfl⟩

theorem State.SendOnly.trans {s t u : State} (h : s.SendOnly t) (g : t.SendOnly u) : s.SendOnly u :=
  ⟨fun q hq => (g.regs q hq).trans (h.regs q hq), g.rst.trans h.rst, g.oseq.trans h.oseq, g.nodes.trans h.nodes⟩

theorem State.SendOnly.quiet {s t : State} (h : s.SendOnly t) {k : Nat}
    (hk : ∀ r ∈ sendRegs, (Rg.SB_CFG k).addr ≠ r.addr)
    (hq : s.Quiet k) : t.Quiet k := quiet_of_getR (h.regs _ hk) hq

theorem State.SendOnly.nodeId {s t : State} (h : s.SendOnly t) : t.nodeId = s.nodeId :=
  getF_of_getR (f := Fd.OV_NODE_ID) (h.regs Rg.OV_NODE (by decide))

theorem sendOnly_setF {f : Fd} (h : f.reg ∈ sendRegs) (v : Nat) : s.SendOnly (s.setF f v) :=
  ⟨fun _ hq => getR_setF_ne s (hq _ h) v, rfl, rfl, rfl⟩

theorem sendOnly_setPort (p : Port) (x : PortH) : s.SendOnly (s.setPort p x) := by
  cases p <;> exact ⟨fun _ _ => rfl, rfl, rfl, rfl⟩

theorem sendOnly_transmit (p : Port) (f : Frame) : s.SendOnly (s.transmit p f) := by
  have hbytes : (Fd.OV_RBUF_BYTES p.idx).reg ∈ sendRegs := by cases p <;> decide
  have hframes : (Fd.OV_RBUF_FRAMES p.idx).reg ∈ sendRegs := by cases p <;> decide
  exact ((sendOnly_setPort s p _).trans (sendOnly_setF _ hbytes _)).trans (sendOnly_setF _ hframes _)

theorem sendOnly_drainHeld (p : Port) (n : Nat) (s : State) : s.SendOnly (State.drainHeld p n s) := by
  induction n generalizing s with
  | zero => exact State.SendOnly.refl s
  | succ n ih =>
    unfold State.drainHeld
    split
    · split
      · exact sendOnly_setPort s p _
      · exact State.SendOnly.refl s
    · split
      · exact State.SendOnly.refl s
      · exact ((sendOnly_setPort s p _).trans (sendOnly_transmit _ p _)).trans (ih _)

theorem sendOnly_queueAt (p : Port) (key : Nat) (f : Frame) : s.SendOnly (s.queueAt p key f) :=
  (sendOnly_setPort s p _).trans (sendOnly_drainHeld p _ _)

theorem sendOnly_countDrop {s : State} (hq : s.Quiet 40) (p : Port) : s.SendOnly (s.countDrop p) := by
  have hdrop : (Fd.OV_DROP_VERSION p.idx).reg ∈ sendRegs := by cases p <;> decide
  have hcounted := (sendOnly_setF s hdrop (satAdd (2 ^ (Fd.OV_DROP_VERSION p.idx).width - 1) (s.getF (Fd.OV_DROP_VERSION p.idx)) 1)).trans
    (sendOnly_setF _ (f := Fd.OV_EVT_VDROP) (by decide) 1)
  unfold State.countDrop
  have hraise : ((s.incF (Fd.OV_DROP_VERSION p.idx)).onF Fd.OV_EVT_VDROP).raise 40 =
    ((s.incF (Fd.OV_DROP_VERSION p.idx)).onF Fd.OV_EVT_VDROP).sticky 40 :=
    raise_of_quiet (by decide) (hcounted.quiet (by decide) hq)
  rw [hraise]
  exact hcounted.trans (sendOnly_setF _ (f := Fd.SB_STICKY_BITS 1) (by decide) _)

theorem sendOnly_toSelf (f : Frame) : s.SendOnly (s.toSelf f) := ⟨fun _ _ => rfl, rfl, rfl, rfl⟩

/-- A frame of the node's own leaves, waits, or is dropped and answered at the node itself. -/
theorem sendOnly_sendAt {s : State} (hq : s.Quiet 40) (key : Nat) {f : Frame} (hf : f.src = s.nodeId)
    (p : Port) : s.SendOnly (s.sendAt key f p) := by
  have hdrop := sendOnly_countDrop hq p
  unfold State.sendAt
  dsimp only
  split
  · split
    · exact hdrop
    · unfold State.sendRefuse
      dsimp only
      rw [if_pos (hf.trans hdrop.nodeId.symm)]
      exact hdrop.trans (sendOnly_toSelf _ _)
  · exact sendOnly_queueAt s p key f

theorem sendOnly_each_sendOn {s : State} (hq : s.Quiet 40) {f : Frame} (hf : f.src = s.nodeId) (l : List Port) :
    s.SendOnly (State.each (fun p s => s.sendOn f p) l s) := by
  induction l generalizing s with
  | nil => exact State.SendOnly.refl s
  | cons p r ih =>
    have hsent : s.SendOnly (s.sendOn f p) := sendOnly_sendAt hq _ hf p
    exact hsent.trans (ih (hsent.quiet (by decide) hq) (hf.trans hsent.nodeId.symm))

/-- A frame of the node's own sets out. -/
theorem sendOnly_route {s : State} (hq : s.Quiet 40) {f : Frame} (hf : f.src = s.nodeId) :
    s.SendOnly (s.route f) := by
  unfold State.route
  split
  · exact sendOnly_each_sendOn hq hf _
  · split
    · exact sendOnly_toSelf s f
    · split
      · exact State.SendOnly.refl s
      · split
        · exact sendOnly_sendAt hq _ hf _
        · exact State.SendOnly.refl s

end Sys2Proof.Machine
end

section
/-! PROOF. PRESENCE, TOPOLOGY, ASSIGN, WAKE and REFUSE (O42). -/

namespace Sys2Proof.Machine

section Station
variable (s : State)

/-! ### PRESENCE goes out (R376, R386) -/

theorem port_setPort_same (p : Port) (x : PortH) : (s.setPort p x).port p = x := by cases p <;> rfl

theorem port_setPort_ne {p q : Port} (h : q ≠ p) (x : PortH) : (s.setPort p x).port q = s.port q := by
  match p, q, h with
  | .east, .west, _ => rfl
  | .west, .east, _ => rfl
  | .east, .east, h => exact absurd rfl h
  | .west, .west, h => exact absurd rfl h

theorem port_showRbuf (p q : Port) : (s.showRbuf p).port q = s.port q := by cases q <;> rfl

theorem port_transmit_same (p : Port) (f : Frame) : (s.transmit p f).port p =
    { s.port p with unacked := (s.port p).unacked ++ [((s.port p).txSeq, f)], txSeq := ((s.port p).txSeq + 1) % 65536 } := by
  rw [State.transmit, port_showRbuf, State.modPort, port_setPort_same]

theorem port_transmit_ne {p q : Port} (h : q ≠ p) (f : Frame) : (s.transmit p f).port q = s.port q := by
  rw [State.transmit, port_showRbuf, State.modPort, port_setPort_ne _ h]

theorem port_drainHeld_ne {p q : Port} (h : q ≠ p) (n : Nat) (s : State) :
    (State.drainHeld p n s).port q = s.port q := by
  induction n generalizing s with
  | zero => rfl
  | succ n ih =>
    unfold State.drainHeld
    split
    · split
      · exact port_setPort_ne s h _
      · rfl
    · split
      · rfl
      · rw [ih, port_transmit_ne _ h]
        exact port_setPort_ne s h _

/-- What one port sends does not change the other. -/
theorem port_queueAt_ne {p q : Port} (h : q ≠ p) (key : Nat) (f : Frame) : (s.queueAt p key f).port q = s.port q := by
  rw [State.queueAt, State.drain, port_drainHeld_ne h]
  exact port_setPort_ne s h _

theorem drrNext_nil (weight share : Nat → Nat) (d : Drr) : drrNext weight share [] d = none := rfl

/-- Where nothing is held back, nothing leaves. -/
theorem nextHeld_of_nil {s : State} {p : Port} (h : (s.port p).held = []) : s.nextHeld p = none := by
  simp [State.nextHeld, h, drrNext_nil]

/-- Of a single frame held back behind rank 7, this one leaves next. -/
theorem nextHeld_of_single {s : State} {p : Port} {key : Nat} {f : Frame} (h : (s.port p).held = [(key, f)])
    (hk : 16 ≤ key) :
    s.nextHeld p = some ((key, f), 0, (s.port p).drr) := by
  have h14 : ¬ key < 14 := by omega
  have hne14 : (key == 14) = false := beq_eq_false_iff_ne.2 (by omega)
  have hne15 : (key == 15) = false := beq_eq_false_iff_ne.2 (by omega)
  simp [State.nextHeld, h, h14, hne14, hne15, hk, drrNext_nil]

theorem drainHeld_of_nil {s : State} {p : Port} (h : (s.port p).held = []) (n : Nat) :
    ((State.drainHeld p n s).port p).unacked = (s.port p).unacked := by
  cases n with
  | zero => rfl
  | succ n =>
    rw [State.drainHeld, nextHeld_of_nil h]
    simp [h, State.modPort, port_setPort_same]

/-- A frame behind rank 7 leaves at once on a port where nothing is held back or unacknowledged. -/
theorem queueAt_of_idle {s : State} {p : Port} {key : Nat} {f : Frame} (hh : (s.port p).held = [])
    (hu : (s.port p).unacked = [])
    (hk : 16 ≤ key) (hb : f.bytes ≤ 16384) : ((s.queueAt p key f).port p).unacked = [((s.port p).txSeq, f)] := by
  have hport : (s.modPort p fun x => { x with held := insertHeld key f x.held }).port p = { s.port p with held := [(key, f)] } := by
    rw [State.modPort, port_setPort_same, hh]
    rfl
  generalize hq : (s.modPort p fun x => { x with held := insertHeld key f x.held }) = t at hport
  have hnext := nextHeld_of_single (s := t) (p := p) (by rw [hport]) hk
  have hfull : (t.port p).full f = false := by
    rw [hport]
    simp [PortH.full, PortH.bytes, hu, hb]
  rw [State.queueAt, hq, State.drain, State.drainHeld, hnext]
  simp only [hfull, Bool.false_eq_true, if_false]
  rw [drainHeld_of_nil]
  · rw [port_transmit_same, State.modPort, port_setPort_same, hport]
    simp [hu]
  · rw [port_transmit_same, State.modPort, port_setPort_same, hport]
    simp

/-- PRESENCE as a frame. -/
def State.presenceFrame : Frame := { dest := nodeBase 0x3FF, src := s.nodeId, oseq := s.ov.oseq, body := s.presence }

/-- PRESENCE goes behind rank 7, and fits into an empty replay buffer. -/
theorem heldKey_presenceFrame : 16 ≤ heldKey s.presenceFrame := show 16 ≤ 2 * 8 + 1 by decide
theorem bytes_presenceFrame : s.presenceFrame.bytes ≤ 16384 := show 32 + 28 ≤ 16384 by decide

/-- The origin sequence has been used. -/
def State.nextOseq : State := { s with ov := { s.ov with oseq := (s.ov.oseq + 1) % 65536 } }

/-- PRESENCE is carried by a link of every revision. -/
theorem sendOn_presence (t : State) (p : Port) :
    t.sendOn s.presenceFrame p = t.queueAt p (heldKey s.presenceFrame) s.presenceFrame := by
  have hrev : s.presenceFrame.body.rev = 0 := rfl
  rw [State.sendOn, State.sendAt, hrev, if_neg (Nat.not_lt_zero _)]

/-- An unnumbered node sends PRESENCE too (R384). -/
theorem sendPresence_eq {s : State} (hl : s.ovLive = true) :
    s.sendPresence = State.each (fun p s' => s'.queueAt p (heldKey s.presenceFrame) s.presenceFrame) s.linkedPorts s.nextOseq := by
  have hroute : s.sendPresence = s.nextOseq.route s.presenceFrame := by
    unfold State.sendPresence State.originate
    rw [hl]
    exact if_neg (by simp [State.presence])
  have hsend : (fun (p : Port) (s' : State) => s'.sendOn s.presenceFrame p) = fun p s' => s'.queueAt p (heldKey s.presenceFrame) s.presenceFrame :=
    funext fun p => funext fun t => sendOn_presence s t p
  have hcast : s.presenceFrame.broadcast = true := rfl
  rw [hroute, State.route, if_pos hcast, hsend]
  rfl

theorem sendOnly_each_queueAt (key : Nat) (f : Frame) (l : List Port) (s : State) :
    s.SendOnly (State.each (fun p s => s.queueAt p key f) l s) := by
  induction l generalizing s with
  | nil => exact State.SendOnly.refl s
  | cons p r ih => exact (sendOnly_queueAt s p key f).trans (ih _)

/-- On each port of a list the frame leaves at once where nothing goes before it. -/
theorem unacked_each_queueAt {key : Nat} {f : Frame} (hk : 16 ≤ key) (hb : f.bytes ≤ 16384) {p : Port}
    {l : List Port} (hl : l.Nodup) (hp : p ∈ l)
    {s : State} (hh : (s.port p).held = []) (hu : (s.port p).unacked = []) :
    ((State.each (fun q s => s.queueAt q key f) l s).port p).unacked = [((s.port p).txSeq, f)] := by
  have hout {r : List Port} (hr : p ∉ r) (s : State) : (State.each (fun q s => s.queueAt q key f) r s).port p = s.port p := by
    induction r generalizing s with
    | nil => rfl
    | cons q r ih =>
      rw [State.each, ih (fun h => hr (List.mem_cons_of_mem q h)), port_queueAt_ne _ fun h : p = q => hr (h ▸ List.mem_cons_self)]
  induction l generalizing s with
  | nil => exact absurd hp List.not_mem_nil
  | cons q r ih =>
    obtain ⟨hq, hr⟩ := List.nodup_cons.1 hl
    by_cases h : p = q
    · subst h
      rw [State.each, hout hq]
      exact queueAt_of_idle hh hu hk hb
    · have hkeep : (s.queueAt q key f).port p = s.port p := port_queueAt_ne s h key f
      have hrest := ih hr ((List.mem_cons.1 hp).resolve_left h) (s := s.queueAt q key f) (by rw [hkeep]; exact hh) (by rw [hkeep]; exact hu)
      rw [hkeep] at hrest
      exact hrest

theorem linkedPorts_nodup : s.linkedPorts.Nodup := (by decide : [Port.east, Port.west].Nodup).filter _

theorem mem_linkedPorts {s : State} {p : Port} (h : s.linked p = true) : p ∈ s.linkedPorts :=
  List.mem_filter.2 ⟨by cases p <;> decide, h⟩

theorem exec_presenceTimer {s : State} (hl : s.ovLive = true) (hd : s.Settled) :
    exec .presenceTimer s = .next (State.each (fun p s' => s'.queueAt p (heldKey s.presenceFrame) s.presenceFrame) s.linkedPorts s.nextOseq) := by
  have hexec : exec .presenceTimer s = ok s.sendPresence := if_pos hl
  rw [hexec, sendPresence_eq hl]
  exact ok_of_rst (sendOnly_each_queueAt _ _ _ _).rst hd

/-! ### A frame that has come (R381) -/

/-- The rest of the frames wait. -/
def State.taken (r : List (Option Port × Frame)) : State := { s with ov := { s.ov with inbox := r } }

theorem taken_rst (r : List (Option Port × Frame)) : (s.taken r).rst = s.rst := rfl

/-- The oldest frame is the first of its own type. -/
theorem takeFrame_head {s : State} {q : Option Port × Frame} {r : List (Option Port × Frame)}
    (h : s.ov.inbox = q :: r) {type : Nat}
    (ht : q.2.body.type = type) : s.takeFrame type = some (q, s.taken r) := by
  have htake : takeFirst (fun x : Option Port × Frame => x.2.body.type == type) (q :: r) = some (q, r) := by
    rw [takeFirst, if_pos (beq_iff_eq.2 ht)]
  rw [State.takeFrame, h, htake]
  rfl

section Came
variable {s : State} {p : Port} {f : Frame} {r : List (Option Port × Frame)} (hcame : s.ov.inbox = (some p, f) :: r)
include hcame

theorem exec_presenceReceive {m : PresMsg} (hb : f.body = .presence m) :
    exec .presenceReceive s = ok ((s.taken r).presenceIn m) := by
  show execPresenceReceive s = _
  simp only [execPresenceReceive, takeFrame_head hcame (show f.body.type = 0x02 by rw [hb]; rfl), hb]

theorem exec_topologyReceive {n : Nat} {q : Port} {st : Nat} {beyond : List Nat}
    (hb : f.body = .topology n q st beyond) :
    exec .topologyReceive s = ok ((s.taken r).topologyIn n q st beyond) := by
  show execTopologyReceive s = _
  simp only [execTopologyReceive, takeFrame_head hcame (show f.body.type = 0x03 by rw [hb]; rfl), hb]

theorem exec_assignReceive {sn : DWord} {id : Nat} (hb : f.body = .assign sn id) :
    exec .assignReceive s = ok ((s.taken r).assignIn sn id) := by
  show execAssignReceive s = _
  simp only [execAssignReceive, takeFrame_head hcame (show f.body.type = 0x0B by rw [hb]; rfl), hb]

theorem exec_wakeFrameReceive (hb : f.body = .wake) :
    exec .wakeFrameReceive s = ok (if (s.taken r).numbered then (s.taken r).wakeEvent wkFrame else s.taken r) := by
  show execWakeFrameReceive s = _
  simp only [execWakeFrameReceive, takeFrame_head hcame (show f.body.type = 0x0A by rw [hb]; rfl)]

theorem exec_refuseReceive {o : Nat} {lane : Option Nat} (hb : f.body = .refuse o lane) :
    exec .refuseReceive s = ok ((s.taken r).refuseIn o lane) := by
  show execRefuseReceive s = _
  simp only [execRefuseReceive, takeFrame_head hcame (show f.body.type = 0x08 by rw [hb]; rfl), hb]

end Came

/-! ### PRESENCE comes in (R386) -/

/-- What PRESENCE tells of a node. -/
def presInfo (m : PresMsg) : NodeInfo :=
  { port := m.path, serial := m.serial, rev := m.rev, eastSt := m.eastSt, westSt := m.westSt
    delay := max m.eastDelay m.westDelay, volume := m.volume }

/-- What the node knows of the others. -/
def State.withNodes (l : List (Nat × NodeInfo)) : State := { s with ov := { s.ov with nodes := l } }

/-- A PRESENCE that contests no ID tells of its node. -/
theorem presenceIn_of_uncontested {s : State} (hq : s.TopoQuiet) {m : PresMsg}
    (hc : ¬(s.numbered = true ∧ m.node = s.nodeId ∧ m.serial ≠ s.serial)) :
    (s.presenceIn m).rst = s.rst ∧ (s.presenceIn m).ov.inbox = s.ov.inbox ∧
    lookupNat (presKey m) (s.presenceIn m).ov.nodes = some (presInfo m) := by
  have hin : s.presenceIn m = if lookupNat (presKey m) s.ov.nodes = some (presInfo m) then s
      else (s.withNodes (insertNat (presKey m) (presInfo m) s.ov.nodes)).topologyChanged := if_neg hc
  rw [hin]
  split
  · exact ⟨rfl, rfl, by assumption⟩
  · obtain ⟨-, hrst, hnodes, hinbox⟩ := 
      timeOnly_topologyChanged (s := s.withNodes (insertNat (presKey m) (presInfo m) s.ov.nodes)) (topoQuiet_of_regs (s := s) rfl hq)
    refine ⟨hrst, hinbox, ?_⟩
    rw [hnodes]
    exact lookupNat_insertNat_same _ _ _

/-- The status of an unlocked node. -/
def State.lockOff : State :=
  let s := ((s.offF Fd.TT_STAT_LOCKED).offF Fd.TT_STAT_MASTER).offF Fd.TT_STAT_HOLDOVER
  (s.offF Fd.TT_STAT_SLEWING).offF Fd.TT_STAT_CHG_PENDING

theorem isF_lockOff_locked : s.lockOff.isF Fd.TT_STAT_LOCKED = false := by
  simp only [State.lockOff, State.offF]
  rw [isF_setF_field (f := Fd.TT_STAT_CHG_PENDING) (g := Fd.TT_STAT_LOCKED) _ rfl (by decide),
    isF_setF_field (f := Fd.TT_STAT_SLEWING) (g := Fd.TT_STAT_LOCKED) _ rfl (by decide),
    isF_setF_field (f := Fd.TT_STAT_HOLDOVER) (g := Fd.TT_STAT_LOCKED) _ rfl (by decide),
    isF_setF_field (f := Fd.TT_STAT_MASTER) (g := Fd.TT_STAT_LOCKED) _ rfl (by decide), isF_setF_same _ (by decide)]
  rfl

/-- The loss of lock, before it is raised (R204). -/
def State.lockLost : State :=
  let s := s.lockOff.setF Fd.TT_MASTER_MASTER_ID 0x3FF
  let s := { s with tt := { s.tt with slew := 0, okFrames := 0, wasLocked := true, heard := false, pend := none, started := false } }
  s.incF Fd.TT_CNT_LOCK_LOSS

def lockRegs : List Rg := [Rg.TT_STAT, Rg.TT_MASTER, Rg.TT_CNT]

/-- After its status has changed, the loss of lock writes two more registers. -/
theorem lockLost_frame_off {β : Type} {p : State → β} (h : Skips p [Rg.TT_MASTER, Rg.TT_CNT])
    (htt : ∀ (s : State) x, p { s with tt := x } = p s) :
    p s.lockLost = p s.lockOff :=
  (h _ Rg.TT_CNT (by decide) _).trans ((htt _ _).trans (h _ Rg.TT_MASTER (by decide) _))

theorem lockLost_frame {β : Type} {p : State → β} (h : Skips p lockRegs)
    (htt : ∀ (s : State) x, p { s with tt := x } = p s) :
    p s.lockLost = p s := by
  have hset (s : State) {f : Fd} (hr : f.reg ∈ lockRegs) (v : Nat) : p (s.setF f v) = p s := h s f.reg hr _
  exact (lockLost_frame_off s (skips_of_subset h (by decide)) htt).trans ((hset _ (by decide) _).trans ((hset _ (by decide) _).trans
    ((hset _ (by decide) _).trans ((hset _ (by decide) _).trans (hset _ (by decide) _)))))

theorem loseLock_eq {s : State} (hq : s.Quiet 51) :
    s.loseLock = if s.isF Fd.TT_STAT_LOCKED then s.lockLost.sticky 51 else s := by
  have hq' : s.lockLost.Quiet 51 := quiet_of_getR (lockLost_frame s (p := fun s => s.getR (Rg.SB_CFG 51)) (skips_getR (by decide)) fun _ _ => rfl) hq
  rw [← raise_of_quiet (by decide) hq']
  simp only [State.loseLock, State.lockLost, State.lockOff]

theorem loseLock_frame {β : Type} {s : State} {p : State → β} (hq : s.Quiet 51)
    (h : Skips p (Rg.SB_STICKY 1 :: lockRegs))
    (htt : ∀ (s : State) x, p { s with tt := x } = p s) : p s.loseLock = p s := by
  rw [loseLock_eq hq]
  split
  · exact (h _ (Rg.SB_STICKY 1) (by decide) _).trans (lockLost_frame s (skips_of_subset h (by decide)) htt)
  · rfl

theorem isF_loseLock_locked {s : State} (hq : s.Quiet 51) : s.loseLock.isF Fd.TT_STAT_LOCKED = false := by
  rw [loseLock_eq hq]
  split
  · rw [isF_sticky_ne _ (by decide)]
    exact (isF_of_getR (f := Fd.TT_STAT_LOCKED)
      (lockLost_frame_off s (p := fun s => s.getR Rg.TT_STAT) (skips_getR (by decide)) fun _ _ => rfl)).trans
      (isF_lockOff_locked s)
  · exact Bool.eq_false_iff.2 (by assumption)

/-- The number is lost, before it is raised. -/
def State.numberLost : State :=
  let s := ((s.setF Fd.OV_NODE_ID 0x3FF).offF Fd.OV_NODE_NUMBERED).offF Fd.OV_NODE_SRC
  s.onF Fd.OV_NODE_DUP

theorem loseNumber_eq {s : State} (hq : s.Quiet 38) : s.loseNumber = (s.numberLost.sticky 38).loseLock := by
  have hq' : s.numberLost.Quiet 38 := quiet_setF (by decide) _ (quiet_setF (by decide) _ (quiet_setF (by decide) _ (quiet_setF (by decide) _ hq)))
  rw [← raise_of_quiet (by decide) hq']
  rfl

theorem nodeId_numberLost : s.numberLost.nodeId = 0x3FF := by
  simp only [State.nodeId, State.numberLost, State.offF, State.onF]
  rw [getF_setF_field (f := Fd.OV_NODE_DUP) (g := Fd.OV_NODE_ID) _ rfl (by decide),
    getF_setF_field (f := Fd.OV_NODE_SRC) (g := Fd.OV_NODE_ID) _ rfl (by decide),
    getF_setF_field (f := Fd.OV_NODE_NUMBERED) (g := Fd.OV_NODE_ID) _ rfl (by decide), getF_setF_same _ _ (by decide)]
  rfl

theorem numbered_numberLost : s.numberLost.numbered = false := by
  simp only [State.numbered, State.numberLost, State.offF, State.onF]
  rw [isF_setF_field (f := Fd.OV_NODE_DUP) (g := Fd.OV_NODE_NUMBERED) _ rfl (by decide),
    isF_setF_field (f := Fd.OV_NODE_SRC) (g := Fd.OV_NODE_NUMBERED) _ rfl (by decide), isF_setF_same _ (by decide)]
  rfl

/-- A node that has lost its number: what it keeps, and what it shows. -/
structure State.NumberLost (s t : State) : Prop where
  rst : t.rst = s.rst
  inbox : t.ov.inbox = s.ov.inbox
  nodeId : t.nodeId = 0x3FF
  numbered : t.numbered = false
  dup : t.isF Fd.OV_NODE_DUP = true
  evt : t.getR Rg.OV_EVT = s.getR Rg.OV_EVT
  sticky : t.bitF (Fd.SB_STICKY_BITS 1) 6 = true
  locked : t.isF Fd.TT_STAT_LOCKED = false

theorem numberLost_loseNumber {s : State} (h38 : s.Quiet 38) (h51 : s.Quiet 51) : s.NumberLost s.loseNumber := by
  have hq : (s.numberLost.sticky 38).Quiet 51 := by
    rw [quiet_sticky (by decide)]
    exact quiet_setF (by decide) _ (quiet_setF (by decide) _ (quiet_setF (by decide) _ (quiet_setF (by decide) _ h51)))
  have hnode : s.loseNumber.getR Rg.OV_NODE = s.numberLost.getR Rg.OV_NODE := by
    rw [loseNumber_eq h38]
    exact (loseLock_frame (p := fun s => s.getR Rg.OV_NODE) hq (skips_getR (by decide)) fun _ _ => rfl).trans (getR_sticky_ne _ (by decide))
  have hevt : s.loseNumber.getR Rg.OV_EVT = s.getR Rg.OV_EVT := by
    rw [loseNumber_eq h38]
    refine (loseLock_frame (p := fun s => s.getR Rg.OV_EVT) hq (skips_getR (by decide)) fun _ _ => rfl).trans
      ((getR_sticky_ne _ (by decide)).trans ?_)
    rw [State.numberLost, getR_onF_ne _ (by decide), getR_offF_ne _ (by decide), getR_offF_ne _ (by decide), getR_setF_ne _ (by decide)]
  have hbit : s.loseNumber.bitF (Fd.SB_STICKY_BITS 1) 6 = true := by
    rw [loseNumber_eq h38, loseLock_eq hq]
    split
    · have hkeep : (s.numberLost.sticky 38).lockLost.bitF (Fd.SB_STICKY_BITS 1) 6 = (s.numberLost.sticky 38).bitF (Fd.SB_STICKY_BITS 1) 6 :=
        lockLost_frame _ (p := fun s => s.bitF (Fd.SB_STICKY_BITS 1) 6)
          (fun s r hr w => by
            have hr' : (s.setR r w).getR (Rg.SB_STICKY 1) = s.getR (Rg.SB_STICKY 1) := skips_getR (l := lockRegs) (by decide) s r hr w
            exact congrArg (Nat.testBit · 6) (getF_of_getR (f := Fd.SB_STICKY_BITS 1) hr')) fun _ _ => rfl
      exact bitF_sticky_of_bitF (by decide) (hkeep.trans (bitF_sticky _ 38))
    · exact bitF_sticky _ 38
  refine ⟨?_, ?_, ?_, ?_, ?_, hevt, hbit, ?_⟩
  · rw [loseNumber_eq h38]
    exact loseLock_frame (p := State.rst) hq (fun _ _ _ _ => rfl) fun _ _ => rfl
  · rw [loseNumber_eq h38]
    exact loseLock_frame (p := fun s => s.ov.inbox) hq (fun _ _ _ _ => rfl) fun _ _ => rfl
  · exact (getF_of_getR (f := Fd.OV_NODE_ID) hnode).trans (nodeId_numberLost s)
  · exact (isF_of_getR (f := Fd.OV_NODE_NUMBERED) hnode).trans (numbered_numberLost s)
  · exact (isF_of_getR (f := Fd.OV_NODE_DUP) hnode).trans (isF_onF_same _ _ (by decide) (by decide))
  · rw [loseNumber_eq h38]
    exact isF_loseLock_locked hq

/-- In a contest the lower serial number keeps the ID (R386). -/
theorem presenceIn_of_contested {m : PresMsg} (hc : s.numbered = true ∧ m.node = s.nodeId ∧ m.serial ≠ s.serial) :
    s.presenceIn m = if m.serial.toNat < s.serial.toNat then (s.onF Fd.OV_EVT_DUP).loseNumber else s.onF Fd.OV_EVT_DUP := if_pos hc

/-! ### Reachability and topology (R386, R389, R393) -/

theorem unreach_of_known {s : State} (hq : s.TopoQuiet) {n : Nat} (h : (lookupNat n s.ov.nodes).isSome = true) :
    (s.unreach n).rst = s.rst ∧ (s.unreach n).ov.nodes = eraseNat n s.ov.nodes := by
  have hgone : s.unreach n = (s.withNodes (eraseNat n s.ov.nodes)).topologyChanged := if_pos h
  obtain ⟨-, hrst, hnodes, -⟩ := timeOnly_topologyChanged (s := s.withNodes (eraseNat n s.ov.nodes)) (topoQuiet_of_regs (s := s) rfl hq)
  rw [hgone]
  exact ⟨hrst, hnodes⟩

/-- What is known of a node, where some of the nodes change. -/
theorem lookupNat_map_some {α : Type} (c : Nat → Bool) (g : α → α) (n : Nat) (l : List (Nat × α)) :
    lookupNat n (l.map fun x => if c x.1 then (x.1, g x.2) else x) = (lookupNat n l).map fun x => if c n then g x else x := by
  induction l with
  | nil => rfl
  | cons y r ih =>
    obtain ⟨k, x⟩ := y
    have hone : (if c k then (k, g x) else (k, x)) = (k, if c k then g x else x) := by split <;> rfl
    rw [List.map_cons, hone, lookupNat, lookupNat]
    split
    · rename_i he
      rw [he]
      rfl
    · exact ih

/-- A node whose port has changed its state. -/
def topoInfo (i : NodeInfo) (q : Port) (st : Nat) : NodeInfo := match q with
  | .east => { i with eastSt := st }
  | .west => { i with westSt := st }

/-- The state that the port had. -/
def topoWas (i : NodeInfo) (q : Port) : Nat := match q with
  | .east => i.eastSt
  | .west => i.westSt

/-- The nodes beyond a port, where its link has been lost or has come back. -/
def State.pathsMoved (line : Bool) (was st : Nat) (beyond : List Nat) : State :=
  if (was = 2) = (st = 2) then s
  else if was = 2 ∧ line = true ∧ 3 ≤ s.downPorts then s.segment.cutOff fun x => beyond.contains x.1
  else s.turnPaths beyond

theorem topologyIn_of_known {s : State} {n : Nat} {i : NodeInfo} (h : lookupNat n s.ov.nodes = some i)
    (q : Port) (st : Nat) (beyond : List Nat) :
    s.topologyIn n q st beyond = ((s.withNodes (insertNat n (topoInfo i q st) s.ov.nodes)).pathsMoved (s.getF Fd.OV_TOPO_MODE == 1) (topoWas i q) st
      beyond).topologyChanged := by
  unfold State.topologyIn
  rw [h]
  cases q <;> rfl

/-- What the move of the paths makes of a node. -/
theorem pathsMoved_of_known {s : State} (h35 : s.Quiet 35) {n : Nat} {j : NodeInfo}
    (h : lookupNat n s.ov.nodes = some j) (line : Bool)
    (was st : Nat) (beyond : List Nat) :
    (s.pathsMoved line was st beyond).rst = s.rst ∧ (s.pathsMoved line was st beyond).ov.inbox = s.ov.inbox ∧
      (s.TopoQuiet → (s.pathsMoved line was st beyond).TopoQuiet) ∧
      lookupNat n (s.pathsMoved line was st beyond).ov.nodes = some (
        if (was = 2) = (st = 2) ∨ beyond.contains n = false then j
        else if was = 2 ∧ line = true ∧ 3 ≤ s.downPorts then { j with cut := true } else { j with port := j.port.other }) := by
  unfold State.pathsMoved
  by_cases hsame : (was = 2) = (st = 2)
  · rw [if_pos hsame, if_pos (.inl hsame)]
    exact ⟨rfl, rfl, id, h⟩
  · have hmoved (k : NodeInfo) : (if beyond.contains n then k else j) = if (was = 2) = (st = 2) ∨ beyond.contains n = false then j else k := by
      by_cases hb : beyond.contains n = true
      · rw [if_pos hb, if_neg (not_or.2 ⟨hsame, by rw [hb]; decide⟩)]
      · rw [if_neg hb, if_pos (.inr (Bool.eq_false_iff.2 hb))]
    rw [if_neg hsame]
    by_cases hcut : was = 2 ∧ line = true ∧ 3 ≤ s.downPorts
    · have hseg : s.TimeOnly s.segment := by
        have hon := timeOnly_onF s (f := Fd.OV_TOPO_SEGMENTED) (by decide)
        exact hon.trans (timeOnly_raise (hon.quiet (by decide) h35) (by decide) (by decide))
      have hquiet (hq : s.TopoQuiet) : s.segment.TopoQuiet :=
        ⟨hseg.quiet (by decide) hq.holdover, hseg.quiet (by decide) hq.bound, hseg.quiet (by decide) hq.mismatch⟩
      rw [if_pos hcut]
      refine ⟨hseg.rst, hseg.inbox, fun hq => topoQuiet_of_regs (s := s.segment) rfl (hquiet hq), ?_⟩
      have hlook : lookupNat n (s.segment.cutOff fun x => beyond.contains x.1).ov.nodes =
          (lookupNat n s.segment.ov.nodes).map fun x => if beyond.contains n then { x with cut := true } else x :=
        lookupNat_map_some beyond.contains (fun x : NodeInfo => { x with cut := true }) n s.segment.ov.nodes
      rw [hlook, hseg.nodes, h, Option.map_some, hmoved, if_pos hcut]
    · rw [if_neg hcut]
      refine ⟨rfl, rfl, fun hq => topoQuiet_of_regs (s := s) rfl hq, ?_⟩
      have hlook : lookupNat n (s.turnPaths beyond).ov.nodes =
          (lookupNat n s.ov.nodes).map fun x => if beyond.contains n then { x with port := x.port.other } else x :=
        lookupNat_map_some beyond.contains (fun x : NodeInfo => { x with port := x.port.other }) n s.ov.nodes
      rw [hlook, h, Option.map_some, hmoved, if_neg hcut]

/-! ### ASSIGN, WAKE and REFUSE (R89, R382, R385) -/

/-- The node takes the ID that ASSIGN gives it. -/
def State.assigned (id : Nat) : State := ((s.setF Fd.OV_NODE_ID id).onF Fd.OV_NODE_NUMBERED).setF Fd.OV_NODE_SRC 2

/-- An unnumbered node that may be assigned an ID takes a valid one under its own serial number. -/
def State.takesId (sn : DWord) (id : Nat) : Prop := s.numbered = false ∧ s.isF Fd.OV_CFG_ASSIGN_EN = true ∧ sn = s.serial ∧ id < 1023

theorem assignIn_of_takes {s : State} {sn : DWord} {id : Nat} (h : s.takesId sn id) :
    s.assignIn sn id = s.assigned id := by
  obtain ⟨hn, he, hs, hid⟩ := h
  exact if_pos (by simp [hn, he, hs, hid])

theorem assignIn_of_not_takes {s : State} {sn : DWord} {id : Nat} (h : ¬ s.takesId sn id) : s.assignIn sn id = s := by
  refine if_neg fun hc => h ?_
  simp only [Bool.and_eq_true, Bool.not_eq_true', beq_iff_eq, decide_eq_true_eq] at hc
  obtain ⟨⟨⟨hn, he⟩, hs⟩, hid⟩ := hc
  exact ⟨hn, he, hs, hid⟩

theorem nodeId_assigned {id : Nat} (h : id < 1023) : (s.assigned id).nodeId = id := by
  simp only [State.nodeId, State.assigned, State.onF]
  rw [getF_setF_field (f := Fd.OV_NODE_SRC) (g := Fd.OV_NODE_ID) _ rfl (by decide),
    getF_setF_field (f := Fd.OV_NODE_NUMBERED) (g := Fd.OV_NODE_ID) _ rfl (by decide), getF_setF_same _ _ (by decide)]
  exact Nat.mod_eq_of_lt (Nat.lt_of_lt_of_le h (by decide))

theorem numbered_assigned (id : Nat) : (s.assigned id).numbered = true := by
  simp only [State.numbered, State.assigned, State.onF]
  rw [isF_setF_field (f := Fd.OV_NODE_SRC) (g := Fd.OV_NODE_NUMBERED) _ rfl (by decide), isF_setF_same _ (by decide)]
  rfl

/-! ### WAKE and ASSIGN go out (R394) -/

/-- `OV_TX_CMD` shows the node and the kind of the command. -/
def State.txNamed (kind node : Nat) : State := (s.setF Fd.OV_TX_CMD_NODE node).setF Fd.OV_TX_CMD_KIND kind

theorem getR_txNamed_ne {q : Rg} (h : q.addr ≠ Rg.OV_TX_CMD.addr) (kind node : Nat) :
    (s.txNamed kind node).getR q = s.getR q := by
  rw [State.txNamed, getR_setF_ne _ h, getR_setF_ne _ h]

theorem ovTxWrite_eq {kind : Nat} (hk : kind = 1 ∨ kind = 2) (node : Fin 1024) :
    s.ovTxWrite (BitVec.ofNat 32 (node.val + kind * 2 ^ 10 + 2 ^ 12)) = (s.txNamed kind node.val).ovTx kind node.val := by
  have hfield (lo wd : Nat) : fieldOf (BitVec.ofNat 32 (node.val + kind * 2 ^ 10 + 2 ^ 12)) lo wd =
      (node.val + kind * 2 ^ 10 + 2 ^ 12) % 2 ^ 32 / 2 ^ lo % 2 ^ wd := by
    rw [fieldOf, BitVec.toNat_ofNat, Nat.shiftRight_eq_div_pow]
  have hnode : fieldOf (BitVec.ofNat 32 (node.val + kind * 2 ^ 10 + 2 ^ 12)) 0 10 = node.val := by
    rw [hfield]
    omega
  have hkind : fieldOf (BitVec.ofNat 32 (node.val + kind * 2 ^ 10 + 2 ^ 12)) 10 2 = kind := by
    rw [hfield]
    omega
  have hgo : fieldOf (BitVec.ofNat 32 (node.val + kind * 2 ^ 10 + 2 ^ 12)) 12 1 = 1 := by
    rw [hfield]
    omega
  rw [State.ovTxWrite, hnode, hkind, hgo, if_pos rfl]
  rfl

/-- The result of the command (R394). -/
def State.txResult : Nat := if s.stationRev < 1 then 2 else if s.linkedPorts.isEmpty || !s.numbered then 3 else 1

/-- The frame that the command sends. -/
def State.txFrame (kind node : Nat) : Frame :=
  if kind = 1 then { dest := nodeBase node, src := s.nodeId, oseq := s.ov.oseq, cls := 0, body := .wake }
  else { dest := nodeBase 0x3FF, src := s.nodeId, oseq := s.ov.oseq, cls := 0
         body := .assign (BitVec.ofNat 64 (s.getF Fd.OV_TX_SN_LO_SN + 2 ^ 32 * s.getF Fd.OV_TX_SN_HI_SN)) node }

/-- The frame sets out where the command is good. -/
def State.txSent (kind node : Nat) : State := if s.txResult ≠ 1 then s else s.nextOseq.route (s.txFrame kind node)

theorem ovTx_eq {s : State} (hl : s.ovLive = true) {kind : Nat} (hk : kind = 1 ∨ kind = 2) (node : Nat) :
    s.ovTx kind node = ((s.txSent kind node).setF Fd.OV_TX_CMD_RESULT s.txResult).onF Fd.OV_EVT_TX_DONE := by
  have horig (hres : s.txResult = 1) (dest : Nat) (b : Body) (hb : ∀ m, b ≠ .presence m) :
      s.originate dest 0 b = s.nextOseq.route { dest := dest, src := s.nodeId, oseq := s.ov.oseq, cls := 0, body := b } := by
    have hnum : s.numbered = true := by
      unfold State.txResult at hres
      by_contra hn
      simp only [Bool.not_eq_true] at hn
      split at hres
      · exact absurd hres (by decide)
      · rw [if_pos (by simp [hn])] at hres
        exact absurd hres (by decide)
    unfold State.originate
    rw [hl, hnum]
    rfl
  have hne : ¬(kind ≠ 1 ∧ kind ≠ 2) := by omega
  have hsent : (if s.txResult ≠ 1 then s
      else if kind = 1 then s.originate (nodeBase node) 0 .wake
      else s.originate (nodeBase 0x3FF) 0 (.assign (BitVec.ofNat 64 (s.getF Fd.OV_TX_SN_LO_SN + 2 ^ 32 * s.getF Fd.OV_TX_SN_HI_SN)) node)) =
      s.txSent kind node := by
    unfold State.txSent
    by_cases hres : s.txResult = 1
    · rw [if_neg (not_not_intro hres), if_neg (not_not_intro hres), State.txFrame]
      split
      · exact horig hres _ _ fun m h => nomatch h
      · exact horig hres _ _ fun m h => nomatch h
    · rw [if_pos hres, if_pos hres]
  rw [← hsent]
  exact if_neg hne

/-- What is sent changes `sendRegs`, the ports and the origin sequence. -/
theorem txSent_of_quiet {s : State} (hq : s.Quiet 40) (kind node : Nat) :
    (∀ q : Rg, (∀ r ∈ sendRegs, q.addr ≠ r.addr) → (s.txSent kind node).getR q = s.getR q) ∧ (s.txSent kind node).rst = s.rst ∧
      (s.txSent kind node).ov.oseq = if s.txResult = 1 then (s.ov.oseq + 1) % 65536 else s.ov.oseq := by
  unfold State.txSent
  by_cases hres : s.txResult = 1
  · have hsrc : (s.txFrame kind node).src = s.nextOseq.nodeId := by
      unfold State.txFrame
      split <;> rfl
    obtain ⟨hregs, hrst, hoseq, -⟩ := sendOnly_route (s := s.nextOseq) (quiet_of_regs (s := s) rfl hq) hsrc
    rw [if_neg (not_not_intro hres), if_pos hres]
    exact ⟨hregs, hrst, hoseq⟩
  · rw [if_pos hres, if_neg hres]
    exact ⟨fun _ _ => rfl, rfl, rfl⟩

theorem linkedPorts_txNamed (kind node : Nat) : (s.txNamed kind node).linkedPorts = s.linkedPorts := by
  have hlinked : (s.txNamed kind node).linked = s.linked := funext fun p => by
    rw [State.linked, State.linked, getF_of_getR (getR_txNamed_ne s (by cases p <;> decide) kind node)]
  rw [State.linkedPorts, State.linkedPorts, hlinked]

theorem txResult_txNamed (kind node : Nat) : (s.txNamed kind node).txResult = s.txResult := by
  rw [State.txResult, State.txResult, linkedPorts_txNamed, State.stationRev, State.stationRev, State.numbered, State.numbered,
    getF_of_getR (f := Fd.TT_MASTER_REV) (getR_txNamed_ne s (by decide) kind node),
    isF_of_getR (f := Fd.OV_NODE_NUMBERED) (getR_txNamed_ne s (by decide) kind node)]

theorem ovLive_txNamed (kind node : Nat) : (s.txNamed kind node).ovLive = s.ovLive := by
  rw [State.ovLive, State.ovLive, inReset_congr (s := s) (t := s.txNamed kind node) (getR_txNamed_ne s (by decide) kind node)
    (getR_txNamed_ne s (by decide) kind node) rfl]
  rfl

theorem txResult_lt : s.txResult < 4 := by
  unfold State.txResult
  split_ifs <;> decide

/-- After the command `OV_TX_CMD` shows its node, its kind and its result, and the event is set. -/
theorem exec_ovTx {s : State} (hl : s.ovLive = true) (hd : s.Settled) (hq : s.Quiet 40) {kind : Nat}
    (hk : kind = 1 ∨ kind = 2) (node : Fin 1024) :
    ∃ t, ok (s.ovTxWrite (BitVec.ofNat 32 (node.val + kind * 2 ^ 10 + 2 ^ 12))) = .next t ∧ t.getF Fd.OV_TX_CMD_NODE = node.val ∧
      t.getF Fd.OV_TX_CMD_KIND = kind ∧ t.isF Fd.OV_EVT_TX_DONE = true ∧ t.getF Fd.OV_TX_CMD_RESULT = s.txResult ∧
      t.ov.oseq = if s.txResult = 1 then (s.ov.oseq + 1) % 65536 else s.ov.oseq := by
  have hq' : (s.txNamed kind node.val).Quiet 40 := quiet_of_getR (getR_txNamed_ne s (by decide) kind node.val) hq
  obtain ⟨hregs, hrst, hoseq⟩ := txSent_of_quiet hq' kind node.val
  rw [txResult_txNamed] at hoseq
  rw [ovTxWrite_eq s hk, ovTx_eq ((ovLive_txNamed s kind node.val).trans hl) hk, txResult_txNamed]
  have hcmd := hregs Rg.OV_TX_CMD (by decide)
  generalize (s.txNamed kind node.val).txSent kind node.val = u at hcmd hrst hoseq
  have hfield {g : Fd} (hr : g.reg = Rg.OV_TX_CMD) (hlo : g.lo + g.width ≤ 13) :
      ((u.setF Fd.OV_TX_CMD_RESULT s.txResult).onF Fd.OV_EVT_TX_DONE).getF g = (s.txNamed kind node.val).getF g := by
    rw [State.onF, getF_setF_reg _ (by rw [hr]; decide), getF_setF_field (f := Fd.OV_TX_CMD_RESULT) _ hr (.inr hlo)]
    exact getF_of_getR (by rw [hr]; exact hcmd)
  refine ⟨_, ok_of_rst (s := s) hrst hd, ?_, ?_, isF_onF_same _ _ (by decide) (by decide), ?_, hoseq⟩
  · rw [hfield rfl (by decide), State.txNamed, getF_setF_field (f := Fd.OV_TX_CMD_KIND) (g := Fd.OV_TX_CMD_NODE) _ rfl (by decide),
      getF_setF_same _ _ (by decide)]
    exact Nat.mod_eq_of_lt node.isLt
  · rw [hfield rfl (by decide), State.txNamed, getF_setF_same _ _ (by decide)]
    rcases hk with rfl | rfl <;> rfl
  · rw [State.onF, getF_setF_reg _ (by decide), getF_setF_same _ _ (by decide)]
    exact Nat.mod_eq_of_lt (txResult_lt s)

/-- A command that a station of this revision does not know, or that no link or no number lets out, sends nothing. -/
theorem txResult_cases : s.txResult =
    (if s.stationRev < 1 then 2 else if s.linkedPorts = [] ∨ s.numbered = false then 3 else 1) := by
  simp [State.txResult]

theorem txResult_eq_one : s.txResult = 1 ↔ ¬(s.stationRev < 1 ∨ s.linkedPorts = [] ∨ s.numbered = false) := by
  rw [txResult_cases]
  split_ifs with hrev hout
  · simp [hrev]
  · simp [hout]
  · simp [hrev, hout]

end Station

/-! ### The obligation -/

/-- Settles O42: a frame that has come is the first of its own type; what a change of the topology, the loss of the number and a
frame of the node's own leave unchanged is said once (`TimeOnly`, `NumberLost`, `SendOnly`). -/
theorem nodesOfTheStation : Obligations.NodesOfTheStation := by
  unfold Obligations.NodesOfTheStation
  intro s p f r hl hd hq
  have htopo : s.TopoQuiet := ⟨hq 48 (by decide), hq 49 (by decide), hq 52 (by decide)⟩
  have htaken : (s.taken r).TopoQuiet := topoQuiet_of_regs (s := s) rfl htopo
  refine ⟨?presence, fun m hcame hb => ⟨?told, ?loses, ?keeps⟩, ?unreached, ?topology, fun sn id hcame hb => ⟨?takes, ?ignores⟩,
    ?wake, ?refuse, ?tx⟩
  case presence =>
    have hsend := sendOnly_each_queueAt (heldKey s.presenceFrame) s.presenceFrame s.linkedPorts s.nextOseq
    refine ⟨_, exec_presenceTimer hl hd, hsend.oseq, hsend.nodes, fun hp hh hu => ?_⟩
    exact unacked_each_queueAt (heldKey_presenceFrame s) (bytes_presenceFrame s) (linkedPorts_nodup s) (mem_linkedPorts hp) (s := s.nextOseq) hh hu
  case told =>
    intro hc
    obtain ⟨hrst, hinbox, hnode⟩ := presenceIn_of_uncontested htaken (m := m) hc
    exact ⟨_, (exec_presenceReceive hcame hb).trans (ok_of_rst (s := s) hrst hd), hinbox, hnode⟩
  case loses =>
    intro hn hid hlt
    have hne : m.serial ≠ s.serial := fun e => absurd (e ▸ hlt) (Nat.lt_irrefl _)
    have hin := (presenceIn_of_contested (s.taken r) (m := m) ⟨hn, hid, hne⟩).trans (if_pos hlt)
    have hlost : ((s.taken r).onF Fd.OV_EVT_DUP).NumberLost ((s.taken r).onF Fd.OV_EVT_DUP).loseNumber :=
      numberLost_loseNumber (quiet_setF (s := s.taken r) (by decide) 1 (hq 38 (by decide)))
        (quiet_setF (s := s.taken r) (by decide) 1 (hq 51 (by decide)))
    refine ⟨_, (exec_presenceReceive hcame hb).trans ((congrArg ok hin).trans (ok_of_rst (s := s) hlost.rst hd)), hlost.inbox, hlost.nodeId,
      hlost.numbered, hlost.dup, ?_, hlost.sticky, hlost.locked⟩
    exact (isF_of_getR (f := Fd.OV_EVT_DUP) hlost.evt).trans (isF_onF_same _ _ (by decide) (by decide))
  case keeps =>
    intro hn hid hlt
    have hne : m.serial ≠ s.serial := fun e => absurd (e ▸ hlt) (Nat.lt_irrefl _)
    have hin := (presenceIn_of_contested (s.taken r) (m := m) ⟨hn, hid, hne⟩).trans (if_neg (Nat.lt_asymm hlt))
    refine ⟨_, (exec_presenceReceive hcame hb).trans ((congrArg ok hin).trans (ok_of_rst (s := s) rfl hd)), rfl, ?_, ?_,
      isF_onF_same _ _ (by decide) (by decide)⟩
    · exact getF_setF_reg (g := Fd.OV_NODE_ID) (s.taken r) (by decide) 1
    · exact (isF_setF_reg (g := Fd.OV_NODE_NUMBERED) (s.taken r) (by decide) 1).trans hn
  case unreached =>
    intro n hsorted hknown
    obtain ⟨hrst, hnodes⟩ := unreach_of_known htopo hknown
    have hexec : exec (.presenceReachTimeout n) s = ok (s.unreach n) := if_pos hl
    refine ⟨_, hexec.trans (ok_of_rst hrst hd), hnodes, ?_⟩
    rw [hnodes]
    exact lookupNat_eraseNat_same n _ hsorted
  case topology =>
    intro n q st i beyond hcame hb hi
    have hin := topologyIn_of_known (s := s.taken r) hi q st beyond
    obtain ⟨hrst, hinbox, hquiet, hlook⟩ := pathsMoved_of_known (s := (s.taken r).withNodes (insertNat n (topoInfo i q st) s.ov.nodes))
      (quiet_of_regs (s := s) rfl (hq 35 (by decide))) (lookupNat_insertNat_same n _ _) (s.getF Fd.OV_TOPO_MODE == 1) (topoWas i q) st beyond
    have hchanged := timeOnly_topologyChanged (hquiet (topoQuiet_of_regs (s := s) rfl htopo))
    refine ⟨_, (exec_topologyReceive hcame hb).trans ((congrArg ok hin).trans (ok_of_rst (s := s) (hchanged.rst.trans hrst) hd)),
      hchanged.inbox.trans hinbox, ?_⟩
    simp only [beq_iff_eq] at hlook
    exact (congrArg (lookupNat n) hchanged.nodes).trans hlook
  case takes =>
    intro h
    have hin : (s.taken r).assignIn sn id = (s.taken r).assigned id := assignIn_of_takes h
    obtain ⟨-, -, -, hid⟩ := h
    exact ⟨_, (exec_assignReceive hcame hb).trans ((congrArg ok hin).trans (ok_of_rst (s := s) rfl hd)), rfl, nodeId_assigned _ hid,
      numbered_assigned _ id, getF_setF_same _ _ (by decide) _⟩
  case ignores =>
    intro h
    have hin : (s.taken r).assignIn sn id = s.taken r := assignIn_of_not_takes h
    exact (exec_assignReceive hcame hb).trans ((congrArg ok hin).trans (ok_of_rst (s := s) rfl hd))
  case wake =>
    intro hcame hb hn
    have hexec : exec .wakeFrameReceive s = ok ((s.taken r).wakeEvent wkFrame) := (exec_wakeFrameReceive hcame hb).trans (congrArg ok (if_pos hn))
    refine ⟨_, hexec.trans (ok_of_rst (s := s) (wakeEvent_rst _ _) hd), congrArg OrviaH.inbox (wakeEvent_ov _ _),
      isF_wakeEvent_cause _ (k := wkFrame) (by decide) (by decide), fun hs hen => ?_⟩
    exact (sleepState_wakeEvent (s := s.taken r) hs wkFrame).trans (if_pos hen)
  case refuse =>
    intro o n hcame hb
    have hin : (s.taken r).refuseIn o (some n.val) = (s.taken r).incF (Fd.RFX_WCNT_REFUSED_VERSION n.val) := if_pos n.isLt
    exact (exec_refuseReceive hcame hb).trans ((congrArg ok hin).trans (ok_of_rst (s := s) rfl hd))
  case tx =>
    intro node c hc
    have hres := txResult_cases s
    have hone := txResult_eq_one s
    have hkind (kind : Nat) (hk : kind = 1 ∨ kind = 2) (e : exec c.1 s = ok (s.ovTxWrite (BitVec.ofNat 32 (node.val + kind * 2 ^ 10 + 2 ^ 12))))
        (hck : c.2 = kind) : ∃ t, exec c.1 s = .next t ∧ t.getF Fd.OV_TX_CMD_NODE = node.val ∧ t.getF Fd.OV_TX_CMD_KIND = c.2 ∧
        t.isF Fd.OV_EVT_TX_DONE = true ∧
        t.getF Fd.OV_TX_CMD_RESULT = (if s.stationRev < 1 then 2 else if s.linkedPorts = [] ∨ s.numbered = false then 3 else 1) ∧
        t.ov.oseq = (if s.stationRev < 1 ∨ s.linkedPorts = [] ∨ s.numbered = false then s.ov.oseq else (s.ov.oseq + 1) % 65536) := by
      obtain ⟨t, he, hnode, hkd, hdone, hr, hoseq⟩ := exec_ovTx hl hd (hq 40 (by decide)) hk node
      refine ⟨t, e.trans he, hnode, hkd.trans hck.symm, hdone, hr.trans hres, hoseq.trans ?_⟩
      split_ifs with h1 h2 h2
      · exact absurd h2 (hone.1 h1)
      · rfl
      · rfl
      · exact absurd (hone.2 h2) h1
    rcases List.mem_pair.1 hc with rfl | rfl
    · exact hkind 1 (.inl rfl) (if_pos hl) rfl
    · exact hkind 2 (.inr rfl) (if_pos hl) rfl

end Sys2Proof.Machine
end

section
/-! SUPPORT. Rules for the obligations of Tapol's execution: changes of one machine, what a fetch that succeeds tells, and the
trap of an instruction. -/

namespace Sys2Proof.Machine

/-! ### Changes of one machine -/

theorem rc_modMach_same (u : State) (m : Mach) (f : MachState → MachState) (k : Fin 32) :
    (u.modMach m f).rc' m k = vget (f (u.mach m)).c k := by
  rw [State.rc', mach_modMach_same]

/-- A change of one machine that keeps its general registers, and its control registers outside `ks`. -/
theorem sysResult_modMach {u : State} {m : Mach} {f : MachState → MachState} {ks : List (Fin 32)} {pc : Word} {n : Nat}
    (hpc : (f (u.mach m)).pc = pc) (hretire : (f (u.mach m)).retire = (u.mach m).retire + n) (hg : (f (u.mach m)).g = (u.mach m).g)
    (hc : ∀ k, k ∉ ks → vget (f (u.mach m)).c k = vget (u.mach m).c k) : SysResult u (u.modMach m f) m ks pc n where
  pc := by rw [mach_modMach_same, hpc]
  retired := by rw [mach_modMach_same, hretire]
  general r := by rw [State.rg, State.rg, mach_modMach_same, hg]
  control k hk := by rw [rc_modMach_same, hc k hk, State.rc']
  machines _ hk := mach_modMach_ne u hk f
  rest := rfl

/-- The machine after its instruction has retired. -/
def MachState.retires (x : MachState) (pc : Word) : MachState :=
  { x with pc := pc, retire := x.retire + 1, longRun := false, nmiFirst := false }

theorem retireTo_eq (u : State) (m : Mach) (pc : Word) : u.retireTo m pc = u.modMach m fun x => x.retires pc := rfl

theorem sysResult_retireTo (u : State) (m : Mach) (pc : Word) : SysResult u (u.retireTo m pc) m [] pc 1 :=
  sysResult_modMach rfl rfl rfl fun _ _ => rfl

theorem sysResult_retire (u : State) (m : Mach) : SysResult u (u.retire m) m [] ((u.mach m).pc + 4) 1 := sysResult_retireTo u m _

/-- A write of a control register, and retirement. -/
theorem wc_retireTo (u : State) (m : Mach) (k : Fin 32) (w pc : Word) :
    (u.wc m k w).retireTo m pc = u.modMach m fun x => { x with c := vset x.c k w }.retires pc :=
  modMach_modMach u m _ _

theorem rc_wc_retireTo_same (u : State) (m : Mach) (k : Fin 32) (w pc : Word) : ((u.wc m k w).retireTo m pc).rc' m k = w := by
  rw [wc_retireTo, rc_modMach_same]
  exact vget_vset_same _ _ _

theorem sysResult_wc_retireTo (u : State) (m : Mach) (k : Fin 32) (w pc : Word) :
    SysResult u ((u.wc m k w).retireTo m pc) m [k] pc 1 := by
  rw [wc_retireTo]
  exact sysResult_modMach rfl rfl rfl fun j hj => vget_vset_ne (List.ne_of_not_mem_cons hj) _ _

/-! ### The issue of an instruction -/

theorem alive_of_fetchWord {s u : State} {m : Mach} {w : Word} (h : s.fetchWord m w = (true, u)) : u.alive m = true := by
  unfold State.fetchWord at h
  split at h
  · cases h
  · obtain ⟨ha, rfl⟩ := Prod.mk.inj h
    exact ha

/-- A machine whose fetch succeeds is alive afterwards. -/
theorem alive_of_fetch {s u : State} {m : Mach} (h : s.fetch m = (true, u)) : u.alive m = true := by
  unfold State.fetch at h
  dsimp only at h
  split at h
  · split at h
    · cases h
    · split at h
      · cases h
      · exact alive_of_fetchWord h
  · split at h
    · split at h
      · exact alive_of_fetchWord h
      · cases h
    · cases h

theorem alive_of_issues {s u : State} {m : Mach} (h : s.Issues m u) : u.alive m = true := alive_of_fetch h.fetched

/-- An instruction of STATION that issues there. -/
theorem issueStation_of_station {s u : State} {m : Mach} (h : s.Issues m u) (hl : u.atStation m = true) (w : Word)
    (f : State → State) : s.issueStation m w f = ok (f u) :=
  (issue_of_issues h _).trans (by rw [if_pos hl])

/-- An instruction of STATION that issues at TASK. -/
theorem issueStation_of_task {s u : State} {m : Mach} (h : s.Issues m u) (hl : u.atStation m = false) (w : Word)
    (f : State → State) : s.issueStation m w f = ok (u.privTrap m w) :=
  (issue_of_issues h _).trans (by rw [if_neg (by simp [hl])])

/-! ### The trap of an instruction (R114, R115, R119) -/

theorem enters_estatus (x : MachState) (ret cause h : Word) : vget (x.enters ret cause h).c cEstatus = vget x.c cStatus := by
  simp [MachState.enters, vget_vset_ne (show cEstatus ≠ cStatus by decide), vget_vset_ne (show cEstatus ≠ cCause by decide)]

theorem enters_status (x : MachState) (ret cause h : Word) :
    vget (x.enters ret cause h).c cStatus = (vget x.c cStatus ||| 5) &&& 0xFFFF_FFFD := by
  simp [MachState.enters]

theorem enters_other (x : MachState) (ret cause h : Word) {k : Fin 32} (hk : k ∉ [cStatus, cEpc, cEstatus, cCause]) :
    vget (x.enters ret cause h).c k = vget x.c k := by
  simp only [List.mem_cons, List.not_mem_nil, or_false, not_or] at hk
  obtain ⟨hstatus, hepc, hestatus, hcause⟩ := hk
  simp [MachState.enters, vget_vset_ne hstatus, vget_vset_ne hepc, vget_vset_ne hestatus, vget_vset_ne hcause]

/-- A machine that takes a trap with an address in `TVAL`. -/
def MachState.traps (x : MachState) (ret cause tval h : Word) : MachState := { x with c := vset x.c cTval tval }.enters ret cause h

/-- A trap outside a handler, whose vector word can be read. -/
theorem trapAt_of_ready {u : State} {m : Mach} {h : Word} (hv : u.VectorReady m 0 h) (ha : u.alive m = true) (he : u.exl m = false)
    (ret : Word) (code detail : Nat) (tval : Word) : u.trapAt m ret code detail tval =
      u.modMach m fun x => x.traps ret (causeWord code 0 detail (u.mach m).longRun false) tval h := by
  have hready : State.VectorReady (u.wc m cTval tval) m 0 h :=
    vectorReady_congr hv (rc_wc_ne u m (by decide) tval) rfl rfl rfl rfl
  rw [State.trapAt, if_neg (by simp [ha]), if_neg (by simp [he]), entry_of_ready hready ha, State.wc, modMach_modMach]
  rfl

theorem causeWord_trap (code detail : Nat) (long : Bool) :
    causeWord code 0 detail long false = .ofNat (code + detail * 2 ^ 16 + if long = true then 2 ^ 30 else 0) := by
  cases long <;> simp [causeWord, b2n, Word.ofNat]

/-- Such a trap enters the handler at vector word 0, with `TVAL`. -/
theorem entered_trapAt {u : State} {m : Mach} {h : Word} (hv : u.VectorReady m 0 h) (ha : u.alive m = true) (he : u.exl m = false)
    (ret : Word) (code detail : Nat) (tval : Word) :
    (u.trapAt m ret code detail tval).rc' m cTval = tval ∧ Entered u (u.trapAt m ret code detail tval) m h ret
      (.ofNat (code + detail * 2 ^ 16 + if (u.mach m).longRun = true then 2 ^ 30 else 0)) [cTval] 0 := by
  rw [trapAt_of_ready hv ha he, ← causeWord_trap]
  have hstatus : vget (vset (u.mach m).c cTval tval) cStatus = u.rc' m cStatus := vget_vset_ne (by decide) _ _
  refine ⟨?_, ?_, ?_, ?_, ?_, sysResult_modMach rfl rfl rfl fun k hk => ?_⟩
  · rw [rc_modMach_same]
    exact (enters_other _ _ _ _ (by decide)).trans (vget_vset_same _ _ _)
  · rw [rc_modMach_same]
    exact enters_epc _ _ _ _
  · rw [rc_modMach_same]
    exact (enters_estatus _ _ _ _).trans hstatus
  · rw [rc_modMach_same]
    exact enters_cause _ _ _ _
  · rw [rc_modMach_same, ← hstatus]
    exact enters_status _ _ _ _
  · rw [List.mem_append, not_or] at hk
    exact (enters_other _ _ _ _ hk.1).trans (vget_vset_ne (List.ne_of_not_mem_cons hk.2) _ _)

theorem trapAt_rst {u : State} {m : Mach} {h : Word} (hv : u.VectorReady m 0 h) (ha : u.alive m = true) (he : u.exl m = false)
    (ret : Word) (code detail : Nat) (tval : Word) : (u.trapAt m ret code detail tval).rst = u.rst := by
  rw [trapAt_of_ready hv ha he]
  rfl

end Sys2Proof.Machine
end

section
/-! PROOF. Misaligned accesses, privileged instructions, calls and breaks, returns, waits and fences (O12, O15 to O17). -/

namespace Sys2Proof.Machine

/-! ### Misaligned accesses (R116) -/

theorem word_ofNat_toNat (w : Word) : Word.ofNat w.toNat = w := by
  rw [Word.ofNat, BitVec.ofNat_toNat, BitVec.setWidth_eq]

/-- ALIGN goes before every other check of the address. -/
theorem loadStore_of_misaligned {u : State} {m : Mach} {a : CoreAccess} (h : a.addr % a.width ≠ 0) :
    u.loadStore m a = u.alignTrap m (.ofNat a.addr) := if_pos h

theorem load_of_misaligned {s u : State} {m : Mach} (hi : s.Issues m u) (gd ga : BitVec 5) (i : BitVec 17) {width : Nat} (signed : Bool)
    (h : (u.effAddr m ga i).toNat % width ≠ 0) : s.load m gd ga i width signed = ok (u.alignTrap m (u.effAddr m ga i)) := by
  rw [State.load, issue_of_issues hi, loadStore_of_misaligned h, word_ofNat_toNat]

theorem store_of_misaligned {s u : State} {m : Mach} (hi : s.Issues m u) (gd ga : BitVec 5) (i : BitVec 17) {width : Nat}
    (h : (u.effAddr m ga i).toNat % width ≠ 0) : s.store m gd ga i width = ok (u.alignTrap m (u.effAddr m ga i)) := by
  rw [State.store, issue_of_issues hi, loadStore_of_misaligned h, word_ofNat_toNat]

/-! ### Returns, waits and fences (R103, R122, R147) -/

theorem exec_eret {s u : State} {m : Mach} (hi : s.Issues m u) (hl : u.atStation m = true) : exec (.eret m) s = .next (u.eret m) :=
  (issueStation_of_station hi hl _ _).trans (ok_of_rst (s := u) rfl hi.settled)

theorem exec_nret {s u : State} {m : Mach} (hi : s.Issues m u) (hl : u.atStation m = true) : exec (.nret m) s = .next (u.nret m) :=
  (issueStation_of_station hi hl _ _).trans (ok_of_rst (s := u) rfl hi.settled)

theorem exec_fence {s u : State} {m : Mach} (hi : s.Issues m u) {i : Instr} (h : i ∈ [Instr.fenceAcq m, .fenceRel m, .fenceAr m]) :
    exec i s = .next (u.retire m) := by
  have hnext : s.issue m (fun s => s.retire m) = .next (u.retire m) := issue_next hi _ rfl
  simp only [List.mem_cons, List.not_mem_nil, or_false] at h
  rcases h with rfl | rfl | rfl
  · exact hnext
  · exact hnext
  · exact hnext

/-- The machine waits in WAITI. -/
def State.waitiStart (u : State) (m : Mach) : State := u.modMach m fun x => { x with wait := .waiti }

theorem exec_waiti {s u : State} {m : Mach} (hi : s.Issues m u) (hl : u.atStation m = true) :
    exec (.waiti m) s = .next (if u.delivers m then u.retire m else u.waitiStart m) := by
  refine (issueStation_of_station hi hl _ _).trans (ok_of_rst (s := u) ?_ hi.settled)
  split <;> rfl

theorem delivers_iff (u : State) (m : Mach) :
    u.delivers m = true ↔ (u.mach m).nmi.isSome = true ∨ (u.mach m).wake = true ∨ u.ienabled m ≠ 0 := by
  simp only [State.delivers, Bool.or_eq_true, bne_iff_ne]
  exact or_assoc.trans or_left_comm

theorem sysResult_waitiStart (u : State) (m : Mach) : SysResult u (u.waitiStart m) m [] (u.mach m).pc 0 :=
  sysResult_modMach rfl rfl rfl fun _ _ => rfl

/-! ### Traps of instructions (R95, R114, R115) -/

theorem ok_trapAt {u : State} {m : Mach} {h : Word} (hd : u.Settled) (hv : u.VectorReady m 0 h) (ha : u.alive m = true)
    (he : u.exl m = false) (ret : Word) (code detail : Nat) (tval : Word) :
    ok (u.trapAt m ret code detail tval) = .next (u.trapAt m ret code detail tval) :=
  ok_of_rst (trapAt_rst hv ha he ret code detail tval) hd

/-- The instructions that only STATION may execute, each with its word (R145, R160). -/
theorem exec_of_task {s u : State} {m : Mach} {n ga gd : BitVec 5} (hi : s.Issues m u) (hl : u.atStation m = false) (hn : n ≠ 31)
    {p : Instr × Word} (hp : p ∈ [(Instr.mtc m n ga, encR 0x1C n ga 0 0x100), (.eret m, encR 0x1C 0 0 0 0x200),
      (.nret m, encR 0x1C 0 0 0 0x300), (.waiti m, encR 0x1C 0 0 0 0x700), (.raise m gd ga, encR 0x1E gd ga 0 0x400)]) :
    exec p.1 s = ok (u.privTrap m p.2) := by
  simp only [List.mem_cons, List.not_mem_nil, or_false] at hp
  rcases hp with rfl | rfl | rfl | rfl | rfl
  · exact (issue_of_issues hi _).trans (by rw [if_neg hn, if_pos (by simp [hl])])
  · exact issueStation_of_task hi hl _ _
  · exact issueStation_of_task hi hl _ _
  · exact issueStation_of_task hi hl _ _
  · exact issueStation_of_task hi hl _ _

/-! ### BREAK with a debugger attached (R148, R190) -/

theorem exec_breakTrap {s u : State} {m : Mach} (hi : s.Issues m u) : exec (.breakTrap m) s =
    ok (if u.isF (Fd.TR_DBG_ATTACHED m.triad.idx) then (u.retire m).haltRequest m.triad
      else u.trapAt m ((u.mach m).pc + 4) 0x0B 0 (u.mach m).pc) := issue_of_issues hi _

theorem getR_haltRequest_ne {u : State} {t : Triad} (h : (u.tri t).phase = .normal) {r : Rg} (hr : r.addr ≠ (Rg.TR_STAT t.idx).addr) :
    (u.haltRequest t).getR r = u.getR r := by
  rw [haltRequest_of_normal h, State.debugHalt, getR_of_regs (modTri_regs _ t _), getR_onF_ne u hr]

/-- A halt that takes hold is none that waits. -/
theorem haltPend_haltRequest_of_normal {u : State} {t : Triad} (h : (u.tri t).phase = .normal) :
    ((u.haltRequest t).tri t).haltPend = false := by
  rw [haltRequest_of_normal h, State.debugHalt, tri_modTri_same]

theorem haltRequest_sram (u : State) (t : Triad) : (u.haltRequest t).sram = u.sram :=
  haltRequest_frame u State.sram t (fun _ _ => rfl) rfl

/-! ### The obligations -/

/-- Settles O12: the check of the alignment is the first one of `loadStore`. -/
theorem misalignedAccessTraps : Obligations.MisalignedAccessTraps := by
  unfold Obligations.MisalignedAccessTraps
  intro p hp s u m gd ga i hi h
  simp only [List.mem_cons, List.not_mem_nil, or_false] at hp
  rcases hp with rfl | rfl | rfl | rfl | rfl
  · exact load_of_misaligned hi gd ga i false h
  · exact load_of_misaligned hi gd ga i true h
  · exact load_of_misaligned hi gd ga i false h
  · exact store_of_misaligned hi gd ga i h
  · exact store_of_misaligned hi gd ga i h

/-- Settles O15: each of these instructions changes one machine only. -/
theorem returnsWaitsAndFences : Obligations.ReturnsWaitsAndFences := by
  unfold Obligations.ReturnsWaitsAndFences
  refine ⟨fun s u m hi hl => ⟨?_, ?_⟩, fun s u m hi => ⟨fun i h => ?_, fun hl hwake => ?_, fun hl hnmi hwake hirq => ?_⟩⟩
  · exact ⟨_, exec_eret hi hl, rc_wc_retireTo_same _ _ _ _ _, sysResult_wc_retireTo _ _ _ _ _⟩
  · exact ⟨_, exec_nret hi hl, rc_wc_retireTo_same _ _ _ _ _, sysResult_wc_retireTo _ _ _ _ _⟩
  · exact ⟨_, exec_fence hi h, sysResult_retire u m⟩
  · have hd := (delivers_iff u m).2 hwake
    exact ⟨_, exec_waiti hi hl, by rw [if_pos hd]; exact sysResult_retire u m⟩
  · have hd : ¬ u.delivers m = true := by simp [delivers_iff, hnmi, hwake, hirq]
    refine ⟨_, exec_waiti hi hl, ?_⟩
    rw [if_neg hd]
    exact ⟨by rw [State.waitiStart, mach_modMach_same], sysResult_waitiStart u m⟩

/-- Settles O16: the check of the level comes before the effect of each of them. -/
theorem privilegedInstructionsTrapAtTask : Obligations.PrivilegedInstructionsTrapAtTask := by
  unfold Obligations.PrivilegedInstructionsTrapAtTask
  intro s u m h n ga gd hi hl he hv hn p hp
  have ha := alive_of_issues hi
  exact ⟨_, (exec_of_task hi hl hn hp).trans (ok_trapAt hi.settled hv ha he _ 2 0 p.2), entered_trapAt hv ha he _ 2 0 p.2⟩

/-- Settles O17: SYSCALL and BREAK trap with the address after them; with a debugger attached BREAK retires and halts. -/
theorem callsAndBreaks : Obligations.CallsAndBreaks := by
  unfold Obligations.CallsAndBreaks
  refine ⟨fun s u m h k hi he hv => ⟨?_, fun hno => ?_⟩, fun s u m hi hattached hnormal => ?_⟩
  · have ha := alive_of_issues hi
    exact ⟨_, (issue_of_issues hi _).trans (ok_trapAt hi.settled hv ha he _ _ _ _), entered_trapAt hv ha he _ _ _ _⟩
  · have ha := alive_of_issues hi
    have hexec := exec_breakTrap hi
    rw [if_neg (by simp [hno])] at hexec
    exact ⟨_, hexec.trans (ok_trapAt hi.settled hv ha he _ _ _ _), entered_trapAt hv ha he _ _ _ _⟩
  · have hexec := exec_breakTrap hi
    rw [if_pos hattached] at hexec
    have hres := sysResult_retire u m
    have hphase : ((u.retire m).tri m.triad).phase = .normal := hnormal
    have hmach (k : Mach) : ((u.retire m).haltRequest m.triad).mach k = (u.retire m).mach k :=
      mach_of_machs (haltRequest_machs _ _) k
    refine ⟨_, hexec.trans (ok_of_rst (haltRequest_rst (u.retire m) m.triad) hi.settled), isF_haltRequest hphase, ?_, ?_, fun r => ?_,
      fun k => ?_, fun k hk => (hmach k).trans (hres.machines k hk), haltPend_haltRequest_of_normal hphase, haltRequest_sram _ _,
      fun r hr => getR_haltRequest_ne hphase hr⟩
    · rw [hmach, hres.pc]
    · rw [hmach, hres.retired]
    · rw [State.rg, hmach]
      exact hres.general r
    · rw [State.rc', hmach]
      exact hres.control k List.not_mem_nil

end Sys2Proof.Machine
end

section
/-! PROOF. Traps that nest, and entries at a retire slot (O18, O19): an NMI entry between two elements of a long instruction
sets `NCAUSE.LONG`. -/

namespace Sys2Proof.Machine

/-- A module that runs, its machines inside a handler and between two elements of a long instruction, an NMI of source 5 held.
The vector table stands at 0; its first two words are written and hold 0. -/
def State.inLongInstruction : State :=
  { State.reset.setF Fd.BOOT_STAT_RESULT 1 with
    phase := .running
    machs := Vector.replicate 4 { c := vset ctrlReset cStatus 5, nmi := some 5, longRun := true }
    sramMark := [(0, .written)] }

theorem vectorReady_inLongInstruction : State.inLongInstruction.VectorReady .a0 1 0 := by
  refine ⟨⟨?_, ?_, ?_, ?_⟩, ?_, ?_⟩ <;> decide +kernel

/-- A trap inside the handler enters the NMI handler with LONG beside the code 0x0C and the detail 1. -/
theorem ncause_trapAt_inLongInstruction :
    (State.inLongInstruction.trapAt .a0 0 1 0 0).rc' .a0 cNcause = 0x4001_000C := by decide +kernel

/-- So does the NMI that is held, with the code 0x0D and its source. -/
theorem ncause_takeNmi_inLongInstruction : (State.inLongInstruction.takeNmi .a0).rc' .a0 cNcause = 0x4005_000D := by decide +kernel

theorem exec_nmiEntry_inLongInstruction :
    exec (.nmiEntry .a0) State.inLongInstruction = .next (State.inLongInstruction.takeNmi .a0) := by
  have henter : State.inLongInstruction.canEnter .a0 = true := by decide +kernel
  show execNmiEntry .a0 State.inLongInstruction = _
  rw [execNmiEntry, if_pos henter]
  exact ok_of_due (by decide +kernel)

/-! ### The obligations -/

/-- Refutes O18: its clause for a trap inside a handler has no LONG in the cause, and nothing in it excludes a long instruction
that has completed an element, for which the entry sets `NCAUSE.LONG` (R96, R125). -/
theorem not_trapsNest : ¬ Obligations.TrapsNest := by
  unfold Obligations.TrapsNest
  intro h
  obtain ⟨-, hnested, -⟩ := h State.inLongInstruction .a0 0 0 0 1 0 (by decide +kernel)
  have hncause := (hnested (by decide +kernel) (by decide +kernel) vectorReady_inLongInstruction).ncause
  rw [ncause_trapAt_inLongInstruction] at hncause
  exact absurd hncause (by decide)

/-- Refutes O19: its clause for the NMI has no LONG in the cause either, where the machine stands between two elements of a long
instruction. -/
theorem not_interruptEntries : ¬ Obligations.InterruptEntries := by
  unfold Obligations.InterruptEntries
  intro h
  obtain ⟨hnmi, -⟩ := h State.inLongInstruction .a0 0 (by decide +kernel) rfl
  obtain ⟨t, hexec, -, hentered⟩ := hnmi 5 rfl rfl (by decide +kernel) vectorReady_inLongInstruction
  rw [exec_nmiEntry_inLongInstruction] at hexec
  cases hexec
  have hncause := hentered.ncause
  rw [ncause_takeNmi_inLongInstruction] at hncause
  exact absurd hncause (by decide)

end Sys2Proof.Machine
end

section
/-! PROOF. MFC and MTC (O14). -/

namespace Sys2Proof.Machine

/-! ### MFC (R145, R146) -/

theorem ctrlLatch_rst (u : State) (m : Mach) (k : Fin 32) : (u.ctrlLatch m k).rst = u.rst := by
  unfold State.ctrlLatch
  split <;> rfl

theorem exec_mfc {s u : State} {m : Mach} (hi : s.Issues m u) (hl : u.atStation m = true) {n : BitVec 5} (hn : n ≠ 31) (gd : BitVec 5) :
    exec (.mfc m gd n) s = .next ((u.ctrlLatch m n.toFin).setRetire m gd (u.ctrlRead m n.toFin)) := by
  refine (issue_of_issues hi _).trans ?_
  rw [if_neg hn, if_neg (by simp [hl])]
  refine ok_of_rst (s := u) ?_ hi.settled
  rw [State.setRetire, State.retire, retireTo_rst, wg_rst, ctrlLatch_rst]

/-- A write of a general register, and retirement at the next instruction. -/
theorem regResult_setRetire (u : State) (m : Mach) (gd : BitVec 5) (w : Word) :
    RegResult u (u.setRetire m gd w) m gd w ((u.mach m).pc + 4) := by
  have hpc : ((u.wg m gd w).mach m).pc = (u.mach m).pc := by
    rw [mach_wg]
    split <;> rfl
  rw [State.setRetire, State.retire, hpc]
  exact regResult_retireTo u m gd w _

theorem rg_wc (u : State) (m : Mach) (k : Fin 32) (w : Word) (r : BitVec 5) : (u.wc m k w).rg m r = u.rg m r := by
  rw [State.rg, State.rg, State.wc, mach_modMach_same]

/-- The control registers that are stored, and the upper halves as they were latched. -/
theorem ctrlRead_of_stored (u : State) (m : Mach) {n : BitVec 5} (h : n.toNat ∉ [8, 9, 16, 20, 21, 23, 25]) :
    u.ctrlRead m n.toFin = u.rc' m n.toFin ∧ u.ctrlLatch m n.toFin = u := by
  simp only [List.mem_cons, List.not_mem_nil, or_false, not_or] at h
  obtain ⟨h8, h9, h16, h20, h21, h23, h25⟩ := h
  constructor
  · unfold State.ctrlRead
    split
    · exact absurd ‹_› h8
    · exact absurd ‹_› h9
    · exact absurd ‹_› h16
    · exact absurd ‹_› h20
    · exact absurd ‹_› h21
    · exact absurd ‹_› h23
    · exact absurd ‹_› h25
    · rfl
  · unfold State.ctrlLatch
    split
    · exact absurd ‹_› h21
    · exact absurd ‹_› h23
    · exact absurd ‹_› h25
    · rfl

theorem coreId_eq (u : State) (m : Mach) :
    u.coreId m = m.triad.idx.val + 2 * m.core + if u.split m.triad = true then 8 else 0 := by
  cases h : u.split m.triad <;> simp [State.coreId, b2n, h]

/-- The registers that MFC computes (R97, R129). -/
theorem ctrlRead_of_computed (u : State) (m : Mach) {n : BitVec 5} {p : Nat × Nat}
    (hp : p ∈ [(8, u.ipend m), (9, u.ipend m / 2 ^ 32), (16, u.owned m),
      (20, m.triad.idx.val + 2 * m.core + if u.split m.triad = true then 8 else 0)]) (h : n.toNat = p.1) :
    u.ctrlRead m n.toFin = .ofNat p.2 ∧ u.ctrlLatch m n.toFin = u := by
  rw [← coreId_eq] at hp
  simp only [List.mem_cons, List.not_mem_nil, or_false] at hp
  rcases hp with rfl | rfl | rfl | rfl <;> dsimp only at h ⊢
  · obtain rfl : n = 8 := BitVec.eq_of_toNat_eq h
    exact ⟨rfl, rfl⟩
  · obtain rfl : n = 9 := BitVec.eq_of_toNat_eq h
    exact ⟨rfl, rfl⟩
  · obtain rfl : n = 16 := BitVec.eq_of_toNat_eq h
    exact ⟨rfl, rfl⟩
  · obtain rfl : n = 20 := BitVec.eq_of_toNat_eq h
    exact ⟨rfl, rfl⟩

/-- The low halves, whose read latches the upper half (R97). -/
theorem ctrlRead_of_low (u : State) (m : Mach) {n : BitVec 5} {p : Nat × Nat}
    (hp : p ∈ [(21, (u.mach m).cycle), (23, (u.mach m).retire), (25, u.tt.clk)]) (h : n.toNat = p.1) :
    u.ctrlRead m n.toFin = .ofNat p.2 ∧ u.ctrlLatch m n.toFin = u.wc m (n.toFin + 1) (.ofNat (p.2 / 2 ^ 32)) := by
  simp only [List.mem_cons, List.not_mem_nil, or_false] at hp
  rcases hp with rfl | rfl | rfl <;> dsimp only at h ⊢
  · obtain rfl : n = 21 := BitVec.eq_of_toNat_eq h
    exact ⟨rfl, rfl⟩
  · obtain rfl : n = 23 := BitVec.eq_of_toNat_eq h
    exact ⟨rfl, rfl⟩
  · obtain rfl : n = 25 := BitVec.eq_of_toNat_eq h
    exact ⟨rfl, rfl⟩

/-! ### MTC (R96, R146) -/

theorem exec_mtc {s u : State} {m : Mach} (hi : s.Issues m u) (hl : u.atStation m = true) {n : BitVec 5} (hn : n ≠ 31) {ga : BitVec 5}
    (ht : n = 15 → (u.rg m ga).toNat % 32 = 31 ∨ u.serves m ((u.rg m ga).toNat % 32) = true) :
    exec (.mtc m n ga) s = .next ((u.wc m n.toFin (ctrlWrite n.toNat (u.rc' m n.toFin) (u.rg m ga))).retire m) := by
  have htask : ¬(n = 15 ∧ (u.rg m ga).toNat % 32 ≠ 31 ∧ u.serves m ((u.rg m ga).toNat % 32) = false) := by
    rintro ⟨h15, hid, hno⟩
    rcases ht h15 with h | h
    · exact hid h
    · rw [h] at hno
      cases hno
  refine (issue_of_issues hi _).trans ?_
  rw [if_neg hn, if_neg (by simp [hl]), if_neg htask]
  exact ok_of_rst (s := u) rfl hi.settled

theorem wc_retire (u : State) (m : Mach) (k : Fin 32) (w : Word) :
    (u.wc m k w).retire m = (u.wc m k w).retireTo m ((u.mach m).pc + 4) := by
  rw [State.retire, State.wc, mach_modMach_same]

/-! ### The obligation -/

/-- Settles O14: MFC reads and latches, MTC writes by the types of the bits. -/
theorem controlRegisters : Obligations.ControlRegisters := by
  unfold Obligations.ControlRegisters
  refine ⟨fun s u m gd n hi hl hn => ⟨fun h => ?_, fun p hp h => ?_, fun p hp h => ?_⟩, fun p hp s u m ga hi hl => ?_⟩
  · obtain ⟨hread, hlatch⟩ := ctrlRead_of_stored u m h
    have hexec := exec_mfc hi hl hn gd
    rw [hread, hlatch] at hexec
    exact ⟨_, hexec, regResult_setRetire u m gd _⟩
  · obtain ⟨hread, hlatch⟩ := ctrlRead_of_computed u m hp h
    have hexec := exec_mfc hi hl hn gd
    rw [hread, hlatch] at hexec
    exact ⟨_, hexec, regResult_setRetire u m gd _⟩
  · obtain ⟨hread, hlatch⟩ := ctrlRead_of_low u m hp h
    have hexec := exec_mfc hi hl hn gd
    rw [hread, hlatch] at hexec
    have hres := regResult_setRetire (u.wc m (n.toFin + 1) (.ofNat (p.2 / 2 ^ 32))) m gd (.ofNat p.2)
    refine ⟨_, hexec, hres.reg, ?_, ?_, fun r hr => ?_, fun k hk => ?_, fun k hk => ?_, ?_⟩
    · rw [hres.control, rc_wc_same]
    · rw [hres.pc, State.wc, mach_modMach_same]
    · rw [hres.others r hr, rg_wc]
    · rw [hres.control, rc_wc_ne u m hk]
    · exact (hres.machines k hk).trans (mach_modMach_ne u hk _)
    · exact congrArg (fun x : State => { x with machs := u.machs }) hres.rest
  · have htable : p.1 ≠ 31 ∧ ctrlRw p.1.toNat = p.2.1 ∧ ctrlW1c p.1.toNat = p.2.2 := by
      revert p
      refine List.all_iff_forall_prop.1 ?_
      decide
    obtain ⟨hn, hrw, hw1c⟩ := htable
    intro v old ht
    refine ⟨_, exec_mtc hi hl hn ht, ?_, ?_⟩
    · rw [wc_retire, rc_wc_retireTo_same, ctrlWrite, writeTyped, hrw, hw1c]
    · rw [wc_retire]
      exact sysResult_wc_retireTo u m _ _ _

end Sys2Proof.Machine
end

section
/-! SUPPORT. The elements of long instructions: their reads and writes of SRAM that is ready, and the registers that advance. -/

namespace Sys2Proof.Machine

/-! ### Bytes of a value -/

theorem leRead_lt (rd : Nat → Byte) (a n : Nat) : leRead rd a n < 256 ^ n := by
  induction n generalizing a with
  | zero => exact Nat.one_pos
  | succ n ih =>
    have hb := (rd a).isLt
    have hr := ih (a + 1)
    rw [leRead, Nat.pow_succ']
    omega

theorem leBytes_getElem (v n i : Nat) (h : i < (leBytes v n).length) : (leBytes v n)[i] = BitVec.ofNat 8 (v / 256 ^ i) := by
  induction n generalizing v i with
  | zero => exact absurd h (Nat.not_lt_zero i)
  | succ n ih =>
    cases i with
    | zero => simp [leBytes]
    | succ i =>
      have hdiv : v / 256 / 256 ^ i = v / 256 ^ (i + 1) := by rw [Nat.div_div_eq_div_mul, ← Nat.pow_succ']
      simp only [leBytes, List.getElem_cons_succ]
      rw [ih, hdiv]

/-! ### Words that count -/

theorem word_add_ofNat (w : Word) (n : Nat) : w + .ofNat n = .ofNat (w.toNat + n) := by
  apply BitVec.eq_of_toNat_eq
  simp [Word.ofNat]

theorem word_sub_ofNat {w : Word} {n : Nat} (h : n ≤ w.toNat) : w - .ofNat n = .ofNat (w.toNat - n) := by
  have hw := w.isLt
  apply BitVec.eq_of_toNat_eq
  simp only [Word.ofNat, BitVec.toNat_sub, BitVec.toNat_ofNat]
  omega

theorem word_ofNat_sub_eq_zero {w : Word} {n : Nat} (h : n ≤ w.toNat) : Word.ofNat (w.toNat - n) = 0 ↔ w.toNat = n := by
  have hw := w.isLt
  rw [← BitVec.toNat_inj, Word.ofNat, BitVec.toNat_ofNat, show (0 : Word).toNat = 0 from rfl]
  omega

/-! ### Bytes of SRAM that are ready -/

/-- Of bytes that are ready, the first ones are. -/
theorem sramReady_mono {u : State} {a n k : Nat} (h : u.SramReady a k) (hn : 0 < n) (hnk : n ≤ k) (hk : k ≤ 4096) : u.SramReady a n := by
  refine ⟨by have := h.inside; omega, ?_, fun i hi => h.noError i (by omega), fun i hi => h.noPoison i (by omega)⟩
  have hheal := h.noHeal
  simp only [State.healingAt, List.any_eq_false, Bool.or_eq_true, beq_iff_eq, not_or] at hheal ⊢
  intro p hp
  have := hheal p hp
  omega

theorem spanIn_of_ready {u : State} {a n : Nat} (h : u.SramReady a n) (hn : 0 < n) : spanIn inSram a n = true := by
  have hin := h.inside
  rw [spanIn, inSram, inSram, decide_eq_true (show a < 0x0100_0000 by omega), decide_eq_true (show a + n - 1 < 0x0100_0000 by omega)]
  rfl

/-- What is stored: the bytes, over the errors of their words. -/
def State.sramPut (u : State) (a : Nat) (bs : List Byte) : State :=
  { u with sramErr := u.sramErr.filter fun p => !(wordsOf a bs.length).contains p.1 }.sramStore a bs

theorem elemRead_of_ready {u : State} {m : Mach} {a n : Nat} (h : u.SramReady a n) (hn : 0 < n)
    (hw : ∀ k < n, u.markOf ((a + k) / 8) = some .written) : u.elemRead m a n = (.ok (u.sramRead a n), u) := by
  have hun : u.anyMark isUnwritten a n = false := anyMark_eq_false fun k hk => isUnwritten_eq_false (hw k hk)
  simp [State.elemRead, spanIn_of_ready h hn, sramLoad_of_ready h, hun]

theorem elemWrite_of_ready {u : State} {a : Nat} {bs : List Byte} (h : u.SramReady a bs.length) :
    u.elemWrite a bs = (.ok 0, u.sramPut a bs) := by
  rw [State.elemWrite, sramWrite_of_ready h]
  rfl

theorem sramByte_sramPut_out (u : State) (a : Nat) (bs : List Byte) (c : Nat) (h : c < a ∨ a + bs.length ≤ c) :
    (u.sramPut a bs).sramByte c = u.sramByte c := sramByte_sramStore_out _ a bs c h

/-! ### Operands that pass R99 -/

theorem elemAccess_read {u : State} {m : Mach} {a n : Nat} (h : u.SramReady a n) (hn : 0 < n) : u.elemAccess m false a n = none := by
  simp [State.elemAccess, spanIn_of_ready h hn]

theorem elemAccess_write {u : State} {m : Mach} {a n : Nat} (h : u.SramReady a n) (hn : 0 < n)
    (hp : u.atStation m = true ∨ u.inTwin m a n = true) : u.elemAccess m true a n = none := by
  rcases hp with hp | hp <;> simp [State.elemAccess, spanIn_of_ready h hn, hp]

theorem elemOn_of_reads {u : State} {m : Mach} {reads : List Nat} {n : Nat} (hr : ∀ a ∈ reads, u.elemAccess m false a n = none)
    (f : State → State) : u.elemOn m reads n none f = f u := by
  have hfind : (reads.find? fun a => (u.elemAccess m false a n).isSome) = none :=
    List.find?_eq_none.2 fun a ha => by simp [hr a ha]
  simp [State.elemOn, hfind]

theorem elemOn_of_accesses {u : State} {m : Mach} {reads : List Nat} {n d : Nat} (hr : ∀ a ∈ reads, u.elemAccess m false a n = none)
    (hd : u.elemAccess m true d n = none) (f : State → State) : u.elemOn m reads n (some d) f = f u := by
  have hfind : (reads.find? fun a => (u.elemAccess m false a n).isSome) = none :=
    List.find?_eq_none.2 fun a ha => by simp [hr a ha]
  simp [State.elemOn, hfind, hd]

theorem still_of_alive {u : State} {m : Mach} (h : u.alive m = true) (f : State → State) : u.still m f = f u := if_pos h

/-! ### The end of an element (R124) -/

/-- Only general registers change where the registers of an element advance. -/
theorem progress_frame {β : Type} (p : State → β) {m : Mach} (h : ∀ s r w, p (State.wg s m r w) = p s) (s : State) (up : List (BitVec 5))
    (n : Nat) (gb : BitVec 5) (k : Nat) : p (s.progress m up n gb k) = p s := by
  rw [State.progress, h, each_frame p fun r s => h s r _]

theorem pc_wg (s : State) (m : Mach) (r : BitVec 5) (w : Word) : ((s.wg m r w).mach m).pc = (s.mach m).pc := by
  rw [mach_wg]
  split <;> rfl

theorem rg_each_up {m : Mach} {n : Nat} {l : List (BitVec 5)} (hl : l.Nodup) (s : State) (r : BitVec 5) :
    (State.each (fun r s => s.wg m r (s.rg m r + .ofNat n)) l s).rg m r =
      if r ∈ l ∧ r ≠ 0 then s.rg m r + .ofNat n else s.rg m r := by
  induction l generalizing s with
  | nil => simp [State.each]
  | cons q l ih =>
    obtain ⟨hq, hl⟩ := List.nodup_cons.1 hl
    rw [State.each, ih hl]
    by_cases hr : r = q
    · subst hr
      rw [if_neg (fun h => hq h.1), rg_wg_same]
      by_cases h0 : r = 0
      · rw [if_pos h0, if_neg fun h => h.2 h0, h0, rg_zero]
      · rw [if_neg h0, if_pos ⟨List.mem_cons_self, h0⟩]
    · rw [rg_wg_ne s m hr]
      simp [hr]

theorem rg_progress_count {s : State} {m : Mach} {up : List (BitVec 5)} {gb : BitVec 5} (hl : up.Nodup) (h0 : gb ≠ 0) (hgb : gb ∉ up)
    (n k : Nat) : (s.progress m up n gb k).rg m gb = s.rg m gb - .ofNat k := by
  rw [State.progress, rg_wg_same, if_neg h0, rg_each_up hl, if_neg fun h => hgb h.1]

theorem rg_progress_up {s : State} {m : Mach} {up : List (BitVec 5)} {gb r : BitVec 5} (hl : up.Nodup) (hr : r ∈ up) (h0 : r ≠ 0)
    (hgb : r ≠ gb) (n k : Nat) : (s.progress m up n gb k).rg m r = .ofNat ((s.rg m r).toNat + n) := by
  rw [State.progress, rg_wg_ne _ m hgb, rg_each_up hl, if_pos ⟨hr, h0⟩, word_add_ofNat]

theorem rg_progress_other {s : State} {m : Mach} {up : List (BitVec 5)} {gb r : BitVec 5} (hl : up.Nodup) (hr : r ∉ up)
    (hgb : r ≠ gb) (n k : Nat) : (s.progress m up n gb k).rg m r = s.rg m r := by
  rw [State.progress, rg_wg_ne _ m hgb, rg_each_up hl, if_neg fun h => hr h.1]

/-- The end of an element goes on after the instruction where nothing is left, and stays at it otherwise. -/
theorem sysResult_elemEnd (u : State) (m : Mach) (gb : BitVec 5) : SysResult u (u.elemEnd m gb) m []
    (if u.rg m gb = 0 then (u.mach m).pc + 4 else (u.mach m).pc) (if u.rg m gb = 0 then 1 else 0) := by
  unfold State.elemEnd
  split
  · exact sysResult_retire u m
  · exact sysResult_modMach rfl rfl rfl fun _ _ => rfl

/-- The registers of an element advance, and the element ends. -/
def State.elemDone (s : State) (m : Mach) (up : List (BitVec 5)) (n : Nat) (gb : BitVec 5) (k : Nat) : State :=
  (s.progress m up n gb k).elemEnd m gb

section Done
variable {s : State} {m : Mach} {up : List (BitVec 5)} {n k : Nat} {gb : BitVec 5}

theorem elemDone_frame {β : Type} (p : State → β) (hw : ∀ s r w, p (State.wg s m r w) = p s)
    (hm : ∀ s x, p { s with machs := x } = p s) : p (s.elemDone m up n gb k) = p s := by
  have hrest := congrArg p (sysResult_elemEnd (s.progress m up n gb k) m gb).rest
  rw [hm, progress_frame p hw] at hrest
  exact hrest

theorem elemDone_sram : (s.elemDone m up n gb k).sram = s.sram := elemDone_frame State.sram (fun s r w => wg_sram s m r w) fun _ _ => rfl
theorem elemDone_rst : (s.elemDone m up n gb k).rst = s.rst := elemDone_frame State.rst (fun s r w => wg_rst s m r w) fun _ _ => rfl

theorem rc_elemDone (j : Fin 32) : (s.elemDone m up n gb k).rc' m j = s.rc' m j :=
  ((sysResult_elemEnd _ m gb).control j List.not_mem_nil).trans (progress_frame (fun s => s.rc' m j) (fun s r w => rc_wg s m r w j) s up n gb k)

theorem rg_elemDone_up {r : BitVec 5} (hl : up.Nodup) (hr : r ∈ up) (h0 : r ≠ 0) (hgb : r ≠ gb) :
    (s.elemDone m up n gb k).rg m r = .ofNat ((s.rg m r).toNat + n) :=
  ((sysResult_elemEnd _ m gb).general r).trans (rg_progress_up hl hr h0 hgb n k)

theorem rg_elemDone_other {r : BitVec 5} (hl : up.Nodup) (hr : r ∉ up) (hgb : r ≠ gb) :
    (s.elemDone m up n gb k).rg m r = s.rg m r :=
  ((sysResult_elemEnd _ m gb).general r).trans (rg_progress_other hl hr hgb n k)

theorem rg_elemDone_count (hl : up.Nodup) (h0 : gb ≠ 0) (hgb : gb ∉ up) (hk : k ≤ (s.rg m gb).toNat) :
    (s.elemDone m up n gb k).rg m gb = .ofNat ((s.rg m gb).toNat - k) :=
  ((sysResult_elemEnd _ m gb).general gb).trans ((rg_progress_count hl h0 hgb n k).trans (word_sub_ofNat hk))

theorem pc_elemDone (hl : up.Nodup) (h0 : gb ≠ 0) (hgb : gb ∉ up) (hk : k ≤ (s.rg m gb).toNat) :
    ((s.elemDone m up n gb k).mach m).pc = if (s.rg m gb).toNat = k then (s.mach m).pc + 4 else (s.mach m).pc := by
  have hpc := progress_frame (fun s => (s.mach m).pc) (fun s r w => pc_wg s m r w) s up n gb k
  have hres := (sysResult_elemEnd (s.progress m up n gb k) m gb).pc
  simp only [rg_progress_count hl h0 hgb, word_sub_ofNat hk, word_ofNat_sub_eq_zero hk, hpc] at hres
  exact hres

end Done

end Sys2Proof.Machine
end

section
/-! PROOF. The elements of BMOV, BFILL, BCRC and FIRV, and CRCF (O13). -/

namespace Sys2Proof.Machine

theorem misaligned_eq_nil {l : List Word} (h : ∀ a ∈ l, a.toNat % 4 = 0) : misaligned l = [] :=
  List.filter_eq_nil_iff.2 fun a ha => by simp [h a ha]

theorem elemSize_le (l : List Word) : 0 < elemSize l ∧ elemSize l ≤ 8 := by
  unfold elemSize
  split <;> decide

/-- An element leaves no more than there is. -/
theorem elemSize_le_count {l : List Word} {c : Word} (hc : c ∈ l) (h4 : c.toNat % 4 = 0) (h0 : c.toNat ≠ 0) : elemSize l ≤ c.toNat := by
  unfold elemSize
  split
  · rename_i h
    have h8 := List.all_eq_true.1 h c hc
    rw [beq_iff_eq] at h8
    omega
  · omega

theorem word_ne_zero {w : Word} (h : w.toNat ≠ 0) : w ≠ 0 := fun h0 => h (by rw [h0]; rfl)

/-! ### BMOV and BFILL (R124, R149) -/

section Moves
variable {s u : State} {m : Mach} {gd ga gb : BitVec 5}

/-- An element of BMOV reads, stores what it has read, and advances. -/
theorem bmovElem_of_ready {n : Nat} (hn : n = elemSize [u.rg m gd, u.rg m ga, u.rg m gb]) (ha : u.alive m = true)
    (hp : u.atStation m = true ∨ u.inTwin m (u.rg m gd).toNat n = true) (hd : u.SramReady (u.rg m gd).toNat n)
    (hs : u.SramReady (u.rg m ga).toNat n) (hw : ∀ k < n, u.markOf (((u.rg m ga).toNat + k) / 8) = some .written) :
    u.bmovElem m gd ga gb =
      (u.sramPut (u.rg m gd).toNat (leBytes (u.sramRead (u.rg m ga).toNat n) n)).elemDone m [gd, ga] n gb n := by
  have h0 : 0 < n := hn ▸ (elemSize_le _).1
  have hwrite : u.elemWrite (u.rg m gd).toNat (leBytes (u.sramRead (u.rg m ga).toNat n) n) = (.ok 0, u.sramPut _ _) :=
    elemWrite_of_ready (by rwa [leBytes_length])
  have hreads : ∀ a ∈ [(u.rg m ga).toNat], u.elemAccess m false a n = none := fun a h => by
    rw [List.mem_singleton.1 h]
    exact elemAccess_read hs h0
  unfold State.bmovElem
  simp only [← hn, hs.noHeal, hd.noHeal, Bool.or_self, Bool.false_eq_true, if_false, elemOn_of_accesses hreads (elemAccess_write hd h0 hp),
    elemRead_of_ready hs h0 hw, still_of_alive ha, hwrite]
  exact still_of_alive (u := u.sramPut _ _) ha _

/-- An element of BFILL stores the fill word, and advances. -/
theorem bfillElem_of_ready {n : Nat} (hn : n = elemSize [u.rg m gd, u.rg m gb]) (ha : u.alive m = true)
    (hp : u.atStation m = true ∨ u.inTwin m (u.rg m gd).toNat n = true) (hd : u.SramReady (u.rg m gd).toNat n) :
    u.bfillElem m gd ga gb =
      (u.sramPut (u.rg m gd).toNat (leBytes ((u.rg m ga).toNat + 2 ^ 32 * (u.rg m ga).toNat) n)).elemDone m [gd] n gb n := by
  have h0 : 0 < n := hn ▸ (elemSize_le _).1
  have hwrite : u.elemWrite (u.rg m gd).toNat (leBytes ((u.rg m ga).toNat + 2 ^ 32 * (u.rg m ga).toNat) n) = (.ok 0, u.sramPut _ _) :=
    elemWrite_of_ready (by rwa [leBytes_length])
  unfold State.bfillElem
  simp only [← hn, hd.noHeal, Bool.false_eq_true, if_false,
    elemOn_of_accesses (List.forall_mem_nil _) (elemAccess_write hd h0 hp), hwrite]
  exact still_of_alive (u := u.sramPut _ _) ha _

theorem exec_bmov (hi : s.Issues m u) (h0 : ¬(gd = 0 ∨ ga = 0 ∨ gb = 0)) (hd : (u.rg m gd).toNat % 4 = 0) (ha : (u.rg m ga).toNat % 4 = 0)
    (hc : (u.rg m gb).toNat % 4 = 0) (hc0 : u.rg m gb ≠ 0) : exec (.bmov m gd ga gb) s = ok (u.bmovElem m gd ga gb) := by
  have hbad : misaligned [u.rg m gd, u.rg m ga] = [] := misaligned_eq_nil (by simp [hd, ha])
  refine (issue_of_issues hi _).trans ?_
  simp only [if_neg h0, hbad, hc, if_neg hc0]
  rfl

theorem exec_bfill (hi : s.Issues m u) (h0 : ¬(gd = 0 ∨ gb = 0)) (hd : (u.rg m gd).toNat % 4 = 0)
    (hc : (u.rg m gb).toNat % 4 = 0) (hc0 : u.rg m gb ≠ 0) : exec (.bfill m gd ga gb) s = ok (u.bfillElem m gd ga gb) := by
  have hbad : misaligned [u.rg m gd] = [] := misaligned_eq_nil (by simp [hd])
  refine (issue_of_issues hi _).trans ?_
  simp only [if_neg h0, hbad, hc, if_neg hc0]
  rfl

end Moves

/-- The bytes of a value that holds a word twice. -/
theorem byte_twice (w : Word) (k : Nat) (hk : k < 8) :
    BitVec.ofNat 8 ((w.toNat + 2 ^ 32 * w.toNat) / 256 ^ k) = BitVec.ofNat 8 (w.toNat / 2 ^ (8 * (k % 4))) := by
  have hw := w.isLt
  apply BitVec.eq_of_toNat_eq
  rw [BitVec.toNat_ofNat, BitVec.toNat_ofNat, Nat.pow_mul]
  rcases Nat.lt_or_ge k 4 with h | h
  · have hsplit : 2 ^ 32 * w.toNat = 256 ^ k * (256 * (256 ^ (3 - k) * w.toNat)) := by
      interval_cases k <;> norm_num <;> omega
    rw [Nat.mod_eq_of_lt h, hsplit, Nat.add_mul_div_left _ _ (by positivity)]
    exact Nat.add_mul_mod_self_left _ _ _
  · have hhalf : (w.toNat + 2 ^ 32 * w.toNat) / 2 ^ 32 = w.toNat := by omega
    have hpow : 256 ^ k = 2 ^ 32 * (2 ^ 8) ^ (k % 4) := by
      interval_cases k <;> rfl
    rw [hpow, ← Nat.div_div_eq_div_mul, hhalf]

/-! ### BCRC and CRCF (R151, R172) -/

section Checks
variable {s u : State} {m : Mach} {gd ga gb : BitVec 5}

/-- An element of BCRC reads, takes the bytes into the running value, and advances. -/
theorem bcrcElem_of_ready {n : Nat} (hn : n = min 8 (u.rg m gb).toNat) (h0 : 0 < n) (ha : u.alive m = true)
    (hs : u.SramReady (u.rg m ga).toNat n) (hw : ∀ k < n, u.markOf (((u.rg m ga).toNat + k) / 8) = some .written) (p : Poly) :
    u.bcrcElem m p gd ga gb = (u.wg m gd (.ofNat (crcBytes p ((u.rg m gd).toNat % 2 ^ p.width)
      (leBytes (u.sramRead (u.rg m ga).toNat n) n)))).elemDone m [ga] n gb n := by
  have hreads : ∀ a ∈ [(u.rg m ga).toNat], u.elemAccess m false a n = none := fun a h => by
    rw [List.mem_singleton.1 h]
    exact elemAccess_read hs h0
  unfold State.bcrcElem
  simp only [← hn, hs.noHeal, Bool.false_eq_true, if_false, elemOn_of_reads hreads, elemRead_of_ready hs h0 hw]
  exact still_of_alive ha _

theorem exec_bcrc (hi : s.Issues m u) (h0 : ¬(gd = 0 ∨ ga = 0 ∨ gb = 0)) (hc0 : u.rg m gb ≠ 0) (p : BitVec 2) :
    exec (.bcrc m p gd ga gb) s = ok (u.bcrcElem m (Poly.ofCode p.toNat) gd ga gb) := by
  refine (issue_of_issues hi _).trans ?_
  rw [if_neg h0, if_neg hc0]

/-- Bytes most significant first are those of `leBytes` in the other order. -/
theorem map_shiftRight_eq_reverse (v n : Nat) :
    ((List.range n).map fun i => BitVec.ofNat 8 (v >>> (8 * (n - 1 - i)))) = (leBytes v n).reverse := by
  apply List.ext_getElem
  · simp [leBytes_length]
  · intro i hi _
    rw [List.length_map, List.length_range] at hi
    simp only [List.getElem_map, List.getElem_range, List.getElem_reverse, leBytes_length, leBytes_getElem]
    rw [Nat.shiftRight_eq_div_pow, Nat.pow_mul]

theorem foldBytes_eq (a q : Nat) : foldBytes a q = (leBytes a 8).reverse ++ (leBytes q 4).reverse := by
  rw [← map_shiftRight_eq_reverse, ← map_shiftRight_eq_reverse]
  rfl

theorem pairOk_of_even {r : BitVec 5} (h0 : r ≠ 0) (h2 : r.toNat % 2 = 0) : pairOk r = true := by
  have hbit : r.getLsbD 0 = false := by
    rw [BitVec.getLsbD, Nat.testBit_zero, h2]
    rfl
  rw [pairOk, hbit]
  simpa using h0

theorem exec_crcf (hi : s.Issues m u) (hok : pairOk ga = true) (p : BitVec 2) : exec (.crcf m p gd ga gb) s =
    .next (u.setRetire m gd (.ofNat (crcBytes (Poly.ofCode p.toNat) ((u.rg m gd).toNat % 2 ^ (Poly.ofCode p.toNat).width)
      (foldBytes (u.stationAddr m ga) (u.rg m gb).toNat)))) := by
  refine (issue_of_issues hi _).trans ?_
  rw [if_neg (by simp [hok])]
  exact ok_of_rst (s := u) (wg_rst u m gd _) hi.settled

end Checks

/-! ### FIRV with one tap (R149, R150) -/

/-- Rounding and saturation of a product of two words (R135). -/
def firvRound (x : Int) : Word := .ofInt (sat (rnd (sat (0 + x) 64) 31) 32)

theorem toInt_bounds (w : Word) : -2 ^ 31 ≤ w.toInt ∧ w.toInt < 2 ^ 31 :=
  ⟨BitVec.le_toInt w, BitVec.toInt_lt⟩

theorem mul_bounds (v w : Word) : -2 ^ 62 ≤ v.toInt * w.toInt ∧ v.toInt * w.toInt ≤ 2 ^ 62 := by
  obtain ⟨hv, hv'⟩ := toInt_bounds v
  obtain ⟨hw, hw'⟩ := toInt_bounds w
  constructor <;> nlinarith

theorem toInt_firvRound {x : Int} (hx : -2 ^ 62 ≤ x ∧ x ≤ 2 ^ 62) :
    (firvRound x).toInt = min ((x + 2 ^ 30) / 2 ^ 31) (2 ^ 31 - 1) := by
  have hsat : sat (0 + x) 64 = x := by
    simp only [sat]
    omega
  have hrnd : sat (rnd x 31) 32 = min ((x + 2 ^ 30) / 2 ^ 31) (2 ^ 31 - 1) := by
    simp only [sat, rnd]
    omega
  rw [firvRound, hsat, hrnd, Word.ofInt, BitVec.toInt_ofInt]
  simp only [Int.bmod]
  omega

theorem firvReads_one {k a : Nat} (hk : k < 2 ^ 32) (ha : a < 2 ^ 32) : firvReads k a 1 = [k, a] := by
  simpa [firvReads] using ⟨hk, ha⟩

section Filter
variable {s u : State} {m : Mach} {gd ga gb : BitVec 5}

/-- A word of SRAM that one element reads at once. -/
structure State.WordReady (u : State) (a : Nat) : Prop where
  ready : u.SramReady a 4
  written : ∀ k < 4, u.markOf ((a + k) / 8) = some .written

theorem wordReady_of_aligned {a : Nat} (ha : a % 4 = 0) (hr : u.SramReady a 4) (hw : u.markOf (a / 8) = some .written) :
    u.WordReady a := ⟨hr, fun k hk => by rwa [show (a + k) / 8 = a / 8 by omega]⟩

theorem touchWords_of_ready {l : List Nat} (h : ∀ a ∈ l, u.WordReady a) : u.touchWords l = u :=
  each_eq_self fun a ha => by
    split
    · exact eccTouchAll_of_no_error (h a ha).ready.noError
    · rfl

theorem firvFirst_of_ready {l : List Nat} (h : ∀ a ∈ l, u.WordReady a) : u.firvFirst m l = none := by
  have hnone (p : Option Mark → Bool) (hp : p (some .written) = false) : (l.find? fun a => inSram a && u.anyMark p a 4) = none :=
    List.find?_eq_none.2 fun a ha => by
      have hmark : u.anyMark p a 4 = false := anyMark_eq_false fun k hk => by rw [(h a ha).written k hk, hp]
      simp [hmark]
  simp [State.firvFirst, hnone isUnwritten rfl, hnone isPoisoned rfl]

/-- The sum over one tap. -/
theorem firvTaps_one {k a : Nat} (hk : u.WordReady k) (ha : u.WordReady a) :
    State.firvTaps m k a 1 0 0 u =
      (.inl (sat (0 + (Word.ofNat (u.sramRead k 4)).toInt * (Word.ofNat (u.sramRead a 4)).toInt) 64), u) := by
  have hk32 : (k + 4 * 0) % 2 ^ 32 = k := Nat.mod_eq_of_lt (by have := hk.ready.inside; omega)
  have ha32 : (a + 4 * 0) % 2 ^ 32 = a := Nat.mod_eq_of_lt (by have := ha.ready.inside; omega)
  simp only [State.firvTaps, hk32, ha32, elemRead_of_ready hk.ready (by decide) hk.written,
    elemRead_of_ready ha.ready (by decide) ha.written]

/-- An element of FIRV with one tap stores the rounded product of the coefficient and the sample, and advances. -/
theorem firvElem_of_ready {k : Nat} (hdesc : (u.rg m (gd + 1)).toNat = k) (hk64 : k % 64 = 0) (hal : u.alive m = true)
    (hp : u.atStation m = true ∨ u.inTwin m (u.rg m gd).toNat 4 = true) (hd : u.SramReady (u.rg m gd).toNat 4)
    (hk : u.WordReady k) (ha : u.WordReady (u.rg m ga).toNat) :
    u.firvElem m gd ga gb = (u.sramPut (u.rg m gd).toNat (leBytes (firvRound
      ((Word.ofNat (u.sramRead k 4)).toInt * (Word.ofNat (u.sramRead (u.rg m ga).toNat 4)).toInt)).toNat 4)).elemDone m [gd, ga] 4 gb 1 := by
  have hcoef : k / 64 * 64 = k := by omega
  have hreads : firvReads k (u.rg m ga).toNat 1 = [k, (u.rg m ga).toNat] := firvReads_one (hdesc ▸ BitVec.isLt _) (BitVec.isLt _)
  have hall : ∀ a ∈ [k, (u.rg m ga).toNat], u.WordReady a := by simp [hk, ha]
  have haccess : ∀ a ∈ [k, (u.rg m ga).toNat], u.elemAccess m false a 4 = none := fun a h =>
    elemAccess_read (hall a h).ready (by decide)
  have hwrite (w : Word) : u.elemWrite (u.rg m gd).toNat (leBytes w.toNat 4) = (.ok 0, u.sramPut _ _) :=
    elemWrite_of_ready (by rwa [leBytes_length])
  unfold State.firvElem
  simp only [hdesc, hk64, hcoef, hk.ready.noHeal, ha.ready.noHeal, hd.noHeal, hreads, elemOn_of_accesses haccess (elemAccess_write hd (by decide) hp),
    touchWords_of_ready hall, still_of_alive hal, firvFirst_of_ready hall, firvTaps_one hk ha, hwrite, Bool.or_self, Bool.false_eq_true, if_false,
    Nat.zero_add, Nat.mul_one]
  exact still_of_alive (u := u.sramPut _ _) hal _

theorem exec_firv (hi : s.Issues m u) (h0 : ¬(gd = 0 ∨ gd = 31 ∨ ga = 0 ∨ gb = 0)) (hd : (u.rg m gd).toNat % 4 = 0)
    (ha : (u.rg m ga).toNat % 4 = 0) (hc0 : u.rg m gb ≠ 0) : exec (.firv m gd ga gb) s = ok (u.firvElem m gd ga gb) := by
  have hbad : misaligned [u.rg m gd, u.rg m ga] = [] := misaligned_eq_nil (by simp [hd, ha])
  refine (issue_of_issues hi _).trans ?_
  simp only [if_neg h0, hbad, if_neg hc0]
  rfl

end Filter

/-! ### What an element leaves -/

theorem sramByte_elemDone (s : State) (m : Mach) (up : List (BitVec 5)) (n : Nat) (gb : BitVec 5) (k b : Nat) :
    (s.elemDone m up n gb k).sramByte b = s.sramByte b := by
  rw [State.sramByte, State.sramByte, elemDone_sram]

theorem sramRead_elemDone (s : State) (m : Mach) (up : List (BitVec 5)) (n : Nat) (gb : BitVec 5) (k a l : Nat) :
    (s.elemDone m up n gb k).sramRead a l = s.sramRead a l :=
  congrArg (fun rd => leRead rd a l) (funext fun b => sramByte_elemDone s m up n gb k b)

theorem sramRead_lt (u : State) (a n : Nat) : u.sramRead a n < 256 ^ n := leRead_lt _ a n

theorem sramRead_sramPut {u : State} (hC : u.Canon) (a v n : Nat) : (u.sramPut a (leBytes v n)).sramRead a n = v % 256 ^ n :=
  sramRead_sramStore (s := { u with sramErr := _ }) (sramWf_of_canon hC) a v n

theorem sramByte_sramPut_in {u : State} (hC : u.Canon) (a v n k : Nat) (hk : k < n) :
    (u.sramPut a (leBytes v n)).sramByte (a + k) = .ofNat 8 (v / 256 ^ k) :=
  have hlen : k < (leBytes v n).length := by rwa [leBytes_length]
  (sramByte_sramStore_in { u with sramErr := _ } (sramWf_of_canon hC) a _ k hlen).trans (leBytes_getElem v n k hlen)

theorem ok_elemDone {u s : State} (hr : s.rst = u.rst) (hd : u.Settled) (m : Mach) (up : List (BitVec 5)) (n : Nat) (gb : BitVec 5) (k : Nat) :
    ok (s.elemDone m up n gb k) = .next (s.elemDone m up n gb k) := ok_of_rst (elemDone_rst.trans hr) hd

theorem elemSize_three (d a c : Word) :
    elemSize [d, a, c] = if d.toNat % 8 = 0 ∧ c.toNat % 8 = 0 ∧ a.toNat % 8 = 0 then 8 else 4 :=
  if_congr (by simp only [List.all_cons, List.all_nil, Bool.and_eq_true, beq_iff_eq, and_true]; tauto) rfl rfl

theorem elemSize_two (d c : Word) : elemSize [d, c] = if d.toNat % 8 = 0 ∧ c.toNat % 8 = 0 then 8 else 4 :=
  if_congr (by simp only [List.all_cons, List.all_nil, Bool.and_eq_true, beq_iff_eq, and_true]) rfl rfl

theorem inTwin_mono {u : State} {m : Mach} {a n k : Nat} (h : u.inTwin m a k = true) (hn : n ≤ k) : u.inTwin m a n = true := by
  simp only [State.inTwin, Bool.and_eq_true, decide_eq_true_eq] at h ⊢
  omega

section Elements
variable {s u : State} {m : Mach} {gd ga gb : BitVec 5}

theorem sramPut_rst (a : Nat) (bs : List Byte) : (u.sramPut a bs).rst = u.rst := rfl

/-- One element of BMOV. -/
theorem bmov_element (hi : s.Issues m u) (hC : u.Canon) (hgd : gd ≠ 0) (hga : ga ≠ 0) (hgb : gb ≠ 0) (hda : gd ≠ ga) (hdb : gd ≠ gb)
    (hab : ga ≠ gb) {n : Nat} (hn : n = elemSize [u.rg m gd, u.rg m ga, u.rg m gb]) (hc4 : (u.rg m gb).toNat % 4 = 0)
    (hc0 : (u.rg m gb).toNat ≠ 0) (hd4 : (u.rg m gd).toNat % 4 = 0) (ha4 : (u.rg m ga).toNat % 4 = 0)
    (hp : u.atStation m = true ∨ u.inTwin m (u.rg m gd).toNat 8 = true) (hd : u.SramReady (u.rg m gd).toNat 8)
    (hs : u.SramReady (u.rg m ga).toNat 8) (hw : ∀ k < 8, u.markOf (((u.rg m ga).toNat + k) / 8) = some .written) :
    ∃ t, exec (.bmov m gd ga gb) s = .next t ∧ t.sramRead (u.rg m gd).toNat n = u.sramRead (u.rg m ga).toNat n ∧
      (∀ b, b < (u.rg m gd).toNat ∨ (u.rg m gd).toNat + n ≤ b → t.sramByte b = u.sramByte b) ∧
      t.rg m gd = .ofNat ((u.rg m gd).toNat + n) ∧ t.rg m ga = .ofNat ((u.rg m ga).toNat + n) ∧
      t.rg m gb = .ofNat ((u.rg m gb).toNat - n) ∧
      (t.mach m).pc = (if (u.rg m gb).toNat = n then (u.mach m).pc + 4 else (u.mach m).pc) := by
  obtain ⟨hpos, h8⟩ := elemSize_le [u.rg m gd, u.rg m ga, u.rg m gb]
  have hle : n ≤ (u.rg m gb).toNat := hn ▸ elemSize_le_count (by simp) hc4 hc0
  rw [← hn] at hpos h8
  have hup : [gd, ga].Nodup := by simp [hda]
  have hnot : gb ∉ [gd, ga] := by simp [hdb.symm, hab.symm]
  have hexec := exec_bmov hi (by simp only [hgd, hga, hgb, or_self, not_false_eq_true]) hd4 ha4 hc4 (word_ne_zero hc0)
  rw [bmovElem_of_ready hn (alive_of_issues hi) (hp.imp_right fun h => inTwin_mono h h8) (sramReady_mono hd hpos h8 (by decide))
    (sramReady_mono hs hpos h8 (by decide)) (fun k hk => hw k (by omega)), ok_elemDone (sramPut_rst _ _) hi.settled] at hexec
  refine ⟨_, hexec, ?_, fun b hb => ?_, rg_elemDone_up hup (by simp) hgd hdb, rg_elemDone_up hup (by simp) hga hab,
    rg_elemDone_count hup hgb hnot hle, pc_elemDone hup hgb hnot hle⟩
  · rw [sramRead_elemDone, sramRead_sramPut hC, Nat.mod_eq_of_lt (sramRead_lt u _ _)]
  · rw [sramByte_elemDone, sramByte_sramPut_out _ _ _ _ (by rwa [leBytes_length])]

/-- One element of BFILL. -/
theorem bfill_element (hi : s.Issues m u) (hC : u.Canon) (hgd : gd ≠ 0) (hgb : gb ≠ 0) (hda : gd ≠ ga) (hdb : gd ≠ gb)
    (hab : ga ≠ gb) {n : Nat} (hn : n = elemSize [u.rg m gd, u.rg m gb]) (hc4 : (u.rg m gb).toNat % 4 = 0)
    (hc0 : (u.rg m gb).toNat ≠ 0) (hd4 : (u.rg m gd).toNat % 4 = 0)
    (hp : u.atStation m = true ∨ u.inTwin m (u.rg m gd).toNat 8 = true) (hd : u.SramReady (u.rg m gd).toNat 8) :
    ∃ t, exec (.bfill m gd ga gb) s = .next t ∧
      (∀ k < n, t.sramByte ((u.rg m gd).toNat + k) = .ofNat 8 ((u.rg m ga).toNat / 2 ^ (8 * (k % 4)))) ∧
      (∀ b, b < (u.rg m gd).toNat ∨ (u.rg m gd).toNat + n ≤ b → t.sramByte b = u.sramByte b) ∧
      t.rg m gd = .ofNat ((u.rg m gd).toNat + n) ∧ t.rg m ga = u.rg m ga ∧ t.rg m gb = .ofNat ((u.rg m gb).toNat - n) ∧
      (t.mach m).pc = (if (u.rg m gb).toNat = n then (u.mach m).pc + 4 else (u.mach m).pc) := by
  obtain ⟨hpos, h8⟩ := elemSize_le [u.rg m gd, u.rg m gb]
  have hle : n ≤ (u.rg m gb).toNat := hn ▸ elemSize_le_count (by simp) hc4 hc0
  rw [← hn] at hpos h8
  have hup : [gd].Nodup := List.nodup_singleton gd
  have hnot : gb ∉ [gd] := by simp [hdb.symm]
  have hexec := exec_bfill (ga := ga) hi (by simp only [hgd, hgb, or_self, not_false_eq_true]) hd4 hc4 (word_ne_zero hc0)
  rw [bfillElem_of_ready hn (alive_of_issues hi) (hp.imp_right fun h => inTwin_mono h h8) (sramReady_mono hd hpos h8 (by decide)),
    ok_elemDone (sramPut_rst _ _) hi.settled] at hexec
  refine ⟨_, hexec, fun k hk => ?_, fun b hb => ?_, rg_elemDone_up hup (by simp) hgd hdb, rg_elemDone_other hup (by simp [hda.symm]) hab,
    rg_elemDone_count hup hgb hnot hle, pc_elemDone hup hgb hnot hle⟩
  · rw [sramByte_elemDone, sramByte_sramPut_in hC _ _ _ _ hk, byte_twice _ _ (by omega)]
  · rw [sramByte_elemDone, sramByte_sramPut_out _ _ _ _ (by rwa [leBytes_length])]

/-- One element of BCRC. -/
theorem bcrc_element (hi : s.Issues m u) (p : BitVec 2) (hgd : gd ≠ 0) (hga : ga ≠ 0) (hgb : gb ≠ 0) (hda : gd ≠ ga) (hdb : gd ≠ gb)
    (hab : ga ≠ gb) {n : Nat} (hn : n = min 8 (u.rg m gb).toNat) (hc0 : (u.rg m gb).toNat ≠ 0) (hs : u.SramReady (u.rg m ga).toNat n)
    (hw : ∀ k < n, u.markOf (((u.rg m ga).toNat + k) / 8) = some .written) :
    ∃ t, exec (.bcrc m p gd ga gb) s = .next t ∧
      t.rg m gd = .ofNat (crcBytes (Poly.ofCode p.toNat) ((u.rg m gd).toNat % 2 ^ (Poly.ofCode p.toNat).width)
        (leBytes (u.sramRead (u.rg m ga).toNat n) n)) ∧
      t.rg m ga = .ofNat ((u.rg m ga).toNat + n) ∧ t.rg m gb = .ofNat ((u.rg m gb).toNat - n) ∧ t.sram = u.sram ∧
      (∀ k, t.rc' m k = u.rc' m k) ∧
      (t.mach m).pc = (if (u.rg m gb).toNat = n then (u.mach m).pc + 4 else (u.mach m).pc) := by
  have hup : [ga].Nodup := List.nodup_singleton ga
  have hnot : gb ∉ [ga] := by simp [hab.symm]
  have hrga (w : Word) : (u.wg m gd w).rg m ga = u.rg m ga := rg_wg_ne u m hda.symm w
  have hrgb (w : Word) : (u.wg m gd w).rg m gb = u.rg m gb := rg_wg_ne u m hdb.symm w
  have hle (w : Word) : n ≤ ((u.wg m gd w).rg m gb).toNat := by
    rw [hrgb]
    omega
  have hexec := exec_bcrc (gd := gd) (ga := ga) hi (by simp only [hgd, hga, hgb, or_self, not_false_eq_true]) (word_ne_zero hc0) p
  rw [bcrcElem_of_ready hn (by omega) (alive_of_issues hi) hs hw, ok_elemDone (wg_rst u m gd _) hi.settled] at hexec
  refine ⟨_, hexec, ?_, ?_, ?_, ?_, fun k => ?_, ?_⟩
  · rw [rg_elemDone_other hup (by simp [hda]) hdb, rg_wg_same, if_neg hgd]
  · rw [rg_elemDone_up hup (by simp) hga hab, hrga]
  · rw [rg_elemDone_count hup hgb hnot (hle _), hrgb]
  · rw [elemDone_sram, wg_sram]
  · rw [rc_elemDone, rc_wg]
  · rw [pc_elemDone hup hgb hnot (hle _), hrgb, pc_wg]

/-- One element of FIRV with one tap, whose coefficient stands at `k`. -/
theorem firv_element (hi : s.Issues m u) (hC : u.Canon) (hgd : gd ≠ 0) (hgd31 : gd ≠ 31) (hga : ga ≠ 0) (hgb : gb ≠ 0) (hda : gd ≠ ga)
    (hdb : gd ≠ gb) (hab : ga ≠ gb) (hc0 : u.rg m gb ≠ 0) (hd4 : (u.rg m gd).toNat % 4 = 0) (ha4 : (u.rg m ga).toNat % 4 = 0)
    {k : Nat} (hk : (u.rg m (gd + 1)).toNat = k) (hk64 : k % 64 = 0)
    (hp : u.atStation m = true ∨ u.inTwin m (u.rg m gd).toNat 4 = true) (hd : u.SramReady (u.rg m gd).toNat 4)
    (hcoef : u.WordReady k) (hs : u.WordReady (u.rg m ga).toNat) {x : Int}
    (hx : x = (Word.ofNat (u.sramRead k 4)).toInt * (Word.ofNat (u.sramRead (u.rg m ga).toNat 4)).toInt) :
    ∃ t, exec (.firv m gd ga gb) s = .next t ∧
      (Word.ofNat (t.sramRead (u.rg m gd).toNat 4)).toInt = min ((x + 2 ^ 30) / 2 ^ 31) (2 ^ 31 - 1) ∧
      (∀ b, b < (u.rg m gd).toNat ∨ (u.rg m gd).toNat + 4 ≤ b → t.sramByte b = u.sramByte b) ∧
      t.rg m gd = .ofNat ((u.rg m gd).toNat + 4) ∧ t.rg m ga = .ofNat ((u.rg m ga).toNat + 4) ∧ t.rg m gb = u.rg m gb - 1 ∧
      (t.mach m).pc = (if u.rg m gb = 1 then (u.mach m).pc + 4 else (u.mach m).pc) := by
  have hup : [gd, ga].Nodup := by simp [hda]
  have hnot : gb ∉ [gd, ga] := by simp [hdb.symm, hab.symm]
  have hle : 1 ≤ (u.rg m gb).toNat := Nat.one_le_iff_ne_zero.2 fun h => hc0 (BitVec.eq_of_toNat_eq h)
  have hexec := exec_firv hi (by simp only [hgd, hgd31, hga, hgb, or_self, not_false_eq_true]) hd4 ha4 hc0
  rw [firvElem_of_ready hk hk64 (alive_of_issues hi) hp hd hcoef hs, ← hx, ok_elemDone (sramPut_rst _ _) hi.settled] at hexec
  have hcount : u.rg m gb - 1 = .ofNat ((u.rg m gb).toNat - 1) := word_sub_ofNat hle
  have hlast : u.rg m gb = 1 ↔ (u.rg m gb).toNat = 1 := BitVec.toNat_inj.symm
  rw [hcount]
  simp only [hlast]
  refine ⟨_, hexec, ?_, fun b hb => ?_, rg_elemDone_up hup (by simp) hgd hdb, rg_elemDone_up hup (by simp) hga hab,
    rg_elemDone_count hup hgb hnot hle, pc_elemDone hup hgb hnot hle⟩
  · have hlt : (firvRound x).toNat < 256 ^ 4 := (firvRound x).isLt
    have hword : Word.ofNat ((firvRound x).toNat % 256 ^ 4) = firvRound x := by rw [Nat.mod_eq_of_lt hlt, word_ofNat_toNat]
    rw [sramRead_elemDone, sramRead_sramPut hC, hword, toInt_firvRound (hx ▸ mul_bounds _ _)]
  · rw [sramByte_elemDone, sramByte_sramPut_out _ _ _ _ (by rwa [leBytes_length])]

end Elements

/-! ### The obligation -/

/-- Settles O13: with operands that are ready an element is its read, its write, and the registers that advance. -/
theorem longInstructions : Obligations.LongInstructions := by
  unfold Obligations.LongInstructions
  refine ⟨fun s u m gd ga gb hi hC hgd hga hgb hda hdb hab => ?_, fun s u m p gd ga gb hi => ?_,
    fun s u m gd ga gb hi hC hgd hgd31 hga hgb hda hdb hab => ?_⟩
  · intro d a c hc4 hc0 hd4 hp hd
    refine ⟨?_, ?_⟩
    · intro n ha4 hs hw
      exact bmov_element hi hC hgd hga hgb hda hdb hab (elemSize_three _ _ _).symm hc4 hc0 hd4 ha4 hp hd hs hw
    · exact bfill_element hi hC hgd hgb hda hdb hab (elemSize_two _ _).symm hc4 hc0 hd4 hp hd
  · intro q v a c n
    refine ⟨fun hgd hga hgb hda hdb hab hc0 _ hs hw => ?_, fun hga h2 => ?_⟩
    · exact bcrc_element hi p hgd hga hgb hda hdb hab rfl hc0 hs hw
    · have hexec := exec_crcf (gd := gd) (gb := gb) hi (pairOk_of_even hga h2) p
      rw [foldBytes_eq] at hexec
      exact ⟨_, hexec, regResult_setRetire u m gd _⟩
  · intro d a k x hc0 hd4 ha4 hk64 hd hs hcoef hws hwk hp
    have hk4 : k % 4 = 0 := by omega
    exact firv_element hi hC hgd hgd31 hga hgb hda hdb hab hc0 hd4 ha4 rfl hk64 hp hd (wordReady_of_aligned hk4 hcoef hwk)
      (wordReady_of_aligned ha4 hs hws) rfl

end Sys2Proof.Machine
end

section
/-! PROOF. Strong reactions of the signal box (O26). -/

namespace Sys2Proof.Machine

/-! ### NMIs arrive (R122, R487) -/

/-- A machine at which an NMI arrives. -/
def MachState.takesNmi (x : MachState) (now src : Nat) : MachState :=
  match x.nmi with
  | none => { x with nmi := some src, nmiAt := now }
  | some k => { x with nmi := some (if x.nmiAt = now then max k src else k) }

theorem nmi_takesNmi (x : MachState) (now src : Nat) : (x.takesNmi now src).nmi =
    some (match x.nmi with
      | none => src
      | some j => if x.nmiAt = now then max j src else j) := by
  unfold MachState.takesNmi
  split <;> rfl

theorem nmiTo_eq (s : State) (src : Nat) (m : Mach) : s.nmiTo src m = s.modMach m fun x => x.takesNmi s.now src := rfl

theorem mach_each_nmiTo {src : Nat} {l : List Mach} (hl : l.Nodup) (s : State) (m : Mach) :
    (State.each (fun k s => s.nmiTo src k) l s).mach m = if m ∈ l then (s.mach m).takesNmi s.now src else s.mach m := by
  induction l generalizing s with
  | nil => rfl
  | cons k r ih =>
    obtain ⟨hk, hr⟩ := List.nodup_cons.1 hl
    rw [State.each, ih hr, nmiTo_eq, modMach_now]
    by_cases hm : m = k
    · subst hm
      simp [hk]
    · simp [hm, mach_modMach_ne s hm]

theorem mem_machsOf (s : State) (t : Triad) (m : Mach) : m ∈ s.machsOf t ↔ m.triad = t ∧ s.machExists m = true := by
  have hcore : m.core = 0 ∨ m.core = 1 := by cases m <;> decide
  unfold State.machsOf State.machExists
  cases hs : s.split t <;> cases m <;> cases t <;> simp_all [Triad.mach, Mach.triad, Mach.core]

theorem nodup_machsOf (s : State) (t : Triad) : (s.machsOf t).Nodup := by
  unfold State.machsOf
  split <;> cases t <;> decide

/-- NMIs change the machines only. -/
theorem nmiToTriad_frame {β : Type} (p : State → β) (h : ∀ s m f, p (State.modMach s m f) = p s) (s : State) (src : Nat) (t : Triad) :
    p (s.nmiToTriad src t) = p s := each_frame p (fun _ _ => h _ _ _) _ s

theorem machExists_of_regs {s t : State} (h : t.regs = s.regs) (m : Mach) : t.machExists m = s.machExists m := by
  have hsplit (k : Triad) : t.split k = s.split k := by cases k <;> exact isF_of_regs h _
  rw [State.machExists, State.machExists, hsplit]

theorem mach_each_nmiToTriad {src : Nat} {l : List Triad} (hl : l.Nodup) (s : State) (m : Mach) :
    (State.each (fun t s => s.nmiToTriad src t) l s).mach m =
      if m.triad ∈ l ∧ s.machExists m = true then (s.mach m).takesNmi s.now src else s.mach m := by
  induction l generalizing s with
  | nil => simp [State.each]
  | cons t r ih =>
    obtain ⟨ht, hr⟩ := List.nodup_cons.1 hl
    have hnow : (s.nmiToTriad src t).now = s.now := nmiToTriad_frame State.now modMach_now s src t
    have hexists := machExists_of_regs (nmiToTriad_frame State.regs modMach_regs s src t) m
    have hmach : (s.nmiToTriad src t).mach m = if m ∈ s.machsOf t then (s.mach m).takesNmi s.now src else s.mach m :=
      mach_each_nmiTo (nodup_machsOf s t) s m
    rw [State.each, ih hr, hnow, hexists, hmach]
    simp only [mem_machsOf, List.mem_cons]
    by_cases hm : m.triad = t
    · subst hm
      simp [ht]
    · simp [hm]

/-- The triads that a block's source goes to. -/
theorem mem_sbRoute (s : State) {k : Nat} (hk : 10 ≤ k) (t : Triad) : t ∈ s.sbRoute k .block ↔
    s.isF (if t = .a then Fd.SB_CFG_ROUTE_A k else Fd.SB_CFG_ROUTE_B k) = true
      ∨ (s.isF (Fd.SB_CFG_ROUTE_A k) = false ∧ s.isF (Fd.SB_CFG_ROUTE_B k) = false) := by
  have h9 : ¬ k ≤ 9 := by omega
  unfold State.sbRoute
  rw [if_neg h9]
  cases ha : s.isF (Fd.SB_CFG_ROUTE_A k) <;> cases hb : s.isF (Fd.SB_CFG_ROUTE_B k) <;> cases t <;> simp [ha, hb]

theorem nodup_sbRoute (s : State) {k : Nat} (hk : 10 ≤ k) : (s.sbRoute k .block).Nodup := by
  have h9 : ¬ k ≤ 9 := by omega
  unfold State.sbRoute
  rw [if_neg h9]
  cases s.isF (Fd.SB_CFG_ROUTE_A k) <;> cases s.isF (Fd.SB_CFG_ROUTE_B k) <;> decide

/-! ### FAULT is entered or kept (R486, R489, R498) -/

/-- FAULT is entered: the registers of the first source. -/
def State.firstFault (s : State) (src : Nat) (by_ : RaisedBy) : State :=
  (((s.onF Fd.SB_STAT_STATE).incF Fd.SB_CNT_FAULT_ENTRIES).setF Fd.SB_FIRST_SOURCE src).setF Fd.SB_FIRST_SW (b2n by_.bySw)

/-- FAULT with its first source, before LAST and the quiet timer. -/
def State.inFault (s : State) (src : Nat) (by_ : RaisedBy) : State :=
  if s.isF Fd.SB_STAT_STATE then
    if s.getF Fd.SB_FIRST_SOURCE = src then s else s.onF Fd.SB_COVER_SECOND
  else { s.firstFault src by_ with sb := { s.sb with errSince := false, firstTime := s.tt.clk } }

/-- LAST holds the source, of those at one time the highest-numbered. -/
def State.showLast (s : State) (src : Nat) : State :=
  s.setF Fd.SB_STAT_LAST (if s.sb.lastAt = s.now then max (s.getF Fd.SB_STAT_LAST) src else src)

theorem strongRaise_eq (s : State) (src : Nat) (by_ : RaisedBy) (e : Bool) : s.strongRaise src by_ e =
    { (s.inFault src by_).showLast src with
      sb := { (s.inFault src by_).sb with
        quietEnd := (s.inFault src by_).now + ((s.inFault src by_).showLast src).quietNs
        errSince := (s.inFault src by_).sb.errSince || e
        lastAt := (s.inFault src by_).now } } := rfl

theorem regs_strongRaise (s : State) (src : Nat) (by_ : RaisedBy) (e : Bool) :
    (s.strongRaise src by_ e).regs = ((s.inFault src by_).showLast src).regs := rfl

/-- The registers that a strong raise writes. -/
def strongRegs : List Rg := [Rg.SB_STAT, Rg.SB_COVER, Rg.SB_CNT, Rg.SB_FIRST]

theorem inFault_frame {β : Type} {p : State → β} (h : Skips p strongRegs) (hsb : ∀ (s : State) x, p { s with sb := x } = p s) (s : State)
    (src : Nat) (by_ : RaisedBy) : p (s.inFault src by_) = p s := by
  have hset (s : State) (f : Fd) (hf : f.reg ∈ strongRegs) (v : Nat) : p (s.setF f v) = p s := h s _ hf _
  unfold State.inFault
  split
  · split
    · rfl
    · exact hset s Fd.SB_COVER_SECOND (by decide) 1
  · rw [hsb, State.firstFault, hset _ Fd.SB_FIRST_SW (by decide), hset _ Fd.SB_FIRST_SOURCE (by decide), State.incF, State.addF,
      hset _ Fd.SB_CNT_FAULT_ENTRIES (by decide), State.onF, hset _ Fd.SB_STAT_STATE (by decide)]

theorem strongRaise_frame {β : Type} {p : State → β} (h : Skips p strongRegs) (hsb : ∀ (s : State) x, p { s with sb := x } = p s)
    (s : State) (src : Nat) (by_ : RaisedBy) (e : Bool) : p (s.strongRaise src by_ e) = p s := by
  rw [strongRaise_eq, hsb, State.showLast, State.setF, h _ _ (by decide), inFault_frame h hsb]

theorem getR_inFault {r : Rg} (hr : ∀ q ∈ strongRegs, r.addr ≠ q.addr) (s : State) (src : Nat) (by_ : RaisedBy) :
    (s.inFault src by_).getR r = s.getR r :=
  inFault_frame (p := fun s => s.getR r) (skips_getR hr) (fun _ _ => rfl) s src by_

theorem getR_strongRaise {r : Rg} (hr : ∀ q ∈ strongRegs, r.addr ≠ q.addr) (s : State) (src : Nat) (by_ : RaisedBy) (e : Bool) :
    (s.strongRaise src by_ e).getR r = s.getR r :=
  strongRaise_frame (p := fun s => s.getR r) (skips_getR hr) (fun _ _ => rfl) s src by_ e

section Fault
variable (s : State) (k : Nat) (by_ : RaisedBy) (e : Bool)

theorem now_inFault : (s.inFault k by_).now = s.now := inFault_frame (p := State.now) (fun _ _ _ _ => rfl) (fun _ _ => rfl) s k by_
theorem now_strongRaise : (s.strongRaise k by_ e).now = s.now := strongRaise_frame (p := State.now) (fun _ _ _ _ => rfl) (fun _ _ => rfl) s k by_ e
theorem rst_strongRaise : (s.strongRaise k by_ e).rst = s.rst := strongRaise_frame (p := State.rst) (fun _ _ _ _ => rfl) (fun _ _ => rfl) s k by_ e
theorem phase_strongRaise : (s.strongRaise k by_ e).phase = s.phase :=
  strongRaise_frame (p := State.phase) (fun _ _ _ _ => rfl) (fun _ _ => rfl) s k by_ e
theorem machs_strongRaise : (s.strongRaise k by_ e).machs = s.machs :=
  strongRaise_frame (p := State.machs) (fun _ _ _ _ => rfl) (fun _ _ => rfl) s k by_ e

theorem lastAt_inFault : (s.inFault k by_).sb.lastAt = s.sb.lastAt := by
  unfold State.inFault
  split
  · split <;> rfl
  · rfl

/-! #### The registers of the first source -/

theorem isF_firstFault_state : (s.firstFault k by_).isF Fd.SB_STAT_STATE = true := by
  rw [State.firstFault, isF_setF_reg _ (by decide), isF_setF_reg _ (by decide), State.incF, State.addF, isF_setF_reg _ (by decide)]
  exact isF_onF_same s _ (by decide) (by decide)

theorem getF_firstFault_last : (s.firstFault k by_).getF Fd.SB_STAT_LAST = s.getF Fd.SB_STAT_LAST := by
  rw [State.firstFault, getF_setF_reg _ (by decide), getF_setF_reg _ (by decide), State.incF, State.addF, getF_setF_reg _ (by decide), State.onF,
    getF_setF_field _ (f := Fd.SB_STAT_STATE) (g := Fd.SB_STAT_LAST) rfl (by decide)]

theorem getF_firstFault_first (hk : k < 128) : (s.firstFault k by_).getF Fd.SB_FIRST_SOURCE = k := by
  rw [State.firstFault, getF_setF_field _ (f := Fd.SB_FIRST_SW) (g := Fd.SB_FIRST_SOURCE) rfl (by decide),
    getF_setF_same _ Fd.SB_FIRST_SOURCE (by decide)]
  exact Nat.mod_eq_of_lt hk

/-! #### FAULT -/

theorem isF_inFault_state : (s.inFault k by_).isF Fd.SB_STAT_STATE = true := by
  unfold State.inFault
  split
  · rename_i h
    split
    · exact h
    · rw [State.onF, isF_setF_reg _ (by decide), h]
  · exact isF_firstFault_state s k by_

theorem getF_inFault_last : (s.inFault k by_).getF Fd.SB_STAT_LAST = s.getF Fd.SB_STAT_LAST := by
  unfold State.inFault
  split
  · split
    · rfl
    · rw [State.onF, getF_setF_reg _ (by decide)]
  · exact getF_firstFault_last s k by_

theorem getF_inFault_first (hk : k < 128) : (s.inFault k by_).getF Fd.SB_FIRST_SOURCE =
    if s.isF Fd.SB_STAT_STATE = true then s.getF Fd.SB_FIRST_SOURCE else k := by
  unfold State.inFault
  split
  · split
    · rfl
    · rw [State.onF, getF_setF_reg _ (by decide)]
  · exact getF_firstFault_first s k by_ hk

theorem isF_inFault_second (hs : s.isF Fd.SB_STAT_STATE = true) (hf : s.getF Fd.SB_FIRST_SOURCE ≠ k) :
    (s.inFault k by_).isF Fd.SB_COVER_SECOND = true := by
  rw [State.inFault, if_pos hs, if_neg hf]
  exact isF_onF_same s _ (by decide) (by decide)

theorem quietNs_eq : s.quietNs = max 1 (s.getF Fd.SB_QUIET_QUIET) * 1000000 := by
  unfold State.quietNs
  dsimp only
  split <;> congr 1 <;> omega

/-! #### The strong raise -/

theorem getF_showLast (hk : k < 128) : (s.showLast k).getF Fd.SB_STAT_LAST =
    if s.sb.lastAt = s.now then max (s.getF Fd.SB_STAT_LAST) k else k := by
  have hlast : s.getF Fd.SB_STAT_LAST < 128 := getF_lt s Fd.SB_STAT_LAST
  rw [State.showLast, getF_setF_same _ Fd.SB_STAT_LAST (by decide)]
  refine Nat.mod_eq_of_lt (show _ < 128 from ?_)
  split <;> omega

theorem getF_strongRaise_last (hk : k < 128) : (s.strongRaise k by_ e).getF Fd.SB_STAT_LAST =
    if s.sb.lastAt = s.now then max (s.getF Fd.SB_STAT_LAST) k else k := by
  rw [getF_of_regs (regs_strongRaise s k by_ e), getF_showLast _ _ hk, lastAt_inFault, now_inFault, getF_inFault_last]

theorem isF_strongRaise_state : (s.strongRaise k by_ e).isF Fd.SB_STAT_STATE = true := by
  rw [isF_of_regs (regs_strongRaise s k by_ e), State.showLast,
    isF_setF_field _ (f := Fd.SB_STAT_LAST) (g := Fd.SB_STAT_STATE) rfl (by decide), isF_inFault_state]

theorem getF_strongRaise_first (hk : k < 128) : (s.strongRaise k by_ e).getF Fd.SB_FIRST_SOURCE =
    if s.isF Fd.SB_STAT_STATE = true then s.getF Fd.SB_FIRST_SOURCE else k := by
  rw [getF_of_regs (regs_strongRaise s k by_ e), State.showLast, getF_setF_reg _ (by decide), getF_inFault_first _ _ _ hk]

theorem isF_strongRaise_second (hs : s.isF Fd.SB_STAT_STATE = true) (hf : s.getF Fd.SB_FIRST_SOURCE ≠ k) :
    (s.strongRaise k by_ e).isF Fd.SB_COVER_SECOND = true := by
  rw [isF_of_regs (regs_strongRaise s k by_ e), State.showLast, isF_setF_reg _ (by decide), isF_inFault_second _ _ _ hs hf]

theorem quietEnd_strongRaise : (s.strongRaise k by_ e).sb.quietEnd = s.now + max 1 (s.getF Fd.SB_QUIET_QUIET) * 1000000 := by
  have hquiet : (s.inFault k by_).getF Fd.SB_QUIET_QUIET = s.getF Fd.SB_QUIET_QUIET := getF_of_getR (getR_inFault (by decide) s k by_)
  show (s.inFault k by_).now + ((s.inFault k by_).showLast k).quietNs = _
  rw [now_inFault, quietNs_eq, State.showLast, getF_setF_reg _ (by decide), hquiet]

end Fault

/-! ### The reaction (R485 to R487) -/

/-- The state of the box after a strong raise of a block's source, before the NMIs arrive. -/
def State.strong (s : State) (k : Nat) : State :=
  (s.sticky k).strongRaise k .block (s.getF (Fd.SB_CFG_REACTION k) == 4 || s.getF (Fd.SB_CFG_REACTION k) == 5)

/-- The NMIs of a source go to its triads. -/
def State.nmiRouted (s : State) (k : Nat) : State := State.each (fun t s => s.nmiToTriad k t) (s.sbRoute k .block) s

theorem nmiRouted_frame {β : Type} (p : State → β) (h : ∀ s m f, p (State.modMach s m f) = p s) (s : State) (k : Nat) :
    p (s.nmiRouted k) = p s := each_frame p (fun t s => nmiToTriad_frame p h s k t) _ s

theorem regs_nmiRouted (s : State) (k : Nat) : (s.nmiRouted k).regs = s.regs := nmiRouted_frame State.regs modMach_regs s k

section Strong
variable {s : State} {k : Nat}

theorem getR_strong {r : Rg} (hr : ∀ q ∈ strongRegs, r.addr ≠ q.addr) (hs : r.addr ≠ 0x40010040 + 0x4 * (k / 32)) :
    (s.strong k).getR r = s.getR r := by
  rw [State.strong, getR_strongRaise hr, getR_sticky_ne s hs]

theorem sbCfg_ne_strongRegs (k : Nat) : ∀ q ∈ strongRegs, (Rg.SB_CFG k).addr ≠ q.addr := by
  intro q hq
  have hlow : q.addr < 0x40010100 := (by decide : ∀ q ∈ strongRegs, q.addr < 0x40010100) q hq
  show 0x40010100 + 0x4 * k ≠ q.addr
  omega

theorem getR_strong_cfg (hk : k < 128) : (s.strong k).getR (Rg.SB_CFG k) = s.getR (Rg.SB_CFG k) :=
  getR_strong (sbCfg_ne_strongRegs k) (sbCfg_ne_sticky k k hk)

/-- The reaction to a raise by a block, with reaction NMI or NMI_ERR. -/
theorem raise_of_nmi (hk : k < 128) (hp : s.phase = .running) (hres : reservedSource k = false)
    (hr : s.getF (Fd.SB_CFG_REACTION k) = 2 ∨ s.getF (Fd.SB_CFG_REACTION k) = 4) (hroll : s.isF (Fd.SB_CFG_ROLL k) = false) :
    s.raise k = (s.strong k).nmiRouted k := by
  have hreact : (s.sticky k).getF (Fd.SB_CFG_REACTION k) = s.getF (Fd.SB_CFG_REACTION k) :=
    getF_sticky_ne (f := Fd.SB_CFG_REACTION k) s (sbCfg_ne_sticky k k hk)
  have hcore : (s.sticky k).reactCore k .block = (s.strong k).nmiRouted k := by
    have hweak : ¬ s.getF (Fd.SB_CFG_REACTION k) < 2 := by omega
    unfold State.reactCore
    simp only [hres, sticky_phase, hp, bne_self_eq_false, Bool.or_self, Bool.false_eq_true, if_false, hreact, if_neg hweak, if_pos hr]
    rfl
  have hcfg : ((s.strong k).nmiRouted k).getR (Rg.SB_CFG k) = s.getR (Rg.SB_CFG k) :=
    (getR_of_regs (regs_nmiRouted _ k) _).trans (getR_strong_cfg hk)
  have hroll' : ((s.strong k).nmiRouted k).isF (Fd.SB_CFG_ROLL k) = false := (isF_of_getR (f := Fd.SB_CFG_ROLL k) hcfg).trans hroll
  have h5 : (((s.strong k).nmiRouted k).getF (Fd.SB_CFG_REACTION k) == 5) = false := by
    rw [getF_of_getR (f := Fd.SB_CFG_REACTION k) hcfg, beq_eq_false_iff_ne]
    omega
  show State.react (s.sticky k) k .block = _
  unfold State.react
  simp [hcore, hroll', h5]

/-- What such a raise leaves at a machine. -/
theorem nmi_raised (hk : k < 128) (h10 : 10 ≤ k) (m : Mach) (hm : s.machExists m = true) :
    (((s.strong k).nmiRouted k).mach m).nmi =
      if s.isF (if m.triad = .a then Fd.SB_CFG_ROUTE_A k else Fd.SB_CFG_ROUTE_B k) = true
          ∨ (s.isF (Fd.SB_CFG_ROUTE_A k) = false ∧ s.isF (Fd.SB_CFG_ROUTE_B k) = false)
        then ((s.mach m).takesNmi s.now k).nmi else (s.mach m).nmi := by
  have hcfg := getR_strong_cfg (s := s) hk
  have hstrap : (s.strong k).getR Rg.STRAP = s.getR Rg.STRAP := getR_strong (by decide) (by show 0x40000004 ≠ _; omega)
  have hexists : (s.strong k).machExists m = true := by rw [State.machExists, split_of_getR hstrap, ← hm, State.machExists]
  have hmach : (s.strong k).mach m = s.mach m := mach_of_machs (machs_strongRaise (s.sticky k) k .block _) m
  have hnow : (s.strong k).now = s.now := now_strongRaise (s.sticky k) k .block _
  have hroute := mem_sbRoute (s.strong k) h10 m.triad
  have hab : (s.strong k).isF (if m.triad = .a then Fd.SB_CFG_ROUTE_A k else Fd.SB_CFG_ROUTE_B k) =
      s.isF (if m.triad = .a then Fd.SB_CFG_ROUTE_A k else Fd.SB_CFG_ROUTE_B k) := isF_of_getR (by split <;> exact hcfg)
  rw [hab, isF_of_getR (f := Fd.SB_CFG_ROUTE_A k) hcfg, isF_of_getR (f := Fd.SB_CFG_ROUTE_B k) hcfg] at hroute
  rw [State.nmiRouted, mach_each_nmiToTriad (nodup_sbRoute _ h10), hmach, hnow]
  simp only [hroute, hexists, and_true]
  rw [apply_ite MachState.nmi]

end Strong

/-! ### A good pulse re-arms its pair (R483) -/

/-- The pair of a source, not broken. -/
def State.rearmed (s : State) (k : Nat) : State := s.clrBitF (Fd.SB_WIRE_BITS (k / 32)) (k % 32)

theorem rearmed_frame {β : Type} {p : State → β} (s : State) (k : Nat) (h : ∀ w, p (s.setR (Rg.SB_WIRE (k / 32)) w) = p s) :
    p (s.rearmed k) = p s := by
  unfold State.rearmed State.clrBitF
  split
  · exact h _
  · rfl

section Rearmed
variable (s : State) (k : Nat)

theorem getR_rearmed {r : Rg} (hr : r.addr ≠ (Rg.SB_WIRE (k / 32)).addr) : (s.rearmed k).getR r = s.getR r :=
  rearmed_frame (p := fun s => s.getR r) s k fun w => getR_setR_ne s hr w

theorem machs_rearmed : (s.rearmed k).machs = s.machs := rearmed_frame (p := State.machs) s k fun _ => rfl
theorem now_rearmed : (s.rearmed k).now = s.now := rearmed_frame (p := State.now) s k fun _ => rfl
theorem sb_rearmed : (s.rearmed k).sb = s.sb := rearmed_frame (p := State.sb) s k fun _ => rfl
theorem rst_rearmed : (s.rearmed k).rst = s.rst := rearmed_frame (p := State.rst) s k fun _ => rfl
theorem phase_rearmed : (s.rearmed k).phase = s.phase := rearmed_frame (p := State.phase) s k fun _ => rfl

end Rearmed

theorem sbCfg_ne_wire {k : Nat} (hk : k < 128) : (Rg.SB_CFG k).addr ≠ (Rg.SB_WIRE (k / 32)).addr := by
  show 0x40010100 + 0x4 * k ≠ 0x40010060 + 0x4 * (k / 32)
  omega

/-- A register of the box or a strap, apart from the wires and the sticky bits. -/
theorem addr_ne_wire {r : Rg} {k : Nat} (hk : k < 128) (h : r.addr < 0x40010060 ∨ 0x40010070 ≤ r.addr) : r.addr ≠ (Rg.SB_WIRE (k / 32)).addr := by
  show r.addr ≠ 0x40010060 + 0x4 * (k / 32)
  omega

theorem addr_ne_sticky {r : Rg} {k : Nat} (hk : k < 128) (h : r.addr < 0x40010040 ∨ 0x40010050 ≤ r.addr) :
    r.addr ≠ 0x40010040 + 0x4 * (k / 32) := by omega

/-- SOURCE_RAISE of a block's source, which is neither reserved nor of the vote. -/
theorem exec_sourceRaise {s : State} (src : Fin 128) (t : Triad) (hp : s.phase = .running) (h10 : 10 ≤ src.val)
    (hres : reservedSource src.val = false) (h127 : src.val ≠ 127) :
    exec (.sourceRaise src t) s = ok ((s.rearmed src.val).raise src.val) := by
  have hvote : voteSource src.val = false := by
    unfold voteSource
    simp
    omega
  have hblock : wireBy src.val t = .block := if_neg (by omega)
  show execSourceRaise src t s = _
  unfold execSourceRaise
  rw [if_neg (by simp [hres, h127, hp, hvote]), hblock, State.rearmed]

theorem reservedSource_of_range {k : Nat} (h : ¬(11 ≤ k ∧ k ≤ 15)) (h31 : k ≠ 31) : reservedSource k = false := by
  unfold reservedSource
  simp
  omega

/-! ### The obligation -/

/-- Settles O26: the raise is the sticky bit, FAULT with its record, and the NMIs of the routed triads. -/
theorem strongReactions : Obligations.StrongReactions := by
  unfold Obligations.StrongReactions
  intro s src t hp hd k h10 hrange h31 h127 hreact hroll
  have hk : k < 128 := src.isLt
  have hres : reservedSource k = false := reservedSource_of_range hrange h31
  have hcfg : (s.rearmed k).getR (Rg.SB_CFG k) = s.getR (Rg.SB_CFG k) := getR_rearmed s k (sbCfg_ne_wire hk)
  have hraise : (s.rearmed k).raise k = ((s.rearmed k).strong k).nmiRouted k :=
    raise_of_nmi hk ((phase_rearmed s k).trans hp) hres (by rwa [getF_of_getR (f := Fd.SB_CFG_REACTION k) hcfg])
      (by rwa [isF_of_getR (f := Fd.SB_CFG_ROLL k) hcfg])
  have hexec : exec (.sourceRaise src t) s = .next (((s.rearmed k).strong k).nmiRouted k) := by
    have hrst : (((s.rearmed k).strong k).nmiRouted k).rst = s.rst := by
      rw [nmiRouted_frame State.rst modMach_rst, State.strong, rst_strongRaise, sticky_rst, rst_rearmed]
    rw [exec_sourceRaise src t hp h10 hres h127, hraise, ok_of_due (by rw [hrst]; exact hd)]
  have hbox {r : Rg} (hlow : r.addr < 0x40010040 ∨ 0x40010070 ≤ r.addr) : ((s.rearmed k).sticky k).getR r = s.getR r := by
    rw [getR_sticky_ne _ (addr_ne_sticky hk (by omega)), getR_rearmed s k (addr_ne_wire hk (by omega))]
  have hregs := regs_nmiRouted ((s.rearmed k).strong k) k
  have hsb : (((s.rearmed k).strong k).nmiRouted k).sb = ((s.rearmed k).strong k).sb := nmiRouted_frame State.sb (fun _ _ _ => rfl) _ k
  have hstate : ((s.rearmed k).sticky k).isF Fd.SB_STAT_STATE = s.isF Fd.SB_STAT_STATE := isF_of_getR (hbox (by decide))
  have hfirst : ((s.rearmed k).sticky k).getF Fd.SB_FIRST_SOURCE = s.getF Fd.SB_FIRST_SOURCE := getF_of_getR (hbox (by decide))
  have hlast : ((s.rearmed k).sticky k).getF Fd.SB_STAT_LAST = s.getF Fd.SB_STAT_LAST := getF_of_getR (hbox (by decide))
  have hquiet : ((s.rearmed k).sticky k).getF Fd.SB_QUIET_QUIET = s.getF Fd.SB_QUIET_QUIET := getF_of_getR (hbox (by decide))
  have hnow : ((s.rearmed k).sticky k).now = s.now := now_rearmed s k
  have hlastAt : ((s.rearmed k).sticky k).sb.lastAt = s.sb.lastAt := congrArg (fun b => b.lastAt) (sb_rearmed s k)
  refine ⟨_, hexec, ?_, ?_, ?_, ?_, ?_, ?_, ?_⟩
  · have hne : ∀ q ∈ strongRegs, (Rg.SB_STICKY (k / 32)).addr ≠ q.addr := fun q hq => by
      have hfar : q.addr < 0x40010040 ∨ 0x40010050 ≤ q.addr :=
        (by decide : ∀ q ∈ strongRegs, q.addr < 0x40010040 ∨ 0x40010050 ≤ q.addr) q hq
      exact (addr_ne_sticky hk hfar).symm
    rw [State.bitF, getF_of_regs hregs, State.strong, getF_of_getR (f := Fd.SB_STICKY_BITS (k / 32)) (getR_strongRaise hne _ k .block _)]
    exact bitF_sticky _ k
  · rw [isF_of_regs hregs, State.strong, isF_strongRaise_state]
  · rw [getF_of_regs hregs, State.strong, getF_strongRaise_last _ _ _ _ hk, hlast, hnow, hlastAt]
  · rw [hsb, State.strong, quietEnd_strongRaise, hquiet, hnow]
  · rw [getF_of_regs hregs, State.strong, getF_strongRaise_first _ _ _ _ hk, hstate, hfirst]
  · intro hs hf
    rw [isF_of_regs hregs, State.strong, isF_strongRaise_second _ _ _ _ (hstate.trans hs) (hfirst ▸ hf)]
  · intro m hm
    have hstrap : (s.rearmed k).getR Rg.STRAP = s.getR Rg.STRAP := getR_rearmed s k (addr_ne_wire hk (by decide))
    have hexists : (s.rearmed k).machExists m = true := by rw [State.machExists, split_of_getR hstrap, ← State.machExists, hm]
    have hroute : (s.rearmed k).isF (if m.triad = .a then Fd.SB_CFG_ROUTE_A k else Fd.SB_CFG_ROUTE_B k) =
        s.isF (if m.triad = .a then Fd.SB_CFG_ROUTE_A k else Fd.SB_CFG_ROUTE_B k) := isF_of_getR (by split <;> exact hcfg)
    have hmach : (s.rearmed k).mach m = s.mach m := mach_of_machs (machs_rearmed s k) m
    rw [nmi_raised hk h10 m hexists, hroute, isF_of_getR (f := Fd.SB_CFG_ROUTE_A k) hcfg, isF_of_getR (f := Fd.SB_CFG_ROUTE_B k) hcfg, hmach,
      now_rearmed]
    exact if_congr Iff.rfl (nmi_takesNmi _ _ _) rfl

end Sys2Proof.Machine
end

section
/-! SUPPORT. A SAFETY frame of the node leaves at once where nothing goes before it (R376, R408), and what sending leaves unchanged. -/

namespace Sys2Proof.Machine

section Send
variable {s : State} {p : Port} {f : Frame}

/-- Sending writes registers and ports only. -/
theorem transmit_frame {β : Type} (g : State → β) (hr : ∀ (s : State) r w, g (s.setR r w) = g s) (ho : ∀ (s : State) x, g { s with ov := x } = g s)
    (s : State) (p : Port) (f : Frame) : g (s.transmit p f) = g s := by
  have hport (s : State) (x : PortH) : g (s.setPort p x) = g s := by cases p <;> exact ho s _
  exact (hr _ _ _).trans ((hr _ _ _).trans (hport s _))

theorem drainHeld_frame {β : Type} (g : State → β) (hr : ∀ (s : State) r w, g (s.setR r w) = g s) (ho : ∀ (s : State) x, g { s with ov := x } = g s)
    (p : Port) (n : Nat) (s : State) : g (State.drainHeld p n s) = g s := by
  have hport (s : State) (x : PortH) : g (s.setPort p x) = g s := by cases p <;> exact ho s _
  induction n generalizing s with
  | zero => rfl
  | succ n ih =>
    unfold State.drainHeld
    split
    · split
      · exact hport s _
      · rfl
    · split
      · rfl
      · rw [ih, transmit_frame g hr ho]
        exact hport s _

theorem queueAt_frame {β : Type} (g : State → β) (hr : ∀ (s : State) r w, g (s.setR r w) = g s) (ho : ∀ (s : State) x, g { s with ov := x } = g s)
    (s : State) (p : Port) (key : Nat) (f : Frame) : g (s.queueAt p key f) = g s := by
  have hport (x : PortH) : g (s.setPort p x) = g s := by cases p <;> exact ho s _
  rw [State.queueAt, State.drain, drainHeld_frame g hr ho]
  exact hport _

/-- A SAFETY frame that alone is held back leaves next, within the share. -/
theorem nextHeld_of_safety (h : (s.port p).held = [(14, f)]) (hroom : s.safetyRoom (s.port p).safetyUsed = true) :
    s.nextHeld p = some ((14, f), sendNs f, (s.port p).drr) := by
  simp [State.nextHeld, h, hroom]

theorem queueAt_of_safety (hh : (s.port p).held = []) (hu : (s.port p).unacked = []) (hroom : s.safetyRoom (s.port p).safetyUsed = true)
    (hb : f.bytes ≤ 16384) : ((s.queueAt p 14 f).port p).unacked = [((s.port p).txSeq, f)] := by
  have hport : (s.modPort p fun x => { x with held := insertHeld 14 f x.held }).port p = { s.port p with held := [(14, f)] } := by
    rw [State.modPort, port_setPort_same, hh]
    rfl
  have hregs : (s.modPort p fun x => { x with held := insertHeld 14 f x.held }).regs = s.regs := setPort_regs s p _
  generalize hq : (s.modPort p fun x => { x with held := insertHeld 14 f x.held }) = t at hport hregs
  have hroom' : t.safetyRoom (t.port p).safetyUsed = true := by
    rw [State.safetyRoom, getF_of_regs hregs, hport]
    exact hroom
  have hnext := nextHeld_of_safety (s := t) (p := p) (by rw [hport]) hroom'
  have hfull : (t.port p).full f = false := by
    rw [hport]
    simp [PortH.full, PortH.bytes, hu, hb]
  rw [State.queueAt, hq, State.drain, State.drainHeld, hnext]
  simp only [hfull, Bool.false_eq_true, if_false]
  rw [drainHeld_of_nil]
  · rw [port_transmit_same, State.modPort, port_setPort_same, hport]
    simp [hu]
  · rw [port_transmit_same, State.modPort, port_setPort_same, hport]
    simp

end Send

/-! ### A reply of the server as a frame (R407) -/

/-- The frame that carries a reply of class SAFETY to a node, tagged with a key. -/
def State.replyFrame (s : State) (key : Vector Word 8) (dst : Nat) (m : SessRepMsg) : Frame :=
  { dest := nodeBase dst, src := s.nodeId, oseq := s.ov.oseq, cls := 1
    body := .sessRep { m with tag := tagOf key (nodeBase dst) s.nodeId (repPayload m) } }

/-- The reply to a request, before its tag. -/
def replyOf (q : SessReqMsg) (reply tgen qdepth : Nat) (data : List Byte) : SessRepMsg :=
  { sid := q.sid, reply := reply, tgen := tgen, reqGen := q.reqGen, reqBlk := q.reqBlk
    len := data.length, qdepth := qdepth, counter := q.counter, tag := 0, data := data }

theorem bytes_replyFrame (s : State) (key : Vector Word 8) (dst : Nat) {m : SessRepMsg} (h : m.data.length ≤ 512) :
    (s.replyFrame key dst m).bytes ≤ 16384 := by
  have hlen : (s.replyFrame key dst m).body.len = 24 + (m.data.length + 3) / 4 * 4 := rfl
  rw [Frame.bytes, hlen]
  split <;> omega

/-- A reply is carried by a link of every revision, and of class SAFETY it goes first of rank 7. -/
theorem sendOn_replyFrame (s t : State) (key : Vector Word 8) (dst : Nat) (m : SessRepMsg) (p : Port) :
    t.sendOn (s.replyFrame key dst m) p = t.queueAt p 14 (s.replyFrame key dst m) := by
  have hrev : (s.replyFrame key dst m).body.rev = 0 := rfl
  have hkey : heldKey (s.replyFrame key dst m) = 14 := rfl
  rw [State.sendOn, State.sendAt, hrev, if_neg (Nat.not_lt_zero _), hkey]

/-- The path from the node to another one is open at a port, and nothing is before a SAFETY frame there. -/
structure State.OpenTo (s : State) (dst : Nat) (p : Port) : Prop where
  live : s.ovLive = true
  numbered : s.numbered = true
  remote : dst ≠ s.nodeId
  reachable : s.reachable dst = true
  out : s.outPort dst = some p
  held : (s.port p).held = []
  unacked : (s.port p).unacked = []
  room : s.safetyRoom (s.port p).safetyUsed = true

theorem node_replyFrame (s : State) (key : Vector Word 8) (dst : Nat) (m : SessRepMsg) : (s.replyFrame key dst m).node = dst := by
  rw [Frame.node, State.replyFrame, nodeBase]
  exact Nat.mul_div_cancel _ (by decide)

theorem originate_sessRep {s : State} (hl : s.ovLive = true) (hn : s.numbered = true) (key : Vector Word 8) (dst : Nat) (m : SessRepMsg) :
    s.originate (nodeBase dst) 1 (s.replyFrame key dst m).body = s.nextOseq.route (s.replyFrame key dst m) := by
  unfold State.originate
  rw [hl, hn]
  simp only [Bool.not_true, Bool.false_and, Bool.or_self, Bool.false_eq_true, if_false]
  rfl

theorem route_replyFrame {s : State} {dst : Nat} {p : Port} (h : s.OpenTo dst p) (key : Vector Word 8) (m : SessRepMsg) :
    s.nextOseq.route (s.replyFrame key dst m) = s.nextOseq.queueAt p 14 (s.replyFrame key dst m) := by
  have hreach : s.nextOseq.reachable dst = true := h.reachable
  have hout : s.nextOseq.outPort dst = some p := h.out
  have hremote : dst ≠ s.nextOseq.nodeId := h.remote
  have hcast : (s.replyFrame key dst m).broadcast = false := rfl
  simp only [State.route, hcast, Bool.false_eq_true, if_false, node_replyFrame, if_neg hremote, hreach, Bool.not_true, hout, sendOn_replyFrame]

theorem sendReply_of_open {s : State} {dst : Nat} {p : Port} (h : s.OpenTo dst p) (q : SessReqMsg) (reply tgen qdepth : Nat) (data : List Byte) :
    s.sendReply dst 1 q reply tgen qdepth data true =
      s.nextOseq.queueAt p 14 (s.replyFrame (s.srvEntry q.sid).key dst (replyOf q reply tgen qdepth data)) :=
  (originate_sessRep h.live h.numbered _ dst (replyOf q reply tgen qdepth data)).trans (route_replyFrame h _ _)

/-! ### What service leaves as it is -/

/-- The registers that service of a request for SRAM writes. -/
def serveRegs : List Rg := [Rg.SS_QUEUE, Rg.SB_STICKY 0]

/-- Of the registers, the ports, the machines, the resets and time, only `serveRegs` differ. -/
structure State.ServeOnly (s t : State) : Prop where
  regs : ∀ q : Rg, (∀ r ∈ serveRegs, q.addr ≠ r.addr) → t.getR q = s.getR q
  ov : t.ov = s.ov
  phase : t.phase = s.phase
  rst : t.rst = s.rst
  machs : t.machs = s.machs
  tt : t.tt = s.tt

theorem State.ServeOnly.trans {s t u : State} (h : s.ServeOnly t) (g : t.ServeOnly u) : s.ServeOnly u :=
  ⟨fun q hq => (g.regs q hq).trans (h.regs q hq), g.ov.trans h.ov, g.phase.trans h.phase, g.rst.trans h.rst, g.machs.trans h.machs,
    g.tt.trans h.tt⟩

namespace State.ServeOnly
variable {s t : State} (h : s.ServeOnly t)
include h

theorem bootSess (sid : Nat) : t.bootSess sid = s.bootSess sid := by
  rw [State.bootSess, State.bootSess, isF_of_getR (f := Fd.SS_CTRL_BOOT) (h.regs Rg.SS_CTRL (by decide))]

theorem nodeId : t.nodeId = s.nodeId := getF_of_getR (f := Fd.OV_NODE_ID) (h.regs Rg.OV_NODE (by decide))

theorem port (p : Port) : t.port p = s.port p := by simp only [State.port.eq_def, h.ov]

theorem linked (p : Port) : t.linked p = s.linked p := by
  rw [State.linked, State.linked, getF_of_getR (f := Fd.OV_PSTAT_STATE p.idx) (h.regs (Rg.OV_PSTAT p.idx) (by cases p <;> decide))]

theorem openTo {dst : Nat} {p : Port} (ho : s.OpenTo dst p) : t.OpenTo dst p := by
  have hpath : t.pathPort dst = s.pathPort dst := by rw [State.pathPort, State.pathPort, h.ov]
  have hreset := inReset_congr (h.regs Rg.BLK_RST0 (by decide)) (h.regs Rg.BLK_RST1 (by decide)) h.rst .orvia
  have hshare : t.getF Fd.SS_ADM_SAFETY_SHARE = s.getF Fd.SS_ADM_SAFETY_SHARE := getF_of_getR (h.regs Rg.SS_ADM (by decide))
  constructor
  case live => rw [State.ovLive, h.phase, hreset, ← State.ovLive, ho.live]
  case numbered => rw [State.numbered, isF_of_getR (f := Fd.OV_NODE_NUMBERED) (h.regs Rg.OV_NODE (by decide)), ← State.numbered, ho.numbered]
  case remote => rw [h.nodeId]; exact ho.remote
  case reachable => rw [State.reachable, h.nodeId, h.ov, ← State.reachable, ho.reachable]
  case out => rw [← ho.out]; simp only [State.outPort, hpath, h.linked]
  case held => rw [h.port, ho.held]
  case unacked => rw [h.port, ho.unacked]
  case room => rw [State.safetyRoom, hshare, h.port, ← State.safetyRoom, ho.room]

theorem replyFrame (key : Vector Word 8) (dst : Nat) (m : SessRepMsg) : t.replyFrame key dst m = s.replyFrame key dst m := by
  rw [State.replyFrame, State.replyFrame, h.nodeId, h.ov]

end State.ServeOnly

end Sys2Proof.Machine
end

section
/-! PROOF. Service of requests, replies and timeouts (O44). -/

namespace Sys2Proof.Machine

/-! ### Entries of sessions -/

theorem sess_setSess_same (s : State) (sid : Nat) {e : SessEntry} (he : e ≠ {}) : (s.setSess sid e).sess sid = e := by
  rw [State.setSess, if_neg he, State.sess, lookupNat_insertNat_same]
  rfl

/-- An entry whose configuration is not 0 is not the empty one. -/
theorem entry_ne_empty {e : SessEntry} (h : e.valid = true) : e ≠ {} := by
  rintro rfl
  exact absurd h (by decide)

theorem entryCmdCheck_of_none {s : State} {sid : Nat} (h : (s.sess sid).cmd = none) : s.entryCmdCheck sid = s := by
  rw [State.entryCmdCheck, h]

/-! ### The server (R406 to R408) -/

/-- The oldest SAFETY request is taken up, and its service charged to the share. -/
def State.tookSafety (s : State) (r : List SrvReq) (ns : Nat) : State := (s.setQueue 1 r).useSafety 1 ns

/-- The place of a request at the server is free again. -/
def State.freed (s : State) (sid : Nat) : State := s.modSess sid fun e => { e with inflS := e.inflS - 1 }

section Server
variable {s t : State} {q : SrvReq} {r : List SrvReq} {p : Port} {ns : Nat}

theorem serveOnly_tookSafety (s : State) (r : List SrvReq) (ns : Nat) : s.ServeOnly (s.tookSafety r ns) :=
  ⟨fun q hq => getR_setF_ne { s with ss := _ } (f := Fd.SS_QUEUE_SAFETY) (q := q) (hq Rg.SS_QUEUE (by decide)) _, rfl, rfl, rfl, rfl, rfl⟩

theorem ss_tookSafety (s : State) (r : List SrvReq) (ns : Nat) : (s.tookSafety r ns).ss =
    { s.ss with queues := vset s.ss.queues 0 r, safetyUsed := s.ss.safetyUsed + ns } := rfl

theorem serveOnly_sticky (s : State) : s.ServeOnly (s.sticky 21) :=
  ⟨fun q hq => getR_sticky_ne s (hq (Rg.SB_STICKY 0) (by decide)), rfl, rfl, rfl, rfl, rfl⟩

theorem serveOnly_sramPut (s : State) (a : Nat) (bs : List Byte) : s.ServeOnly (s.sramPut a bs) := ⟨fun _ _ => rfl, rfl, rfl, rfl, rfl, rfl⟩

theorem serveOnly_freed (s : State) (sid : Nat) : s.ServeOnly (s.freed sid) := ⟨fun _ _ => rfl, rfl, rfl, rfl, rfl, rfl⟩

/-- The answer to a request of another node. -/
theorem serviceEnd_of_remote (hown : q.own = none) (hb : q.bcast = false) (hv : (t.sess q.msg.sid).valid = true)
    (hc : (t.sess q.msg.sid).cmd = none) (reply tgen : Nat) (data : List Byte) :
    t.serviceEnd q 1 reply tgen data = (t.freed q.msg.sid).sendReply q.src 1 q.msg reply tgen q.qdepth data true := by
  have hsess : (t.freed q.msg.sid).sess q.msg.sid = { t.sess q.msg.sid with inflS := (t.sess q.msg.sid).inflS - 1 } :=
    sess_setSess_same t _ (entry_ne_empty hv)
  have hfree : (t.freed q.msg.sid).entryCmdCheck q.msg.sid = t.freed q.msg.sid := entryCmdCheck_of_none (by rw [hsess]; exact hc)
  simp only [State.serviceEnd, hown, hb, Option.bind_none, Option.isSome_none, Bool.or_self, Bool.false_eq_true, if_false]
  exact congrArg (fun u => State.sendReply u q.src 1 q.msg reply tgen q.qdepth data true) hfree

/-- A request has been performed in the state `t`, and is answered to its origin. -/
structure State.Answered (s t u : State) (q : SrvReq) (r : List SrvReq) (p : Port) (ns : Nat) (data : List Byte) : Prop where
  frame : (u.port p).unacked = [((s.port p).txSeq, s.replyFrame (s.srvEntry q.msg.sid).key q.src
    (replyOf q.msg (if q.qdepth = 0 then 0 else 1) (s.targetGen (q.addr % 2 ^ 42)) q.qdepth data))]
  queue : u.queue 1 = r
  safetyUsed : u.ss.safetyUsed = s.ss.safetyUsed + ns
  inflight : (u.sess q.msg.sid).inflS = (s.sess q.msg.sid).inflS - 1
  machs : u.machs = s.machs
  rst : u.rst = s.rst
  sram : u.sram = t.sram

theorem srvEntry_key_freed (ht : s.ServeOnly t) (hss : t.ss = (s.tookSafety r ns).ss) {sid : Nat} (hv : (s.sess sid).valid = true) :
    ((t.freed sid).srvEntry sid).key = (s.srvEntry sid).key := by
  have hboot : (t.freed sid).bootSess sid = s.bootSess sid := (ht.trans (serveOnly_freed t sid)).bootSess sid
  have hsess : t.sess sid = s.sess sid := by rw [State.sess, hss, ss_tookSafety, ← State.sess]
  have hfreed : (t.freed sid).sess sid = { t.sess sid with inflS := (t.sess sid).inflS - 1 } :=
    sess_setSess_same t _ (entry_ne_empty (by rw [← hv, hsess]; rfl))
  rw [State.srvEntry, State.srvEntry, hboot]
  split
  · rfl
  · rw [hfreed, hsess]

/-- The end of a request that has been performed. -/
theorem answered_serviceEnd (ht : s.ServeOnly t) (hss : t.ss = (s.tookSafety r ns).ss) (ho : s.OpenTo q.src p) (hown : q.own = none)
    (hb : q.bcast = false) (hv : (s.sess q.msg.sid).valid = true) (hc : (s.sess q.msg.sid).cmd = none) {data : List Byte}
    (hlen : data.length ≤ 512) :
    s.Answered t (t.serviceEnd q 1 (if q.qdepth = 0 then 0 else 1) (s.targetGen (q.addr % 2 ^ 42)) data) q r p ns data := by
  have hsess : t.sess q.msg.sid = s.sess q.msg.sid := by rw [State.sess, hss, ss_tookSafety, ← State.sess]
  have hfreed : s.ServeOnly (t.freed q.msg.sid) := ht.trans (serveOnly_freed t _)
  have hopen := hfreed.openTo ho
  rw [serviceEnd_of_remote hown hb (hsess ▸ hv) (hsess ▸ hc), sendReply_of_open hopen, srvEntry_key_freed ht hss hv, hfreed.replyFrame]
  generalize hf : s.replyFrame (s.srvEntry q.msg.sid).key q.src _ = f
  have hbytes : f.bytes ≤ 16384 := hf ▸ bytes_replyFrame s _ _ hlen
  have hqueued {β : Type} (g : State → β) (hr : ∀ (s : State) r w, g (s.setR r w) = g s) (ho : ∀ (s : State) x, g { s with ov := x } = g s) :
      g ((t.freed q.msg.sid).nextOseq.queueAt p 14 f) = g (t.freed q.msg.sid) := (queueAt_frame g hr ho _ p 14 f).trans (ho _ _)
  have hport : (t.freed q.msg.sid).nextOseq.port p = s.port p := by rw [← hfreed.port p]; cases p <;> rfl
  have hssq := hqueued State.ss (fun _ _ _ => rfl) (fun _ _ => rfl)
  constructor
  case frame =>
    rw [queueAt_of_safety (by rw [hport, ho.held]) (by rw [hport, ho.unacked]) (by rw [hport, ← hfreed.port p]; exact hopen.room) hbytes, hport, hf]
  case queue =>
    rw [State.queue, hssq]
    show vget t.ss.queues 0 = r
    rw [hss, ss_tookSafety, vget_vset_same]
  case safetyUsed =>
    rw [hssq]
    show t.ss.safetyUsed = _
    rw [hss, ss_tookSafety]
  case inflight =>
    have hfree : (t.freed q.msg.sid).sess q.msg.sid = { t.sess q.msg.sid with inflS := (t.sess q.msg.sid).inflS - 1 } :=
      sess_setSess_same t _ (entry_ne_empty (hsess ▸ hv))
    rw [State.sess, hssq, ← State.sess, hfree, hsess]
  case machs => rw [hqueued State.machs (fun _ _ _ => rfl) (fun _ _ => rfl), hfreed.machs]
  case rst => rw [hqueued State.rst (fun _ _ _ => rfl) (fun _ _ => rfl), hfreed.rst]
  case sram => rw [hqueued State.sram (fun _ _ _ => rfl) (fun _ _ => rfl)]; rfl

theorem targetGen_of_sram (s : State) {o : Nat} (h : inSram o = true) : s.targetGen o = 0 := by
  rw [State.targetGen, blkOf_of_sram (of_decide_eq_true h)]
  rfl

theorem targetReset_of_sram (s : State) {o : Nat} (h : inSram o = true) : s.targetReset o = false := by
  rw [State.targetReset, blkOf_of_sram (of_decide_eq_true h)]

/-- The checks at service do not depend on the queue or the share. -/
theorem serviceCheck_tookSafety (h : inSram (q.addr % 2 ^ 42) = true) : (s.tookSafety r ns).serviceCheck q = s.serviceCheck q := by
  have hboot (sid : Nat) := (serveOnly_tookSafety s r ns).bootSess sid
  have hentry (sid : Nat) : (s.tookSafety r ns).srvEntry sid = s.srvEntry sid := by rw [State.srvEntry, hboot, State.srvEntry]; rfl
  simp only [State.serviceCheck, targetGen_of_sram _ h, targetReset_of_sram _ h, hboot, hentry, (serveOnly_tookSafety s r ns).tt]

theorem len_of_serviceCheck (h : s.serviceCheck q = none) : q.msg.len ≤ 512 := by
  have haddr : addrCheck (s.bootSess q.msg.sid) (s.srvEntry q.msg.sid) q.msg.op (q.addr % 2 ^ 42) q.msg.len = none := by
    unfold State.serviceCheck at h
    dsimp only at h
    split at h
    · exact absurd h (Option.some_ne_none _)
    · split at h
      · exact absurd h (Option.some_ne_none _)
      · assumption
  by_contra hlong
  rw [addrCheck, if_pos (.inr (by omega))] at haddr
  exact Option.some_ne_none _ haddr

/-- A SAFETY request within the share goes to service, where no heal holds it up. -/
theorem exec_sessionServiceStart (hq : s.queue 1 = q :: r) (hroom : s.safetyRoom s.ss.safetyUsed = true)
    (hheal : s.healingAt (q.addr % 2 ^ 42) q.msg.len = false) :
    exec (.sessionServiceStart ns) s = ok ((s.tookSafety r ns).serve q 1) := by
  have hpick : s.pickRequest = some (1, q, s.setQueue 1 r) := by rw [State.pickRequest, hq, hroom]
  have hheal' : (s.setQueue 1 r).healingAt (q.addr % 2 ^ 42) q.msg.len = false := hheal
  show execSessionServiceStart ns s = _
  unfold execSessionServiceStart
  simp only [hpick, hheal', Bool.and_false, Bool.false_eq_true, if_false]
  rfl

theorem serve_of_passed (h : t.serviceCheck q = none) (cls : Nat) : t.serve q cls = t.perform q cls := by
  rw [State.serve, h]

theorem sramReady_tookSafety {o n : Nat} (h : s.SramReady o n) : (s.tookSafety r ns).SramReady o n :=
  ⟨h.inside, h.noHeal, h.noError, h.noPoison⟩

/-- The state after a read: an unwritten word sets its sticky bit (R111). -/
def State.readFrom (s : State) (o n : Nat) : State := if s.anyMark isUnwritten o n then s.sticky 21 else s

theorem fabRead_of_ready {o n : Nat} (h : s.SramReady o n) (hin : inSram o = true) (hq : s.Quiet 21) (by_ : Agent) :
    s.fabRead by_ o n = (some (leBytes (s.sramRead o n) n), s.readFrom o n) := by
  rw [State.fabRead, if_pos hin, sramLoad_of_ready h, raise_of_quiet (by decide) hq]
  rfl

theorem fabWrite_of_ready {o : Nat} {bs : List Byte} (h : s.SramReady o bs.length) (hin : inSram o = true) (by_ : Agent) :
    s.fabWrite by_ o bs = (.done, s.sramPut o bs) := by
  rw [State.fabWrite, if_pos hin, sramWrite_of_ready h]
  rfl

theorem perform_read (h1 : q.msg.op = 1) (hr : t.SramReady (q.addr % 2 ^ 42) q.msg.len) (hin : inSram (q.addr % 2 ^ 42) = true)
    (hq : t.Quiet 21) : t.perform q 1 = (t.readFrom (q.addr % 2 ^ 42) q.msg.len).serviceEnd q 1 (if q.qdepth = 0 then 0 else 1)
      (t.targetGen (q.addr % 2 ^ 42)) (leBytes (t.sramRead (q.addr % 2 ^ 42) q.msg.len) q.msg.len) := by
  rw [State.perform, if_pos h1, fabRead_of_ready hr hin hq]
  rfl

theorem perform_write (h2 : q.msg.op = 2) (hlen : q.msg.data.length = q.msg.len) (hr : t.SramReady (q.addr % 2 ^ 42) q.msg.len)
    (hin : inSram (q.addr % 2 ^ 42) = true) : t.perform q 1 =
      (t.sramPut (q.addr % 2 ^ 42) q.msg.data).serviceEnd q 1 (if q.qdepth = 0 then 0 else 1) (t.targetGen (q.addr % 2 ^ 42)) [] := by
  have hdata : (q.msg.data ++ List.replicate q.msg.len 0).take q.msg.len = q.msg.data := List.take_left' hlen
  have h1 : q.msg.op ≠ 1 := by omega
  rw [State.perform, if_neg h1, hdata, fabWrite_of_ready (by rw [hlen]; exact hr) hin]
  rfl

/-- A SAFETY request of another node that passes every check at service, is for SRAM that is ready, and can be answered at a port. -/
structure State.Serves (s : State) (q : SrvReq) (r : List SrvReq) (p : Port) : Prop where
  oldest : s.queue 1 = q :: r
  room : s.safetyRoom s.ss.safetyUsed = true
  passes : s.serviceCheck q = none
  remote : q.own = none
  unicast : q.bcast = false
  valid : (s.sess q.msg.sid).valid = true
  noCmd : (s.sess q.msg.sid).cmd = none
  answers : s.OpenTo q.src p
  sram : inSram (q.addr % 2 ^ 42) = true
  ready : s.SramReady (q.addr % 2 ^ 42) q.msg.len

/-- The request is performed as `t` tells, and answered. -/
theorem exec_of_serves (h : s.Serves q r p) (hd : s.Settled) {data : List Byte} (hperf : (s.tookSafety r ns).perform q 1 =
      t.serviceEnd q 1 (if q.qdepth = 0 then 0 else 1) ((s.tookSafety r ns).targetGen (q.addr % 2 ^ 42)) data)
    (ht : (s.tookSafety r ns).ServeOnly t) (hss : t.ss = (s.tookSafety r ns).ss) (hlen : data.length ≤ 512) :
    ∃ u, exec (.sessionServiceStart ns) s = .next u ∧ s.Answered t u q r p ns data := by
  have hdone := answered_serviceEnd ((serveOnly_tookSafety s r ns).trans ht) hss h.answers h.remote h.unicast h.valid h.noCmd hlen
  refine ⟨_, ?_, hdone⟩
  have hserve : (s.tookSafety r ns).serve q 1 = (s.tookSafety r ns).perform q 1 :=
    serve_of_passed ((serviceCheck_tookSafety h.sram).trans h.passes) 1
  have hgen : (s.tookSafety r ns).targetGen (q.addr % 2 ^ 42) = s.targetGen (q.addr % 2 ^ 42) := by
    rw [targetGen_of_sram _ h.sram, targetGen_of_sram _ h.sram]
  rw [exec_sessionServiceStart h.oldest h.room h.ready.noHeal, hserve, hperf, hgen]
  exact ok_of_rst hdone.rst hd

theorem serves_read (h : s.Serves q r p) (hd : s.Settled) (hq : s.Quiet 21) (h1 : q.msg.op = 1) (ns : Nat) :
    ∃ u, exec (.sessionServiceStart ns) s = .next u ∧
      s.Answered s u q r p ns (leBytes (s.sramRead (q.addr % 2 ^ 42) q.msg.len) q.msg.len) := by
  have hq' : (s.tookSafety r ns).Quiet 21 := quiet_of_getR ((serveOnly_tookSafety s r ns).regs _ (by decide)) hq
  have hread : (s.tookSafety r ns).ServeOnly ((s.tookSafety r ns).readFrom (q.addr % 2 ^ 42) q.msg.len) ∧
      ((s.tookSafety r ns).readFrom (q.addr % 2 ^ 42) q.msg.len).ss = (s.tookSafety r ns).ss ∧
      ((s.tookSafety r ns).readFrom (q.addr % 2 ^ 42) q.msg.len).sram = s.sram := by
    unfold State.readFrom
    split
    · exact ⟨serveOnly_sticky _, rfl, rfl⟩
    · exact ⟨⟨fun _ _ => rfl, rfl, rfl, rfl, rfl, rfl⟩, rfl, rfl⟩
  obtain ⟨honly, hss, hsram⟩ := hread
  obtain ⟨u, hu, ha⟩ := exec_of_serves h hd (perform_read h1 (sramReady_tookSafety h.ready) h.sram hq') honly hss
    (by rw [leBytes_length]; exact len_of_serviceCheck h.passes)
  exact ⟨u, hu, { ha with sram := ha.sram.trans hsram }⟩

theorem serves_write (h : s.Serves q r p) (hd : s.Settled) (h2 : q.msg.op = 2) (hlen : q.msg.data.length = q.msg.len) (ns : Nat) :
    ∃ u, exec (.sessionServiceStart ns) s = .next u ∧ s.Answered (s.sramPut (q.addr % 2 ^ 42) q.msg.data) u q r p ns [] := by
  obtain ⟨u, hu, ha⟩ := exec_of_serves (ns := ns) h hd (perform_write h2 hlen (sramReady_tookSafety h.ready) h.sram)
    (serveOnly_sramPut _ _ _) rfl (Nat.zero_le 512)
  exact ⟨u, hu, { ha with sram := ha.sram }⟩

/-- A byte of SRAM after a store of bytes. -/
theorem sramByte_sramPut {s : State} (hC : s.Canon) (o : Nat) (bs : List Byte) (b : Nat) : (s.sramPut o bs).sramByte b =
    if o ≤ b ∧ b < o + bs.length then bs.getD (b - o) 0 else s.sramByte b := by
  split
  · rename_i hin
    have hi : b - o < bs.length := by omega
    have hb : o + (b - o) = b := by omega
    rw [List.getD_eq_getElem _ _ hi]
    exact (congrArg _ hb).symm.trans (sramByte_sramStore_in { s with sramErr := _ } (sramWf_of_canon hC) o bs (b - o) hi)
  · exact sramByte_sramPut_out s o bs b (by omega)

end Server

end Sys2Proof.Machine
end

section
/-! PROOF. Replies and timeouts at the client; service and replies (O44). -/

namespace Sys2Proof.Machine

/-! ### The end of an access (R100, R407) -/

/-- The one request of a session is no longer out. -/
def State.ended (s : State) (sid : Nat) : State :=
  { s.modSess sid fun e => { e with inflC := e.inflC - 1 } with ss := { (s.modSess sid fun e => { e with inflC := e.inflC - 1 }).ss with out := [] } }

/-- `SS_LAST` of a machine holds a word, and the machine no longer waits. -/
def State.told (s : State) (k : Mach) (w : Word) : State := (s.setR (lastReg k) w).modMach k fun x => { x with wait := .none }

/-- The word of `SS_LAST`. -/
def lastWord (reply tgen qdepth : Nat) : Word := .ofNat (reply + tgen * 2 ^ 8 + qdepth * 2 ^ 16)

section Client
variable {s : State} {q : OutReq} {k : Mach} {a : CoreAccess}

theorem endReq_of_single (hout : s.ss.out = [q]) (hv : (s.sess q.sid).valid = true) (hc : (s.sess q.sid).cmd = none) :
    s.endReq q = s.ended q.sid := by
  have hsess : (s.modSess q.sid fun e => { e with inflC := e.inflC - 1 }).sess q.sid =
      { s.sess q.sid with inflC := (s.sess q.sid).inflC - 1 } := sess_setSess_same s _ (entry_ne_empty hv)
  have hkept : (s.modSess q.sid fun e => { e with inflC := e.inflC - 1 }).ss.out = [q] := hout
  have hcmd : ((s.ended q.sid).sess q.sid).cmd = none := (congrArg SessEntry.cmd hsess).trans hc
  have hnone : [q].filter (fun x => x.id != q.id) = [] := by simp
  rw [State.endReq, hkept, hnone]
  exact entryCmdCheck_of_none hcmd

/-- A request of a machine has ended with a reply that is no timeout; with a timeout. -/
theorem completeReq_of_reply (hout : s.ss.out = [q]) (hwho : q.who = .mach k) (hw : (s.mach k).wait = .station a q.id) (hb : q.bcast = false)
    (hv : (s.sess q.sid).valid = true) (hc : (s.sess q.sid).cmd = none) {reply : Nat} (h9 : reply % 16 ≠ 9) (tgen qdepth : Nat) (data : List Byte) :
    s.completeReq q reply tgen qdepth data = (s.ended q.sid).accessEnd k a reply tgen qdepth data := by
  have hwait : ((s.ended q.sid).mach k).wait = .station a q.id := hw
  simp only [State.completeReq, endReq_of_single hout hv hc, if_neg h9, hb, hwho, hwait, if_true, Bool.false_eq_true, if_false]

theorem completeReq_of_timeout (hout : s.ss.out = [q]) (hwho : q.who = .mach k) (hw : (s.mach k).wait = .station a q.id) (hb : q.bcast = false)
    (hv : (s.sess q.sid).valid = true) (hc : (s.sess q.sid).cmd = none) (hq : s.Quiet 47) :
    s.completeReq q rNoReply 0 0 [] = ((s.ended q.sid).sticky 47).accessEnd k a rNoReply 0 0 [] := by
  have hraise : (s.ended q.sid).raise 47 = (s.ended q.sid).sticky 47 := raise_of_quiet (by decide) hq
  have hwait : (((s.ended q.sid).sticky 47).mach k).wait = .station a q.id := hw
  have h9 : rNoReply % 16 = 9 := rfl
  simp only [State.completeReq, endReq_of_single hout hv hc, if_pos h9, hraise, hb, hwho, hwait, if_true, Bool.false_eq_true, if_false]

theorem accessEnd_of_ok (b : State) (k : Mach) (a : CoreAccess) {reply : Nat} (h : reply = 0 ∨ reply = 1) (tgen qdepth : Nat) (data : List Byte) :
    b.accessEnd k a reply tgen qdepth data =
      if a.write then (b.told k (lastWord reply tgen qdepth)).retire k
      else (b.told k (lastWord reply tgen qdepth)).setRetire k a.rd (loadValue a.width a.signed (leNat data)) := if_pos h

theorem accessEnd_of_timeout (b : State) (k : Mach) (a : CoreAccess) :
    b.accessEnd k a rNoReply 0 0 [] = (b.told k 0x19).replyTrap k 0x19 a.addr := rfl

/-- The access has ended well: the machine goes on, and a load has its value. -/
structure State.AccessDone (b t : State) (k : Mach) (a : CoreAccess) (w v : Word) : Prop where
  ss : t.ss = b.ss
  wait : (t.mach k).wait = .none
  pc : (t.mach k).pc = (b.mach k).pc + 4
  retired : (t.mach k).retire = (b.mach k).retire + 1
  last : t.getR (lastReg k) = w
  machines : ∀ j, j ≠ k → t.mach j = b.mach j
  sram : t.sram = b.sram
  rst : t.rst = b.rst
  general : ∀ g, t.rg k g = if a.write = false ∧ g = a.rd ∧ g ≠ 0 then v else b.rg k g

theorem mach_told_same (b : State) (k : Mach) (w : Word) : (b.told k w).mach k = { b.mach k with wait := .none } := mach_modMach_same (b.setR _ w) k _

theorem mach_told_ne (b : State) {j k : Mach} (h : j ≠ k) (w : Word) : (b.told k w).mach j = b.mach j := mach_modMach_ne (b.setR _ w) h _

theorem rg_told (b : State) (k : Mach) (w : Word) (g : BitVec 5) : (b.told k w).rg k g = b.rg k g := by
  rw [State.rg, State.rg, mach_told_same]

theorem rc_told (b : State) (k : Mach) (w : Word) (j : Fin 32) : (b.told k w).rc' k j = b.rc' k j := by
  rw [State.rc', State.rc', mach_told_same]

theorem getR_told (b : State) (k : Mach) (w : Word) : (b.told k w).getR (lastReg k) = w := getR_setR_same b _ w

/-- A store ends. -/
theorem accessDone_retire (b : State) (k : Mach) {a : CoreAccess} (ha : a.write = true) (w v : Word) :
    b.AccessDone ((b.told k w).retire k) k a w v where
  ss := rfl
  wait := by rw [State.retire, State.retireTo, mach_modMach_same, mach_told_same]
  pc := by rw [(sysResult_retire _ k).pc, mach_told_same]
  retired := by rw [(sysResult_retire _ k).retired, mach_told_same]
  last := getR_told b k w
  machines j hj := by rw [(sysResult_retire _ k).machines j hj, mach_told_ne b hj]
  sram := rfl
  rst := rfl
  general g := by rw [(sysResult_retire _ k).general, rg_told, if_neg fun h => Bool.false_ne_true (h.1.symm.trans ha)]

/-- A load ends. -/
theorem accessDone_setRetire (b : State) (k : Mach) {a : CoreAccess} (ha : a.write = false) (w v : Word) :
    b.AccessDone ((b.told k w).setRetire k a.rd v) k a w v where
  ss := wg_ss (b.told k w) k a.rd v
  wait := by
    rw [State.setRetire, State.retire, State.retireTo, mach_modMach_same, mach_wg, mach_told_same]
    split <;> rfl
  pc := by rw [(regResult_setRetire _ k _ v).pc, mach_told_same]
  retired := by rw [(regResult_setRetire _ k _ v).retired, mach_told_same]
  last := by rw [(regResult_setRetire _ k _ v).registers, getR_told]
  machines j hj := by rw [(regResult_setRetire _ k _ v).machines j hj, mach_told_ne b hj]
  sram := wg_sram (b.told k w) k a.rd v
  rst := wg_rst (b.told k w) k a.rd v
  general g := by
    by_cases hg : g = a.rd
    · subst hg
      rw [(regResult_setRetire _ k _ v).reg]
      by_cases h0 : a.rd = 0
      · rw [if_pos h0, if_neg fun h => h.2.2 h0, h0, rg_zero]
      · rw [if_neg h0, if_pos ⟨ha, rfl, h0⟩]
    · rw [(regResult_setRetire _ k _ v).others g hg, rg_told, if_neg fun h => hg h.2.1]

theorem accessDone_accessEnd (b : State) (k : Mach) (a : CoreAccess) {reply : Nat} (h : reply = 0 ∨ reply = 1) (tgen qdepth : Nat)
    (data : List Byte) : b.AccessDone (b.accessEnd k a reply tgen qdepth data) k a (lastWord reply tgen qdepth)
      (loadValue a.width a.signed (leNat data)) := by
  rw [accessEnd_of_ok b k a h]
  cases ha : a.write with
  | true => exact accessDone_retire b k ha _ _
  | false => exact accessDone_setRetire b k ha _ _

/-! ### A reply at the client (R403, R407) -/

theorem untaggedOk_of_tag {m : SessRepMsg} (h : m.tag ≠ 0) : untaggedOk m = false := by
  rw [untaggedOk, beq_eq_false_iff_ne.2 h]
  rfl

theorem exec_sessRepReceive {p : Option Port} {f : Frame} {m : SessRepMsg} {r : List (Option Port × Frame)} (hi : s.ov.inbox = (p, f) :: r)
    (hf : f.body = .sessRep m) (hr : s.inReset .sess = false) : exec .sessRepReceive s = ok ((s.taken r).replyIn f m) := by
  have htake : s.takeFrame 0x07 = some ((p, f), s.taken r) := takeFrame_head hi (by rw [hf]; rfl)
  have hreset : (s.taken r).inReset .sess = false := hr
  show execSessRepReceive s = _
  simp only [execSessRepReceive, htake, hf, hreset, Bool.false_eq_true, if_false]

theorem replyIn_of_wrong_tag {f : Frame} {m : SessRepMsg} (h0 : m.tag ≠ 0)
    (htag : tagOf (s.sess m.sid).key f.dest f.src (repPayload m) ≠ m.tag) (hq : s.Quiet 44) :
    s.replyIn f m = (s.incF Fd.SS_CNT_AUTH_TAG).sticky 44 := by
  have hq' : (s.incF Fd.SS_CNT_AUTH_TAG).Quiet 44 := quiet_of_getR (getR_setF_ne s (by decide) _) hq
  have hwrong : (!untaggedOk m && tagOf (s.sess m.sid).key f.dest f.src (repPayload m) != m.tag) = true := by
    rw [untaggedOk_of_tag h0, bne_iff_ne.2 htag]
    rfl
  rw [State.replyIn, if_pos hwrong, raise_of_quiet (by decide) hq']

theorem replyIn_of_right_tag {f : Frame} {m : SessRepMsg} (hout : s.ss.out = [q]) (hb : q.bcast = false) (ho : q.own = false)
    (htag : tagOf (s.sess m.sid).key f.dest f.src (repPayload m) = m.tag) (hblk : m.reqBlk < 48) (hgen : m.reqGen = s.getF (Fd.GEN_GEN m.reqBlk))
    (hsid : m.sid = q.sid) (hcnt : m.counter = q.counter) (hsrc : f.src = q.node) :
    s.replyIn f m = s.completeReq q m.reply m.tgen m.qdepth m.data := by
  have hright : ¬(!untaggedOk m && tagOf (s.sess m.sid).key f.dest f.src (repPayload m) != m.tag) = true := by simp [htag]
  have hfresh : ¬(48 ≤ m.reqBlk ∨ m.reqGen ≠ s.getF (Fd.GEN_GEN m.reqBlk)) := fun h => h.elim (by omega) (fun h => h hgen)
  have hfind : s.ss.out.find? (fun r => r.sid == m.sid && r.counter == m.counter && r.node == f.src && !r.own && !r.bcast) = some q := by
    rw [hout]
    simp [hsid, hcnt, hsrc, ho, hb]
  simp only [State.replyIn, if_neg hright, if_neg hfresh, hfind]

/-! ### No reply (R410) -/

theorem exec_requestTimeout (hout : s.ss.out = [q]) : exec (.requestTimeout false q.id) s = ok (s.completeReq q rNoReply 0 0 []) := by
  have hfind : s.ss.out.find? (fun r => r.id == q.id) = some q := by simp [hout]
  show execRequestTimeout false q.id s = _
  simp only [execRequestTimeout, hfind, Bool.false_eq_true, if_false]

theorem exec_peekTimeout {rd : BitVec 5} {node chan id : Nat} (hw : (s.mach .a0).wait = .peek rd node chan id) :
    exec (.requestTimeout true id) s = ok (s.peekFail .a0 9) := by
  have hpeek : s.peekOf id = some .a0 := by simp [State.peekOf, Mach.all, hw]
  show execRequestTimeout true id s = _
  simp only [execRequestTimeout, hpeek, if_true]

theorem lastReg_addr (k : Mach) : 0x40090000 ≤ (lastReg k).addr := by cases k <;> decide

theorem getR_told_ne (b : State) (k : Mach) (w : Word) {r : Rg} (h : r.addr < 0x40090000) : (b.told k w).getR r = b.getR r :=
  getR_setR_ne b (by have := lastReg_addr k; omega) w

/-- The machine to which no reply has come, before its trap. -/
def State.unanswered (s : State) (sid : Nat) (k : Mach) : State := ((s.ended sid).sticky 47).told k 0x19

theorem alive_unanswered (s : State) (sid : Nat) (k : Mach) : (s.unanswered sid k).alive k = s.alive k := by
  have hreg {r : Rg} (h : r.addr < 0x40010000) : (s.unanswered sid k).getR r = s.getR r := by
    rw [State.unanswered, getR_told_ne _ _ _ (by omega), getR_sticky_ne _ (by omega)]
    rfl
  rw [State.alive, State.alive, inReset_congr (s := s) (hreg (by decide)) (hreg (by decide)) rfl]
  rfl

theorem exl_unanswered (s : State) (sid : Nat) (k : Mach) : (s.unanswered sid k).exl k = s.exl k := by
  rw [State.exl, State.exl, State.unanswered, rc_told]
  rfl

theorem vectorReady_unanswered {h : Word} (hv : s.VectorReady k 0 h) (sid : Nat) : (s.unanswered sid k).VectorReady k 0 h :=
  vectorReady_congr hv (rc_told _ k _ _) rfl rfl rfl rfl

/-- The access of a machine outside a handler ends in a STATION_REPLY trap. -/
theorem timeout_traps {h : Word} (sid : Nat) (a : CoreAccess) (ha : s.alive k = true) (he : s.exl k = false) (hv : s.VectorReady k 0 h)
    (hl : (s.mach k).longRun = false) :
    let t := ((s.ended sid).sticky 47).accessEnd k a rNoReply 0 0 []
    t.rst = s.rst ∧ t.ss.out = [] ∧ (t.mach k).wait = .none ∧ t.getR (lastReg k) = 0x19 ∧ t.bitF (Fd.SB_STICKY_BITS 1) 15 = true ∧
      t.rc' k cEpc = (s.mach k).pc &&& 0xFFFF_FFFC ∧ t.rc' k cCause = .ofNat (9 + 0x19 * 2 ^ 16) ∧ (t.mach k).pc = h &&& 0xFFFF_FFFC := by
  have hv' := vectorReady_unanswered hv sid
  have ha' := (alive_unanswered s sid k).trans ha
  have he' := (exl_unanswered s sid k).trans he
  have hmach : (s.unanswered sid k).mach k = { s.mach k with wait := .none } := mach_told_same _ k _
  have hent := (entered_trapAt hv' ha' he' ((s.unanswered sid k).mach k).pc 9 0x19 (.ofNat a.addr)).2
  have htrap := trapAt_of_ready hv' ha' he' ((s.unanswered sid k).mach k).pc 9 0x19 (.ofNat a.addr)
  dsimp only
  rw [accessEnd_of_timeout, ← State.unanswered, State.replyTrap, State.trap]
  generalize (s.unanswered sid k).trapAt k ((s.unanswered sid k).mach k).pc 9 0x19 (.ofNat a.addr) = t at hent htrap
  have hregs : t.regs = (s.unanswered sid k).regs := by rw [htrap, modMach_regs]
  rw [hmach] at hent
  refine ⟨?_, ?_, ?_, ?_, ?_, hent.epc, ?_, hent.others.pc⟩
  · rw [htrap]
    rfl
  · rw [htrap]
    rfl
  · rw [htrap, mach_modMach_same, hmach]
    rfl
  · rw [getR_of_regs hregs, State.unanswered, getR_told]
  · have hsticky : (s.unanswered sid k).getR (Rg.SB_STICKY 1) = ((s.ended sid).sticky 47).getR (Rg.SB_STICKY 1) := getR_told_ne _ k _ (by decide)
    rw [State.bitF, getF_of_regs hregs, getF_of_getR (f := Fd.SB_STICKY_BITS 1) hsticky]
    exact bitF_sticky _ 47
  · rw [hent.cause]
    simp [hl]

/-! ### A PEEK without a reply (R168) -/

/-- The machine stops waiting, and the first register of its pair is 0. -/
def State.peeked (s : State) (k : Mach) (rd : BitVec 5) : State := (s.modMach k fun x => { x with wait := .none }).wg k rd 0

theorem peekFail_of_wait {rd : BitVec 5} {node chan id : Nat} (hw : (s.mach k).wait = .peek rd node chan id) (code : Nat) :
    s.peekFail k code = (s.peeked k rd).setRetire k (rd + 1) (peekStatus code false s.tt.nextE) := by
  rw [State.peekFail, hw]
  rfl

theorem peekStatus_of_code (code n : Nat) : peekStatus code false n = .ofNat (code + n % 65536 * 65536) := rfl

/-- The second register of a pair is another one, and not g0. -/
theorem pair_ne {rd : BitVec 5} (h : rd.toNat % 2 = 0) : rd + 1 ≠ rd ∧ rd + 1 ≠ 0 := by
  constructor <;> bv_omega

theorem mach_peeked (s : State) (k : Mach) (rd : BitVec 5) : ((s.peeked k rd).mach k).wait = .none ∧ ((s.peeked k rd).mach k).pc = (s.mach k).pc := by
  rw [State.peeked, mach_wg, mach_modMach_same]
  split <;> exact ⟨rfl, rfl⟩

theorem peekFail_effect {rd : BitVec 5} {node chan id : Nat} (hw : (s.mach k).wait = .peek rd node chan id) (h2 : rd.toNat % 2 = 0) (code : Nat) :
    ((s.peekFail k code).mach k).wait = .none ∧ (s.peekFail k code).rg k rd = 0 ∧
      (s.peekFail k code).rg k (rd + 1) = .ofNat (code + s.tt.nextE % 65536 * 65536) ∧
      ((s.peekFail k code).mach k).pc = (s.mach k).pc + 4 ∧ (s.peekFail k code).rst = s.rst := by
  obtain ⟨hne, h0⟩ := pair_ne h2
  obtain ⟨hwait, hpc⟩ := mach_peeked s k rd
  have hres := regResult_setRetire (s.peeked k rd) k (rd + 1) (peekStatus code false s.tt.nextE)
  rw [peekFail_of_wait hw]
  refine ⟨?_, ?_, ?_, ?_, ?_⟩
  · rw [State.setRetire, State.retire, State.retireTo, mach_modMach_same, mach_wg, if_neg h0]
    exact hwait
  · rw [hres.others rd hne.symm, State.peeked, rg_wg_same]
    exact ite_self _
  · rw [hres.reg, if_neg h0, peekStatus_of_code]
  · rw [hres.pc, hpc]
  · rw [State.setRetire, State.retire, retireTo_rst, wg_rst, State.peeked, wg_rst, modMach_rst]

end Client

/-! ### The obligation -/

/-- Settles O44: a request that passes is performed on SRAM that is ready and its reply leaves at once; a reply, or its lack, ends
the one access that waits. -/
theorem serviceAndReplies : Obligations.ServiceAndReplies := by
  unfold Obligations.ServiceAndReplies
  refine ⟨?_, ?_⟩
  · intro s q r p ns hp hd hC hr hq hroom hproom hpass hown hb o n e answered hv hc hnum hsrc hreach _ hout hh hu hin hready hq21
    have hlive : s.ovLive = true := by rw [State.ovLive, hp, hr]; rfl
    have hserves : s.Serves q r p :=
      { oldest := hq, room := decide_eq_true hroom, passes := hpass, remote := hown, unicast := hb, valid := hv, noCmd := hc
        answers := ⟨hlive, hnum, hsrc, hreach, hout, hh, hu, decide_eq_true hproom⟩, sram := hin, ready := hready }
    have hans {t u : State} {data : List Byte} (h : s.Answered t u q r p ns data) : answered data u :=
      ⟨h.frame, h.queue, h.safetyUsed, h.inflight, h.machs⟩
    refine ⟨fun h1 => ?_, fun h2 hlen => ?_⟩
    · obtain ⟨u, hu, ha⟩ := serves_read hserves hd hq21 h1 ns
      exact ⟨u, hu, hans ha, ha.sram⟩
    · obtain ⟨u, hu, ha⟩ := serves_write hserves hd h2 hlen ns
      refine ⟨u, hu, hans ha, fun b => ?_⟩
      have hbyte : u.sramByte b = (s.sramPut o q.msg.data).sramByte b := by rw [State.sramByte, ha.sram, ← State.sramByte]
      rw [hbyte, sramByte_sramPut hC, hlen]
  · intro s p f m r q k a h hp hd hr hout hwho hw hb hv hc e pc
    refine ⟨fun hi hf h0 => ⟨fun htag hq44 => ?_, fun htag hblk hgen ho hsid hcnt hsrc hreply => ?_⟩, fun ha he hvec hl hq47 => ?_, ?_⟩
    · have hin : (s.taken r).replyIn f m = ((s.taken r).incF Fd.SS_CNT_AUTH_TAG).sticky 44 := replyIn_of_wrong_tag h0 htag hq44
      rw [exec_sessRepReceive hi hf hr, hin]
      exact ok_of_rst (s := s) rfl hd
    · have hin : (s.taken r).replyIn f m = (s.taken r).completeReq q m.reply m.tgen m.qdepth m.data :=
        replyIn_of_right_tag hout hb ho htag hblk hgen hsid hcnt hsrc
      have hend : (s.taken r).completeReq q m.reply m.tgen m.qdepth m.data =
          ((s.taken r).ended q.sid).accessEnd k a m.reply m.tgen m.qdepth m.data :=
        completeReq_of_reply (s := s.taken r) hout hwho hw hb hv hc (by omega) _ _ _
      have hdone := accessDone_accessEnd ((s.taken r).ended q.sid) k a hreply m.tgen m.qdepth m.data
      refine ⟨_, (exec_sessRepReceive hi hf hr).trans ?_, congrArg SessH.out hdone.ss, hdone.wait, hdone.pc, hdone.retired, hdone.last,
        hdone.machines, hdone.sram, hdone.general⟩
      rw [hin, hend]
      exact ok_of_rst hdone.rst hd
    · obtain ⟨hrst, hrest⟩ := timeout_traps q.sid a ha he hvec hl
      refine ⟨_, (exec_requestTimeout hout).trans ?_, hrest⟩
      rw [completeReq_of_timeout hout hwho hw hb hv hc hq47]
      exact ok_of_rst hrst hd
    · intro rd node chan id hpeek _ h2
      obtain ⟨hwait, hlo, hhi, hpc, hrst⟩ := peekFail_effect hpeek h2 9
      exact ⟨_, (exec_peekTimeout hpeek).trans (ok_of_rst hrst hd), hwait, hlo, hhi, hpc⟩

end Sys2Proof.Machine
end

section
/-! SUPPORT. The results of arithmetic and logic as integers: sums, shifts, comparisons, saturation (R135, R137, R140). -/

namespace Sys2Proof.Machine

/-! ### Words of integers (R13) -/

theorem ofInt_toInt (a : Word) : Word.ofInt a.toInt = a := BitVec.ofInt_toInt

theorem ofInt_natCast (n : Nat) : Word.ofInt n = Word.ofNat n := BitVec.ofInt_natCast 32 n

theorem add_eq_ofInt (a b : Word) : a + b = Word.ofInt (a.toInt + b.toInt) := by
  rw [Word.ofInt, BitVec.ofInt_add, BitVec.ofInt_toInt, BitVec.ofInt_toInt]

theorem sub_eq_ofInt (a b : Word) : a - b = Word.ofInt (a.toInt - b.toInt) := by
  apply BitVec.eq_of_toInt_eq
  rw [Word.ofInt, BitVec.toInt_sub, BitVec.toInt_ofInt]

theorem mul_eq_ofNat (a b : Word) : a * b = Word.ofNat (a.toNat * b.toNat) := by
  apply BitVec.eq_of_toNat_eq
  rw [BitVec.toNat_mul, Word.ofNat, BitVec.toNat_ofNat]

/-! ### Shifts and rotates -/

theorem shiftLeft_eq_ofNat (a : Word) (k : Nat) : a <<< k = Word.ofNat (a.toNat * 2 ^ k) := by
  apply BitVec.eq_of_toNat_eq
  rw [BitVec.toNat_shiftLeft, Nat.shiftLeft_eq, Word.ofNat, BitVec.toNat_ofNat]

theorem shiftRight_eq_ofNat (a : Word) (k : Nat) : a >>> k = Word.ofNat (a.toNat / 2 ^ k) := by
  rw [← word_ofNat_toNat (a >>> k), BitVec.toNat_ushiftRight, Nat.shiftRight_eq_div_pow]

theorem sshiftRight_eq_ofInt (a : Word) (k : Nat) : a.sshiftRight k = Word.ofInt (a.toInt / 2 ^ k) := by
  rw [← ofInt_toInt (a.sshiftRight k), BitVec.toInt_sshiftRight, Int.shiftRight_eq_div_pow]
  norm_cast

theorem rotateRight_eq_ofNat (a : Word) (k : Nat) (hk : k < 32) :
    a.rotateRight k = Word.ofNat (a.toNat / 2 ^ k + a.toNat * 2 ^ (32 - k)) := by
  have ha := a.isLt
  have hlow : a.toNat / 2 ^ k < 2 ^ (32 - k) := by
    rw [Nat.div_lt_iff_lt_mul (by positivity), ← Nat.pow_add, Nat.sub_add_cancel hk.le]
    exact ha
  have hhigh : a.toNat * 2 ^ (32 - k) % 2 ^ 32 = 2 ^ (32 - k) * (a.toNat % 2 ^ k) := by
    rw [Nat.mul_comm, ← Nat.mul_mod_mul_left, ← Nat.pow_add, Nat.sub_add_cancel hk.le]
  have hsum : a.toNat / 2 ^ k + 2 ^ (32 - k) * (a.toNat % 2 ^ k) < 2 ^ 32 := by
    have hmod : a.toNat % 2 ^ k + 1 ≤ 2 ^ k := Nat.mod_lt _ (by positivity)
    have hle := Nat.mul_le_mul_left (2 ^ (32 - k)) hmod
    rw [← Nat.pow_add, Nat.sub_add_cancel hk.le, Nat.mul_succ] at hle
    omega
  apply BitVec.eq_of_toNat_eq
  rw [BitVec.toNat_rotateRight, Nat.mod_eq_of_lt hk, Nat.shiftRight_eq_div_pow, Nat.shiftLeft_eq, Word.ofNat, BitVec.toNat_ofNat,
    hhigh, Nat.or_comm, ← Nat.two_pow_add_eq_or_of_lt hlow, Nat.add_mod, hhigh, Nat.mod_eq_of_lt ((Nat.div_le_self _ _).trans_lt ha), Nat.add_comm]
  exact (Nat.mod_eq_of_lt hsum).symm

/-! ### Comparisons -/

theorem truth_slt (a b : Word) : truth (a.slt b) = if a.toInt < b.toInt then 1 else 0 := by
  simp only [truth, BitVec.slt, decide_eq_true_eq]

theorem truth_ult (a b : Word) : truth (a.ult b) = if a.toNat < b.toNat then 1 else 0 := by
  simp only [truth, BitVec.ult, decide_eq_true_eq]

theorem min_eq_ofInt (a b : Word) : (if a.slt b then a else b) = Word.ofInt (min a.toInt b.toInt) := by
  simp only [BitVec.slt, decide_eq_true_eq]
  rcases lt_or_ge a.toInt b.toInt with h | h
  · rw [if_pos h, min_eq_left h.le, ofInt_toInt]
  · rw [if_neg h.not_gt, min_eq_right h, ofInt_toInt]

theorem max_eq_ofInt (a b : Word) : (if a.slt b then b else a) = Word.ofInt (max a.toInt b.toInt) := by
  simp only [BitVec.slt, decide_eq_true_eq]
  rcases lt_or_ge a.toInt b.toInt with h | h
  · rw [if_pos h, max_eq_right h.le, ofInt_toInt]
  · rw [if_neg h.not_gt, max_eq_left h, ofInt_toInt]

theorem minu_eq_ofNat (a b : Word) : (if a.ult b then a else b) = Word.ofNat (min a.toNat b.toNat) := by
  simp only [BitVec.ult, decide_eq_true_eq]
  rcases lt_or_ge a.toNat b.toNat with h | h
  · rw [if_pos h, min_eq_left h.le, word_ofNat_toNat]
  · rw [if_neg h.not_gt, min_eq_right h, word_ofNat_toNat]

theorem maxu_eq_ofNat (a b : Word) : (if a.ult b then b else a) = Word.ofNat (max a.toNat b.toNat) := by
  simp only [BitVec.ult, decide_eq_true_eq]
  rcases lt_or_ge a.toNat b.toNat with h | h
  · rw [if_pos h, max_eq_right h.le, word_ofNat_toNat]
  · rw [if_neg h.not_gt, max_eq_left h, word_ofNat_toNat]

/-! ### Saturation and rounding -/

theorem sat_eq (x : Int) (k : Nat) : sat x (k + 1) = max (-2 ^ k) (min x (2 ^ k - 1)) := by
  have hpos : (0 : Int) < 2 ^ k := by positivity
  simp only [sat, Nat.add_sub_cancel]
  omega

theorem sat32_eq (x : Int) : sat32 x = Word.ofInt (max (-2 ^ 31) (min x (2 ^ 31 - 1))) := by
  rw [sat32, sat_eq x 31]

theorem sat32_of_ge {x : Int} (h : -2 ^ 31 ≤ x) : sat32 x = Word.ofInt (min x (2 ^ 31 - 1)) := by
  rw [sat32_eq]
  congr 1
  omega

theorem usat_eq (x : Int) (k : Nat) : usat x (k + 1) = max 0 (min x (2 ^ (k + 1) - 1)) := by
  have hpos : (0 : Int) < 2 ^ (k + 1) := by positivity
  simp only [usat]
  omega

theorem rnd_eq (a : Word) (k : Nat) :
    Word.ofInt (rnd a.toInt k) = if k = 0 then a else Word.ofInt ((a.toInt + 2 ^ (k - 1)) / 2 ^ k) := by
  unfold rnd
  split
  · exact ofInt_toInt a
  · rfl

theorem qmul_eq (a b : Word) :
    sat32 (rnd (a.toInt * b.toInt) 31) = Word.ofInt (min ((a.toInt * b.toInt + 2 ^ 30) / 2 ^ 31) (2 ^ 31 - 1)) := by
  have hlow := (mul_bounds a b).1
  refine sat32_of_ge ?_
  simp only [rnd]
  omega

/-! ### Quotients and remainders (R138) -/

theorem divs_eq (a b : Word) : divs a b = if b = 0 then (if 0 < a.toInt then 0x7FFF_FFFF else if a.toInt < 0 then 0x8000_0000 else 0)
    else Word.ofInt (max (-2 ^ 31) (min (a.toInt.tdiv b.toInt) (2 ^ 31 - 1))) := by
  rw [divs, sat32_eq]

theorem modu_eq (a b : Word) :
    modu a b = if b = 0 then 0 else Word.ofInt (a.toNat - b.toNat * (a.toNat / b.toNat)) := by
  rw [modu, ← ofInt_natCast, Nat.cast_sub (Nat.mul_div_le _ _)]
  push_cast
  rfl

/-- The one quotient that saturates although the divisor is not 0. -/
theorem divs_mods_overflow : divs 0x8000_0000 0xFFFF_FFFF = 0x7FFF_FFFF ∧ mods 0x8000_0000 0xFFFF_FFFF = 0 := by decide

theorem toInt_ofInt_of_bounds {x : Int} (h : -2 ^ 31 ≤ x ∧ x < 2 ^ 31) : (Word.ofInt x).toInt = x := by
  rw [Word.ofInt, BitVec.toInt_ofInt]
  simp only [Int.bmod]
  omega

theorem toInt_ne_zero {b : Word} (hb : b ≠ 0) : b.toInt ≠ 0 := fun h => hb (BitVec.eq_of_toInt_eq (by rw [h]; rfl))

theorem tdiv_bounds {a b : Word} (hb : b ≠ 0) (h : ¬(a = 0x8000_0000 ∧ b = 0xFFFF_FFFF)) :
    -2 ^ 31 ≤ a.toInt.tdiv b.toInt ∧ a.toInt.tdiv b.toInt < 2 ^ 31 := by
  obtain ⟨hlo, hhi⟩ := toInt_bounds a
  have hb0 := toInt_ne_zero hb
  have hcorner : ¬(a.toInt = -2 ^ 31 ∧ b.toInt = -1) := fun ⟨ha, hb⟩ =>
    h ⟨BitVec.eq_of_toInt_eq ha, BitVec.eq_of_toInt_eq hb⟩
  by_cases h1 : b.toInt = 1
  · rw [h1, Int.tdiv_one]
    exact ⟨hlo, hhi⟩
  by_cases hneg : b.toInt = -1
  · rw [hneg, Int.tdiv_neg, Int.tdiv_one]
    omega
  have habs : (a.toInt.tdiv b.toInt).natAbs ≤ a.toInt.natAbs / 2 := by
    rw [Int.natAbs_tdiv]
    exact Nat.div_le_div_left (by omega) (by decide)
  omega

theorem tmod_bounds (a : Word) {b : Word} (hb : b ≠ 0) : -2 ^ 31 ≤ a.toInt.tmod b.toInt ∧ a.toInt.tmod b.toInt < 2 ^ 31 := by
  obtain ⟨hlo, hhi⟩ := toInt_bounds b
  have hb0 := toInt_ne_zero hb
  have habs : (a.toInt.tmod b.toInt).natAbs < b.toInt.natAbs := by
    rw [Int.natAbs_tmod]
    exact Nat.mod_lt _ (by omega)
  omega

/-- The dividend is the divisor times the quotient plus the remainder. -/
theorem toInt_eq_divs_mods {a b : Word} (hb : b ≠ 0) (h : ¬(a = 0x8000_0000 ∧ b = 0xFFFF_FFFF)) :
    a.toInt = b.toInt * (divs a b).toInt + (mods a b).toInt := by
  have hq := tdiv_bounds hb h
  have hr := tmod_bounds a hb
  have hdiv : (divs a b).toInt = a.toInt.tdiv b.toInt := by
    rw [divs_eq, if_neg hb, min_eq_left (by omega), max_eq_right hq.1, toInt_ofInt_of_bounds hq]
  have hmod : (mods a b).toInt = a.toInt.tmod b.toInt := by
    rw [mods, if_neg hb, ← Int.tmod_def, toInt_ofInt_of_bounds hr]
  rw [hdiv, hmod, Int.mul_tdiv_add_tmod]

theorem toNat_eq_divu_modu {a b : Word} (hb : b ≠ 0) : a.toNat = b.toNat * (divu a b).toNat + (modu a b).toNat := by
  have ha := a.isLt
  have hdiv : (divu a b).toNat = a.toNat / b.toNat := by
    rw [divu, if_neg hb, Word.ofNat, BitVec.toNat_ofNat, Nat.mod_eq_of_lt ((Nat.div_le_self _ _).trans_lt ha)]
  have hmod : (modu a b).toNat = a.toNat - b.toNat * (a.toNat / b.toNat) := by
    rw [modu, if_neg hb, Word.ofNat, BitVec.toNat_ofNat, Nat.mod_eq_of_lt ((Nat.sub_le _ _).trans_lt ha)]
  rw [hdiv, hmod, Nat.add_sub_cancel' (Nat.mul_div_le _ _)]

/-! ### Immediates (R135, R139) -/

theorem simm_eq (i : BitVec 17) : simm i = Word.ofInt i.toInt := by
  rw [← ofInt_toInt (simm i), simm, BitVec.toInt_signExtend_of_le (by decide)]

theorem toInt_simm (i : BitVec 17) : (simm i).toInt = i.toInt := BitVec.toInt_signExtend_of_le (by decide)

theorem toNat_simm (i : BitVec 17) : ((simm i).toNat : Int) = i.toInt % 2 ^ 32 := by
  rw [simm_eq, Word.ofInt, BitVec.toNat_ofInt]
  exact Int.toNat_of_nonneg (Int.emod_nonneg _ (by decide))

theorem truth_ult_simm (a : Word) (i : BitVec 17) : truth (a.ult (simm i)) = if (a.toNat : Int) < i.toInt % 2 ^ 32 then 1 else 0 := by
  simp only [truth_ult, ← toNat_simm, Nat.cast_lt]

theorem zimm_eq (i : BitVec 17) : zimm i = Word.ofNat i.toNat := by
  apply BitVec.eq_of_toNat_eq
  rw [zimm, BitVec.toNat_setWidth, Word.ofNat, BitVec.toNat_ofNat]

theorem himm_eq (i : BitVec 17) : himm i = Word.ofNat (i.toNat * 2 ^ 15) := by
  have hi := i.isLt
  rw [himm, shiftLeft_eq_ofNat, BitVec.toNat_setWidth, Nat.mod_eq_of_lt (by omega)]

theorem signExtend_shiftLeft_two {n : Nat} (i : BitVec n) (h : n ≤ 32) : i.signExtend 32 <<< 2 = Word.ofInt (i.toInt * 4) := by
  rw [BitVec.shiftLeft_eq_mul_twoPow, Word.ofInt, BitVec.ofInt_mul, ← BitVec.toInt_signExtend_of_le h, BitVec.ofInt_toInt]
  rfl

theorem branchOff_eq (i : BitVec 17) : branchOff i = Word.ofInt (i.toInt * 4) := signExtend_shiftLeft_two i (by decide)

theorem jumpOff_eq (i : BitVec 22) : jumpOff i = Word.ofInt (i.toInt * 4) := signExtend_shiftLeft_two i (by decide)

theorem add_ofInt (a : Word) (x : Int) : a + Word.ofInt x = Word.ofInt (a.toInt + x) := by
  rw [Word.ofInt, Word.ofInt, BitVec.ofInt_add, BitVec.ofInt_toInt]

/-! ### One operand -/

theorem popc_eq (a : Word) : popc a = Word.ofNat ((List.range 32).filter fun k => a.toNat.testBit k).length := by
  rw [popc, List.countP_eq_length_filter]
  rfl

theorem qneg_eq (a : Word) : sat32 (-a.toInt) = Word.ofInt (min (-a.toInt) (2 ^ 31 - 1)) := by
  have hhi := (toInt_bounds a).2
  exact sat32_of_ge (by omega)

theorem qabs_eq (a : Word) : sat32 a.toInt.natAbs = Word.ofInt (min |a.toInt| (2 ^ 31 - 1)) := by
  rw [Int.natCast_natAbs]
  exact sat32_of_ge (by have := abs_nonneg a.toInt; omega)

end Sys2Proof.Machine
end

section
/-! PROOF. The two-operand forms, divisions, one-operand and immediate forms, and accumulates (O5 to O7). -/

namespace Sys2Proof.Machine

/-! ### The shape -/

/-- The instruction `i` writes `g` of the registers ga and gb to gd, and goes on behind itself. -/
def ComputesR (i : Mach → BitVec 5 → BitVec 5 → BitVec 5 → Instr) (g : Word → Word → Word) : Prop :=
  ∀ (s u : State) (m : Mach) (gd ga gb : BitVec 5), s.Issues m u →
    ∃ t, exec (i m gd ga gb) s = .next t ∧ RegResult u t m gd (g (u.rg m ga) (u.rg m gb)) ((u.mach m).pc + 4)

theorem issue_setRetire {s u : State} {m : Mach} (hi : s.Issues m u) (gd : BitVec 5) (g : State → Word) {v : Word} (hv : g u = v) :
    ∃ t, (s.issue m fun s => s.setRetire m gd (g s)) = .next t ∧ RegResult u t m gd v ((u.mach m).pc + 4) :=
  ⟨_, issue_next hi _ (wg_rst u m gd _), hv ▸ regResult_setRetire u m gd _⟩


/-- An instruction whose meaning `x` computes `f`, which is `g`. -/
theorem computesR_of_aluR {i : Mach → BitVec 5 → BitVec 5 → BitVec 5 → Instr}
    (x : Mach → BitVec 5 → BitVec 5 → BitVec 5 → State → Host.Outcome State Fault Refusal) {f g : Word → Word → Word}
    (he : ∀ m gd ga gb s, exec (i m gd ga gb) s = x m gd ga gb s) (hx : ∀ m gd ga gb s, x m gd ga gb s = s.aluR m gd ga gb f)
    (hv : ∀ a b, f a b = g a b) : ComputesR i g := fun s _ m gd ga gb hi => by
  rw [he, hx]
  exact issue_setRetire hi gd (fun u => f (u.rg m ga) (u.rg m gb)) (hv _ _)

/-! ### The two-operand forms (R137, R140) -/

/-- Settles O5: each meaning computes the function of the table. -/
theorem aluRegisterForms : Obligations.AluRegisterForms := by
  unfold Obligations.AluRegisterForms
  intro p hp
  change ComputesR p.1 p.2
  revert p
  have hcount (b : Word) : shiftCount b < 32 := Nat.mod_lt _ (by decide)
  simp only [List.forall_mem_cons, List.not_mem_nil, false_implies, implies_true, and_true]
  refine ⟨?_, ?_, ?_, ?_, ?_, ?_, ?_, ?_, ?_, ?_, ?_, ?_, ?_, ?_, ?_, ?_, ?_, ?_, ?_, ?_, ?_, ?_, ?_, ?_, ?_, ?_⟩
  · exact computesR_of_aluR execAdd (fun _ _ _ _ _ => rfl) (fun _ _ _ _ _ => rfl) fun _ _ => add_eq_ofInt _ _
  · exact computesR_of_aluR execSub (fun _ _ _ _ _ => rfl) (fun _ _ _ _ _ => rfl) fun _ _ => sub_eq_ofInt _ _
  · exact computesR_of_aluR execAnd (fun _ _ _ _ _ => rfl) (fun _ _ _ _ _ => rfl) fun _ _ => rfl
  · exact computesR_of_aluR execOr (fun _ _ _ _ _ => rfl) (fun _ _ _ _ _ => rfl) fun _ _ => rfl
  · exact computesR_of_aluR execXor (fun _ _ _ _ _ => rfl) (fun _ _ _ _ _ => rfl) fun _ _ => rfl
  · exact computesR_of_aluR execAndn (fun _ _ _ _ _ => rfl) (fun _ _ _ _ _ => rfl) fun _ _ => rfl
  · exact computesR_of_aluR execShl (fun _ _ _ _ _ => rfl) (fun _ _ _ _ _ => rfl) fun _ _ => shiftLeft_eq_ofNat _ _
  · exact computesR_of_aluR execShr (fun _ _ _ _ _ => rfl) (fun _ _ _ _ _ => rfl) fun _ _ => shiftRight_eq_ofNat _ _
  · exact computesR_of_aluR execShra (fun _ _ _ _ _ => rfl) (fun _ _ _ _ _ => rfl) fun _ _ => sshiftRight_eq_ofInt _ _
  · exact computesR_of_aluR execRotr (fun _ _ _ _ _ => rfl) (fun _ _ _ _ _ => rfl) fun _ b => rotateRight_eq_ofNat _ _ (hcount b)
  · exact computesR_of_aluR execClt (fun _ _ _ _ _ => rfl) (fun _ _ _ _ _ => rfl) fun _ _ => truth_slt _ _
  · exact computesR_of_aluR execCltu (fun _ _ _ _ _ => rfl) (fun _ _ _ _ _ => rfl) fun _ _ => truth_ult _ _
  · exact computesR_of_aluR execMin (fun _ _ _ _ _ => rfl) (fun _ _ _ _ _ => rfl) fun _ _ => min_eq_ofInt _ _
  · exact computesR_of_aluR execMax (fun _ _ _ _ _ => rfl) (fun _ _ _ _ _ => rfl) fun _ _ => max_eq_ofInt _ _
  · exact computesR_of_aluR execMinu (fun _ _ _ _ _ => rfl) (fun _ _ _ _ _ => rfl) fun _ _ => minu_eq_ofNat _ _
  · exact computesR_of_aluR execMaxu (fun _ _ _ _ _ => rfl) (fun _ _ _ _ _ => rfl) fun _ _ => maxu_eq_ofNat _ _
  · exact computesR_of_aluR execMul (fun _ _ _ _ _ => rfl) (fun _ _ _ _ _ => rfl) fun _ _ => mul_eq_ofNat _ _
  · exact computesR_of_aluR execMulhiS (fun _ _ _ _ _ => rfl) (fun _ _ _ _ _ => rfl) fun _ _ => rfl
  · exact computesR_of_aluR execMulhiU (fun _ _ _ _ _ => rfl) (fun _ _ _ _ _ => rfl) fun _ _ => rfl
  · exact computesR_of_aluR execQadd (fun _ _ _ _ _ => rfl) (fun _ _ _ _ _ => rfl) fun _ _ => sat32_eq _
  · exact computesR_of_aluR execQsub (fun _ _ _ _ _ => rfl) (fun _ _ _ _ _ => rfl) fun _ _ => sat32_eq _
  · exact computesR_of_aluR execQmul (fun _ _ _ _ _ => rfl) (fun _ _ _ _ _ => rfl) fun _ _ => qmul_eq _ _
  · exact computesR_of_aluR execSats (fun _ _ _ _ _ => rfl) (fun _ _ _ _ _ => rfl) fun _ _ => congrArg Word.ofInt (sat_eq _ _)
  · exact computesR_of_aluR execSatu (fun _ _ _ _ _ => rfl) (fun _ _ _ _ _ => rfl) fun _ _ => congrArg Word.ofInt (usat_eq _ _)
  · exact computesR_of_aluR execQshl (fun _ _ _ _ _ => rfl) (fun _ _ _ _ _ => rfl) fun _ _ => sat32_eq _
  · exact computesR_of_aluR execQrshr (fun _ _ _ _ _ => rfl) (fun _ _ _ _ _ => rfl) fun _ _ => rnd_eq _ _

/-! ### Divisions (R138) -/

/-- Settles O6: the four meanings are the functions of R138, and their values obey the division identities. -/
theorem divisions : Obligations.Divisions := by
  unfold Obligations.Divisions
  intro s u m gd ga gb hi a b
  have hexec : ∀ p ∈ [(Instr.divs m gd ga gb, divs a b), (.mods m gd ga gb, mods a b), (.divu m gd ga gb, divu a b),
      (.modu m gd ga gb, modu a b)], ∃ t, exec p.1 s = .next t ∧ RegResult u t m gd p.2 ((u.mach m).pc + 4) := by
    simp only [List.forall_mem_cons, List.not_mem_nil, false_implies, implies_true, and_true]
    refine ⟨?_, ?_, ?_, ?_⟩
    · exact computesR_of_aluR execDivs (fun _ _ _ _ _ => rfl) (fun _ _ _ _ _ => rfl) (fun _ _ => rfl) s u m gd ga gb hi
    · exact computesR_of_aluR execMods (fun _ _ _ _ _ => rfl) (fun _ _ _ _ _ => rfl) (fun _ _ => rfl) s u m gd ga gb hi
    · exact computesR_of_aluR execDivu (fun _ _ _ _ _ => rfl) (fun _ _ _ _ _ => rfl) (fun _ _ => rfl) s u m gd ga gb hi
    · exact computesR_of_aluR execModu (fun _ _ _ _ _ => rfl) (fun _ _ _ _ _ => rfl) (fun _ _ => rfl) s u m gd ga gb hi
  refine ⟨divs a b, mods a b, divu a b, modu a b, hexec, divs_eq a b, rfl, rfl, modu_eq a b, fun ha hb => ?_,
    fun hb h => toInt_eq_divs_mods hb h, fun hb => toNat_eq_divu_modu hb⟩
  rw [ha, hb]
  exact divs_mods_overflow

/-! ### Immediate forms (R139) -/

/-- The instruction `i` writes `g` of the register ga and the immediate to gd, and goes on behind itself. -/
def ComputesI (i : Mach → BitVec 5 → BitVec 5 → BitVec 17 → Instr) (g : Word → BitVec 17 → Word) : Prop :=
  ∀ (s u : State) (m : Mach) (gd ga : BitVec 5) (k : BitVec 17), s.Issues m u →
    ∃ t, exec (i m gd ga k) s = .next t ∧ RegResult u t m gd (g (u.rg m ga) k) ((u.mach m).pc + 4)

/-- An instruction whose meaning `x` computes `f`, which is `g`. -/
theorem computesI_of_aluU {i : Mach → BitVec 5 → BitVec 5 → BitVec 17 → Instr}
    (x : Mach → BitVec 5 → BitVec 5 → BitVec 17 → State → Host.Outcome State Fault Refusal) {f : BitVec 17 → Word → Word}
    {g : Word → BitVec 17 → Word} (he : ∀ m gd ga k s, exec (i m gd ga k) s = x m gd ga k s)
    (hx : ∀ m gd ga k s, x m gd ga k s = s.aluU m gd ga (f k)) (hv : ∀ a k, f k a = g a k) : ComputesI i g :=
  fun s _ m gd ga k hi => by
    rw [he, hx]
    exact issue_setRetire hi gd (fun u => f k (u.rg m ga)) (hv _ _)

/-! ### MACL (R140) -/

theorem pairHi_ne {r : BitVec 5} (h : r.toNat % 2 = 0) : pairHi r ≠ r ∧ pairHi r ≠ 0 := by
  unfold pairHi
  constructor <;> bv_omega

theorem rg_setPair64_other (u : State) (m : Mach) {r q : BitVec 5} (h : q ≠ r) (h' : q ≠ pairHi r) (v : BitVec 64) :
    (u.setPair64 m r v).rg m q = u.rg m q := by
  rw [State.setPair64, rg_wg_ne _ m h', rg_wg_ne _ m h]

theorem pair64_setPair64 (u : State) (m : Mach) {r : BitVec 5} (h0 : r ≠ 0) (h2 : r.toNat % 2 = 0) (v : BitVec 64) :
    (u.setPair64 m r v).pair64 m r = v.toNat := by
  obtain ⟨hne, hne0⟩ := pairHi_ne h2
  have hv := v.isLt
  rw [State.pair64, State.setPair64, rg_wg_same, if_neg hne0, rg_wg_ne _ m hne.symm, rg_wg_same, if_neg h0, BitVec.toNat_setWidth,
    BitVec.toNat_setWidth, BitVec.toNat_ushiftRight, Nat.shiftRight_eq_div_pow]
  omega

theorem setPair64_machs (u : State) (m : Mach) (r : BitVec 5) (v : BitVec 64) : { u.setPair64 m r v with machs := u.machs } = u := by
  unfold State.setPair64 State.wg
  split <;> split <;> rfl

/-- A write of a pair, and retirement. -/
theorem macl_result (u : State) (m : Mach) {gd : BitVec 5} (h0 : gd ≠ 0) (h2 : gd.toNat % 2 = 0) (v : BitVec 64) :
    let t := (u.setPair64 m gd v).retire m
    t.pair64 m gd = v.toNat ∧ (∀ r, r ≠ gd → r ≠ gd + 1 → t.rg m r = u.rg m r) ∧ (t.mach m).pc = (u.mach m).pc + 4 ∧
      (∀ k, t.rc' m k = u.rc' m k) ∧ { t with machs := u.machs } = u := by
  have hres := sysResult_retire (u.setPair64 m gd v) m
  refine ⟨?_, fun r hr hr' => ?_, ?_, fun k => ?_, ?_⟩
  · rw [State.pair64, hres.general, hres.general]
    exact pair64_setPair64 u m h0 h2 v
  · rw [hres.general, rg_setPair64_other u m hr hr']
  · rw [hres.pc, State.setPair64, pc_wg, pc_wg]
  · rw [hres.control k List.not_mem_nil, State.setPair64, rc_wg, rc_wg]
  · exact (congrArg (fun x : State => { x with machs := u.machs }) hres.rest).trans (setPair64_machs u m gd v)

theorem exec_macl {s u : State} {m : Mach} (hi : s.Issues m u) {gd : BitVec 5} (h0 : gd ≠ 0) (h2 : gd.toNat % 2 = 0) (ga gb : BitVec 5) :
    exec (.macl m gd ga gb) s = .next ((u.setPair64 m gd (.ofInt 64 (sat ((BitVec.ofNat 64 (u.pair64 m gd)).toInt
      + (u.rg m ga).toInt * (u.rg m gb).toInt) 64))).retire m) := by
  refine (issue_of_issues hi _).trans ?_
  rw [if_pos (pairOk_of_even h0 h2)]
  refine ok_of_rst (s := u) ?_ hi.settled
  rw [State.retire, retireTo_rst, State.setPair64, wg_rst, wg_rst]

/-! ### The obligation -/

/-- Settles O7: each meaning computes the function of the table; MACL writes the pair. -/
theorem immediateFormsAndAccumulate : Obligations.ImmediateFormsAndAccumulate := by
  unfold Obligations.ImmediateFormsAndAccumulate
  refine ⟨fun p hp => ?_, fun s u m gd ga gb i hi => ⟨?_, ?_, ?_, ?_, fun h0 h2 => ?_⟩⟩
  · change ComputesI p.1 p.2
    revert p
    have hcount (k : BitVec 17) : (k.setWidth 5).toNat = k.toNat % 32 := BitVec.toNat_setWidth 5 k
    have hlt (k : BitVec 17) : k.toNat % 32 < 32 := Nat.mod_lt _ (by decide)
    simp only [List.forall_mem_cons, List.not_mem_nil, false_implies, implies_true, and_true]
    refine ⟨?_, ?_, ?_, ?_, ?_, ?_, ?_, ?_, ?_, ?_, ?_, ?_, ?_, ?_⟩
    · exact computesI_of_aluU (fun m gd ga _ => execClz m gd ga) (fun _ _ _ _ _ => rfl) (fun _ _ _ _ _ => rfl) fun _ _ => rfl
    · exact computesI_of_aluU (fun m gd ga _ => execPopc m gd ga) (fun _ _ _ _ _ => rfl) (fun _ _ _ _ _ => rfl) fun _ _ => popc_eq _
    · exact computesI_of_aluU (fun m gd ga _ => execQneg m gd ga) (fun _ _ _ _ _ => rfl) (fun _ _ _ _ _ => rfl) fun _ _ => qneg_eq _
    · exact computesI_of_aluU (fun m gd ga _ => execQabs m gd ga) (fun _ _ _ _ _ => rfl) (fun _ _ _ _ _ => rfl) fun _ _ => qabs_eq _
    · exact computesI_of_aluU execAddi (fun _ _ _ _ _ => rfl) (fun _ _ _ _ _ => rfl) fun a k => by rw [simm_eq, add_ofInt]
    · exact computesI_of_aluU execAndi (fun _ _ _ _ _ => rfl) (fun _ _ _ _ _ => rfl) fun a k => by rw [zimm_eq]
    · exact computesI_of_aluU execOri (fun _ _ _ _ _ => rfl) (fun _ _ _ _ _ => rfl) fun a k => by rw [zimm_eq]
    · exact computesI_of_aluU execXori (fun _ _ _ _ _ => rfl) (fun _ _ _ _ _ => rfl) fun a k => by rw [zimm_eq]
    · exact computesI_of_aluU execClti (fun _ _ _ _ _ => rfl) (fun _ _ _ _ _ => rfl) fun a k => by rw [truth_slt, toInt_simm]
    · exact computesI_of_aluU execCltiu (fun _ _ _ _ _ => rfl) (fun _ _ _ _ _ => rfl) fun a k => truth_ult_simm a k
    · exact computesI_of_aluU (fun m gd ga k => execShli m gd ga (k.setWidth 5)) (fun _ _ _ _ _ => rfl) (fun _ _ _ _ _ => rfl) fun a k => by
        rw [hcount, shiftLeft_eq_ofNat]
    · exact computesI_of_aluU (fun m gd ga k => execShri m gd ga (k.setWidth 5)) (fun _ _ _ _ _ => rfl) (fun _ _ _ _ _ => rfl) fun a k => by
        rw [hcount, shiftRight_eq_ofNat]
    · exact computesI_of_aluU (fun m gd ga k => execShrai m gd ga (k.setWidth 5)) (fun _ _ _ _ _ => rfl) (fun _ _ _ _ _ => rfl) fun a k => by
        rw [hcount, sshiftRight_eq_ofInt]
    · exact computesI_of_aluU (fun m gd ga k => execRotri m gd ga (k.setWidth 5)) (fun _ _ _ _ _ => rfl) (fun _ _ _ _ _ => rfl) fun a k => by
        rw [hcount, rotateRight_eq_ofNat _ _ (hlt k)]
  · exact issue_setRetire hi gd (fun _ => himm i) (himm_eq i)
  · exact issue_setRetire hi gd (fun u => (u.mach m).pc + himm i) (by rw [himm_eq, word_add_ofNat])
  · exact issue_setRetire hi gd (fun u => sat32 ((u.rg m gd).toInt + rnd ((u.rg m ga).toInt * (u.rg m gb).toInt) 31)) (sat32_eq _)
  · exact issue_setRetire hi gd (fun u => sat32 ((u.rg m gd).toInt - rnd ((u.rg m ga).toInt * (u.rg m gb).toInt) 31)) (sat32_eq _)
  · obtain ⟨hpair, hrest⟩ := macl_result u m h0 h2 (.ofInt 64 (sat ((BitVec.ofNat 64 (u.pair64 m gd)).toInt
      + (u.rg m ga).toInt * (u.rg m gb).toInt) 64))
    refine ⟨_, exec_macl hi h0 h2 ga gb, ?_, hrest⟩
    rw [hpair, BitVec.toNat_ofInt, sat_eq _ 63]
    rfl

end Sys2Proof.Machine
end

section
/-! PROOF. Branches and jumps (O8). -/

namespace Sys2Proof.Machine

/-! ### Branches -/

/-- The instruction `i` goes to the branch target where `p` of the registers gd and ga holds, and behind itself elsewhere; it
writes no register. -/
def BranchesOn (i : Mach → BitVec 5 → BitVec 5 → BitVec 17 → Instr) (p : Word → Word → Bool) : Prop :=
  ∀ (s u : State) (m : Mach) (gd ga : BitVec 5) (k : BitVec 17), s.Issues m u →
    ∃ t, exec (i m gd ga k) s = .next t ∧ RegResult u t m 0 0
      (if p (u.rg m gd) (u.rg m ga) then .ofInt ((u.mach m).pc.toInt + k.toInt * 4) else (u.mach m).pc + 4)

/-- A branch whose meaning `x` decides by `q`, which is `p`. -/
theorem branchesOn_of_branch {i : Mach → BitVec 5 → BitVec 5 → BitVec 17 → Instr}
    (x : Mach → BitVec 5 → BitVec 5 → BitVec 17 → State → Host.Outcome State Fault Refusal) {p q : Word → Word → Bool}
    (he : ∀ m gd ga k s, exec (i m gd ga k) s = x m gd ga k s) (hx : ∀ m gd ga k s, x m gd ga k s = s.branch m gd ga k q)
    (hp : ∀ d a, q d a = p d a) : BranchesOn i p := fun s u m gd ga k hi => by
  rw [he, hx]
  refine ⟨_, issue_next hi _ rfl, ?_⟩
  dsimp only
  rw [hp, branchOff_eq, add_ofInt]
  exact regResult_retireTo u m 0 0 _

theorem bne_eq_decide (a b : Word) : (a != b) = decide (a ≠ b) := by
  rw [bne, beq_eq_decide, decide_not]

theorem not_slt (a b : Word) : (!a.slt b) = decide (b.toInt ≤ a.toInt) := by
  rw [BitVec.slt, ← decide_not, decide_eq_decide, not_lt]

theorem not_ult (a b : Word) : (!a.ult b) = decide (b.toNat ≤ a.toNat) := by
  rw [BitVec.ult, ← decide_not, decide_eq_decide, not_lt]

/-! ### Jumps -/

section Jumps
variable {s u : State} {m : Mach} {gd ga : BitVec 5}

theorem exec_jal (hi : s.Issues m u) (j : BitVec 22) : exec (.jal m gd j) s =
    .next ((u.wg m gd ((u.mach m).pc + 4)).retireTo m (.ofInt ((u.mach m).pc.toInt + j.toInt * 4))) := by
  rw [← add_ofInt, ← jumpOff_eq]
  exact issue_next hi _ (wg_rst u m gd _)

theorem effAddr_eq (i : BitVec 17) : u.effAddr m ga i = .ofInt ((u.rg m ga).toInt + i.toInt) := by
  rw [State.effAddr, simm_eq, add_ofInt]

theorem and_three_eq_zero_iff (w : Word) : w &&& 3 = 0 ↔ w.toNat % 4 = 0 := by
  rw [← BitVec.toNat_inj, BitVec.toNat_and]
  exact iff_of_eq (congrArg (· = 0) (Nat.and_two_pow_sub_one_eq_mod w.toNat 2))

theorem exec_jalr_aligned (hi : s.Issues m u) {i : BitVec 17} (h : (u.effAddr m ga i).toNat % 4 = 0) :
    exec (.jalr m gd ga i) s = .next ((u.wg m gd ((u.mach m).pc + 4)).retireTo m (u.effAddr m ga i)) := by
  refine (issue_of_issues hi _).trans ?_
  rw [if_pos ((and_three_eq_zero_iff _).2 h)]
  exact ok_of_rst (s := u) (wg_rst u m gd _) hi.settled

theorem exec_jalr_misaligned (hi : s.Issues m u) {i : BitVec 17} (h : (u.effAddr m ga i).toNat % 4 ≠ 0) :
    exec (.jalr m gd ga i) s = ok (u.trap m 7 4 (u.effAddr m ga i)) :=
  (issue_of_issues hi _).trans (by rw [if_neg (mt (and_three_eq_zero_iff _).1 h)])

/-- A fetch from a region that cannot be executed traps (R113). -/
theorem fetch_of_no_region (h : inSram (u.mach m).pc.toNat = false) (h' : inFlash (u.mach m).pc.toNat = false)
    (ha : u.alive m = true) (hn : (u.mach m).nmiFirst = false) :
    u.fetch m = (false, u.trapAt m (u.mach m).pc 7 1 (u.mach m).pc) := by
  simp [State.fetch, h, h', State.fetchTrap, ha, hn, State.trap]

end Jumps

/-! ### The obligation -/

/-- Settles O8: a branch retires at one of its two targets; a jump links and retires, or traps as an instruction does. -/
theorem branchesAndJumps : Obligations.BranchesAndJumps := by
  unfold Obligations.BranchesAndJumps
  refine ⟨fun p hp => ?_, fun s u m gd ga i j hi => ?_, fun t m h ha hn hs hf he hv => ?_⟩
  · change BranchesOn p.1 p.2
    revert p
    simp only [List.forall_mem_cons, List.not_mem_nil, false_implies, implies_true, and_true]
    refine ⟨?_, ?_, ?_, ?_, ?_, ?_⟩
    · exact branchesOn_of_branch execBeq (fun _ _ _ _ _ => rfl) (fun _ _ _ _ _ => rfl) fun _ _ => rfl
    · exact branchesOn_of_branch execBne (fun _ _ _ _ _ => rfl) (fun _ _ _ _ _ => rfl) bne_eq_decide
    · exact branchesOn_of_branch execBlt (fun _ _ _ _ _ => rfl) (fun _ _ _ _ _ => rfl) fun _ _ => rfl
    · exact branchesOn_of_branch execBge (fun _ _ _ _ _ => rfl) (fun _ _ _ _ _ => rfl) not_slt
    · exact branchesOn_of_branch execBltu (fun _ _ _ _ _ => rfl) (fun _ _ _ _ _ => rfl) fun _ _ => rfl
    · exact branchesOn_of_branch execBgeu (fun _ _ _ _ _ => rfl) (fun _ _ _ _ _ => rfl) not_ult
  · intro target
    have htarget : u.effAddr m ga i = target := effAddr_eq i
    rw [← htarget]
    refine ⟨⟨_, exec_jal hi j, regResult_retireTo u m gd _ _⟩, fun h => ⟨_, exec_jalr_aligned hi h, regResult_retireTo u m gd _ _⟩,
      fun h => ⟨exec_jalr_misaligned hi h, fun w he hv => ?_⟩⟩
    have ha := alive_of_issues hi
    exact ⟨_, (exec_jalr_misaligned hi h).trans (ok_trapAt hi.settled hv ha he _ _ _ _), entered_trapAt hv ha he _ 7 4 _⟩
  · rw [fetch_of_no_region hs hf ha hn]
    exact ⟨rfl, entered_trapAt hv ha he _ 7 1 _⟩

end Sys2Proof.Machine
end

section
/-! PROOF. Loads, stores and atomics on SRAM (O9 to O11). -/

namespace Sys2Proof.Machine

/-! ### Accesses that pass their checks (R99, R116) -/

section Access
variable {s u : State} {m : Mach}

theorem inDevice_of_inSram {a : Nat} (h : a < 0x0100_0000) : inDevice a = false ∧ inWindow a = false ∧ inSram a = true ∧ inFlash a = false := by
  simp only [inDevice, inWindow, inSram, inFlash, Bool.and_eq_false_iff, decide_eq_false_iff_not, decide_eq_true_eq]
  omega

/-- An aligned access to SRAM that is ready, and that the machine may make, is performed. -/
theorem loadStore_of_ready {a : CoreAccess} (hal : a.addr % a.width = 0) (hr : u.SramReady a.addr a.width) (hw : 0 < a.width)
    (hp : a.write = true → u.atStation m = true ∨ u.inTwin m a.addr a.width = true) :
    u.loadStore m a = if a.write then u.memStore m a else u.memLoad m a := by
  have hin := hr.inside
  obtain ⟨hdev, hwin, hsram, hflash⟩ := inDevice_of_inSram (a := a.addr) (by omega)
  have hdetail : u.accessDetail m a.write a.addr a.width = none := by
    cases hwr : a.write with
    | false => simp [State.accessDetail, hdev, hsram]
    | true => rcases hp hwr with h | h <;> simp [State.accessDetail, hdev, hsram, hflash, h]
  rw [State.loadStore, if_neg (by simpa using hal), hdetail]
  simp [State.coreAccess, hwin, hdev, hr.noHeal]

/-- A load of bytes that are ready and written. -/
theorem memLoad_of_ready {a : CoreAccess} (hr : u.SramReady a.addr a.width) (hw : 0 < a.width)
    (hm : ∀ k < a.width, u.markOf ((a.addr + k) / 8) = some .written) (ha : u.alive m = true) :
    u.memLoad m a = u.setRetire m a.rd (loadValue a.width a.signed (u.sramRead a.addr a.width)) := by
  have hin := hr.inside
  obtain ⟨-, -, hsram, -⟩ := inDevice_of_inSram (a := a.addr) (by omega)
  have hun : u.anyMark isUnwritten a.addr a.width = false := anyMark_eq_false fun k hk => isUnwritten_eq_false (hm k hk)
  simp [State.memLoad, hsram, sramLoad_of_ready hr, hun, State.loaded, still_of_alive ha]

/-- A store to bytes that are ready. -/
theorem memStore_of_ready {a : CoreAccess} (hr : u.SramReady a.addr a.width) (ha : u.alive m = true) :
    u.memStore m a = (u.sramPut a.addr (leBytes a.data.toNat a.width)).retire m := by
  have hr' : u.SramReady a.addr (leBytes a.data.toNat a.width).length := by rwa [leBytes_length]
  rw [State.memStore, sramWrite_of_ready hr']
  exact still_of_alive (u := u.sramPut _ _) ha _

end Access

/-! ### Loads (R141) -/

/-- The value of an integer of `w` bytes, sign-extended where `signed` says so. -/
theorem loadValue_eq {w : Nat} {signed : Bool} (h : (w, signed) ∈ [(4, false), (2, true), (2, false), (1, true), (1, false)]) {n : Nat}
    (hn : n < 256 ^ w) :
    loadValue w signed n = .ofInt (if signed ∧ 2 ^ (8 * w - 1) ≤ n then n - 2 ^ (8 * w) else n) := by
  have hsigned {v : Nat} (hv : v ≤ 32) {n : Nat} (hn : n < 2 ^ v) :
      (BitVec.ofNat v n).signExtend 32 = Word.ofInt (if 2 * n < 2 ^ v then (n : Int) else n - (2 ^ v : Nat)) := by
    rw [← ofInt_toInt (BitVec.signExtend 32 _), BitVec.toInt_signExtend_of_le hv, BitVec.toInt_eq_toNat_cond, BitVec.toNat_ofNat,
      Nat.mod_eq_of_lt hn]
  simp only [List.mem_cons, Prod.mk.injEq, List.not_mem_nil, or_false] at h
  rcases h with ⟨rfl, rfl⟩ | ⟨rfl, rfl⟩ | ⟨rfl, rfl⟩ | ⟨rfl, rfl⟩ | ⟨rfl, rfl⟩
  · exact (ofInt_natCast n).symm
  · refine (hsigned (by decide) hn).trans (congrArg Word.ofInt ?_)
    simp only [true_and]
    split <;> split <;> omega
  · exact (congrArg Word.ofNat (Nat.mod_eq_of_lt hn)).trans (ofInt_natCast n).symm
  · refine (hsigned (by decide) hn).trans (congrArg Word.ofInt ?_)
    simp only [true_and]
    split <;> split <;> omega
  · exact (congrArg Word.ofNat (Nat.mod_eq_of_lt hn)).trans (ofInt_natCast n).symm

/-- The instruction `i` loads `w` bytes. -/
theorem load_result {s u : State} {m : Mach} {gd ga : BitVec 5} {i : BitVec 17} {w : Nat} {signed : Bool} (hi : s.Issues m u)
    (h : (w, signed) ∈ [(4, false), (2, true), (2, false), (1, true), (1, false)]) (hal : (u.effAddr m ga i).toNat % w = 0)
    (hr : u.SramReady (u.effAddr m ga i).toNat w) (hm : ∀ k < w, u.markOf (((u.effAddr m ga i).toNat + k) / 8) = some .written)
    {n : Nat} (hn : n = u.sramRead (u.effAddr m ga i).toNat w) :
    ∃ t, s.load m gd ga i w signed = .next t ∧
      RegResult u t m gd (.ofInt (if signed ∧ 2 ^ (8 * w - 1) ≤ n then n - 2 ^ (8 * w) else n)) ((u.mach m).pc + 4) := by
  have hw : 0 < w := by
    simp only [List.mem_cons, Prod.mk.injEq, List.not_mem_nil, or_false] at h
    omega
  have hexec : s.load m gd ga i w signed = ok (u.setRetire m gd (loadValue w signed n)) := by
    rw [State.load, issue_of_issues hi, loadStore_of_ready hal hr hw (fun h => absurd h (by simp)), if_neg (by simp),
      memLoad_of_ready hr hw hm (alive_of_issues hi), hn]
  refine ⟨_, hexec.trans (ok_of_rst (s := u) (wg_rst u m gd _) hi.settled), ?_⟩
  rw [← loadValue_eq h (hn ▸ sramRead_lt u _ _)]
  exact regResult_setRetire u m gd _

/-- Settles O9: a load of bytes that are ready writes their value and retires. -/
theorem loadsFromSram : Obligations.LoadsFromSram := by
  unfold Obligations.LoadsFromSram
  intro p hp s u m gd ga i hi a hal hr hm n
  have ha : a = (u.effAddr m ga i).toNat := by rw [effAddr_eq]
  clear_value a
  subst ha
  simp only [List.mem_cons, List.not_mem_nil, or_false] at hp
  rcases hp with rfl | rfl | rfl | rfl | rfl
  · exact load_result hi (by decide) hal hr hm rfl
  · exact load_result hi (by decide) hal hr hm rfl
  · exact load_result hi (by decide) hal hr hm rfl
  · exact load_result hi (by decide) hal hr hm rfl
  · exact load_result hi (by decide) hal hr hm rfl

/-! ### Stores (R99, R141) -/

theorem lookupNat_markRange (l : List (Nat × Mark)) (a n k : Nat) (h : k < n) :
    lookupNat ((a + k) / 8) (markRange l a n) = some .written := by
  induction n with
  | zero => omega
  | succ n ih =>
    rw [markRange]
    by_cases hw : (a + k) / 8 = (a + n) / 8
    · rw [hw, lookupNat_insertNat_same]
    · rw [lookupNat_insertNat_ne hw]
      exact ih (by
        have : k ≠ n := fun h => hw (by rw [h])
        omega)

/-- Bytes stored to SRAM that is ready. -/
theorem store_result {s u : State} {m : Mach} {gd ga : BitVec 5} {i : BitVec 17} {w : Nat} (hi : s.Issues m u) (hC : u.Canon) (hw : 0 < w)
    (hal : (u.effAddr m ga i).toNat % w = 0) (hr : u.SramReady (u.effAddr m ga i).toNat w)
    (hp : u.atStation m = true ∨ u.inTwin m (u.effAddr m ga i).toNat w = true) {a : Nat} (ha : a = (u.effAddr m ga i).toNat) :
    ∃ t, s.store m gd ga i w = .next t ∧
      (∀ k < w, t.sramByte (a + k) = .ofNat 8 ((u.rg m gd).toNat / 2 ^ (8 * k))) ∧
      (∀ b, b < a ∨ a + w ≤ b → t.sramByte b = u.sramByte b) ∧ (∀ b, t.flashByte b = u.flashByte b) ∧
      (∀ k < w, t.markOf ((a + k) / 8) = some .written) ∧ (t.mach m).pc = (u.mach m).pc + 4 ∧
      (∀ r, t.rg m r = u.rg m r) ∧ (∀ k, t.rc' m k = u.rc' m k) ∧ (∀ k, k ≠ m → t.mach k = u.mach k) ∧ (∀ r, t.getR r = u.getR r) := by
  subst ha
  have hexec : s.store m gd ga i w = ok ((u.sramPut (u.effAddr m ga i).toNat (leBytes (u.rg m gd).toNat w)).retire m) := by
    rw [State.store, issue_of_issues hi, loadStore_of_ready hal hr hw (fun _ => hp), if_pos rfl, memStore_of_ready hr (alive_of_issues hi)]
  have hres := sysResult_retire (u.sramPut (u.effAddr m ga i).toNat (leBytes (u.rg m gd).toNat w)) m
  refine ⟨_, hexec.trans (ok_of_rst (s := u) rfl hi.settled), fun k hk => ?_, fun b hb => ?_, fun b => rfl, fun k hk => ?_, hres.pc,
    fun r => hres.general r, fun k => hres.control k List.not_mem_nil, fun k hk => hres.machines k hk, fun r => rfl⟩
  · rw [Nat.pow_mul]
    exact sramByte_sramPut_in hC _ _ _ k hk
  · exact sramByte_sramPut_out u _ _ b (by rwa [leBytes_length])
  · exact lookupNat_markRange _ _ _ k (by rwa [leBytes_length])

/-- Settles O10: a store to bytes that are ready puts them and retires. -/
theorem storesToSram : Obligations.StoresToSram := by
  unfold Obligations.StoresToSram
  intro p hp s u m gd ga i hi hC a hal hr hperm
  simp only [List.mem_cons, List.not_mem_nil, or_false] at hp
  rcases hp with rfl | rfl | rfl
  · exact store_result hi hC (by decide) hal hr hperm rfl
  · exact store_result hi hC (by decide) hal hr hperm rfl
  · exact store_result hi hC (by decide) hal hr hperm rfl

/-! ### Atomics (R143) -/

section Atomic
variable {s u : State} {m : Mach} {gd ga gb : BitVec 5}

/-- The memory after an atomic on the word at `a`: `w`, or none where nothing is stored. -/
def State.atomicPut (u : State) (a : Nat) : Option Word → State
  | some w => u.sramStore a (leBytes w.toNat 4)
  | none => u

theorem atomicPut_rst (a : Nat) (o : Option Word) : (u.atomicPut a o).rst = u.rst := by cases o <;> rfl

theorem atomicPut_machs (a : Nat) (o : Option Word) : (u.atomicPut a o).machs = u.machs := by cases o <;> rfl

theorem sramRead_atomicPut (hC : u.Canon) (a : Nat) (o : Option Word) :
    (u.atomicPut a o).sramRead a 4 = (o.getD (.ofNat (u.sramRead a 4))).toNat := by
  cases o with
  | some w => exact (sramRead_sramStore (sramWf_of_canon hC) a _ 4).trans (Nat.mod_eq_of_lt w.isLt)
  | none =>
    have hlt : u.sramRead a 4 < 2 ^ 32 := sramRead_lt u a 4
    exact (Nat.mod_eq_of_lt hlt).symm

theorem sramByte_atomicPut_out (a : Nat) (o : Option Word) {b : Nat} (hb : b < a ∨ a + 4 ≤ b) :
    (u.atomicPut a o).sramByte b = u.sramByte b := by
  cases o with
  | some w => exact sramByte_sramStore_out u a _ b (by rwa [leBytes_length])
  | none => rfl

/-- An atomic on a word that is ready and written, where the machine may store. -/
theorem atomic_of_ready (hw : u.WordReady (u.rg m ga).toNat) (ha4 : (u.rg m ga).toNat % 4 = 0) (ha : u.alive m = true)
    (hp : u.atStation m = true ∨ u.inTwin m (u.rg m ga).toNat 4 = true) (p : Word → Bool) (f : Word → Word) :
    u.atomic m gd ga p f = (u.atomicPut (u.rg m ga).toNat (if p (.ofNat (u.sramRead (u.rg m ga).toNat 4))
      then some (f (.ofNat (u.sramRead (u.rg m ga).toNat 4))) else none)).setRetire m gd (.ofNat (u.sramRead (u.rg m ga).toNat 4)) := by
  have hin := hw.ready.inside
  obtain ⟨-, -, hsram, -⟩ := inDevice_of_inSram (a := (u.rg m ga).toNat) (by omega)
  have hperm : (!u.atStation m && !u.inTwin m (u.rg m ga).toNat 4) = false := by rcases hp with h | h <;> simp [h]
  have hun : u.anyMark isUnwritten (u.rg m ga).toNat 4 = false := anyMark_eq_false fun k hk => isUnwritten_eq_false (hw.written k hk)
  have hdo : u.atomic m gd ga p f = u.atomicDo m gd (u.rg m ga).toNat p f := by
    simp [State.atomic, ha4, hsram, hperm, hw.ready.noHeal]
  rw [hdo, State.atomicDo, sramLoad_of_ready hw.ready]
  simp only [hun, Bool.false_and, Bool.false_eq_true, if_false, still_of_alive ha]
  split <;> rfl

/-- An atomic `i` that stores `f old` where `p old` holds, and leaves `v` in memory. -/
theorem atomic_result {i : Instr} (hi : s.Issues m u) (hC : u.Canon) (hw : u.WordReady (u.rg m ga).toNat)
    (ha4 : (u.rg m ga).toNat % 4 = 0) (hp : u.atStation m = true ∨ u.inTwin m (u.rg m ga).toNat 4 = true)
    (p : State → Word → Bool) (f : State → Word → Word) (he : exec i s = s.issue m fun s => s.atomic m gd ga (p s) (f s))
    {old v : Word} (ho : old = .ofNat (u.sramRead (u.rg m ga).toNat 4)) (hv : (if p u old then f u old else old) = v) :
    ∃ t, exec i s = .next t ∧ t.sramRead (u.rg m ga).toNat 4 = v.toNat ∧
      (∀ b, b < (u.rg m ga).toNat ∨ (u.rg m ga).toNat + 4 ≤ b → t.sramByte b = u.sramByte b) ∧
      (∀ b, t.flashByte b = u.flashByte b) ∧ t.rg m gd = (if gd = 0 then 0 else old) ∧ (∀ r, r ≠ gd → t.rg m r = u.rg m r) ∧
      (t.mach m).pc = (u.mach m).pc + 4 ∧ (∀ k, t.rc' m k = u.rc' m k) ∧ (∀ r, t.getR r = u.getR r) := by
  subst ho
  generalize hx : (if p u (.ofNat (u.sramRead (u.rg m ga).toNat 4)) then some (f u (.ofNat (u.sramRead (u.rg m ga).toNat 4))) else none) = o
  have hov : o.getD (.ofNat (u.sramRead (u.rg m ga).toNat 4)) = v := by
    rw [← hx, ← hv]
    split <;> rfl
  have hexec : exec i s = ok ((u.atomicPut (u.rg m ga).toNat o).setRetire m gd (.ofNat (u.sramRead (u.rg m ga).toNat 4))) := by
    rw [he, issue_of_issues hi, atomic_of_ready hw ha4 (alive_of_issues hi) hp, hx]
  have hres := regResult_setRetire (u.atomicPut (u.rg m ga).toNat o) m gd (.ofNat (u.sramRead (u.rg m ga).toNat 4))
  have hmach (k : Mach) : (u.atomicPut (u.rg m ga).toNat o).mach k = u.mach k := mach_of_machs (atomicPut_machs _ _) k
  refine ⟨_, hexec.trans (ok_of_rst (s := u) ((wg_rst _ m gd _).trans (atomicPut_rst _ _)) hi.settled), ?_, fun b hb => ?_, fun b => ?_,
    hres.reg, fun r hr => ?_, ?_, fun k => ?_, fun r => ?_⟩
  · have hread : ∀ b, State.sramByte _ b = State.sramByte _ b := fun b => (hres.memory b).1
    rw [State.sramRead, funext hread, ← hov]
    exact sramRead_atomicPut hC _ _
  · exact (hres.memory b).1.trans (sramByte_atomicPut_out _ _ hb)
  · refine (hres.memory b).2.trans ?_
    cases o <;> rfl
  · rw [hres.others r hr, rg_of_machs (atomicPut_machs _ _)]
  · rw [hres.pc, hmach]
  · rw [hres.control, State.rc', hmach, State.rc']
  · refine (hres.registers r).trans ?_
    cases o <;> rfl

end Atomic

/-- Settles O11: an atomic on a word that is ready reads it, and stores its result where its condition holds. -/
theorem atomics : Obligations.Atomics := by
  unfold Obligations.Atomics
  intro s u m gd ga gb hi hC a old ha4 hr hm hp q hq
  have hw := wordReady_of_aligned ha4 hr hm
  simp only [List.mem_cons, List.not_mem_nil, or_false] at hq
  rcases hq with rfl | rfl | rfl
  · exact atomic_result hi hC hw ha4 hp (fun _ _ => true) (fun s _ => s.rg m gb) rfl rfl rfl
  · exact atomic_result hi hC hw ha4 hp (fun _ _ => true) (fun s old => old + s.rg m gb) rfl rfl rfl
  · exact atomic_result hi hC hw ha4 hp (fun s old => old == s.rg m gd) (fun s _ => s.rg m gb) rfl rfl (by simp only [beq_iff_eq])

end Sys2Proof.Machine
end

section
/-! PROOF. Waits for departures (O22). -/

namespace Sys2Proof.Machine

section Waitd
variable {s u : State} {m : Mach}

/-- The machine waits no more. -/
def State.unwait (s : State) (m : Mach) : State := s.modMach m fun x => { x with wait := .none }

theorem exec_waitdDep (hi : s.Issues m u) (gd ga : BitVec 5) : exec (.waitdDep m gd ga) s = ok (u.waitd m false gd ga) :=
  issue_of_issues hi _

theorem exec_waitdMan (hi : s.Issues m u) (gd ga : BitVec 5) : exec (.waitdMan m gd ga) s = ok (u.waitd m true gd ga) :=
  issue_of_issues hi _

theorem waitd_of_met {man : Bool} {ga : BitVec 5} (h : u.waitdMet man (u.rg m ga) = true) (gd : BitVec 5) :
    u.waitd m man gd ga = u.waitdEnd m man gd := if_pos h

theorem waitd_of_not_met {man : Bool} {ga : BitVec 5} (h : u.waitdMet man (u.rg m ga) = false) (gd : BitVec 5) :
    u.waitd m man gd ga = u.modMach m fun x => { x with wait := .waitd man gd (u.rg m ga) } := if_neg (by simp [h])

theorem waitdMet_dep_iff (v : Word) :
    u.waitdMet false v = true ↔ u.tt.ran = true ∧ (Word.ofNat u.tt.epoch - v).toNat < 2 ^ 31 := by
  cases h : u.tt.ran <;> simp [State.waitdMet, State.waitdEpoch, h]

theorem waitdMet_man {e b : Nat} (h : u.mani.closed = some (e, b)) (v : Word) :
    u.waitdMet true v = decide ((Word.ofNat e - v).toNat < 2 ^ 31) := by
  simp [State.waitdMet, State.waitdEpoch, h]

theorem waitdMet_man_of_none (h : u.mani.closed = none) (v : Word) : u.waitdMet true v = false := by
  simp [State.waitdMet, State.waitdEpoch, h]

theorem waitdEnd_dep (h : u.tt.ran = true) (gd : BitVec 5) :
    u.waitdEnd m false gd = (u.unwait m).setRetire m gd (.ofNat u.tt.epoch) := by
  have hepoch : (u.unwait m).waitdEpoch false = some (u.tt.epoch, none) := if_pos h
  show (match (u.unwait m).waitdEpoch false with
    | some (e, some b) => ((u.unwait m).takeHold m e b).setRetire m gd (Word.ofNat e)
    | some (e, none) => (u.unwait m).setRetire m gd (Word.ofNat e)
    | none => u.unwait m) = _
  rw [hepoch]

/-- WAITD.MAN takes hold of the bank of its epoch. -/
theorem waitdEnd_man {e b : Nat} (h : u.mani.closed = some (e, b)) (gd : BitVec 5) :
    u.waitdEnd m true gd = ((u.unwait m).setR (holdReg m) (.ofNat (b + 8 + e % 65536 * 65536))).setRetire m gd (.ofNat e) := by
  have hepoch : (u.unwait m).waitdEpoch true = some (e, some b) := congrArg (Option.map _) h
  show (match (u.unwait m).waitdEpoch true with
    | some (e, some b) => ((u.unwait m).takeHold m e b).setRetire m gd (Word.ofNat e)
    | some (e, none) => (u.unwait m).setRetire m gd (Word.ofNat e)
    | none => u.unwait m) = _
  rw [hepoch]
  rfl

theorem pc_unwait : ((u.unwait m).mach m).pc = (u.mach m).pc := by rw [State.unwait, mach_modMach_same]

theorem ok_waitdEnd_dep (hd : u.Settled) (h : u.tt.ran = true) (gd : BitVec 5) :
    ∃ t, ok (u.waitdEnd m false gd) = .next t ∧ RegResult (u.unwait m) t m gd (.ofNat u.tt.epoch) ((u.mach m).pc + 4) := by
  rw [waitdEnd_dep h, ← pc_unwait]
  exact ⟨_, ok_of_rst (s := u) (wg_rst _ m gd _) hd, regResult_setRetire _ m gd _⟩

theorem ok_waitdEnd_man (hd : u.Settled) {e b : Nat} (h : u.mani.closed = some (e, b)) (gd : BitVec 5) :
    ∃ t, ok (u.waitdEnd m true gd) = .next t ∧
      RegResult ((u.unwait m).setR (holdReg m) (.ofNat (b + 8 + e % 65536 * 65536))) t m gd (.ofNat e) ((u.mach m).pc + 4) := by
  rw [waitdEnd_man h, ← pc_unwait]
  exact ⟨_, ok_of_rst (s := u) (wg_rst _ m gd _) hd, regResult_setRetire _ m gd _⟩

/-- WAITD_RELEASE ends a wait that its epoch satisfies. -/
theorem exec_waitdRelease {man : Bool} {gd : BitVec 5} {v : Word} (hw : (s.mach m).wait = .waitd man gd v) (hr : s.running m = true)
    (hmet : s.waitdMet man v = true) : exec (.waitdRelease m) s = ok (s.waitdEnd m man gd) := by
  show execWaitdRelease m s = _
  unfold execWaitdRelease
  rw [hw]
  simp [hr, hmet]

end Waitd

/-! ### The obligation -/

/-- Settles O22: WAITD ends or waits by what its epoch says, and so does WAITD_RELEASE. -/
theorem waitsForDepartures : Obligations.WaitsForDepartures := by
  unfold Obligations.WaitsForDepartures
  refine fun s u m gd ga => ⟨fun hi => ?_, fun v hr hd => ?_⟩
  · intro reached pc waits
    refine ⟨fun hran h => ?_, fun h => ?_, fun e b hc => ⟨fun h => ?_, fun h => ?_⟩, fun hc => ?_⟩
    · rw [exec_waitdDep hi, waitd_of_met ((waitdMet_dep_iff _).2 ⟨hran, h⟩)]
      exact ok_waitdEnd_dep hi.settled hran gd
    · have hmet : u.waitdMet false (u.rg m ga) = false := by
        rw [Bool.eq_false_iff, ne_eq, waitdMet_dep_iff]
        rintro ⟨hran, he⟩
        rcases h with h | h
        · rw [h] at hran
          cases hran
        · exact h he
      rw [exec_waitdDep hi, waitd_of_not_met hmet]
      exact ok_of_rst (s := u) rfl hi.settled
    · rw [exec_waitdMan hi, waitd_of_met ((waitdMet_man hc _).trans (decide_eq_true h))]
      exact ok_waitdEnd_man hi.settled hc gd
    · rw [exec_waitdMan hi, waitd_of_not_met ((waitdMet_man hc _).trans (decide_eq_false h))]
      exact ok_of_rst (s := u) rfl hi.settled
    · rw [exec_waitdMan hi, waitd_of_not_met (waitdMet_man_of_none hc _)]
      exact ok_of_rst (s := u) rfl hi.settled
  · intro free pc
    refine ⟨fun hw hran h => ?_, fun e b hw hc h => ?_⟩
    · rw [exec_waitdRelease hw hr ((waitdMet_dep_iff _).2 ⟨hran, h⟩)]
      exact ok_waitdEnd_dep hd hran gd
    · rw [exec_waitdRelease hw hr ((waitdMet_man hc _).trans (decide_eq_true h))]
      exact ok_waitdEnd_man hd hc gd

end Sys2Proof.Machine
end

section
/-! PROOF. Station accesses of a machine (O24). -/

namespace Sys2Proof.Machine

/-! ### A frame that every link carries sets out (R370, R382) -/

section Originate
variable {s : State} {f : Frame}

/-- It is not dropped. -/
theorem sendOn_of_rev_zero (h : f.body.rev = 0) (s : State) (p : Port) : s.sendOn f p = s.queueAt p (heldKey f) f := by
  rw [State.sendOn, State.sendAt, h, if_neg (Nat.not_lt_zero _)]

/-- It is sent on ports, comes to the node itself, or is discarded. -/
theorem route_cases (s : State) (f : Frame) : s.route f = State.each (fun p s => s.sendOn f p) s.linkedPorts s ∨
    s.route f = s.toSelf f ∨ s.route f = s ∨ ∃ p, s.route f = s.sendOn f p := by
  unfold State.route
  split
  · exact .inl rfl
  · split
    · exact .inr (.inl rfl)
    · split
      · exact .inr (.inr (.inl rfl))
      · split
        · exact .inr (.inr (.inr ⟨_, rfl⟩))
        · exact .inr (.inr (.inl rfl))

theorem sendOnly_each_of_rev_zero (h : f.body.rev = 0) (l : List Port) (s : State) :
    s.SendOnly (State.each (fun p s => s.sendOn f p) l s) := by
  induction l generalizing s with
  | nil => exact State.SendOnly.refl s
  | cons p r ih =>
    rw [State.each, sendOn_of_rev_zero h]
    exact (sendOnly_queueAt s p _ f).trans (ih _)

theorem sendOnly_route_of_rev_zero (h : f.body.rev = 0) (s : State) : s.SendOnly (s.route f) := by
  rcases route_cases s f with he | he | he | ⟨p, he⟩ <;> rw [he]
  · exact sendOnly_each_of_rev_zero h _ s
  · exact sendOnly_toSelf s f
  · exact State.SendOnly.refl s
  · rw [sendOn_of_rev_zero h]
    exact sendOnly_queueAt s p _ f

/-- It changes registers and what Orvia keeps, and nothing else. -/
theorem route_frame_of_rev_zero {β : Type} (g : State → β) (hr : ∀ (s : State) r w, g (s.setR r w) = g s)
    (ho : ∀ (s : State) x, g { s with ov := x } = g s) (h : f.body.rev = 0) (s : State) : g (s.route f) = g s := by
  have hsend (p : Port) (s : State) : g (s.sendOn f p) = g s := by
    rw [sendOn_of_rev_zero h]
    exact queueAt_frame g hr ho s p _ f
  rcases route_cases s f with he | he | he | ⟨p, he⟩ <;> rw [he]
  · exact each_frame g hsend _ s
  · exact ho s _
  · exact hsend p s

variable {b : Body}

/-- A frame that the node originates. -/
def State.ownFrame (s : State) (dest cls : Nat) (b : Body) : Frame :=
  { dest := dest, src := s.nodeId, oseq := s.ov.oseq, cls := cls, body := b }

theorem originate_eq (s : State) (dest cls : Nat) (b : Body) : ∃ c : Bool, s.originate dest cls b =
    if !s.ovLive || (!s.numbered && !c) then s else s.nextOseq.route (s.ownFrame dest cls b) := ⟨_, rfl⟩

/-- A node that is numbered, and whose links live, originates the frame under its next number. -/
theorem originate_of_live {s : State} (hl : s.ovLive = true) (hn : s.numbered = true) (dest cls : Nat) (b : Body) :
    s.originate dest cls b = s.nextOseq.route (s.ownFrame dest cls b) := by
  obtain ⟨c, hc⟩ := originate_eq s dest cls b
  rw [hc, if_neg (by simp [hl, hn])]

/-- The node originates nothing, or the frame sets out under its next number. -/
theorem originate_cases (s : State) (dest cls : Nat) (b : Body) :
    s.originate dest cls b = s ∨ s.originate dest cls b = s.nextOseq.route (s.ownFrame dest cls b) := by
  obtain ⟨c, hc⟩ := originate_eq s dest cls b
  rw [hc]
  split
  · exact .inl rfl
  · exact .inr rfl

theorem originate_frame_of_rev_zero {β : Type} (g : State → β) (hr : ∀ (s : State) r w, g (s.setR r w) = g s)
    (ho : ∀ (s : State) x, g { s with ov := x } = g s) (h : b.rev = 0) (dest cls : Nat) (s : State) :
    g (s.originate dest cls b) = g s := by
  rcases originate_cases s dest cls b with he | he <;> rw [he]
  exact (route_frame_of_rev_zero g hr ho h _).trans (ho s _)

theorem getR_originate_of_rev_zero (h : b.rev = 0) (dest cls : Nat) (s : State) {r : Rg} (hr : ∀ x ∈ sendRegs, r.addr ≠ x.addr) :
    (s.originate dest cls b).getR r = s.getR r := by
  rcases originate_cases s dest cls b with he | he <;> rw [he]
  exact (sendOnly_route_of_rev_zero h s.nextOseq).regs r hr

end Originate

/-! ### The request (R403 to R405) -/

section Request
variable {s u : State} {m : Mach}

theorem alive_congr {s t : State} (hp : t.phase = s.phase) (h0 : t.getR Rg.BLK_RST0 = s.getR Rg.BLK_RST0)
    (h1 : t.getR Rg.BLK_RST1 = s.getR Rg.BLK_RST1) (hr : t.rst = s.rst) (m : Mach) : t.alive m = s.alive m := by
  rw [State.alive, State.alive, hp, inReset_congr h0 h1 hr]

theorem alive_originate_of_rev_zero {b : Body} (h : b.rev = 0) (dest cls : Nat) (s : State) (m : Mach) :
    (s.originate dest cls b).alive m = s.alive m :=
  alive_congr (originate_frame_of_rev_zero State.phase (fun _ _ _ => rfl) (fun _ _ => rfl) h dest cls s)
    (getR_originate_of_rev_zero h dest cls s (by decide)) (getR_originate_of_rev_zero h dest cls s (by decide))
    (originate_frame_of_rev_zero State.rst (fun _ _ _ => rfl) (fun _ _ => rfl) h dest cls s) m

/-- What a request of machine `m` adds to those that are out. -/
def State.outReq (u : State) (m : Mach) (sid node : Nat) (write : Bool) : OutReq :=
  { id := u.nextReq, who := .mach m, sid := sid, counter := (u.sess sid).tx, node := node, write := write, own := false
    bcast := false, reqGen := u.getF (Fd.GEN_GEN (Blk.triad m.triad).gen), reqBlk := (Blk.triad m.triad).gen, oseq := u.ov.oseq }

/-- The request is out: the entry counts it, and it stands among those that wait for a reply. -/
def State.requested (u : State) (sid : Nat) (o : OutReq) : State :=
  let v := u.setSess sid { u.sess sid with tx := (u.sess sid).tx + 1, inflC := (u.sess sid).inflC + 1 }
  { v with nextReq := u.nextReq + 1, ss := { v.ss with out := v.ss.out ++ [o] } }

/-- The request as it goes out (R403, R404). -/
def State.reqMsg (u : State) (q : NewReq) : SessReqMsg :=
  let m : SessReqMsg :=
    { sid := q.sid, op := if q.write then 2 else 1, expGen := q.expGen, reqGen := u.getF (Fd.GEN_GEN q.reqBlk), reqBlk := q.reqBlk
      len := q.len, issueT := u.tt.clk % 2 ^ 32, counter := (u.sess q.sid).tx, tag := 0, data := q.data }
  { m with tag := tagOf (u.sess q.sid).key q.addr u.nodeId (reqPayload m) }

theorem request_of_remote {q : NewReq} (hc : u.clientCheck q.sid (q.addr / 2 ^ 42) q.write = none) (hown : q.addr / 2 ^ 42 ≠ u.nodeId)
    (hcast : q.addr / 2 ^ 42 ≠ 0x3FF) (hwho : q.who = .mach m) (hblk : q.reqBlk = (Blk.triad m.triad).gen) :
    u.request q = (none, u.nextReq,
      (u.requested q.sid (u.outReq m q.sid (q.addr / 2 ^ 42) q.write)).originate q.addr (u.sess q.sid).cls (.sessReq (u.reqMsg q))) := by
  have h1 : (q.addr / 2 ^ 42 == u.nodeId) = false := beq_eq_false_iff_ne.2 hown
  have h2 : (q.addr / 2 ^ 42 == 0x3FF) = false := beq_eq_false_iff_ne.2 hcast
  unfold State.request
  simp only [hc, h1, h2, Bool.false_eq_true, if_false, Bool.or_self, hwho]
  rw [State.outReq, ← hblk]
  rfl

theorem clientCheck_valid {sid node : Nat} {write : Bool} (h : u.clientCheck sid node write = none) : (u.sess sid).valid = true := by
  by_contra hv
  rw [State.clientCheck, if_pos (by simp [hv])] at h
  cases h

/-- The request of an access of machine `m`. -/
def State.accessReq (u : State) (m : Mach) (a : CoreAccess) (sid : Nat) : NewReq :=
  { who := .mach m, sid := sid, addr := a.addr, write := a.write, len := a.width
    data := if a.write then leBytes a.data.toNat a.width else []
    expGen := (u.sess sid).pinGen, reqBlk := (Blk.triad m.triad).gen }

/-- The request of an access is out. -/
def State.accessSent (u : State) (m : Mach) (a : CoreAccess) (sid : Nat) : State :=
  (u.requested sid (u.outReq m sid (a.addr / 2 ^ 42) a.write)).originate a.addr (u.sess sid).cls
    (.sessReq (u.reqMsg (u.accessReq m a sid)))

theorem stationAccess_eq {a : CoreAccess} {sid : Nat} (hrst : u.inReset .sess = false) : u.stationAccess m a sid =
    match u.request (u.accessReq m a sid) with
    | (r, id, s) =>
      if !s.alive m then s
      else match r with
        | some x => s.accessEnd m { a with sess := some sid } x 0 0 []
        | none => s.modMach m fun x => { x with wait := .station { a with sess := some sid } id } := by
  rw [State.stationAccess, if_neg (by simp [hrst])]
  rfl

/-- A machine whose request is out waits for its reply. -/
theorem stationAccess_of_remote {a : CoreAccess} {sid : Nat} (hrst : u.inReset .sess = false) (ha : u.alive m = true)
    (hc : u.clientCheck sid (a.addr / 2 ^ 42) a.write = none) (hown : a.addr / 2 ^ 42 ≠ u.nodeId) (hcast : a.addr / 2 ^ 42 ≠ 0x3FF) :
    u.stationAccess m a sid =
      (u.accessSent m a sid).modMach m fun y => { y with wait := .station { a with sess := some sid } u.nextReq } := by
  have hx : u.request (u.accessReq m a sid) = (none, u.nextReq, u.accessSent m a sid) := request_of_remote hc hown hcast rfl rfl
  have halive : (u.accessSent m a sid).alive m = true :=
    (alive_originate_of_rev_zero rfl _ _ _ m).trans ha
  rw [stationAccess_eq hrst, hx]
  simp [halive]

/-- What such an access leaves. -/
theorem stationAccess_result {a : CoreAccess} {sid : Nat} (hi : s.Issues m u) (hrst : u.inReset .sess = false)
    (hc : u.clientCheck sid (a.addr / 2 ^ 42) a.write = none) (hown : a.addr / 2 ^ 42 ≠ u.nodeId) (hcast : a.addr / 2 ^ 42 ≠ 0x3FF) :
    ∃ t, ok (u.stationAccess m a sid) = .next t ∧ (t.mach m).wait = .station { a with sess := some sid } u.nextReq ∧
      t.sess sid = { u.sess sid with tx := (u.sess sid).tx + 1, inflC := (u.sess sid).inflC + 1 } ∧
      t.ss.out = u.ss.out ++ [u.outReq m sid (a.addr / 2 ^ 42) a.write] := by
  rw [stationAccess_of_remote hrst (alive_of_issues hi) hc hown hcast]
  have hkeep {β : Type} (g : State → β) (hr : ∀ (s : State) r w, g (s.setR r w) = g s) (ho : ∀ (s : State) x, g { s with ov := x } = g s) :=
    originate_frame_of_rev_zero g hr ho (b := .sessReq (u.reqMsg (u.accessReq m a sid))) rfl a.addr (u.sess sid).cls
      (u.requested sid (u.outReq m sid (a.addr / 2 ^ 42) a.write))
  have hss := hkeep State.ss (fun _ _ _ => rfl) fun _ _ => rfl
  refine ⟨_, ok_of_rst (s := u) (hkeep State.rst (fun _ _ _ => rfl) fun _ _ => rfl) hi.settled, ?_, ?_, ?_⟩
  · rw [mach_modMach_same]
  · exact (congrArg (fun y : SessH => (lookupNat sid y.entries).getD {}) hss).trans
      (sess_setSess_same u sid (entry_ne_empty (clientCheck_valid hc)))
  · exact congrArg SessH.out hss

end Request

/-! ### The obligation -/

theorem exec_lds {s u : State} {m : Mach} (hi : s.Issues m u) {w : BitVec 3} {width : Nat} {signed : Bool} (hw : ldsForm w = some (width, signed))
    {ga : BitVec 5} (hok : pairOk ga = true) (hal : u.stationAddr m ga % width = 0) (gd gb : BitVec 5) :
    exec (.lds m w gd ga gb) s =
      ok (u.stationAccess m { addr := u.stationAddr m ga, width := width, signed := signed, rd := gd } (u.sidOf m gb)) := by
  refine (issue_of_issues hi _).trans ?_
  simp only [hw, hok, hal]
  rfl

theorem exec_sts {s u : State} {m : Mach} (hi : s.Issues m u) {w : BitVec 3} {width : Nat} (hw : stsForm w = some width)
    {ga : BitVec 5} (hok : pairOk ga = true) (hal : u.stationAddr m ga % width = 0) (gd gb : BitVec 5) :
    exec (.sts m w gd ga gb) s =
      ok (u.stationAccess m { write := true, addr := u.stationAddr m ga, width := width, data := u.rg m gd } (u.sidOf m gb)) := by
  refine (issue_of_issues hi _).trans ?_
  simp only [hw, hok, hal]
  rfl

/-- Settles O24: the request is out under the session's next counter, and the machine waits. -/
theorem stationAccesses : Obligations.StationAccesses := by
  unfold Obligations.StationAccesses
  intro s u m gd ga gb hi h0 h2 hrst a sid e own hown hcast
  have hok := pairOk_of_even h0 h2
  refine ⟨fun p hp hal hc => ?_, fun p hp hal hc => ?_⟩
  · have hform : ldsForm p.1 = some p.2 := by
      revert p
      simp only [List.forall_mem_cons, List.not_mem_nil, false_implies, implies_true, and_true]
      exact ⟨fun _ => rfl, fun _ => rfl, fun _ => rfl, fun _ => rfl, fun _ => rfl⟩
    obtain ⟨t, ht⟩ := stationAccess_result (a := { addr := a, width := p.2.1, signed := p.2.2, rd := gd }) hi hrst hc hown hcast
    exact ⟨t, (exec_lds hi hform hok hal gd gb).trans ht.1, ht.2⟩
  · have hform : stsForm p.1 = some p.2 := by
      revert p
      simp only [List.forall_mem_cons, List.not_mem_nil, false_implies, implies_true, and_true]
      exact ⟨fun _ => rfl, fun _ => rfl, fun _ => rfl⟩
    obtain ⟨t, ht⟩ := stationAccess_result (a := { write := true, addr := a, width := p.2, data := u.rg m gd }) hi hrst hc hown hcast
    exact ⟨t, (exec_sts hi hform hok hal gd gb).trans ht.1, ht.2⟩

end Sys2Proof.Machine
end

section
/-! PROOF. TALLY, RAISE, ROLL and ROLL.S (O21). -/

namespace Sys2Proof.Machine

section Calls
variable {s u : State} {m : Mach}

/-! ### What the machine's triad needs to be alive -/

/-- A write of a register that is none of the reset bits. -/
theorem alive_setR {r : Rg} (h0 : Rg.BLK_RST0.addr ≠ r.addr) (h1 : Rg.BLK_RST1.addr ≠ r.addr) (w : Word) :
    (u.setR r w).alive m = u.alive m :=
  alive_congr (s := u) (t := u.setR r w) rfl (getR_setR_ne u h0 w) (getR_setR_ne u h1 w) rfl m

theorem alive_setF {f : Fd} (h0 : Rg.BLK_RST0.addr ≠ f.reg.addr) (h1 : Rg.BLK_RST1.addr ≠ f.reg.addr) (v : Nat) :
    (u.setF f v).alive m = u.alive m := alive_setR h0 h1 _

/-- The registers of the signal box lie above the reset bits. -/
theorem alive_setBitF_sb {f : Fd} (h : 0x40010000 ≤ f.reg.addr) (i : Nat) : (u.setBitF f i).alive m = u.alive m := by
  have h0 : Rg.BLK_RST0.addr < 0x40010000 := by decide
  have h1 : Rg.BLK_RST1.addr < 0x40010000 := by decide
  exact alive_setF (by omega) (by omega) _

theorem alive_sticky (k : Nat) : (u.sticky k).alive m = u.alive m := alive_setBitF_sb (Nat.le_add_right_of_le (by decide)) _

theorem running_of_alive (h : u.alive m = true) : u.phase = .running := by
  simp only [State.alive, Bool.and_eq_true, beq_iff_eq] at h
  exact h.1

/-- An instruction whose effect on the state is `t`, and which then writes `v` to gd and retires. -/
theorem ok_setRetire {t : State} (hd : u.Settled) (hr : t.rst = u.rst) (hpc : (t.mach m).pc = (u.mach m).pc) (gd : BitVec 5) (v : Word) :
    ∃ x, ok (t.setRetire m gd v) = .next x ∧ RegResult t x m gd v ((u.mach m).pc + 4) :=
  ⟨_, ok_of_rst ((wg_rst t m gd v).trans hr) hd, hpc ▸ regResult_setRetire t m gd v⟩

/-! ### TALLY (R159, R503) -/

theorem exec_tally (hi : s.Issues m u) {n : Fin 16} (ho : (u.mayUse m).testBit (16 + n.val) = true) (gd : BitVec 5) :
    exec (.tally m n gd) s = ok ((u.tlCheckIn n.val).2.still m fun s => s.setRetire m gd (.ofNat (u.tlCheckIn n.val).1)) := by
  refine (issue_of_issues hi _).trans ?_
  simp only [ho]
  rfl

theorem tlCheckIn_idle {n : Nat} (h : u.isF Fd.TL_CTRL_EN = false ∨ u.isF Fd.TL_STAT_STARTED = false ∨ u.tl.enabled.getLsbD n = false) :
    u.tlCheckIn n = (2, u) := if_pos (by rcases h with h | h | h <;> simp [h])

theorem tlCheckIn_open {n : Nat} (he : u.isF Fd.TL_CTRL_EN = true) (hs : u.isF Fd.TL_STAT_STARTED = true) (hn : u.tl.enabled.getLsbD n = true)
    (ho : u.isF Fd.TL_STAT_OPEN = true) : u.tlCheckIn n = (0, u.setBitF Fd.TL_DONE_DONE n) := by
  simp [State.tlCheckIn, he, hs, hn, ho]

/-- The state after an early check-in, before its source is raised. -/
def State.tallyEarly (u : State) (n : Nat) : State := (u.setBitF Fd.TL_DONE_EARLY n).incF Fd.TL_CNT_EARLY

theorem tlCheckIn_early {n : Nat} (he : u.isF Fd.TL_CTRL_EN = true) (hs : u.isF Fd.TL_STAT_STARTED = true) (hn : u.tl.enabled.getLsbD n = true)
    (ho : u.isF Fd.TL_STAT_OPEN = false) (hq : u.Quiet 113) : u.tlCheckIn n = (1, (u.tallyEarly n).sticky 113) := by
  have hquiet : (u.tallyEarly n).Quiet 113 := quiet_setF (by decide) _ (quiet_setF (by decide) _ hq)
  have hraise : (u.tallyEarly n).raise 113 = (u.tallyEarly n).sticky 113 := raise_of_quiet (by decide) hquiet
  rw [← hraise]
  simp [State.tlCheckIn, he, hs, hn, ho, State.tallyEarly]

/-- A check-in writes its code. -/
theorem tally_result (hi : s.Issues m u) {n : Fin 16} (ho : (u.mayUse m).testBit (16 + n.val) = true) {c : Nat} {t : State}
    (hc : u.tlCheckIn n.val = (c, t)) (ha : t.alive m = true) (hr : t.rst = u.rst) (hm : t.machs = u.machs) (gd : BitVec 5) :
    ∃ x, exec (.tally m n gd) s = .next x ∧ RegResult t x m gd (.ofNat c) ((u.mach m).pc + 4) := by
  rw [exec_tally hi ho, hc, still_of_alive ha]
  exact ok_setRetire hi.settled hr (by rw [mach_of_machs hm]) gd _

/-! ### RAISE (R160, R486) -/

theorem exec_raise (hi : s.Issues m u) (hl : u.atStation m = true) (gd ga : BitVec 5) : exec (.raise m gd ga) s =
    ok (if (u.rg m ga).toNat % 128 = 127 then u.setRetire m gd 1
      else (u.raise ((u.rg m ga).toNat % 128) (.program m.triad)).still m fun s => s.setRetire m gd 0) :=
  issueStation_of_station hi hl _ _

/-- The raise of a quiet source by a program, not of SB0 to SB9, sets its sticky bit and marks it. -/
theorem raise_program_of_quiet {k : Nat} (hk : k < 128) (h10 : 10 ≤ k) (hq : u.Quiet k) (t : Triad) :
    u.raise k (.program t) = (u.sticky k).setBitF (Fd.SB_SW_BITS (k / 32)) (k % 32) := by
  have hset : u.setSticky k (.program t) = (u.sticky k).setBitF (Fd.SB_SW_BITS (k / 32)) (k % 32) := by
    simp [State.setSticky, RaisedBy.bySw, RaisedBy.triad?, State.sticky, Nat.not_le.2 h10]
  have hne : (Rg.SB_CFG k).addr ≠ (Fd.SB_SW_BITS (k / 32)).reg.addr := by
    show 0x40010100 + 0x4 * k ≠ 0x40010050 + 0x4 * (k / 32)
    omega
  rw [State.raise, hset]
  exact react_of_quiet (quiet_setF hne _ ((quiet_sticky hk).2 hq)) _

theorem raise_result (hi : s.Issues m u) (hl : u.atStation m = true) {gd ga : BitVec 5} {k : Nat} (hk : (u.rg m ga).toNat % 128 = k)
    (h10 : 10 ≤ k) (h127 : k ≠ 127) (hq : u.Quiet k) : ∃ x, exec (.raise m gd ga) s = .next x ∧
      RegResult ((u.sticky k).setBitF (Fd.SB_SW_BITS (k / 32)) (k % 32)) x m gd 0 ((u.mach m).pc + 4) := by
  have hlt : k < 128 := hk ▸ Nat.mod_lt _ (by decide)
  have ha : ((u.sticky k).setBitF (Fd.SB_SW_BITS (k / 32)) (k % 32)).alive m = true := by
    exact (alive_setBitF_sb (Nat.le_add_right_of_le (by decide)) _).trans ((alive_sticky k).trans (alive_of_issues hi))
  rw [exec_raise hi hl, hk, if_neg h127, raise_program_of_quiet hlt h10 hq, still_of_alive ha]
  exact ok_setRetire (t := (u.sticky k).setBitF (Fd.SB_SW_BITS (k / 32)) (k % 32)) hi.settled rfl rfl gd _

/-! ### ROLL (R161, R540, R551) -/

theorem exec_roll (hi : s.Issues m u) (gd : BitVec 5) : exec (.roll m gd) s =
    ok ((u.rollTrigger 2).1.still m fun s => s.setRetire m gd (if (u.rollTrigger 2).2 then 0 else 1)) := issue_of_issues hi _

/-- A trigger latches where no snapshot is held. -/
theorem rollTrigger_of_free (hp : u.phase = .running) (h : u.isF Fd.RC_STAT_HELD = false) (src : Nat) :
    u.rollTrigger src = (u.rollLocal src 0, true) := by
  have hnone : u.rollMeets src = none := by
    rw [State.rollMeets, h]
    simp
  simp [State.rollTrigger, hp, hnone, h]

/-- A trigger at an edge that another source has not latched is an overrun while a snapshot is held. -/
theorem rollTrigger_of_held (hp : u.phase = .running) (h : u.isF Fd.RC_STAT_HELD = true) (hq : u.Quiet 125) {src : Nat}
    (hx : ∀ x, u.rc.snap = some x → x.edge ≠ u.now ∨ x.src = src) :
    u.rollTrigger src = ((u.incF Fd.RC_STAT_OVERRUN).sticky 125, false) := by
  have hnone : u.rollMeets src = none := by
    refine Option.filter_eq_none_iff.2 fun x hs => ?_
    rcases hx x hs with hx | hx <;> simp [hx]
  have hraise : (u.incF Fd.RC_STAT_OVERRUN).raise 125 = (u.incF Fd.RC_STAT_OVERRUN).sticky 125 :=
    raise_of_quiet (by decide) (quiet_setF (by decide) _ hq)
  simp [State.rollTrigger, hp, hnone, h, hraise]

/-- A trigger at an edge at which a source of a higher rank has latched is the same latch. -/
theorem rollTrigger_of_met (hp : u.phase = .running) (h : u.isF Fd.RC_STAT_HELD = true) {src : Nat} {x : RollSnap} (hs : u.rc.snap = some x)
    (he : x.edge = u.now) (hr : rollRank x.src < rollRank src) : u.rollTrigger src = (u, true) := by
  have hne : x.src ≠ src := fun hsrc => by
    rw [hsrc] at hr
    exact Nat.lt_irrefl _ hr
  have hmeets : u.rollMeets src = some x := by
    rw [State.rollMeets, hs, h, Option.filter_some]
    simp [he, hne]
  simp [State.rollTrigger, hp, hmeets, State.rollJoin, hr]

/-- The snapshot that a local trigger takes, and its count. -/
def State.rollTaken (u : State) (src : Nat) : State :=
  let v : State := { u with rc := { u.rc with count := (u.rc.count + 1) % 2 ^ 16 } }
  { v with rc := { v.rc with snap := some (v.takeSnap src 0 ((u.rc.count + 1) % 2 ^ 16)) } }

theorem rollLocal_eq (src : Nat) :
    u.rollLocal src 0 = (((u.rollTaken src).onF Fd.RC_STAT_HELD).setF Fd.RC_STAT_SRC src).setF Fd.RC_STAT_SB 0 := rfl

theorem isF_rollLocal_held (src : Nat) : (u.rollLocal src 0).isF Fd.RC_STAT_HELD = true := by
  rw [rollLocal_eq, isF_setF_field (f := Fd.RC_STAT_SB) (g := Fd.RC_STAT_HELD) _ rfl (by decide),
    isF_setF_field (f := Fd.RC_STAT_SRC) (g := Fd.RC_STAT_HELD) _ rfl (by decide)]
  exact isF_onF_same _ _ (by decide) (by decide)

theorem getF_rollLocal_src {src : Nat} (h : src < 8) : (u.rollLocal src 0).getF Fd.RC_STAT_SRC = src := by
  rw [rollLocal_eq, getF_setF_field (f := Fd.RC_STAT_SB) (g := Fd.RC_STAT_SRC) _ rfl (by decide), getF_setF_same _ _ (by decide)]
  exact Nat.mod_eq_of_lt h

theorem alive_rollLocal (src : Nat) : (u.rollLocal src 0).alive m = u.alive m := by
  rw [rollLocal_eq, alive_setF (by decide) (by decide), alive_setF (by decide) (by decide), State.onF, alive_setF (by decide) (by decide)]
  exact alive_congr (s := u) (t := u.rollTaken src) rfl rfl rfl rfl m

/-! ### ROLL.S (R161, R545) -/

theorem execRollS_of_code (hi : s.Issues m u) (hl : u.atStation m = true) {ga : BitVec 5} (hok : pairOk ga = true) {c : Nat} {t : State}
    (hc : u.rollStation (u.pair64 m ga) = (c, t)) (gd : BitVec 5) :
    execRollS m gd ga s = ok (t.still m fun s => s.setRetire m gd (.ofNat c)) := by
  unfold execRollS
  refine (issue_of_issues hi _).trans ?_
  rw [if_neg (by simp [hok]), if_neg (by simp [hl]), hc]

theorem exec_rollS (gd ga : BitVec 5) : exec (.rollS m gd ga) s = execRollS m gd ga s := rfl

/-- A code of ROLL.S that does nothing. -/
theorem rollS_refused (hi : s.Issues m u) (hl : u.atStation m = true) {ga : BitVec 5} (hok : pairOk ga = true) {c : Nat}
    (hc : u.rollStation (u.pair64 m ga) = (c, u)) (gd : BitVec 5) :
    ∃ x, exec (.rollS m gd ga) s = .next x ∧ RegResult u x m gd (.ofNat c) ((u.mach m).pc + 4) := by
  rw [exec_rollS, execRollS_of_code hi hl hok hc, still_of_alive (alive_of_issues hi)]
  exact ok_setRetire hi.settled rfl rfl gd _

/-- The station's roll call is scheduled under the next ID of this node. -/
def State.stationScheduled (u : State) (t : Nat) : State :=
  { u with rc := { u.rc with lastId := (u.rc.lastId + 1) % 2 ^ 16 } }.rollSchedule t ((u.rc.lastId + 1) % 2 ^ 16) u.nodeId

/-- … and sent to every node. -/
def State.stationCalled (u : State) (t : Nat) : State :=
  (u.stationScheduled t).originate (nodeBase 0x3FF) 0 (.rollcall t ((u.rc.lastId + 1) % 2 ^ 16))

theorem rollStation_of_free {t : Nat} (ht : 500000 ≤ t - u.tt.clk) (h : u.isF Fd.RC_STAT_SCHEDULED = false) :
    u.rollStation t = (2, u.stationCalled t) := by
  rw [State.rollStation, if_neg (Nat.not_lt.2 ht), if_neg (by simp [h])]
  rfl

theorem getR_stationScheduled_ne {r : Rg} (h : ∀ q ∈ [Rg.RC_SCHED_LO, Rg.RC_SCHED_HI, Rg.RC_SCHED_ID, Rg.RC_STAT], r.addr ≠ q.addr) (t : Nat) :
    (u.stationScheduled t).getR r = u.getR r := by
  unfold State.stationScheduled State.rollSchedule
  rw [getR_onF_ne _ (h _ (by decide)), getR_setR_ne _ (h _ (by decide)), getR_setR_ne _ (h _ (by decide)), getR_setR_ne _ (h _ (by decide))]
  rfl

theorem stationScheduled_regs (t : Nat) : (u.stationScheduled t).isF Fd.RC_STAT_SCHEDULED = true ∧
    (u.stationScheduled t).getR Rg.RC_SCHED_LO = .ofNat t ∧ (u.stationScheduled t).getR Rg.RC_SCHED_HI = .ofNat (t / 2 ^ 32) ∧
    (u.stationScheduled t).getF Fd.RC_SCHED_ID_ID = (u.rc.lastId + 1) % 2 ^ 16 := by
  unfold State.stationScheduled State.rollSchedule
  refine ⟨isF_onF_same _ _ (by decide) (by decide), ?_, ?_, ?_⟩
  · rw [getR_onF_ne _ (by decide), getR_setR_ne _ (by decide), getR_setR_ne _ (by decide), getR_setR_same]
    rfl
  · rw [getR_onF_ne _ (by decide), getR_setR_ne _ (by decide), getR_setR_same]
    rfl
  · rw [State.getF, getR_onF_ne _ (by decide), show Fd.RC_SCHED_ID_ID.reg = Rg.RC_SCHED_ID from rfl, getR_setR_same]
    simp only [fieldOf, Fd.RC_SCHED_ID_ID, BitVec.toNat_ofNat, Nat.shiftRight_zero]
    omega

/-- ROLL.S schedules and sends. -/
theorem rollS_scheduled (hi : s.Issues m u) (hl : u.atStation m = true) {ga : BitVec 5} (hok : pairOk ga = true) {T : Nat}
    (hT : u.pair64 m ga = T) (ht : 500000 ≤ T - u.tt.clk) (h : u.isF Fd.RC_STAT_SCHEDULED = false) (gd : BitVec 5) :
    ∃ x, exec (.rollS m gd ga) s = .next x ∧ x.isF Fd.RC_STAT_SCHEDULED = true ∧
      x.getR Rg.RC_SCHED_LO = .ofNat T ∧ x.getR Rg.RC_SCHED_HI = .ofNat (T / 2 ^ 32) ∧
      x.getF Fd.RC_SCHED_ID_ID = (u.rc.lastId + 1) % 2 ^ 16 ∧ x.rg m gd = (if gd = 0 then 0 else 2) ∧
      (u.ovLive = true → u.numbered = true → x.ov.oseq = (u.ov.oseq + 1) % 65536) ∧ (x.mach m).pc = (u.mach m).pc + 4 := by
  have hstation := rollStation_of_free ht h
  obtain ⟨hsched, hlo, hhi, hid⟩ := stationScheduled_regs (u := u) T
  have hreg {r : Rg} (hr : ∀ x ∈ sendRegs, r.addr ≠ x.addr) : (u.stationCalled T).getR r = (u.stationScheduled T).getR r :=
    getR_originate_of_rev_zero rfl _ _ _ hr
  have hkeep {β : Type} (g : State → β) (hr : ∀ (s : State) r w, g (s.setR r w) = g s) (ho : ∀ (s : State) x, g { s with ov := x } = g s) :
      g (u.stationCalled T) = g (u.stationScheduled T) := originate_frame_of_rev_zero g hr ho rfl _ _ _
  have hrst : (u.stationCalled T).rst = u.rst := hkeep State.rst (fun _ _ _ => rfl) fun _ _ => rfl
  have hmachs : (u.stationCalled T).machs = u.machs := hkeep State.machs (fun _ _ _ => rfl) fun _ _ => rfl
  have halive : (u.stationCalled T).alive m = true := by
    refine (alive_originate_of_rev_zero rfl _ _ _ m).trans (Eq.trans ?_ (alive_of_issues hi))
    exact alive_congr (s := u) (t := u.stationScheduled T) rfl (getR_stationScheduled_ne (r := Rg.BLK_RST0) (by decide) T)
      (getR_stationScheduled_ne (r := Rg.BLK_RST1) (by decide) T) rfl m
  obtain ⟨x, hx, hres⟩ := ok_setRetire (m := m) hi.settled hrst (by rw [mach_of_machs hmachs]) gd 2
  refine ⟨x, ?_, ?_, ?_, ?_, ?_, hres.reg, fun hlive hnum => ?_, hres.pc⟩
  · rw [exec_rollS, execRollS_of_code hi hl hok ((congrArg u.rollStation hT).trans hstation), still_of_alive halive]
    exact hx
  · rw [isF_of_getR (f := Fd.RC_STAT_SCHEDULED) ((hres.registers _).trans (hreg (by decide)))]
    exact hsched
  · rw [hres.registers, hreg (by decide), hlo]
  · rw [hres.registers, hreg (by decide), hhi]
  · rw [getF_of_getR (f := Fd.RC_SCHED_ID_ID) ((hres.registers _).trans (hreg (by decide)))]
    exact hid
  · have hlive' : (u.stationScheduled T).ovLive = true := by
      rw [State.ovLive, inReset_congr (getR_stationScheduled_ne (by decide) T) (getR_stationScheduled_ne (by decide) T) rfl]
      exact hlive
    have hnum' : (u.stationScheduled T).numbered = true := by
      rw [State.numbered, isF_of_getR (f := Fd.OV_NODE_NUMBERED) (getR_stationScheduled_ne (by decide) T)]
      exact hnum
    have hrest : x.ov = (u.stationCalled T).ov := (congrArg State.ov hres.rest :)
    rw [hrest, State.stationCalled, originate_of_live hlive' hnum', (sendOnly_route_of_rev_zero rfl _).oseq]
    rfl

end Calls

/-! ### The obligation -/

/-- Settles O21: each instruction is its effect on the block, with the code that it writes to gd. -/
theorem tallyRaiseAndRollCalls : Obligations.TallyRaiseAndRollCalls := by
  unfold Obligations.TallyRaiseAndRollCalls
  refine ⟨fun s u m n gd ga hi => ⟨fun ho => ⟨fun h => ?_, fun he hs hn => ⟨fun hop => ?_, fun hop hq => ?_⟩⟩, ?_, fun hf => ?_,
    fun hh hq hx => ?_, fun hh x hs he hsrc => ?_⟩, fun s u m gd ga hi hl h0 h2 => ?_⟩
  · exact tally_result hi ho (tlCheckIn_idle h) (alive_of_issues hi) rfl rfl gd
  · exact tally_result hi ho (tlCheckIn_open he hs hn hop) ((alive_setF (by decide) (by decide) _).trans (alive_of_issues hi)) rfl rfl gd
  · have halive : ((u.tallyEarly n.val).sticky 113).alive m = true :=
      (alive_sticky _).trans ((alive_setF (by decide) (by decide) _).trans ((alive_setF (by decide) (by decide) _).trans (alive_of_issues hi)))
    exact tally_result hi ho (tlCheckIn_early he hs hn hop hq) halive rfl rfl gd
  · intro k hl
    refine ⟨fun h10 h127 hq => raise_result hi hl rfl h10 h127 hq, fun h127 => ?_⟩
    rw [exec_raise hi hl, if_pos h127]
    exact ok_setRetire hi.settled rfl rfl gd _
  · have ha := alive_of_issues hi
    obtain ⟨x, hexec, hres⟩ := ok_setRetire (m := m) (t := u.rollLocal 2 0) hi.settled rfl rfl gd 0
    have hrest : x.rc = (u.rollLocal 2 0).rc := (congrArg State.rc hres.rest :)
    refine ⟨x, ?_, ?_, ?_, ?_, ?_, ?_, fun r hr => hres.others r hr, hres.pc⟩
    · rw [exec_roll hi, rollTrigger_of_free (running_of_alive ha) hf, still_of_alive ((alive_rollLocal 2).trans ha)]
      exact hexec
    · rw [isF_of_getR (f := Fd.RC_STAT_HELD) (hres.registers _)]
      exact isF_rollLocal_held 2
    · rw [getF_of_getR (f := Fd.RC_STAT_SRC) (hres.registers _)]
      exact getF_rollLocal_src (by decide)
    · rw [hrest]
      rfl
    · rw [hrest]
      rfl
    · rw [hres.reg]
      exact ite_self _
  · have ha := alive_of_issues hi
    have halive : ((u.incF Fd.RC_STAT_OVERRUN).sticky 125).alive m = true :=
      (alive_sticky _).trans ((alive_setF (by decide) (by decide) _).trans ha)
    rw [exec_roll hi, rollTrigger_of_held (running_of_alive ha) hh hq hx, still_of_alive halive]
    exact ok_setRetire (t := (u.incF Fd.RC_STAT_OVERRUN).sticky 125) hi.settled rfl rfl gd _
  · have ha := alive_of_issues hi
    have hrank : rollRank x.src < rollRank 2 := by rcases hsrc with h | h | h <;> rw [h] <;> decide
    rw [exec_roll hi, rollTrigger_of_met (running_of_alive ha) hh hs he hrank, still_of_alive ha]
    exact ok_setRetire hi.settled rfl rfl gd _
  · intro T pc
    have hok := pairOk_of_even h0 h2
    refine ⟨fun ht => ?_, fun ht hsch => ?_, fun ht hsch => rollS_scheduled hi hl hok rfl ht hsch gd⟩
    · exact rollS_refused hi hl hok (if_pos ht) gd
    · exact rollS_refused hi hl hok ((if_neg (Nat.not_lt.2 ht)).trans (if_pos hsch)) gd

end Sys2Proof.Machine
end

section
/-! PROOF. CHMODE, CHSET and CHGET (O20). -/

namespace Sys2Proof.Machine

/-! ### The two requests of a channel (R156) -/

/-- The request of a channel that waits for the departure after next (`later`), or for the next one. -/
def ChanH.request (h : ChanH) (later : Bool) : ChSlot := if later = true then h.later else h.next

/-- … and the channel with that request. -/
def ChanH.putRequest (h : ChanH) (later : Bool) (q : ChSlot) : ChanH := if later then { h with later := q } else { h with next := q }

section Requests
variable (h : ChanH) (later : Bool) (q : ChSlot)

@[simp] theorem request_putRequest : (h.putRequest later q).request later = q := by
  cases later <;> rfl

@[simp] theorem cfg_putRequest : (h.putRequest later q).cfg = h.cfg := by
  cases later <;> rfl

end Requests

section Channels
variable {s u : State} {m : Mach} {n : Fin 16}

/-- An instruction on a channel that the machine may use, and whose block is out of reset. -/
theorem onOwned_of_free {b : Blk} (ho : (u.mayUse m).testBit n.val = true) (hb : u.inReset b = false) (op : HeldOp) (f : State → State) :
    u.onOwned m n b op f = f u := by
  simp [State.onOwned, ho, hb]

/-- What a channel instruction leaves where its effect on the blocks is `t`, which writes no machine and causes no reset. -/
theorem chan_result {t : State} (hi : s.Issues m u) (hr : t.rst = u.rst) (hm : t.machs = u.machs) (gd : BitVec 5) (v : Word) :
    ∃ x, ok (t.setRetire m gd v) = .next x ∧ RegResult t x m gd v ((u.mach m).pc + 4) :=
  ok_setRetire hi.settled hr (by rw [mach_of_machs hm]) gd v

/-- A state that differs in the machines only has the same channels and the same SRAM. -/
theorem RegResult.chs {t x : State} {gd : BitVec 5} {v pc : Word} (h : RegResult t x m gd v pc) : x.chs = t.chs :=
  (congrArg State.chs h.rest :)

theorem RegResult.ch {t x : State} {gd : BitVec 5} {v pc : Word} (h : RegResult t x m gd v pc) (k : Fin 16) : x.ch k = t.ch k :=
  congrArg (vget · k) h.chs

theorem RegResult.sram {t x : State} {gd : BitVec 5} {v pc : Word} (h : RegResult t x m gd v pc) : x.sram = t.sram :=
  (congrArg State.sram h.rest :)

/-! ### CHMODE (R154, R155) -/

theorem inSram_of_ready {a k : Nat} (h : u.SramReady a k) (hk : 0 < k) : inSram a = true :=
  decide_eq_true (by have := h.inside; omega)

theorem chanDo_chmode (ho : (u.mayUse m).testBit n.val = true) (hb : u.inReset (.ch n) = false) (gd : BitVec 5) (a : Nat) :
    u.chanDo m (.chmode gd n a) = u.chmodeAt m gd n a :=
  onOwned_of_free ho hb _ fun s => s.chmodeAt m gd n a

theorem exec_chmode (hi : s.Issues m u) {ga gb : BitVec 5} (ho : (u.mayUse m).testBit (u.chanOf m ga).val = true)
    (hb : u.inReset (.ch (u.chanOf m ga)) = false) (gd : BitVec 5) :
    exec (.chmode m gd ga gb) s = ok (u.chmodeAt m gd (u.chanOf m ga) (u.rg m gb).toNat) :=
  (issue_of_issues hi _).trans (congrArg ok (chanDo_chmode ho hb gd _))

theorem recordMark_eq_none {p : Option Mark → Bool} {a : Nat} (h : ∀ k < 64, p (u.markOf ((a + k) / 8)) = false) : u.recordMark p a = none := by
  refine List.find?_eq_none.2 fun x hx => ?_
  obtain ⟨i, hlt, rfl⟩ := List.mem_map.1 hx
  rw [h (4 * i) (by have := List.mem_range.1 hlt; omega)]
  decide

/-- A record in written words of SRAM that hold no error. -/
theorem recordRead_of_ready {a : Nat} (hr : u.SramReady a 64) (hw : ∀ k < 64, u.markOf ((a + k) / 8) = some .written) (m : Mach) :
    u.recordRead m a = (.inl (wordsOfBytes (leBytes (u.sramRead a 64) 64)), u) := by
  have hin : inSram a = true := inSram_of_ready hr (by decide)
  have hun : u.recordMark isUnwritten a = none := recordMark_eq_none fun k hk => isUnwritten_eq_false (hw k hk)
  have hpo : u.recordMark isPoisoned a = none := recordMark_eq_none fun k hk => by rw [hw k hk]; rfl
  simp only [State.recordRead, hin, eccTouchAll_of_no_error hr.noError, hun, hpo, if_true]
  rfl

/-- The code of CHMODE (R155). -/
def State.chModeCode (u : State) (n : Fin 16) : Word :=
  .ofNat ((if u.chSt n = stShutting then 1 else 0) + (if ((u.ch n).request u.isLater).record.isSome = true then 16 else 0)
    + 32 * (if u.isLater = true then 1 else 0)
    + 65536 * ((u.getF (Fd.CH_STATE_GEN n.val) + 1 + if u.isLater ∧ (u.ch n).next.isLive then 1 else 0) % 65536))

/-- The state whose request of channel `n` is `q`. -/
def State.chRequested (u : State) (n : Fin 16) (q : ChSlot) : State := (u.setCh n ((u.ch n).putRequest u.isLater q)).showQueue n

theorem ch_chRequested_same (q : ChSlot) : (u.chRequested n q).ch n = (u.ch n).putRequest u.isLater q := ch_setCh_same u n _

theorem ch_chRequested_ne {k : Fin 16} (h : k ≠ n) (q : ChSlot) : (u.chRequested n q).ch k = u.ch k := ch_setCh_ne u h _

/-- A valid record becomes that of the request. -/
theorem chMode_of_valid {r : List Word} (hf : u.refuge = false) (hok : recOk n.val r = true) (hst : u.chSt n = stFaulted → recMode r = mOff) :
    u.chMode_ n r = (u.chModeCode n, u.chRequested n { (u.ch n).request u.isLater with record := some r }) := by
  have hfault : ¬(u.chSt n = stFaulted ∧ recMode r ≠ mOff) := fun h => h.2 (hst h.1)
  have hcode (x y : Nat) (o : Option (List Word)) (later live : Bool) (gen : Nat) :
      BitVec.ofNat 32 (b2n (x == y) + 16 * b2n o.isSome + 32 * b2n later + 65536 * ((gen + 1 + b2n (later && live)) % 65536)) =
      Word.ofNat ((if x = y then 1 else 0) + (if o.isSome = true then 16 else 0) + 32 * (if later = true then 1 else 0)
        + 65536 * ((gen + 1 + if later ∧ live then 1 else 0) % 65536)) := by
    simp [b2n, Word.ofNat]
  rw [State.chMode_, if_neg (by simp [hf]), if_neg (by simp [hok]), if_neg hfault]
  refine Prod.ext (hcode _ _ _ _ _ _) ?_
  simp only [State.chRequested, ChanH.putRequest, ChanH.request]
  cases u.isLater <;> rfl

theorem chmodeAt_of_ready {r : List Word} {a : Nat} (ha : a % 64 = 0) (hs : u.SramReady a 64)
    (hw : ∀ k < 64, u.markOf ((a + k) / 8) = some .written) (hr : wordsOfBytes (leBytes (u.sramRead a 64) 64) = r) (hal : u.alive m = true)
    {v : Word} {t : State} (hc : u.chMode_ n r = (v, t)) (gd : BitVec 5) : u.chmodeAt m gd n a = t.setRetire m gd v := by
  have hin : inSram a = true := inSram_of_ready hs (by decide)
  rw [State.chmodeAt, if_neg (by simp [ha]), if_neg (by simp [hin]), if_neg (by simp [hs.noHeal]), recordRead_of_ready hs hw, hr]
  simp only [still_of_alive hal, hc]

/-! ### CHSET of an item that waits for its departure (R157) -/

theorem chanDo_chset (ho : (u.mayUse m).testBit n.val = true) (hb : u.inReset (.ch n) = false) (i : Nat) (gd : BitVec 5) (v : Word) :
    u.chanDo m (.chset i gd n v) = u.chsetAt m gd n i v :=
  onOwned_of_free ho hb _ fun s => s.chsetAt m gd n i v

theorem exec_chset (hi : s.Issues m u) {ga : BitVec 5} (ho : (u.mayUse m).testBit (u.chanOf m ga).val = true)
    (hb : u.inReset (.ch (u.chanOf m ga)) = false) {i : BitVec 8} (h30 : i.toNat < 0x30) (gd gb : BitVec 5) :
    exec (.chset m i gd ga gb) s = ok (u.chsetAt m gd (u.chanOf m ga) i.toNat (u.rg m gb)) := by
  refine (issue_of_issues hi _).trans (congrArg ok ?_)
  rw [if_neg (Nat.not_le.2 h30)]
  exact chanDo_chset ho hb _ gd _

theorem exec_chsetStart (hi : s.Issues m u) {ga : BitVec 5} (ho : (u.mayUse m).testBit (u.chanOf m ga).val = true)
    (hb : u.inReset (.ch (u.chanOf m ga)) = false) (gd gb : BitVec 5) :
    exec (.chsetStart m gd ga gb) s = ok (u.chsetAt m gd (u.chanOf m ga) 0 (u.rg m gb)) :=
  (issue_of_issues hi _).trans (congrArg ok (chanDo_chset ho hb 0 gd _))

/-- The code of CHSET (R157). -/
def State.chSetCode (u : State) (n : Fin 16) (i : Nat) : Word :=
  .ofNat ((if ((u.ch n).request u.isLater).items.any (fun p => p.1 == i) = true then 16 else 0) + 32 * (if u.isLater = true then 1 else 0))

/-- The request of channel `n` with the item `i`. -/
def State.withItem (u : State) (n : Fin 16) (i : Nat) (v : Word) : ChSlot :=
  { (u.ch n).request u.isLater with items := putItem ((u.ch n).request u.isLater).items i (if i = 0x1D then .ofNat (u.ch n).actSeq else v) }

/-- A valid item takes its place in the request. -/
theorem chSet_of_valid {i : Nat} {v : Word} (hf : u.refuge = false)
    (hset : itemSet (u.cfgAt n u.isLater).mode (u.cfgAt n u.isLater).variant i = true)
    (hok : ((u.cfgAt n u.isLater).setItem i v).itemOk i = true)
    (hdrive : i = 0x13 → v ≠ 0 → v.toNat ≤ 4 → isAnaOut (u.chMode n) = true ∧ u.chSt n = stActive) :
    u.chSet n i v = (u.chSetCode n i, u.chRequested n (u.withItem n i v)) := by
  have hno : ¬(itemSet (u.cfgAt n u.isLater).mode (u.cfgAt n u.isLater).variant i = false ∨
      (i = 0x13 ∧ 1 ≤ v.toNat ∧ v.toNat ≤ 4) ∧ (isAnaOut (u.chMode n) && u.chSt n == stActive) = false) := by
    rintro (h | ⟨⟨h13, h1, h4⟩, hx⟩)
    · rw [hset] at h
      exact Bool.noConfusion h
    · obtain ⟨hout, hact⟩ := hdrive h13 (fun h0 => by simp [h0] at h1) h4
      simp [hout, hact] at hx
  have hcode (q : ChSlot) (later : Bool) : BitVec.ofNat 32 (16 * b2n (q.items.any fun p => p.1 == i) + 32 * b2n later) =
      Word.ofNat ((if q.items.any (fun p => p.1 == i) = true then 16 else 0) + 32 * (if later = true then 1 else 0)) := by
    cases q.items.any (fun p => p.1 == i) <;> rfl
  rw [State.chSet, if_neg (by simp [hf]), if_neg hno, if_neg (by simp [hok])]
  exact Prod.ext (hcode _ _) rfl

/-! ### CHSET of item 0x00 (R157, R301) -/

/-- The start of the sequences that `v` selects, their trigger being the program. -/
theorem chStart_of_valid {v : Word} (hf : u.refuge = false) (hin : isAnaIn (u.ch n).cfg.mode = true) (hst : u.chSt n = stActive) (h0 : v ≠ 0)
    (h4 : v.toNat < 4) (hr : v.getLsbD 0 = true → (u.ch n).regTrig = 6) (hj : v.getLsbD 1 = true → (u.ch n).injTrig = 6) :
    u.chStart n v = (0, u.setCh n
      (let h := if v.getLsbD 1 then (u.ch n).trigInj u.tt.clk else u.ch n
      if v.getLsbD 0 then h.trigReg false u.tt.clk else h)) := by
  have hno : ¬(v = 0 ∨ 4 ≤ v.toNat ∨ (v.getLsbD 0 = true ∧ (u.ch n).regTrig ≠ 6) ∨ (v.getLsbD 1 = true ∧ (u.ch n).injTrig ≠ 6)) := by
    rintro (h | h | h | h)
    · exact h0 h
    · omega
    · exact h.2 (hr h.1)
    · exact h.2 (hj h.1)
  rw [State.chStart, if_neg (by simp [hf]), if_neg (by simp [hin]), if_neg (by simp [hst]), if_neg hno]

/-- A regular trigger that finds the path idle starts the regular sequence. -/
theorem trigReg_of_idle {h : ChanH} (hrun : h.regRun = true) (hs : h.regSlot = none) (hn : h.regNext = none) (hj : h.injSlot = none)
    (hw : h.injWait = none) (now : Nat) : h.trigReg false now = { h with regSlot := some 0, regStart := some now } := by
  simp [ChanH.trigReg, hrun, hs, hn, hj, hw]

/-- An injected trigger that finds the path idle starts the injected sequence. -/
theorem trigInj_of_idle {h : ChanH} (hen : h.injEn = true) (hs : h.regSlot = none) (hj : h.injSlot = none) (hw : h.injWait = none) (now : Nat) :
    h.trigInj now = { h with injSlot := some 0, injDelay := 0, injStart := some now } := by
  simp [ChanH.trigInj, hen, hs, hj, hw]

/-- Both forms of CHSET of item 0x00. -/
theorem start_result (hi : s.Issues m u) {ga : BitVec 5} (ho : (u.mayUse m).testBit (u.chanOf m ga).val = true)
    (hb : u.inReset (.ch (u.chanOf m ga)) = false) {gd gb : BitVec 5} {c : Instr}
    (hc : c ∈ [Instr.chset m 0 gd ga gb, .chsetStart m gd ga gb]) {h : ChanH}
    (hs : u.chStart (u.chanOf m ga) (u.rg m gb) = (0, u.setCh (u.chanOf m ga) h)) :
    ∃ t, exec c s = .next t ∧ RegResult (u.setCh (u.chanOf m ga) h) t m gd 0 ((u.mach m).pc + 4) := by
  have hexec : exec c s = ok (u.chsetAt m gd (u.chanOf m ga) 0 (u.rg m gb)) := by
    simp only [List.mem_cons, List.not_mem_nil, or_false] at hc
    obtain rfl | rfl := hc
    · exact exec_chset hi ho hb (i := 0) (by decide) gd gb
    · exact exec_chsetStart hi ho hb gd gb
  rw [hexec, State.chsetAt, if_pos rfl, hs]
  exact chan_result (t := u.setCh (u.chanOf m ga) h) hi rfl rfl gd 0

/-! ### CHGET (R157, R158, R302) -/

theorem chanDo_chget (ho : (u.mayUse m).testBit n.val = true) (hb : u.inReset (.ch n) = false) (i : Nat) (gd : BitVec 5) :
    u.chanDo m (.chget i gd n) = u.chgetAt m gd n i :=
  onOwned_of_free ho hb _ fun s => s.chgetAt m gd n i

theorem exec_chget (hi : s.Issues m u) {ga : BitVec 5} (ho : (u.mayUse m).testBit (u.chanOf m ga).val = true)
    (hb : u.inReset (.ch (u.chanOf m ga)) = false) {i : BitVec 8} (h30 : i.toNat < 0x30) (gd : BitVec 5) :
    exec (.chget m i gd ga) s = ok (u.chgetAt m gd (u.chanOf m ga) i.toNat) := by
  refine (issue_of_issues hi _).trans (congrArg ok ?_)
  rw [if_neg (Nat.not_le.2 h30)]
  exact chanDo_chget ho hb _ gd

/-- INJ_RES reads the oldest entry. -/
theorem itemRead_injRes (h : itemDefined (u.ch n).cfg.mode (u.ch n).cfg.variant 0x0E = true) :
    u.itemRead n 0x0E = ((u.ch n).injQ.head?.map (·.value)).getD 0 := by
  simp [State.itemRead, ChanH.itemRead, h]

end Channels

/-! ### The obligation -/

/-- Settles O20: each instruction is its effect on the channel's record of requests, or on the channel, and retires with its code. -/
theorem channelInstructions : Obligations.ChannelInstructions := by
  unfold Obligations.ChannelInstructions
  refine ⟨fun s u m gd ga gb i hi => ?_, fun s u m gd ga gb i hi => ?_⟩
  · intro n a v r later slot c ho hb hf
    refine ⟨fun ha hs hw hok hst => ?_, fun h0 h30 hset hok hdrive => ?_⟩
    · obtain ⟨x, hx, hres⟩ := chan_result (t := u.chRequested n { (u.ch n).request u.isLater with record := some r }) hi rfl rfl gd (u.chModeCode n)
      refine ⟨x, ?_, ?_, ?_, fun k hk => ?_, hres.sram, hres.pc, hres.reg⟩
      · rw [exec_chmode hi ho hb, chmodeAt_of_ready ha hs hw rfl (alive_of_issues hi) (chMode_of_valid hf hok hst)]
        exact hx
      · rw [hres.ch, ch_chRequested_same]
        exact request_putRequest _ _ _
      · rw [hres.ch, ch_chRequested_same, cfg_putRequest]
      · rw [hres.ch, ch_chRequested_ne hk]
    · obtain ⟨x, hx, hres⟩ := chan_result (t := u.chRequested n (u.withItem n i.toNat v)) hi rfl rfl gd (u.chSetCode n i.toNat)
      have hslot : slot (x.ch n) = u.withItem n i.toNat v := by
        rw [hres.ch, ch_chRequested_same]
        exact request_putRequest _ _ _
      refine ⟨x, ?_, ?_, ?_, ?_, fun k hk => ?_, hres.sram, hres.pc, hres.reg⟩
      · rw [exec_chset hi ho hb h30, State.chsetAt, if_neg (Nat.ne_of_gt h0), chSet_of_valid hf hset hok fun h13 => hdrive (BitVec.eq_of_toNat_eq h13)]
        exact hx
      · have h1d : i.toNat = 0x1D ↔ i = 0x1D := BitVec.toNat_inj (y := (0x1D : BitVec 8))
        rw [hslot]
        simp only [State.withItem, putItem, h1d]
        rfl
      · rw [hslot]
        rfl
      · rw [hres.ch, ch_chRequested_same, cfg_putRequest]
      · rw [hres.ch, ch_chRequested_ne hk]
  · intro n h ho hb
    refine ⟨fun c hc hf hin hst => ⟨fun hv hreg hrun hs hn hj hw => ?_, fun hv hinj hen hs hj hw => ?_⟩, fun h30 hne => ?_, fun hd => ?_⟩
    · refine start_result hi ho hb hc ?_
      rw [chStart_of_valid hf hin hst (by rw [hv]; decide) (by rw [hv]; decide) (fun _ => hreg) (fun h1 => by rw [hv] at h1; exact absurd h1 (by decide)), hv]
      exact congrArg (fun y => (0, u.setCh n y)) (trigReg_of_idle hrun hs hn hj hw _)
    · refine start_result hi ho hb hc ?_
      rw [chStart_of_valid hf hin hst (by rw [hv]; decide) (by rw [hv]; decide) (fun h1 => by rw [hv] at h1; exact absurd h1 (by decide)) (fun _ => hinj), hv]
      exact congrArg (fun y => (0, u.setCh n y)) (trigInj_of_idle hen hs hj hw _)
    · rw [exec_chget hi ho hb h30, State.chgetAt, if_neg (fun hc => hne (BitVec.eq_of_toNat_eq hc.1))]
      exact chan_result hi rfl rfl gd _
    · obtain ⟨x, hx, hres⟩ := chan_result (t := u.modCh n ChanH.popInj) hi rfl rfl gd (u.itemRead n 0x0E)
      refine ⟨x, ?_, ?_, ?_, hres.pc, fun k hk => ?_⟩
      · rw [exec_chget hi ho hb (i := 0x0E) (by decide), State.chgetAt, if_pos ⟨rfl, hd⟩]
        exact hx
      · rw [hres.ch, ch_modCh_same]
        rfl
      · rw [hres.reg, itemRead_injRes hd]
      · rw [hres.ch]
        exact ch_modCh_ne u hk _

end Sys2Proof.Machine
end

section
/-! PROOF. PROPOSE, RETRACT, COMMIT and PEEK (O23). -/

namespace Sys2Proof.Machine

/-! ### Proposals as fields of the state -/

section Fields
variable {s t u : State} {c k : Fin 16}

@[simp] theorem prop_setProp_same (s : State) (c : Fin 16) (p : Proposal) : (s.setProp c p).prop c = p := vget_vset_same _ _ _

theorem prop_setProp_ne (h : k ≠ c) (s : State) (p : Proposal) : (s.setProp c p).prop k = s.prop k := vget_vset_ne h _ _

theorem prop_of_mani (h : t.mani = s.mani) (c : Fin 16) : t.prop c = s.prop c := by
  rw [State.prop, h, State.prop]

theorem committedMask_of_mani (h : t.mani = s.mani) : t.committedMask = s.committedMask := by
  simp only [State.committedMask, prop_of_mani h]

theorem peekedBy_of_mani (h : t.mani = s.mani) (m : Mach) : t.peekedBy m = s.peekedBy m := by
  rw [State.peekedBy, h, State.peekedBy]

@[simp] theorem prop_dropPeeked (s : State) (node chan : Nat) (q : Option Nat) (c : Fin 16) : (s.dropPeeked node chan q).prop c = s.prop c := rfl

theorem RegResult.mani {x : State} {m : Mach} {gd : BitVec 5} {v pc : Word} (h : RegResult t x m gd v pc) : x.mani = t.mani :=
  (congrArg State.mani h.rest :)

theorem hasEpoch_of_not_late (h : u.late = false) : u.hasEpoch = true := by
  cases hE : u.hasEpoch
  · simp [State.late, hE] at h
  · rfl

theorem late_congr (hepoch : t.hasEpoch = u.hasEpoch) (hdep : t.nextDep = u.nextDep) (hclk : t.tt.clk = u.tt.clk) (hmani : t.mani = u.mani) :
    t.late = u.late := by
  have hdeadline : t.deadline = u.deadline := congrArg (· - 2000) hdep
  unfold State.late
  rw [hepoch, hdeadline, hclk, hmani]

/-- The commit deadline has no part in a register but those of the timetable. -/
theorem late_setF {f : Fd} (h : Rg.TT_STAT.addr ≠ f.reg.addr) (h' : Rg.TT_PERIOD_ACT.addr ≠ f.reg.addr) (v : Nat) :
    (u.setF f v).late = u.late :=
  late_congr (congrArg (· && u.tt.started) (isF_of_getR (f := Fd.TT_STAT_LOCKED) (getR_setF_ne u h v)))
    (congrArg (fun p => u.tt.anchorT + (u.tt.nextE - u.tt.anchorE) * p * 1000)
      (getF_of_getR (f := Fd.TT_PERIOD_ACT_PERIOD) (getR_setF_ne u h' v))) rfl rfl

end Fields

section Intents
variable {s u : State} {m : Mach} {c : Fin 16}

/-! ### PROPOSE (R164, R165) -/

theorem exec_propose (hi : s.Issues m u) {ga : BitVec 5} (ho : (u.mayUse m).testBit (u.chanOf m ga).val = true)
    (hb : u.inReset .mani = false) {gb : BitVec 5} {v : Word} {t : State} (hc : u.propose m (u.chanOf m ga) (u.rg m gb) = (v, t))
    (ha : t.alive m = true) (gd : BitVec 5) : exec (.propose m gd ga gb) s = ok (t.setRetire m gd v) := by
  refine (issue_of_issues hi _).trans (congrArg ok ?_)
  rw [State.chanDo, onOwned_of_free ho hb]
  simp only [hc, still_of_alive ha]

/-- The proposal that a machine makes. -/
def State.proposal (u : State) (m : Mach) (v : Word) : Proposal :=
  { state := .proposed, value := v, depth := depthOf (u.peekedBy m), deps := u.peekedBy m, by_ := m }

theorem propose_of_open {v : Word} (hf : u.refuge = false) (hl : u.late = false) (hst : (u.prop c).state = .none ∨ (u.prop c).state = .retracted)
    (hd : u.willDrive c = true) (hv : valueOk (u.cfgAt c false).mode v = true) (h9 : depthOf (u.peekedBy m) < 9) :
    u.propose m c v = (if u.peekedBy m = [] then 0 else 16, u.setProp c (u.proposal m v)) := by
  have hlive : (u.prop c).live = false := by rcases hst with h | h <;> rw [Proposal.live, h] <;> rfl
  have hfree : ¬((u.prop c).state = .conditional ∨ (u.prop c).state = .final) := by rcases hst with h | h <;> rw [h] <;> decide
  have hcode (l : List Dep) : BitVec.ofNat 32 (b2n false + 16 * b2n (!l.isEmpty)) = if l = [] then 0 else 16 := by
    cases l <;> rfl
  rw [State.propose, if_neg (by simp [hf]), if_neg (by simp [hasEpoch_of_not_late hl]), if_neg (by simp [hl]), if_neg (by simp [hd]), if_neg hfree,
    if_neg (by simp [hv]), hlive, if_neg Bool.false_ne_true, ← hcode]
  exact if_neg (Nat.not_le.2 h9)

/-! ### RETRACT (R166) -/

theorem exec_retract (hi : s.Issues m u) {ga : BitVec 5} (ho : (u.mayUse m).testBit (u.chanOf m ga).val = true)
    (hb : u.inReset .mani = false) {v : Word} {t : State} (hc : u.retract (u.chanOf m ga) = (v, t))
    (ha : t.alive m = true) (gd : BitVec 5) : exec (.retract m gd ga) s = ok (t.setRetire m gd v) := by
  refine (issue_of_issues hi _).trans (congrArg ok ?_)
  rw [State.chanDo, onOwned_of_free ho hb]
  simp only [hc, still_of_alive ha]

/-- The proposal of a channel is gone, and no later one depends on it. -/
def State.unproposed (u : State) (c : Fin 16) : State := (u.setProp c {}).dropPeeked u.nodeId c.val none

theorem retract_of_proposed (hl : u.late = false) (hst : (u.prop c).state = .proposed) (hcons : (u.prop c).cons = []) :
    u.retract c = (0, u.unproposed c) := by
  simp only [State.retract, hl, hst, Proposal.live, hcons]
  rfl

/-! ### COMMIT (R167) -/

theorem maskChans_two_pow (c : Fin 16) : maskChans (2 ^ c.val) = [c] := by
  revert c
  decide

theorem exec_commit (hi : s.Issues m u) {ga : BitVec 5} (hmask : (u.rg m ga).toNat % 65536 = 2 ^ c.val) (ho : (u.mayUse m).testBit c.val = true)
    (hb : u.inReset .mani = false) {v : Word} {t : State} (hc : u.commit m (2 ^ c.val) = (v, t)) (ha : t.alive m = true) (gd : BitVec 5) :
    exec (.commit m gd ga) s = ok (t.setRetire m gd v) := by
  have hnone : (maskChans (2 ^ c.val)).find? (fun n => !(u.mayUse m).testBit n.val) = none := by
    rw [maskChans_two_pow]
    simp [ho]
  refine (issue_of_issues hi _).trans (congrArg ok ?_)
  show u.commitOp m gd _ = _
  rw [hmask, State.commitOp, hnone]
  simp only [hb, hc, Bool.false_eq_true, if_false, still_of_alive ha]

/-- A commit without consumers changes its own proposal, and what is peeked, only. -/
structure CommitOnly (s t : State) (c : Fin 16) (p : Proposal) : Prop where
  own : t.prop c = p
  others : ∀ k, k ≠ c → t.prop k = s.prop k
  rest : { t with mani := s.mani } = s

/-- A proposal becomes final where no node has peeked it. -/
theorem commitOnly_finalize_own (hcons : (u.prop c).cons = []) :
    CommitOnly u (u.finalize c) c { u.prop c with state := .final, deps := [], cons := [] } := by
  have heach : u.finalize c = (u.setProp c { u.prop c with state := .final, deps := [], cons := [] }).dropPeeked u.nodeId c.val none := by
    simp only [State.finalize, hcons]
    rfl
  rw [heach]
  exact ⟨prop_setProp_same _ _ _, fun k hk => prop_setProp_ne hk _ _, rfl⟩

/-- A proposal that is written first is its channel's own. -/
theorem CommitOnly.of_setProp {t : State} {p q : Proposal} (h : CommitOnly (u.setProp c p) t c q) : CommitOnly u t c q :=
  ⟨h.own, fun k hk => (h.others k hk).trans (prop_setProp_ne hk u p), (congrArg (fun s : State => { s with mani := u.mani }) h.rest :)⟩

theorem commitOnly_finalize {p : Proposal} (hcons : p.cons = []) :
    CommitOnly u ((u.setProp c p).finalize c) c { p with state := .final, deps := [], cons := [] } := by
  have h := commitOnly_finalize_own (u := u.setProp c p) (c := c)
  rw [prop_setProp_same] at h
  exact (h hcons).of_setProp

theorem CommitOnly.regs {t : State} {p : Proposal} (h : CommitOnly u t c p) : t.regs = u.regs := (congrArg State.regs h.rest :)
theorem CommitOnly.rst {t : State} {p : Proposal} (h : CommitOnly u t c p) : t.rst = u.rst := (congrArg State.rst h.rest :)
theorem CommitOnly.machs {t : State} {p : Proposal} (h : CommitOnly u t c p) : t.machs = u.machs := (congrArg State.machs h.rest :)

theorem CommitOnly.alive {t : State} {p : Proposal} (h : CommitOnly u t c p) (m : Mach) : t.alive m = u.alive m := by
  have hrest : t = { u with mani := t.mani } := by
    rw [← h.rest]
  rw [hrest]
  exact alive_congr (s := u) (t := { u with mani := t.mani }) rfl rfl rfl rfl m

/-- The proposal that COMMIT makes of that of channel `c`, of which there is none or one that is PROPOSED. -/
def State.committedProp (u : State) (m : Mach) (c : Fin 16) : Proposal :=
  let p := u.prop c
  if p.state = .none then { p with state := .final, value := (u.ch c).target, keep := true, by_ := m, deps := [], cons := [] }
  else if p.deps.isEmpty then { p with state := .final, deps := [], cons := [] }
  else { p with state := .conditional }

theorem commitOnly_commitOne (hcons : (u.prop c).cons = []) (hst : (u.prop c).state = .none ∨ (u.prop c).state = .proposed) :
    CommitOnly u (State.commitOne m c u) c (u.committedProp m c) := by
  obtain hst | hst := hst
  · rw [State.commitOne, State.committedProp, hst, if_pos rfl]
    exact commitOnly_finalize (p := { u.prop c with state := .final, value := (u.ch c).target, keep := true, by_ := m }) hcons
  · cases hd : (u.prop c).deps.isEmpty <;>
      simp only [State.commitOne, State.committedProp, hst, hd, reduceCtorEq, Bool.false_eq_true, if_false, if_true]
    · exact ⟨prop_setProp_same _ _ _, fun k hk => prop_setProp_ne hk _ _, rfl⟩
    · exact commitOnly_finalize_own hcons

theorem committed_committedProp : (u.committedProp m c).committed = true := by
  unfold State.committedProp
  dsimp only
  split
  · rfl
  · split <;> rfl

theorem state_committedProp (hst : (u.prop c).state = .none ∨ (u.prop c).state = .proposed) :
    (u.committedProp m c).state = if (u.prop c).state = .proposed ∧ (u.prop c).deps ≠ [] then .conditional else .final := by
  obtain hst | hst := hst
  · simp [State.committedProp, hst]
  · cases hd : (u.prop c).deps <;> simp [State.committedProp, hst, hd]

theorem value_committedProp : (u.committedProp m c).value = if (u.prop c).state = .none then (u.ch c).target else (u.prop c).value := by
  unfold State.committedProp
  dsimp only
  split
  · rfl
  · split <;> rfl

/-- COMMIT of one channel whose proposal no node has peeked. -/
theorem commit_of_open (hf : u.refuge = false) (hl : u.late = false) (hcons : (u.prop c).cons = [])
    (hst : (u.prop c).state = .none ∨ (u.prop c).state = .proposed) :
    ∃ t, CommitOnly (u.markStarted m.triad) t c (u.committedProp m c) ∧
      u.commit m (2 ^ c.val) = (.ofNat (t.committedMask * 65536), t) := by
  have h := commitOnly_commitOne (u := u.markStarted m.triad) (m := m) (c := c)
  have hmani : (u.markStarted m.triad).mani = u.mani := by cases m.triad <;> rfl
  have hch : (u.markStarted m.triad).ch c = u.ch c := by cases m.triad <;> rfl
  rw [State.committedProp, prop_of_mani hmani, hch] at h
  have hrefuge : (u.markStarted m.triad).refuge = false := by
    rw [← hf]
    cases m.triad <;> exact isF_of_getR (f := Fd.RFG_STAT_ACTIVE) (getR_onF_ne _ (by decide))
  have hlate : (u.markStarted m.triad).late = false := by
    rw [← hl]
    cases m.triad <;> exact late_setF (by decide) (by decide) _
  specialize h hcons hst
  refine ⟨_, h, ?_⟩
  have hdone : ((State.commitOne m c (u.markStarted m.triad)).prop c).committed = true := by
    rw [h.own]
    exact committed_committedProp
  have heach : State.each (State.commitOne m) [c] (u.markStarted m.triad) = State.commitOne m c (u.markStarted m.triad) := rfl
  simp only [State.commit, hrefuge, hlate, maskChans_two_pow, heach, List.any_cons, List.any_nil]
  simp [b2n, Word.ofNat, hdone]

theorem startedBit_of_regs {t : State} (h : t.regs = u.regs) (x : Triad) : t.startedBit x = u.startedBit x := by
  cases x <;> exact isF_of_getR (by rw [State.getR, h, State.getR])

theorem startedBit_markStarted (t : Triad) : (u.markStarted t).startedBit t = true := by
  cases t <;> exact isF_onF_same _ _ (by decide) (by decide)

theorem alive_markStarted (t : Triad) : (u.markStarted t).alive m = u.alive m := by
  cases t <;> exact alive_setF (by decide) (by decide) _

/-! ### PEEK at this node (R168, R169) -/

theorem exec_peek (hi : s.Issues m u) {gd ga : BitVec 5} (hok : pairOk gd = true) (hb : u.inReset .mani = false) :
    exec (.peek m gd ga) s = ok (u.peek m gd ((u.rg m ga).toNat / 16 % 1024) ((u.rg m ga).toNat % 16)) := by
  refine (issue_of_issues hi _).trans (congrArg ok ?_)
  simp only [hok, State.chanDo, hb, Bool.not_true, Bool.false_eq_true, if_false]

/-- The end of a PEEK writes the pair and retires. -/
theorem peekEnd_result {t : State} (hd : u.Settled) (hr : t.rst = u.rst) (hm : t.machs = u.machs) {gd : BitVec 5} (h2 : gd.toNat % 2 = 0)
    (v status : Word) : ∃ x, ok (t.peekEnd m gd v status) = .next x ∧ x.rg m gd = (if gd = 0 then 0 else v) ∧ x.rg m (gd + 1) = status ∧
      (∀ r, r ≠ gd → r ≠ gd + 1 → x.rg m r = u.rg m r) ∧ (x.mach m).pc = (u.mach m).pc + 4 ∧ x.mani = t.mani := by
  obtain ⟨hne, h0⟩ := pair_ne h2
  have hres := regResult_setRetire (t.wg m gd v) m (gd + 1) status
  have hmani := hres.mani.trans (wg_mani t m gd v)
  refine ⟨_, ok_of_rst (s := u) ?_ hd, ?_, ?_, fun r hr hr' => ?_, ?_, hmani⟩
  · exact (wg_rst (t.wg m gd v) m (gd + 1) status).trans ((wg_rst t m gd v).trans hr)
  · exact (hres.others gd hne.symm).trans (rg_wg_same _ _ _ _)
  · exact hres.reg.trans (if_neg h0)
  · exact (hres.others r hr').trans ((rg_wg_ne _ m hr _).trans (rg_of_machs hm m r))
  · refine hres.pc.trans ?_
    rw [mach_wg, mach_of_machs hm]
    split <;> rfl

/-- A PEEK by machine `m` is a dependency on the proposal. -/
def State.peekDep (u : State) (m : Mach) (c : Fin 16) : Bool := u.peekCodeNow (u.prop c) == 1 && some m != some (u.prop c).by_

/-- The dependency is noted at the proposal and at the machine. -/
def State.peekNoted (u : State) (m : Mach) (c : Fin 16) : State :=
  (u.setProp c { u.prop c with cons := u.nodeId :: (u.prop c).cons.filter (· != u.nodeId) }).notePeek m
    { node := u.nodeId, chan := c.val, depth := (u.prop c).depth }

/-- What a PEEK leaves of the proposals. -/
def State.peekMade (u : State) (m : Mach) (c : Fin 16) : State := if u.peekDep m c then u.peekNoted m c else u

theorem rst_peekMade (u : State) (m : Mach) (c : Fin 16) : (u.peekMade m c).rst = u.rst := by
  unfold State.peekMade
  split <;> rfl

theorem machs_peekMade (u : State) (m : Mach) (c : Fin 16) : (u.peekMade m c).machs = u.machs := by
  unfold State.peekMade
  split <;> rfl

theorem peekNoted_holds (u : State) (m : Mach) (c : Fin 16) : u.nodeId ∈ ((u.peekNoted m c).prop c).cons ∧
    ({ node := u.nodeId, chan := c.val, depth := (u.prop c).depth } : Dep) ∈ (u.peekNoted m c).peekedBy m := by
  constructor
  · have hprop : (u.peekNoted m c).prop c = { u.prop c with cons := u.nodeId :: (u.prop c).cons.filter (· != u.nodeId) } :=
      prop_setProp_same _ _ _
    rw [hprop]
    exact List.mem_cons_self
  · rw [State.peekedBy, State.peekNoted, State.notePeek, vget_vset_same]
    exact List.mem_cons_self

/-- A proposal that can still change has code 1, until the deadline makes it 3 (R229, R238). -/
theorem peekCodeNow_of_open {p : Proposal} (h : p.state = .proposed ∨ p.state = .conditional) :
    u.peekCodeNow p = if u.late = true then 3 else 1 := by
  have hcode : p.peekCode = 1 := by rcases h with h | h <;> rw [Proposal.peekCode, h]
  cases hl : u.late <;> simp [State.peekCodeNow, hcode, hl]

theorem peekCodeNow_of_closed {p : Proposal} (h : ¬(p.state = .proposed ∨ p.state = .conditional)) : u.peekCodeNow p = p.peekCode := by
  have hcode : p.peekCode ≠ 1 := fun hc => h (by cases hst : p.state <;> simp [Proposal.peekCode, hst] at hc ⊢)
  simp [State.peekCodeNow, hcode]

/-- The code of a proposal by its state. -/
theorem peekCodeNow_eq (p : Proposal) : u.peekCodeNow p = match p.state with
    | .none => 0
    | .proposed => if u.late = true then 3 else 1
    | .conditional => if u.late = true then 3 else 1
    | .final => 2
    | .retracted => 3
    | .doubt => 4 := by
  cases hst : p.state <;>
    simp only [peekCodeNow_of_open, peekCodeNow_of_closed, Proposal.peekCode, hst, reduceCtorEq, or_true, or_false, not_false_eq_true]

theorem peekDep_iff : u.peekDep m c = true ↔
    ((u.prop c).state = .proposed ∨ (u.prop c).state = .conditional) ∧ u.late = false ∧ (u.prop c).by_ ≠ m := by
  by_cases h : (u.prop c).state = .proposed ∨ (u.prop c).state = .conditional
  · cases hl : u.late <;> simp [State.peekDep, peekCodeNow_of_open h, h, hl]
    exact not_congr eq_comm
  · have hcode : (u.prop c).peekCode ≠ 1 := fun hc => h (by cases hst : (u.prop c).state <;> simp [Proposal.peekCode, hst] at hc ⊢)
    simp [State.peekDep, peekCodeNow_of_closed h, h, hcode]

theorem peekValue_of_state (p : Proposal) :
    (if u.peekCodeNow p = 1 ∨ u.peekCodeNow p = 2 ∨ u.peekCodeNow p = 4 then p.value else 0) =
    if p.state = .none ∨ p.state = .retracted ∨ (p.state = .proposed ∨ p.state = .conditional) ∧ u.late = true then 0 else p.value := by
  by_cases h : p.state = .proposed ∨ p.state = .conditional
  · rw [peekCodeNow_of_open h]
    cases hl : u.late <;> rcases h with h | h <;> simp [h]
  · rw [peekCodeNow_of_closed h]
    cases hst : p.state <;> simp [hst, Proposal.peekCode] at h ⊢

/-- The status of a PEEK at this node (R168). -/
theorem peekStatus_of_state (c : Fin 16) : peekStatus (u.peekCodeNow (u.prop c)) (u.peekDep m c) u.tt.nextE =
    .ofNat ((match (u.prop c).state with
      | .none => 0
      | .proposed => if u.late = true then 3 else 1
      | .conditional => if u.late = true then 3 else 1
      | .final => 2
      | .retracted => 3
      | .doubt => 4)
      + (if ((u.prop c).state = .proposed ∨ (u.prop c).state = .conditional) ∧ u.late = false ∧ (u.prop c).by_ ≠ m then 16 else 0)
      + u.tt.nextE % 65536 * 65536) := by
  have hdep : 16 * b2n (u.peekDep m c) =
      if ((u.prop c).state = .proposed ∨ (u.prop c).state = .conditional) ∧ u.late = false ∧ (u.prop c).by_ ≠ m then 16 else 0 := by
    rw [← if_congr peekDep_iff rfl rfl, b2n]
    split <;> rfl
  rw [peekStatus, hdep, peekCodeNow_eq]
  rfl

theorem peek_of_peekable (hrev : 2 ≤ u.stationRev) (hlive : u.maniLive = true) (hp : u.bitF Fd.MANI_PEEKABLE_CH c.val = true)
    (hk : (u.prop c).keep = false) (gd : BitVec 5) : u.peek m gd u.nodeId c.val =
      (u.peekMade m c).peekEnd m gd
        (if u.peekCodeNow (u.prop c) = 1 ∨ u.peekCodeNow (u.prop c) = 2 ∨ u.peekCodeNow (u.prop c) = 4 then (u.prop c).value else 0)
        (peekStatus (u.peekCodeNow (u.prop c)) (u.peekDep m c) u.tt.nextE) := by
  have hc : Fin.ofNat 16 c.val = c := Fin.ofNat_val_eq_self c
  rw [State.peek, if_neg (Nat.not_lt.2 hrev), if_pos rfl, State.peekAt, hc]
  cases hd : u.peekDep m c
  all_goals
    have hdep := hd
    rw [State.peekDep] at hdep
    simp only [hp, hlive, hk, hd, hdep, State.peekMade, Bool.not_true, Bool.or_false, Bool.false_eq_true, if_false, if_true]
  simp only [State.peekNoted, hk]

theorem peek_of_unpeekable (hrev : 2 ≤ u.stationRev) (hp : u.bitF Fd.MANI_PEEKABLE_CH c.val = false) (gd : BitVec 5) :
    u.peek m gd u.nodeId c.val = u.peekEnd m gd 0 (peekStatus 0 false u.tt.nextE) := by
  have hc : Fin.ofNat 16 c.val = c := Fin.ofNat_val_eq_self c
  rw [State.peek, if_neg (Nat.not_lt.2 hrev), if_pos rfl, State.peekAt, hc]
  simp only [hp, Bool.not_false, Bool.true_or, if_true, Bool.false_eq_true, if_false]

end Intents

/-! ### The obligation -/

/-- Settles O23: each instruction is its effect on the proposals, with the code that it writes to gd. -/
theorem proposalsAndPeeks : Obligations.ProposalsAndPeeks := by
  unfold Obligations.ProposalsAndPeeks
  refine ⟨fun s u m gd ga gb hi hf hl hb => ?_, fun s u m gd ga hi h0 h2 hb hrev => ?_⟩
  · have ha := alive_of_issues hi
    intro pc
    refine ⟨fun ho => ⟨fun hst hd hv h9 => ?_, fun hst hcons => ?_⟩, fun c hmask ho hcons hst => ?_⟩
    · rw [exec_propose hi ho hb (propose_of_open hf hl hst hd hv h9) ha]
      exact chan_result (t := u.setProp _ _) hi rfl rfl gd _
    · obtain ⟨x, hx, hres⟩ := chan_result (t := u.unproposed (u.chanOf m ga)) hi rfl rfl gd 0
      refine ⟨x, ?_, ?_, fun k hk => ?_, ?_, hres.others, hres.pc⟩
      · rw [exec_retract hi ho hb (retract_of_proposed hl hst hcons) ha]
        exact hx
      · rw [prop_of_mani hres.mani]
        exact prop_setProp_same _ _ _
      · rw [prop_of_mani hres.mani]
        exact prop_setProp_ne hk _ _
      · exact hres.reg.trans (ite_self _)
    · obtain ⟨t, ht, hcommit⟩ := commit_of_open (m := m) hf hl hcons hst
      have hmachs : (u.markStarted m.triad).machs = u.machs := by cases m.triad <;> rfl
      obtain ⟨x, hx, hres⟩ := chan_result (t := t) hi (ht.rst.trans (by cases m.triad <;> rfl)) (ht.machs.trans hmachs) gd (.ofNat (t.committedMask * 65536))
      have hregs : x.regs = (u.markStarted m.triad).regs := (congrArg State.regs hres.rest :).trans ht.regs
      have hmani : (u.markStarted m.triad).mani = u.mani := by cases m.triad <;> rfl
      refine ⟨x, ?_, fun k hk => ?_, ?_, ?_, ?_, ?_, fun r hr => ?_, hres.pc⟩
      · rw [exec_commit hi hmask ho hb hcommit (by rw [ht.alive, alive_markStarted, ha])]
        exact hx
      · rw [prop_of_mani hres.mani, ht.others k hk, prop_of_mani hmani]
      · rw [startedBit_of_regs hregs]
        exact startedBit_markStarted _
      · rw [prop_of_mani hres.mani, ht.own, state_committedProp hst]
      · rw [prop_of_mani hres.mani, ht.own, value_committedProp]
      · rw [committedMask_of_mani hres.mani]
        exact hres.reg
      · exact (hres.others r hr).trans (rg_of_machs (ht.machs.trans hmachs) m r)
  · intro c p waits hnode
    have hchan : (u.rg m ga).toNat % 16 = c.val := rfl
    have hpeek := exec_peek (ga := ga) hi (pairOk_of_even h0 h2) hb
    rw [hnode, hchan] at hpeek
    refine ⟨fun hp hk => ?_, fun hp => ?_⟩
    · have hlive : u.maniLive = true := by
        rw [State.maniLive, running_of_alive (alive_of_issues hi), hb]
        rfl
      rw [peek_of_peekable hrev hlive hp hk] at hpeek
      obtain ⟨x, hx, hlo, hhi, hrest, hpc, hmani⟩ := peekEnd_result (m := m) hi.settled (rst_peekMade u m c) (machs_peekMade u m c) h2
        (if u.peekCodeNow p = 1 ∨ u.peekCodeNow p = 2 ∨ u.peekCodeNow p = 4 then p.value else 0)
        (peekStatus (u.peekCodeNow p) (u.peekDep m c) u.tt.nextE)
      refine ⟨x, hpeek.trans hx, hpc, hrest, ?_, ?_, fun hw hl hby => ?_⟩
      · rw [hlo, if_neg h0]
        exact peekValue_of_state p
      · rw [hhi]
        exact peekStatus_of_state c
      · have hdep : u.peekDep m c = true := peekDep_iff.2 ⟨hw, hl, hby⟩
        rw [State.peekMade, if_pos hdep] at hmani
        rw [prop_of_mani hmani, peekedBy_of_mani hmani]
        exact peekNoted_holds u m c
    · rw [peek_of_unpeekable hrev hp] at hpeek
      obtain ⟨x, hx, hlo, hhi, hrest, hpc, -⟩ := peekEnd_result (m := m) (t := u) hi.settled rfl rfl h2 0 (peekStatus 0 false u.tt.nextE)
      refine ⟨x, hpeek.trans hx, hlo.trans (ite_self _), ?_, hpc⟩
      rw [hhi, peekStatus_of_code, Nat.zero_add]

end Sys2Proof.Machine
end

section
/-! PROOF. Final notices, retractions and PEEKs between nodes (O54). -/

namespace Sys2Proof.Machine

/-! ### Steps that each change one proposal -/

section Each
variable {s : State} {l : List (Fin 16)} {g : Fin 16 → State → State}

/-- Where each step makes `h` of the proposal of its own channel, so does their sequence for the channels that it goes through. -/
theorem props_each {I : State → Prop} {Q : Proposal → Prop} {h : Proposal → Proposal}
    (hg : ∀ c s, I s → Q (s.prop c) → I (g c s) ∧ (g c s).prop c = h (s.prop c) ∧ ∀ k, k ≠ c → (g c s).prop k = s.prop k)
    (hl : l.Nodup) (hI : I s) (hQ : ∀ c ∈ l, Q (s.prop c)) :
    I (State.each g l s) ∧ ∀ c, (State.each g l s).prop c = if c ∈ l then h (s.prop c) else s.prop c := by
  induction l generalizing s with
  | nil => exact ⟨hI, fun c => by rw [if_neg List.not_mem_nil]; rfl⟩
  | cons d r ih =>
    obtain ⟨hd, hr⟩ := List.nodup_cons.1 hl
    obtain ⟨hI', hown, hothers⟩ := hg d s hI (hQ d List.mem_cons_self)
    have hQ' : ∀ c ∈ r, Q ((g d s).prop c) := fun c hc => by
      rw [hothers c fun h => hd (h ▸ hc)]
      exact hQ c (List.mem_cons_of_mem d hc)
    obtain ⟨hI'', hprops⟩ := ih hr hI' hQ'
    refine ⟨hI'', fun c => (hprops c).trans ?_⟩
    by_cases hc : c = d
    · subst hc
      rw [if_neg hd, if_pos List.mem_cons_self, hown]
    · rw [hothers c hc]
      exact if_congr (by rw [List.mem_cons, or_iff_right hc]) rfl rfl

/-- Where only the step of one channel of the list does anything, the sequence is this step. -/
theorem each_of_one {c : Fin 16} (hl : l.Nodup) (hc : c ∈ l) (hg : ∀ d t, d ≠ c → t.prop d = s.prop d → g d t = t)
    (hothers : ∀ d, d ≠ c → (g c s).prop d = s.prop d) : State.each g l s = g c s := by
  have hafter {r : List (Fin 16)} (hr : c ∉ r) : State.each g r (g c s) = g c s := by
    induction r with
    | nil => rfl
    | cons d r ih =>
      have hd : d ≠ c := fun h => hr (h ▸ List.mem_cons_self)
      rw [State.each, hg d _ hd (hothers d hd), ih fun h => hr (List.mem_cons_of_mem d h)]
  induction l with
  | nil => exact absurd hc List.not_mem_nil
  | cons d r ih =>
    obtain ⟨hd, hr⟩ := List.nodup_cons.1 hl
    by_cases h : d = c
    · subst h
      exact hafter hd
    · rw [State.each, hg d s h rfl, ih hr ((List.mem_cons.1 hc).resolve_left fun he => h he.symm)]

end Each

theorem all16_nodup : all16.Nodup := List.nodup_finRange 16
theorem mem_all16 (c : Fin 16) : c ∈ all16 := List.mem_finRange c

section Notices
variable {s t : State} {p : Option Port} {f : Frame} {r : List (Option Port × Frame)} {c : Fin 16}

theorem depends_congr (h : t.prop c = s.prop c) (node chan : Nat) (q : Option Nat) : t.depends node chan q c = s.depends node chan q c := by
  rw [State.depends, h, State.depends]

/-! ### A notice comes (R231, R232) -/

theorem takeFirst_head {α : Type} {q : α → Bool} {x : α} {l : List α} (h : q x = true) : takeFirst q (x :: l) = some (x, l) := if_pos h

theorem takeNotice_head (hin : s.ov.inbox = (p, f) :: r) {m : NoticeMsg} (hb : f.body = .notice m) :
    s.takeNotice m.final = some ((f, m), s.taken r) := by
  unfold State.takeNotice
  dsimp only
  rw [hin, takeFirst_head (by simp [hb])]
  simp only [hb]
  rfl

/-- What is kept of the notices that have come. -/
def State.noticed (s : State) (src chan oseq : Nat) : State :=
  { s with mani := { s.mani with notices := (src, chan, oseq) :: s.mani.notices } }

theorem exec_finalNotice (hl : s.maniLive = true) (hin : s.ov.inbox = (p, f) :: r) {m : NoticeMsg} (hb : f.body = .notice m)
    (hf : m.final = true) (he : s.hasEpoch = true) (hm : m.epoch = s.tt.nextE) (hlate : s.late = false) :
    exec .finalNoticeReceive s = ok (State.finalDeps (16 + 1) f.src m.chan (some f.oseq) ((s.taken r).noticed f.src m.chan f.oseq)) := by
  have htake := takeNotice_head hin hb
  have hlive : (s.taken r).maniLive = true := hl
  have hepoch : (s.taken r).hasEpoch = true := he
  have hlate' : ((s.taken r).noticed f.src m.chan f.oseq).late = false := hlate
  have hnow : (m.epoch != (s.taken r).tt.nextE) = false := by simp [hm, State.taken]
  rw [hf] at htake
  have hexec : exec .finalNoticeReceive s = execFinalNoticeReceive s := rfl
  rw [hexec, execFinalNoticeReceive, htake]
  simp only [hlive, if_true, State.noticeIn, hepoch, hnow, Bool.not_true, Bool.or_self, Bool.false_eq_true, if_false, hf]
  exact congrArg ok (if_neg fun h => Bool.false_ne_true (hlate'.symm.trans h))

theorem exec_retraction (hl : s.maniLive = true) (hin : s.ov.inbox = (p, f) :: r) {m : NoticeMsg} (hb : f.body = .notice m)
    (hf : m.final = false) (he : s.hasEpoch = true) (hm : m.epoch = s.tt.nextE) :
    exec .retractionReceive s = ok (State.retractDeps (16 + 1) f.src m.chan (some f.oseq) m.origNode m.origChan
      ((s.taken r).noticed f.src m.chan f.oseq)) := by
  have htake := takeNotice_head hin hb
  have hlive : (s.taken r).maniLive = true := hl
  have hepoch : (s.taken r).hasEpoch = true := he
  have hnow : (m.epoch != (s.taken r).tt.nextE) = false := by simp [hm, State.taken]
  rw [hf] at htake
  have hexec : exec .retractionReceive s = execRetractionReceive s := rfl
  rw [hexec, execRetractionReceive, htake]
  simp only [hlive, if_true, State.noticeIn, hepoch, hnow, Bool.not_true, Bool.or_self, Bool.false_eq_true, if_false, hf]
  rfl

/-! ### A final notice (R229, R231) -/

/-- A proposal after the end of a producer that it depends on. -/
def Proposal.freed (p : Proposal) (node chan : Nat) (q : Option Nat) : Proposal :=
  let d := p.deps.filter fun y => !y.hit node chan q
  if p.state = .conditional ∧ d = [] then { p with state := .final, deps := [], cons := [] } else { p with deps := d }

/-- Where no node has peeked the proposals that depend on the producer, the notice goes no further. -/
theorem finalDeps_of_no_cons {node chan : Nat} {q : Option Nat} (n : Nat) (h : ∀ c, s.depends node chan q c = true → (s.prop c).cons = []) :
    ((State.finalDeps (n + 1) node chan q s).ov = s.ov ∧ (State.finalDeps (n + 1) node chan q s).rst = s.rst) ∧
      ∀ c, (State.finalDeps (n + 1) node chan q s).prop c =
        if s.depends node chan q c = true then (s.prop c).freed node chan q else s.prop c := by
  rw [State.finalDeps]
  have hmem (c : Fin 16) : c ∈ all16.filter (s.depends node chan q) ↔ s.depends node chan q c = true := by simp [mem_all16]
  simp only [← hmem]
  refine props_each (I := fun t => t.ov = s.ov ∧ t.rst = s.rst) (Q := fun p => p.cons = []) (h := fun p => p.freed node chan q)
    (fun c u hI hQ => ?_) (all16_nodup.filter _) ⟨rfl, rfl⟩ fun c hc => h c ((hmem c).1 hc)
  simp only [hQ, List.isEmpty_iff, Proposal.freed]
  split
  · exact ⟨hI, prop_setProp_same _ _ _, fun k hk => prop_setProp_ne hk _ _⟩
  · exact ⟨hI, prop_setProp_same _ _ _, fun k hk => prop_setProp_ne hk _ _⟩

/-! ### A retraction (R231, R235) -/

/-- Of the proposals, of what reset leaves due and of Orvia nothing has changed, and SB60 is quiet. -/
structure State.PropsKept (s t : State) : Prop where
  quiet : t.Quiet 60
  ov : t.ov = s.ov
  rst : t.rst = s.rst
  props : ∀ k, t.prop k = s.prop k

theorem propsKept_setRevt (hq : s.Quiet 60) (t : Triad) (l : List Word) : s.PropsKept (s.setRevt t l) := by
  cases t <;> exact ⟨quiet_of_getR (getR_setR_ne _ (by decide) _) hq, rfl, rfl, fun _ => rfl⟩

theorem propsKept_lost (hq : s.Quiet 60) {f : Fd} (hf : (Rg.SB_CFG 60).addr ≠ f.reg.addr) : s.PropsKept ((s.onF f).raise 60) := by
  have hq' : (s.onF f).Quiet 60 := quiet_setF hf _ hq
  rw [raise_of_quiet (by decide) hq']
  exact ⟨(quiet_sticky (by decide)).2 hq', rfl, rfl, fun _ => rfl⟩

theorem propsKept_revt (hq : s.Quiet 60) (c : Fin 16) (reason depth node chan : Nat) : s.PropsKept (s.revt c reason depth node chan) := by
  unfold State.revt
  split
  · exact ⟨hq, rfl, rfl, fun _ => rfl⟩
  · rename_i t _
    dsimp only
    split
    · exact propsKept_setRevt hq t _
    · cases t <;> exact propsKept_lost hq (by decide)

/-- A proposal that is withdrawn with its producer. -/
def Proposal.retracted (p : Proposal) : Proposal := { p with state := .retracted, deps := [], cons := [] }

/-- The channel's proposal is withdrawn with its producer, and its event is queued. -/
def State.retractedBy (s : State) (c : Fin 16) (on_ oc : Nat) : State :=
  (s.setProp c (s.prop c).retracted).revt c 1 (s.prop c).depth on_ oc

theorem retractedBy_holds (hq : s.Quiet 60) (c : Fin 16) (on_ oc : Nat) :
    ((s.retractedBy c on_ oc).Quiet 60 ∧ (s.retractedBy c on_ oc).ov = s.ov ∧ (s.retractedBy c on_ oc).rst = s.rst) ∧
      (s.retractedBy c on_ oc).prop c = (s.prop c).retracted ∧ ∀ k, k ≠ c → (s.retractedBy c on_ oc).prop k = s.prop k := by
  have hkept := propsKept_revt (s := s.setProp c (s.prop c).retracted) hq c 1 (s.prop c).depth on_ oc
  exact ⟨⟨hkept.quiet, hkept.ov, hkept.rst⟩, (hkept.props c).trans (prop_setProp_same _ _ _), fun k hk =>
    (hkept.props k).trans (prop_setProp_ne hk _ _)⟩

/-- A proposal depends on a producer and can still change by it. -/
def Proposal.dependsOn (p : Proposal) (node chan : Nat) (q : Option Nat) : Bool :=
  p.deps.any (fun d => d.hit node chan q) && (p.state == .proposed || p.state == .conditional)

/-- A proposal after the withdrawal of a producer. -/
def Proposal.afterRetraction (p : Proposal) (node chan : Nat) (q : Option Nat) : Proposal :=
  if p.dependsOn node chan q = true then p.retracted else p

/-- The cascade where no node has peeked the proposals that depend on the producer. -/
theorem retractDeps_of_no_cons {node chan : Nat} {q : Option Nat} (n on_ oc : Nat) (hq : s.Quiet 60)
    (h : ∀ c, s.depends node chan q c = true → (s.prop c).cons = []) :
    ((State.retractDeps (n + 1) node chan q on_ oc s).Quiet 60 ∧ (State.retractDeps (n + 1) node chan q on_ oc s).ov = s.ov ∧
      (State.retractDeps (n + 1) node chan q on_ oc s).rst = s.rst) ∧
      ∀ c, (State.retractDeps (n + 1) node chan q on_ oc s).prop c = if s.depends node chan q c = true then (s.prop c).retracted else s.prop c := by
  have hmem (c : Fin 16) : (if s.depends node chan q c = true then (s.prop c).retracted else s.prop c) =
      if c ∈ all16 then (s.prop c).afterRetraction node chan q else s.prop c := by
    rw [if_pos (mem_all16 c)]
    rfl
  simp only [hmem]
  rw [State.retractDeps]
  refine props_each (I := fun t => t.Quiet 60 ∧ t.ov = s.ov ∧ t.rst = s.rst) (Q := fun p => p.dependsOn node chan q = true → p.cons = [])
    (h := fun p => p.afterRetraction node chan q) (fun c u hI hQ => ?_) all16_nodup ⟨hq, rfl, rfl⟩ fun c _ => h c
  cases hd : u.depends node chan q c
  · have hd' : (u.prop c).dependsOn node chan q = false := hd
    simp only [Proposal.afterRetraction, hd', Bool.not_false, if_true, Bool.false_eq_true, if_false]
    exact ⟨hI, trivial, fun _ _ => trivial⟩
  · have hd' : (u.prop c).dependsOn node chan q = true := hd
    obtain ⟨⟨hq', hov, hrst⟩, hown, hothers⟩ := retractedBy_holds hI.1 c on_ oc
    simp only [Proposal.afterRetraction, hd', hQ hd', Bool.not_true, Bool.false_eq_true, if_false, if_true]
    exact ⟨⟨hq', hov.trans hI.2.1, hrst.trans hI.2.2⟩, hown, hothers⟩

/-- Where the proposal of one channel alone depends on the producer, and no node has peeked it. -/
theorem retractDeps_of_one {node chan : Nat} {q : Option Nat} (n on_ oc : Nat) (hq : s.Quiet 60) (hone : ∀ d, s.depends node chan q d = true ↔ d = c)
    (hcons : (s.prop c).cons = []) : State.retractDeps (n + 1) node chan q on_ oc s = (s.dropPeeked node chan q).retractedBy c on_ oc := by
  have hdep : (s.dropPeeked node chan q).depends node chan q c = true := (hone c).2 rfl
  have hcons' : ((s.dropPeeked node chan q).prop c).cons = [] := hcons
  have hother {d : Fin 16} {t : State} (hd : d ≠ c) (ht : t.prop d = (s.dropPeeked node chan q).prop d) : t.depends node chan q d = false := by
    rw [depends_congr ht, ← Bool.not_eq_true]
    exact fun h => hd ((hone d).1 h)
  rw [State.retractDeps, each_of_one (c := c) all16_nodup (mem_all16 c)]
  · simp only [hdep, hcons', Bool.not_true, Bool.false_eq_true, if_false]
    rfl
  · intro d t hd ht
    simp only [hother hd ht, Bool.not_false, if_true]
  · intro d hd
    simp only [hdep, hcons', Bool.not_true, Bool.false_eq_true, if_false]
    exact (retractedBy_holds (s := s.dropPeeked node chan q) hq c on_ oc).2.2 d hd

/-- An event finds room in an empty queue of triad A (R235). -/
theorem revtA_retractedBy (hc : s.chTriad c = some .a) (h : s.mani.revtA = []) (on_ oc : Nat) : (s.retractedBy c on_ oc).mani.revtA =
    [.ofNat (c.val + 16 + min (s.prop c).depth 15 * 2 ^ 8 + on_ % 1024 * 2 ^ 12 + oc % 16 * 2 ^ 22 + s.tt.epoch % 64 * 2 ^ 26)] := by
  have hc' : (s.setProp c (s.prop c).retracted).chTriad c = some .a := hc
  have h' : (s.setProp c (s.prop c).retracted).revts .a = [] := h
  rw [State.retractedBy, State.revt, hc']
  simp only [h', List.length_nil]
  rfl

/-! ### A PEEK from another node (R168, R169) -/

/-- A frame of a rank before 7 that alone is held back leaves next. -/
theorem nextHeld_of_early {o : Port} {key : Nat} (h : (s.port o).held = [(key, f)]) (hk : key < 14) :
    s.nextHeld o = some ((key, f), 0, (s.port o).drr) := by
  simp [State.nextHeld, h, hk]

/-- … and leaves at once on a port where nothing is held back or unacknowledged. -/
theorem queueAt_of_early {o : Port} {key : Nat} (hh : (s.port o).held = []) (hu : (s.port o).unacked = []) (hk : key < 14)
    (hb : f.bytes ≤ 16384) : ((s.queueAt o key f).port o).unacked = [((s.port o).txSeq, f)] := by
  have hport : (s.modPort o fun x => { x with held := insertHeld key f x.held }).port o = { s.port o with held := [(key, f)] } := by
    rw [State.modPort, port_setPort_same, hh]
    rfl
  generalize hq : (s.modPort o fun x => { x with held := insertHeld key f x.held }) = t at hport
  have hnext := nextHeld_of_early (s := t) (o := o) (by rw [hport]) hk
  have hfull : (t.port o).full f = false := by
    rw [hport]
    simp [PortH.full, PortH.bytes, hu, hb]
  rw [State.queueAt, hq, State.drain, State.drainHeld, hnext]
  simp only [hfull, Bool.false_eq_true, if_false]
  rw [drainHeld_of_nil]
  · rw [port_transmit_same, State.modPort, port_setPort_same, hport]
    simp [hu]
  · rw [port_transmit_same, State.modPort, port_setPort_same, hport]
    simp

/-- What has come is not changed by sending. -/
theorem inbox_queueAt (s : State) (o : Port) (key : Nat) (f : Frame) : (s.queueAt o key f).ov.inbox = s.ov.inbox := by
  have hport (s : State) (x : PortH) : (s.setPort o x).ov.inbox = s.ov.inbox := by cases o <;> rfl
  have hdrain (n : Nat) (s : State) : (State.drainHeld o n s).ov.inbox = s.ov.inbox := by
    induction n generalizing s with
    | zero => rfl
    | succ n ih =>
      unfold State.drainHeld
      split
      · split
        · exact hport s _
        · rfl
      · split
        · rfl
        · exact (ih _).trans ((hport _ _).trans (hport s _))
  exact (hdrain _ _).trans (hport s _)

/-- The answer to a PEEK that no machine of this node has made. -/
def State.peekReply (s : State) (c : Fin 16) (m : PeekReqMsg) : PeekRepMsg :=
  let k := s.peekCodeNow (s.prop c)
  { chan := m.chan, req := m.req, state := k, value := if k = 1 ∨ k = 2 ∨ k = 4 then (s.prop c).value else 0
    depth := (s.prop c).depth, dep := k == 1, epoch := s.tt.nextE % 65536 }

theorem peekCodeNow_le (p : Proposal) : s.peekCodeNow p ≤ 4 := by
  rw [peekCodeNow_eq]
  cases p.state <;> cases s.late <;> decide

/-- The node that peeks is noted as a consumer. -/
def State.peekedFrom (s : State) (c : Fin 16) (node : Nat) : State :=
  if (s.peekCodeNow (s.prop c) == 1) = true then s.setProp c { s.prop c with cons := node :: (s.prop c).cons.filter (· != node) } else s

theorem peekedFrom_of_ne (h : s.peekCodeNow (s.prop c) ≠ 1) (node : Nat) : s.peekedFrom c node = s := if_neg (by simp [h])

theorem mem_cons_peekedFrom (h : s.peekCodeNow (s.prop c) = 1) (node : Nat) : node ∈ ((s.peekedFrom c node).prop c).cons := by
  have hset : s.peekedFrom c node = s.setProp c { s.prop c with cons := node :: (s.prop c).cons.filter (· != node) } := if_pos (by simp [h])
  rw [hset, prop_setProp_same]
  exact List.mem_cons_self

theorem peekReqIn_of_peekable (hl : s.maniLive = true) {m : PeekReqMsg} (hc : Fin.ofNat 16 m.chan = c)
    (hp : s.bitF Fd.MANI_PEEKABLE_CH c.val = true) (hk : (s.prop c).keep = false) (src : Nat) :
    s.peekReqIn src m = (s.peekedFrom c src).originate (nodeBase src) 0 (.peekRep (s.peekReply c m)) := by
  rw [State.peekReqIn, State.peekAt, hc]
  simp only [hp, hl, hk, Bool.not_true, Bool.or_false, Bool.false_eq_true, if_false]
  have hne : ((none : Option Mach) != some (s.prop c).by_) = true := rfl
  cases hd : s.peekCodeNow (s.prop c) == 1 <;>
    simp only [State.peekedFrom, State.peekReply, hd, hne, hk, Bool.and_true, Bool.false_eq_true, if_false, if_true]
  rfl

/-- Only what the manifest block keeps changes. -/
theorem peekedFrom_frame {β : Type} (g : State → β) (h : ∀ (s : State) x, g { s with mani := x } = g s) (s : State) (c : Fin 16) (node : Nat) :
    g (s.peekedFrom c node) = g s := by
  unfold State.peekedFrom
  split
  · exact h s _
  · rfl

/-- A unicast frame that the link carries is queued on the port of its path. -/
theorem route_of_out {o : Port} (hcast : f.broadcast = false) (hn : f.node ≠ s.nodeId) (hr : s.reachable f.node = true)
    (ho : s.outPort f.node = some o) (hrev : f.body.rev ≤ s.getF (Fd.OV_PSTAT_REV o.idx)) : s.route f = s.queueAt o (heldKey f) f := by
  simp only [State.route, hcast, Bool.false_eq_true, if_false, if_neg hn, hr, Bool.not_true, ho, State.sendOn, State.sendAt,
    if_neg (Nat.not_lt.2 hrev)]

/-- The answer leaves at once on a port where nothing is before it. -/
theorem peekReply_sent {o : Port} {src : Nat} {rep : PeekRepMsg} (hl : s.ovLive = true) (hnum : s.numbered = true) (hsrc : src ≠ s.nodeId)
    (hr : s.reachable src = true) (ho : s.outPort src = some o) (hrev : 2 ≤ s.getF (Fd.OV_PSTAT_REV o.idx)) (hh : (s.port o).held = [])
    (hu : (s.port o).unacked = []) :
    let t := s.originate (nodeBase src) 0 (.peekRep rep)
    (t.port o).unacked = [((s.port o).txSeq, { dest := nodeBase src, src := s.nodeId, oseq := s.ov.oseq, body := .peekRep rep })] ∧
      t.ov.inbox = s.ov.inbox ∧ t.rst = s.rst ∧ t.mani = s.mani := by
  have hnode : (s.ownFrame (nodeBase src) 0 (.peekRep rep)).node = src := Nat.mul_div_cancel _ (by decide)
  have hroute : s.nextOseq.route (s.ownFrame (nodeBase src) 0 (.peekRep rep)) =
      s.nextOseq.queueAt o 13 (s.ownFrame (nodeBase src) 0 (.peekRep rep)) :=
    route_of_out rfl (by rw [hnode]; exact hsrc) (by rw [hnode]; exact hr) (by rw [hnode]; exact ho) hrev
  intro t
  have ht : t = s.nextOseq.queueAt o 13 (s.ownFrame (nodeBase src) 0 (.peekRep rep)) :=
    (originate_of_live hl hnum _ _ _).trans hroute
  rw [ht]
  refine ⟨?_, inbox_queueAt s.nextOseq o 13 _, (sendOnly_queueAt s.nextOseq o 13 _).rst, queueAt_frame State.mani (fun _ _ _ => rfl) (fun _ _ => rfl) _ _ _ _⟩
  exact queueAt_of_early (s := s.nextOseq) hh hu (by decide) (show 32 + 28 ≤ 16384 by decide)

/-- The value of an answer by its code, which is at most 4. -/
theorem peekReply_value (c : Fin 16) (m : PeekReqMsg) {k : Nat} (h : s.peekCodeNow (s.prop c) = k) (hk : k ≤ 4) :
    s.peekReply c m = { chan := m.chan, req := m.req, state := k, value := if k = 0 ∨ k = 3 then 0 else (s.prop c).value
                        depth := (s.prop c).depth, dep := k == 1, epoch := s.tt.nextE % 65536 } := by
  have hiff : (k = 1 ∨ k = 2 ∨ k = 4) ↔ ¬(k = 0 ∨ k = 3) := by omega
  rw [State.peekReply, h]
  simp only [hiff, ite_not]

/-! ### The reply to a PEEK (R168, R169) -/

theorem findSome_of_one {α β : Type} [DecidableEq α] {l : List α} {g : α → Option β} {k : α} {y : β} (hk : k ∈ l) (hg : g k = some y)
    (hothers : ∀ j, j ≠ k → g j = none) : l.findSome? g = some y := by
  induction l with
  | nil => exact absurd hk List.not_mem_nil
  | cons j r ih =>
    by_cases h : j = k
    · subst h
      simp [hg]
    · rw [List.findSome?_cons, hothers j h]
      exact ih ((List.mem_cons.1 hk).resolve_left fun he => h he.symm)

/-- The only machine that waits is the one that is answered. -/
theorem peekWaiter_of_one {k : Mach} {rd : BitVec 5} {node : Nat} {m : PeekRepMsg} (hw : (s.mach k).wait = .peek rd node m.chan m.req)
    (hothers : ∀ j, j ≠ k → (s.mach j).wait = .none) : s.peekWaiter node m = some (k, rd) := by
  refine findSome_of_one (k := k) (by cases k <;> decide) ?_ fun j hj => ?_
  · simp [hw]
  · simp [hothers j hj]

/-- The end of a PEEK at the machine that waited for it. -/
theorem peekDone_effect {k : Mach} {rd : BitVec 5} (h0 : rd ≠ 0) (h2 : rd.toNat % 2 = 0) (v status : Word) :
    let t := s.peekDone k rd v status
    (t.mach k).wait = .none ∧ t.rg k rd = v ∧ t.rg k (rd + 1) = status ∧ (t.mach k).pc = (s.mach k).pc + 4 ∧
      (∀ g, g ≠ rd → g ≠ rd + 1 → t.rg k g = s.rg k g) ∧ (∀ j, j ≠ k → t.mach j = s.mach j) ∧ t.ov = s.ov ∧ t.mani = s.mani ∧ t.rst = s.rst := by
  obtain ⟨hne, hhi⟩ := pair_ne h2
  have hres := regResult_setRetire ((s.modMach k fun x => { x with wait := .none }).wg k rd v) k (rd + 1) status
  have hother {j : Mach} (hj : j ≠ k) : ((s.modMach k fun x => { x with wait := .none }).wg k rd v).mach j = s.mach j := by
    rw [mach_wg_ne _ hj, mach_modMach_ne s hj]
  have hmach : (((s.modMach k fun x => { x with wait := .none }).wg k rd v).mach k).wait = .none ∧
      (((s.modMach k fun x => { x with wait := .none }).wg k rd v).mach k).pc = (s.mach k).pc := by
    rw [mach_wg, mach_modMach_same, if_neg h0]
    exact ⟨rfl, rfl⟩
  have hrg {g : BitVec 5} (hg : g ≠ rd) : ((s.modMach k fun x => { x with wait := .none }).wg k rd v).rg k g = s.rg k g := by
    rw [rg_wg_ne _ _ hg, State.rg, mach_modMach_same, ← State.rg]
  intro t
  refine ⟨?_, (hres.others rd hne.symm).trans ((rg_wg_same _ _ _ _).trans (if_neg h0)), hres.reg.trans (if_neg hhi), ?_,
    fun g hg hg' => (hres.others g hg').trans (hrg hg), fun j hj => (hres.machines j hj).trans (hother hj),
    (congrArg State.ov hres.rest :).trans (wg_ov _ k rd v), hres.mani.trans (wg_mani _ k rd v),
    (congrArg State.rst hres.rest :).trans (wg_rst _ k rd v)⟩
  · show ((((s.modMach k fun x => { x with wait := .none }).wg k rd v).setRetire k (rd + 1) status).mach k).wait = .none
    rw [State.setRetire, State.retire, State.retireTo, mach_modMach_same, mach_wg, if_neg hhi]
    exact hmach.1
  · exact hres.pc.trans (congrArg (· + 4) hmach.2)

/-- A dependency is noted in front of the others. -/
theorem mem_notePeek (k : Mach) (d : Dep) : d ∈ (s.notePeek k d).peekedBy k := by
  rw [State.peekedBy, State.notePeek, vget_vset_same]
  exact List.mem_cons_self

theorem noticedAfter_of_none {node chan : Nat} (h : ∀ x ∈ s.mani.notices, x.1 ≠ node ∨ x.2.1 ≠ chan) (q : Nat) : s.noticedAfter node chan q = false := by
  refine List.any_eq_false.2 fun x hx => ?_
  rcases h x hx with hne | hne <;> simp [hne]

/-- The state in which the reply has been noted, where it tells of a dependency. -/
def State.peekTold (s : State) (k : Mach) (f : Frame) (m : PeekRepMsg) : State :=
  let dep := m.dep && m.state % 16 == 1 && s.hasEpoch && m.epoch == s.tt.nextE % 65536
  if dep && !s.noticedAfter f.src m.chan f.oseq then
    s.notePeek k { node := f.src, chan := m.chan, depth := m.depth, seq := f.oseq }
  else s

theorem peekTold_of_dep {k : Mach} {m : PeekRepMsg}
    (hdep : (m.dep && m.state % 16 == 1 && s.hasEpoch && m.epoch == s.tt.nextE % 65536) = true)
    (hnone : ∀ x ∈ s.mani.notices, x.1 ≠ f.src ∨ x.2.1 ≠ m.chan) :
    s.peekTold k f m = s.notePeek k { node := f.src, chan := m.chan, depth := m.depth, seq := f.oseq } :=
  if_pos (by rw [hdep, noticedAfter_of_none hnone]; rfl)

theorem peekTold_of_no_dep {k : Mach} {m : PeekRepMsg}
    (hdep : (m.dep && m.state % 16 == 1 && s.hasEpoch && m.epoch == s.tt.nextE % 65536) = false) : s.peekTold k f m = s :=
  if_neg (by rw [hdep]; exact Bool.false_ne_true)

theorem peekStatus_eq (code : Nat) (dep : Bool) (n : Nat) :
    peekStatus code dep n = .ofNat (code + (if dep = true then 16 else 0) + n % 65536 * 65536) := by
  cases dep <;> rfl

theorem exec_peekRep (hl : s.maniLive = true) (hin : s.ov.inbox = (p, f) :: r) {m : PeekRepMsg} (hb : f.body = .peekRep m) {k : Mach} {rd : BitVec 5}
    (hw : (s.mach k).wait = .peek rd f.src m.chan m.req) (hothers : ∀ j, j ≠ k → (s.mach j).wait = .none) :
    exec .peekRepReceive s = ok (((s.taken r).peekTold k f m).peekDone k rd
      (if m.state % 16 = 1 ∨ m.state % 16 = 2 ∨ m.state % 16 = 4 then m.value else 0)
      (peekStatus (m.state % 16) (m.dep && m.state % 16 == 1 && s.hasEpoch && m.epoch == s.tt.nextE % 65536) m.epoch)) := by
  have htake : s.takeFrame 0x11 = some ((p, f), s.taken r) := takeFrame_head hin (by rw [hb]; rfl)
  have hlive : (s.taken r).maniLive = true := hl
  have hwaiter : (s.taken r).peekWaiter f.src m = some (k, rd) := peekWaiter_of_one (s := s.taken r) hw hothers
  have hexec : exec .peekRepReceive s = execPeekRepReceive s := rfl
  rw [hexec, execPeekRepReceive, htake]
  simp only [hb, hwaiter, hlive, if_true]
  rfl

theorem exec_peekReq (hl : s.maniLive = true) (hin : s.ov.inbox = (p, f) :: r) {m : PeekReqMsg} (hb : f.body = .peekReq m) :
    exec .peekReqReceive s = ok ((s.taken r).peekReqIn f.src m) := by
  have htake : s.takeFrame 0x10 = some ((p, f), s.taken r) := takeFrame_head hin (by rw [hb]; rfl)
  have hrun : (s.taken r).phase = .running := by
    simp only [State.maniLive, Bool.and_eq_true, beq_iff_eq] at hl
    exact hl.1
  have hexec : exec .peekReqReceive s = execPeekReqReceive s := rfl
  rw [hexec, execPeekReqReceive, htake]
  simp only [hb, hrun, if_true]

end Notices

/-! ### The obligation -/

/-- Settles O54: a notice makes one step for each proposal that depends on its producer; a PEEK is answered at once, and its reply ends
the wait of its machine. -/
theorem noticesAndPeeks : Obligations.NoticesAndPeeks := by
  unfold Obligations.NoticesAndPeeks
  intro s p f r hl hd hq hin
  refine ⟨fun m hb he hm hcons => ⟨fun hf hlate => ?_, fun hf => ?_⟩, fun m o hb hrst hnum hsrc hreach hout hrev hh hu => ?_,
    fun m k rd hb hw hothers h0 h2 => ?_⟩
  · obtain ⟨⟨hov, hrst⟩, hprops⟩ := finalDeps_of_no_cons (s := (s.taken r).noticed f.src m.chan f.oseq) (node := f.src) (chan := m.chan)
      (q := some f.oseq) 16 hcons
    exact ⟨_, (exec_finalNotice hl hin hb hf he hm hlate).trans (ok_of_rst hrst hd), congrArg OrviaH.inbox hov, fun c => hprops c⟩
  · have hq' : ((s.taken r).noticed f.src m.chan f.oseq).Quiet 60 := quiet_of_regs rfl hq
    obtain ⟨⟨-, hov, hrst⟩, hprops⟩ := retractDeps_of_no_cons (s := (s.taken r).noticed f.src m.chan f.oseq) (node := f.src) (chan := m.chan)
      (q := some f.oseq) 16 m.origNode m.origChan hq' hcons
    refine ⟨_, (exec_retraction hl hin hb hf he hm).trans (ok_of_rst hrst hd), congrArg OrviaH.inbox hov, hprops, fun c hc hone hevt => ?_⟩
    rw [retractDeps_of_one (s := (s.taken r).noticed f.src m.chan f.oseq) 16 _ _ hq' hone (hcons c ((hone c).2 rfl))]
    exact revtA_retractedBy (s := ((s.taken r).noticed f.src m.chan f.oseq).dropPeeked f.src m.chan (some f.oseq)) hc hevt _ _
  · intro c open_ code rep hp hk
    have hcode : (s.taken r).peekCodeNow (s.prop c) = code := peekCodeNow_eq (u := s.taken r) (s.prop c)
    have hrep : (s.taken r).peekReply c m = rep := peekReply_value c m hcode (hcode ▸ peekCodeNow_le _)
    have hkeep {β : Type} (g : State → β) (h : ∀ (s : State) x, g { s with mani := x } = g s) :
        g ((s.taken r).peekedFrom c f.src) = g (s.taken r) := peekedFrom_frame g h _ _ _
    have hlive : s.ovLive = true := by
      simp only [State.maniLive, Bool.and_eq_true, beq_iff_eq] at hl
      rw [State.ovLive, hl.1, hrst]
      rfl
    obtain ⟨hun, hbox, hrst', hmani⟩ := peekReply_sent (s := (s.taken r).peekedFrom c f.src) (o := o) (src := f.src) (rep := rep)
      ((hkeep State.ovLive fun _ _ => rfl).trans hlive) ((hkeep State.numbered fun _ _ => rfl).trans hnum)
      (by rw [hkeep State.nodeId fun _ _ => rfl]; exact hsrc) ((hkeep (·.reachable f.src) fun _ _ => rfl).trans hreach)
      ((hkeep (·.outPort f.src) fun _ _ => rfl).trans hout) (by rw [hkeep (·.getF _) fun _ _ => rfl]; exact hrev)
      ((congrArg PortH.held (hkeep (·.port o) fun _ _ => rfl)).trans hh) ((congrArg PortH.unacked (hkeep (·.port o) fun _ _ => rfl)).trans hu)
    refine ⟨((s.taken r).peekedFrom c f.src).originate (nodeBase f.src) 0 (.peekRep rep), (exec_peekReq hl hin hb).trans ?_, ?_, ?_, fun h1 => ?_, fun h1 => ?_⟩
    · rw [peekReqIn_of_peekable (s := s.taken r) hl rfl hp hk, hrep]
      exact ok_of_rst (hrst'.trans (hkeep State.rst fun _ _ => rfl)) hd
    · exact hbox.trans (hkeep (fun s => s.ov.inbox) fun _ _ => rfl)
    · rw [hun, hkeep (·.port o) fun _ _ => rfl, hkeep State.nodeId fun _ _ => rfl, hkeep (fun s => s.ov.oseq) fun _ _ => rfl]
      rfl
    · rw [prop_of_mani hmani]
      exact mem_cons_peekedFrom (hcode.trans h1) _
    · rw [prop_of_mani hmani, peekedFrom_of_ne (fun h => h1 (hcode.symm.trans h))]
      rfl
  · intro code dep
    obtain ⟨hwait, hlo, hhi, hpc, hrg, hmach, hov, hmani, hrst⟩ := peekDone_effect (s := (s.taken r).peekTold k f m) (k := k) h0 h2
      (if code = 1 ∨ code = 2 ∨ code = 4 then m.value else 0) (peekStatus code dep m.epoch)
    have hkept : ((s.taken r).peekTold k f m).ov.inbox = r ∧ ((s.taken r).peekTold k f m).rst = s.rst ∧
        ((s.taken r).peekTold k f m).machs = s.machs := by
      unfold State.peekTold
      dsimp only
      split <;> exact ⟨rfl, rfl, rfl⟩
    obtain ⟨hbox, hrst', hmachs⟩ := hkept
    refine ⟨_, (exec_peekRep hl hin hb hw hothers).trans (ok_of_rst (hrst.trans hrst') hd), (congrArg OrviaH.inbox hov).trans hbox, hwait, hlo, ?_,
      fun hdep hnone => ?_, fun hdep => ?_, ?_, fun g hg hg' => ?_, fun j hj => ?_⟩
    · rw [hhi, peekStatus_eq]
    · rw [peekedBy_of_mani hmani, peekTold_of_dep (s := s.taken r) hdep hnone]
      exact mem_notePeek _ _
    · rw [hmani, peekTold_of_no_dep (s := s.taken r) hdep]
      rfl
    · rw [hpc, mach_of_machs hmachs]
    · rw [hrg g hg hg', rg_of_machs hmachs]
    · rw [hmach j hj, mach_of_machs hmachs]

end Sys2Proof.Machine
end

section
/-! SUPPORT. What the work of a departure keeps: the registers of some channels and what they hold, and the times and commits of the
departure, while every source of the signal box is quiet. -/

namespace Sys2Proof.Machine

/-! ### Registers that the work of a departure may write -/

/-- The registers below the channels that it keeps: the block resets, the refuge, the configuration of the signal box, the period in force
and the requests of interrupts. -/
def keptLow (a : Nat) : Bool :=
  a == 0x40000020 || a == 0x40000024 || a == 0x40000200 || a == 0x4007001C || a == 0x40070038 || (0x40010100 ≤ a && a < 0x40010300)

theorem keptLow_eq_false_iff {a : Nat} : keptLow a = false ↔ (a ≠ 0x40000020 ∧ a ≠ 0x40000024 ∧ a ≠ 0x40000200 ∧ a ≠ 0x4007001C ∧
    a ≠ 0x40070038) ∧ (a < 0x40010100 ∨ 0x40010300 ≤ a) := by
  simp only [keptLow, Bool.or_eq_false_iff, Bool.and_eq_false_iff, beq_eq_false_iff_ne, decide_eq_false_iff_not]
  omega

/-- The registers of channel `n`. -/
def ofChan (n : Fin 16) (a : Nat) : Prop := 0x40100000 + 0x10000 * n.val ≤ a ∧ a < 0x40110000 + 0x10000 * n.val

/-- A register that is none of those kept for the channels that `p` picks, nor that of the sleep states. -/
structure Rg.Idle (p : Fin 16 → Prop) (r : Rg) : Prop where
  low : keptLow r.addr = false
  sleep : Rg.SLEEP_STAT.addr ≠ r.addr
  chan : ∀ n, p n → ¬ofChan n r.addr

section Idle
variable {p : Fin 16 → Prop}

theorem idle_low {r : Rg} (h : r.addr < 0x40100000 ∧ keptLow r.addr = false ∧ Rg.SLEEP_STAT.addr ≠ r.addr) : r.Idle p :=
  ⟨h.2.1, h.2.2, fun n _ hn => by have := hn.1; omega⟩

/-- The registers of the ports, of the sticky bits and of the lanes. -/
theorem idle_port {r : Rg} (h : 0x40060000 ≤ r.addr ∧ r.addr < 0x40070000) : r.Idle p := by
  exact idle_low ⟨by omega, keptLow_eq_false_iff.2 (by omega), show 0x40000034 ≠ r.addr by omega⟩

theorem idle_sticky {k : Nat} (hk : k < 128) : (Rg.SB_STICKY (k / 32)).Idle p := by
  have ha : (Rg.SB_STICKY (k / 32)).addr = 0x40010040 + 0x4 * (k / 32) := rfl
  exact idle_low ⟨by omega, keptLow_eq_false_iff.2 (by omega), show 0x40000034 ≠ 0x40010040 + 0x4 * (k / 32) by omega⟩

theorem idle_lane {r : Rg} (h : 0x40200000 ≤ r.addr) : r.Idle p := by
  refine ⟨keptLow_eq_false_iff.2 (by omega), show 0x40000034 ≠ r.addr by omega, fun n _ hn => ?_⟩
  have := hn.2
  omega

/-- The registers of a channel that is not picked. -/
theorem idle_chan {c : Fin 16} (hc : ¬p c) {r : Rg} (h : ofChan c r.addr) : r.Idle p := by
  have hlo := h.1
  refine ⟨keptLow_eq_false_iff.2 (by omega), show 0x40000034 ≠ r.addr by omega, fun n hn h' => hc ?_⟩
  obtain rfl : n = c := Fin.ext (by have := h.2; have := h'.1; have := h'.2; omega)
  exact hn

end Idle

/-! ### The relation -/

/-- What no work beside the departure itself changes. -/
def State.core (s : State) :=
  (s.tt, s.rst, s.phase, s.pwr, s.now, s.rfx.atDep, s.mani.props, s.mani.resolved, s.mani.apply, s.mani.missed)

section Core
variable {s t : State} (h : t.core = s.core)
include h

theorem core_tt : t.tt = s.tt := congrArg (·.1) h
theorem core_rst : t.rst = s.rst := congrArg (·.2.1) h
theorem core_phase : t.phase = s.phase := congrArg (·.2.2.1) h
theorem core_pwr : t.pwr = s.pwr := congrArg (·.2.2.2.1) h
theorem core_now : t.now = s.now := congrArg (·.2.2.2.2.1) h
theorem core_atDep : t.rfx.atDep = s.rfx.atDep := congrArg (·.2.2.2.2.2.1) h
theorem core_props : t.mani.props = s.mani.props := congrArg (·.2.2.2.2.2.2.1) h
theorem core_resolved : t.mani.resolved = s.mani.resolved := congrArg (·.2.2.2.2.2.2.2.1) h
theorem core_apply : t.mani.apply = s.mani.apply := congrArg (·.2.2.2.2.2.2.2.2.1) h
theorem core_missed : t.mani.missed = s.mani.missed := congrArg (·.2.2.2.2.2.2.2.2.2) h

end Core

theorem asleep_of_state {s t : State} (h : t.getF Fd.SLEEP_STAT_STATE = s.getF Fd.SLEEP_STAT_STATE) : t.asleep = s.asleep :=
  congrArg (fun v => decide (2 ≤ v)) h

/-- `t` keeps of `s` the channels that `p` picks, the registers of `keptLow`, and whether the node sleeps; its sources are quiet. -/
structure State.Keeps (p : Fin 16 → Prop) (s t : State) : Prop where
  core : t.core = s.core
  low : ∀ r : Rg, keptLow r.addr = true → t.getR r = s.getR r
  block : ∀ n, p n → ∀ r : Rg, ofChan n r.addr → t.getR r = s.getR r
  chan : ∀ n, p n → t.ch n = s.ch n
  asleep : t.asleep = s.asleep
  quiet : ∀ k, k < 128 → t.Quiet k

namespace State.Keeps
variable {p : Fin 16 → Prop} {s t u : State}

theorem refl (hq : ∀ k, k < 128 → s.Quiet k) : s.Keeps p s := ⟨rfl, fun _ _ => rfl, fun _ _ _ _ => rfl, fun _ _ => rfl, rfl, hq⟩

theorem trans (h : s.Keeps p t) (g : t.Keeps p u) : s.Keeps p u :=
  ⟨g.core.trans h.core, fun r hr => (g.low r hr).trans (h.low r hr), fun n hn r hr => (g.block n hn r hr).trans (h.block n hn r hr),
    fun n hn => (g.chan n hn).trans (h.chan n hn), g.asleep.trans h.asleep, g.quiet⟩

theorem mono {q : Fin 16 → Prop} (h : s.Keeps p t) (hq : ∀ n, q n → p n) : s.Keeps q t :=
  ⟨h.core, h.low, fun n hn => h.block n (hq n hn), fun n hn => h.chan n (hq n hn), h.asleep, h.quiet⟩

/-- A state with the same registers, channels and core. -/
theorem same (h : s.Keeps p t) (hr : u.regs = t.regs) (hc : u.chs = t.chs) (hcore : u.core = t.core) : s.Keeps p u := by
  have hget (r : Rg) : u.getR r = t.getR r := by rw [State.getR, hr, State.getR]
  exact ⟨hcore.trans h.core, fun r hl => (hget r).trans (h.low r hl), fun n hn r hb => (hget r).trans (h.block n hn r hb),
    fun n hn => (congrArg (vget · n) hc).trans (h.chan n hn), (asleep_of_state (getF_of_regs hr _)).trans h.asleep,
    fun k hk => quiet_of_regs hr (h.quiet k hk)⟩

/-- A write of a register that is none of those kept, where the node sleeps as before. -/
theorem setR_of_asleep (h : s.Keeps p t) {r : Rg} (hlow : keptLow r.addr = false) (hchan : ∀ n, p n → ¬ofChan n r.addr) {w : Word}
    (ha : (t.setR r w).asleep = t.asleep) : s.Keeps p (t.setR r w) := by
  have hget (q : Rg) (hq : keptLow q.addr = true) : (t.setR r w).getR q = t.getR q :=
    getR_setR_ne t (fun he => Bool.false_ne_true (hlow.symm.trans (he ▸ hq))) w
  refine ⟨h.core, fun q hq => (hget q hq).trans (h.low q hq), fun n hn q hq => ?_, h.chan, ha.trans h.asleep, fun k hk => ?_⟩
  · exact (getR_setR_ne t (fun he => hchan n hn (he ▸ hq)) w).trans (h.block n hn q hq)
  · refine quiet_of_getR (hget _ ?_) (h.quiet k hk)
    simp only [keptLow, Bool.or_eq_true, Bool.and_eq_true, decide_eq_true_eq]
    exact .inr ⟨Nat.le_add_right _ _, by show 0x40010100 + 0x4 * k < _; omega⟩

theorem setR (h : s.Keeps p t) {r : Rg} (hr : r.Idle p) (w : Word) : s.Keeps p (t.setR r w) :=
  h.setR_of_asleep hr.low hr.chan
    (asleep_of_state (getF_of_getR (f := Fd.SLEEP_STAT_STATE) (getR_setR_ne t hr.sleep w)))

/-- A write of the register of the sleep states. -/
theorem setSleep (h : s.Keeps p t) {f : Fd} (hf : f.reg = Rg.SLEEP_STAT) {v : Nat} (ha : (t.setF f v).asleep = t.asleep) : s.Keeps p (t.setF f v) :=
  h.setR_of_asleep (by rw [hf]; decide) (fun n _ hn => by have := hn.1; rw [hf] at this; exact absurd this (by show ¬_ ≤ 0x40000034; omega)) ha

theorem setF (h : s.Keeps p t) {f : Fd} (hr : f.reg.Idle p) (v : Nat) : s.Keeps p (t.setF f v) := h.setR hr _
theorem onF (h : s.Keeps p t) {f : Fd} (hr : f.reg.Idle p) : s.Keeps p (t.onF f) := h.setR hr _
theorem offF (h : s.Keeps p t) {f : Fd} (hr : f.reg.Idle p) : s.Keeps p (t.offF f) := h.setR hr _
theorem addF (h : s.Keeps p t) {f : Fd} (hr : f.reg.Idle p) (k : Nat) : s.Keeps p (t.addF f k) := h.setR hr _
theorem incF (h : s.Keeps p t) {f : Fd} (hr : f.reg.Idle p) : s.Keeps p (t.incF f) := h.setR hr _
theorem setBitF (h : s.Keeps p t) {f : Fd} (hr : f.reg.Idle p) (i : Nat) : s.Keeps p (t.setBitF f i) := h.setR hr _

theorem raise (h : s.Keeps p t) {k : Nat} (hk : k < 128) : s.Keeps p (t.raise k) := by
  rw [raise_of_quiet hk (h.quiet k hk)]
  exact h.setBitF (f := Fd.SB_STICKY_BITS (k / 32)) (idle_sticky hk) _

theorem ite {q : Prop} [Decidable q] {a b : State} (ha : q → s.Keeps p a) (hb : ¬q → s.Keeps p b) : s.Keeps p (if q then a else b) := by
  split
  · exact ha ‹_›
  · exact hb ‹_›

theorem each_mem {α : Type} {f : α → State → State} {l : List α} (h : s.Keeps p t)
    (hf : ∀ x ∈ l, ∀ t, s.Keeps p t → s.Keeps p (f x t)) :
    s.Keeps p (State.each f l t) := by
  induction l generalizing t with
  | nil => exact h
  | cons x r ih => exact ih (hf x List.mem_cons_self t h) fun y hy => hf y (List.mem_cons_of_mem _ hy)

theorem each {α : Type} {f : α → State → State} (hf : ∀ x t, s.Keeps p t → s.Keeps p (f x t)) (l : List α) (h : s.Keeps p t) :
    s.Keeps p (State.each f l t) := h.each_mem fun x _ => hf x

/-! ### The memories (R457 to R462, R477) -/

theorem flashWord (h : s.Keeps p t) (w : Nat) : s.Keeps p (t.flashWord w).2 := by
  unfold State.flashWord
  split
  · exact h
  · exact (h.incF (idle_low (by decide))).raise (by decide)
  · exact (h.incF (idle_low (by decide))).raise (by decide)

theorem flashWords (l : List Nat) (h : s.Keeps p t) : s.Keeps p (State.flashWords l t).2 := by
  induction l generalizing t with
  | nil => exact h
  | cons w r ih => exact ih (h.flashWord w)

theorem takeFree (h : s.Keeps p t) : s.Keeps p t.takeFree.2 := h.same rfl rfl rfl

theorem flashLoad (h : s.Keeps p t) (a n : Nat) : s.Keeps p (t.flashLoad a n).2 := by
  unfold State.flashLoad
  split
  · dsimp only
    split
    · exact (h.takeFree.incF (idle_low (by decide))).raise (by decide)
    · exact h.takeFree
  · exact h.flashWords _

theorem ptLog (h : s.Keeps p t) (kind word : Nat) : s.Keeps p (t.ptLog kind word) := by
  unfold State.ptLog
  split
  · have hlog : s.Keeps p { t with pt := { t.pt with log := t.pt.log ++ [ptEntry kind word] } } := h.same rfl rfl rfl
    exact (hlog.setR (idle_low (by decide)) _).setF (f := Fd.PT_LOG_STAT_LEVEL) (idle_low (by decide)) _
  · exact (h.onF (idle_low (by decide))).raise (by decide)

theorem healWord (h : s.Keeps p t) (page src : Nat) (bad : Bool) (i : Nat) : s.Keeps p (State.healWord page src (bad, t) i).2 := by
  have hload := h.flashLoad (src + 8 * i) 8
  unfold State.healWord
  dsimp only
  split
  · exact hload.same rfl rfl rfl
  · exact hload.same rfl rfl rfl

theorem healWords (page src : Nat) (l : List Nat) (bad : Bool) (h : s.Keeps p t) : s.Keeps p (l.foldl (State.healWord page src) (bad, t)).2 := by
  induction l generalizing t bad with
  | nil => exact h
  | cons i r ih => exact ih _ (h.healWord page src bad i)

theorem healPage (h : s.Keeps p t) (page word : Nat) : s.Keeps p (t.healPage page word) := by
  unfold State.healPage
  split
  · exact h
  · rename_i src _
    have hwords := h.healWords page src (List.range 512) false
    dsimp only
    split
    · exact ((hwords.ptLog 4 word).incF (idle_low (by decide))).raise (by decide)
    · exact ((hwords.ptLog 3 word).incF (idle_low (by decide))).raise (by decide)

theorem eccTouch (w : Nat) (h : s.Keeps p t) : s.Keeps p (State.eccTouch w t) := by
  unfold State.eccTouch
  split
  · exact h
  · have herr : s.Keeps p { t with sramErr := eraseNat w t.sramErr } := h.same rfl rfl rfl
    exact (herr.incF (idle_low (by decide))).raise (by decide)
  · have herr : s.Keeps p ({ t with sramErr := eraseNat w t.sramErr }.setMark w .poisoned) := h.same rfl rfl rfl
    have hlog := ((herr.ptLog 2 w).incF (f := Fd.PT_CNT2_DEMAND) (idle_low (by decide))).raise (k := 19) (by decide)
    dsimp only
    split
    · exact hlog.healPage _ _
    · exact hlog

theorem eccTouchAll (h : s.Keeps p t) (a n : Nat) : s.Keeps p (t.eccTouchAll a n) := each (fun w _ h => h.eccTouch w) _ h

theorem sramWrite (h : s.Keeps p t) (a : Nat) (bs : List Byte) : s.Keeps p (t.sramWrite a bs).2 := by
  have hparts := each (fun w _ h => h.eccTouch w) ((wordsOf a bs.length).filter fun w => !wholeWord a bs.length w) h
  unfold State.sramWrite
  dsimp only
  split
  · exact hparts
  · exact hparts.same rfl rfl rfl

/-! ### The manifest (R215, R224 to R227) -/

theorem writeSlot (h : s.Keeps p t) (r : SubRow) (m : EntryMsg) : s.Keeps p (t.writeSlot r m) := by
  unfold State.writeSlot
  dsimp only
  split
  · exact h.sramWrite _ _
  · exact (h.sramWrite _ _).sramWrite _ _

theorem staleSlot (r : SubRow) (h : s.Keeps p t) : s.Keeps p (State.staleSlot r t) := by
  have hempty : s.Keeps p (t.emptySlot r) := h.takeFree.writeSlot _ _
  unfold State.staleSlot
  split
  · split
    · exact h.writeSlot _ _
    · exact hempty
  · exact hempty

theorem freeOverlap (q : Nat × Nat) (h : s.Keeps p t) : s.Keeps p (State.freeOverlap q t) :=
  each (fun _ _ h => h.takeFree.sramWrite _ _) _ h

theorem closeManifest (h : s.Keeps p t) : s.Keeps p t.closeManifest := by
  unfold State.closeManifest
  split
  · exact h
  · have hslots := each (fun r _ h => h.staleSlot r) (t.mani.subs.filter fun r => !t.mani.arrived.contains r.idx) h
    have hfree := each (fun q _ h => h.freeOverlap q) (overlaps (State.each State.staleSlot (t.mani.subs.filter fun r =>
      !t.mani.arrived.contains r.idx) t).mani.subs) hslots
    dsimp only
    generalize State.each State.freeOverlap _ _ = u at hfree
    have hclosed : s.Keeps p { u with mani := { u.mani with gathering := false, closed := some (u.tt.epoch, u.mani.bank) } } := hfree.same rfl rfl rfl
    have hcount (k : Nat) := (hclosed.onF (f := Fd.MANI_STAT_CLOSED) (idle_low (by decide))).addF (f := Fd.MANI_CNT_STALE_COUNT) (idle_low (by decide)) k
    split
    · exact hcount _
    · exact (hcount _).raise (by decide)

theorem closeIfFull (h : s.Keeps p t) : s.Keeps p t.closeIfFull := by
  unfold State.closeIfFull
  split
  · exact h.closeManifest
  · exact h

theorem takeEntry (m : EntryMsg) (r : SubRow) (h : s.Keeps p t) : s.Keeps p (State.takeEntry m r t) := by
  unfold State.takeEntry
  split
  · exact h
  · exact (h.writeSlot r m).same rfl rfl rfl

theorem entryIn (h : s.Keeps p t) (m : EntryMsg) : s.Keeps p (t.entryIn m) := by
  unfold State.entryIn
  dsimp only
  split
  · exact h
  · split
    · exact (h.incF (idle_low (by decide))).raise (by decide)
    · split
      · exact (h.incF (idle_low (by decide))).raise (by decide)
      · have htaken := each (fun r _ h => h.takeEntry m r) (t.mani.subs.filter fun r => entryAddr r.node r.entry == m.addrFlags.toNat % 2 ^ 52) h
        split
        · exact htaken.closeIfFull.raise (by decide)
        · exact htaken.closeIfFull

/-! ### Frames (R370, R376, R382) -/

theorem setPort (h : s.Keeps p t) (o : Port) (x : PortH) : s.Keeps p (t.setPort o x) := by
  cases o <;> exact h.same rfl rfl rfl

theorem transmit (h : s.Keeps p t) (o : Port) (f : Frame) : s.Keeps p (t.transmit o f) :=
  ((h.setPort o _).setF (f := Fd.OV_RBUF_BYTES o.idx) (idle_port (by cases o <;> decide)) _).setF (f := Fd.OV_RBUF_FRAMES o.idx)
    (idle_port (by cases o <;> decide)) _

theorem drainHeld (o : Port) (n : Nat) (h : s.Keeps p t) : s.Keeps p (State.drainHeld o n t) := by
  induction n generalizing t with
  | zero => exact h
  | succ n ih =>
    unfold State.drainHeld
    split
    · split
      · exact h.setPort o _
      · exact h
    · split
      · exact h
      · exact ih ((h.setPort o _).transmit o _)

theorem queueAt (h : s.Keeps p t) (o : Port) (key : Nat) (f : Frame) : s.Keeps p (t.queueAt o key f) := (h.setPort o _).drainHeld o _

theorem route (h : s.Keeps p t) {f : Frame} (hf : f.body.rev = 0) : s.Keeps p (t.route f) := by
  have hsend {t : State} (h : s.Keeps p t) (o : Port) : s.Keeps p (t.sendOn f o) := by
    rw [sendOn_of_rev_zero hf]
    exact h.queueAt o _ f
  rcases route_cases t f with he | he | he | ⟨o, he⟩ <;> rw [he]
  · exact each (fun o _ h => hsend h o) _ h
  · exact h.same rfl rfl rfl
  · exact h
  · exact hsend h o

theorem originate (h : s.Keeps p t) {b : Body} (hb : b.rev = 0) (dest cls : Nat) : s.Keeps p (t.originate dest cls b) := by
  rcases originate_cases t dest cls b with he | he <;> rw [he]
  · exact h
  · exact route (t := t.nextOseq) (f := t.ownFrame dest cls b) (h.same rfl rfl rfl) hb

theorem countDrop (h : s.Keeps p t) (o : Port) : s.Keeps p (t.countDrop o) :=
  ((h.incF (f := Fd.OV_DROP_VERSION o.idx) (idle_port (by cases o <;> decide))).onF (idle_low (by decide))).raise (by decide)

theorem sendRefuse (h : s.Keeps p t) (dst oseq : Nat) (lane : Option Nat) : s.Keeps p (t.sendRefuse dst oseq lane) := by
  unfold State.sendRefuse
  dsimp only
  split
  · exact h.same rfl rfl rfl
  · split
    · exact h
    · split
      · exact State.Keeps.queueAt (t := { t with ov := { t.ov with oseq := (t.ov.oseq + 1) % 65536 } }) (h.same rfl rfl rfl) _ _ _
      · exact h.same rfl rfl rfl

theorem whistleOn (h : s.Keeps p t) (m : WhistleMsg) (o : Port) : s.Keeps p (t.whistleOn m o) := by
  unfold State.whistleOn
  split
  · exact h
  · split
    · exact (h.countDrop o).sendRefuse _ _ _
    · exact h.incF (f := Fd.OV_WHISTLE_TX o.idx) (idle_port (by cases o <;> decide))

theorem whistleFlush (h : s.Keeps p t) : s.Keeps p t.whistleFlush :=
  each (fun e _ h => each (fun o _ h => h.whistleOn e.2.1 o) e.2.2 h) _ (h.same rfl rfl rfl)

/-! ### Publishing (R216 to R221) -/

theorem sendEntry (k flags : Nat) (l : List Word) (h : s.Keeps p t) : s.Keeps p (State.sendEntry k flags l t) :=
  (h.originate (b := .entry _) rfl _ _).entryIn _

theorem pubContent (h : s.Keeps p t) (log : List ReflexRec) (r : PubRow) : s.Keeps p (t.pubContent log r).2 := by
  have harea (a len : Nat) : s.Keeps p (t.sramArea a len).2 := by
    unfold State.sramArea
    dsimp only
    split
    · exact (h.eccTouchAll _ _).onF (idle_low (by decide))
    · exact h.eccTouchAll _ _
  unfold State.pubContent
  split
  · exact h
  · split
    · exact harea _ _
    · exact h

theorem contents (log : List ReflexRec) (l : List PubRow) (h : s.Keeps p t) : s.Keeps p (t.contents log l).2 := by
  induction l generalizing t with
  | nil => exact h
  | cons r l ih => exact ih (h.pubContent log r)

theorem sendAll (h : s.Keeps p t) (l : List (Nat × Nat × List Word)) :
    s.Keeps p (State.each (fun q s => State.sendEntry q.1 q.2.1 q.2.2 s) l { t with mani := { t.mani with lastPub := l } }) :=
  each (fun q _ h => h.sendEntry q.1 q.2.1 q.2.2) l (h.same rfl rfl rfl)

theorem publish (h : s.Keeps p t) (tp te : Nat) : s.Keeps p (t.publish tp te) := by
  have hlog : s.Keeps p { t with rfx := { t.rfx with log := t.rfx.log.filter fun r => te ≤ r.time } } := h.same rfl rfl rfl
  have hcont := hlog.contents (t.actsOf tp te) t.mani.pubs
  unfold State.publish
  dsimp only
  split
  · exact hlog
  · split
    · exact each (fun q _ h => h.sendEntry _ _ _) _ hlog
    · split
      · exact (hcont.sendAll _).raise (by decide)
      · exact hcont.sendAll _

/-! ### Lanes, sleep and the rest (R87 to R90, R207, R334) -/

theorem startEpoch (h : s.Keeps p t) : s.Keeps p t.startEpoch := by
  unfold State.startEpoch
  dsimp only
  split
  · have hbad := h.onF (f := Fd.MANI_STAT_IMG_BAD) (idle_low (by decide))
    refine State.Keeps.offF (f := Fd.MANI_STAT_CLOSED) (same hbad ?_ ?_ ?_) (idle_low (by decide)) <;> rfl
  · refine State.Keeps.offF (f := Fd.MANI_STAT_CLOSED) (same h ?_ ?_ ?_) (idle_low (by decide)) <;> rfl

theorem laneEvent (kind : Nat) (c : Fin 16) (h : s.Keeps p t) : s.Keeps p (State.laneEvent kind c t) := by
  refine each (fun n _ h => each (fun i u h => ?_) _ h) _ h
  unfold State.pendSel
  split
  · exact h.incF (f := Fd.RFX_STAT_OVERRUN n.val) (idle_lane (Nat.le_add_right_of_le (by decide)))
  · exact h.setBitF (f := Fd.RFX_PEND_PEND n.val) (idle_lane (Nat.le_add_right_of_le (by decide))) _

theorem clearReady (h : s.Keeps p t) : s.Keeps p t.clearReady :=
  same ((h.offF (f := Fd.SLEEP_CTRL_RDY_A) (idle_low (by decide))).offF (f := Fd.SLEEP_CTRL_RDY_B) (idle_low (by decide))) rfl rfl rfl

/-- Another field of the register of the sleep states. -/
theorem setSleepField (h : s.Keeps p t) {f : Fd} (hf : f.reg = Rg.SLEEP_STAT) (hl : 2 ≤ f.lo) (v : Nat) : s.Keeps p (t.setF f v) :=
  h.setSleep hf (asleep_of_state (getF_setF_field (f := f) (g := Fd.SLEEP_STAT_STATE) t hf.symm (.inr hl) v))

/-- A state in which the node is awake, where it is awake already. -/
theorem setAwake (h : s.Keeps p t) (ha : t.asleep = false) {st : Nat} (hst : st < 2) : s.Keeps p (t.setF Fd.SLEEP_STAT_STATE st) := by
  refine h.setSleep rfl (Eq.trans ?_ ha.symm)
  rw [State.asleep, State.sleepState, getF_setF_same _ _ (by decide)]
  exact decide_eq_false (by have := Nat.mod_le st (2 ^ Fd.SLEEP_STAT_STATE.width); omega)

theorem sleepCheck (h : s.Keeps p t) : s.Keeps p t.sleepCheck := by
  unfold State.sleepCheck
  split
  · rename_i hawake
    have ha : t.asleep = false := by
      simp only [Bool.and_eq_true, beq_iff_eq] at hawake
      rw [State.asleep, hawake.2]
      rfl
    dsimp only
    split
    · exact h.setAwake ha (by decide)
    · exact (h.setSleepField (f := Fd.SLEEP_STAT_REFUSE) rfl (by decide) _).clearReady
  · exact h

theorem checkMismatch (h : s.Keeps p t) : s.Keeps p t.checkMismatch := by
  unfold State.checkMismatch
  split
  · exact h.offF (idle_low (by decide))
  · split
    · exact h
    · exact (h.onF (idle_low (by decide))).raise (by decide)

theorem raiseSkew (h : s.Keeps p t) (env : DepEnv) (before : List Nat) : s.Keeps p (t.raiseSkew env before) := by
  have hchans : s.Keeps p (State.each (fun n s =>
      if s.chSt n == stFaulted && before.getD n.val 0 != stFaulted then s.raise (80 + n.val) else s) all16 t) := by
    refine each (fun n u h => ?_) _ h
    split
    · exact h.raise (by omega)
    · exact h
  unfold State.raiseSkew
  dsimp only
  split
  · exact hchans
  · exact hchans.raise (by decide)

theorem wakeChan (n : Fin 16) (ha : s.asleep = false) (h : s.Keeps p t) : s.Keeps p (t.wakeChan n) := by
  have hevent {t : State} (h : s.Keeps p t) : s.Keeps p (t.wakeEvent wkChan) := by
    have hcause : s.Keeps p (t.onF (wkCause wkChan)) := h.onF (f := Fd.WAKE_CAUSE_CHAN) (idle_low (by decide))
    unfold State.wakeEvent
    dsimp only
    generalize t.onF (wkCause wkChan) = u at hcause
    have hawake : u.asleep = false := hcause.asleep.trans ha
    split
    · split
      · rename_i hst
        rw [State.asleep, hst] at hawake
        exact absurd hawake (by decide)
      · split
        · have habort := (hcause.setSleepField (f := Fd.SLEEP_STAT_ABORTED) rfl (by decide) 1).clearReady
          exact habort.setAwake (habort.asleep.trans ha) (by decide)
        · exact hcause
    · exact hcause
  unfold State.wakeChan
  split
  · dsimp only
    split
    · exact hevent h
    · exact hevent (h.setF (f := Fd.WAKE_CAUSE_CHAN_NUM) (idle_low (by decide)) _)
  · exact h

end State.Keeps

end Sys2Proof.Machine
end

section
/-! SUPPORT. What a departure does to one channel, in stages, and that it keeps the other channels. -/

namespace Sys2Proof.Machine

/-- The registers of a channel. -/
theorem ofChan_reg (n : Fin 16) {a : Nat} (ha : 0x40100000 ≤ a ∧ a < 0x40110000) : ofChan n (a + 0x10000 * n.val) := by
  simp only [ofChan]
  omega

/-! ### The stages of a departure at a channel -/

section Stages
variable (te tp : Nat) (miss sleep wasOn : Bool) (n : Fin 16) (s : State)

/-- The latch. -/
def State.depLatch : State :=
  if s.chOn n && !miss then s.modCh n fun h => (if sleep then h else h.latch te (s.leadClipped n)).newInterval else s

/-- The requests; whether one was discarded. -/
def State.depRequests : Bool × State :=
  if sleep then (false, s) else ((s.chRequests n miss).2.1, (s.chRequests n miss).2.2)

/-- The latch of a channel that has become ARMED, and the sign of a discarded request. -/
def State.depArmed (disc : Bool) : State :=
  let t := if !miss && s.chOn n && !wasOn then s.modCh n fun h => h.latch te (s.leadClipped n) else s
  if disc then t.discard n else t

/-- The apply. -/
def State.depApply (apply : Option Word) (missed : Bool) : State := if miss || sleep then s else s.applyCh n apply missed

/-- The record. -/
def State.depRecord : State :=
  s.modCh n fun h => if miss then h.recordMiss (s.actCount n tp te) else h.record s.now (s.chOn n) (s.actCount n tp te)

/-- The sign of a strobe that the die misses. -/
def State.depLink : State :=
  if miss then ((s.onF (Fd.CH_STATE_LINK_ERR n.val)).onF (Fd.CH_EVT_LINK_ERR n.val)).incF (Fd.CH_LINK_STROBE_MISS n.val) else s

/-- The report of the die. -/
def State.depReport : State := if miss then s else (s.offF (Fd.CH_STATE_LINK_ERR n.val)).dieReport n

/-- The sequences that start at the departure, and the lead of the next one. -/
def State.depTrigger (lead : Word) : State :=
  let t := if s.measures n && s.lead n == 0 then s.modCh n fun h => h.trigger 1 te else s
  if wasOn then t.modCh n fun h => { h with leadNow := lead } else t

/-- What follows the apply. -/
def State.depEnd (lead : Word) (skewDp skewDie : Bool) : State :=
  State.depTrigger te wasOn n (State.depReport miss n (((State.depLink miss n (State.depRecord te tp miss n s)).showQueue n).chCopies n skewDp skewDie)) lead

theorem departCh_eq (skewDp skewDie : Bool) (apply : Option Word) (missed : Bool) :
    State.departCh tp te miss skewDp skewDie apply missed n s = if !s.chLive n then s else
      let r := State.depRequests miss s.asleep n (State.depLatch te miss s.asleep n s)
      State.depEnd te tp miss (s.chOn n) n (State.depApply miss s.asleep n (State.depArmed te miss (s.chOn n) n r.2 r.1) apply missed)
        ((s.ch n).cfg.item 4) skewDp skewDie := by
  unfold State.departCh State.depRequests
  cases s.asleep <;> rfl

end Stages

/-! ### The other channels -/

namespace State.Keeps
variable {p : Fin 16 → Prop} {s t : State} {c : Fin 16} (hc : ¬p c)
include hc

theorem setCh (h : s.Keeps p t) (x : ChanH) : s.Keeps p (t.setCh c x) :=
  ⟨h.core, h.low, h.block, fun n hn => (ch_setCh_ne t (show n ≠ c from fun he => hc (he ▸ hn)) x).trans (h.chan n hn), h.asleep, h.quiet⟩

theorem modCh (h : s.Keeps p t) (f : ChanH → ChanH) : s.Keeps p (t.modCh c f) := h.setCh hc _

/-- A write of a register of a channel that is not picked. -/
theorem setRc (h : s.Keeps p t) {a r : Nat} (ha : 0x40100000 ≤ a ∧ a < 0x40110000) (w : Word) : s.Keeps p (t.setR ⟨a + 0x10000 * c.val, r⟩ w) :=
  h.setR (idle_chan hc (ofChan_reg c ha)) w

theorem setFc (h : s.Keeps p t) {a r lo width : Nat} (ha : 0x40100000 ≤ a ∧ a < 0x40110000) (v : Nat) :
    s.Keeps p (t.setF ⟨⟨a + 0x10000 * c.val, r⟩, lo, width⟩ v) := h.setRc hc ha _

theorem onFc (h : s.Keeps p t) {a r lo width : Nat} (ha : 0x40100000 ≤ a ∧ a < 0x40110000) :
    s.Keeps p (t.onF ⟨⟨a + 0x10000 * c.val, r⟩, lo, width⟩) :=
  h.setRc hc ha _

theorem offFc (h : s.Keeps p t) {a r lo width : Nat} (ha : 0x40100000 ≤ a ∧ a < 0x40110000) :
    s.Keeps p (t.offF ⟨⟨a + 0x10000 * c.val, r⟩, lo, width⟩) :=
  h.setRc hc ha _

theorem incFc (h : s.Keeps p t) {a r lo width : Nat} (ha : 0x40100000 ≤ a ∧ a < 0x40110000) :
    s.Keeps p (t.incF ⟨⟨a + 0x10000 * c.val, r⟩, lo, width⟩) :=
  h.setRc hc ha _

theorem dieReport (h : s.Keeps p t) : s.Keeps p (t.dieReport c) := h.setRc hc (by decide) _

theorem setChSt (h : s.Keeps p t) (st : Nat) : s.Keeps p (t.setChSt c st) := by
  unfold State.setChSt
  split
  · exact h
  · exact ((h.setFc hc (by decide) _).onFc hc (by decide)).dieReport hc

theorem showDiag (h : s.Keeps p t) : s.Keeps p (t.showDiag c) := (h.setFc hc (by decide) _).dieReport hc
theorem showQueue (h : s.Keeps p t) : s.Keeps p (t.showQueue c) := h.setRc hc (by decide) _
theorem discard (h : s.Keeps p t) : s.Keeps p (t.discard c) := (h.onFc hc (by decide)).onFc hc (by decide)

theorem chRefuge (h : s.Keeps p t) (mod_ auto : Bool) (cause : Nat) : s.Keeps p (t.chRefuge c mod_ auto cause) :=
  ((h.modCh hc _).setFc hc (by decide) _).setChSt hc _

theorem startShut (h : s.Keeps p t) (q : Option ChSlot) : s.Keeps p (t.startShut c q) :=
  (((((h.modCh hc _).offFc hc (by decide)).setFc hc (by decide) _).setFc hc (by decide) _).showDiag hc).setChSt hc _

theorem startConfig (h : s.Keeps p t) (q : ChSlot) : s.Keeps p (t.startConfig c q) := by
  unfold State.startConfig
  refine (((((h.setCh hc _).each_mem fun w hw t h => ?_).setFc hc (by decide) _).offFc hc (by decide)).setChSt hc _)
  refine h.setR (idle_chan hc (show ofChan c (0x40100100 + 0x10000 * c.val + 0x4 * w) from ?_)) _
  have := List.mem_range.1 hw
  simp only [ofChan]
  omega

theorem faultCore (h : s.Keeps p t) (cause : Nat) : s.Keeps p (t.faultCore c cause) :=
  ((((((((h.modCh hc _).offFc hc (by decide)).offFc hc (by decide)).setFc hc (by decide) _).showDiag hc).setFc hc (by decide) _).incFc hc
    (by decide)).onFc hc (by decide)).setChSt hc _

theorem armCh (h : s.Keeps p t) : s.Keeps p (t.armCh c) := by
  have harm := h.modCh hc fun h => h.arm t.tt.clk
  unfold State.armCh
  dsimp only
  split
  · exact harm.chRefuge hc _ _ _
  · exact (harm.setChSt hc _).onFc hc (by decide)

/-! The fast comparator may wake a node, but one that is awake stays so. -/

theorem fastStart (ha : s.asleep = false) (h : s.Keeps p t) : s.Keeps p (t.fastStart c) := by
  have hjudge {t : State} (h : s.Keeps p t) : s.Keeps p (t.fastJudge c) := by
    unfold State.fastJudge
    dsimp only
    split
    · split
      · exact ((h.setCh hc _).laneEvent _ _).wakeChan c ha
      · exact h.setCh hc _
    · split
      · exact h.setCh hc _
      · exact h
  unfold State.fastStart
  split
  · exact hjudge (h.modCh hc _)
  · exact h

/-! ### Requests of another channel (R156, R251, R268, R359) -/

theorem regItem (ha : s.asleep = false) (q : Nat × Word) (h : s.Keeps p t) : s.Keeps p (State.regItem c q t) := by
  obtain ⟨i, v⟩ := q
  have hset := h.modCh hc fun h => { h with cfg := h.cfg.setItem i v }
  exact ite (fun _ => h) fun _ => ite (fun _ => h.modCh hc _) fun _ => ite (fun _ => h.modCh hc _) fun _ =>
    ite (fun _ => ite (fun _ => hset.modCh hc _) fun _ => hset) fun _ => ite (fun _ => ite (fun _ => hset.fastStart hc ha) fun _ => hset) fun _ =>
    ite (fun _ => hset.modCh hc _) fun _ => ite (fun _ => hset.modCh hc _) fun _ => ite (fun _ => (hset.modCh hc _).showDiag hc) fun _ => hset

theorem regItems (ha : s.asleep = false) (h : s.Keeps p t) (l : List (Nat × Word)) (miss : Bool) :
    s.Keeps p (t.regItems c l miss).2.2 := by
  unfold State.regItems
  dsimp only
  split
  · exact h.setCh hc _
  · exact each (fun q _ h => h.regItem hc ha q) _ (h.setCh hc _)

theorem register (ha : s.asleep = false) (h : s.Keeps p t) (q : ChSlot) (miss : Bool) : s.Keeps p (t.register c q miss).2.2 := by
  unfold State.register
  dsimp only
  split
  · split
    · dsimp only
      split
      · exact h.modCh hc _
      · split
        · exact (h.modCh hc _).offFc hc (by decide)
        · exact h.startShut hc _
    · split
      · exact h
      · dsimp only
        split
        · exact (h.modCh hc _).startConfig hc _
        · split
          · exact (h.modCh hc _).onFc hc (by decide)
          · exact h.startShut hc _
  · split
    · exact h
    · split
      · dsimp only
        exact h.modCh hc _
      · split
        · exact h
        · exact h.regItems hc ha _ _

theorem refugeItems (h : s.Keeps p t) (items held : List (Nat × Word)) (stands miss : Bool) :
    s.Keeps p (t.refugeItems c items held stands miss).2 := by
  have hcommand (v : Word) : s.Keeps p (t.refugeCommand c v).2 := by
    have hcmd := h.modCh hc fun h => { h with rcCmd := v.toNat }
    unfold State.refugeCommand
    simp only [apply_ite Prod.snd]
    exact ite (fun _ => ite (fun _ => (hcmd.modCh hc _).chRefuge hc _ _ _) fun _ => hcmd.modCh hc _) fun _ => ite (fun _ => hcmd.modCh hc _) fun _ =>
      ite (fun _ => hcmd.modCh hc _) fun _ => (((hcmd.modCh hc _).modCh hc _).offFc hc (by decide)).setChSt hc _
  unfold State.refugeItems
  split
  · split
    · exact hcommand _
    · dsimp only
      exact h.modCh hc _
  · exact h

theorem chMoves (ha : s.asleep = false) (h : s.Keeps p t) (was : Nat) : s.Keeps p (t.chMoves c was) := by
  unfold State.chMoves
  dsimp only
  split
  · split
    · exact (h.setChSt hc _).chRefuge hc _ _ _
    · exact h.setChSt hc _
  · split
    · split
      · split
        · exact (h.armCh hc).fastStart hc ha
        · exact h
      · exact h
    · split
      · split
        · split
          · exact (h.modCh hc _).startConfig hc _
          · exact h
        · exact h
      · exact h

theorem chRequests (ha : s.asleep = false) (h : s.Keeps p t) (miss : Bool) : s.Keeps p (t.chRequests c miss).2.2 := by
  have hreg := (h.setCh hc { t.ch c with next := (t.ch c).later, later := {} }).register hc ha (t.ch c).next miss
  have hmoves := ite (q := ((t.ch c).next.record.isSome &&
    ((t.setCh c { t.ch c with next := (t.ch c).later, later := {} }).register c (t.ch c).next miss).1) = true) (fun _ => hreg)
    fun _ => hreg.chMoves hc ha (t.chSt c)
  have hitems := hmoves.refugeItems hc (t.ch c).next.items (t.ch c).held.items
    ((t.ch c).next.record.isNone && t.chSt c != stOff && t.chSt c != stShutting && t.chSt c != stFaulted) miss
  exact ite (fun _ => (hitems.setFc hc (by decide) _).offFc hc (by decide)) fun _ => hitems

/-! ### The departure of another channel -/

theorem depLatch (te : Nat) (miss sleep : Bool) (h : s.Keeps p t) : s.Keeps p (State.depLatch te miss sleep c t) := by
  unfold State.depLatch
  split
  · exact h.modCh hc _
  · exact h

theorem depRequests (miss : Bool) {sleep : Bool} (ha : sleep = false → s.asleep = false) (h : s.Keeps p t) :
    s.Keeps p (State.depRequests miss sleep c t).2 := by
  cases sleep with
  | false => exact h.chRequests hc (ha rfl) miss
  | true => exact h

theorem depArmed (te : Nat) (miss wasOn disc : Bool) (h : s.Keeps p t) : s.Keeps p (State.depArmed te miss wasOn c t disc) := by
  have hlatch := ite (q := (!miss && t.chOn c && !wasOn) = true) (fun _ => h.modCh hc fun h => h.latch te (t.leadClipped c)) fun _ => h
  exact ite (fun _ => hlatch.discard hc) fun _ => hlatch

theorem depApply (miss sleep : Bool) (apply : Option Word) (missed : Bool) (h : s.Keeps p t) :
    s.Keeps p (State.depApply miss sleep c t apply missed) := by
  unfold State.depApply
  split
  · exact h
  · unfold State.applyCh
    split
    · exact h
    · exact h.modCh hc _

theorem chCopies (skewDp skewDie : Bool) (h : s.Keeps p t) : s.Keeps p (t.chCopies c skewDp skewDie) := by
  have hcopy := h.setRc (r := 0) hc (a := 0x40100004) (by decide) (t.getR (Rg.CH_STATE c.val))
  have hskew := ite (q := (skewDp || skewDie) = true) (fun _ => hcopy.onFc (r := 0) (lo := 5) (width := 1) hc (a := 0x40100010) (by decide)) fun _ => hcopy
  exact ite (fun _ => (hskew.modCh hc _).faultCore hc _) fun _ => hskew.modCh hc _

theorem depTrigger (te : Nat) (wasOn : Bool) (lead : Word) (h : s.Keeps p t) : s.Keeps p (State.depTrigger te wasOn c t lead) := by
  have htrigger := ite (q := (t.measures c && t.lead c == 0) = true) (fun _ => h.modCh hc fun h => h.trigger 1 te) fun _ => h
  exact ite (fun _ => htrigger.modCh hc _) fun _ => htrigger

theorem depEnd (te tp : Nat) (miss wasOn : Bool) (lead : Word) (skewDp skewDie : Bool) (h : s.Keeps p t) :
    s.Keeps p (State.depEnd te tp miss wasOn c t lead skewDp skewDie) := by
  have hrec : s.Keeps p (State.depRecord te tp miss c t) := h.modCh hc _
  have hlink : s.Keeps p (State.depLink miss c (State.depRecord te tp miss c t)) := by
    unfold State.depLink
    split
    · exact ((hrec.onFc hc (by decide)).onFc hc (by decide)).incFc hc (by decide)
    · exact hrec
  have hcopies := (hlink.showQueue hc).chCopies hc skewDp skewDie
  unfold State.depEnd
  refine State.Keeps.depTrigger hc te wasOn lead ?_
  unfold State.depReport
  split
  · exact hcopies
  · exact (hcopies.offFc hc (by decide)).dieReport hc

/-- The departure of a channel keeps the others. -/
theorem departCh (te tp : Nat) (miss skewDp skewDie : Bool) (apply : Option Word) (missed : Bool) (h : s.Keeps p t) :
    s.Keeps p (State.departCh tp te miss skewDp skewDie apply missed c t) := by
  rw [departCh_eq]
  split
  · exact h
  · exact ((((h.depLatch hc _ _ _).depRequests hc _ fun he => h.asleep ▸ he).depArmed hc _ _ _ _).depApply hc _ _ _ _).depEnd hc _ _ _ _ _ _ _

end State.Keeps

end Sys2Proof.Machine
end

section
/-! SUPPORT. What a departure does to the channel itself. -/

namespace Sys2Proof.Machine

/-! ### What a channel shows -/

/-- STATE, MODE and the event ARMED of a channel. -/
def State.face (s : State) (n : Fin 16) : Nat × Nat × Bool := (s.chSt n, s.getF (Fd.CH_STATE_MODE n.val), s.isF (Fd.CH_EVT_ARMED n.val))

/-- What a channel holds that neither the latch nor the record changes. -/
def ChanH.base (h : ChanH) := (h.cfg, h.next, h.later, h.held, h.target, h.done)

/-- What else the apply and the transitions look at. -/
def ChanH.conds (h : ChanH) := (h.hold, h.trimCmd, h.diagNow)

theorem face_of_block {s t : State} {n : Fin 16} (h : ∀ r : Rg, ofChan n r.addr → t.getR r = s.getR r) : t.face n = s.face n := by
  have hf (f : Fd) (hf : ofChan n f.reg.addr) : t.getF f = s.getF f := getF_of_getR (h f.reg hf)
  rw [State.face, State.face, State.chSt, State.chSt, hf _ (ofChan_reg n (by decide)), hf _ (ofChan_reg n (by decide)), State.isF, State.isF,
    hf _ (ofChan_reg n (by decide))]

theorem face_of_keeps {p : Fin 16 → Prop} {s t : State} {n : Fin 16} (h : s.Keeps p t) (hn : p n) : t.face n = s.face n :=
  face_of_block (h.block n hn)

theorem chSt_of_face {s t : State} {n : Fin 16} (h : t.face n = s.face n) : t.chSt n = s.chSt n := congrArg Prod.fst h

section Face
variable {s : State} {n : Fin 16}

/-- A write of a register of the channel beside its state word and its events. -/
theorem face_setR {a r : Nat} (ha : 0x40100000 ≠ a) (he : 0x40100010 ≠ a) (w : Word) : (s.setR ⟨a + 0x10000 * n.val, r⟩ w).face n = s.face n := by
  have hs (f : Fd) (hf : f.reg.addr = 0x40100000 + 0x10000 * n.val) : (s.setR ⟨a + 0x10000 * n.val, r⟩ w).getF f = s.getF f :=
    getF_setR_ne s (by rw [hf]; exact chReg_ne ha) w
  rw [State.face, State.face, State.chSt, State.chSt, hs _ rfl, hs _ rfl, State.isF, State.isF, getF_setR_ne _ (chReg_ne he)]

/-- A write of a field of the state word above MODE. -/
theorem face_setF {f : Fd} (hr : f.reg = Rg.CH_STATE n.val) (hl : 8 ≤ f.lo) (v : Nat) : (s.setF f v).face n = s.face n := by
  have h3 : 0 + 3 ≤ f.lo := Nat.le_trans (by decide) hl
  rw [State.face, State.face, State.chSt, State.chSt, getF_setF_field (f := f) (g := Fd.CH_STATE_STATE n.val) s hr.symm (.inr h3),
    getF_setF_field (f := f) (g := Fd.CH_STATE_MODE n.val) s hr.symm (.inr hl), State.isF, State.isF,
    getF_setF_reg s (by rw [hr]; exact chReg_ne (by decide))]

theorem face_dieReport : (s.dieReport n).face n = s.face n := face_setR (by decide) (by decide) _

end Face

theorem base_eq {g h : ChanH} (he : g.base = h.base) :
    g.cfg = h.cfg ∧ g.next = h.next ∧ g.later = h.later ∧ g.held = h.held ∧ g.target = h.target ∧ g.done = h.done := by
  simpa only [ChanH.base, Prod.mk.injEq] using he

/-! ### Work that rests -/

/-- VALUE and its age. -/
def ChanH.latest (h : ChanH) := (h.value, h.age)

/-- `t` shows the channel as `s` does and holds the same; VALUE and AGE stay but for an output. -/
structure State.Rests (n : Fin 16) (s t : State) : Prop where
  face : t.face n = s.face n
  base : (t.ch n).base = (s.ch n).base
  latest : isOutput (s.ch n).cfg.mode = false → (t.ch n).latest = (s.ch n).latest

section Rests
variable {s t u : State} {n : Fin 16}

theorem State.Rests.trans (h : s.Rests n t) (g : t.Rests n u) : s.Rests n u :=
  ⟨g.face.trans h.face, g.base.trans h.base, fun ho => (g.latest ((base_eq h.base).1 ▸ ho)).trans (h.latest ho)⟩

theorem rests_setR {r : Rg} {w : Word} (h : (s.setR r w).face n = s.face n) : s.Rests n (s.setR r w) := ⟨h, rfl, fun _ => rfl⟩

theorem rests_modCh {f : ChanH → ChanH} (hf : ∀ h, (f h).base = h.base)
    (hv : ∀ h : ChanH, isOutput h.cfg.mode = false → (f h).latest = h.latest) : s.Rests n (s.modCh n f) := by
  refine ⟨rfl, ?_, ?_⟩ <;> rw [ch_modCh_same]
  · exact hf _
  · exact hv _

end Rests

section Own
variable {s : State} {n : Fin 16} (te tp : Nat)

theorem trigger_base (h : ChanH) (src now : Nat) : (h.trigger src now).base = h.base ∧ (h.trigger src now).latest = h.latest := by
  have hinj (h : ChanH) : (h.trigInj now).base = h.base ∧ (h.trigInj now).latest = h.latest := by
    unfold ChanH.trigInj
    split_ifs <;> exact ⟨rfl, rfl⟩
  have hreg (h : ChanH) (b : Bool) : (h.trigReg b now).base = h.base ∧ (h.trigReg b now).latest = h.latest := by
    unfold ChanH.trigReg
    split_ifs <;> exact ⟨rfl, rfl⟩
  unfold ChanH.trigger
  dsimp only
  split
  · exact ⟨rfl, rfl⟩
  · split <;> split
    · exact ⟨(hreg _ _).1.trans (hinj h).1, (hreg _ _).2.trans (hinj h).2⟩
    · exact hinj h
    · exact hreg h _
    · exact ⟨rfl, rfl⟩

/-- What follows the apply rests, where no copy differs and the die receives the strobe. -/
theorem rests_depEnd (wasOn : Bool) (lead : Word) : s.Rests n (State.depEnd te tp false wasOn n s lead false false) := by
  have hrec : s.Rests n (State.depRecord te tp false n s) := rests_modCh (fun h => rfl) fun h ho => by simp [ChanH.record, ChanH.latest, ho]
  have hqueue {t : State} : t.Rests n (t.showQueue n) := rests_setR (face_setR (by decide) (by decide) _)
  have hcopies {t : State} : t.Rests n (t.chCopies n false false) :=
    (rests_setR (face_setR (by decide) (by decide) _)).trans (rests_modCh (f := fun h => { h with dieSkew := false }) (fun _ => rfl) fun _ _ => rfl)
  have hreport {t : State} : t.Rests n (State.depReport false n t) := (rests_setR (face_setF rfl (by decide : 8 ≤ 9) _)).trans (rests_setR face_dieReport)
  have htrigger {t : State} : t.Rests n (State.depTrigger te wasOn n t lead) := by
    have hrun : t.Rests n (if t.measures n && t.lead n == 0 then t.modCh n fun h => h.trigger 1 te else t) := by
      split
      · exact rests_modCh (fun h => (trigger_base h 1 te).1) fun h _ => (trigger_base h 1 te).2
      · exact ⟨rfl, rfl, fun _ => rfl⟩
    unfold State.depTrigger
    dsimp only
    split
    · exact hrun.trans (rests_modCh (fun _ => rfl) fun _ _ => rfl)
    · exact hrun
  exact (((hrec.trans hqueue).trans hcopies).trans hreport).trans htrigger

/-! ### The latch -/

theorem latch_base (h : ChanH) (clip : Bool) : (h.latch te clip).base = h.base ∧ (h.latch te clip).conds = h.conds := by
  unfold ChanH.latch
  dsimp only
  split_ifs
  · split <;> exact ⟨rfl, rfl⟩
  all_goals exact ⟨rfl, rfl⟩

theorem latch_value {h : ChanH} (ha : isAnaIn h.cfg.mode = true) {x : ProcRes} (hx : h.proc.find? (fun y => y.time < te) = some x) (clip : Bool) :
    (h.latch te clip).latest = (x.value, ageOf te x.time) := by
  unfold ChanH.latch ChanH.latest
  simp only [ha, if_true, hx]

theorem depLatch_face (sleep : Bool) : (State.depLatch te false sleep n s).face n = s.face n := by
  unfold State.depLatch
  split <;> rfl

theorem depLatch_base (sleep : Bool) : ((State.depLatch te false sleep n s).ch n).base = (s.ch n).base ∧
    ((State.depLatch te false sleep n s).ch n).conds = (s.ch n).conds := by
  unfold State.depLatch
  split
  · rw [ch_modCh_same]
    cases sleep with
    | true => exact ⟨rfl, rfl⟩
    | false => exact latch_base te (s.ch n) _
  · exact ⟨rfl, rfl⟩

theorem depLatch_frame {β : Type} (q : State → β) (hq : ∀ (s : State) x, q (s.setCh n x) = q s) (sleep : Bool) :
    q (State.depLatch te false sleep n s) = q s := by
  unfold State.depLatch
  split
  · exact hq _ _
  · rfl

/-! ### Requests and transitions -/

/-- The requests have moved up. -/
def State.queueUp (s : State) (n : Fin 16) : State := s.setCh n { s.ch n with next := (s.ch n).later, later := {} }

/-- The transitions, and the commands of the refuge, behind the requests. -/
def State.depMoves (s : State) (n : Fin 16) (r : Bool × Bool × State) : Bool × State :=
  (if (s.ch n).next.record.isSome && r.1 then r.2.2 else r.2.2.chMoves n (s.chSt n)).refugeItems n (s.ch n).next.items (s.ch n).held.items
    ((s.ch n).next.record.isNone && s.chSt n != stOff && s.chSt n != stShutting && s.chSt n != stFaulted) false

/-- The generation at a registration. -/
def State.nextGen (s : State) (n : Fin 16) : State :=
  (s.setF (Fd.CH_STATE_GEN n.val) ((s.getF (Fd.CH_STATE_GEN n.val) + 1) % 65536)).offF (Fd.CH_STATE_DISCARD n.val)

theorem face_nextGen : (s.nextGen n).face n = s.face n := (face_setF rfl (by decide : 8 ≤ 8) _).trans (face_setF rfl (by decide : 8 ≤ 16) _)
theorem ch_nextGen : (s.nextGen n).ch n = s.ch n := rfl

theorem chRequests_eq : s.chRequests n false =
    let r := (s.queueUp n).register n (s.ch n).next false
    let m := s.depMoves n r
    (r.1, r.2.1 || m.1, if r.1 then m.2.nextGen n else m.2) := rfl

theorem refugeItems_nil (t : State) (b : Bool) {l : List (Nat × Word)} (h : b = true → l = []) : t.refugeItems n [] l b false = (false, t) := by
  cases b with
  | false => rfl
  | true => rw [h rfl]; rfl

/-- Where there is no request, the transitions alone. -/
theorem chRequests_of_none (hr : (s.ch n).next.record = none) (hi : (s.ch n).next.items = []) (hh : (s.ch n).held.items = []) :
    s.chRequests n false = (false, false, (s.queueUp n).chMoves n (s.chSt n)) := by
  have hreg : (s.queueUp n).register n (s.ch n).next false = (false, false, s.queueUp n) := by
    unfold State.register
    simp only [hr, hi, State.queueUp, ch_setCh_same, hh, List.isEmpty_nil, Bool.and_self, if_true]
  have hmoves : s.depMoves n (false, false, s.queueUp n) = (false, (s.queueUp n).chMoves n (s.chSt n)) := by
    rw [State.depMoves, hi, hh, refugeItems_nil _ _ fun _ => rfl, Bool.and_false]
    rfl
  rw [chRequests_eq, hreg]
  simp only [hmoves, Bool.or_self, Bool.false_eq_true, if_false]

/-! ### The transitions -/

theorem chMoves_of_active {t : State} : t.chMoves n 3 = t := rfl

/-- ARMED becomes ACTIVE. -/
theorem chSt_chMoves_armed (h2 : s.chSt n = 2) (hd : (s.ch n).diagNow = 0) : (s.chMoves n 2).chSt n = 3 := by
  have hnone : ¬(isOutput (s.ch n).cfg.mode = true ∧ (s.ch n).diagNow &&& (s.ch n).diagAuto ≠ 0) := by simp [hd]
  unfold State.chMoves
  rw [if_pos ⟨rfl, h2⟩, if_neg hnone]
  exact chSt_setChSt s n (by decide)

/-- A configuration that has been complete for 2 µs becomes ARMED. -/
theorem chMoves_configured (h1 : s.chSt n = 1) {d : Nat} (hd : (s.ch n).done = some d) (hn : 2000 ≤ s.now - d) :
    s.chMoves n 1 = (s.armCh n).fastStart n := by
  unfold State.chMoves
  rw [if_neg (fun h => absurd h.1 (by decide)), if_pos ⟨rfl, h1⟩, hd]
  exact if_pos hn

theorem armCh_shows (hr : s.refuge = false) : (s.armCh n).chSt n = 2 ∧ (s.armCh n).isF (Fd.CH_EVT_ARMED n.val) = true := by
  have harm : s.armCh n = ((s.modCh n fun h => h.arm s.tt.clk).setChSt n 2).onF (Fd.CH_EVT_ARMED n.val) := by
    unfold State.armCh
    exact if_neg (by rw [show (s.modCh n _).refuge = s.refuge from rfl, hr]; decide)
  rw [harm]
  refine ⟨?_, isF_onF_same _ _ (by decide : 1 + 1 ≤ 32) (by decide : 0 < 1)⟩
  rw [State.chSt, State.onF, getF_setF_reg _ (chReg_ne (by decide))]
  exact chSt_setChSt _ n (by decide)

/-- The fast comparator shows nothing at the channel. -/
theorem face_fastStart (ha : s.asleep = false) (hq : ∀ k, k < 128 → s.Quiet k) : (s.fastStart n).face n = s.face n := by
  have hthreshold (t : State) (hr : t.regs = s.regs) (k : Nat) : (t.threshold k n).face n = s.face n := by
    have hsame : t.face n = s.face n := by
      rw [State.face, State.face, State.chSt, State.chSt, getF_of_regs hr, getF_of_regs hr, State.isF, State.isF, getF_of_regs hr]
    have hawake : t.asleep = false := (asleep_of_state (getF_of_regs hr _)).trans ha
    have hkeeps := ((State.Keeps.refl (p := fun _ => True) fun k hk => quiet_of_regs hr (hq k hk)).laneEvent k n).wakeChan n hawake
    exact (face_of_keeps hkeeps trivial).trans hsame
  unfold State.fastStart
  split
  · unfold State.fastJudge
    dsimp only
    split
    · split
      · refine hthreshold _ ?_ _
        rfl
      · rfl
    · split <;> rfl
  · rfl

/-! ### The apply -/

theorem target_commitTo (h : ChanH) (w : Word) : (h.commitTo w).target = w := by
  unfold ChanH.commitTo
  dsimp only
  split <;> rfl

theorem target_unlatch (h : ChanH) (w : Word) : (h.unlatch w).target = h.target := by
  unfold ChanH.unlatch
  split <;> rfl

theorem target_applyCh (ho : s.activeOut n = true) (hf : s.pwr.failing = false) (hready : ¬((s.ch n).hold = true ∨ (s.ch n).trimCmd ≠ 0))
    {w : Word} {missed : Bool} : ((s.applyCh n (some w) missed).ch n).target = (s.ch n).cfg.clamp w := by
  unfold State.applyCh
  rw [ho, hf, if_neg (by decide), ch_modCh_same]
  dsimp only
  rw [if_neg hready, target_unlatch]
  split
  · rfl
  · exact target_commitTo _ _

theorem isOutput_of_isAnaIn {m : Nat} (h : isAnaIn m = true) : isOutput m = false := by
  simp only [isAnaIn, isOutput, mVI, mCI, mRTD, mTC, mRes, mHS, mVO, mCO, Bool.or_eq_true, beq_iff_eq, Bool.or_eq_false_iff,
    beq_eq_false_iff_ne] at h ⊢
  omega

/-! ### A record of an OFF channel -/

/-- An OFF channel whose record registers, with nothing carried. -/
def State.registered (s : State) (n : Fin 16) (x : List Word) : State :=
  (((s.queueUp n).modCh n fun h => { h with pend := none }).startConfig n { record := some x, items := [] }).nextGen n

theorem chRequests_record (h0 : s.chSt n = 0) {x : List Word} (hr : (s.ch n).next.record = some x) (hi : (s.ch n).next.items = [])
    (hx : recMode x ≠ 0) : s.chRequests n false = (true, false, s.registered n x) := by
  have hst : (s.queueUp n).chSt n = 0 := h0
  have hreg : (s.queueUp n).register n (s.ch n).next false =
      (true, false, ((s.queueUp n).modCh n fun h => { h with pend := none }).startConfig n { record := some x, items := [] }) := by
    unfold State.register
    simp only [hr, hi, hst, mOff, stFaulted, stOff, hx, if_false, if_true, List.any_nil, List.filter_nil, Bool.or_self]
    rfl
  have hmoves (t : State) : s.depMoves n (true, false, t) = (false, t) := by
    rw [State.depMoves, hi, hr]
    exact refugeItems_nil _ _ fun h => absurd h Bool.false_ne_true
  rw [chRequests_eq, hreg]
  simp only [hmoves, Bool.or_self, if_true]
  rfl

theorem next_loadTrim (h : ChanH) : (s.loadTrim n h).next = h.next := by
  unfold State.loadTrim
  split <;> rfl

/-- CONFIGURING, in the mode of a record that carries nothing; the requests stay. -/
theorem startConfig_shows (x : List Word) : (s.startConfig n { record := some x, items := [] }).chSt n = 1 ∧
    (s.startConfig n { record := some x, items := [] }).getF (Fd.CH_STATE_MODE n.val) = recMode x % 16 ∧
    ((s.startConfig n { record := some x, items := [] }).ch n).next = (s.ch n).next := by
  unfold State.startConfig
  refine ⟨chSt_setChSt _ n (by decide), ?_, ?_⟩
  · rw [getF_setChSt_state _ n rfl (by decide : 3 ≤ 4), State.offF,
      getF_setF_field (f := Fd.CH_STATE_PENDING n.val) (g := Fd.CH_STATE_MODE n.val) _ rfl (.inl (by decide : 3 + 1 ≤ 4)),
      getF_setF_same _ _ (by decide : 4 + 4 ≤ 32)]
    rfl
  · have hsetR (s : State) (r : Rg) (w : Word) : (s.setR r w).ch n = s.ch n := rfl
    rw [setChSt_frame _ n (fun s => s.ch n) hsetR, State.offF, State.setF, hsetR, State.setF, hsetR,
      each_frame (fun s => s.ch n) (fun w s => hsetR s _ _), ch_setCh_same]
    split
    · exact next_loadTrim _
    · rfl

theorem registered_shows (x : List Word) : (s.registered n x).chSt n = 1 ∧ (s.registered n x).getF (Fd.CH_STATE_MODE n.val) = recMode x % 16 ∧
    ((s.registered n x).ch n).next = (s.ch n).later := by
  obtain ⟨hst, hmode, hnext⟩ := startConfig_shows (s := (s.queueUp n).modCh n fun h => { h with pend := none }) (n := n) x
  rw [State.registered, ch_nextGen, State.queueUp]
  refine ⟨(chSt_of_face face_nextGen).trans hst, (congrArg (·.2.1) face_nextGen).trans hmode, hnext.trans ?_⟩
  rw [ch_modCh_same, State.queueUp, ch_setCh_same]

/-! ### The departure of a channel -/

section Departs
variable {apply : Option Word} {missed : Bool}

theorem depApply_face (sleep : Bool) : (State.depApply false sleep n s apply missed).face n = s.face n := by
  unfold State.depApply State.applyCh
  split
  · rfl
  · split <;> rfl

theorem depArmed_undiscarded (wasOn : Bool) :
    State.depArmed te false wasOn n s false = if s.chOn n && !wasOn then s.modCh n fun h => h.latch te (s.leadClipped n) else s := rfl

theorem depArmed_face (wasOn : Bool) : (State.depArmed te false wasOn n s false).face n = s.face n := by
  rw [depArmed_undiscarded]
  split <;> rfl

theorem depArmed_of_wasOn : State.depArmed te false true n s false = s := by
  rw [depArmed_undiscarded, Bool.not_true, Bool.and_false]
  rfl

/-- In STABLED a departure changes neither the state nor what the channel holds. -/
theorem departCh_asleep (hl : s.chLive n = true) (ha : s.asleep = true) :
    (State.departCh tp te false false false apply missed n s).face n = s.face n ∧
    ((State.departCh tp te false false false apply missed n s).ch n).base = (s.ch n).base := by
  have hlatch := (depLatch_base (s := s) (n := n) te true).1
  have harmed (t : State) (wasOn : Bool) : ((State.depArmed te false wasOn n t false).ch n).base = (t.ch n).base := by
    rw [depArmed_undiscarded]
    split
    · rw [ch_modCh_same]
      exact (latch_base te _ _).1
    · rfl
  rw [departCh_eq, if_neg (by simp [hl]), ha]
  have hend := rests_depEnd (s := State.depApply false true n (State.depArmed te false (s.chOn n) n (State.depLatch te false true n s) false) apply missed)
    (n := n) te tp (s.chOn n) ((s.ch n).cfg.item 4)
  exact ⟨hend.face.trans ((depApply_face _).trans ((depArmed_face _ _).trans (depLatch_face te _))), hend.base.trans ((harmed _ _).trans hlatch)⟩

section Awake
variable (hl : s.chLive n = true) (ha : s.asleep = false)
include hl ha

section Unasked
variable (hr : (s.ch n).next.record = none) (hi : (s.ch n).next.items = []) (hh : (s.ch n).held.items = [])
include hr hi hh

/-- Without a request: the latch, the transitions, and the apply. -/
theorem departCh_unasked :
    let t := State.depArmed te false (s.chOn n) n (((State.depLatch te false false n s).queueUp n).chMoves n (s.chSt n)) false
    (State.depApply false false n t apply missed).Rests n (State.departCh tp te false false false apply missed n s) := by
  obtain ⟨-, hnext, -, hheld, -⟩ := base_eq (depLatch_base (s := s) (n := n) te false).1
  have hreq : State.depRequests false false n (State.depLatch te false false n s) =
      (false, ((State.depLatch te false false n s).queueUp n).chMoves n (s.chSt n)) := by
    rw [← chSt_of_face (depLatch_face (s := s) (n := n) te false), State.depRequests, if_neg (by decide),
      chRequests_of_none (hnext ▸ hr) (hnext ▸ hi) (hheld ▸ hh)]
  rw [departCh_eq, if_neg (by simp [hl]), ha, hreq]
  exact rests_depEnd te tp _ _

theorem departCh_face : (State.departCh tp te false false false apply missed n s).face n =
    (((State.depLatch te false false n s).queueUp n).chMoves n (s.chSt n)).face n :=
  (departCh_unasked te tp hl ha hr hi hh).face.trans ((depApply_face _).trans (depArmed_face te _))

/-- ARMED becomes ACTIVE. -/
theorem departCh_armed (h2 : s.chSt n = 2) (hd : (s.ch n).diagNow = 0) :
    (State.departCh tp te false false false apply missed n s).chSt n = 3 := by
  have hst : ((State.depLatch te false false n s).queueUp n).chSt n = 2 := (chSt_of_face (depLatch_face te false)).trans h2
  have hdiag : (((State.depLatch te false false n s).queueUp n).ch n).diagNow = 0 := by
    rw [State.queueUp, ch_setCh_same]
    exact (congrArg (·.2.2) (depLatch_base (s := s) (n := n) te false).2).trans hd
  rw [chSt_of_face (departCh_face te tp hl ha hr hi hh), h2]
  exact chSt_chMoves_armed hst hdiag

/-- A configuration that has been complete for 2 µs becomes ARMED, with its event. -/
theorem departCh_configured (h1 : s.chSt n = 1) {d : Nat} (hd : (s.ch n).done = some d) (hn : 2000 ≤ s.now - d) (hrf : s.refuge = false)
    (hq : ∀ k, k < 128 → s.Quiet k) : (State.departCh tp te false false false apply missed n s).chSt n = 2 ∧
    (State.departCh tp te false false false apply missed n s).isF (Fd.CH_EVT_ARMED n.val) = true := by
  have hregs : ((State.depLatch te false false n s).queueUp n).regs = s.regs := depLatch_frame te State.regs (fun _ _ => rfl) false
  have hnow : ((State.depLatch te false false n s).queueUp n).now = s.now := depLatch_frame te State.now (fun _ _ => rfl) false
  have hdone : (((State.depLatch te false false n s).queueUp n).ch n).done = some d := by
    obtain ⟨-, -, -, -, -, hdone⟩ := base_eq (depLatch_base (s := s) (n := n) te false).1
    rw [State.queueUp, ch_setCh_same]
    exact hdone.trans hd
  have hface := departCh_face te tp (apply := apply) (missed := missed) hl ha hr hi hh
  rw [h1, chMoves_configured (s := (State.depLatch te false false n s).queueUp n) ((chSt_of_face (depLatch_face te false)).trans h1) hdone (by rw [hnow]; exact hn)] at hface
  generalize (State.depLatch te false false n s).queueUp n = u at hregs hface
  have hkeeps := (State.Keeps.refl (p := (· ≠ n)) fun k hk => quiet_of_regs hregs (hq k hk)).armCh (c := n) fun h => h rfl
  have hasleep : (u.armCh n).asleep = false :=
    hkeeps.asleep.trans ((asleep_of_state (getF_of_regs hregs _)).trans ha)
  obtain ⟨hst, harmed⟩ := armCh_shows (s := u) (n := n) ((isF_of_regs hregs _).trans hrf)
  rw [face_fastStart hasleep hkeeps.quiet] at hface
  exact ⟨(chSt_of_face hface).trans hst, (congrArg (·.2.2) hface).trans harmed⟩

/-- An ACTIVE channel latches, and applies. -/
theorem departCh_active (h3 : s.chSt n = 3) (hf : s.pwr.failing = false) :
    (State.depApply false false n ((State.depLatch te false false n s).queueUp n) apply missed).Rests n
      (State.departCh tp te false false false apply missed n s) := by
  have hon : s.chOn n = true := by rw [State.chOn, h3, hf]; rfl
  have hend := departCh_unasked te tp (apply := apply) (missed := missed) hl ha hr hi hh
  rw [hon, h3, chMoves_of_active, depArmed_of_wasOn] at hend
  exact hend

/-- The FINAL commit of an ACTIVE output is its target. -/
theorem departCh_commits (h3 : s.chSt n = 3) (hf : s.pwr.failing = false) (ho : isOutput (s.ch n).cfg.mode = true)
    (hhold : (s.ch n).hold = false) (htrim : (s.ch n).trimCmd = 0) {w : Word} (hw : apply = some w) :
    ((State.departCh tp te false false false apply missed n s).ch n).target = (s.ch n).cfg.clamp w ∧
    (State.departCh tp te false false false apply missed n s).chSt n = 3 := by
  have hend := departCh_active te tp (apply := apply) (missed := missed) hl ha hr hi hh h3 hf
  obtain ⟨hcfg, -⟩ := base_eq (depLatch_base (s := s) (n := n) te false).1
  have hconds := (depLatch_base (s := s) (n := n) te false).2
  have hst : ((State.depLatch te false false n s).queueUp n).chSt n = 3 := (chSt_of_face (depLatch_face te false)).trans h3
  have hpwr : ((State.depLatch te false false n s).queueUp n).pwr = s.pwr := depLatch_frame te State.pwr (fun _ _ => rfl) false
  have hcfg' : (((State.depLatch te false false n s).queueUp n).ch n).cfg = (s.ch n).cfg := by rw [State.queueUp, ch_setCh_same]; exact hcfg
  have hconds' : (((State.depLatch te false false n s).queueUp n).ch n).conds = (s.ch n).conds := by rw [State.queueUp, ch_setCh_same]; exact hconds
  generalize (State.depLatch te false false n s).queueUp n = u at hend hst hpwr hcfg' hconds'
  refine ⟨?_, (chSt_of_face (hend.face.trans (depApply_face false))).trans hst⟩
  obtain ⟨-, -, -, -, htarget, -⟩ := base_eq hend.base
  rw [htarget, hw]
  have hready : ¬((u.ch n).hold = true ∨ (u.ch n).trimCmd ≠ 0) := by
    rw [show (u.ch n).hold = false from (congrArg (·.1) hconds').trans hhold, show (u.ch n).trimCmd = 0 from (congrArg (·.2.1) hconds').trans htrim]
    decide
  rw [← hcfg']
  exact target_applyCh (missed := missed) (by rw [State.activeOut, hst, State.chMode, hcfg', ho]; rfl) (hpwr ▸ hf) hready

/-- An ACTIVE analogue input latches its newest result. -/
theorem departCh_latches (h3 : s.chSt n = 3) (hf : s.pwr.failing = false) (ho : isAnaIn (s.ch n).cfg.mode = true)
    {x : ProcRes} (hx : (s.ch n).proc.find? (fun y => y.time < te) = some x) :
    ((State.departCh tp te false false false apply missed n s).ch n).latest = (x.value, ageOf te x.time) := by
  have hend := departCh_active te tp (apply := apply) (missed := missed) hl ha hr hi hh h3 hf
  have hon : s.chOn n = true := by rw [State.chOn, h3, hf]; rfl
  have hin : isOutput (s.ch n).cfg.mode = false := isOutput_of_isAnaIn ho
  have hlatch : State.depLatch te false false n s = s.modCh n fun h => (h.latch te (s.leadClipped n)).newInterval := by
    rw [State.depLatch, hon]
    rfl
  have happly (u : State) (hu : isOutput (u.ch n).cfg.mode = false) : State.depApply false false n u apply missed = u := by
    unfold State.depApply State.applyCh State.activeOut State.chMode
    simp [hu]
  obtain ⟨hcfg, -⟩ := base_eq (latch_base te (s.ch n) (s.leadClipped n)).1
  have hu : isOutput (((State.depLatch te false false n s).queueUp n).ch n).cfg.mode = false := by
    rw [State.queueUp, ch_setCh_same, hlatch, ch_modCh_same]
    exact hcfg ▸ hin
  rw [happly _ hu] at hend
  rw [hend.latest hu, State.queueUp, ch_setCh_same, hlatch, ch_modCh_same]
  exact latch_value te ho hx _

end Unasked

/-- A record of an OFF channel begins its configuration. -/
theorem departCh_record (h0 : s.chSt n = 0) {x : List Word} (hr : (s.ch n).next.record = some x) (hi : (s.ch n).next.items = []) (hx : recMode x ≠ 0) :
    (State.departCh tp te false false false apply missed n s).chSt n = 1 ∧
    (State.departCh tp te false false false apply missed n s).getF (Fd.CH_STATE_MODE n.val) = recMode x % 16 ∧
    ((State.departCh tp te false false false apply missed n s).ch n).next = (s.ch n).later := by
  obtain ⟨-, hnext, hlater, -⟩ := base_eq (depLatch_base (s := s) (n := n) te false).1
  have hst : (State.depLatch te false false n s).chSt n = 0 := (chSt_of_face (depLatch_face te false)).trans h0
  rw [departCh_eq, if_neg (by simp [hl]), ha]
  generalize State.depLatch te false false n s = u at hnext hlater hst
  have hreq : State.depRequests false false n u = (false, u.registered n x) := by
    rw [State.depRequests, if_neg (by decide), chRequests_record hst (hnext ▸ hr) (hnext ▸ hi) hx]
  obtain ⟨hst', hmode, hnext'⟩ := registered_shows (s := u) (n := n) x
  have harmed : State.depArmed te false (s.chOn n) n (u.registered n x) false = u.registered n x := by
    rw [depArmed_undiscarded, State.chOn, hst']
    rfl
  have happly : State.depApply false false n (u.registered n x) apply missed = u.registered n x := by
    unfold State.depApply State.applyCh State.activeOut
    rw [hst']
    rfl
  have hend := rests_depEnd (s := u.registered n x) (n := n) te tp (s.chOn n) ((s.ch n).cfg.item 4)
  rw [hreq]
  dsimp only
  rw [harmed, happly]
  exact ⟨(chSt_of_face hend.face).trans hst', (congrArg (·.2.1) hend.face).trans hmode, (base_eq hend.base).2.1.trans (hnext'.trans hlater)⟩
end Awake
end Departs
end Own

end Sys2Proof.Machine
end

section
/-! PROOF. What a departure does (O51). -/

namespace Sys2Proof.Machine

/-! ### Time until the departure -/

/-- The time at which a departure is found, `te` on the station's clock and `now` in the model. -/
def State.atTime (s : State) (te phase now : Nat) : State :=
  { s with tt := { s.tt with clk := te, slew := 0, slewPhase := phase }, now := now }

section Advance
variable {p : Fin 16 → Prop} {s t : State}

theorem State.Keeps.atTime (h : s.Keeps p t) (te phase now : Nat) : (s.atTime te phase now).Keeps p (t.atTime te phase now) := by
  refine ⟨?_, h.low, h.block, h.chan, h.asleep, h.quiet⟩
  simp only [State.core, State.atTime, core_tt h.core, core_rst h.core, core_phase h.core, core_pwr h.core, core_atDep h.core, core_props h.core,
    core_resolved h.core, core_apply h.core, core_missed h.core]

/-- The cycles of the cores and the always-on clock. -/
def State.countCycles (n : Nat) (s : State) : State :=
  let s := s.setF Fd.AON_CNT_COUNT (s.getF Fd.AON_CNT_COUNT + (aonTicks (s.now + n) - aonTicks s.now))
  State.each (fun m s => s.modMach m fun x => { x with cycle := x.cycle + 3 * n }) (Mach.all.filter s.clocked) s

/-- The period of the tally watchdog, and the time for which it is suspended. -/
def State.countTally (n : Nat) (s : State) : State := if s.tlCounting then { s with tl := { s.tl with phase := s.tl.phase + n } } else s
def State.countSuspended (n : Nat) (s : State) : State :=
  if s.isF Fd.TL_STAT_SUSPENDED then { s with tl := { s.tl with suspended := s.tl.suspended + n } } else s

theorem State.Keeps.counted (h : s.Keeps p t) (n : Nat) : s.Keeps p (((t.countCycles n).countTally n).countSuspended n) := by
  have hcycles : s.Keeps p (t.countCycles n) := State.Keeps.each
    (fun m t h => State.Keeps.same h (u := t.modMach m fun x => { x with cycle := x.cycle + 3 * n }) rfl rfl rfl) _
    (h.setF (f := Fd.AON_CNT_COUNT) (idle_low (by decide)) _)
  have htally : s.Keeps p ((t.countCycles n).countTally n) := State.Keeps.ite (fun _ => hcycles.same rfl rfl rfl) fun _ => hcycles
  exact State.Keeps.ite (fun _ => htally.same rfl rfl rfl) fun _ => htally

def State.atNow (n : Nat) (s : State) : State := { s with now := s.now + n }

/-- Time passes while the module runs. -/
theorem advance_eq (hp : s.phase = .running) (n : Nat) : s.advance n =
    (((((s.countCycles n).countTally n).countSuspended n).advanceTime n).atNow n).whistleFlush := by
  have hcycles : (s.countCycles n).phase = .running :=
    (each_frame (f := fun m s => s.modMach m fun x => { x with cycle := x.cycle + 3 * n }) State.phase (fun _ _ => rfl) _ _).trans hp
  have htally : ((s.countCycles n).countTally n).phase = .running := by
    rw [State.countTally]
    split <;> exact hcycles
  have hsuspended : (((s.countCycles n).countTally n).countSuspended n).phase = .running := by
    rw [State.countSuspended]
    split <;> exact htally
  have heq : s.advance n = (State.atNow n (if (((s.countCycles n).countTally n).countSuspended n).phase = .running then
      (((s.countCycles n).countTally n).countSuspended n).advanceTime n else ((s.countCycles n).countTally n).countSuspended n)).whistleFlush :=
    if_neg (by rw [hp]; decide)
  rw [heq, if_pos hsuspended]

/-- Where there is nothing to slew, node time moves on by what passes. -/
theorem slewDone_eq_zero (h : s.tt.slew = 0) (n : Nat) : slewDone s n = 0 := by
  simp [slewDone, h]

/-- Node time after `n` ns with their slewing. -/
def State.slewed (n : Nat) (s : State) : State :=
  { s with tt := { s.tt with
    clk := (s.tt.clk + n + slewDone s n).toNat, slew := s.tt.slew - slewDone s n
    slewPhase := if s.tt.slew = 0 then 0 else (s.tt.slewPhase + n) % 1000 } }

theorem advanceTime_cases (s : State) (n : Nat) :
    s.advanceTime n = (s.slewed n).offF Fd.TT_STAT_SLEWING ∨ s.advanceTime n = s.slewed n := ite_eq_or_eq _ _ _

theorem slewed_atNow (h : s.tt.slew = 0) (n : Nat) : (s.slewed n).atNow n = s.atTime (s.tt.clk + n) 0 (s.now + n) := by
  rw [State.slewed, slewDone_eq_zero h, h, if_pos rfl]
  rfl

theorem advanceTime_keeps (h : s.Keeps p t) (h0 : s.tt.slew = 0) (n : Nat) :
    (s.atTime (s.tt.clk + n) 0 (s.now + n)).Keeps p ((t.advanceTime n).atNow n) := by
  have htt : t.tt = s.tt := core_tt h.core
  have hnow : t.now = s.now := core_now h.core
  have hmoved := h.atTime (s.tt.clk + n) 0 (s.now + n)
  rw [show t.atTime (s.tt.clk + n) 0 (s.now + n) = (t.slewed n).atNow n by rw [slewed_atNow (htt ▸ h0), htt, hnow]] at hmoved
  rcases advanceTime_cases t n with he | he <;> rw [he]
  · exact hmoved.offF (f := Fd.TT_STAT_SLEWING) (idle_low (by decide))
  · exact hmoved

theorem advanceTo_keeps (hp : s.phase = .running) (h0 : s.tt.slew = 0) (hq : ∀ k, k < 128 → s.Quiet k) {te : Nat} (hle : s.tt.clk ≤ te) :
    ∃ x N, s.now ≤ N ∧ (s.atTime te x N).Keeps p (s.advanceTo te) := by
  unfold State.advanceTo
  split
  · have hmoved := advanceTime_keeps ((State.Keeps.refl (p := p) hq).counted (te - s.tt.clk)) h0 (te - s.tt.clk)
    rw [show s.tt.clk + (te - s.tt.clk) = te by omega] at hmoved
    rw [advance_eq hp]
    exact ⟨0, s.now + (te - s.tt.clk), Nat.le_add_right _ _, hmoved.whistleFlush⟩
  · refine ⟨s.tt.slewPhase, s.now, Nat.le_refl _, ?_⟩
    obtain rfl : s.tt.clk = te := by omega
    rw [show s.atTime s.tt.clk s.tt.slewPhase s.now = s by rw [State.atTime, ← h0]]
    exact State.Keeps.refl hq

end Advance

/-! ### The channels -/

theorem each_append {α : Type} (f : α → State → State) (l r : List α) (s : State) :
    State.each f (l ++ r) s = State.each f r (State.each f l s) := by
  induction l generalizing s with
  | nil => rfl
  | cons x l ih => exact ih _

/-- The departure of one channel, by what the deadline has left. -/
def State.depChan (env : DepEnv) (tp te : Nat) (m : State) (n : Fin 16) (s : State) : State :=
  s.departCh tp te (env.strobeMiss.getLsbD n) (env.skewDp.getLsbD n) (env.skewDie.getLsbD n) (vget m.mani.apply n) (vget m.mani.missed n) n

section Channels
variable {s : State} (env : DepEnv) (tp te : Nat) (hq : ∀ k, k < 128 → s.Quiet k)
include hq

theorem departAll_keeps : s.Keeps (fun _ => False) (s.departAll env tp te) :=
  State.Keeps.each (fun _ _ h => h.departCh (fun h => h) _ _ _ _ _ _ _) _ (State.Keeps.refl hq)

/-- Of the departure of all channels, channel `n` sees its own. -/
theorem departAll_chan (n : Fin 16) : ∃ t : State, s.Keeps (· = n) t ∧ (State.depChan env tp te s n t).Keeps (· = n) (s.departAll env tp te) := by
  obtain ⟨l, r, hl⟩ := List.append_of_mem (List.mem_finRange n)
  have hnodup : (l ++ n :: r).Nodup := hl ▸ List.nodup_finRange 16
  have hnl : ∀ c ∈ l, c ≠ n := fun c hc he => (List.nodup_append.1 hnodup).2.2 c hc n List.mem_cons_self he
  have hnr : ∀ c ∈ r, c ≠ n := fun c hc he => (List.nodup_cons.1 (List.nodup_append.1 hnodup).2.1).1 (he ▸ hc)
  have hothers {k : List (Fin 16)} (hk : ∀ c ∈ k, c ≠ n) {t : State} (ht : ∀ i, i < 128 → t.Quiet i) :
      t.Keeps (· = n) (State.each (State.depChan env tp te s) k t) :=
    (State.Keeps.refl ht).each_mem fun c hc _ h => State.Keeps.departCh (p := (· = n)) (hk c hc) _ _ _ _ _ _ _ h
  have hbefore := hothers hnl hq
  have hown := (State.Keeps.refl (p := fun _ => False) hbefore.quiet).departCh (c := n) (fun h => h) te tp (env.strobeMiss.getLsbD n) (env.skewDp.getLsbD n)
    (env.skewDie.getLsbD n) (vget s.mani.apply n) (vget s.mani.missed n)
  refine ⟨_, hbefore, ?_⟩
  have hall : s.departAll env tp te = State.each (State.depChan env tp te s) all16 s := rfl
  rw [hall, all16, hl, each_append]
  exact hothers hnr hown.quiet

end Channels

/-! ### Work that spares all but some registers -/

/-- `t` differs from `s` in the registers of `l`, the timetable and the manifest. -/
structure State.Spares (l : List Nat) (s t : State) : Prop where
  regs : ∀ r : Rg, r.addr ∉ l → t.getR r = s.getR r
  chs : t.chs = s.chs
  rst : t.rst = s.rst
  rfx : t.rfx = s.rfx

namespace State.Spares
variable {l : List Nat} {s t u : State}

theorem refl (s : State) : s.Spares l s := ⟨fun _ _ => rfl, rfl, rfl, rfl⟩

theorem setR (h : s.Spares l t) {r : Rg} (hr : r.addr ∈ l) (w : Word) : s.Spares l (t.setR r w) :=
  ⟨fun q hq => (getR_setR_ne t (fun he : q.addr = r.addr => hq (he.symm ▸ hr)) w).trans (h.regs q hq), h.chs, h.rst, h.rfx⟩

/-- Another state of the timetable or of the manifest. -/
theorem same (h : s.Spares l t) (hr : u.regs = t.regs) (hc : u.chs = t.chs) (hrst : u.rst = t.rst) (hrfx : u.rfx = t.rfx) : s.Spares l u :=
  ⟨fun q hq => (getR_of_regs hr q).trans (h.regs q hq), hc.trans h.chs, hrst.trans h.rst, hrfx.trans h.rfx⟩

section Small
variable (h : s.Spares l t) (hl : ∀ a ∈ l, 0x40070000 ≤ a ∧ a < 0x40090000)
include h hl

theorem quiet {k : Nat} (hk : k < 128) (hq : s.Quiet k) : t.Quiet k :=
  quiet_of_getR (h.regs _ fun hm => by have := (hl _ hm).1; exact absurd this (by show ¬_ ≤ 0x40010100 + 0x4 * k; omega)) hq

theorem face (n : Fin 16) : t.face n = s.face n :=
  face_of_block fun r hr => h.regs r fun hm => by have := (hl _ hm).2; have := hr.1; omega

end Small

end State.Spares

/-! ### The epoch that begins -/

/-- The registers that the beginning of an epoch writes: `TT_STAT`, `TT_MASTER`, `TT_PERIOD_ACT`, `MANI_MISS`. -/
def epochRegs : List Nat := [0x40070000, 0x40070004, 0x4007001C, 0x40080020]

/-- The epoch `e` begins, without a miss. -/
def State.begun (s : State) (sleep : Bool) (e te : Nat) : State :=
  let t := ((s.periodChange e te).revChange).enterEpoch e
  (if sleep then t else (t.countMiss .a false).countMiss .b false).newProposals

/-- The period that becomes due. -/
def State.changed (s : State) (q e te : Nat) : State :=
  let s := (s.setF Fd.TT_PERIOD_ACT_PERIOD q).takePend none
  { s with tt := { s.tt with anchorE := e, anchorT := te } }

section Begun
variable {s : State} (sleep : Bool) {e te : Nat}

theorem periodChange_cases (s : State) (e te : Nat) : s.periodChange e te = s ∨ ∃ q, s.periodChange e te = s.changed q e te := by
  unfold State.periodChange
  split
  · split
    · exact .inr ⟨_, rfl⟩
    · exact .inl rfl
  · exact .inl rfl

theorem periodChange_due {q : Nat} (h : s.tt.pend = some (q, e)) : s.periodChange e te = s.changed q e te := by
  rw [State.periodChange, h]
  exact if_pos rfl

theorem begun_spares : s.Spares epochRegs (s.begun sleep e te) := by
  have hchange : s.Spares epochRegs (s.periodChange e te) := by
    rcases periodChange_cases s e te with he | ⟨q, he⟩ <;> rw [he]
    · exact .refl s
    · exact ((State.Spares.same ((State.Spares.refl s).setR (r := Rg.TT_PERIOD_ACT) (by decide) _) rfl rfl rfl rfl).setR (r := Rg.TT_STAT)
        (by decide) _).same rfl rfl rfl rfl
  have henter : s.Spares epochRegs (((s.periodChange e te).revChange).enterEpoch e) :=
    ((hchange.setR (r := Rg.TT_MASTER) (by decide) _).setR (r := Rg.TT_MASTER) (by decide) _).same rfl rfl rfl rfl
  unfold State.begun
  dsimp only
  split
  · exact henter.same rfl rfl rfl rfl
  · exact ((henter.setR (r := Rg.MANI_MISS) (by decide) _).setR (r := Rg.MANI_MISS) (by decide) _).same rfl rfl rfl rfl

theorem begun_tt : (s.begun sleep e te).tt = { (s.periodChange e te).tt with epoch := e, nextE := e + 1, ran := true, started := true } := by
  cases sleep <;> rfl

theorem begun_clk : (s.begun sleep e te).tt.clk = s.tt.clk := by
  rw [begun_tt]
  rcases periodChange_cases s e te with he | ⟨q, he⟩
  · rw [he]
  · rw [he]
    rfl

theorem begun_mani : (∀ c, vget (s.begun sleep e te).mani.props c = {}) ∧ (s.begun sleep e te).mani.resolved = false :=
  ⟨fun c => vget_replicate _ c, rfl⟩

theorem begun_due {q : Nat} (h : s.tt.pend = some (q, e)) : (s.begun sleep e te).getF Fd.TT_PERIOD_ACT_PERIOD = q % 2 ^ 20 ∧
    (s.begun sleep e te).tt.anchorE = e ∧ (s.begun sleep e te).tt.anchorT = te ∧ (s.begun sleep e te).tt.pend = none := by
  have hact : (((s.periodChange e te).revChange).enterEpoch e).getF Fd.TT_PERIOD_ACT_PERIOD = q % 2 ^ 20 := by
    rw [periodChange_due h]
    show ((((s.setF Fd.TT_PERIOD_ACT_PERIOD q).setR Rg.TT_STAT _).setR Rg.TT_MASTER _).setR Rg.TT_MASTER _).getF _ = _
    rw [getF_setR_ne _ (by decide), getF_setR_ne _ (by decide), getF_setR_ne _ (by decide), getF_setF_same _ _ (by decide)]
    rfl
  refine ⟨?_, ?_, ?_, ?_⟩
  · cases sleep with
    | true => exact hact
    | false =>
      show ((State.setR _ Rg.MANI_MISS _).setR Rg.MANI_MISS _).getF _ = _
      rw [getF_setR_ne _ (by decide), getF_setR_ne _ (by decide), hact]
  all_goals rw [begun_tt, periodChange_due h]; rfl

end Begun

/-! ### The interrupt (R210, R241) -/

/-- One triad's interrupt. -/
def State.sendIrq (en pend : Fd) (s : State) : State := if s.isF en then s.onF pend else s

theorem depIrq_eq (s : State) :
    s.depIrq = State.sendIrq Fd.TT_IRQ_EN_B Fd.TT_IRQ_PEND_B (State.sendIrq Fd.TT_IRQ_EN_A Fd.TT_IRQ_PEND_A s) := rfl

section Irq
variable {s t : State} {en pend : Fd}

theorem sendIrq_cases (en pend : Fd) (s : State) : State.sendIrq en pend s = s.onF pend ∨ State.sendIrq en pend s = s := ite_eq_or_eq _ _ _

theorem State.Spares.sendIrq {l : List Nat} (h : s.Spares l t) (hp : pend.reg.addr ∈ l) : s.Spares l (State.sendIrq en pend t) := by
  rcases sendIrq_cases en pend t with he | he <;> rw [he]
  · exact h.setR hp _
  · exact h

theorem sendIrq_frame {β : Type} (q : State → β) (hq : ∀ (s : State) r w, q (s.setR r w) = q s) : q (State.sendIrq en pend s) = q s := by
  rcases sendIrq_cases en pend s with he | he <;> rw [he]
  exact hq _ _ _

theorem isF_sendIrq_field {g : Fd} (hr : g.reg = pend.reg) (h : pend.lo + pend.width ≤ g.lo ∨ g.lo + g.width ≤ pend.lo) :
    (State.sendIrq en pend s).isF g = s.isF g := by
  rcases sendIrq_cases en pend s with he | he <;> rw [he]
  rw [State.isF, State.onF, getF_setF_field s hr h, State.isF]

theorem isF_sendIrq_same (hen : s.isF en = true) (h : pend.lo + pend.width ≤ 32) (hw : 0 < pend.width) : (State.sendIrq en pend s).isF pend = true := by
  rw [State.sendIrq, if_pos hen]
  exact isF_onF_same s pend h hw

end Irq

theorem depIrq_spares (s : State) : s.Spares [0x40070038] s.depIrq :=
  ((State.Spares.refl s).sendIrq (by decide)).sendIrq (by decide)

theorem depIrq_frame {β : Type} (q : State → β) (hq : ∀ (s : State) r w, q (s.setR r w) = q s) (s : State) : q s.depIrq = q s :=
  (sendIrq_frame q hq).trans (sendIrq_frame q hq)

theorem depIrq_pend (s : State) : (s.isF Fd.TT_IRQ_EN_A = true → s.depIrq.isF Fd.TT_IRQ_PEND_A = true) ∧
    (s.isF Fd.TT_IRQ_EN_B = true → s.depIrq.isF Fd.TT_IRQ_PEND_B = true) := by
  rw [depIrq_eq]
  refine ⟨fun ha => ?_, fun hb => ?_⟩
  · exact (isF_sendIrq_field (pend := Fd.TT_IRQ_PEND_B) (g := Fd.TT_IRQ_PEND_A) rfl (by decide)).trans (isF_sendIrq_same ha (by decide) (by decide))
  · refine isF_sendIrq_same ?_ (by decide) (by decide)
    exact (isF_sendIrq_field (pend := Fd.TT_IRQ_PEND_A) (g := Fd.TT_IRQ_EN_B) rfl (by decide)).trans hb

/-! ### The departure -/

/-- The image of the new epoch is opened. -/
def State.opened (s : State) : State := if s.maniLive then s.startEpoch else s

/-- What follows the interrupt. -/
def State.finished (s : State) (env : DepEnv) (before : List Nat) (tp te : Nat) : State :=
  (((((State.laneEvent evDeparture 0 s).publish tp te).closeIfFull).sleepCheck).checkMismatch).raiseSkew env before

section Depart
variable {s : State} (env : DepEnv)

theorem finished_keeps {p : Fin 16 → Prop} (hq : ∀ k, k < 128 → s.Quiet k) (before : List Nat) (tp te : Nat) :
    s.Keeps p (s.finished env before tp te) :=
  ((((((State.Keeps.refl hq).laneEvent _ _).publish _ _).closeIfFull).sleepCheck).checkMismatch).raiseSkew _ _

theorem opened_keeps {p : Fin 16 → Prop} (hq : ∀ k, k < 128 → s.Quiet k) : s.Keeps p s.opened :=
  State.Keeps.ite (fun _ => (State.Keeps.refl hq).startEpoch) fun _ => State.Keeps.refl hq

/-- A departure of a node that is locked, behind the deadline and the close of the manifest, with no channel missed. -/
theorem depart_eq (hl : s.ttLive = true) (hk : s.locked = true) (hres : s.mani.resolved = true) (hgath : s.mani.gathering = false)
    (hmiss : ∀ c, vget (s.advanceTo s.nextDep).mani.missed c = false) :
    s.depart env = State.actsAtDep (((((((s.advanceTo s.nextDep).departAll env (s.nextDep - s.period * 1000) s.nextDep).begun
      (s.advanceTo s.nextDep).asleep s.tt.nextE s.nextDep)).opened).depIrq).finished env (all16.map (s.advanceTo s.nextDep).chSt)
        (s.nextDep - s.period * 1000) s.nextDep) := by
  have hdead : s.commitDeadline = s := by
    rw [State.commitDeadline, hk, hres]
    rfl
  have hclose : s.closeManifest = s := by
    rw [State.closeManifest, hgath]
    rfl
  have hnone (t : Triad) : (s.advanceTo s.nextDep).triadMissed t = false := by
    simp [State.triadMissed, hmiss]
  have hrun : s.phase = .running := by simpa using (Bool.and_eq_true_iff.1 hl).1
  unfold State.depart
  rw [hl, hk, hdead, hclose, if_neg (by decide)]
  dsimp only
  rw [if_neg (fun h => h hrun), hnone, hnone]
  simp only [Bool.or_self, Bool.and_false, Bool.false_eq_true, if_false]
  rfl

/-- What a departure leaves of the state `b` behind the channels and of the state `c` of the new epoch. -/
structure State.Leaves (b c t : State) : Prop where
  tt : t.tt = c.tt
  props : t.mani.props = c.mani.props
  resolved : t.mani.resolved = c.mani.resolved
  rst : t.rst = b.rst
  chan : ∀ n, t.ch n = b.ch n
  face : ∀ n, t.face n = b.face n
  period : t.getF Fd.TT_PERIOD_ACT_PERIOD = c.getF Fd.TT_PERIOD_ACT_PERIOD
  irqA : b.isF Fd.TT_IRQ_EN_A = true → t.isF Fd.TT_IRQ_PEND_A = true
  irqB : b.isF Fd.TT_IRQ_EN_B = true → t.isF Fd.TT_IRQ_PEND_B = true

theorem epochRegs_bounds : ∀ a ∈ epochRegs, 0x40070000 ≤ a ∧ a < 0x40090000 := by decide

theorem actsAtDep_nil (h : s.rfx.atDep = []) : s.actsAtDep = s := by
  rw [State.actsAtDep, h]
  show { s with rfx := { s.rfx with atDep := [] } } = s
  rw [← h]

/-- The tail of a departure, where no source reacts and no action came with the strobe. -/
theorem leaves_actsAtDep {b : State} (hq : ∀ k, k < 128 → b.Quiet k) (hdep : b.rfx.atDep = []) (sleep : Bool) (e tp te : Nat) (before : List Nat) :
    b.Leaves (b.begun sleep e te) ((((b.begun sleep e te).opened).depIrq).finished env before tp te).actsAtDep := by
  have hbegun : b.Spares epochRegs (b.begun sleep e te) := begun_spares sleep
  generalize b.begun sleep e te = c at hbegun
  have hcq : ∀ k, k < 128 → c.Quiet k := fun k hk => hbegun.quiet epochRegs_bounds hk (hq k hk)
  have hopened : c.Keeps (fun _ => True) c.opened := opened_keeps hcq
  generalize c.opened = o at hopened
  have hirq := depIrq_spares o
  have hirqCore : o.depIrq.core = o.core := depIrq_frame State.core (fun _ _ _ => rfl) o
  obtain ⟨hpendA, hpendB⟩ := depIrq_pend o
  generalize o.depIrq = d at hirq hirqCore hpendA hpendB
  have hirqBounds : ∀ a ∈ [0x40070038], 0x40070000 ≤ a ∧ a < 0x40090000 := by decide
  have hdq : ∀ k, k < 128 → d.Quiet k := fun k hk => hirq.quiet hirqBounds hk (hopened.quiet k hk)
  have hfin : d.Keeps (fun _ => True) (d.finished env before tp te) := finished_keeps env hdq before tp te
  generalize d.finished env before tp te = f at hfin
  have hcore : f.core = c.core := hfin.core.trans (hirqCore.trans hopened.core)
  have hacts : f.rfx.atDep = [] := (core_atDep hcore).trans ((congrArg ReflexH.atDep hbegun.rfx).trans hdep)
  have hen (g : Fd) (hg : g.reg = Rg.TT_IRQ) (h : b.isF g = true) : o.isF g = true := by
    rw [isF_of_getR (hopened.low g.reg (by rw [hg]; decide)), isF_of_getR (hbegun.regs g.reg (by rw [hg]; decide)), h]
  have hpend (g : Fd) (hg : g.reg = Rg.TT_IRQ) (h : d.isF g = true) : f.isF g = true := by
    rw [isF_of_getR (hfin.low g.reg (by rw [hg]; decide)), h]
  have hperiod : f.getF Fd.TT_PERIOD_ACT_PERIOD = c.getF Fd.TT_PERIOD_ACT_PERIOD := by
    rw [getF_of_getR (hfin.low Rg.TT_PERIOD_ACT (by decide)), getF_of_getR (hirq.regs Rg.TT_PERIOD_ACT (by decide)),
      getF_of_getR (hopened.low Rg.TT_PERIOD_ACT (by decide))]
  rw [actsAtDep_nil hacts]
  refine ⟨core_tt hcore, core_props hcore, core_resolved hcore, (core_rst hcore).trans hbegun.rst,
    fun n => ?_, fun n => ?_, hperiod, fun h => hpend _ rfl (hpendA (hen _ rfl h)), fun h => hpend _ rfl (hpendB (hen _ rfl h))⟩
  · exact (hfin.chan n trivial).trans ((congrArg (vget · n) hirq.chs).trans ((hopened.chan n trivial).trans (congrArg (vget · n) hbegun.chs)))
  · exact (face_of_keeps hfin trivial).trans ((hirq.face hirqBounds n).trans ((face_of_keeps hopened trivial).trans (hbegun.face epochRegs_bounds n)))

/-- What channel `n` finds at its part of the departure, as `s` had it, `now` being the time. -/
structure State.Meets (n : Fin 16) (now : Nat) (s u : State) : Prop where
  live : u.chLive n = s.chLive n
  ch : u.ch n = s.ch n
  face : u.face n = s.face n
  pwr : u.pwr = s.pwr
  now : u.now = now
  asleep : u.asleep = s.asleep
  refuge : u.refuge = s.refuge
  quiet : ∀ k, k < 128 → u.Quiet k

theorem meets_of_keeps {te x N : Nat} {n : Fin 16} {u : State} (h : (s.atTime te x N).Keeps (· = n) u) : s.Meets n N u := by
  have hphase : u.phase = (s.atTime te x N).phase := core_phase h.core
  have hrst : u.rst = (s.atTime te x N).rst := core_rst h.core
  have hpwr : u.pwr = (s.atTime te x N).pwr := core_pwr h.core
  have hnow : u.now = (s.atTime te x N).now := core_now h.core
  have hface : u.face n = (s.atTime te x N).face n := face_of_keeps (p := (· = n)) h rfl
  exact ⟨chLive_congr hphase (h.low Rg.BLK_RST0 (by decide)) (h.low Rg.BLK_RST1 (by decide)) hrst n, h.chan n rfl, hface, hpwr, hnow, h.asleep,
    isF_of_getR (h.low Rg.RFG_STAT (by decide)), h.quiet⟩

/-- The departure of a locked node: time, the channels, and the rest. -/
theorem depart_leaves (hl : s.ttLive = true) (hk : s.locked = true) (hres : s.mani.resolved = true) (hgath : s.mani.gathering = false)
    (hq : ∀ k, k < 128 → s.Quiet k) (hmiss : ∀ c, vget s.mani.missed c = false) (hclk : s.tt.clk ≤ s.nextDep) (hslew : s.tt.slew = 0)
    (hdep : s.rfx.atDep = []) :
    ∃ x N b sleep, s.now ≤ N ∧ (s.atTime s.nextDep x N).Keeps (fun _ => False) b ∧
      b.Leaves (b.begun sleep s.tt.nextE s.nextDep) (s.depart env) ∧
      ∀ n, ∃ u, s.Meets n N u ∧ (State.departCh (s.nextDep - s.period * 1000) s.nextDep (env.strobeMiss.getLsbD n) (env.skewDp.getLsbD n)
        (env.skewDie.getLsbD n) (vget s.mani.apply n) false n u).Keeps (· = n) b := by
  have hrun : s.phase = .running := by simpa using (Bool.and_eq_true_iff.1 hl).1
  obtain ⟨x, N, hN, ha⟩ := advanceTo_keeps (p := fun _ => True) hrun hslew hq hclk
  have hmissed : (s.advanceTo s.nextDep).mani.missed = s.mani.missed := core_missed (s := s.atTime s.nextDep x N) ha.core
  have happly : (s.advanceTo s.nextDep).mani.apply = s.mani.apply := core_apply (s := s.atTime s.nextDep x N) ha.core
  have hall := departAll_keeps env (s.nextDep - s.period * 1000) s.nextDep ha.quiet
  have hb := (ha.mono fun _ _ => trivial).trans hall
  refine ⟨x, N, (s.advanceTo s.nextDep).departAll env (s.nextDep - s.period * 1000) s.nextDep, (s.advanceTo s.nextDep).asleep, hN, hb, ?_, fun n => ?_⟩
  · rw [depart_eq env hl hk hres hgath fun c => (congrArg (vget · c) hmissed).trans (hmiss c)]
    have hbdep : ((s.advanceTo s.nextDep).departAll env (s.nextDep - s.period * 1000) s.nextDep).rfx.atDep = [] :=
      (core_atDep (s := s.atTime s.nextDep x N) hb.core).trans hdep
    exact leaves_actsAtDep env hb.quiet hbdep _ _ _ _ _
  · obtain ⟨u, hu, hrest⟩ := departAll_chan env (s.nextDep - s.period * 1000) s.nextDep ha.quiet n
    refine ⟨u, meets_of_keeps ((ha.mono fun _ _ => trivial).trans hu), ?_⟩
    rw [State.depChan, happly, hmissed, hmiss n] at hrest
    exact hrest

end Depart

/-! ### The claims about one channel -/

/-- What is claimed of channel `n` at the departure at `te`. -/
def State.ChannelClaims (s t : State) (te : Nat) (n : Fin 16) : Prop :=
  (s.asleep = true → t.chSt n = s.chSt n ∧ (t.ch n).target = (s.ch n).target ∧ (t.ch n).next = (s.ch n).next) ∧
  (s.asleep = false → (s.ch n).next.record = none →
    (∀ w, s.chSt n = 3 → isOutput (s.ch n).cfg.mode = true → vget s.mani.apply n = some w → (s.ch n).hold = false → (s.ch n).trimCmd = 0 →
      (t.ch n).target = (s.ch n).cfg.clamp w ∧ t.chSt n = 3) ∧
    (∀ x, s.chSt n = 3 → isAnaIn (s.ch n).cfg.mode = true → (s.ch n).proc.find? (fun y => y.time < te) = some x →
      (t.ch n).value = x.value ∧ (t.ch n).age = ageOf te x.time) ∧
    (s.chSt n = 2 → (s.ch n).diagNow = 0 → t.chSt n = 3) ∧
    (∀ d, s.chSt n = 1 → s.refuge = false → (s.ch n).done = some d → 2000 ≤ s.now - d → t.chSt n = 2 ∧
      t.isF (Fd.CH_EVT_ARMED n.val) = true)) ∧
  (∀ x, s.asleep = false → s.chSt n = 0 → (s.ch n).next.record = some x → recMode x ≠ 0 → t.chSt n = 1 ∧
    t.getF (Fd.CH_STATE_MODE n.val) = recMode x % 16 ∧ (t.ch n).next = (s.ch n).later)

theorem channel_claims {s t u : State} {n : Fin 16} {tp te N : Nat} (hl : s.chLive n = true) (hf : s.pwr.failing = false)
    (hi : (s.ch n).next.items = []) (hh : (s.ch n).held.items = []) (hN : s.now ≤ N) (hu : s.Meets n N u)
    (hface : t.face n = (State.departCh tp te false false false (vget s.mani.apply n) false n u).face n)
    (hch : t.ch n = (State.departCh tp te false false false (vget s.mani.apply n) false n u).ch n) : s.ChannelClaims t te n := by
  obtain ⟨hlive, hsame, hmet, hpwr, hnow, hasleep, hrefuge, hquiet⟩ := hu
  have hst := chSt_of_face hmet
  rw [← hlive] at hl
  rw [← hpwr] at hf
  rw [← hsame] at hi hh
  rw [State.ChannelClaims, ← hasleep, ← hst, ← hsame, ← hrefuge, chSt_of_face hface, hch]
  refine ⟨fun ha => ?asleep, fun ha hr => ⟨fun w h3 ho hw hhold htrim => ?commit, fun x h3 ho hx => ?latch, fun h2 hdiag => ?armed,
    fun d h1 hrf hdone hlong => ?configured⟩, fun x ha h0 hr hx => ?record⟩
  case asleep =>
    obtain ⟨hkept, hbase⟩ := departCh_asleep (apply := vget s.mani.apply n) (missed := false) te tp hl ha
    obtain ⟨-, hnext, -, -, htarget, -⟩ := base_eq hbase
    exact ⟨chSt_of_face hkept, htarget, hnext⟩
  case commit => exact departCh_commits te tp hl ha hr hi hh h3 hf ho hhold htrim hw
  case latch =>
    have hlatest := departCh_latches (apply := vget s.mani.apply n) (missed := false) te tp hl ha hr hi hh h3 hf ho hx
    exact ⟨congrArg (·.1) hlatest, congrArg (·.2) hlatest⟩
  case armed => exact departCh_armed te tp hl ha hr hi hh h2 hdiag
  case configured =>
    obtain ⟨hst', harmed⟩ := departCh_configured (apply := vget s.mani.apply n) (missed := false) te tp hl ha hr hi hh h1
      hdone (by rw [hnow]; omega) hrf hquiet
    exact ⟨hst', (congrArg (·.2.2) hface).trans harmed⟩
  case record =>
    obtain ⟨hst', hmode, hnext⟩ := departCh_record (apply := vget s.mani.apply n) (missed := false) te tp hl ha h0 hr hi hx
    exact ⟨hst', (congrArg (·.2.1) hface).trans hmode, hnext⟩

/-! ### The obligation -/

/-- Settles O51: `depart_leaves` cuts a departure into the time until it, the channels one by one, and the rest, each of which keeps
the other channels, so that channel `n` ends as its own part of the departure leaves it. -/
theorem departures : Obligations.Departures := by
  unfold Obligations.Departures
  intro s env hl hd hk hres hgath hq hmiss hclk hslew hdep
  obtain ⟨x, N, b, sleep, hN, hb, ht, hchan⟩ := depart_leaves env hl hk hres hgath hq hmiss hclk hslew hdep
  have hbtt : b.tt = (s.atTime s.nextDep x N).tt := core_tt hb.core
  have hclk' : (s.depart env).tt.clk = s.nextDep := by
    rw [ht.tt, begun_clk, hbtt]
    rfl
  have hrst : (s.depart env).rst = s.rst := ht.rst.trans (core_rst (s := s.atTime s.nextDep x N) hb.core)
  have hirq : b.getR Rg.TT_IRQ = s.getR Rg.TT_IRQ := hb.low Rg.TT_IRQ (by decide)
  refine ⟨s.depart env, ok_of_rst hrst hd, ?_, ?_, hclk', ?_, ?_, ?_, ?_, fun h => ht.irqA ((isF_of_getR hirq).trans h),
    fun h => ht.irqB ((isF_of_getR hirq).trans h), fun q hpend => ?period, fun n hlive hpf hitems hheld hstrobe hdp hdie => ?channel⟩
  case period =>
    have hb' : b.tt.pend = some (q, s.tt.nextE) := (congrArg TtblH.pend hbtt).trans hpend
    rw [ht.period, ht.tt]
    exact begun_due sleep hb'
  case channel =>
    obtain ⟨u, hu, hrest⟩ := hchan n
    rw [hstrobe, hdp, hdie] at hrest
    exact channel_claims hlive hpf hitems hheld hN hu ((ht.face n).trans (face_of_keeps hrest rfl)) ((ht.chan n).trans (hrest.chan n rfl))
  · rw [ht.tt, begun_tt]
  · rw [ht.tt, begun_tt]
  · rw [ht.tt, begun_tt]
  · rw [ht.tt, begun_tt]
  · exact ht.resolved.trans rfl
  · intro c
    rw [State.prop, ht.props, (begun_mani sleep).1 c]

end Sys2Proof.Machine
end
